-- ==== Sys2Proof/Word.lean ====
section
/-! DEFINITION. The words the manual counts in (R3, R9, "Registers" of 00_scope): a register is 32 bits, TBASE is 48 bits, a clause
and a Phrasebook entry are 64 bits, and a port is one of P0-P7. -/

namespace Sys2Proof

/-- A register of the fabric, or one word of a table of 32-bit words. -/
abbrev Word := BitVec 32

/-- A byte on SMBus or on the cable. -/
abbrev Byte := BitVec 8

/-- TBASE: the 48-bit count of reference ticks (R72). -/
abbrev Tick := BitVec 48

/-- A Lexicon clause or a Phrasebook entry (R142, R199). -/
abbrev Entry64 := BitVec 64

/-- Ports P0-P7. -/
abbrev Port := Fin 8

/-- Feeds F0-F3. -/
abbrev Feed := Fin 4

/-- Hearth A or Hearth B. -/
inductive Hth where
  | A
  | B
deriving DecidableEq, Repr

/-- The other hearth. -/
def Hth.other : Hth → Hth
  | .A => .B
  | .B => .A

end Sys2Proof
end

