-- ==== Sys2Proof/Syntax.lean ====
section
/-! DEFINITION. The commands that reach the ZX-4808: one constructor per row of spec/opcode_table.json, with the operands the
spec names for the event (a port, a written value, a received frame, a sample). -/

namespace Sys2Proof

/-- Wake sources, in the order and coding of EMB.WAKE_SRC.source (Table 20.5); a CC, VBUS or attach source names its port. -/
inductive Wake where
  | cc (n : Port)
  | vbus (n : Port)
  | wakeN
  | smbus
  | alarm
  | vsys
  | attach (n : Port)
  | req1
  | hearthAccess
  | flue
  | resetN
deriving DecidableEq, Repr

/-- One difference that a sense of the OTP array sees: bit `bit` (0-38) of word `word` reads inverted at that sense, at tight
margin only when `tight` is true (R386). -/
structure OtpFlip where
  word : Nat
  bit : Nat
  tight : Bool
deriving DecidableEq, Repr

/-- Causes of a hearth loss, coded 1-7 as HTH.LAST_TAKEOVER.cause (Table 16.8). -/
inductive LossCause where
  | oneSidedMiss
  | knownAnswer
  | flueSource
  | modelOne
  | modelDistance
  | unresolved
  | host
deriving DecidableEq, Repr

/-- The output on which a hearth loses, as LAST_TAKEOVER codes it, and the value that the hearth drives there on this tick (R347, R349). -/
structure LostOutput where
  output : Fin 11
  value : Word
deriving DecidableEq, Repr

/-- A presentation that the Policy Sequencer commands on a port's CC pins (Table 5.1): Open, Rd, Rp at level 0 default, 1 1.5 A or
2 3.0 A, dual-role toggling with that Rp level, or Ra on one pin and Open on the other. -/
inductive Pres where
  | opened
  | rd
  | rp (level : Fin 3)
  | toggle (level : Fin 3)
  | ra (cc2 : Bool)
deriving DecidableEq, Repr

/-- A PD frame at the receiver (R116): its ordered set (0 SOP, 1 SOP', 2 SOP'', 3 SOP'_Debug, 4 SOP''_Debug), whether its K-codes,
symbols and CRC are good, the message header, the bytes after it (data objects, or extended header and data), and the ticks of its
preamble (R105). -/
structure Frame where
  sop : Fin 5
  good : Bool
  header : BitVec 16
  data : List Byte
  ticks : Nat
deriving DecidableEq, Repr

/-- An SBU2 frame at the receiver (R206, R207): header, length byte, payload and CRC, and the ticks that 16 of its bits have taken. -/
structure SbuFrame where
  header : Byte
  len : Byte
  payload : List Byte
  crc : BitVec 16
  ticks : Nat
deriving DecidableEq, Repr

/-- What the pulses of one word, or of one fuse copy (its bit 0), come to (R397, R399): the pulses given, and the bits that were to be
blown and still read 0 at both margins, or at tight margin only. -/
structure OtpTry where
  pulses : Fin 9
  unblown : BitVec 39
  weak : BitVec 39
deriving DecidableEq, Repr

/-- A VCONN current limit that holds (R103): the port, and the ticks for which it has held. -/
structure OcHold where
  port : Port
  held : Nat
deriving DecidableEq, Repr

/-- A waiting message (R121): the port, and the message's place in its queue, the oldest first. -/
structure QueuePlace where
  port : Port
  place : Nat
deriving DecidableEq, Repr

/-- A hearth taken through start-up step 5 again (R57, R353): whether it passes its self-check, and whether the other hearth passes
where that one is tried. -/
structure HearthCheck where
  hearth : Hth
  pass : Bool
  passOther : Bool
deriving DecidableEq, Repr

/-- What the line shows when a frame is to start (R122): idle for ifg_us, a valid incoming message other than GoodCRC, or anything else. -/
inductive Line where
  | idle
  | message
  | other
deriving DecidableEq, Repr

/-- What a hearth's latch holds at a loop's update instant (R19, R268): nothing, since the evaluation is late; the pair that the
evaluation gives; or a pair that a faulty lane has delivered. -/
inductive Latch where
  | late
  | computed
  | faulty (y pred : BitVec 16)
deriving DecidableEq, Repr

/-- Configuration registers of STG[n] and ILP[n] that R253 checks alike. -/
inductive StgReg where
  | imonCfg
  | pwmCfg
  | spCfg
  | vloopCfg
  | ilpCfg
  | ilimits
deriving DecidableEq, Repr

/-- An occurrence that may trigger a trace capture (R272): an edge of a comparator's latched output, a Flue event of a source at a
level, an ALERT clause acting on a port with its code. -/
inductive TrcCause where
  | comparator (k : Fin 64) (rising : Bool)
  | flue (source : BitVec 8) (level : Fin 4)
  | alert (port : Port) (code : BitVec 8)
deriving DecidableEq, Repr

/-- A strobe of the Trace Unit (R270): an update instant of a port's current or voltage loop, the interval of strobe 3, an epoch tick,
or a message of a port, handed over or received. -/
inductive Strobe where
  | current (n : Port)
  | voltage (n : Port)
  | interval
  | epoch
  | message (n : Port) (received : Bool)
deriving DecidableEq, Repr

/-- How an SMBus transaction ends without its commit point (Table 19.9): a START where an acknowledge was due or in mid-byte, a STOP or START
before the commit point or before the controller's N, nine-clock recovery, or a command code that is not acknowledged. -/
inductive TxnEnd where
  | startMid
  | early
  | nineClock
  | badCode
deriving DecidableEq, Repr


/-- The commands of the block: one constructor per row of spec/opcode_table.json, first the rows
with operands and then those without, each in the table's order. A command stands for its trigger having occurred; its operands carry what the environment supplies. -/
inductive Instr where
  /-- A host write to a register that has no row of its own stores or acts on the value under its access code. (R4) -/
  | registerWrite (addr : Nat) (value : Word)
  /-- One Ember supply source falls while another stays above the Ember threshold; the loss is only recorded in EMB.STATUS. (R44) -/
  | emberSourceLost (src : Fin 3)
  /-- A wake source that fires during state entry is latched, and the device wakes once entry completes. (R52) -/
  | wakeDuringEntry (w : Wake)
  /-- A Banked wake source is taken and the register fabric is back within 40 µs. (R47) -/
  | wakeFromBanked (w : Wake)
  /-- An armed Smoulder wake source fires, the periphery and hearths are re-powered, and start-up enters at step 2. (R47) -/
  | wakeFromSmoulder (w : Wake)
  /-- VBUS, WAKE_N or RESET_N wakes the device from Cold, and it starts as a power-on. (R47) -/
  | wakeFromCold (w : Wake)
  /-- A wake source fires while VSYS is below VSYS_OK; it is latched and start-up waits for VSYS. (R458) -/
  | wakeLatchedNoVsys (w : Wake)
  /-- The CC-change comparator is polled every 100 ms in Smoulder. (R47) -/
  | smoulderCcPoll (changed : BitVec 8)
  /-- In Banked, Tj is sampled every 1 ms and t_ref is recomputed. (R54) -/
  | bankedTjSample (code : BitVec 12)
  /-- The OTP re-sense and compare at Banked exit completes; Fuse Hold is entered if a finalised digest fails. (R66) -/
  | bankedExitResense (flips : List OtpFlip)
  /-- The regulators reach range at start-up step 2, and every OTP word is sensed at both margins. (R55) -/
  | startupRegulatorsInRange (supplies : BitVec 7) (tj : BitVec 8) (flips : List OtpFlip)
  /-- Sensing completes at step 3; trims, key and defaults are delivered and ADDR is sampled. (R55) -/
  | startupSensingComplete (pins : BitVec 3)
  /-- At step 5 the hearth mode is read, the rails are raised, the hearths self-check and the boundary is enabled. (R55) -/
  | startupDigestsGood (passA passB : Bool)
  /-- DEV.CONTROL.soft_reset with the key resets the periphery and hearths, which enter at step 5; the write is refused in Fuse Hold or without the key. (R62) -/
  | softReset (pins : BitVec 3)
  /-- A port VBUS reaches 4.0 V with VSYS low; the Kindling LDO powers Ember and a reduced start-up runs in Solo. (R60) -/
  | kindlingEnable (vbus : BitVec 8)
  /-- The selected source has qualified, and the ticks change over to it at the next epoch tick. (R69) -/
  | refChangeover (khz : Nat)
  /-- A write to TB.CONFIG is checked against the carriers and offsets, then acted on or refused. (R75) -/
  | tbConfigWrite (value : Word)
  /-- Every second in Lit, the coarse counter is calibrated against the reference into TB.COARSE_CAL. (R73) -/
  | coarseCalibration (ticks : Nat)
  /-- A write to STG[n].CARRIER is checked against the N range and f_sw limit, then applied under R78. (R74) -/
  | carrierWrite (n : Port) (value : Word)
  /-- A switching period starts; the captured duty pair is loaded and the effective anchor moves one tick. (R20) -/
  | switchingPeriodStart (n : Port)
  /-- At each epoch tick, each hearth writes its slowest evaluation rate to LEN.CAPACITY. (R85) -/
  | capacityMeasure (nsA nsB : Nat)
  /-- In Split, the published demand records are latched at the epoch tick, and a missing record is reused and reported. (R17) -/
  | epochExchangeLatch (published : BitVec 8)
  /-- A CC level code changes, and the attach candidate and its debounce timer restart. (R93) -/
  | ccLevelChange (n : Port) (cc2 : Bool) (mv : Nat)
  /-- The attach timer expires; the attach is latched, CC SEQ advances and the report reaches the hearths. (R93) -/
  | attachDebounceExpiry (n : Port)
  /-- The detach condition has held for detach_ms; a detach is reported and VCONN is opened. (R94) -/
  | detachDebounceExpiry (n : Port)
  /-- The orientation pin reads Open for open_fast ticks, and the fast indication is sent to the hearths. (R97) -/
  | ccOpenFast (n : Port)
  /-- VBUS is present with no Rp on either pin, and vbus_no_cc is set. (R92) -/
  | vbusNoCc (n : Port)
  /-- The non-orientation pin changes while attached, and other_pin is set. (R99) -/
  | otherPinChange (n : Port) (mv : Nat)
  /-- A hearth presentation or Rp-level command is applied, ordering current and thresholds. (R89) -/
  | presentationCmd (n : Port) (p : Pres)
  /-- The DRP toggle timer switches between Rp and Rd phases. (R90) -/
  | drpTogglePhase (n : Port)
  /-- A write to CC CONFIG or DEBOUNCE is range-checked, then applied or refused. (R96) -/
  | ccConfigWrite (n : Port) (debounce : Bool) (value : Word)
  /-- A VCONN enable command is tested against type, undervoltage and budget, and the switch closes or the enable is refused. (R102) -/
  | vconnEnable (n : Port)
  /-- A VCONN off command opens the port's VCONN switch. (R94) -/
  | vconnDisable (n : Port)
  /-- The VCONN current limit holds for oc_100us, so the switch opens and VCONN_OC is reported. (R103) -/
  | vconnOc (hold : OcHold)
  /-- A VCONN_CFG write is refused when it would raise the VCONN sum above 1,200 mA. (R104) -/
  | vconnCfgWrite (n : Port) (value : Word)
  /-- A sink's orientation-pin Rp level holds for detach_ms; rp_level is updated and rp_change is set. (R107) -/
  | rpLevelDebounced (n : Port)
  /-- A CC pin exceeds 6 V for 100 ns; the pin is isolated and CC_OV is reported. (R108) -/
  | ccOv (n : Port) (cc2 : Bool) (mv : Nat)
  /-- An isolated CC pin has stayed below 5.50 V for 10 ms, and it is reconnected with cc_ov_auto set. (R109) -/
  | ccOvAutoRelease (n : Port) (cc2 : Bool) (mv : Nat)
  /-- A host write of CONTROL.ov_release reconnects isolated CC pins that are below 5.50 V. (R109) -/
  | ovRelease (n : Port)
  /-- An SBU pin exceeds 4 V for 100 ns; its switch opens and SBU_OV is reported. (R110) -/
  | sbuOv (n : Port) (sbu2 : Bool)
  /-- The SBU pin has stayed below 3.60 V for 1 ms, and its switch closes again while Thatin is entered. (R110) -/
  | sbuOvRelease (n : Port) (sbu2 : Bool)
  /-- A received PD frame is checked, stored or discarded, and acknowledged. (R116) -/
  | frameReceived (n : Port) (frame : Frame)
  /-- The GoodCRC for a stored message starts ifg_us after its EOP. (R127) -/
  | goodcrcTransmit (n : Port)
  /-- Policy or the Phrasebook hands a tagged message to the Message Layer for transmission. (R119) -/
  | messageHandover (n : Port) (sop : Fin 3) (ty : BitVec 7) (data : List Byte)
  /-- A waiting message reaches its turn; its tag is checked and it is dropped stale or framed after the idle check. (R120) -/
  | transmitTurn (n : Port) (line : Line)
  /-- Policy withdraws a waiting message whose frame has not begun, freeing its slot. (R121) -/
  | messageWithdraw (which : QueuePlace)
  /-- tReceive expires without GoodCRC; the message is retried or abandoned with retry_exhausted. (R123) -/
  | treceiveExpiry (n : Port)
  /-- The role epoch changes during a GoodCRC wait, and the message is abandoned. (R123) -/
  | epochChangeAbandon (n : Port)
  /-- A Hard Reset is requested; any frame is aborted and the ordered set follows after ifg_us. (R124) -/
  | hardResetRequest (n : Port)
  /-- After two abandoned SOP′ messages, Cable Reset is sent and VCONN is cycled for 15 ms. (R188) -/
  | cableResetRequest (n : Port)
  /-- The 15 ms VCONN off time of a Cable Reset ends and the switch closes under R102. (R188) -/
  | vconnRestoreAfterCableReset (n : Port)
  /-- A Hard Reset ordered set is received; waiting messages are dropped and the reset sequence starts. (R125) -/
  | hardResetReceived (n : Port)
  /-- tSinkTx expires after SinkTxNG is presented, and a source may start its AMS. (R126) -/
  | sinktxWaitExpiry (n : Port)
  /-- No Chunk Request arrives within 27 ms, so the outgoing extended message is abandoned. (R128) -/
  | chunkSenderTimeout (n : Port)
  /-- The next chunk does not arrive within 27 ms, so the partial message is discarded. (R129) -/
  | chunkReceiverTimeout (n : Port)
  /-- MSG[n].CONTROL.flush with a current epoch drops every waiting message whose frame has not begun. (R136) -/
  | msgFlush (n : Port) (epoch : BitVec 8)
  /-- A write to MSG CONFIG or POOL_CFG is range-checked, then applied or refused. (R135) -/
  | msgConfigWrite (n : Port) (pool : Bool) (value : Word)
  /-- The Policy Sequencer takes the next pending input in timestamp and port order and decides. (R139) -/
  | policyInputTaken (h : Hth)
  /-- tTypeCSendSourceCap expires and a source sends Source_Capabilities. (R138) -/
  | sourceCapTimer (n : Port)
  /-- tSenderResponse expires and point 13 is reached. (R144) -/
  | senderResponseTimeout (n : Port)
  /-- tNoResponse expires; point 13 chooses Hard Reset, Error Recovery or Type-C operation. (R144) -/
  | noResponseTimeout (n : Port)
  /-- tSinkWaitCap expires without Source_Capabilities and point 13 is taken. (R186) -/
  | sinkWaitCapTimeout (n : Port)
  /-- An EPR keep-alive timer expires; a sink sends EPR_KeepAlive or a source reaches point 13. (R138) -/
  | eprKeepaliveTimer (n : Port)
  /-- The 8 s PPS or AVS re-request timer fires and the sink sends a repeat Request. (R213) -/
  | sinkRerequestTimer (n : Port)
  /-- tPPSTimeout expires without a re-request on a PPS source contract. (R138) -/
  | ppsTimeout (n : Port)
  /-- A changed P_c is published, and an urgent or routine draft is made for the source port. (R159) -/
  | budgetChange (n : Port)
  /-- min_gap_ms has passed and a routine draft is handed to the Message Layer. (R159) -/
  | draftGapExpiry (n : Port)
  /-- A Request is validated against the delivered offer and the budget, then rejected, waited or decided at point 5. (R160) -/
  | requestReceived (n : Port)
  /-- As sink, received capabilities are matched and the port sends a Request chosen at point 7. (R161) -/
  | sourceCapsReceived (n : Port)
  /-- EPR_Mode Enter is checked and then refused or decided at point 11. (R160) -/
  | eprEnterReceived (n : Port)
  /-- A received PR_Swap is pre-answered or decided at point 8. (R177) -/
  | prSwapReceived (n : Port)
  /-- A received DR_Swap is answered by Hard Reset in a mode, or decided at point 9. (R177) -/
  | drSwapReceived (n : Port)
  /-- A received VCONN_Swap is pre-answered or decided at point 10. (R177) -/
  | vconnSwapReceived (n : Port)
  /-- A message that no block takes reaches point 15 and gets Not_Supported or Reject. (R144) -/
  | unsupportedReceived (n : Port)
  /-- POL command 1 drafts and sends Source_Capabilities, bypassing min_gap_ms. (R164) -/
  | cmdSendCaps (n : Port) (epoch : BitVec 8)
  /-- POL command 2 initiates PR_Swap. (R164) -/
  | cmdPrSwap (n : Port) (epoch : BitVec 8)
  /-- POL command 3 initiates DR_Swap. (R164) -/
  | cmdDrSwap (n : Port) (epoch : BitVec 8)
  /-- POL command 4 initiates VCONN_Swap. (R164) -/
  | cmdVconnSwap (n : Port) (epoch : BitVec 8)
  /-- POL command 5 sends Get_Sink_Cap. (R164) -/
  | cmdGetSinkCap (n : Port) (epoch : BitVec 8)
  /-- POL command 6 sends Get_Source_Cap. (R164) -/
  | cmdGetSourceCap (n : Port) (epoch : BitVec 8)
  /-- POL command 7 starts EPR entry as sink. (R164) -/
  | cmdEprEntry (n : Port) (epoch : BitVec 8)
  /-- POL command 8 starts EPR exit. (R164) -/
  | cmdEprExit (n : Port) (epoch : BitVec 8)
  /-- POL command 9 sends Soft_Reset on SOP. (R164) -/
  | cmdSoftReset (n : Port) (epoch : BitVec 8)
  /-- POL command 10 sends Hard Reset. (R164) -/
  | cmdHardReset (n : Port) (epoch : BitVec 8)
  /-- POL command 11 enters Error Recovery. (R164) -/
  | cmdErrorRecovery (n : Port) (epoch : BitVec 8)
  /-- POL command 12 disables the port, presenting Open and opening its path. (R164) -/
  | cmdDisablePort (n : Port) (epoch : BitVec 8)
  /-- POL command 13 enables a disabled port so that it reaches point 1. (R164) -/
  | cmdEnablePort (n : Port) (epoch : BitVec 8)
  /-- POL command 14 presents Ra on the chosen pin of a disabled port. (R164) -/
  | cmdProductionTest (n : Port) (epoch : BitVec 8) (arg : BitVec 16)
  /-- A held POL command is taken when the AMS ends and is re-checked against SEQ. (R164) -/
  | heldCommandTaken (n : Port)
  /-- A CAPS_CFG write with min_gap_ms out of range is refused. (R165) -/
  | capsCfgWrite (n : Port) (value : Word)
  /-- A clause written through the LEX window while loading is staged and WIN_ADDR advances. (R151) -/
  | lexWindowWrite (clause : Entry64)
  /-- tSrcTransition expires after Accept, and the reference starts ramping to the new target. (R169) -/
  | transitionHoldExpiry (n : Port)
  /-- VBUS has stayed in the settling band for the window, and PS_RDY is handed over. (R172) -/
  | transitionSettled (n : Port)
  /-- tPSTransition expires unsettled; the reference is held, RAMP_STALL is reported and Hard Reset is sent. (R172) -/
  | transitionTimeout (n : Port)
  /-- A descent reaches 5.0 V; the stage stops, the path opens and DSCHG switches on. (R171) -/
  | descentReaches5v (n : Port)
  /-- VBUS reaches vSafe0V, DSCHG switches off and the waiting sequence proceeds. (R171) -/
  | vbusReachesVsafe0v (n : Port)
  /-- cc_open_fast or a collapse aborts a transition or descent within one loop sample. (R173) -/
  | transitionAbort (n : Port)
  /-- No detach follows an abort within detach_ms + 1 ms, so the port enters Error Recovery. (R174) -/
  | abortNoDetach (n : Port)
  /-- The partner's PS_RDY misses tPSSourceOn or tPSSourceOff, so the swap is abandoned into Error Recovery. (R179) -/
  | swapTimeout (n : Port)
  /-- As a sink in PR_Swap, after the partner's PS_RDY and vSafe0V the port becomes source and raises VBUS. (R178) -/
  | sinkSwapToSource (n : Port)
  /-- tSwapSourceStart after completion, the new source reaches point 3 and sends capabilities. (R178) -/
  | swapSourceStart (n : Port)
  /-- A sink port arms or disarms for FR_Swap as its conditions start or end. (R180) -/
  | frsArm (n : Port)
  /-- An armed port sees the orientation pin below 0.52 V for 40 µs; it stops importing and presets forward. (R181) -/
  | frsSignal (n : Port)
  /-- VBUS falls below 5.5 V after the FR_Swap signal; forward regulation starts and the power role is settled. (R181) -/
  | frsVbusLow (n : Port)
  /-- Within tFRSwapInit the port sends FR_Swap without waiting for SinkTxOk. (R181) -/
  | frsInitTimer (n : Port)
  /-- The port giving up VCONN sees tVCONNSourceTimeout expire and sends Hard Reset. (R182) -/
  | vconnSwapTimeout (n : Port)
  /-- The new VCONN source reaches 90% of VCONN_IN and sends PS_RDY. (R182) -/
  | vconnSwapReady (n : Port)
  /-- tPSHardReset expires and a source starts its Hard Reset descent. (R185) -/
  | hardResetSourceDescent (n : Port)
  /-- tSrcRecover expires; the path closes and the stage brings VBUS up from zero duty. (R185) -/
  | srcRecoverExpiry (n : Port)
  /-- After a Hard Reset, VBUS settles within vSafe5V and point 3 is reached. (R185) -/
  | hardResetVsafe5v (n : Port)
  /-- The sink's vbus_mask clears when VBUS returns to 4.0 V or after tNoResponse. (R186) -/
  | sinkMaskClear (n : Port)
  /-- The port enters Error Recovery: it presents Open, opens its path, stops the stage and opens VCONN. (R189) -/
  | errorRecoveryEntry (n : Port)
  /-- tErrorRecovery ends and, once VBUS is safe, point 1 is reached. (R189) -/
  | errorRecoveryExpiry (n : Port)
  /-- A structured VDM request is answered from the Phrasebook, NAK'd or stored for the host. (R195) -/
  | vdmReceived (n : Port)
  /-- An initiated VDM's response wait of 30 or 50 ms expires. (R195) -/
  | vdmResponseTimeout (n : Port)
  /-- 50 ms after BUSY is received, the request is retried once. (R194) -/
  | vdmBusyRetry (n : Port)
  /-- A discovery response advances Discover Identity, SVIDs and Modes, or stops discovery on a NAK. (R197) -/
  | discoveryStep (n : Port)
  /-- Discover Identity on SOP′ is sent and repeated every 45 ms up to twice; the response sets CABLE_A and CABLE_EPR. (R198) -/
  | cableDiscoverIdentity (n : Port)
  /-- The host has not answered a host-SVID request within 10 ms, so the device sends NAK. (R202) -/
  | hostVdmResponseTimeout (n : Port)
  /-- VDM command 1 runs discovery. (R197) -/
  | vdmCmdDiscovery (n : Port) (epoch : BitVec 8)
  /-- VDM command 2 enters a host mode as DFP. (R202) -/
  | vdmCmdEnterHostMode (n : Port) (epoch : BitVec 8) (arg : BitVec 16)
  /-- VDM command 3 exits a host mode as DFP. (R202) -/
  | vdmCmdExitHostMode (n : Port) (epoch : BitVec 8) (arg : BitVec 16)
  /-- VDM command 4 sends the TX header and VDOs, unless refused. (R202) -/
  | vdmCmdSendTx (n : Port) (epoch : BitVec 8) (arg : BitVec 16)
  /-- VDM command 5 sends Enter Mode for Thatin. (R204) -/
  | vdmCmdEnterThatin (n : Port) (epoch : BitVec 8)
  /-- VDM command 6 sends Exit Mode for Thatin. (R214) -/
  | vdmCmdExitThatin (n : Port) (epoch : BitVec 8)
  /-- VDM command 7 checks the TRK_REQ terms and arms a tracking proposal. (R209) -/
  | vdmCmdProposeTracking (n : Port) (epoch : BitVec 8)
  /-- VDM command 8 ends tracking. (R212) -/
  | vdmCmdEndTracking (n : Port) (epoch : BitVec 8)
  /-- A Phrasebook entry written through the window while loading is staged. (R201) -/
  | phbWindowWrite (entry : Entry64)
  /-- Every poll_ms the master sends one SBU2 frame. (R206) -/
  | thatinPoll (n : Port)
  /-- An SBU2 Manchester frame is received, checked and acted on; the slave replies. (R207) -/
  | sbu2FrameReceived (n : Port) (f : SbuFrame)
  /-- Three poll periods pass without a valid partner frame; the link is lost and tracking collapses. (R208) -/
  | thatinLinkLost (n : Port)
  /-- A collapse trigger ends tracking; TRK_END is sent and the reference returns to V_req. (R212) -/
  | trackingCollapse (n : Port) (reason : Fin 7)
  /-- 50 ms after a collapse, the sink's vth_eff returns to its R162 value. (R211) -/
  | vthRestoreAfterCollapse (n : Port)
  /-- Thatin exits; SBU switches open, SBU1 stops and tracking collapses. (R214) -/
  | thatinExit (n : Port)
  /-- A Security_Request is answered under Table 10.2, or a challenge is queued for signing. (R224) -/
  | securityRequestReceived (n : Port)
  /-- The signing engine completes a challenge and hands CHALLENGE_AUTH over. (R229) -/
  | challengeSigned (h : Hth)
  /-- Certificate bytes written through the IDN window are staged. (R230) -/
  | idnWindowWrite (word : Word)
  /-- A run command releases Pn_SEN and the stage enters Enabling, or is stored or refused. (R233) -/
  | stageRunCmd (n : Port)
  /-- Pn_SEN has been high for 2 µs and the stage enters Running with the loops preset. (R233) -/
  | stageSenHigh (n : Port)
  /-- Pn_SEN is still low 100 µs after release; sen_timeout is set and STAGE_FAULT reported. (R233) -/
  | stageSenTimeout (n : Port)
  /-- A stop command puts both legs at mid-level and drives Pn_SEN low at the next period start. (R233) -/
  | stageStopCmd (n : Port)
  /-- Pn_SEN stays low for 200 ns while Running; the timed periphery stops the stage and reports STAGE_FAULT. (R234) -/
  | stageFault (n : Port)
  /-- At the sample instant the sense ADC converts VBUS and IMON and the sample reaches the hearths. (R235) -/
  | sampleInstant (n : Port) (vbus imon bus : BitVec 12)
  /-- A free MAC lane evaluates a loop's compensator, feed-forward, clamp and residual. (R240) -/
  | loopEvaluation (n : Port) (volt : Bool)
  /-- At the update instant the boundary captures the loop result, votes in Mirror, or keeps the old output on a miss. (R19) -/
  | updateInstant (n : Port) (volt : Bool) (a b : Latch)
  /-- The captured output is returned to every hearth's loop history two ticks after the update instant. (R246) -/
  | historyWriteback (n : Port) (volt : Bool)
  /-- A bank selection change applies at the next sample and sets bank_swap. (R245) -/
  | bankSwap (n : Port) (volt : Bool)
  /-- A coefficient bank write goes to Ember SRAM unless the bank is in use or its format is invalid. (R250) -/
  | bankWrite (n : Port) (volt bank1 : Bool) (k : Fin 4) (value : Word)
  /-- A TIMING write is checked against t_adc + 2 + w_min and applied or refused. (R237) -/
  | timingWrite (n : Port) (value : Word)
  /-- A write to an STG or ILP configuration register is range-checked and applied from the next sample. (R253) -/
  | stgConfigWrite (n : Port) (reg : StgReg) (value : Word)
  /-- An SP_MANUAL write with a current epoch stores the manual set-point, or is refused. (R260) -/
  | spManualWrite (n : Port) (value : Word)
  /-- A word written through the OPC window stores an OPCT entry or is refused, and WIN_ADDR advances. (R265) -/
  | opcWindowWrite (word : Word)
  /-- A WIN_SHAPE or WIN_AXES write is checked against the table size and shift range. (R263) -/
  | opcWindowCfgWrite (n : Port) (axes : Bool) (value : Word)
  /-- A MODEL write that zeroes thr or cnt ends a running excursion on that tick. (R269) -/
  | opcModelWrite (n : Port) (volt : Bool) (value : Word)
  /-- An enabled comparator, Flue or ALERT trigger reaches the hearth while the capture is armed. (R272) -/
  | traceTrigger (c : TrcCause)
  /-- A selected strobe takes one trace sample of nodes A and B. (R270) -/
  | traceStrobe (k : Strobe)
  /-- A trace window read returns a sample word or is refused. (R274) -/
  | trcWindowRead (dbg : Option Hth)
  /-- A TRC configuration write is refused while armed or when out of range. (R277) -/
  | trcConfigWrite (k : Fin 6) (value : Word)
  /-- Each epoch the Draught Scheduler runs its algorithm over the latched inputs and publishes at the next tick. (R297) -/
  | epochAllocation (hi0 per0 hi1 per1 : Nat)
  /-- An attach that would close a path joins the admission queue. (R287) -/
  | admissionRequest (n : Port)
  /-- A pulse envelope channel shows no edge for 64 µs, so it reads 0 and env_lost is set. (R291) -/
  | envLost (c : Fin 4)
  /-- A path close command with an admission begins Inserting, or is stored. (R310) -/
  | closeCmd (n : Port)
  /-- A hearth open command takes the path to Open without an off-time. (R309) -/
  | openCmd (n : Port)
  /-- The insertion windows hold for ins_ms, and the path enters Inrush. (R310) -/
  | insertionComplete (n : Port)
  /-- The pair has stayed equalised for 10 µs, so the path is Closed and a stored run command applies. (R311) -/
  | inrushEnd (n : Port)
  /-- t_inrush expires in Inrush and the path opens under protection. (R311) -/
  | inrushTimeout (n : Port)
  /-- |I| reaches ilim while Closed, so the path enters Limiting and the limit timer runs. (R313) -/
  | limitEntry (n : Port) (inward : Bool)
  /-- |I| has stayed below 0.95 × ilim for 10 µs, and the path returns to Closed. (R313) -/
  | limitExit (n : Port)
  /-- The limit timer reaches t_lim and the path opens under protection. (R313) -/
  | limitTimeout (n : Port)
  /-- The fast-trip comparator fires; the gates fall within 250 ns, the stage stops and PATH_TRIP is reported. (R314) -/
  | fastTrip (n : Port)
  /-- VBUS stays above v_ovp for 1 µs and the path opens under protection. (R315) -/
  | pathOvp (n : Port)
  /-- The retry off-time ends and insertion restarts if a close command stands. (R317) -/
  | offtimeExpiry (n : Port)
  /-- The path has stayed Closed for 1 s, so retries_left returns to count. (R317) -/
  | retriesRestore (n : Port)
  /-- FND.CONTROL.rearm with a current epoch leaves Lockout. (R318) -/
  | fndRearm (n : Port) (epoch : BitVec 8)
  /-- Both FET temperatures fall below t_trip − t_hyst and Thermal hold ends. (R321) -/
  | thermalHoldEnd (n : Port)
  /-- P_lin or the episode energy exceeds SOA_CFG, so the path opens under protection. (R322) -/
  | soaExceeded (n : Port)
  /-- A fitted thermistor reads out of range; ntc_fault is set and its weight is taken as 0. (R321) -/
  | ntcFault (k : Fin 4)
  /-- A faulted thermistor has read in range for 1 s and its weight returns. (R321) -/
  | ntcRecover (k : Fin 4)
  /-- DSCHG is requested and switched on once both gates are off. (R323) -/
  | dschgRequest (n : Port)
  /-- VBUS has not reached 0.8 V within 650 ms of DSCHG; DISCHARGE_SLOW is reported. (R323) -/
  | dischargeSlow (n : Port)
  /-- DSCHG is switched off 1 s after a slow discharge, whatever VBUS reads. (R323) -/
  | dschgForcedOff (n : Port)
  /-- A feed's window has held for qual × 10 ms, so it is qualified and may trigger a selection. (R325) -/
  | feedQualified (f : Feed)
  /-- A qualified feed leaves its window for fail_us, so it is lost and FEED_FAIL is reported. (R325) -/
  | feedLost (f : Feed)
  /-- FED.CONTROL.req 1–4 requests a planned switch to a qualified feed, or is refused. (R327) -/
  | fedReqSelect (f : Feed)
  /-- A window violation passes its filter, setting live and the latch. (R338) -/
  | comparatorViolation (k : Fin 64) (upper : Bool)
  /-- At a period boundary with no violation, the latched output clears. (R339) -/
  | comparatorLatchClear (k : Fin 64)
  /-- A CMP CFG write is refused when lo exceeds hi or when it changes a Fender-owned field. (R336) -/
  | cmpCfgWrite (k : Fin 64) (value : Word)
  /-- A CMP FORCE bit sets the latch with SIDE = 1 and reports CMP_WINDOW when enabled. (R341) -/
  | cmpForce (page : Fin 2) (value : Word)
  /-- When c_ft or v_ovp changes, Fender loads the owned comparator thresholds. (R337) -/
  | fenderThresholdLoad (n : Port)
  /-- An HTH.MODE write with the key requests a mode change, which is accepted or refused. (R345) -/
  | hthModeWrite (value : Word)
  /-- Once per epoch in idle lane time, each lane runs its known-answer evaluation, or the check is skipped. (R350) -/
  | knownAnswerCheck (h : Hth) (idle : Bool) (good : Bool)
  /-- A hearth is fenced: its outputs never apply, and in Split its ports take the port safe state. (R352) -/
  | hearthFence (h : Hth) (cause : LossCause) (output : LostOutput) (port : Port)
  /-- HTH command 1 starts re-admission of the Fenced hearth. (R354) -/
  | hthCmdReadmit (epoch : BitVec 8)
  /-- HTH command 2 exchanges Active and Shadow at the next epoch tick. (R360) -/
  | hthCmdExchange (epoch : BitVec 8)
  /-- HTH command 3 powers off the Fenced hearth. (R352) -/
  | hthCmdPowerOff (epoch : BitVec 8)
  /-- HTH command 4 with the key fences the named hearth, or is refused. (R352) -/
  | hthCmdFence (epoch : BitVec 8) (arg : BitVec 16)
  /-- HTH reset_a or reset_b with the key resets one hearth through steps 5 and 6. (R353) -/
  | hearthReset (epoch : BitVec 8) (check : HearthCheck)
  /-- The copying hearth completes step 6 and the bulk copy starts. (R355) -/
  | copyBringupDone (pass : Bool)
  /-- The source hearth loses during a copy; the copy is abandoned. (R357) -/
  | copySourceLost (cause : LossCause)
  /-- A VIEW_SEL write selects the hearth-held page to view, or is refused. (R358) -/
  | dbgViewSelWrite (h : Hth) (value : Word)
  /-- A rail pair changes from idle to asserted; Flue opens or merges a record or logs a Level 0 report. (R361) -/
  | flueReport (source unit detail : BitVec 8)
  /-- A rail pair reads equal on two consecutive ticks and REPORT_PATH is taken. (R361) -/
  | reportPathBroken (source unit : BitVec 8)
  /-- A record's grace time ends; with live = 1 it reaches Level 2 and applies its reaction. (R367) -/
  | graceExpiry (group : Fin 13) (unit : BitVec 8)
  /-- A record's persist time ends; with live = 1 the reaction beyond Level 2, a fence, applies. (R367) -/
  | persistExpiry (group : Fin 13) (unit : BitVec 8)
  /-- The device enters the Level 3 safe state; outputs take the Level 3 column and stages stop. (R370) -/
  | level3Entry (source unit : BitVec 8)
  /-- A record's live flag has stayed 0 for quiet_s; the record closes automatically and its recovery counter advances. (R376) -/
  | quietExpiry (group : Fin 13) (unit : BitVec 8)
  /-- FLU command 1 closes a named record that is not live, or is refused. (R375) -/
  | fluCloseRecord (group : Fin 16) (unit : BitVec 8)
  /-- FLU command 2 zeroes the recovery counters of the group's sources. (R376) -/
  | fluZeroRecovery (group : Fin 16)
  /-- A FLU.INJECT bit drives a source's report or breaks its pair, subject to key and fence checks. (R362) -/
  | fluInject (value : Word)
  /-- A FORCE bit asserts the source's rail pair for one tick and sets its EVENT bit. (R362) -/
  | forceWrite (page : BitVec 8) (value : Word)
  /-- OTP command 1 senses one word into RDATA and RECC at the chosen margin. (R395) -/
  | otpRead (word : BitVec 10) (margin : BitVec 2) (flips : List OtpFlip)
  /-- OTP command 2 programs a blank word with verify pulses, redirecting to a spare if needed. (R397) -/
  | otpProgram (word : BitVec 10)
  /-- OTP command 3 checks a region, programs its digest seal and blows fin. (R398) -/
  | otpFinalise (region : BitVec 3) (flips : List OtpFlip)
  /-- OTP command 4 blows a region's write-lock. (R399) -/
  | otpLockWrite (region : BitVec 3)
  /-- OTP command 5 blows a region's read-lock. (R399) -/
  | otpLockRead (region : BitVec 3)
  /-- OTP command 6 re-pulses a word's weak bits towards its target. (R400) -/
  | otpReblow (word : BitVec 10)
  /-- A running OTP command completes; busy clears and RESULT, EVENT and SEQ update. (R395) -/
  | otpCommandComplete (tries : List OtpTry)
  /-- A pulse condition fails before a pulse, and the command ends with outcome 5. (R396) -/
  | otpCommandAbort (reason : Fin 3) (tries : List OtpTry)
  /-- A Write 32 transaction writes one register of the selected page at its commit point. (R410) -/
  | regWrite32 (reg : Fin 64) (value : Word) (tail : List Byte)
  /-- A Read 32 transaction samples one register and returns its four bytes. (R411) -/
  | regRead32 (reg : Fin 64) (take : Nat)
  /-- A Block Write writes consecutive registers on one tick, after the count check. (R406) -/
  | blockWrite (reg : Fin 64) (count : BitVec 8) (stream : List Byte)
  /-- A Block Read samples and returns rd_len bytes of consecutive registers. (R406) -/
  | blockRead (reg : Fin 64) (take : Nat)
  /-- A PAGE_SELECT write selects the page for later accesses. (R407) -/
  | pageSelect (page byte1 : BitVec 8) (tail : List Byte)
  /-- A Read Word of PAGE_SELECT returns the selected page. (R404) -/
  | pageSelectRead (take : Nat)
  /-- A DIALECT write sets the major in force to the highest supported at or below the request. (R427) -/
  | dialectWrite (major : BitVec 8) (tail : List Byte)
  /-- A DIALECT Read Word returns the major and minor in force. (R404) -/
  | dialectRead (take : Nat)
  /-- A Block Read of ALERT_SOURCE returns the four summary registers and releases SMBALERT_N in mode 0. (R416) -/
  | alertSourceRead (take : Nat)
  /-- A TABLE_PORT Block Write passes whole units to the selected page's window. (R408) -/
  | tablePortWrite (count : BitVec 8) (stream : List Byte)
  /-- A TABLE_PORT Block Read returns whole units from the selected page's window. (R408) -/
  | tablePortRead (take : Nat)
  /-- A read with R/W = 1 in its first address byte returns 0xFF and sets protocol. (R405) -/
  | readWithoutCommand (len : Nat)
  /-- A Receive Byte at 0x0C while alerting returns the own address with arbitration. (R416) -/
  | alertResponse (rival : Option Byte) (take : Nat)
  /-- An enabled EVENT bit is set and SMBALERT_N is asserted as the mode gives. (R415) -/
  | alertCause (page : BitVec 8) (bit : Fin 32)
  /-- An SMB.CONFIG write is range-checked and applies from the next START. (R421) -/
  | smbConfigWrite (value : Word)
  /-- A START or STOP in mid-byte or before the commit point abandons the transaction. (R419) -/
  | transactionAbandoned (how : TxnEnd) (code : Option Byte) (bytes : Nat)
  /-- SCL is held low for more than 25 ms; the target releases the bus and abandons the transaction. (R417) -/
  | sclTimeout (code : Option Byte) (bytes : Nat)
  /-- SDA is held low for more than 35 ms; the target releases it and resets its state machine. (R418) -/
  | sdaStuck (self : Bool) (code : Option Byte) (bytes : Nat)
  /-- An address match in Smoulder with VSYS_OK is acknowledged, SCL is stretched and the device wakes. (R413) -/
  | addressMatchWake (addr : BitVec 7)
  /-- A command code for a hearth-held page in Banked ends Banked while SCL is stretched. (R414) -/
  | bankedHearthAccess (code : BitVec 8)
  /-- A read of MSG POOL_STATUS returns low_water and then clears it. (R4) -/
  | lowWaterRead (n : Port)
  /-- A W1C write clears EVENT bits and re-evaluates the alert summary. (R431) -/
  | eventW1cWrite (page : BitVec 8) (value : Word)
  /-- Enabling a bit already set in EVENT is an alert cause on its commit tick. (R431) -/
  | eventEnWrite (page : BitVec 8) (value : Word)
  /-- The port's transmitter finishes a frame or ordered set; tReceive or the chunk wait starts, a sent Hard Reset begins its sequence, and a sent GoodCRC acknowledges the stored message. (R123) -/
  | eopSent (n : Port)
  /-- Pn_VBUS crosses 4.0 V while Rp is sensed; vbus_present changes and a held type-6 attach debounce is released. (R92) -/
  | vbusPresentChange (n : Port) (present : Bool)
  /-- A housekeeping ADC slot of p ticks ends; one channel's code is updated and ADC.EVENT.rail is set if a slow channel converts at a rail. (R435) -/
  | housekeepingSlot (code : BitVec 12)
  /-- A comparator input comes back inside its window by the hysteresis, so its live bit clears and its latch may clear at the next period boundary. (R335) -/
  | comparatorViolationEnd (k : Fin 64)
  /-- The Ember supply falls below 1.50 V; everything stops and the next rise is a power-on. (R45) -/
  | emberSupplyLost
  /-- The Ember supply rises through 1.60 V and the whole device enters start-up at step 1. (R62) -/
  | powerOnReset
  /-- VSYS falls below 2.70 V outside Kindling; paths, feeds and stages stop, VSYS_LOST is logged and Smoulder is entered. (R46) -/
  | vsysLoss
  /-- VDDIO falls below its level in Lit and Flue takes VDDIO_UV with the Level 3 reaction. (R45) -/
  | vddioUndervoltage
  /-- VDRV falls below its level in Lit outside Kindling and Flue takes VDRV_UV with the Level 3 reaction. (R45) -/
  | vdrvUndervoltage
  /-- PSTATE_CMD.req = 1 returns the device from Banked to Lit, or is a no-op in Lit. (R48) -/
  | reqLit
  /-- PSTATE_CMD.req = 2 requests Banked; it is accepted or refused with a Table 3.4 code. (R48) -/
  | reqBanked
  /-- PSTATE_CMD.req = 3 with the key requests Smoulder; it is accepted or refused. (R48) -/
  | reqSmoulder
  /-- PSTATE_CMD.req = 4 with the key requests Cold; it is accepted or refused. (R48) -/
  | reqCold
  /-- Entry into Banked, Smoulder or Cold completes, feeds are handled and outputs take their Table 2.7 states. (R51) -/
  | stateEntryComplete
  /-- The coarse counter reaches ALARM in Smoulder and wakes the device when the alarm is enabled. (R433) -/
  | coarseAlarm
  /-- In Banked, Ember refreshes each powered hearth's eDRAM every t_ref. (R54) -/
  | edramRefresh
  /-- Delivery completes at step 4, and the digest of every finalised region is checked. (R390) -/
  | startupDeliveryComplete
  /-- At step 6 the seeds are loaded, the sticky registers are presented and the SMBus stretch ends. (R55) -/
  | startupHearthsReady
  /-- At step 7 ports and feeds are enabled as OTP says, and the dead-battery clamp is handed over. (R55) -/
  | startupTablesLoaded
  /-- At step 8 ALIVE starts toggling and DEV.EVENT.booted is set. (R55) -/
  | startupPortsEnabled
  /-- RESET_N is held low for at least 1 µs; the periphery and hearths are reset and a running entry is abandoned. (R62) -/
  | resetNAsserted
  /-- The rising edge of RESET_N releases the reset, and start-up enters at step 2. (R62) -/
  | resetNReleased
  /-- Once the seed is loaded and VBUS is at vSafe5V, the Kindling port path closes as sink and the stage ramps the bus in reverse. (R59) -/
  | kindlePathClose
  /-- VSYS reaches 2.85 V during Kindling; Ember moves to VSYS, the LDO turns off and steps 7 and 8 complete. (R60) -/
  | kindleHandover
  /-- VSYS has not reached 2.85 V within 5 s of the path closing; the stage stops and KINDLE_STALL is logged. (R61) -/
  | kindleStall
  /-- Pn_VBUS falls below 3.6 V during Kindling, and Kindling stops. (R45) -/
  | kindlingStop
  /-- The selected reference is lost; the internal oscillator takes over and REFCLK_LOST is reported. (R70) -/
  | refLost
  /-- A read of TB.TBASE_LO returns TBASE[31:0] and latches TBASE[47:32] into TBASE_HI. (R72) -/
  | tbaseLoRead
  /-- At an epoch tick after a port joins or leaves an equal-N group, the auto phases are recomputed. (R77) -/
  | autoPhaseRecompute
  /-- A rising SYNC_IN edge is timestamped and judged; lock is declared or lost and the anchor is set. (R79) -/
  | syncInEdge
  /-- An expected SYNC_IN edge does not arrive and counts as a frame that is not good. (R79) -/
  | syncFrameMissing
  /-- VCONN_IN falls below 4.40 V; every switched-on VCONN switch opens and VCONN_UV is reported. (R103) -/
  | vconnUv
  /-- The buffer pool is allocated over pending requests on a tick, in priority order. (R132) -/
  | poolSlotGrant
  /-- LEX.CONTROL.load_begin with the key enters loading. (R151) -/
  | lexLoadBegin
  /-- A window read returns the clause at WIN_ADDR and advances it. (R151) -/
  | lexWindowRead
  /-- LEX.CONTROL.commit starts the checks of a staged image. (R152) -/
  | lexCommit
  /-- The image checks finish; the image is activated or refused with a fail_reason. (R152) -/
  | lexCheckComplete
  /-- LEX.CONTROL.abort abandons the load and returns the Lexicon to the seed. (R152) -/
  | lexAbort
  /-- LEX.CONTROL.revert_seed with the key returns the Lexicon to the OTP seed. (R155) -/
  | lexRevertSeed
  /-- PHB.CONTROL.load_begin with the key enters loading; SVDM requests are then answered BUSY. (R201) -/
  | phbLoadBegin
  /-- PHB.CONTROL.commit checks the image under R200 and activates or refuses it. (R201) -/
  | phbCommit
  /-- PHB.CONTROL.abort abandons the load. (R201) -/
  | phbAbort
  /-- PHB.CONTROL.revert_seed with the key returns the Phrasebook to the seed. (R201) -/
  | phbRevertSeed
  /-- The slot-0 chain digest computation completes and digest_busy clears. (R227) -/
  | digestComplete
  /-- IDN.CONTROL.load_begin with the key enters certificate loading. (R230) -/
  | idnLoadBegin
  /-- IDN.CONTROL.commit checks lengths and DER headers, then activates the slots or refuses. (R230) -/
  | idnCommit
  /-- IDN.CONTROL.abort abandons the load and leaves both slots empty. (R230) -/
  | idnAbort
  /-- At each epoch tick, each hearth forms its demand and checks it against capacity. (R252) -/
  | feasibilityCheck
  /-- An OPC window read returns the entry at WIN_ADDR and advances it. (R265) -/
  | opcWindowRead
  /-- OPC.CONTROL.set_valid with the key sets valid and advances SEQ. (R265) -/
  | opcSetValid
  /-- OPC.CONTROL.clear_valid clears valid. (R265) -/
  | opcClearValid
  /-- OPC.CONTROL.clear_table with the key clears valid and starts zeroing the table. (R265) -/
  | opcClearTable
  /-- Zeroing of the OPCT completes and STATUS.clearing returns to 0. (R265) -/
  | opcClearComplete
  /-- TRC.CONTROL.arm discards the buffer and starts an armed capture. (R272) -/
  | trcArm
  /-- TRC.CONTROL.stop ends an armed or triggered capture as done. (R272) -/
  | trcStop
  /-- TRC.CONTROL.force_trigger triggers an armed capture. (R272) -/
  | trcForceTrigger
  /-- RUN.CONTROL.squash makes a squash with cause 4. (R295) -/
  | runSquashCmd
  /-- An unplanned feed switch report arrives; predictions are squashed and source ports are clamped within 2 µs. (R300) -/
  | emergencyShed
  /-- No feed and no import for nofeed × 10 ms sends every source port to Error Recovery. (R301) -/
  | nofeedRecovery
  /-- At each epoch tick the FET Foster model updates T_S and T_B. (R319) -/
  | thermalModelUpdate
  /-- Selected-feed current exceeds ioc for 10 µs, so the feed is lost and FEED_OC is reported. (R326) -/
  | feedOvercurrent
  /-- Reverse current exceeds irev for 10 µs, so the feed is lost and FEED_REVERSE is reported. (R326) -/
  | feedReverse
  /-- With no feed selected, a preferred feed is selected at once. (R327) -/
  | firstSelection
  /-- The selected feed is lost; the outgoing gate opens and a switch to the preferred feed begins. (R328) -/
  | unplannedSwitch
  /-- A planned switch is due at an epoch tick; notice is posted and pre-charge starts. (R329) -/
  | plannedSwitchNotice
  /-- At the next epoch tick the unheld planned switch runs from step 1. (R329) -/
  | plannedSwitchRun
  /-- The feed dead time ends and the incoming feed closes by the applicable rule. (R328) -/
  | deadTimeExpiry
  /-- The bus falls to Fn_VSNS + 1.0 V and the incoming gate is driven on. (R328) -/
  | busMatchReached
  /-- The match wait exceeds match_ms; FEED_MATCH is reported and the next feed is tried. (R328) -/
  | matchTimeout
  /-- The feed pair has stayed within 0.5 V for 10 µs, ending limited insertion. (R328) -/
  | feedInsertDone
  /-- Feed insertion exceeds ins_ms, so the feed is lost and the next is tried. (R328) -/
  | feedInsTimeout
  /-- The incoming gate is fully enhanced; the switch completes and SEQ and LAST_SWITCH update. (R328) -/
  | switchComplete
  /-- FED.CONTROL.req 5 ends manual selection. (R327) -/
  | fedReqAutomatic
  /-- At the epoch tick after a passing trial, ownership moves to the new mode. (R346) -/
  | modeHandover
  /-- With fence_off set, a fenced hearth's rail is switched off at the next epoch tick. (R352) -/
  | fencePowerOff
  /-- The bulk copy completes and the hearth waits for the epoch tick. (R355) -/
  | copyBulkDone
  /-- At the epoch tick, the source's dynamic state is snapshot, loaded and replayed. (R355) -/
  | copySnapshot
  /-- Replay reaches the live tick and the trial starts at the next epoch tick. (R355) -/
  | copyLiveReached
  /-- A passing trial ends; the copying hearth takes its role and readmitted is set. (R356) -/
  | trialEnd
  /-- An inequality, miss, overflow or self-check failure fails the attempt, which restarts or gives up after three. (R356) -/
  | copyAttemptFail
  /-- After l3_hold at Level 3, Flue issues the Level 3 device reset. (R371) -/
  | level3AutoReset
  /-- After 60 s Lit without Level 3, l3_resets returns to 0. (R371) -/
  | l3ResetsClear
  /-- FLU command 3 closes every record that is not live. (R375) -/
  | fluCloseAll
  /-- FLU command 4 with the key at Level 3 issues the Level 3 device reset. (R371) -/
  | fluL3DeviceReset
  /-- ASH.CONTROL.soot_clear with the key zeroes every Soot counter. (R380) -/
  | ashSootClear
  /-- ASH.CONTROL.first_clear clears the first-error record. (R379) -/
  | ashFirstClear
  /-- ASH.CONTROL.ash_clear with the key empties the Ash log. (R383) -/
  | ashClear
  /-- A Quick Command is acknowledged and has no effect. (R403) -/
  | quickCommand
  /-- SMB.CONTROL.realert asserts SMBALERT_N again if the summary is not zero. (R415) -/
  | smbRealert
  /-- A read of DEV.RESET_CAUSE returns the cause and clears it. (R432) -/
  | resetCauseRead
deriving DecidableEq, Repr

end Sys2Proof
end

