-- ==== Sys2Proof/Machine/Crypto.lean ====
section
/-! DEFINITION. SHA-256, HMAC, ECDSA over P-256 with the deterministic nonce of RFC 6979, and the CRC-32 of PD messages: the functions
that R150, R220, R225, R227 and R389 name. Their definitions are those of the standards that the manual names (PRESUMED). -/

namespace Sys2Proof.Machine

/-! ### SHA-256 -/

/-- Largest `r` with `r ^ k ≤ x`, over the bits of `r` from bit `n - 1` down, given those found above them. -/
def rootFrom (k x : Nat) : Nat → Nat → Nat
  | 0, r => r
  | n + 1, r => rootFrom k x n (if (r + 2 ^ n) ^ k ≤ x then r + 2 ^ n else r)

/-- The first 32 bits of the fraction of the `k`-th root of `p`: what every constant of SHA-256 is. -/
def rootFraction (k p : Nat) : Word := BitVec.ofNat 32 (rootFrom k (p * 2 ^ (32 * k)) 40 0)

/-- `x` has no divisor from 2 up to its own predecessor. -/
def isPrime (x : Nat) : Bool := 1 < x && (List.range x).all fun d => d < 2 || x % d ≠ 0

/-- The first 64 primes. -/
def shaPrimes : List Nat := (List.range 312).filter isPrime

/-- The XOR of a word rotated right by `i` and `j` with a third word. -/
def shaMix (w : Word) (i j : Nat) (third : Word) : Word := w.rotateRight i ^^^ (w.rotateRight j ^^^ third)

/-- A schedule held newest first, grown by `n` words. -/
def shaGrow : Nat → List Word → List Word
  | 0, l => l
  | n + 1, l =>
    let back (k : Nat) : Word := l[k - 1]?.getD 0
    let near := shaMix (back 2) 17 19 (back 2 >>> 10)
    let far := shaMix (back 15) 7 18 (back 15 >>> 3)
    shaGrow n ((back 16 + far + back 7 + near) :: l)

/-- The working words as two trails, each newest first: the last four values of the first word and the last four of the fifth. -/
structure Trails where
  front : List Word
  rear : List Word
deriving DecidableEq, Repr

/-- One round: a word of the schedule with its constant added puts one value at the head of each trail. -/
def Trails.round (x : Trails) (w : Word) : Trails :=
  match x.front, x.rear with
  | [p, q, r, u], [i, j, k, v] =>
    let pick := k ^^^ (i &&& (j ^^^ k))
    let most := (p &&& q) ||| (r &&& (p ||| q))
    let drive := w + v + shaMix i 6 11 (i.rotateRight 25) + pick
    ⟨[drive + most + shaMix p 2 13 (p.rotateRight 22), p, q, r], [u + drive, i, j, k]⟩
  | _, _ => x

/-- The hash before any block. -/
def shaStart : Trails :=
  let l := (shaPrimes.take 8).map (rootFraction 2)
  ⟨l.take 4, l.drop 4⟩

/-- One block of 16 words taken into the hash; `ks` are the constants of the rounds. -/
def shaBlock (ks : List Word) (x : Trails) (block : List Word) : Trails :=
  let y := (List.zipWith (· + ·) ks (shaGrow 48 block.reverse).reverse).foldl Trails.round x
  ⟨List.zipWith (· + ·) x.front y.front, List.zipWith (· + ·) x.rear y.rear⟩

/-- Bytes of a number, most significant first. -/
def beBytes (n v : Nat) : List Byte := (List.range n).map fun i => BitVec.ofNat 8 (v / 2 ^ (8 * (n - 1 - i)))

/-- Number of bytes, most significant first. -/
def beNat (l : List Byte) : Nat := l.foldl (fun a b => 256 * a + b.toNat) 0

/-- A message filled up to whole blocks: a set bit, zeros, and its length in bits. -/
def shaFilled (m : List Byte) : List Byte :=
  m ++ (0x80 :: List.replicate ((119 - m.length % 64) % 64) 0 ++ beBytes 8 (8 * m.length))

/-- SHA-256 of a message. -/
def sha256 (m : List Byte) : List Byte :=
  let l := shaFilled m
  let word (i : Nat) : Word := BitVec.ofNat 32 (beNat ((l.drop (4 * i)).take 4))
  let ks := shaPrimes.map (rootFraction 3)
  let x := (List.range (l.length / 64)).foldl (fun x b => shaBlock ks x ((List.range 16).map fun i => word (16 * b + i))) shaStart
  (x.front ++ x.rear).flatMap fun w => beBytes 4 w.toNat

/-- HMAC with SHA-256, for keys of at most 64 bytes. -/
def hmac (key m : List Byte) : List Byte :=
  let k := key ++ List.replicate (64 - key.length) 0
  sha256 (k.map (fun b => b ^^^ 0x5C) ++ sha256 (k.map (fun b => b ^^^ 0x36) ++ m))

/-! ### P-256 -/

def p256P : Nat := 2 ^ 256 - 2 ^ 224 + 2 ^ 192 + 2 ^ 96 - 1
def p256N : Nat := 0xffffffff00000000ffffffffffffffffbce6faada7179e84f3b9cac2fc632551
def p256G : Nat × Nat :=
  (0x6b17d1f2e12c4247f8bce6e563a440f277037d812deb33a0f4a13945d898c296,
   0x4fe342e2fe1a7f9b8ee7eb4a7c0f9e162bce33576b315ececbb6406837bf51f5)

/-- Power modulo `m`, with the low `fuel` bits of the exponent. -/
def powMod : Nat → Nat → Nat → Nat → Nat
  | 0, _, _, m => 1 % m
  | fuel + 1, b, e, m =>
    let r := powMod fuel (b * b % m) (e / 2) m
    if e % 2 = 1 then r * b % m else r

/-- Inverse modulo a 256-bit prime. -/
def invMod (a m : Nat) : Nat := powMod 256 (a % m) (m - 2) m

/-- Sum of two points, none for infinity. -/
def ecAdd : Option (Nat × Nat) → Option (Nat × Nat) → Option (Nat × Nat)
  | none, q => q
  | p, none => p
  | some (x1, y1), some (x2, y2) =>
    let p := p256P
    if x1 = x2 ∧ (y1 + y2) % p = 0 then none
    else
      let l := if x1 = x2 then (3 * x1 * x1 + (p - 3)) * invMod (2 * y1) p % p else (y2 + p - y1) * invMod (x2 + p - x1) p % p
      let x := (l * l + 2 * p - x1 - x2) % p
      some (x, (l * (x1 + p - x) + p - y1) % p)

/-- Multiple of a point, over the low `fuel` bits of `k`. -/
def ecMul : Nat → Nat → Option (Nat × Nat) → Option (Nat × Nat)
  | 0, _, _ => none
  | fuel + 1, k, q => let r := ecMul fuel (k / 2) (ecAdd q q); if k % 2 = 1 then ecAdd r q else r

/-- The public key of a private key. -/
def ecPublic (d : Nat) : Option (Nat × Nat) := ecMul 256 d (some p256G)

/-- Signature with nonce `k`, if it gives one. -/
def ecdsaWith (d z k : Nat) : Option (Nat × Nat) :=
  match ecMul 256 k (some p256G) with
  | none => none
  | some (x, _) =>
    let r := x % p256N
    let s := invMod k p256N * ((z + r * d) % p256N) % p256N
    if r = 0 ∨ s = 0 then none else some (r, s)

/-- The search of RFC 6979 for a nonce, with the key and value of its HMAC generator. -/
def ecdsaSearch (d z : Nat) : Nat → List Byte → List Byte → Nat × Nat
  | 0, _, _ => (0, 0)
  | fuel + 1, key, v =>
    let v := hmac key v
    let k := beNat v
    let next := hmac key (v ++ [0])
    if k = 0 ∨ p256N ≤ k then ecdsaSearch d z fuel next (hmac next v)
    else
      match ecdsaWith d z k with
      | some rs => rs
      | none => ecdsaSearch d z fuel next (hmac next v)

/-- Deterministic ECDSA over the hash `h`: 64 bytes, r then s, most significant first. -/
def ecdsaSign (d : Nat) (h : List Byte) : List Byte :=
  let z := beNat h
  let x := beBytes 32 d ++ beBytes 32 (z % p256N)
  let v0 := List.replicate 32 (1 : Byte)
  let k1 := hmac (List.replicate 32 0) (v0 ++ [0] ++ x)
  let v1 := hmac k1 v0
  let k2 := hmac k1 (v1 ++ [1] ++ x)
  let v2 := hmac k2 v1
  let rs := ecdsaSearch d (z % p256N) 64 k2 v2
  beBytes 32 rs.1 ++ beBytes 32 rs.2

/-! ### CRC-32 -/

/-- One bit of the CRC-32 of PD messages, least significant bit first. -/
def crc32Bit (c : Word) : Word := if c.getLsbD 0 then (c >>> 1) ^^^ 0xEDB88320 else c >>> 1

/-- One byte. -/
def crc32Byte (c : Word) (b : Byte) : Word :=
  (List.range 8).foldl (fun c _ => crc32Bit c) (c ^^^ b.setWidth 32)

/-- CRC-32 with initial value and final inversion of all ones. -/
def crc32 (l : List Byte) : Word := ~~~(l.foldl crc32Byte 0xFFFFFFFF)

end Sys2Proof.Machine
end

