-- ==== Sys2Proof/Config.lean ====
section
/-! DEFINITION. The values that the spec leaves open: constants with no body, applied to the model's own counter or to the operands
they depend on. Nothing can be proved of such a value but that it is one. -/

namespace Sys2Proof.Config

/-- The feed for which a forced event of page FED reports: the spec names none (R331, R362). -/
opaque feedUnit : Nat → Nat

/-- Cause that FED.LAST_SWITCH shows for a switch that a Flue feed drop starts: Table 14.8 names none (R334, R368). -/
opaque dropCause : Nat → Nat

/-- Bytes of the random source (R225, R226), drawn one after another. -/
opaque randomByte : Nat → BitVec 8

/-- Bytes of a PD answer whose content the spec leaves to USB Power Delivery and to the product (R137). -/
opaque replyByte : Nat → BitVec 8

/-- The current of a VCONN switch at an epoch tick, in 2 mA: the spec names no converter channel for it (R113, Table 5.9). -/
opaque vconnCurrent : Nat → Nat

/-- Whether the partner of a slave port drives the reference at a tick: no command brings it (R205, R218). -/
opaque partnerRef : Nat → Nat → Bool

/-- Whether a hearth passes the self-check that a register write's hearth reset makes it run, itself or the other one (R57, R353). -/
opaque selfCheck : Nat → Bool → Bool

/-- Words that the bulk phase of a copy has moved, in units of 64: the spec bounds them only (R355). -/
opaque bulkUnits : Nat → Nat

/-- The minimum voltage that an EPR AVS object shows where its field does not hold it: the spec does not say (R156). -/
opaque eprAvsMin : Nat → Nat

/-- What FND.OVP_STATUS.v_ovp shows of a threshold above 51.1 V, which its 9 bits do not hold: the spec does not say (R315; log 133). -/
opaque ovpShown : Nat → Nat

/-- Ticks that steps 5 and 6 of a hearth reset take: Table 3.5 gives their maxima only (R55, R62). -/
opaque resetTicks : Nat → Nat

/-- Bits that the pulses of an OTP command cut short leave unblown, or weakly blown: the spec says only that a word can be partly blown
(R396). -/
opaque cutBits : Nat → BitVec 39

end Sys2Proof.Config
end

