-- ==== Sys2Proof/Machine/State.lean ====
section
/-! DEFINITION. The state of the ZX-4808 as plain data: the register fabric in its three copies, the stores that no register
shows, the timers, the report rails of Flue, and the queue of waiting commands. -/

namespace Sys2Proof.Machine

/-! ### Registers -/

/-- Where a register lives (R16): a single copy, a port's copy in the hearth that drives the port, a device-wide copy in a
hearth, or a hearth's own debug page. -/
inductive Home where
  | single
  | port (n : Port)
  | dev
  | own (h : Hth)
deriving DecidableEq, Repr

/-- A field of a register: where it is held, its byte address (R423), its lowest bit and its width. -/
structure Field where
  home : Home
  addr : Nat
  lo : Nat
  width : Nat
deriving DecidableEq, Repr

/-- A run of `count` like registers of a page (Table 0.4, Table 3.8): the word after a power-on reset, the bits a read shows,
the bits a plain write stores, the W1C and RC bits, on the mixed page STG the bits held in the hearth, and the bits of each
persistence class. -/
structure RegRow where
  off : Nat
  count : Nat
  reset : Nat := 0
  rd : Nat := 0
  wr : Nat := 0
  w1c : Nat := 0
  rc : Nat := 0
  hearth : Nat := 0
  sticky : Nat := 0
  counter : Nat := 0
  kept : Nat := 0
  wake : Nat := 0
  otp : Nat := 0
  trace : Nat := 0
deriving DecidableEq, Repr

/-! ### Power, start-up and resets -/

/-- What the whole device is doing (Tables 2.7 and 3.2): unpowered, one of the four power states, start-up, Fuse Hold, or held
at step 5 because no hearth passed its self-check (R57). -/
inductive DevState where
  | unpowered
  | cold
  | smoulder
  | banked
  | startup
  | fuseHold
  | held
  | lit
deriving DecidableEq, Repr

/-- The reset kinds that run start-up (Table 3.7), as far as what they keep differs (Table 3.8). -/
inductive ResetKind where
  | powerOn
  | resetN
  | soft
  | level3
  | smoulderWake
  | coldWake
deriving DecidableEq, Repr

/-- The Ember domain and the start-up sequence, where no register shows them. -/
structure Ember where
  /-- What the device is doing. -/
  dev : DevState
  /-- The state whose entry is under way (R51). -/
  entry : Option DevState
  /-- A wake latched during an entry (R52), or while VSYS is missing (R458). -/
  latched : Option Wake
  /-- The Cold latch (Table 3.2): whether Cold was entered, and the source that woke the device. -/
  coldEntered : Bool
  coldSource : Nat
  /-- VSYS return is armed as a wake source (R46). -/
  vsysArmed : Bool
  /-- RESET_N is held low (R62). -/
  resetHeld : Bool
  /-- The kind of the start-up that runs or ran last. -/
  kind : ResetKind
  /-- The start-up step reached (Table 3.5), 1-8; 0 while Ember is unpowered. -/
  step : Nat
  /-- The Kindling port while Kindling runs (R59). -/
  kindling : Option Port
  /-- The Kindling path has been ordered closed (Table 3.6 step 3). -/
  kindleClosed : Bool
  /-- The re-sense of Banked exit has still to complete (R66). -/
  resensePending : Bool
  /-- TBASE at Smoulder entry (R67). -/
  tbaseAtEntry : Tick
  /-- ADDR[2:0] sampled at a wake, in effect from the next START (R38). -/
  addrNext : Option (BitVec 3)
  /-- Fraction of a coarse tick that has passed: 32,768 for each tick of TBASE, of 1,000 times the tick rate in kHz (R9, R73). -/
  coarseAcc : Nat
  /-- The port CC changes that the Smoulder poll has seen (R47). -/
  ccPolled : BitVec 8
  /-- Ember refresh interval k of R54: t_ref is 2.0 ms / 2^k. -/
  refreshK : Nat
  /-- ALIVE: toggling, its level, and the ticks since its last change (R39). -/
  aliveOn : Bool
  alive : Bool
  aliveCount : Nat
  /-- Ticks for which a hearth reset still holds ALIVE at its last level (Table 3.7). -/
  aliveHeld : Nat
  /-- The counter-class registers saved before a reset (R26): key and word. -/
  counterSave : List (Nat × Word)
deriving DecidableEq, Repr

/-! ### Time base -/

/-- Time-base state of a port's carrier that no register shows (R76, R78, R81). -/
structure Carrier where
  /-- Effective anchor A_n, which a move may take below 0 (R81). -/
  anchor : Int
  /-- Tick of the last period start. -/
  lastStart : Option Nat
  /-- N in force for the period that runs (R78); the phase in force stands in STG.CARRIER.phase_eff. -/
  nEff : Nat
  /-- The automatic phase found last (R77). -/
  auto : Nat
deriving DecidableEq, Repr

/-- Frame lock and the reference (R69, R79, R80). -/
structure TimeBase where
  /-- Alignment anchor A (48 bits; TB.ANCHOR shows [31:0]). -/
  anchor : Nat
  /-- Timestamp of the last SYNC_IN edge, and of the edge counted last as the end of a frame (R79, R80). -/
  lastEdge : Option Nat
  frameEdge : Option Nat
  /-- Consecutive frames that were not good. -/
  bad : Nat
  /-- Frames since the edge last taken as an anchor, modulo the frames of a lock period (R80). -/
  frames : Nat
  /-- Carriers of P0-P7. -/
  carriers : Vector Carrier 8
  /-- Times that TBASE has passed 2^48, by which the scheduler numbers its epochs without a break. -/
  laps : Nat
deriving DecidableEq, Repr

/-! ### Flue -/

/-- A report on its way to Flue: the source whose rail pair asserts, its unit and detail, who caused it and by what access
(Table 17.6), and the tick (R361). -/
structure Report where
  tick : Nat
  source : Nat
  unit : Nat
  detail : Nat
  master : Nat
  access : Nat
  /-- The EVENT bit that the report came with: its page times 32 and its number (R410). -/
  bit : Option Nat := none
  /-- The tick on which the pair changes to asserted: that of the occurrence, or the next where the pair idles on it (R361). -/
  due : Nat := tick
deriving DecidableEq, Repr

/-- An open Flue record (R364, R365). -/
structure FlueRecord where
  group : Nat
  unit : Nat
  /-- Opening source, then the sources merged into it, latest last. -/
  source : Nat
  merged : List Nat
  /-- 0-3; 4 fenced. -/
  level : Nat
  merges : Nat
  /-- Serial of its opening Ash entry, whose merge count follows the record's (R365). -/
  serial : Nat
  /-- Units that the reaction falls on: its own, for REPORT_PATH the units of the broken pairs. -/
  units : List Nat
  /-- Tick of the last merge (R377). -/
  mergeTick : Option Nat
  /-- The detail and the EVENT bit of the report that opened it, for its later Ash entries (Table 17.6). -/
  detail : Nat
  bit : Option Nat
deriving DecidableEq, Repr

/-- An Ash entry (Table 17.6). -/
structure AshEntry where
  serial : Nat
  tbase : Tick
  source : Nat
  unit : Nat
  merges : Nat
  master : Nat
  level : Nat
  access : Nat
  group : Nat
  kind : Nat
  detail : Nat
  data : Word
deriving DecidableEq, Repr

/-- Flue's own state: the report rails, the open records, the pairs that read equal, the Ash log newest first. -/
structure Flue where
  rails : List Report
  records : List FlueRecord
  broken : List (Nat × Nat)
  /-- The pairs asserted lately, each by source, unit and, for PAGE_EVENT, bit number, with the tick (R361). -/
  asserted : List ((Nat × Nat × Nat) × Nat)
  /-- The pair that FLU.INJECT holds equal, and its last tick so (R362). -/
  testPair : Option ((Nat × Nat) × Nat)
  ash : List AshEntry
  serial : Nat
  newest : Nat
  first : Option AshEntry
deriving DecidableEq, Repr

/-! ### Hearth modes -/

/-- Roles of a hearth (Table 16.1). -/
inductive Role where
  | off
  | solo
  | owner
  | active
  | shadow
  | fenced
  | copying
deriving DecidableEq, Repr

/-- Hearth modes (Table 1.2). -/
inductive HMode where
  | solo
  | split
  | mirror
deriving DecidableEq, Repr

/-- What a copy is for (R354, R346). -/
inductive CopyGoal where
  | readmit
  | mode (m : HMode) (solo : Hth)
deriving DecidableEq, Repr

/-- What a copy waits for (R355, R356): the epoch tick of its snapshot after the bulk phase, the epoch tick of its trial after replay, or
the epoch tick at which a failed attempt starts again. -/
inductive CopyWait where
  | nothing
  | snapshot
  | trial
  | restart
deriving DecidableEq, Repr

/-- Roles, the mode in force and the copy that runs (R343-R357). -/
structure Hearths where
  mode : HMode
  roleA : Role
  roleB : Role
  /-- Start-up has fenced a hearth (R57), which leaves the device degraded. -/
  startFence : Bool
  /-- A fenced hearth's rail has been switched off (R352). -/
  offA : Bool
  offB : Bool
  /-- The copy under way: its goal, its source, and the roles to go back to. -/
  goal : Option CopyGoal
  source : Hth
  prevA : Role
  prevB : Role
  wait : CopyWait
  /-- Tick of the last advance of HTH.SEQ (R344), and that of the last mode change or power-off ordered for the next epoch tick. -/
  seqTick : Option Nat
  orderTick : Option Nat
  /-- HTH command 3 waits for the epoch tick (R352). -/
  offDue : Bool
  /-- An exchange of Active and Shadow, or a mode change without a copy, waits for the epoch tick (R346, R360). -/
  exchange : Bool
  /-- One-sided misses of each hearth in an epoch (R348), and the epoch they were counted in. -/
  missA : Nat
  missB : Nat
  missEpoch : Nat
  /-- The tick of each hearth's last loss (R349, R350). -/
  lostA : Option Nat
  lostB : Option Nat
  /-- The tick of a copy's snapshot, and how many results of each loop its trial has seen, up to the three that it ignores (R355, R356). -/
  snapTick : Option Nat
  trialSeen : Vector Nat 16
deriving DecidableEq, Repr

/-! ### Timers -/

/-- Every timer of the device that a rule starts, stops or waits for. -/
inductive TimerKind where
  | stateEntry
  | edram
  | tjSample
  | ccPoll
  | kindleStall
  | grace
  | persist
  | quiet
  | l3Hold
  | l3Clear
  | trial
  | attach
  | detach
  | rpLevel
  | drp
  | rpSecond
  | tReceive
  | sinkTx
  | chunkSend
  | chunkRecv
  | signal
  | sourceCap
  | senderResponse
  | noResponse
  | sinkWaitCap
  | keepAlive
  | reRequest
  | pps
  | draftGap
  | srcTransition
  | psTransition
  | abortWait
  | swapPs
  | swapStart
  | frsInit
  | vconnSwap
  | hardReset
  | srcRecover
  | errorRecovery
  | cableReset
  | sinkRequest
  | enterEpr
  | tryTimer
  | tryTimeout
  | vdmResponse
  | vdmBusy
  | hostVdm
  | cableIdentity
  | thatinPoll
  | trkAccept
  | vthRestore
  | senTimeout
  | opcClear
  | insertion
  | inrush
  | limit
  | offTime
  | closedFor
  | dschg
  | dschgForce
  | ntcRange
  | feedDead
  | feedMatch
  | feedInsert
  | feedBlank
  | nofeed
  | otpCommand
deriving DecidableEq, Repr

/-- A running timer: what it times, for which unit, and the ticks left. -/
structure Timer where
  kind : TimerKind
  unit : Nat
  left : Nat
deriving DecidableEq, Repr

/-- Level 2 reactions (Table 17.4), and the ceilings below them. -/
inductive React where
  | level0
  | level1
  | portSafe
  | feedDrop
  | hearthFence
  | level3
deriving DecidableEq, Repr

/-! ### CC Front End -/

/-- What the CC Front End of a port holds beside its registers (R89-R109). -/
structure CcPort where
  /-- The commanded presentation. -/
  cmd : Pres
  /-- Rp code whose thresholds are in force, and the Rp code that a level change under way moves to (R89). -/
  thr : Nat
  goal : Nat
  /-- An attach is latched (R93). -/
  attached : Bool
  /-- Tick of the attach report (R287). -/
  attachTick : Nat
  /-- Pin voltages in mV, as last reported. -/
  mv1 : Nat
  mv2 : Nat
  /-- Pins isolated under R108. -/
  iso1 : Bool
  iso2 : Bool
  /-- The BMC transmitter is active, which blanks the sensing of its pin (R91, R97). -/
  busy : Bool
  /-- Tick of the last detach report (R98), and of the last VCONN enable command (R102). -/
  detachTick : Option Nat
  enTick : Option Nat
  /-- EVENT.vconn_refused as it stood before that command (R98). -/
  refusedWas : Bool
  /-- Tick of the last command that named a pin, and the presentation before it (R98). -/
  before : Option (Nat × Pres)
deriving DecidableEq, Repr

/-! ### Message Layer -/

/-- What a transmitted message is for: what its delivery brings about. -/
inductive Purpose where
  | plain
  | caps
  | request
  | acceptRequest
  | acceptRepeat
  | readyTransition
  | readyRepeat
  | ask
  | acceptSwap
  | readySwap
  | softReset
  | acceptSoft
  | eprEnter
  | eprAck
  | eprSucceeded
  | eprExit
  | frSwap
  | vdmAsk
  | thatinAck
  | hostTx
  | chunkRequest
  | keepAlive
deriving DecidableEq, Repr

/-- Where a message is held (R131). -/
inductive Slot where
  | waiting
  | shared
  | receive
deriving DecidableEq, Repr

/-- A message in the Message Layer, with the content of its slot (Table 6.3). -/
structure Msg where
  port : Port
  sop : Nat
  critical : Bool
  epoch : Nat
  retries : Nat
  tbase : Nat
  header : Nat
  /-- Data objects, or extended data, as bytes. -/
  data : List Byte
  /-- First byte not yet acknowledged of an extended message (R128). -/
  chunk : Nat
  purpose : Purpose
  slot : Slot
  /-- EVENT.pool_wait has been set for it (R133). -/
  waited : Bool
  /-- Tick at which its shared slot was granted (R132). -/
  granted : Nat
  /-- Specification Revision of its frame (R115, R135). -/
  rev : Nat
  /-- The sink sampled SinkTxNG when the message asked to be sent: it waits for a debounced change of Rp (R126). -/
  heldNg : Bool
  /-- A received Accept or PS_RDY whose GoodCRC has still to be sent (R175). -/
  unacked : Bool
deriving DecidableEq, Repr

/-- The signal slot (R131). -/
inductive Signal where
  | empty
  | goodcrc (sop : Nat) (id : Nat)
  | hardReset
  | cableReset
deriving DecidableEq, Repr

/-- What the transmitter does. -/
inductive TxPhase where
  | idle
  | frame
  | awaiting
  | chunkWait
deriving DecidableEq, Repr

/-- A port's Message Layer beside its registers. -/
structure MsgPort where
  /-- Messages to transmit, oldest first; the one under way is not in it. -/
  queue : List Msg
  current : Option Msg
  phase : TxPhase
  signal : Signal
  /-- The signal's frame is being sent. -/
  sigOn : Bool
  /-- A chunked message being assembled, the next chunk awaited, and whether its Chunk Request has still to be handed over (R129). -/
  assembly : Option Msg
  nextChunk : Nat
  chunkDue : Bool
  /-- Last MessageID stored (8: none) and the next to send, per SOP type (R117). -/
  rxId : Vector Nat 3
  txId : Vector Nat 3
  /-- An extended message that waits for its Chunk Request while the port's own Chunk Request has the transmitter (R128, R129). -/
  aside : Option Msg
deriving DecidableEq, Repr

/-- A pending input of the Policy Sequencer (R140). -/
inductive InKind where
  | attach (type : Nat)
  | detach
  | openFast
  | message (m : Msg)
  | timer (code : Nat)
deriving DecidableEq, Repr

/-- An input with its timestamp and port (R139). -/
structure Input where
  tick : Nat
  port : Port
  kind : InKind
deriving DecidableEq, Repr

/-! ### Policy Sequencer -/

/-- The sequence under way on a port (chapters 7 and 8). -/
inductive Seqn where
  | idle
  | capsSent
  | requestSent
  | snkTransition
  | accepting
  | hold
  | ramp
  | readySent
  | repeating
  | asked
  | softReset
  | prHold
  | prDescent
  | prReady
  | prWaitOff
  | prRaise
  | prReadySent
  | drAccept
  | vcnWait
  | vcnClose
  | vcnReadySent
  | frSignal
  | frSource
  | frAsked
  | frWaitReady
  | frReadySent
  | hrSend
  | hrHold
  | hrDescent
  | hrRecover
  | hrRaise
  | hrSink
  | recovery
  | aborted
  | eprAsked
  | eprAcked
  | eprSource
deriving DecidableEq, Repr

/-- A contract, or one under negotiation (R160, R161): voltages in mV, current in mA, power in mW. -/
structure Contract where
  pos : Nat
  kind : Nat
  epr : Bool
  mv : Nat
  ma : Nat
  lo : Nat
  hi : Nat
  pdp : Nat
deriving DecidableEq, Repr

/-- Parameters of a port (Table 7.8). -/
structure Params where
  srcPdp : Nat
  imax : Nat
  minOffer : Nat
  snkOp : Nat
  snkPdp : Nat
  dbTarget : Nat
  pdoFlags : Nat
  noPd : Nat
deriving DecidableEq, Repr

/-- A drafted offer (R159). -/
structure Draft where
  objs : List Word
  /-- Role epoch at which it was built (R119). -/
  epoch : Nat
  epr : Bool
  urgent : Bool
  /-- Already handed to the Message Layer. -/
  handed : Bool
deriving DecidableEq, Repr

/-- A port's policy state beside its registers. -/
structure PolPort where
  params : Params
  seq : Seqn
  /-- The request awaiting an answer: its PD message type (data messages + 32, extended + 64). -/
  asking : Nat
  /-- The first message of the swap asked for has begun, which opens its window (R176). -/
  begun : Bool
  /-- Contract in force and the one being entered. -/
  cur : Option Contract
  new : Option Contract
  hardResets : Nat
  capsCount : Nat
  cableA : Nat
  cableEpr : Bool
  partnerEpr : Bool
  partnerFrs : Nat
  /-- An offer has been delivered in this attach, and whether it was an EPR offer. -/
  offered : Bool
  offerEpr : Bool
  /-- The partner's last capabilities have been received. -/
  partnerCaps : Bool
  /-- The partner's source capabilities where Sink_Capabilities have taken their place in PARTNER0-10 (R166). -/
  sourceKept : Option (List Word)
  draft : Option Draft
  /-- EPR templates were collected for the last draft. -/
  eprCollected : Bool
  /-- Point 1: role (Table 7.4) and Rp level. -/
  role : Nat
  level : Fin 3
  /-- Settled roles (R190). -/
  settledSource : Bool
  settledDfp : Bool
  settledVconn : Bool
  /-- The Try sub-state: 0 none, 1 Try.SRC, 2 TryWait.SNK, 3 Try.SNK, 4 TryWait.SRC. -/
  trying : Nat
  /-- Point 14 accepts, and the port is armed (R180). -/
  frsWanted : Bool
  frsArmed : Bool
  /-- Consecutive abandoned SOP' messages, and whether the cable has answered (R188). -/
  cableFails : Nat
  cableSeen : Bool
  /-- SinkTx levels are in use (R107). -/
  sinkTx : Bool
  /-- A Type-C source current is offered with no PD (R144). -/
  noPd : Bool
  /-- Argument of the held command (R164). -/
  heldArg : Nat
  /-- A Flue port safe holds the port unattached (R368). -/
  safeHeld : Bool
  /-- VBUS is awaited at vSafe0V before the sequence goes on. -/
  wait0V : Bool
  /-- VBUS has fallen to vSafe0V since a sink's Hard Reset (R186). -/
  fell0V : Bool
  /-- The sink waits for a source's capabilities (tSinkWaitCap has started). -/
  waitCaps : Bool
  /-- The sequence that a requested Hard Reset interrupted (R190, R191), and how the Hard Reset under way began: bit 0 sent, bit 1
  received. -/
  seqWas : Seqn
  hrKind : Nat
  /-- The FR_Swap signal has been taken and VBUS has not fallen below 5.5 V yet (R181). -/
  frsDue : Bool
  /-- Operands of the sink templates as they stood at load_begin (R153). -/
  sinkOps : List Nat
  /-- Sequences of the port's own that wait for an Atomic Message Sequence to end, by the codes of INITIATE; 32 is a repeat Request, 33 EPR_KeepAlive. -/
  todo : List Nat
deriving DecidableEq, Repr

/-! ### Phrasebook and Thatin -/

/-- A VDM that the Phrasebook initiates: 1 identity, 2 SVIDs, 3 modes, 4 enter a host mode, 5 exit a host mode, 6 enter Thatin,
7 exit Thatin, 8 a host request, 9 identity on SOP'. -/
structure VdmAsk where
  what : Nat
  svid : Nat
  pos : Nat
  /-- The words of a host request, as they were when it was asked for (R202). -/
  words : List Word := []
deriving DecidableEq, Repr

/-- A port's Phrasebook state beside its registers. -/
structure VdmPort where
  /-- Initiations waiting for an Atomic Message Sequence to end (R195). -/
  waiting : List VdmAsk
  /-- The initiation that awaits an answer. -/
  ask : Option VdmAsk
  /-- It has been retried after BUSY (R194). -/
  retried : Bool
  /-- SVIDs to take Discover Modes for, in entry order, and the partner's SVIDs so far (R197). -/
  modesLeft : List Nat
  svids : List Nat
  /-- Discovery has run since the last attach, Hard Reset or DR_Swap. -/
  discovered : Bool
  /-- A host SVID request waits for the host's response (R202). -/
  hostRequest : Option Word
  /-- Transmissions of Discover Identity on SOP' so far (R198). -/
  cableTries : Nat
  /-- Partner's Thatin mode VDO: that of the mode entered, and that of the last discovery (R197, R204). -/
  partnerVdo : Word
  foundVdo : Word
deriving DecidableEq, Repr

/-- Terms of a tracking contract (R209): 100 mV, 0.2 mV/µs and W. -/
structure TrkTerms where
  vlo : Nat
  vhi : Nat
  slew : Nat
  id : Nat
  ptrk : Nat
deriving DecidableEq, Repr

/-- A port's Thatin channel beside its registers. -/
structure ThnPort where
  /-- Sequence number of the next frame sent (R207). -/
  seqNo : Nat
  /-- Consecutive poll periods without a valid frame, and whether one has come in the period under way (R208). -/
  missed : Nat
  heard : Bool
  /-- A proposal armed by the host, with its terms as checked, and one that has been sent (R209). -/
  armed : Option TrkTerms
  sent : Option TrkTerms
  /-- A TRK_END waits for the next frame, with its reason. -/
  ending : Option Nat
  /-- A collapse trigger has occurred since the proposal was sent (R210). -/
  broken : Bool
  nextId : Nat
  /-- Terms of the active contract. -/
  terms : Option TrkTerms
  /-- The return of the reference after a collapse is under way (R212). -/
  returning : Option TrkTerms
  /-- A sink's threshold for 50 ms after a collapse (R211), 100 mV. -/
  vthHeld : Nat
  /-- The SBU2 frame sent last, from its preamble to its CRC (R207), and the tick at which it began. -/
  out : List Byte
  outTick : Nat
deriving DecidableEq, Repr

/-! ### Loops and stages -/

/-- A loop's history (R239): the last three errors and outputs, Q1.15. -/
structure Hist where
  e1 : Int
  e2 : Int
  e3 : Int
  u1 : Int
  u2 : Int
  u3 : Int
deriving DecidableEq, Repr

/-- A loop result at the boundary latch: output, prediction, error, feed-forward, and the bounds of the output (R241). -/
structure LoopResult where
  y : Int
  pred : Int
  e0 : Int
  ff : Int
  lo : Int
  hi : Int
deriving DecidableEq, Repr

/-- No result. -/
def LoopResult.zero : LoopResult := { y := 0, pred := 0, e0 := 0, ff := 0, lo := 0, hi := 0 }

/-- The fields of STG[n] and ILP[n] that take effect at a sample instant (R237, R245, R253). -/
structure StageCfg where
  zero : Nat
  ifs : Nat
  minPulse : Nat
  slew : Nat
  manual : Bool
  ffEn : Bool
  regionAuto : Bool
  bankI : Nat
  bankV : Nat
  dvSplit : Nat
  sOff : Nat
  iUpd : Nat
  vUpd : Nat
  icap : Nat
  ineg : Nat
deriving DecidableEq, Repr

/-- The window of a port into the Operating-Point Correction Table (R263). -/
structure OpWindow where
  base : Nat
  nM : Nat
  nI : Nat
  mBase : Nat
  mShift : Nat
  iBase : Nat
  iShift : Nat
deriving DecidableEq, Repr

/-- What a sample instant on this tick takes: the configuration, the direction, the target and its rate, and the window, as they stood when
the tick began. What is captured on a tick applies from the first sample instant after it (R245, R253, R257, R264). -/
structure SampleView where
  cfg : StageCfg
  rev : Bool
  /-- Row of Table 12.1 (9 the manual set-point), target in mV, none where it stands, and rate in 0.1 mV/µs. -/
  row : Nat
  mv : Option Nat
  rate : Nat
  win : OpWindow
  /-- OPC.STATUS.valid without clearing, and the Dv in force (R245). -/
  valid : Bool
  dv : Nat
deriving DecidableEq, Repr

/-- What a voltage-loop evaluation takes from its sample (R239, R241, R245): the error, the direction, i_L, the bank and the configuration. -/
structure VoltSample where
  e0 : Int
  rev : Bool
  il : Int
  bank : Nat
  cfg : StageCfg
deriving DecidableEq, Repr

/-- A port's loops beside the registers of pages STG, ILP and OPC. -/
structure LoopPort where
  /-- Configuration in force since the last sample instant, and what a sample on this tick takes. -/
  cfg : StageCfg
  begun : SampleView
  /-- The offset of the sample instant in the period under way (R237). -/
  sOff : Nat
  /-- Tick of the last sample instant, i_L of that sample, and the update instants that follow it (R237). -/
  sampled : Option Nat
  il : Int
  dueV : Option Nat
  dueI : Option Nat
  /-- Dv of the period under way (R238). -/
  dv : Nat
  /-- The table lookup of the last sample (R263, R264): the index, 0 with an empty window, and the entry where entries are used. -/
  opIndex : Nat
  opEntry : Option (BitVec 24)
  /-- Ticks of the last captures, with the voltage-loop output and the ratio command that stood before them (R20, R246). -/
  capAtV : Option Nat
  capAtI : Option Nat
  yOld : Int
  uOld : Int
  /-- The loops' histories (R246). -/
  hv : Hist
  hi : Hist
  /-- Results that wait for their update instant, and the ones captured last, which the write-back returns (R246). -/
  resV : Option LoopResult
  resI : Option LoopResult
  capV : Option LoopResult
  capI : Option LoopResult
  /-- Results of the last evaluations of Hearth A and Hearth B, as the trace nodes show them (Table 12.4). -/
  lastV : LoopResult × LoopResult
  lastI : LoopResult × LoopResult
  /-- The current reference taken with the last sample (R20). -/
  iRef : Int
  /-- Bus-sense code of the last sample; the port's own codes are in STG.ADC_LAST. -/
  bus : Nat
  /-- The last sample is one of the voltage loop (R238), with the current loop's bank in force at it (R245), and the last sample of the voltage
  loop. -/
  voltSample : Bool
  bankI : Nat
  vs : VoltSample
  /-- The reference accumulator (R258), and whether it has still to be set at the first sample of a run (R259). -/
  acc : Int
  accInit : Bool
  /-- The bus target that the scheduler last published, mV (R286); 0 before the first. -/
  busMv : Nat
  /-- Forward preset of R181: the reference jumps at the next sample. -/
  jump : Bool
  /-- The reference is held where it stands (R172). -/
  held : Bool
  /-- Consecutive samples with IMON at a rail (R236). -/
  rails : Nat
  /-- Evaluations since the last preset, and the run counts of R269. -/
  sinceV : Nat
  sinceI : Nat
  runV : Nat
  runI : Nat
  /-- Ratio command applied at the previous update instant (R263). -/
  uPrev : Int
  /-- A zero-duty preset is due at the next sample instant (R234). -/
  presetDue : Bool
  /-- A stored run command (R312). -/
  runStored : Bool
  /-- Switching runs; Pn_SEN is to be driven low at the next period start. -/
  switching : Bool
  senLow : Bool
  /-- A fast trip holds the legs until the off-time ends or Lockout is left (R22, R314). -/
  tripHold : Bool
  /-- Sum of v x i and the number of current-loop samples of the epoch (R280), in mW. -/
  energy : Int
  samples : Nat
  /-- 1 + the epoch of the port's last deadline miss (R251); 0 none. -/
  missEpoch : Nat
deriving DecidableEq, Repr

/-- An evaluation of a port's loop, with its update instant. One whose update instant has passed is late: it is finished and discarded
(R251). -/
structure Evaluation where
  port : Port
  volt : Bool
  due : Nat
  late : Bool
deriving DecidableEq, Repr

/-- The lane pools (R21): evaluations that wait for a lane and those that a lane has. Both hearths of a pair take them in one order. -/
structure Lanes where
  waiting : List Evaluation
  busy : List Evaluation
deriving DecidableEq, Repr

/-! ### Fender -/

/-- The configuration of a path that applies from its next closure on (R331): windows, insertion delay, timers, retries and SOA limits. -/
structure FndCfg where
  insMs : Nat
  srcMax : Nat
  snkUv : Nat
  snkOv : Nat
  tInrush : Nat
  tLim : Nat
  toffMin : Nat
  count : Nat
  pmax : Nat
  emax : Nat
deriving DecidableEq, Repr

/-- A port's Fender state beside pages FND and THM. -/
structure FndPort where
  /-- The configuration in force since the closure that began last. -/
  cfg : FndCfg
  /-- Ticks of the last hearth command that opened a conducting path and of the last fast trip (R318). -/
  openTick : Option Nat
  tripTick : Option Nat
  /-- Tick at which the gates were driven at the start of Inrush (R317). -/
  onTick : Nat
  /-- DSCHG is requested and waits for the gates (R323); it has been slow. -/
  dschgWait : Bool
  dschgSlow : Bool
  /-- Detached while sourcing: unattached once its discharge ends (R323). -/
  detaching : Bool
  /-- Sums of the epoch (R319): squares of the path current in (10 mA)^2, samples, and linear energy of each FET in mW. -/
  sumI2 : Nat
  count : Nat
  sumLinS : Nat
  sumLinB : Nat
  /-- Sum of the linear power of the episode's epochs (R322), mW. -/
  soaSum : Nat
  /-- P_lin of the last epoch, mW (R322). -/
  plin : Nat
  /-- T_S and T_B of the last epoch, in 2^-32 °C (R319). -/
  tS : Int
  tB : Int
  /-- Foster terms of FET S and FET B, poles 1-3, in 2^-32 K. -/
  theta : Vector Int 6
deriving DecidableEq, Repr

/-! ### Draught Scheduler -/

/-- A prediction in the ring of a channel (R292). -/
structure Pred where
  chan : Nat
  consumer : Nat
  /-- Target epoch and first epoch in force. -/
  target : Nat
  start : Nat
  /-- P_pred, 100 mW; tracking target in 100 mV; full_w of the channel. -/
  power : Nat
  volts : Nat
  fullW : Nat
  /-- The one hearth whose ring still holds it, after a reset of the other in Split (R302); none while both do. -/
  only : Option Hth := none
deriving DecidableEq, Repr

/-- A request for admission (R287): attach tick and port. -/
structure Admit where
  tick : Nat
  port : Port
  /-- It has waited in an epoch already. -/
  waited : Bool
deriving DecidableEq, Repr

/-- A port's demand record (R280): powers in 100 mW, voltages in mV, the point-1 Rp current in mA, 0 for a sink. -/
structure Demand where
  running : Bool
  reverse : Bool
  nDiv : Nat
  dv : Nat
  dvBase : Nat
  dvMax : Nat
  attached : Bool
  admitted : Bool
  source : Bool
  explicit : Bool
  power : Nat
  pdp : Nat
  floor : Nat
  fetT : Nat
  trk : Option TrkTerms
  vreq : Nat
  /-- FR_Swap reserve it asks for, 0 when it does not wish to arm. -/
  frs : Nat
  pm : Int
  /-- Type-C current of a sink without a contract, mA. -/
  rd : Nat
deriving DecidableEq, Repr

/-- What an epoch's run has decided for a port (Table 13.1): 100 mW, tracking targets in 100 mV, the bus target in mV. -/
structure PortPlan where
  pc : Nat
  gc : Nat
  gp : Nat
  bus : Nat
  trkCommitted : Nat
  trkPublished : Nat
  trkProv : Bool
  dv : Nat
  heat : Nat
  reserve : Nat
  admits : Bool
deriving DecidableEq, Repr

/-- The outputs of an epoch's run, which take effect at the next epoch tick (R279). -/
structure Plan where
  ports : Vector PortPlan 8
  feed : Nat
  s : Nat
  x : Nat
  m : Nat
  h : Nat
  lc : Nat
  isOver : Bool
  railA : Nat
  railB : Nat
  railProv : Bool
  dvProv : Bool
  provLocal : Nat
  provTotal : Nat
  hold : Bool
deriving DecidableEq, Repr

/-- What a hearth publishes beside its ports' records (R17): its temperature, °C + 40, and the capacity figure in use. -/
structure HearthFig where
  tj : Nat
  cap : Nat
deriving DecidableEq, Repr

/-- Scheduler state beside pages DRT and RUN. -/
structure Draught where
  queue : List Admit
  preds : List Pred
  /-- Feed of the last allocation (4 none), and consecutive holds. -/
  feed : Nat
  holds : Nat
  /-- FR_Swap reserves committed, 100 mW. -/
  reserve : Vector Nat 8
  /-- Peaks of the analogue envelope channels in the epoch under way, codes. -/
  peak0 : Nat
  peak1 : Nat
  /-- Demand records latched at the last exchange (R17), and the consecutive misses of each hearth (R18). -/
  records : Vector Demand 8
  exchA : Nat
  exchB : Nat
  /-- The hearths' temperatures and capacity figures, as latched with the records (R17, R280). -/
  figA : HearthFig
  figB : HearthFig
  /-- Ports whose hearth has been fenced in Split: latched as detached (R352). -/
  gone : BitVec 8
  /-- Ports derated in the last epoch (R282); the planned switch is to be treated as a shed (R298); recovery of R301 has been made since
  a feed was last selected. -/
  derated : BitVec 8
  shedDue : Bool
  noFeedDone : Bool
  /-- What the last run decided. -/
  plan : Option Plan
deriving DecidableEq, Repr

/-! ### Feeds -/

/-- Feed Selector state beside page FED. -/
structure FeedSel where
  /-- Gates driven on. -/
  gate : BitVec 4
  /-- Feeds whose window has held for the qualification time (R325). -/
  held : BitVec 4
  /-- The tick from which each feed's window of qualification has held without interruption; none while it does not. -/
  inFrom : Vector (Option Nat) 4
  /-- Outgoing feed and cause of the switch under way. -/
  from_ : Nat
  cause : Nat
  /-- The switch under way goes to the feed that the host chose (R327). -/
  manual : Bool
  /-- Step of R328 under way: 0 none, 1 dead time, 2 match wait, 3 limited insertion, 4 enhancing. -/
  step : Nat
  gapStart : Nat
  /-- Feeds held dropped or fenced by Flue (R368). -/
  dropped : BitVec 4
  /-- Feed named by a planned switch. -/
  planned : Nat
  plannedCause : Nat
  /-- Tick at which the notice was posted (R329). -/
  noticeTick : Option Nat
  /-- The feed request captured last (R12): the scheduler holds the switch and keeps the pre-charge (R299). -/
  hold : Bool
  /-- Sum of V x I of the selected feed over the epoch under way, mW, and its samples (R326). -/
  sumP : Int
  countP : Nat
deriving DecidableEq, Repr

/-! ### OTP store -/

/-- The OTP command that runs (R395): its number, word, region and data. -/
structure OtpRun where
  cmd : Nat
  word : Nat
  region : Nat
  data : Word
deriving DecidableEq, Repr

/-- The antifuse array and what was sensed of it (R384-R386). Cells are numbered: 0-1023 data words, 1024-1055 spares, 1056 + 2r and
1057 + 2r the seal words of region r, 1066 + 3r + k its fuse k (fin, wlock, rlock) with its copies in bits 2-0, 1081 + i the redirection
entry of spare i with its copies in bits 32-0. A word's bits 31-0 are d31-d0 and 38-32 are c6-c0. -/
structure Otp where
  /-- Bits that read 1 at normal margin, and those of them that read 0 at tight margin. -/
  cells : List (Nat × BitVec 39)
  weak : List (Nat × BitVec 39)
  /-- The shadows: words as resolved (R385), by cell number; finalised, write-locked and read-locked regions. -/
  shadow : List (Nat × Word)
  fin : BitVec 5
  wlock : BitVec 5
  rlock : BitVec 5
  /-- Words marginal at the last sense. -/
  marginal : List Nat
  /-- Words of finalised regions, as delivered at step 3 (R392). -/
  given : List (Nat × Word)
  /-- Signing engines whose key check has failed since the key was delivered (R220), by hearth. -/
  keyFailed : BitVec 2
  /-- The command that runs (R395). -/
  run : Option OtpRun
  /-- The model's own count of commands that a reset has cut short, which picks the free values of each (R396). -/
  cuts : Nat
deriving DecidableEq, Repr

/-! ### Type-C Authentication -/

/-- A challenge that waits for the signing engine or is being signed (R226, R228): port, role epoch, request, salt and the chain hash
when it was taken. -/
structure Challenge where
  port : Port
  epoch : Nat
  request : List Byte
  salt : List Byte
  chain : List Byte
deriving DecidableEq, Repr

/-- What SMBus and the wake pins leave behind beside the registers: the address matched in Smoulder (R413), the transaction held from
start-up step 3 on (R56), the level of the ADDR[2:0] balls, the bytes that the last read returned, and the alert bits of each page
(EVENT AND EVENT_EN) that stood at the last release of SMBALERT_N (R416). -/
structure Bus where
  wakeAddr : Option Nat
  held : Option Instr
  addrPins : BitVec 3
  out : List Byte
  acked : List (Nat × Word)
deriving DecidableEq, Repr

/-- The Comparator Array beside its pages: the comparators that fired on the tick `tick` (R339). -/
structure CmpArray where
  tick : Option Nat
  fired : BitVec 64
  /-- The latched outputs that have set and cleared on that tick (R340). -/
  rose : BitVec 64
  fell : BitVec 64
deriving DecidableEq, Repr

/-! ### The hearth boundary -/

/-- The capture registers of a port at the hearth boundary beside those of its loops (R12, R23): the presentation, the VCONN switch, the
run and stop commands, the DSCHG, the close command and the BMC transmitter captured last, and those of them that a higher command has kept
from the output. -/
structure CapPort where
  pres : Pres
  vconn : Bool
  run : Option Bool
  dschg : Bool
  close : Bool
  bmc : Bool
  presDue : Bool
  vconnDue : Bool
  dschgDue : Bool
deriving DecidableEq, Repr

/-- The hearth boundary: each port's capture registers and the rail targets of both hearths (R12). -/
structure Boundary where
  ports : Vector CapPort 8
  railA : Nat
  railB : Nat
deriving DecidableEq, Repr

/-! ### Tables of a hearth -/

/-- The tables of one hearth (Table 1.5): Lexicon, Phrasebook, OPCT, certificate slots, trace buffer. -/
structure Hearth where
  /-- Clauses and entries by position, positions rising, no zero entry listed. -/
  lex : List (Nat × Entry64)
  phb : List (Nat × Entry64)
  /-- OPCT entries by number (24 bits), no zero entry listed. -/
  opct : List (Nat × BitVec 24)
  /-- What stood, when the tick began, in the entries that have been written on this tick (R264). -/
  opctWas : List (Nat × BitVec 24)
  /-- Staged certificate bytes by window address, and the two slots. -/
  certStage : List (Nat × Byte)
  cert0 : List Byte
  cert1 : List Byte
  /-- SHA-256 of the slot-0 chain, once computed. -/
  digest : Option (List Byte)
  /-- Trace samples, oldest first, each node A and node B. -/
  trace : List (Word × Word)
  /-- A trigger has reached the armed capture: its cause as RESULT codes it, 0 none (R272). -/
  trigger : Nat
deriving DecidableEq, Repr

/-- A hearth with empty tables. -/
def Hearth.empty : Hearth :=
  { lex := [], phb := [], opct := [], opctWas := [], certStage := [], cert0 := [], cert1 := [], digest := none, trace := [], trigger := 0 }


/-! ### Empty stores: what each holds after a reset of its domain -/

/-- The array as it leaves Klodririn test (R387): regions 0 and 1 finalised and write-locked, and region 1 read-locked, each of those fuses
blown in its three copies and each seal the digest of the region's words (R389). The trims and the identity that a part holds, which the spec
does not give, and every other cell are unblown (DESIGN CHOICE, log 4). Nothing has been sensed yet. -/
def Otp.shipped : Otp :=
  { cells := [(1056, 0x17bab623d3), (1057, 0x68faf47fc4), (1058, 0x27d24b7383), (1059, 0x65128d1501),
              (1066, 7), (1067, 7), (1069, 7), (1070, 7), (1071, 7)]
    weak := [], shadow := [], fin := 3, wlock := 3, rlock := 2, marginal := [], given := [], keyFailed := 0, run := none, cuts := 0 }

def CapPort.empty : CapPort :=
  { pres := .rd, vconn := false, run := none, dschg := false, close := false, bmc := false, presDue := false, vconnDue := false, dschgDue := false }

def Boundary.empty : Boundary := { ports := Vector.replicate 8 CapPort.empty, railA := 0, railB := 0 }

def CcPort.empty : CcPort :=
  { cmd := .rd, thr := 3, goal := 3, attached := false, attachTick := 0, mv1 := 0, mv2 := 0, iso1 := false, iso2 := false, busy := false, detachTick := none,
    enTick := none, refusedWas := false, before := none }

def MsgPort.empty : MsgPort :=
  { queue := [], current := none, phase := .idle, signal := .empty, sigOn := false, assembly := none, nextChunk := 0, chunkDue := false,
    rxId := Vector.replicate 3 8, txId := Vector.replicate 3 0, aside := none }

/-- Parameters at their defaults (Table 7.8); noPd 0 stands for the Type-C current sensed. -/
def Params.default : Params :=
  { srcPdp := 240, imax := 5000, minOffer := 500, snkOp := 3000, snkPdp := 60, dbTarget := 120, pdoFlags := 0, noPd := 0 }

def PolPort.empty : PolPort :=
  { params := Params.default, seq := .idle, asking := 0, begun := false, cur := none, new := none, hardResets := 0, capsCount := 0, cableA := 0,
    cableEpr := false, partnerEpr := false, partnerFrs := 0, offered := false, offerEpr := false, partnerCaps := false, sourceKept := none,
    draft := none, eprCollected := false, role := 0, level := 0, settledSource := false, settledDfp := false,
    settledVconn := false, trying := 0, frsWanted := false, frsArmed := false, cableFails := 0, cableSeen := false,
    sinkTx := false, noPd := false, heldArg := 0, safeHeld := false, wait0V := false, fell0V := false, waitCaps := false,
    seqWas := .idle, hrKind := 0, frsDue := false, sinkOps := [], todo := [] }

def VdmPort.empty : VdmPort :=
  { waiting := [], ask := none, retried := false, modesLeft := [], svids := [], discovered := false, hostRequest := none,
    cableTries := 0, partnerVdo := 0, foundVdo := 0 }

def ThnPort.empty : ThnPort :=
  { seqNo := 0, missed := 0, heard := false, armed := none, sent := none, ending := none, broken := false, nextId := 1, terms := none,
    returning := none, vthHeld := 0, out := [], outTick := 0 }

/-- A channel that opens or closes: what a collapse has left stands (R211, R212). -/
def ThnPort.left (x : ThnPort) : ThnPort := { ThnPort.empty with returning := x.returning, vthHeld := x.vthHeld }

def Hist.zero : Hist := { e1 := 0, e2 := 0, e3 := 0, u1 := 0, u2 := 0, u3 := 0 }

/-- The reset values of Tables 11.9 and 11.10. -/
def StageCfg.reset : StageCfg :=
  { zero := 2048, ifs := 200, minPulse := 64, slew := 10, manual := false, ffEn := true, regionAuto := false, bankI := 0, bankV := 0,
    dvSplit := 0, sOff := 0, iUpd := 127, vUpd := 2047, icap := 0, ineg := 100 }

/-- The reset values of Table 12.5. -/
def OpWindow.reset : OpWindow := { base := 0, nM := 0, nI := 0, mBase := 0, mShift := 9, iBase := 0, iShift := 11 }

/-- The stage is Off (Table 12.1 row 1). -/
def SampleView.reset : SampleView :=
  { cfg := StageCfg.reset, rev := false, row := 1, mv := some 0, rate := 10, win := OpWindow.reset, valid := false, dv := 1 }

def VoltSample.empty : VoltSample := { e0 := 0, rev := false, il := 0, bank := 0, cfg := StageCfg.reset }

def LoopPort.empty : LoopPort :=
  { cfg := StageCfg.reset, begun := SampleView.reset, sOff := 0, sampled := none, il := 0, dueV := none, dueI := none, dv := 1, opIndex := 0,
    opEntry := none,
    capAtV := none, capAtI := none, yOld := 0, uOld := 0,
    hv := Hist.zero, hi := Hist.zero, resV := none, resI := none, capV := none, capI := none,
    lastV := (LoopResult.zero, LoopResult.zero), lastI := (LoopResult.zero, LoopResult.zero), iRef := 0, bus := 0, voltSample := false,
    bankI := 0, vs := VoltSample.empty, acc := 0, accInit := false, busMv := 0, jump := false, held := false, rails := 0, sinceV := 0, sinceI := 0,
    runV := 0, runI := 0, uPrev := 0, presetDue := false, runStored := false, switching := false,
    senLow := false, tripHold := false, energy := 0, samples := 0, missEpoch := 0 }

def FndPort.empty : FndPort :=
  { cfg := { insMs := 0, srcMax := 0, snkUv := 0, snkOv := 0, tInrush := 0, tLim := 0, toffMin := 0, count := 0, pmax := 0, emax := 0 },
    openTick := none, tripTick := none, onTick := 0, dschgWait := false, dschgSlow := false, detaching := false, sumI2 := 0, count := 0, sumLinS := 0,
    sumLinB := 0, soaSum := 0, plin := 0, tS := 0, tB := 0, theta := Vector.replicate 6 0 }

/-- A record of a port that is not there. -/
def Demand.none : Demand :=
  { running := false, reverse := false, nDiv := 40, dv := 1, dvBase := 1, dvMax := 4, attached := false, admitted := false,
    source := false, explicit := false, power := 0, pdp := 0, floor := 0, fetT := 0, trk := Option.none, vreq := 0, frs := 0, pm := 0,
    rd := 0 }

def Draught.empty : Draught :=
  { queue := [], preds := [], feed := 4, holds := 0, reserve := Vector.replicate 8 0, peak0 := 0, peak1 := 0,
    records := Vector.replicate 8 Demand.none, exchA := 0, exchB := 0,
    figA := { tj := 0, cap := 0 }, figB := { tj := 0, cap := 0 }, gone := 0, derated := 0, shedDue := false, noFeedDone := false,
    plan := none }

def FeedSel.empty : FeedSel :=
  { gate := 0, held := 0, inFrom := Vector.replicate 4 none, from_ := 4, cause := 0, manual := false, step := 0, gapStart := 0, dropped := 0, planned := 4, plannedCause := 0, noticeTick := none,
    hold := false, sumP := 0, countP := 0 }

/-- Why a step can stop with a fault. The spec gives every command an effect, so the model has no fault: the type is empty. -/
inductive Fault where
deriving DecidableEq, Repr

/-- Why a command has no meaning. -/
inductive Refusal where
  /-- Raised by `exec` for a command that this model does not give a meaning to yet: safe, the machine stops. -/
  | notModelled (mnemonic : String)
deriving DecidableEq, Repr

/-- What one hearth's logic holds beside its registers and stores (Table 1.1, note a of Table 3.8): the Message Layers, the Policy
Sequencer, the Phrasebook with Thatin, the Loop Engine and its lanes, Fender's logic, the scheduler and the Authentication Responder. -/
structure Logic where
  msg : Vector MsgPort 8
  pol : Vector PolPort 8
  vdm : Vector VdmPort 8
  thn : Vector ThnPort 8
  lp : Vector LoopPort 8
  lanes : Lanes
  fnd : Vector FndPort 8
  inputs : List Input
  draught : Draught
  auth : List Challenge
deriving DecidableEq, Repr

/-- A hearth's logic at its reset condition. -/
def Logic.empty : Logic :=
  { msg := Vector.replicate 8 MsgPort.empty, pol := Vector.replicate 8 PolPort.empty, vdm := Vector.replicate 8 VdmPort.empty,
    thn := Vector.replicate 8 ThnPort.empty, lp := Vector.replicate 8 LoopPort.empty, lanes := { waiting := [], busy := [] },
    fnd := Vector.replicate 8 FndPort.empty, inputs := [], draught := Draught.empty, auth := [] }

/-- The ZX-4808 as a block: its registers and stores, and the commands that wait, first in, first out. -/
structure State where
  /-- Waiting commands, oldest first. -/
  pending : List Instr
  /-- TBASE (R72). -/
  tbase : Tick
  /-- The model's own counter, applied to the free values of Config; no register of the device. -/
  fresh : Nat
  /-- The register fabric: key 4 x byte address + copy (0 single, 1 Hearth A, 2 Hearth B, 3 the snapshot in Ember SRAM) and word, keys
  rising, no word equal to its register's reset word. -/
  regs : List (Nat × Word)
  /-- Timers that run. -/
  timers : List Timer
  ember : Ember
  tb : TimeBase
  flue : Flue
  hearths : Hearths
  /-- Hidden state of the CC Front Ends, which stand once in the periphery (Table 1.1). Then the logic of the hearths that run the ports:
  Message Layers, policy, Phrasebook, Thatin, loops and Fender. Both hearths of a Mirror hold it identically (R13, R139, R193, R246), and in
  Split each port's is that of its owner; `apart` is that of a hearth that stands apart. -/
  cc : Vector CcPort 8
  msg : Vector MsgPort 8
  pol : Vector PolPort 8
  vdm : Vector VdmPort 8
  thn : Vector ThnPort 8
  lp : Vector LoopPort 8
  lanes : Lanes
  fnd : Vector FndPort 8
  /-- Pending inputs of the Policy Sequencer, oldest first (R139). -/
  inputs : List Input
  /-- Thermistors fitted, and those of them out of range (R321). -/
  ntcFitted : BitVec 4
  ntcFault : BitVec 4
  draught : Draught
  feeds : FeedSel
  hA : Hearth
  hB : Hearth
  /-- Fallback coefficient sets delivered from the OTP boot configuration (R248): voltage loops, current loops. -/
  fallbackV : List Word
  fallbackI : List Word
  otp : Otp
  /-- Challenges in the order taken; the first is being signed (R228). -/
  auth : List Challenge
  pins : Bus
  boundary : Boundary
  /-- The Comparator Array. -/
  array : CmpArray
  /-- A wake has lost the OPCT; step 6 reports it (R266). -/
  opctLost : Bool
  /-- The logic of a Fenced or Copying hearth that has been reset since it last stood as the running one (R353, R355, note a); none where it
stands as that one does, receiving the same inputs (R13, R352). -/
  apart : Option Logic
deriving DecidableEq, Repr

/-- Right after a power-on reset (R62): start-up stands at step 1 (Table 3.5), every register at its reset value, every store
empty, no command waiting. -/
def State.reset : State where
  pending := []
  tbase := 0
  fresh := 0
  regs := []
  timers := []
  ember :=
    { dev := .startup, entry := none, latched := none, coldEntered := false, coldSource := 0, vsysArmed := false,
      resetHeld := false, kind := .powerOn, step := 1, kindling := none, kindleClosed := false, resensePending := false, tbaseAtEntry := 0,
      addrNext := none, coarseAcc := 0, ccPolled := 0, refreshK := 0, aliveOn := false, alive := false, aliveCount := 0, aliveHeld := 0, counterSave := [] }
  tb := { anchor := 0, lastEdge := none, frameEdge := none, bad := 0, frames := 0,
          carriers := Vector.replicate 8 { anchor := 0, lastStart := none, nEff := 40, auto := 0 }, laps := 0 }
  flue := { rails := [], records := [], broken := [], asserted := [], testPair := none, ash := [], serial := 0, newest := 0, first := none }
  hearths := { mode := .solo, roleA := .off, roleB := .off, startFence := false, offA := false, offB := false, goal := none,
               source := .A, prevA := .off, prevB := .off, wait := .nothing, seqTick := none, orderTick := none, offDue := false, exchange := false, missA := 0, missB := 0, missEpoch := 0,
               lostA := none, lostB := none, snapTick := none, trialSeen := Vector.replicate 16 0 }
  cc := Vector.replicate 8 CcPort.empty
  msg := Vector.replicate 8 MsgPort.empty
  pol := Vector.replicate 8 PolPort.empty
  vdm := Vector.replicate 8 VdmPort.empty
  thn := Vector.replicate 8 ThnPort.empty
  lp := Vector.replicate 8 LoopPort.empty
  lanes := { waiting := [], busy := [] }
  fnd := Vector.replicate 8 FndPort.empty
  inputs := []
  ntcFitted := 0
  ntcFault := 0
  draught := Draught.empty
  feeds := FeedSel.empty
  hA := Hearth.empty
  hB := Hearth.empty
  fallbackV := List.replicate 4 0
  fallbackI := List.replicate 4 0
  otp := Otp.shipped
  auth := []
  pins := { wakeAddr := none, held := none, addrPins := 0, out := [], acked := [] }
  boundary := Boundary.empty
  array := { tick := none, fired := 0, rose := 0, fell := 0 }
  opctLost := false
  apart := none

end Sys2Proof.Machine
end

