-- ==== Sys2Proof/Machine/Fields.lean ====
section
/-! DEFINITION. Every field of the register pages, under the manual's own names (PAGE_REGISTER_field), with its byte
address, its bits and where it is held (R16, R423; the field tables 5.6-20.8). A port page takes the port, a run of
like registers takes the index. Generated by transcription from the field tables of spec/. -/

namespace Sys2Proof.Machine

/-- Page of port n: 0x20 + 8n + k (Table 20.2). -/
def portPage (n : Port) (k : Nat) : Nat := 0x20 + 8 * n.val + k

/-- Debug page k of a hearth (Table 16.7; B is at +6). -/
def dbgPage (h : Hth) (k : Nat) : Nat := 0x60 + k + (match h with | .A => 0 | .B => 6)

end Sys2Proof.Machine

namespace Sys2Proof.Machine.F

/-! Page DEV. -/
abbrev DEV_STATUS_degraded : Field := ⟨.single, 0x0004, 9, 1⟩
abbrev DEV_STATUS_l3 : Field := ⟨.single, 0x0004, 8, 1⟩
abbrev DEV_STATUS_pstate : Field := ⟨.single, 0x0004, 4, 2⟩
abbrev DEV_STATUS_boot_step : Field := ⟨.single, 0x0004, 0, 4⟩
abbrev DEV_EVENT_hold_refused : Field := ⟨.single, 0x0008, 3, 1⟩
abbrev DEV_EVENT_key_refused : Field := ⟨.single, 0x0008, 2, 1⟩
abbrev DEV_EVENT_dialect_down : Field := ⟨.single, 0x0008, 1, 1⟩
abbrev DEV_EVENT_booted : Field := ⟨.single, 0x0008, 0, 1⟩
abbrev DEV_CONTROL_soft_reset : Field := ⟨.single, 0x0014, 0, 1⟩
abbrev DEV_KEY_key : Field := ⟨.single, 0x0018, 0, 32⟩
abbrev DEV_SEQ_boots : Field := ⟨.single, 0x001C, 0, 8⟩
abbrev DEV_DEVICE_ID_part : Field := ⟨.single, 0x0020, 16, 16⟩
abbrev DEV_DEVICE_ID_step_major : Field := ⟨.single, 0x0020, 8, 8⟩
abbrev DEV_DEVICE_ID_step_minor : Field := ⟨.single, 0x0020, 0, 8⟩
abbrev DEV_DIALECT_requested : Field := ⟨.single, 0x0024, 24, 8⟩
abbrev DEV_DIALECT_highest : Field := ⟨.single, 0x0024, 16, 8⟩
abbrev DEV_DIALECT_major : Field := ⟨.single, 0x0024, 8, 8⟩
abbrev DEV_DIALECT_minor : Field := ⟨.single, 0x0024, 0, 8⟩
abbrev DEV_RESET_CAUSE_cause : Field := ⟨.single, 0x0028, 0, 4⟩
abbrev DEV_ALERT_SUMMARY_pages (k : Nat) : Field := ⟨.single, 0x0030 + 4 * k, 0, 32⟩

/-! Page EMB. -/
abbrev EMB_STATUS_pstate : Field := ⟨.single, 0x0104, 12, 2⟩
abbrev EMB_STATUS_refuse : Field := ⟨.single, 0x0104, 8, 3⟩
abbrev EMB_STATUS_kindled : Field := ⟨.single, 0x0104, 7, 1⟩
abbrev EMB_STATUS_vconn_in_ok : Field := ⟨.single, 0x0104, 6, 1⟩
abbrev EMB_STATUS_vdrv_ok : Field := ⟨.single, 0x0104, 5, 1⟩
abbrev EMB_STATUS_vddio_ok : Field := ⟨.single, 0x0104, 4, 1⟩
abbrev EMB_STATUS_vsys_ok : Field := ⟨.single, 0x0104, 3, 1⟩
abbrev EMB_STATUS_src_kindle : Field := ⟨.single, 0x0104, 2, 1⟩
abbrev EMB_STATUS_src_vsys : Field := ⟨.single, 0x0104, 1, 1⟩
abbrev EMB_STATUS_src_vstby : Field := ⟨.single, 0x0104, 0, 1⟩
abbrev EMB_EVENT_cfg_refused : Field := ⟨.single, 0x0108, 3, 1⟩
abbrev EMB_EVENT_woken : Field := ⟨.single, 0x0108, 2, 1⟩
abbrev EMB_EVENT_source_lost : Field := ⟨.single, 0x0108, 1, 1⟩
abbrev EMB_EVENT_pstate_refused : Field := ⟨.single, 0x0108, 0, 1⟩
abbrev EMB_KEY_key : Field := ⟨.single, 0x0118, 0, 32⟩
abbrev EMB_SEQ_transitions : Field := ⟨.single, 0x011C, 0, 8⟩
abbrev EMB_PSTATE_CMD_req : Field := ⟨.single, 0x0120, 0, 4⟩
abbrev EMB_WAKE_EN_alarm : Field := ⟨.single, 0x0124, 18, 1⟩
abbrev EMB_WAKE_EN_smbus : Field := ⟨.single, 0x0124, 17, 1⟩
abbrev EMB_WAKE_EN_wake_n : Field := ⟨.single, 0x0124, 16, 1⟩
abbrev EMB_WAKE_EN_vbus : Field := ⟨.single, 0x0124, 8, 8⟩
abbrev EMB_WAKE_EN_cc : Field := ⟨.single, 0x0124, 0, 8⟩
abbrev EMB_WAKE_SRC_from : Field := ⟨.single, 0x0128, 10, 2⟩
abbrev EMB_WAKE_SRC_in_entry : Field := ⟨.single, 0x0128, 9, 1⟩
abbrev EMB_WAKE_SRC_port : Field := ⟨.single, 0x0128, 6, 3⟩
abbrev EMB_WAKE_SRC_source : Field := ⟨.single, 0x0128, 0, 4⟩
abbrev EMB_ALARM_ticks : Field := ⟨.single, 0x012C, 0, 32⟩
abbrev EMB_COARSE_count : Field := ⟨.single, 0x0130, 0, 32⟩

/-! Page TB. -/
abbrev TB_STATUS_lock : Field := ⟨.single, 0x0204, 4, 1⟩
abbrev TB_STATUS_cal_valid : Field := ⟨.single, 0x0204, 3, 1⟩
abbrev TB_STATUS_qualified : Field := ⟨.single, 0x0204, 2, 1⟩
abbrev TB_STATUS_ref_src : Field := ⟨.single, 0x0204, 0, 2⟩
abbrev TB_EVENT_cfg_refused : Field := ⟨.single, 0x0208, 5, 1⟩
abbrev TB_EVENT_coarse_uncal : Field := ⟨.single, 0x0208, 4, 1⟩
abbrev TB_EVENT_sync_lock : Field := ⟨.single, 0x0208, 3, 1⟩
abbrev TB_EVENT_sync_lost : Field := ⟨.single, 0x0208, 2, 1⟩
abbrev TB_EVENT_ref_lost : Field := ⟨.single, 0x0208, 1, 1⟩
abbrev TB_EVENT_ref_change : Field := ⟨.single, 0x0208, 0, 1⟩
abbrev TB_SEQ_changes : Field := ⟨.single, 0x021C, 0, 8⟩
abbrev TB_CONFIG_ref_khz : Field := ⟨.single, 0x0220, 16, 16⟩
abbrev TB_CONFIG_ref_port : Field := ⟨.single, 0x0220, 8, 3⟩
abbrev TB_CONFIG_ref_sel : Field := ⟨.single, 0x0220, 0, 2⟩
abbrev TB_TBASE_LO_tbase : Field := ⟨.single, 0x0224, 0, 32⟩
abbrev TB_TBASE_HI_tbase : Field := ⟨.single, 0x0228, 0, 16⟩
abbrev TB_COARSE_CAL_ratio : Field := ⟨.single, 0x022C, 0, 32⟩
abbrev TB_SYNC_CFG_frames : Field := ⟨.single, 0x0230, 16, 9⟩
abbrev TB_SYNC_CFG_frame_ticks : Field := ⟨.single, 0x0230, 0, 16⟩
abbrev TB_SYNC_OUT_out_delay : Field := ⟨.single, 0x0234, 16, 16⟩
abbrev TB_SYNC_OUT_out_ticks : Field := ⟨.single, 0x0234, 0, 16⟩
abbrev TB_ANCHOR_a : Field := ⟨.single, 0x0238, 0, 32⟩
abbrev TB_FRAME_MEAS_good : Field := ⟨.single, 0x023C, 16, 8⟩
abbrev TB_FRAME_MEAS_len : Field := ⟨.single, 0x023C, 0, 16⟩
abbrev TB_REF_MEAS_khz : Field := ⟨.single, 0x0240, 0, 16⟩

/-! Page FLU. -/
abbrev FLU_STATUS_l3 : Field := ⟨.single, 0x0304, 31, 1⟩
abbrev FLU_STATUS_fault_n : Field := ⟨.single, 0x0304, 30, 1⟩
abbrev FLU_STATUS_open : Field := ⟨.single, 0x0304, 16, 8⟩
abbrev FLU_STATUS_l3_resets : Field := ⟨.single, 0x0304, 12, 4⟩
abbrev FLU_EVENT_cfg_refused : Field := ⟨.single, 0x0308, 8, 1⟩
abbrev FLU_EVENT_clear_refused : Field := ⟨.single, 0x0308, 7, 1⟩
abbrev FLU_EVENT_recover_stop : Field := ⟨.single, 0x0308, 6, 1⟩
abbrev FLU_EVENT_recovered : Field := ⟨.single, 0x0308, 5, 1⟩
abbrev FLU_EVENT_report_path : Field := ⟨.single, 0x0308, 4, 1⟩
abbrev FLU_EVENT_level3 : Field := ⟨.single, 0x0308, 3, 1⟩
abbrev FLU_EVENT_level2 : Field := ⟨.single, 0x0308, 2, 1⟩
abbrev FLU_EVENT_level1 : Field := ⟨.single, 0x0308, 1, 1⟩
abbrev FLU_EVENT_level0 : Field := ⟨.single, 0x0308, 0, 1⟩
abbrev FLU_EVENT_EN_en : Field := ⟨.single, 0x030C, 0, 32⟩
abbrev FLU_CONTROL_group : Field := ⟨.single, 0x0314, 20, 4⟩
abbrev FLU_CONTROL_unit : Field := ⟨.single, 0x0314, 12, 8⟩
abbrev FLU_CONTROL_cmd : Field := ⟨.single, 0x0314, 0, 8⟩
abbrev FLU_KEY_key : Field := ⟨.single, 0x0318, 0, 32⟩
abbrev FLU_SEQ_opened : Field := ⟨.single, 0x031C, 0, 8⟩
abbrev FLU_CONFIG_l3_auto : Field := ⟨.single, 0x0320, 31, 1⟩
abbrev FLU_CONFIG_log_l0 : Field := ⟨.single, 0x0320, 30, 1⟩
abbrev FLU_CONFIG_l3_hold : Field := ⟨.single, 0x0320, 16, 8⟩
abbrev FLU_CONFIG_l3_limit : Field := ⟨.single, 0x0320, 12, 4⟩
abbrev FLU_CONFIG_quiet_s : Field := ⟨.single, 0x0320, 0, 6⟩
abbrev FLU_GRACE_persist (k : Nat) : Field := ⟨.single, 0x0324 + 4 * k, 16, 16⟩
abbrev FLU_GRACE_grace (k : Nat) : Field := ⟨.single, 0x0324 + 4 * k, 0, 16⟩
abbrev FLU_REC_SEL_group : Field := ⟨.single, 0x0358, 24, 4⟩
abbrev FLU_REC_SEL_unit : Field := ⟨.single, 0x0358, 16, 8⟩
abbrev FLU_REC_STATUS_open : Field := ⟨.single, 0x035C, 31, 1⟩
abbrev FLU_REC_STATUS_level : Field := ⟨.single, 0x035C, 28, 3⟩
abbrev FLU_REC_STATUS_live : Field := ⟨.single, 0x035C, 27, 1⟩
abbrev FLU_REC_STATUS_merges : Field := ⟨.single, 0x035C, 16, 8⟩
abbrev FLU_REC_STATUS_source : Field := ⟨.single, 0x035C, 8, 8⟩
abbrev FLU_REC_STATUS_last : Field := ⟨.single, 0x035C, 0, 8⟩
abbrev FLU_REC_TIMER_timer : Field := ⟨.single, 0x0360, 16, 2⟩
abbrev FLU_REC_TIMER_left : Field := ⟨.single, 0x0360, 0, 16⟩
abbrev FLU_GROUPS_l2 : Field := ⟨.single, 0x0364, 16, 13⟩
abbrev FLU_GROUPS_open : Field := ⟨.single, 0x0364, 0, 13⟩
abbrev FLU_RCV_counters (k : Nat) : Field := ⟨.single, 0x0368 + 4 * k, 0, 32⟩
abbrev FLU_INJECT_kindle_stall : Field := ⟨.single, 0x03A0, 11, 1⟩
abbrev FLU_INJECT_vsys_lost : Field := ⟨.single, 0x03A0, 10, 1⟩
abbrev FLU_INJECT_report_path : Field := ⟨.single, 0x03A0, 9, 1⟩
abbrev FLU_INJECT_exch_b : Field := ⟨.single, 0x03A0, 8, 1⟩
abbrev FLU_INJECT_exch_a : Field := ⟨.single, 0x03A0, 7, 1⟩
abbrev FLU_INJECT_rail_b : Field := ⟨.single, 0x03A0, 6, 1⟩
abbrev FLU_INJECT_rail_a : Field := ⟨.single, 0x03A0, 5, 1⟩
abbrev FLU_INJECT_kat_b : Field := ⟨.single, 0x03A0, 4, 1⟩
abbrev FLU_INJECT_kat_a : Field := ⟨.single, 0x03A0, 3, 1⟩
abbrev FLU_INJECT_refclk_lost : Field := ⟨.single, 0x03A0, 2, 1⟩
abbrev FLU_INJECT_vdrv_uv : Field := ⟨.single, 0x03A0, 1, 1⟩
abbrev FLU_INJECT_vddio_uv : Field := ⟨.single, 0x03A0, 0, 1⟩
abbrev FLU_TEST_hold : Field := ⟨.single, 0x03A4, 31, 1⟩
abbrev FLU_TEST_source : Field := ⟨.single, 0x03A4, 16, 8⟩
abbrev FLU_TEST_unit : Field := ⟨.single, 0x03A4, 8, 8⟩

/-! Page ASH. -/
abbrev ASH_STATUS_newest : Field := ⟨.single, 0x0404, 24, 5⟩
abbrev ASH_STATUS_count : Field := ⟨.single, 0x0404, 16, 6⟩
abbrev ASH_STATUS_first_valid : Field := ⟨.single, 0x0404, 0, 1⟩
abbrev ASH_EVENT_soot_sat : Field := ⟨.single, 0x0408, 2, 1⟩
abbrev ASH_EVENT_wrapped : Field := ⟨.single, 0x0408, 1, 1⟩
abbrev ASH_EVENT_recorded : Field := ⟨.single, 0x0408, 0, 1⟩
abbrev ASH_CONTROL_soot_clear : Field := ⟨.single, 0x0414, 2, 1⟩
abbrev ASH_CONTROL_first_clear : Field := ⟨.single, 0x0414, 1, 1⟩
abbrev ASH_CONTROL_ash_clear : Field := ⟨.single, 0x0414, 0, 1⟩
abbrev ASH_KEY_key : Field := ⟨.single, 0x0418, 0, 32⟩
abbrev ASH_SEQ_entries : Field := ⟨.single, 0x041C, 0, 8⟩
abbrev ASH_INDEX_age : Field := ⟨.single, 0x0420, 0, 5⟩
abbrev ASH_REC_entry (k : Nat) : Field := ⟨.single, 0x0424 + 4 * k, 0, 32⟩
abbrev ASH_FIRST_entry (k : Nat) : Field := ⟨.single, 0x0434 + 4 * k, 0, 32⟩
abbrev ASH_SOOT_odd (k : Nat) : Field := ⟨.single, 0x0444 + 4 * k, 16, 16⟩
abbrev ASH_SOOT_even (k : Nat) : Field := ⟨.single, 0x0444 + 4 * k, 0, 16⟩

/-! Page OTP. -/
abbrev OTP_STATUS_digest_fail : Field := ⟨.single, 0x0504, 8, 5⟩
abbrev OTP_STATUS_busy : Field := ⟨.single, 0x0504, 7, 1⟩
abbrev OTP_STATUS_fuse_hold : Field := ⟨.single, 0x0504, 6, 1⟩
abbrev OTP_STATUS_cond_ok : Field := ⟨.single, 0x0504, 5, 1⟩
abbrev OTP_STATUS_unfinal : Field := ⟨.single, 0x0504, 0, 5⟩
abbrev OTP_EVENT_field_invalid : Field := ⟨.single, 0x0508, 6, 1⟩
abbrev OTP_EVENT_spare_used : Field := ⟨.single, 0x0508, 5, 1⟩
abbrev OTP_EVENT_uncorrectable : Field := ⟨.single, 0x0508, 4, 1⟩
abbrev OTP_EVENT_marginal : Field := ⟨.single, 0x0508, 3, 1⟩
abbrev OTP_EVENT_refused : Field := ⟨.single, 0x0508, 2, 1⟩
abbrev OTP_EVENT_failed : Field := ⟨.single, 0x0508, 1, 1⟩
abbrev OTP_EVENT_done : Field := ⟨.single, 0x0508, 0, 1⟩
abbrev OTP_KEY_key : Field := ⟨.single, 0x0518, 0, 32⟩
abbrev OTP_SEQ_commands : Field := ⟨.single, 0x051C, 0, 8⟩
abbrev OTP_CMD_cmd : Field := ⟨.single, 0x0520, 28, 4⟩
abbrev OTP_CMD_margin : Field := ⟨.single, 0x0520, 24, 2⟩
abbrev OTP_CMD_region : Field := ⟨.single, 0x0520, 16, 3⟩
abbrev OTP_CMD_word : Field := ⟨.single, 0x0520, 0, 10⟩
abbrev OTP_WDATA_data : Field := ⟨.single, 0x0524, 0, 32⟩
abbrev OTP_RDATA_data : Field := ⟨.single, 0x0528, 0, 32⟩
abbrev OTP_RECC_uncorr : Field := ⟨.single, 0x052C, 17, 1⟩
abbrev OTP_RECC_corrected : Field := ⟨.single, 0x052C, 16, 1⟩
abbrev OTP_RECC_ecc : Field := ⟨.single, 0x052C, 0, 7⟩
abbrev OTP_RESULT_cmd : Field := ⟨.single, 0x0530, 28, 4⟩
abbrev OTP_RESULT_outcome : Field := ⟨.single, 0x0530, 24, 4⟩
abbrev OTP_RESULT_reason : Field := ⟨.single, 0x0530, 20, 4⟩
abbrev OTP_RESULT_pulses : Field := ⟨.single, 0x0530, 16, 4⟩
abbrev OTP_RESULT_word : Field := ⟨.single, 0x0530, 0, 10⟩
abbrev OTP_MARGINAL_ecc_corr : Field := ⟨.single, 0x0534, 16, 16⟩
abbrev OTP_MARGINAL_margin_corr : Field := ⟨.single, 0x0534, 0, 16⟩
abbrev OTP_MARG_LOG_occasion : Field := ⟨.single, 0x0538, 28, 4⟩
abbrev OTP_MARG_LOG_tj : Field := ⟨.single, 0x0538, 16, 8⟩
abbrev OTP_MARG_LOG_word : Field := ⟨.single, 0x0538, 0, 10⟩
abbrev OTP_BAD_WORD_valid : Field := ⟨.single, 0x053C, 31, 1⟩
abbrev OTP_BAD_WORD_word : Field := ⟨.single, 0x053C, 0, 10⟩
abbrev OTP_BAD_FIELD_valid : Field := ⟨.single, 0x0540, 31, 1⟩
abbrev OTP_BAD_FIELD_offset : Field := ⟨.single, 0x0540, 0, 7⟩
abbrev OTP_SPARES_used : Field := ⟨.single, 0x0544, 0, 6⟩
abbrev OTP_REGION_marginal (k : Nat) : Field := ⟨.single, 0x0548 + 4 * k, 16, 8⟩
abbrev OTP_REGION_uncorrectable (k : Nat) : Field := ⟨.single, 0x0548 + 4 * k, 8, 8⟩
abbrev OTP_REGION_digest_fail (k : Nat) : Field := ⟨.single, 0x0548 + 4 * k, 4, 1⟩
abbrev OTP_REGION_rlock (k : Nat) : Field := ⟨.single, 0x0548 + 4 * k, 3, 1⟩
abbrev OTP_REGION_wlock (k : Nat) : Field := ⟨.single, 0x0548 + 4 * k, 2, 1⟩
abbrev OTP_REGION_fin (k : Nat) : Field := ⟨.single, 0x0548 + 4 * k, 1, 1⟩
abbrev OTP_DIG_digest (k : Nat) : Field := ⟨.single, 0x055C + 4 * k, 0, 32⟩
abbrev OTP_COND_tj : Field := ⟨.single, 0x0584, 16, 8⟩
abbrev OTP_COND_vsys : Field := ⟨.single, 0x0584, 8, 8⟩
abbrev OTP_COND_paths_open : Field := ⟨.single, 0x0584, 0, 1⟩

/-! Page SMB. -/
abbrev SMB_STATUS_stuck_self : Field := ⟨.single, 0x0604, 23, 1⟩
abbrev SMB_STATUS_addr : Field := ⟨.single, 0x0604, 16, 7⟩
abbrev SMB_STATUS_pins : Field := ⟨.single, 0x0604, 12, 3⟩
abbrev SMB_STATUS_ovr : Field := ⟨.single, 0x0604, 11, 1⟩
abbrev SMB_STATUS_alert : Field := ⟨.single, 0x0604, 10, 1⟩
abbrev SMB_STATUS_busy : Field := ⟨.single, 0x0604, 9, 1⟩
abbrev SMB_STATUS_stretch : Field := ⟨.single, 0x0604, 8, 1⟩
abbrev SMB_STATUS_page : Field := ⟨.single, 0x0604, 0, 8⟩
abbrev SMB_EVENT_cfg_refused : Field := ⟨.single, 0x0608, 9, 1⟩
abbrev SMB_EVENT_ara_lost : Field := ⟨.single, 0x0608, 8, 1⟩
abbrev SMB_EVENT_wake : Field := ⟨.single, 0x0608, 7, 1⟩
abbrev SMB_EVENT_abandoned : Field := ⟨.single, 0x0608, 6, 1⟩
abbrev SMB_EVENT_sda_stuck : Field := ⟨.single, 0x0608, 5, 1⟩
abbrev SMB_EVENT_scl_timeout : Field := ⟨.single, 0x0608, 4, 1⟩
abbrev SMB_EVENT_bad_count : Field := ⟨.single, 0x0608, 3, 1⟩
abbrev SMB_EVENT_bad_cmd : Field := ⟨.single, 0x0608, 2, 1⟩
abbrev SMB_EVENT_protocol : Field := ⟨.single, 0x0608, 1, 1⟩
abbrev SMB_EVENT_pec_fail : Field := ⟨.single, 0x0608, 0, 1⟩
abbrev SMB_CONTROL_realert : Field := ⟨.single, 0x0614, 0, 1⟩
abbrev SMB_SEQ_commits : Field := ⟨.single, 0x061C, 0, 8⟩
abbrev SMB_CONFIG_rd_len : Field := ⟨.single, 0x0620, 16, 8⟩
abbrev SMB_CONFIG_alert_mode : Field := ⟨.single, 0x0620, 4, 1⟩
abbrev SMB_CONFIG_pec : Field := ⟨.single, 0x0620, 0, 2⟩
abbrev SMB_LAST_ERR_reason : Field := ⟨.single, 0x0624, 24, 8⟩
abbrev SMB_LAST_ERR_cmd : Field := ⟨.single, 0x0624, 16, 8⟩
abbrev SMB_LAST_ERR_page : Field := ⟨.single, 0x0624, 8, 8⟩
abbrev SMB_LAST_ERR_bytes : Field := ⟨.single, 0x0624, 0, 8⟩
abbrev SMB_COUNTS_committed : Field := ⟨.single, 0x0628, 16, 16⟩
abbrev SMB_COUNTS_failed : Field := ⟨.single, 0x0628, 0, 16⟩

/-! Page IDN. -/
abbrev IDN_STATUS_pending : Field := ⟨.dev, 0x0704, 8, 8⟩
abbrev IDN_STATUS_digest_busy : Field := ⟨.dev, 0x0704, 3, 1⟩
abbrev IDN_STATUS_state : Field := ⟨.dev, 0x0704, 1, 2⟩
abbrev IDN_STATUS_key_ok : Field := ⟨.dev, 0x0704, 0, 1⟩
abbrev IDN_EVENT_window_refused : Field := ⟨.dev, 0x0708, 5, 1⟩
abbrev IDN_EVENT_load_refused : Field := ⟨.dev, 0x0708, 4, 1⟩
abbrev IDN_EVENT_chain_changed : Field := ⟨.dev, 0x0708, 3, 1⟩
abbrev IDN_EVENT_request_error : Field := ⟨.dev, 0x0708, 2, 1⟩
abbrev IDN_EVENT_challenge_signed : Field := ⟨.dev, 0x0708, 1, 1⟩
abbrev IDN_EVENT_key_bad : Field := ⟨.dev, 0x0708, 0, 1⟩
abbrev IDN_CONTROL_abort : Field := ⟨.dev, 0x0714, 2, 1⟩
abbrev IDN_CONTROL_commit : Field := ⟨.dev, 0x0714, 1, 1⟩
abbrev IDN_CONTROL_load_begin : Field := ⟨.dev, 0x0714, 0, 1⟩
abbrev IDN_KEY_key : Field := ⟨.dev, 0x0718, 0, 32⟩
abbrev IDN_SEQ_chains : Field := ⟨.dev, 0x071C, 0, 8⟩
abbrev IDN_CHAIN_CFG_root_sel : Field := ⟨.dev, 0x0720, 0, 1⟩
abbrev IDN_CERT_LEN_len (k : Nat) : Field := ⟨.dev, 0x0724 + 4 * k, 0, 12⟩
abbrev IDN_WIN_ADDR_slot : Field := ⟨.dev, 0x072C, 9, 1⟩
abbrev IDN_WIN_ADDR_word : Field := ⟨.dev, 0x072C, 0, 9⟩
abbrev IDN_CHAIN_LEN_len : Field := ⟨.dev, 0x0730, 0, 16⟩
abbrev IDN_DEV_CERT_LEN_len : Field := ⟨.dev, 0x0734, 0, 16⟩
abbrev IDN_SIGN_COUNT_count : Field := ⟨.dev, 0x0738, 0, 32⟩
abbrev IDN_LAST_ERR_port : Field := ⟨.dev, 0x073C, 8, 3⟩
abbrev IDN_LAST_ERR_code : Field := ⟨.dev, 0x073C, 0, 8⟩
abbrev IDN_ROOT_HASH_hash (k : Nat) : Field := ⟨.dev, 0x0740 + 4 * k, 0, 32⟩
abbrev IDN_DIGEST_digest (k : Nat) : Field := ⟨.dev, 0x0760 + 4 * k, 0, 32⟩
abbrev IDN_PUBKEY_X_x (k : Nat) : Field := ⟨.dev, 0x0780 + 4 * k, 0, 32⟩
abbrev IDN_PUBKEY_Y_y (k : Nat) : Field := ⟨.dev, 0x07A0 + 4 * k, 0, 32⟩
abbrev IDN_SERIAL_serial (k : Nat) : Field := ⟨.dev, 0x07C0 + 4 * k, 0, 32⟩

/-! Page DRT. -/
abbrev DRT_STATUS_shed : Field := ⟨.dev, 0x0804, 25, 1⟩
abbrev DRT_STATUS_over : Field := ⟨.dev, 0x0804, 24, 1⟩
abbrev DRT_STATUS_queue : Field := ⟨.dev, 0x0804, 20, 4⟩
abbrev DRT_STATUS_feed : Field := ⟨.dev, 0x0804, 17, 3⟩
abbrev DRT_STATUS_hold : Field := ⟨.dev, 0x0804, 16, 1⟩
abbrev DRT_STATUS_frs_armed : Field := ⟨.dev, 0x0804, 8, 8⟩
abbrev DRT_STATUS_admitted : Field := ⟨.dev, 0x0804, 0, 8⟩
abbrev DRT_EVENT_cfg_refused : Field := ⟨.dev, 0x0808, 7, 1⟩
abbrev DRT_EVENT_hold_expired : Field := ⟨.dev, 0x0808, 6, 1⟩
abbrev DRT_EVENT_nofeed_recovery : Field := ⟨.dev, 0x0808, 5, 1⟩
abbrev DRT_EVENT_shortfall : Field := ⟨.dev, 0x0808, 4, 1⟩
abbrev DRT_EVENT_shed : Field := ⟨.dev, 0x0808, 3, 1⟩
abbrev DRT_EVENT_admit_wait : Field := ⟨.dev, 0x0808, 2, 1⟩
abbrev DRT_EVENT_heat_derate : Field := ⟨.dev, 0x0808, 1, 1⟩
abbrev DRT_EVENT_budget : Field := ⟨.dev, 0x0808, 0, 1⟩
abbrev DRT_SEQ_changes : Field := ⟨.dev, 0x081C, 0, 8⟩
abbrev DRT_CONFIG_hold_max : Field := ⟨.dev, 0x0820, 24, 8⟩
abbrev DRT_CONFIG_step_w : Field := ⟨.dev, 0x0820, 16, 8⟩
abbrev DRT_CONFIG_admit_max : Field := ⟨.dev, 0x0820, 8, 2⟩
abbrev DRT_CONFIG_nofeed : Field := ⟨.dev, 0x0820, 0, 8⟩
abbrev DRT_LOCAL_peak_w : Field := ⟨.dev, 0x0824, 16, 12⟩
abbrev DRT_LOCAL_base_w : Field := ⟨.dev, 0x0824, 0, 12⟩
abbrev DRT_FEED_CAP_supply_w (k : Nat) : Field := ⟨.dev, 0x0828 + 4 * k, 16, 12⟩
abbrev DRT_FEED_CAP_absorb_w (k : Nat) : Field := ⟨.dev, 0x0828 + 4 * k, 0, 12⟩
abbrev DRT_THERMAL_tj_hot : Field := ⟨.dev, 0x0838, 24, 8⟩
abbrev DRT_THERMAL_tj_rail : Field := ⟨.dev, 0x0838, 16, 8⟩
abbrev DRT_THERMAL_t_stop : Field := ⟨.dev, 0x0838, 8, 8⟩
abbrev DRT_THERMAL_t_start : Field := ⟨.dev, 0x0838, 0, 8⟩
abbrev DRT_CAP_CFG_rail_max : Field := ⟨.dev, 0x083C, 24, 5⟩
abbrev DRT_CAP_CFG_rail_min : Field := ⟨.dev, 0x083C, 16, 5⟩
abbrev DRT_CAP_CFG_lower_pct : Field := ⟨.dev, 0x083C, 8, 8⟩
abbrev DRT_CAP_CFG_raise_pct : Field := ⟨.dev, 0x083C, 0, 8⟩
abbrev DRT_PORT_CFG_pmax_w (k : Nat) : Field := ⟨.dev, 0x0840 + 4 * k, 24, 8⟩
abbrev DRT_PORT_CFG_floor_w (k : Nat) : Field := ⟨.dev, 0x0840 + 4 * k, 16, 8⟩
abbrev DRT_PORT_CFG_imp_w (k : Nat) : Field := ⟨.dev, 0x0840 + 4 * k, 8, 8⟩
abbrev DRT_PORT_CFG_prio (k : Nat) : Field := ⟨.dev, 0x0840 + 4 * k, 4, 4⟩
abbrev DRT_PORT_CFG_weight (k : Nat) : Field := ⟨.dev, 0x0840 + 4 * k, 0, 4⟩
abbrev DRT_POOL_s : Field := ⟨.dev, 0x0860, 16, 16⟩
abbrev DRT_POOL_x : Field := ⟨.dev, 0x0860, 0, 16⟩
abbrev DRT_COMMIT_m : Field := ⟨.dev, 0x0864, 16, 16⟩
abbrev DRT_COMMIT_headroom : Field := ⟨.dev, 0x0864, 0, 16⟩
abbrev DRT_LOCAL_STATUS_lc : Field := ⟨.dev, 0x0868, 16, 16⟩
abbrev DRT_LOCAL_STATUS_meas : Field := ⟨.dev, 0x0868, 0, 16⟩
abbrev DRT_BUS_CFG_nofeed : Field := ⟨.dev, 0x086C, 16, 9⟩
abbrev DRT_BUS_CFG_lift : Field := ⟨.dev, 0x086C, 0, 6⟩
abbrev DRT_TJ_rail_tgt : Field := ⟨.dev, 0x0870, 8, 5⟩
abbrev DRT_TJ_tj : Field := ⟨.dev, 0x0870, 0, 8⟩
abbrev DRT_GRANT_committed (k : Nat) : Field := ⟨.dev, 0x0880 + 4 * k, 16, 16⟩
abbrev DRT_GRANT_provisional (k : Nat) : Field := ⟨.dev, 0x0880 + 4 * k, 0, 16⟩
abbrev DRT_CLAMP_heat_cap (k : Nat) : Field := ⟨.dev, 0x08A0 + 4 * k, 16, 16⟩
abbrev DRT_CLAMP_clamp_on (k : Nat) : Field := ⟨.dev, 0x08A0 + 4 * k, 15, 1⟩
abbrev DRT_CLAMP_clamp (k : Nat) : Field := ⟨.dev, 0x08A0 + 4 * k, 0, 15⟩
abbrev DRT_ADMIT_order : Field := ⟨.dev, 0x08C0, 0, 24⟩

/-! Page RUN. -/
abbrev RUN_STATUS_backoff : Field := ⟨.dev, 0x0904, 16, 8⟩
abbrev RUN_STATUS_trk_pub : Field := ⟨.dev, 0x0904, 8, 8⟩
abbrev RUN_STATUS_chans : Field := ⟨.dev, 0x0904, 4, 4⟩
abbrev RUN_STATUS_rail_prov : Field := ⟨.dev, 0x0904, 3, 1⟩
abbrev RUN_STATUS_dv_prov : Field := ⟨.dev, 0x0904, 2, 1⟩
abbrev RUN_STATUS_precharge : Field := ⟨.dev, 0x0904, 1, 1⟩
abbrev RUN_STATUS_prov : Field := ⟨.dev, 0x0904, 0, 1⟩
abbrev RUN_EVENT_cfg_refused : Field := ⟨.dev, 0x0908, 3, 1⟩
abbrev RUN_EVENT_env_lost : Field := ⟨.dev, 0x0908, 2, 1⟩
abbrev RUN_EVENT_squash : Field := ⟨.dev, 0x0908, 1, 1⟩
abbrev RUN_EVENT_confirmed : Field := ⟨.dev, 0x0908, 0, 1⟩
abbrev RUN_CONTROL_squash : Field := ⟨.dev, 0x0914, 0, 1⟩
abbrev RUN_SEQ_squashes : Field := ⟨.dev, 0x091C, 0, 8⟩
abbrev RUN_CONFIG_backoff : Field := ⟨.dev, 0x0920, 24, 8⟩
abbrev RUN_CONFIG_tol_pct : Field := ⟨.dev, 0x0920, 16, 8⟩
abbrev RUN_CONFIG_lead : Field := ⟨.dev, 0x0920, 8, 8⟩
abbrev RUN_CONFIG_act : Field := ⟨.dev, 0x0920, 4, 4⟩
abbrev RUN_CONFIG_en : Field := ⟨.dev, 0x0920, 0, 1⟩
abbrev RUN_ENV_CFG_target (k : Nat) : Field := ⟨.dev, 0x0924 + 4 * k, 28, 4⟩
abbrev RUN_ENV_CFG_full_w (k : Nat) : Field := ⟨.dev, 0x0924 + 4 * k, 16, 12⟩
abbrev RUN_ENV_CFG_mode (k : Nat) : Field := ⟨.dev, 0x0924 + 4 * k, 12, 2⟩
abbrev RUN_LEVEL_e (k : Nat) : Field := ⟨.dev, 0x0934 + 4 * k, 0, 16⟩
abbrev RUN_PROV_local : Field := ⟨.dev, 0x0944, 16, 16⟩
abbrev RUN_PROV_total : Field := ⟨.dev, 0x0944, 0, 16⟩
abbrev RUN_SQUASH_cause : Field := ⟨.dev, 0x0948, 29, 3⟩
abbrev RUN_SQUASH_epoch : Field := ⟨.dev, 0x0948, 0, 24⟩
abbrev RUN_TRK_TGT_committed (k : Nat) : Field := ⟨.dev, 0x094C + 4 * k, 23, 9⟩
abbrev RUN_TRK_TGT_published (k : Nat) : Field := ⟨.dev, 0x094C + 4 * k, 14, 9⟩
abbrev RUN_PRED_COUNT_checked : Field := ⟨.dev, 0x096C, 16, 16⟩
abbrev RUN_PRED_COUNT_confirmed : Field := ⟨.dev, 0x096C, 0, 16⟩

/-! Page FED. -/
abbrev FED_STATUS_enabled : Field := ⟨.single, 0x0A04, 16, 4⟩
abbrev FED_STATUS_qualified : Field := ⟨.single, 0x0A04, 12, 4⟩
abbrev FED_STATUS_lost : Field := ⟨.single, 0x0A04, 8, 4⟩
abbrev FED_STATUS_manual : Field := ⟨.single, 0x0A04, 7, 1⟩
abbrev FED_STATUS_precharge : Field := ⟨.single, 0x0A04, 6, 1⟩
abbrev FED_STATUS_switching : Field := ⟨.single, 0x0A04, 5, 1⟩
abbrev FED_STATUS_notice : Field := ⟨.single, 0x0A04, 4, 1⟩
abbrev FED_STATUS_selected : Field := ⟨.single, 0x0A04, 0, 3⟩
abbrev FED_EVENT_cfg_refused : Field := ⟨.single, 0x0A08, 9, 1⟩
abbrev FED_EVENT_match_timeout : Field := ⟨.single, 0x0A08, 8, 1⟩
abbrev FED_EVENT_ins_timeout : Field := ⟨.single, 0x0A08, 7, 1⟩
abbrev FED_EVENT_reverse : Field := ⟨.single, 0x0A08, 6, 1⟩
abbrev FED_EVENT_overcurrent : Field := ⟨.single, 0x0A08, 5, 1⟩
abbrev FED_EVENT_lost : Field := ⟨.single, 0x0A08, 4, 1⟩
abbrev FED_EVENT_no_feed : Field := ⟨.single, 0x0A08, 3, 1⟩
abbrev FED_EVENT_unplanned : Field := ⟨.single, 0x0A08, 2, 1⟩
abbrev FED_EVENT_planned : Field := ⟨.single, 0x0A08, 1, 1⟩
abbrev FED_EVENT_qualified : Field := ⟨.single, 0x0A08, 0, 1⟩
abbrev FED_CONTROL_req : Field := ⟨.single, 0x0A14, 0, 3⟩
abbrev FED_SEQ_switches : Field := ⟨.single, 0x0A1C, 0, 8⟩
abbrev FED_CONFIG_dt_us : Field := ⟨.single, 0x0A20, 24, 8⟩
abbrev FED_CONFIG_match_ms : Field := ⟨.single, 0x0A20, 16, 8⟩
abbrev FED_CONFIG_ins_a : Field := ⟨.single, 0x0A20, 8, 8⟩
abbrev FED_CONFIG_ins_ms : Field := ⟨.single, 0x0A20, 2, 6⟩
abbrev FED_CONFIG_revert : Field := ⟨.single, 0x0A20, 1, 1⟩
abbrev FED_FEED_CFG_prio (k : Nat) : Field := ⟨.single, 0x0A24 + 4 * k, 24, 3⟩
abbrev FED_FEED_CFG_qual (k : Nat) : Field := ⟨.single, 0x0A24 + 4 * k, 16, 8⟩
abbrev FED_FEED_CFG_fail_us (k : Nat) : Field := ⟨.single, 0x0A24 + 4 * k, 8, 8⟩
abbrev FED_FEED_WIN_ov (k : Nat) : Field := ⟨.single, 0x0A34 + 4 * k, 16, 10⟩
abbrev FED_FEED_WIN_uv (k : Nat) : Field := ⟨.single, 0x0A34 + 4 * k, 0, 10⟩
abbrev FED_FEED_SNS_rfsns (k : Nat) : Field := ⟨.single, 0x0A44 + 4 * k, 16, 12⟩
abbrev FED_FEED_SNS_ioc (k : Nat) : Field := ⟨.single, 0x0A44 + 4 * k, 8, 8⟩
abbrev FED_FEED_SNS_irev (k : Nat) : Field := ⟨.single, 0x0A44 + 4 * k, 0, 8⟩
abbrev FED_MEAS_i (k : Nat) : Field := ⟨.single, 0x0A54 + 4 * k, 16, 16⟩
abbrev FED_MEAS_v (k : Nat) : Field := ⟨.single, 0x0A54 + 4 * k, 0, 16⟩
abbrev FED_BUS_p : Field := ⟨.single, 0x0A64, 16, 16⟩
abbrev FED_BUS_v_bus : Field := ⟨.single, 0x0A64, 0, 16⟩
abbrev FED_LAST_SWITCH_cause : Field := ⟨.single, 0x0A68, 29, 3⟩
abbrev FED_LAST_SWITCH_from : Field := ⟨.single, 0x0A68, 24, 3⟩
abbrev FED_LAST_SWITCH_to : Field := ⟨.single, 0x0A68, 20, 3⟩
abbrev FED_LAST_SWITCH_gap_us : Field := ⟨.single, 0x0A68, 0, 16⟩

/-! Page CMP. -/
abbrev CMP_STATUS_live (page : Nat) : Field := ⟨.single, (0x0B + page) * 256 + 0x4, 0, 32⟩
abbrev CMP_EVENT_latched (page : Nat) : Field := ⟨.single, (0x0B + page) * 256 + 0x8, 0, 32⟩
abbrev CMP_SEQ_latches (page : Nat) : Field := ⟨.single, (0x0B + page) * 256 + 0x1C, 0, 8⟩
abbrev CMP_SIDE_side (page : Nat) : Field := ⟨.single, (0x0B + page) * 256 + 0x20, 0, 32⟩
abbrev CMP_OWNER_fender (page : Nat) : Field := ⟨.single, (0x0B + page) * 256 + 0x24, 0, 32⟩
abbrev CMP_CFG_REFUSED_refused (page : Nat) : Field := ⟨.single, (0x0B + page) * 256 + 0x28, 0, 32⟩
abbrev CMP_CFG_hi (page : Nat) (k : Nat) : Field := ⟨.single, (0x0B + page) * 256 + 0x2C + 4 * k, 24, 8⟩
abbrev CMP_CFG_lo (page : Nat) (k : Nat) : Field := ⟨.single, (0x0B + page) * 256 + 0x2C + 4 * k, 16, 8⟩
abbrev CMP_CFG_filt (page : Nat) (k : Nat) : Field := ⟨.single, (0x0B + page) * 256 + 0x2C + 4 * k, 11, 5⟩
abbrev CMP_CFG_period (page : Nat) (k : Nat) : Field := ⟨.single, (0x0B + page) * 256 + 0x2C + 4 * k, 9, 2⟩
abbrev CMP_CFG_input (page : Nat) (k : Nat) : Field := ⟨.single, (0x0B + page) * 256 + 0x2C + 4 * k, 6, 3⟩
abbrev CMP_CFG_idx (page : Nat) (k : Nat) : Field := ⟨.single, (0x0B + page) * 256 + 0x2C + 4 * k, 3, 3⟩
abbrev CMP_CFG_flue_en (page : Nat) (k : Nat) : Field := ⟨.single, (0x0B + page) * 256 + 0x2C + 4 * k, 2, 1⟩
abbrev CMP_CFG_en (page : Nat) (k : Nat) : Field := ⟨.single, (0x0B + page) * 256 + 0x2C + 4 * k, 0, 1⟩

/-! Page HTH. -/
abbrev HTH_STATUS_refuse : Field := ⟨.single, 0x0D04, 17, 3⟩
abbrev HTH_STATUS_busy : Field := ⟨.single, 0x0D04, 16, 1⟩
abbrev HTH_STATUS_degraded : Field := ⟨.single, 0x0D04, 15, 1⟩
abbrev HTH_STATUS_active : Field := ⟨.single, 0x0D04, 14, 1⟩
abbrev HTH_STATUS_role_b : Field := ⟨.single, 0x0D04, 11, 3⟩
abbrev HTH_STATUS_role_a : Field := ⟨.single, 0x0D04, 8, 3⟩
abbrev HTH_STATUS_st_fail_b : Field := ⟨.single, 0x0D04, 5, 1⟩
abbrev HTH_STATUS_st_fail_a : Field := ⟨.single, 0x0D04, 4, 1⟩
abbrev HTH_STATUS_mode : Field := ⟨.single, 0x0D04, 0, 2⟩
abbrev HTH_EVENT_copy_restart : Field := ⟨.single, 0x0D08, 10, 1⟩
abbrev HTH_EVENT_cfg_refused : Field := ⟨.single, 0x0D08, 9, 1⟩
abbrev HTH_EVENT_cmd_refused : Field := ⟨.single, 0x0D08, 8, 1⟩
abbrev HTH_EVENT_stale_cmd : Field := ⟨.single, 0x0D08, 7, 1⟩
abbrev HTH_EVENT_mode_refused : Field := ⟨.single, 0x0D08, 6, 1⟩
abbrev HTH_EVENT_mode_changed : Field := ⟨.single, 0x0D08, 5, 1⟩
abbrev HTH_EVENT_readmit_failed : Field := ⟨.single, 0x0D08, 4, 1⟩
abbrev HTH_EVENT_readmitted : Field := ⟨.single, 0x0D08, 3, 1⟩
abbrev HTH_EVENT_fenced_b : Field := ⟨.single, 0x0D08, 2, 1⟩
abbrev HTH_EVENT_fenced_a : Field := ⟨.single, 0x0D08, 1, 1⟩
abbrev HTH_EVENT_takeover : Field := ⟨.single, 0x0D08, 0, 1⟩
abbrev HTH_CONTROL_epoch : Field := ⟨.single, 0x0D14, 24, 8⟩
abbrev HTH_CONTROL_arg : Field := ⟨.single, 0x0D14, 8, 16⟩
abbrev HTH_CONTROL_reset_b : Field := ⟨.single, 0x0D14, 5, 1⟩
abbrev HTH_CONTROL_reset_a : Field := ⟨.single, 0x0D14, 4, 1⟩
abbrev HTH_CONTROL_cmd : Field := ⟨.single, 0x0D14, 0, 4⟩
abbrev HTH_KEY_key : Field := ⟨.single, 0x0D18, 0, 32⟩
abbrev HTH_SEQ_epoch : Field := ⟨.single, 0x0D1C, 0, 8⟩
abbrev HTH_MODE_solo_hearth : Field := ⟨.single, 0x0D20, 4, 1⟩
abbrev HTH_MODE_mode : Field := ⟨.single, 0x0D20, 0, 2⟩
abbrev HTH_VOTE_CFG_fence_off : Field := ⟨.single, 0x0D24, 16, 1⟩
abbrev HTH_VOTE_CFG_trial : Field := ⟨.single, 0x0D24, 8, 8⟩
abbrev HTH_VOTE_CFG_miss_tol : Field := ⟨.single, 0x0D24, 0, 4⟩
abbrev HTH_COPY_STATUS_progress : Field := ⟨.single, 0x0D28, 16, 16⟩
abbrev HTH_COPY_STATUS_attempts : Field := ⟨.single, 0x0D28, 4, 4⟩
abbrev HTH_COPY_STATUS_phase : Field := ⟨.single, 0x0D28, 0, 3⟩
abbrev HTH_LAST_TAKEOVER_output : Field := ⟨.single, 0x0D2C, 8, 4⟩
abbrev HTH_LAST_TAKEOVER_port : Field := ⟨.single, 0x0D2C, 4, 3⟩
abbrev HTH_LAST_TAKEOVER_loser : Field := ⟨.single, 0x0D2C, 3, 1⟩
abbrev HTH_LAST_TAKEOVER_cause : Field := ⟨.single, 0x0D2C, 0, 3⟩
abbrev HTH_TAKEOVER_TIME_LO_tbase : Field := ⟨.single, 0x0D30, 0, 32⟩
abbrev HTH_TAKEOVER_TIME_HI_tbase : Field := ⟨.single, 0x0D34, 0, 16⟩
abbrev HTH_COUNTS_losses : Field := ⟨.single, 0x0D38, 16, 16⟩
abbrev HTH_COUNTS_takeovers : Field := ⟨.single, 0x0D38, 0, 16⟩
abbrev HTH_RAIL_code_b : Field := ⟨.single, 0x0D3C, 8, 5⟩
abbrev HTH_RAIL_code_a : Field := ⟨.single, 0x0D3C, 0, 5⟩

/-! Page LEN. -/
abbrev LEN_STATUS_w_min : Field := ⟨.dev, 0x0E04, 16, 5⟩
abbrev LEN_STATUS_t_adc : Field := ⟨.dev, 0x0E04, 8, 5⟩
abbrev LEN_STATUS_feasible : Field := ⟨.dev, 0x0E04, 3, 1⟩
abbrev LEN_STATUS_lanes : Field := ⟨.dev, 0x0E04, 0, 3⟩
abbrev LEN_EVENT_deadline : Field := ⟨.dev, 0x0E08, 1, 1⟩
abbrev LEN_EVENT_infeasible : Field := ⟨.dev, 0x0E08, 0, 1⟩
abbrev LEN_SEQ_changes : Field := ⟨.dev, 0x0E1C, 0, 8⟩
abbrev LEN_CAPACITY_cap_used : Field := ⟨.dev, 0x0E20, 16, 16⟩
abbrev LEN_CAPACITY_cap : Field := ⟨.dev, 0x0E20, 0, 16⟩
abbrev LEN_DEMAND_demand : Field := ⟨.dev, 0x0E24, 0, 16⟩
abbrev LEN_RAIL_code : Field := ⟨.dev, 0x0E28, 0, 5⟩
abbrev LEN_EVALS_count : Field := ⟨.dev, 0x0E2C, 0, 32⟩
abbrev LEN_MISSES_count : Field := ⟨.dev, 0x0E30, 0, 32⟩

/-! Page TRC. -/
abbrev TRC_STATUS_state : Field := ⟨.dev, 0x0F04, 0, 3⟩
abbrev TRC_EVENT_frozen : Field := ⟨.dev, 0x0F08, 4, 1⟩
abbrev TRC_EVENT_cfg_refused : Field := ⟨.dev, 0x0F08, 3, 1⟩
abbrev TRC_EVENT_window_refused : Field := ⟨.dev, 0x0F08, 2, 1⟩
abbrev TRC_EVENT_done : Field := ⟨.dev, 0x0F08, 1, 1⟩
abbrev TRC_EVENT_triggered : Field := ⟨.dev, 0x0F08, 0, 1⟩
abbrev TRC_CONTROL_force_trigger : Field := ⟨.dev, 0x0F14, 2, 1⟩
abbrev TRC_CONTROL_stop : Field := ⟨.dev, 0x0F14, 1, 1⟩
abbrev TRC_CONTROL_arm : Field := ⟨.dev, 0x0F14, 0, 1⟩
abbrev TRC_SEQ_captures : Field := ⟨.dev, 0x0F1C, 0, 8⟩
abbrev TRC_CFG_msg_ports : Field := ⟨.dev, 0x0F20, 24, 8⟩
abbrev TRC_CFG_strobe : Field := ⟨.dev, 0x0F20, 20, 4⟩
abbrev TRC_CFG_k : Field := ⟨.dev, 0x0F20, 16, 4⟩
abbrev TRC_CFG_port_b : Field := ⟨.dev, 0x0F20, 13, 3⟩
abbrev TRC_CFG_node_b : Field := ⟨.dev, 0x0F20, 8, 5⟩
abbrev TRC_CFG_port_a : Field := ⟨.dev, 0x0F20, 5, 3⟩
abbrev TRC_CFG_node_a : Field := ⟨.dev, 0x0F20, 0, 5⟩
abbrev TRC_CAPTURE_post : Field := ⟨.dev, 0x0F24, 16, 14⟩
abbrev TRC_CAPTURE_pre : Field := ⟨.dev, 0x0F24, 0, 14⟩
abbrev TRC_TRIG_SRC_lex : Field := ⟨.dev, 0x0F28, 3, 1⟩
abbrev TRC_TRIG_SRC_flue : Field := ⟨.dev, 0x0F28, 2, 1⟩
abbrev TRC_TRIG_SRC_cmp : Field := ⟨.dev, 0x0F28, 1, 1⟩
abbrev TRC_TRIG_SRC_host : Field := ⟨.dev, 0x0F28, 0, 1⟩
abbrev TRC_TRIG_CMP_edge : Field := ⟨.dev, 0x0F2C, 8, 2⟩
abbrev TRC_TRIG_CMP_cmp : Field := ⟨.dev, 0x0F2C, 0, 6⟩
abbrev TRC_TRIG_FLUE_source : Field := ⟨.dev, 0x0F30, 16, 8⟩
abbrev TRC_TRIG_FLUE_level : Field := ⟨.dev, 0x0F30, 0, 2⟩
abbrev TRC_TRIG_LEX_any : Field := ⟨.dev, 0x0F34, 16, 1⟩
abbrev TRC_TRIG_LEX_ports : Field := ⟨.dev, 0x0F34, 8, 8⟩
abbrev TRC_TRIG_LEX_code : Field := ⟨.dev, 0x0F34, 0, 8⟩
abbrev TRC_RESULT_cause : Field := ⟨.dev, 0x0F38, 29, 3⟩
abbrev TRC_RESULT_trig_pos : Field := ⟨.dev, 0x0F38, 15, 14⟩
abbrev TRC_RESULT_count : Field := ⟨.dev, 0x0F38, 0, 15⟩
abbrev TRC_TRIG_TIME_LO_tbase : Field := ⟨.dev, 0x0F3C, 0, 32⟩
abbrev TRC_TRIG_TIME_HI_tbase : Field := ⟨.dev, 0x0F40, 0, 16⟩
abbrev TRC_WIN_ADDR_word : Field := ⟨.dev, 0x0F44, 0, 15⟩

/-! Page LEX. -/
abbrev LEX_STATUS_src : Field := ⟨.dev, 0x1004, 30, 2⟩
abbrev LEX_STATUS_state : Field := ⟨.dev, 0x1004, 28, 2⟩
abbrev LEX_STATUS_fail_reason : Field := ⟨.dev, 0x1004, 25, 3⟩
abbrev LEX_STATUS_fail_index : Field := ⟨.dev, 0x1004, 12, 11⟩
abbrev LEX_STATUS_active_count : Field := ⟨.dev, 0x1004, 0, 12⟩
abbrev LEX_EVENT_window_refused : Field := ⟨.dev, 0x1008, 6, 1⟩
abbrev LEX_EVENT_seed_refused : Field := ⟨.dev, 0x1008, 5, 1⟩
abbrev LEX_EVENT_seed_absent : Field := ⟨.dev, 0x1008, 4, 1⟩
abbrev LEX_EVENT_empty_image : Field := ⟨.dev, 0x1008, 3, 1⟩
abbrev LEX_EVENT_image_refused : Field := ⟨.dev, 0x1008, 2, 1⟩
abbrev LEX_EVENT_seed_loaded : Field := ⟨.dev, 0x1008, 1, 1⟩
abbrev LEX_EVENT_loaded : Field := ⟨.dev, 0x1008, 0, 1⟩
abbrev LEX_CONTROL_revert_seed : Field := ⟨.dev, 0x1014, 3, 1⟩
abbrev LEX_CONTROL_abort : Field := ⟨.dev, 0x1014, 2, 1⟩
abbrev LEX_CONTROL_commit : Field := ⟨.dev, 0x1014, 1, 1⟩
abbrev LEX_CONTROL_load_begin : Field := ⟨.dev, 0x1014, 0, 1⟩
abbrev LEX_KEY_key : Field := ⟨.dev, 0x1018, 0, 32⟩
abbrev LEX_SEQ_activations : Field := ⟨.dev, 0x101C, 0, 8⟩
abbrev LEX_IMG_HDR_hdr (k : Nat) : Field := ⟨.dev, 0x1020 + 4 * k, 0, 32⟩
abbrev LEX_ACTIVE_HDR_hdr (k : Nat) : Field := ⟨.dev, 0x1030 + 4 * k, 0, 32⟩
abbrev LEX_WIN_ADDR_index : Field := ⟨.dev, 0x1040, 0, 11⟩

/-! Page PHB. -/
abbrev PHB_STATUS_src : Field := ⟨.dev, 0x1104, 30, 2⟩
abbrev PHB_STATUS_state : Field := ⟨.dev, 0x1104, 28, 2⟩
abbrev PHB_STATUS_fail_reason : Field := ⟨.dev, 0x1104, 25, 3⟩
abbrev PHB_STATUS_fail_index : Field := ⟨.dev, 0x1104, 10, 9⟩
abbrev PHB_STATUS_active_count : Field := ⟨.dev, 0x1104, 0, 10⟩
abbrev PHB_EVENT_window_refused : Field := ⟨.dev, 0x1108, 6, 1⟩
abbrev PHB_EVENT_seed_refused : Field := ⟨.dev, 0x1108, 5, 1⟩
abbrev PHB_EVENT_seed_absent : Field := ⟨.dev, 0x1108, 4, 1⟩
abbrev PHB_EVENT_empty_image : Field := ⟨.dev, 0x1108, 3, 1⟩
abbrev PHB_EVENT_image_refused : Field := ⟨.dev, 0x1108, 2, 1⟩
abbrev PHB_EVENT_seed_loaded : Field := ⟨.dev, 0x1108, 1, 1⟩
abbrev PHB_EVENT_loaded : Field := ⟨.dev, 0x1108, 0, 1⟩
abbrev PHB_CONTROL_revert_seed : Field := ⟨.dev, 0x1114, 3, 1⟩
abbrev PHB_CONTROL_abort : Field := ⟨.dev, 0x1114, 2, 1⟩
abbrev PHB_CONTROL_commit : Field := ⟨.dev, 0x1114, 1, 1⟩
abbrev PHB_CONTROL_load_begin : Field := ⟨.dev, 0x1114, 0, 1⟩
abbrev PHB_KEY_key : Field := ⟨.dev, 0x1118, 0, 32⟩
abbrev PHB_SEQ_activations : Field := ⟨.dev, 0x111C, 0, 8⟩
abbrev PHB_IMG_HDR_hdr (k : Nat) : Field := ⟨.dev, 0x1120 + 4 * k, 0, 32⟩
abbrev PHB_ACTIVE_HDR_hdr (k : Nat) : Field := ⟨.dev, 0x1130 + 4 * k, 0, 32⟩
abbrev PHB_WIN_ADDR_index : Field := ⟨.dev, 0x1140, 0, 9⟩

/-! Page OPC. -/
abbrev OPC_STATUS_exc_v : Field := ⟨.dev, 0x1204, 16, 8⟩
abbrev OPC_STATUS_exc_i : Field := ⟨.dev, 0x1204, 8, 8⟩
abbrev OPC_STATUS_clearing : Field := ⟨.dev, 0x1204, 1, 1⟩
abbrev OPC_STATUS_valid : Field := ⟨.dev, 0x1204, 0, 1⟩
abbrev OPC_EVENT_window_refused : Field := ⟨.dev, 0x1208, 18, 1⟩
abbrev OPC_EVENT_cfg_refused : Field := ⟨.dev, 0x1208, 17, 1⟩
abbrev OPC_EVENT_lost : Field := ⟨.dev, 0x1208, 16, 1⟩
abbrev OPC_EVENT_resid_v : Field := ⟨.dev, 0x1208, 8, 8⟩
abbrev OPC_EVENT_resid_i : Field := ⟨.dev, 0x1208, 0, 8⟩
abbrev OPC_CONTROL_clear_table : Field := ⟨.dev, 0x1214, 2, 1⟩
abbrev OPC_CONTROL_clear_valid : Field := ⟨.dev, 0x1214, 1, 1⟩
abbrev OPC_CONTROL_set_valid : Field := ⟨.dev, 0x1214, 0, 1⟩
abbrev OPC_KEY_key : Field := ⟨.dev, 0x1218, 0, 32⟩
abbrev OPC_SEQ_validations : Field := ⟨.dev, 0x121C, 0, 8⟩
abbrev OPC_WIN_SHAPE_base (k : Nat) : Field := ⟨.dev, 0x1220 + 4 * k, 16, 13⟩
abbrev OPC_WIN_SHAPE_n_m (k : Nat) : Field := ⟨.dev, 0x1220 + 4 * k, 8, 6⟩
abbrev OPC_WIN_SHAPE_n_i (k : Nat) : Field := ⟨.dev, 0x1220 + 4 * k, 0, 6⟩
abbrev OPC_WIN_AXES_m_shift (k : Nat) : Field := ⟨.dev, 0x1240 + 4 * k, 28, 4⟩
abbrev OPC_WIN_AXES_m_base (k : Nat) : Field := ⟨.dev, 0x1240 + 4 * k, 16, 12⟩
abbrev OPC_WIN_AXES_i_shift (k : Nat) : Field := ⟨.dev, 0x1240 + 4 * k, 12, 4⟩
abbrev OPC_WIN_AXES_i_base (k : Nat) : Field := ⟨.dev, 0x1240 + 4 * k, 0, 12⟩
abbrev OPC_MODEL_I_g (k : Nat) : Field := ⟨.dev, 0x1260 + 4 * k, 20, 12⟩
abbrev OPC_MODEL_I_cnt (k : Nat) : Field := ⟨.dev, 0x1260 + 4 * k, 16, 4⟩
abbrev OPC_MODEL_I_thr (k : Nat) : Field := ⟨.dev, 0x1260 + 4 * k, 0, 15⟩
abbrev OPC_MODEL_V_g (k : Nat) : Field := ⟨.dev, 0x1280 + 4 * k, 20, 12⟩
abbrev OPC_MODEL_V_cnt (k : Nat) : Field := ⟨.dev, 0x1280 + 4 * k, 16, 4⟩
abbrev OPC_MODEL_V_thr (k : Nat) : Field := ⟨.dev, 0x1280 + 4 * k, 0, 15⟩
abbrev OPC_WIN_ADDR_index : Field := ⟨.dev, 0x12A0, 0, 13⟩
abbrev OPC_LOOKUP_delta (k : Nat) : Field := ⟨.dev, 0x12A4 + 4 * k, 16, 16⟩
abbrev OPC_LOOKUP_used (k : Nat) : Field := ⟨.dev, 0x12A4 + 4 * k, 15, 1⟩
abbrev OPC_LOOKUP_index (k : Nat) : Field := ⟨.dev, 0x12A4 + 4 * k, 0, 13⟩
abbrev OPC_RESID_r_v (k : Nat) : Field := ⟨.dev, 0x12C4 + 4 * k, 16, 16⟩
abbrev OPC_RESID_r_i (k : Nat) : Field := ⟨.dev, 0x12C4 + 4 * k, 0, 16⟩

/-! Page THN. -/
abbrev THN_STATUS_ref_seen : Field := ⟨.dev, 0x1304, 24, 8⟩
abbrev THN_STATUS_link : Field := ⟨.dev, 0x1304, 16, 8⟩
abbrev THN_STATUS_tracking : Field := ⟨.dev, 0x1304, 8, 8⟩
abbrev THN_STATUS_entered : Field := ⟨.dev, 0x1304, 0, 8⟩
abbrev THN_EVENT_frame_crc : Field := ⟨.dev, 0x1308, 9, 1⟩
abbrev THN_EVENT_cfg_refused : Field := ⟨.dev, 0x1308, 8, 1⟩
abbrev THN_EVENT_version_down : Field := ⟨.dev, 0x1308, 7, 1⟩
abbrev THN_EVENT_trk_rejected : Field := ⟨.dev, 0x1308, 6, 1⟩
abbrev THN_EVENT_trk_collapse : Field := ⟨.dev, 0x1308, 5, 1⟩
abbrev THN_EVENT_trk_active : Field := ⟨.dev, 0x1308, 4, 1⟩
abbrev THN_EVENT_link_up : Field := ⟨.dev, 0x1308, 3, 1⟩
abbrev THN_EVENT_link_lost : Field := ⟨.dev, 0x1308, 2, 1⟩
abbrev THN_EVENT_exited : Field := ⟨.dev, 0x1308, 1, 1⟩
abbrev THN_EVENT_entered : Field := ⟨.dev, 0x1308, 0, 1⟩
abbrev THN_SVID_svid : Field := ⟨.dev, 0x1320, 0, 16⟩
abbrev THN_CONFIG_ports : Field := ⟨.dev, 0x1324, 24, 8⟩
abbrev THN_CONFIG_poll_ms : Field := ⟨.dev, 0x1324, 16, 8⟩
abbrev THN_CONFIG_slew_max : Field := ⟨.dev, 0x1324, 8, 8⟩
abbrev THN_CONFIG_v10_only : Field := ⟨.dev, 0x1324, 4, 1⟩
abbrev THN_CONFIG_auto_enter : Field := ⟨.dev, 0x1324, 3, 1⟩
abbrev THN_CONFIG_trk_snk_en : Field := ⟨.dev, 0x1324, 2, 1⟩
abbrev THN_CONFIG_trk_src_en : Field := ⟨.dev, 0x1324, 1, 1⟩
abbrev THN_TRK_SNK_vmax : Field := ⟨.dev, 0x1328, 16, 9⟩
abbrev THN_TRK_SNK_vmin : Field := ⟨.dev, 0x1328, 0, 9⟩
abbrev THN_PORT_STATUS_version (k : Nat) : Field := ⟨.dev, 0x1340 + 4 * k, 28, 2⟩
abbrev THN_PORT_STATUS_master (k : Nat) : Field := ⟨.dev, 0x1340 + 4 * k, 27, 1⟩
abbrev THN_PORT_STATUS_ref_drive (k : Nat) : Field := ⟨.dev, 0x1340 + 4 * k, 26, 1⟩
abbrev THN_PORT_STATUS_reason (k : Nat) : Field := ⟨.dev, 0x1340 + 4 * k, 23, 3⟩
abbrev THN_PORT_STATUS_id (k : Nat) : Field := ⟨.dev, 0x1340 + 4 * k, 15, 8⟩
abbrev THN_TRK_vhi (k : Nat) : Field := ⟨.dev, 0x1360 + 4 * k, 23, 9⟩
abbrev THN_TRK_vlo (k : Nat) : Field := ⟨.dev, 0x1360 + 4 * k, 14, 9⟩
abbrev THN_TRK_slew (k : Nat) : Field := ⟨.dev, 0x1360 + 4 * k, 6, 8⟩
abbrev THN_TRKP_p_trk (k : Nat) : Field := ⟨.dev, 0x1380 + 4 * k, 0, 8⟩
abbrev THN_TRK_REQ_vhi (k : Nat) : Field := ⟨.dev, 0x13A0 + 4 * k, 23, 9⟩
abbrev THN_TRK_REQ_vlo (k : Nat) : Field := ⟨.dev, 0x13A0 + 4 * k, 14, 9⟩
abbrev THN_TRK_REQ_slew (k : Nat) : Field := ⟨.dev, 0x13A0 + 4 * k, 6, 8⟩
abbrev THN_TEL_vbus (k : Nat) : Field := ⟨.dev, 0x13C0 + 4 * k, 16, 16⟩
abbrev THN_TEL_i (k : Nat) : Field := ⟨.dev, 0x13C0 + 4 * k, 0, 16⟩
abbrev THN_TELX_ref_khz (k : Nat) : Field := ⟨.dev, 0x13E0 + 4 * k, 16, 16⟩
abbrev THN_TELX_temp (k : Nat) : Field := ⟨.dev, 0x13E0 + 4 * k, 8, 8⟩
abbrev THN_TELX_flags (k : Nat) : Field := ⟨.dev, 0x13E0 + 4 * k, 0, 8⟩

/-! Page ADC. -/
abbrev ADC_STATUS_last : Field := ⟨.single, 0x1404, 8, 6⟩
abbrev ADC_STATUS_p : Field := ⟨.single, 0x1404, 0, 8⟩
abbrev ADC_EVENT_rail : Field := ⟨.single, 0x1408, 0, 1⟩
abbrev ADC_SEQ_cycles : Field := ⟨.single, 0x141C, 0, 8⟩
abbrev ADC_CODE_odd (k : Nat) : Field := ⟨.single, 0x1420 + 4 * k, 16, 12⟩
abbrev ADC_CODE_even (k : Nat) : Field := ⟨.single, 0x1420 + 4 * k, 0, 12⟩

/-! Page CC. -/
abbrev CC_STATUS_rp_level (n : Port) : Field := ⟨.single, portPage n 0 * 256 + 0x4, 27, 2⟩
abbrev CC_STATUS_vbus_mask (n : Port) : Field := ⟨.single, portPage n 0 * 256 + 0x4, 26, 1⟩
abbrev CC_STATUS_vconn_rev (n : Port) : Field := ⟨.single, portPage n 0 * 256 + 0x4, 25, 1⟩
abbrev CC_STATUS_vconn_on (n : Port) : Field := ⟨.single, portPage n 0 * 256 + 0x4, 24, 1⟩
abbrev CC_STATUS_db_clamp (n : Port) : Field := ⟨.single, portPage n 0 * 256 + 0x4, 23, 1⟩
abbrev CC_STATUS_vbus_present (n : Port) : Field := ⟨.single, portPage n 0 * 256 + 0x4, 22, 1⟩
abbrev CC_STATUS_cc_iso (n : Port) : Field := ⟨.single, portPage n 0 * 256 + 0x4, 21, 1⟩
abbrev CC_STATUS_toggling (n : Port) : Field := ⟨.single, portPage n 0 * 256 + 0x4, 20, 1⟩
abbrev CC_STATUS_attach (n : Port) : Field := ⟨.single, portPage n 0 * 256 + 0x4, 16, 4⟩
abbrev CC_STATUS_orient (n : Port) : Field := ⟨.single, portPage n 0 * 256 + 0x4, 15, 1⟩
abbrev CC_STATUS_pres2 (n : Port) : Field := ⟨.single, portPage n 0 * 256 + 0x4, 12, 3⟩
abbrev CC_STATUS_lvl2 (n : Port) : Field := ⟨.single, portPage n 0 * 256 + 0x4, 8, 4⟩
abbrev CC_STATUS_pres1 (n : Port) : Field := ⟨.single, portPage n 0 * 256 + 0x4, 4, 3⟩
abbrev CC_STATUS_lvl1 (n : Port) : Field := ⟨.single, portPage n 0 * 256 + 0x4, 0, 4⟩
abbrev CC_EVENT_accessory_ignored (n : Port) : Field := ⟨.single, portPage n 0 * 256 + 0x8, 13, 1⟩
abbrev CC_EVENT_vbus_no_cc (n : Port) : Field := ⟨.single, portPage n 0 * 256 + 0x8, 12, 1⟩
abbrev CC_EVENT_tx_collision (n : Port) : Field := ⟨.single, portPage n 0 * 256 + 0x8, 11, 1⟩
abbrev CC_EVENT_cfg_refused (n : Port) : Field := ⟨.single, portPage n 0 * 256 + 0x8, 10, 1⟩
abbrev CC_EVENT_sbu_ov (n : Port) : Field := ⟨.single, portPage n 0 * 256 + 0x8, 9, 1⟩
abbrev CC_EVENT_cc_ov (n : Port) : Field := ⟨.single, portPage n 0 * 256 + 0x8, 8, 1⟩
abbrev CC_EVENT_vconn_uv (n : Port) : Field := ⟨.single, portPage n 0 * 256 + 0x8, 7, 1⟩
abbrev CC_EVENT_vconn_oc (n : Port) : Field := ⟨.single, portPage n 0 * 256 + 0x8, 6, 1⟩
abbrev CC_EVENT_vconn_refused (n : Port) : Field := ⟨.single, portPage n 0 * 256 + 0x8, 5, 1⟩
abbrev CC_EVENT_other_pin (n : Port) : Field := ⟨.single, portPage n 0 * 256 + 0x8, 4, 1⟩
abbrev CC_EVENT_rp_change (n : Port) : Field := ⟨.single, portPage n 0 * 256 + 0x8, 3, 1⟩
abbrev CC_EVENT_cc_open_fast (n : Port) : Field := ⟨.single, portPage n 0 * 256 + 0x8, 2, 1⟩
abbrev CC_EVENT_detach (n : Port) : Field := ⟨.single, portPage n 0 * 256 + 0x8, 1, 1⟩
abbrev CC_EVENT_attach (n : Port) : Field := ⟨.single, portPage n 0 * 256 + 0x8, 0, 1⟩
abbrev CC_CONTROL_ov_release (n : Port) : Field := ⟨.single, portPage n 0 * 256 + 0x14, 1, 1⟩
abbrev CC_CONTROL_cc_ov_auto (n : Port) : Field := ⟨.single, portPage n 0 * 256 + 0x14, 0, 1⟩
abbrev CC_SEQ_changes (n : Port) : Field := ⟨.single, portPage n 0 * 256 + 0x1C, 0, 8⟩
abbrev CC_CONFIG_src_only (n : Port) : Field := ⟨.single, portPage n 0 * 256 + 0x20, 25, 1⟩
abbrev CC_CONFIG_debug_acc_en (n : Port) : Field := ⟨.single, portPage n 0 * 256 + 0x20, 24, 1⟩
abbrev CC_CONFIG_audio_acc_en (n : Port) : Field := ⟨.single, portPage n 0 * 256 + 0x20, 23, 1⟩
abbrev CC_CONFIG_drp_src_pct (n : Port) : Field := ⟨.single, portPage n 0 * 256 + 0x20, 16, 7⟩
abbrev CC_CONFIG_drp_period_ms (n : Port) : Field := ⟨.single, portPage n 0 * 256 + 0x20, 8, 8⟩
abbrev CC_DEBOUNCE_open_fast (n : Port) : Field := ⟨.single, portPage n 0 * 256 + 0x24, 16, 8⟩
abbrev CC_DEBOUNCE_detach_ms (n : Port) : Field := ⟨.single, portPage n 0 * 256 + 0x24, 8, 8⟩
abbrev CC_DEBOUNCE_attach_ms (n : Port) : Field := ⟨.single, portPage n 0 * 256 + 0x24, 0, 8⟩
abbrev CC_VCONN_CFG_oc_100us (n : Port) : Field := ⟨.single, portPage n 0 * 256 + 0x28, 8, 8⟩
abbrev CC_VCONN_CFG_ilim (n : Port) : Field := ⟨.single, portPage n 0 * 256 + 0x28, 0, 4⟩
abbrev CC_VCONN_STATUS_imeas (n : Port) : Field := ⟨.single, portPage n 0 * 256 + 0x2C, 8, 8⟩
abbrev CC_VCONN_STATUS_pin (n : Port) : Field := ⟨.single, portPage n 0 * 256 + 0x2C, 1, 1⟩
abbrev CC_VCONN_STATUS_on (n : Port) : Field := ⟨.single, portPage n 0 * 256 + 0x2C, 0, 1⟩
abbrev CC_SBU_STATUS_sbu2_ov (n : Port) : Field := ⟨.single, portPage n 0 * 256 + 0x30, 3, 1⟩
abbrev CC_SBU_STATUS_sbu1_ov (n : Port) : Field := ⟨.single, portPage n 0 * 256 + 0x30, 2, 1⟩
abbrev CC_SBU_STATUS_sbu2_conn (n : Port) : Field := ⟨.single, portPage n 0 * 256 + 0x30, 1, 1⟩
abbrev CC_SBU_STATUS_sbu1_conn (n : Port) : Field := ⟨.single, portPage n 0 * 256 + 0x30, 0, 1⟩
abbrev CC_SNK_DISC_vth_eff (n : Port) : Field := ⟨.single, portPage n 0 * 256 + 0x34, 16, 9⟩
abbrev CC_SNK_DISC_vth (n : Port) : Field := ⟨.single, portPage n 0 * 256 + 0x34, 0, 9⟩
abbrev CC_BMC_STATUS_rx_kbps (n : Port) : Field := ⟨.single, portPage n 0 * 256 + 0x38, 16, 9⟩
abbrev CC_BMC_STATUS_tx_div (n : Port) : Field := ⟨.single, portPage n 0 * 256 + 0x38, 8, 8⟩

/-! Page MSG. -/
abbrev MSG_STATUS_shared_held (n : Port) : Field := ⟨.port n, portPage n 1 * 256 + 0x4, 24, 5⟩
abbrev MSG_STATUS_q_depth (n : Port) : Field := ⟨.port n, portPage n 1 * 256 + 0x4, 19, 5⟩
abbrev MSG_STATUS_awaiting_goodcrc (n : Port) : Field := ⟨.port n, portPage n 1 * 256 + 0x4, 18, 1⟩
abbrev MSG_STATUS_tx_active (n : Port) : Field := ⟨.port n, portPage n 1 * 256 + 0x4, 17, 1⟩
abbrev MSG_STATUS_rx_active (n : Port) : Field := ⟨.port n, portPage n 1 * 256 + 0x4, 16, 1⟩
abbrev MSG_STATUS_rev_sop (n : Port) : Field := ⟨.port n, portPage n 1 * 256 + 0x4, 14, 2⟩
abbrev MSG_STATUS_rev_sop1 (n : Port) : Field := ⟨.port n, portPage n 1 * 256 + 0x4, 12, 2⟩
abbrev MSG_STATUS_rev_sop2 (n : Port) : Field := ⟨.port n, portPage n 1 * 256 + 0x4, 10, 2⟩
abbrev MSG_STATUS_sinktx_ng (n : Port) : Field := ⟨.port n, portPage n 1 * 256 + 0x4, 9, 1⟩
abbrev MSG_EVENT_cfg_refused (n : Port) : Field := ⟨.port n, portPage n 1 * 256 + 0x8, 12, 1⟩
abbrev MSG_EVENT_debug_sop_ignored (n : Port) : Field := ⟨.port n, portPage n 1 * 256 + 0x8, 11, 1⟩
abbrev MSG_EVENT_rev1_ignored (n : Port) : Field := ⟨.port n, portPage n 1 * 256 + 0x8, 10, 1⟩
abbrev MSG_EVENT_rev_changed (n : Port) : Field := ⟨.port n, portPage n 1 * 256 + 0x8, 9, 1⟩
abbrev MSG_EVENT_ext_invalid (n : Port) : Field := ⟨.port n, portPage n 1 * 256 + 0x8, 8, 1⟩
abbrev MSG_EVENT_chunk_timeout (n : Port) : Field := ⟨.port n, portPage n 1 * 256 + 0x8, 7, 1⟩
abbrev MSG_EVENT_rx_overrun (n : Port) : Field := ⟨.port n, portPage n 1 * 256 + 0x8, 6, 1⟩
abbrev MSG_EVENT_pool_wait (n : Port) : Field := ⟨.port n, portPage n 1 * 256 + 0x8, 5, 1⟩
abbrev MSG_EVENT_stale_rx (n : Port) : Field := ⟨.port n, portPage n 1 * 256 + 0x8, 4, 1⟩
abbrev MSG_EVENT_stale_tx (n : Port) : Field := ⟨.port n, portPage n 1 * 256 + 0x8, 3, 1⟩
abbrev MSG_EVENT_collision (n : Port) : Field := ⟨.port n, portPage n 1 * 256 + 0x8, 2, 1⟩
abbrev MSG_EVENT_retry_exhausted (n : Port) : Field := ⟨.port n, portPage n 1 * 256 + 0x8, 1, 1⟩
abbrev MSG_EVENT_crc_fail (n : Port) : Field := ⟨.port n, portPage n 1 * 256 + 0x8, 0, 1⟩
abbrev MSG_CONTROL_epoch (n : Port) : Field := ⟨.port n, portPage n 1 * 256 + 0x14, 24, 8⟩
abbrev MSG_CONTROL_flush (n : Port) : Field := ⟨.port n, portPage n 1 * 256 + 0x14, 0, 1⟩
abbrev MSG_SEQ_id_resets (n : Port) : Field := ⟨.port n, portPage n 1 * 256 + 0x1C, 0, 8⟩
abbrev MSG_CONFIG_ifg_us (n : Port) : Field := ⟨.port n, portPage n 1 * 256 + 0x20, 8, 8⟩
abbrev MSG_CONFIG_rev_max (n : Port) : Field := ⟨.port n, portPage n 1 * 256 + 0x20, 2, 2⟩
abbrev MSG_CONFIG_sop2_en (n : Port) : Field := ⟨.port n, portPage n 1 * 256 + 0x20, 1, 1⟩
abbrev MSG_CONFIG_sop1_en (n : Port) : Field := ⟨.port n, portPage n 1 * 256 + 0x20, 0, 1⟩
abbrev MSG_POOL_CFG_max_shared (n : Port) : Field := ⟨.port n, portPage n 1 * 256 + 0x24, 0, 5⟩
abbrev MSG_POOL_STATUS_pool_free (n : Port) : Field := ⟨.port n, portPage n 1 * 256 + 0x28, 16, 6⟩
abbrev MSG_POOL_STATUS_low_water (n : Port) : Field := ⟨.port n, portPage n 1 * 256 + 0x28, 8, 6⟩
abbrev MSG_LAST_RX_HDR_sop (n : Port) : Field := ⟨.port n, portPage n 1 * 256 + 0x2C, 24, 2⟩
abbrev MSG_LAST_RX_HDR_epoch (n : Port) : Field := ⟨.port n, portPage n 1 * 256 + 0x2C, 16, 8⟩
abbrev MSG_LAST_RX_HDR_header (n : Port) : Field := ⟨.port n, portPage n 1 * 256 + 0x2C, 0, 16⟩
abbrev MSG_LAST_TX_HDR_sop (n : Port) : Field := ⟨.port n, portPage n 1 * 256 + 0x30, 24, 2⟩
abbrev MSG_LAST_TX_HDR_epoch (n : Port) : Field := ⟨.port n, portPage n 1 * 256 + 0x30, 16, 8⟩
abbrev MSG_LAST_TX_HDR_header (n : Port) : Field := ⟨.port n, portPage n 1 * 256 + 0x30, 0, 16⟩

/-! Page POL. -/
abbrev POL_STATUS_typec (n : Port) : Field := ⟨.port n, portPage n 2 * 256 + 0x4, 20, 4⟩
abbrev POL_STATUS_pd (n : Port) : Field := ⟨.port n, portPage n 2 * 256 + 0x4, 16, 4⟩
abbrev POL_STATUS_cmd_held (n : Port) : Field := ⟨.port n, portPage n 2 * 256 + 0x4, 15, 1⟩
abbrev POL_STATUS_ams (n : Port) : Field := ⟨.port n, portPage n 2 * 256 + 0x4, 14, 1⟩
abbrev POL_STATUS_load_policy (n : Port) : Field := ⟨.port n, portPage n 2 * 256 + 0x4, 13, 1⟩
abbrev POL_STATUS_explicit (n : Port) : Field := ⟨.port n, portPage n 2 * 256 + 0x4, 5, 1⟩
abbrev POL_STATUS_epr_mode (n : Port) : Field := ⟨.port n, portPage n 2 * 256 + 0x4, 4, 1⟩
abbrev POL_STATUS_power_role (n : Port) : Field := ⟨.port n, portPage n 2 * 256 + 0x4, 3, 1⟩
abbrev POL_STATUS_data_role (n : Port) : Field := ⟨.port n, portPage n 2 * 256 + 0x4, 2, 1⟩
abbrev POL_STATUS_vconn_src (n : Port) : Field := ⟨.port n, portPage n 2 * 256 + 0x4, 1, 1⟩
abbrev POL_STATUS_pd_partner (n : Port) : Field := ⟨.port n, portPage n 2 * 256 + 0x4, 0, 1⟩
abbrev POL_EVENT_role_clamped (n : Port) : Field := ⟨.port n, portPage n 2 * 256 + 0x8, 16, 1⟩
abbrev POL_EVENT_cfg_refused (n : Port) : Field := ⟨.port n, portPage n 2 * 256 + 0x8, 15, 1⟩
abbrev POL_EVENT_lexicon_alert (n : Port) : Field := ⟨.port n, portPage n 2 * 256 + 0x8, 14, 1⟩
abbrev POL_EVENT_no_response (n : Port) : Field := ⟨.port n, portPage n 2 * 256 + 0x8, 13, 1⟩
abbrev POL_EVENT_pdo_overflow (n : Port) : Field := ⟨.port n, portPage n 2 * 256 + 0x8, 12, 1⟩
abbrev POL_EVENT_cmd_busy (n : Port) : Field := ⟨.port n, portPage n 2 * 256 + 0x8, 11, 1⟩
abbrev POL_EVENT_cmd_refused (n : Port) : Field := ⟨.port n, portPage n 2 * 256 + 0x8, 10, 1⟩
abbrev POL_EVENT_stale_cmd (n : Port) : Field := ⟨.port n, portPage n 2 * 256 + 0x8, 9, 1⟩
abbrev POL_EVENT_epr_change (n : Port) : Field := ⟨.port n, portPage n 2 * 256 + 0x8, 8, 1⟩
abbrev POL_EVENT_error_recovery (n : Port) : Field := ⟨.port n, portPage n 2 * 256 + 0x8, 7, 1⟩
abbrev POL_EVENT_hard_reset (n : Port) : Field := ⟨.port n, portPage n 2 * 256 + 0x8, 6, 1⟩
abbrev POL_EVENT_swap_done (n : Port) : Field := ⟨.port n, portPage n 2 * 256 + 0x8, 5, 1⟩
abbrev POL_EVENT_request_wait (n : Port) : Field := ⟨.port n, portPage n 2 * 256 + 0x8, 4, 1⟩
abbrev POL_EVENT_request_rejected (n : Port) : Field := ⟨.port n, portPage n 2 * 256 + 0x8, 3, 1⟩
abbrev POL_EVENT_draft_withdrawn (n : Port) : Field := ⟨.port n, portPage n 2 * 256 + 0x8, 2, 1⟩
abbrev POL_EVENT_caps_sent (n : Port) : Field := ⟨.port n, portPage n 2 * 256 + 0x8, 1, 1⟩
abbrev POL_EVENT_contract (n : Port) : Field := ⟨.port n, portPage n 2 * 256 + 0x8, 0, 1⟩
abbrev POL_CONTROL_epoch (n : Port) : Field := ⟨.port n, portPage n 2 * 256 + 0x14, 24, 8⟩
abbrev POL_CONTROL_arg (n : Port) : Field := ⟨.port n, portPage n 2 * 256 + 0x14, 8, 16⟩
abbrev POL_CONTROL_cmd (n : Port) : Field := ⟨.port n, portPage n 2 * 256 + 0x14, 0, 8⟩
abbrev POL_SEQ_epoch (n : Port) : Field := ⟨.port n, portPage n 2 * 256 + 0x1C, 0, 8⟩
abbrev POL_CONTRACT_pos (n : Port) : Field := ⟨.port n, portPage n 2 * 256 + 0x20, 20, 4⟩
abbrev POL_CONTRACT_kind (n : Port) : Field := ⟨.port n, portPage n 2 * 256 + 0x20, 18, 2⟩
abbrev POL_CONTRACT_epr (n : Port) : Field := ⟨.port n, portPage n 2 * 256 + 0x20, 17, 1⟩
abbrev POL_CONTRACT_VI_v (n : Port) : Field := ⟨.port n, portPage n 2 * 256 + 0x24, 16, 16⟩
abbrev POL_CONTRACT_VI_i (n : Port) : Field := ⟨.port n, portPage n 2 * 256 + 0x24, 0, 16⟩
abbrev POL_LAST_RDO_rdo (n : Port) : Field := ⟨.port n, portPage n 2 * 256 + 0x28, 0, 32⟩
abbrev POL_HOST_FLAGS_flags (n : Port) : Field := ⟨.port n, portPage n 2 * 256 + 0x2C, 0, 8⟩
abbrev POL_CAPS_CFG_min_gap_ms (n : Port) : Field := ⟨.port n, portPage n 2 * 256 + 0x30, 0, 16⟩
abbrev POL_BUDGET_pc (n : Port) : Field := ⟨.port n, portPage n 2 * 256 + 0x34, 0, 16⟩
abbrev POL_ALERT_CODE_code (n : Port) : Field := ⟨.port n, portPage n 2 * 256 + 0x38, 0, 8⟩
abbrev POL_CMD_STATUS_epoch (n : Port) : Field := ⟨.port n, portPage n 2 * 256 + 0x3C, 24, 8⟩
abbrev POL_CMD_STATUS_cmd (n : Port) : Field := ⟨.port n, portPage n 2 * 256 + 0x3C, 0, 8⟩
abbrev POL_OFFER_pdo (n : Port) (k : Nat) : Field := ⟨.port n, portPage n 2 * 256 + 0x40 + 4 * k, 0, 32⟩
abbrev POL_PARTNER_pdo (n : Port) (k : Nat) : Field := ⟨.port n, portPage n 2 * 256 + 0x80 + 4 * k, 0, 32⟩

/-! Page VDM. -/
abbrev VDM_STATUS_thatin (n : Port) : Field := ⟨.port n, portPage n 3 * 256 + 0x4, 20, 1⟩
abbrev VDM_STATUS_host_entered (n : Port) : Field := ⟨.port n, portPage n 3 * 256 + 0x4, 16, 4⟩
abbrev VDM_STATUS_disc (n : Port) : Field := ⟨.port n, portPage n 3 * 256 + 0x4, 8, 4⟩
abbrev VDM_STATUS_svdm_ver (n : Port) : Field := ⟨.port n, portPage n 3 * 256 + 0x4, 6, 2⟩
abbrev VDM_EVENT_rx_overwrite (n : Port) : Field := ⟨.port n, portPage n 3 * 256 + 0x8, 14, 1⟩
abbrev VDM_EVENT_cable_id (n : Port) : Field := ⟨.port n, portPage n 3 * 256 + 0x8, 13, 1⟩
abbrev VDM_EVENT_mode_orphan (n : Port) : Field := ⟨.port n, portPage n 3 * 256 + 0x8, 12, 1⟩
abbrev VDM_EVENT_cmd_refused (n : Port) : Field := ⟨.port n, portPage n 3 * 256 + 0x8, 11, 1⟩
abbrev VDM_EVENT_stale_cmd (n : Port) : Field := ⟨.port n, portPage n 3 * 256 + 0x8, 10, 1⟩
abbrev VDM_EVENT_busy_rx (n : Port) : Field := ⟨.port n, portPage n 3 * 256 + 0x8, 9, 1⟩
abbrev VDM_EVENT_tx_failed (n : Port) : Field := ⟨.port n, portPage n 3 * 256 + 0x8, 8, 1⟩
abbrev VDM_EVENT_tx_done (n : Port) : Field := ⟨.port n, portPage n 3 * 256 + 0x8, 7, 1⟩
abbrev VDM_EVENT_host_vdm_rx (n : Port) : Field := ⟨.port n, portPage n 3 * 256 + 0x8, 6, 1⟩
abbrev VDM_EVENT_host_exit (n : Port) : Field := ⟨.port n, portPage n 3 * 256 + 0x8, 5, 1⟩
abbrev VDM_EVENT_host_enter (n : Port) : Field := ⟨.port n, portPage n 3 * 256 + 0x8, 4, 1⟩
abbrev VDM_EVENT_disc_failed (n : Port) : Field := ⟨.port n, portPage n 3 * 256 + 0x8, 3, 1⟩
abbrev VDM_EVENT_modes_done (n : Port) : Field := ⟨.port n, portPage n 3 * 256 + 0x8, 2, 1⟩
abbrev VDM_EVENT_svids_done (n : Port) : Field := ⟨.port n, portPage n 3 * 256 + 0x8, 1, 1⟩
abbrev VDM_EVENT_identity_done (n : Port) : Field := ⟨.port n, portPage n 3 * 256 + 0x8, 0, 1⟩
abbrev VDM_CONTROL_epoch (n : Port) : Field := ⟨.port n, portPage n 3 * 256 + 0x14, 24, 8⟩
abbrev VDM_CONTROL_arg (n : Port) : Field := ⟨.port n, portPage n 3 * 256 + 0x14, 8, 16⟩
abbrev VDM_CONTROL_cmd (n : Port) : Field := ⟨.port n, portPage n 3 * 256 + 0x14, 0, 8⟩
abbrev VDM_SEQ_discoveries (n : Port) : Field := ⟨.port n, portPage n 3 * 256 + 0x1C, 0, 8⟩
abbrev VDM_PARTNER_ID_vdo (n : Port) (k : Nat) : Field := ⟨.port n, portPage n 3 * 256 + 0x20 + 4 * k, 0, 32⟩
abbrev VDM_PARTNER_SVID_svids (n : Port) (k : Nat) : Field := ⟨.port n, portPage n 3 * 256 + 0x38 + 4 * k, 0, 32⟩
abbrev VDM_HOST_SVID_modes (n : Port) (k : Nat) : Field := ⟨.port n, portPage n 3 * 256 + 0x50 + 4 * k, 16, 4⟩
abbrev VDM_HOST_SVID_svid (n : Port) (k : Nat) : Field := ⟨.port n, portPage n 3 * 256 + 0x50 + 4 * k, 0, 16⟩
abbrev VDM_CABLE_VDO_vdo (n : Port) (k : Nat) : Field := ⟨.port n, portPage n 3 * 256 + 0x60 + 4 * k, 0, 32⟩
abbrev VDM_RX_HDR_hdr (n : Port) : Field := ⟨.port n, portPage n 3 * 256 + 0x68, 0, 32⟩
abbrev VDM_RX_VDO_vdo (n : Port) (k : Nat) : Field := ⟨.port n, portPage n 3 * 256 + 0x6C + 4 * k, 0, 32⟩
abbrev VDM_TX_HDR_hdr (n : Port) : Field := ⟨.port n, portPage n 3 * 256 + 0x84, 0, 32⟩
abbrev VDM_TX_VDO_vdo (n : Port) (k : Nat) : Field := ⟨.port n, portPage n 3 * 256 + 0x88 + 4 * k, 0, 32⟩

/-! Page STG. -/
abbrev STG_STATUS_dv_eff (n : Port) : Field := ⟨.port n, portPage n 4 * 256 + 0x4, 19, 5⟩
abbrev STG_STATUS_vbank (n : Port) : Field := ⟨.port n, portPage n 4 * 256 + 0x4, 18, 1⟩
abbrev STG_STATUS_upd_clipped (n : Port) : Field := ⟨.single, portPage n 4 * 256 + 0x4, 17, 1⟩
abbrev STG_STATUS_lock_refused (n : Port) : Field := ⟨.single, portPage n 4 * 256 + 0x4, 16, 1⟩
abbrev STG_STATUS_vclamp_lo (n : Port) : Field := ⟨.port n, portPage n 4 * 256 + 0x4, 12, 1⟩
abbrev STG_STATUS_vclamp_hi (n : Port) : Field := ⟨.port n, portPage n 4 * 256 + 0x4, 11, 1⟩
abbrev STG_STATUS_manual (n : Port) : Field := ⟨.port n, portPage n 4 * 256 + 0x4, 10, 1⟩
abbrev STG_STATUS_dir (n : Port) : Field := ⟨.single, portPage n 4 * 256 + 0x4, 9, 1⟩
abbrev STG_STATUS_region (n : Port) : Field := ⟨.single, portPage n 4 * 256 + 0x4, 8, 1⟩
abbrev STG_STATUS_sen (n : Port) : Field := ⟨.single, portPage n 4 * 256 + 0x4, 2, 1⟩
abbrev STG_STATUS_state (n : Port) : Field := ⟨.single, portPage n 4 * 256 + 0x4, 0, 2⟩
abbrev STG_EVENT_no_coeffs (n : Port) : Field := ⟨.single, portPage n 4 * 256 + 0x8, 6, 1⟩
abbrev STG_EVENT_imon_range (n : Port) : Field := ⟨.single, portPage n 4 * 256 + 0x8, 5, 1⟩
abbrev STG_EVENT_sen_timeout (n : Port) : Field := ⟨.single, portPage n 4 * 256 + 0x8, 4, 1⟩
abbrev STG_EVENT_stage_fault (n : Port) : Field := ⟨.single, portPage n 4 * 256 + 0x8, 3, 1⟩
abbrev STG_EVENT_vbank_swap (n : Port) : Field := ⟨.port n, portPage n 4 * 256 + 0x8, 2, 1⟩
abbrev STG_EVENT_vl_deadline (n : Port) : Field := ⟨.port n, portPage n 4 * 256 + 0x8, 1, 1⟩
abbrev STG_EVENT_cfg_refused (n : Port) : Field := ⟨.single, portPage n 4 * 256 + 0x8, 0, 1⟩
abbrev STG_SEQ_vswaps (n : Port) : Field := ⟨.single, portPage n 4 * 256 + 0x1C, 0, 8⟩
abbrev STG_CARRIER_lock (n : Port) : Field := ⟨.single, portPage n 4 * 256 + 0x20, 25, 1⟩
abbrev STG_CARRIER_auto (n : Port) : Field := ⟨.single, portPage n 4 * 256 + 0x20, 24, 1⟩
abbrev STG_CARRIER_phase_eff (n : Port) : Field := ⟨.single, portPage n 4 * 256 + 0x20, 16, 7⟩
abbrev STG_CARRIER_phase (n : Port) : Field := ⟨.single, portPage n 4 * 256 + 0x20, 8, 7⟩
abbrev STG_CARRIER_n_div (n : Port) : Field := ⟨.single, portPage n 4 * 256 + 0x20, 0, 7⟩
abbrev STG_TIMING_v_upd (n : Port) : Field := ⟨.single, portPage n 4 * 256 + 0x24, 16, 11⟩
abbrev STG_TIMING_i_upd (n : Port) : Field := ⟨.single, portPage n 4 * 256 + 0x24, 8, 7⟩
abbrev STG_TIMING_s_off (n : Port) : Field := ⟨.single, portPage n 4 * 256 + 0x24, 0, 7⟩
abbrev STG_IMON_CFG_ifs_100ma (n : Port) : Field := ⟨.single, portPage n 4 * 256 + 0x28, 16, 9⟩
abbrev STG_IMON_CFG_zero (n : Port) : Field := ⟨.single, portPage n 4 * 256 + 0x28, 0, 12⟩
abbrev STG_PWM_CFG_min_pulse (n : Port) : Field := ⟨.single, portPage n 4 * 256 + 0x2C, 0, 10⟩
abbrev STG_SP_CFG_manual (n : Port) : Field := ⟨.port n, portPage n 4 * 256 + 0x30, 16, 1⟩
abbrev STG_SP_CFG_slew (n : Port) : Field := ⟨.port n, portPage n 4 * 256 + 0x30, 0, 9⟩
abbrev STG_SP_MANUAL_epoch (n : Port) : Field := ⟨.port n, portPage n 4 * 256 + 0x34, 24, 8⟩
abbrev STG_SP_MANUAL_v (n : Port) : Field := ⟨.port n, portPage n 4 * 256 + 0x34, 0, 12⟩
abbrev STG_SP_STATUS_vref (n : Port) : Field := ⟨.port n, portPage n 4 * 256 + 0x38, 16, 16⟩
abbrev STG_SP_STATUS_target (n : Port) : Field := ⟨.port n, portPage n 4 * 256 + 0x38, 0, 16⟩
abbrev STG_VLOOP_CFG_dv_split (n : Port) : Field := ⟨.port n, portPage n 4 * 256 + 0x3C, 24, 5⟩
abbrev STG_VLOOP_CFG_dv_max (n : Port) : Field := ⟨.port n, portPage n 4 * 256 + 0x3C, 16, 5⟩
abbrev STG_VLOOP_CFG_dv_base (n : Port) : Field := ⟨.port n, portPage n 4 * 256 + 0x3C, 8, 5⟩
abbrev STG_VLOOP_CFG_bank_sel (n : Port) : Field := ⟨.port n, portPage n 4 * 256 + 0x3C, 0, 1⟩
abbrev STG_VLOOP_STATUS_vmeas (n : Port) : Field := ⟨.port n, portPage n 4 * 256 + 0x40, 16, 16⟩
abbrev STG_VLOOP_STATUS_y (n : Port) : Field := ⟨.port n, portPage n 4 * 256 + 0x40, 0, 16⟩
abbrev STG_VBANK0_half_words (n : Port) (k : Nat) : Field := ⟨.single, portPage n 4 * 256 + 0x44 + 4 * k, 0, 32⟩
abbrev STG_VBANK1_half_words (n : Port) (k : Nat) : Field := ⟨.single, portPage n 4 * 256 + 0x54 + 4 * k, 0, 32⟩
abbrev STG_ADC_LAST_vbus (n : Port) : Field := ⟨.single, portPage n 4 * 256 + 0x64, 16, 12⟩
abbrev STG_ADC_LAST_imon (n : Port) : Field := ⟨.single, portPage n 4 * 256 + 0x64, 0, 12⟩

/-! Page ILP. -/
abbrev ILP_STATUS_u (n : Port) : Field := ⟨.port n, portPage n 5 * 256 + 0x4, 16, 16⟩
abbrev ILP_STATUS_clamp_lo (n : Port) : Field := ⟨.port n, portPage n 5 * 256 + 0x4, 3, 1⟩
abbrev ILP_STATUS_clamp_hi (n : Port) : Field := ⟨.port n, portPage n 5 * 256 + 0x4, 2, 1⟩
abbrev ILP_STATUS_ff_active (n : Port) : Field := ⟨.port n, portPage n 5 * 256 + 0x4, 1, 1⟩
abbrev ILP_STATUS_bank (n : Port) : Field := ⟨.port n, portPage n 5 * 256 + 0x4, 0, 1⟩
abbrev ILP_EVENT_bank_swap (n : Port) : Field := ⟨.port n, portPage n 5 * 256 + 0x8, 2, 1⟩
abbrev ILP_EVENT_deadline (n : Port) : Field := ⟨.port n, portPage n 5 * 256 + 0x8, 1, 1⟩
abbrev ILP_EVENT_cfg_refused (n : Port) : Field := ⟨.port n, portPage n 5 * 256 + 0x8, 0, 1⟩
abbrev ILP_SEQ_swaps (n : Port) : Field := ⟨.port n, portPage n 5 * 256 + 0x1C, 0, 8⟩
abbrev ILP_CFG_region_auto (n : Port) : Field := ⟨.port n, portPage n 5 * 256 + 0x20, 2, 1⟩
abbrev ILP_CFG_ff_en (n : Port) : Field := ⟨.port n, portPage n 5 * 256 + 0x20, 1, 1⟩
abbrev ILP_CFG_bank_sel (n : Port) : Field := ⟨.port n, portPage n 5 * 256 + 0x20, 0, 1⟩
abbrev ILP_ILIMITS_icap (n : Port) : Field := ⟨.port n, portPage n 5 * 256 + 0x24, 16, 16⟩
abbrev ILP_ILIMITS_ineg (n : Port) : Field := ⟨.port n, portPage n 5 * 256 + 0x24, 0, 16⟩
abbrev ILP_LIMIT_STATUS_ilim (n : Port) : Field := ⟨.port n, portPage n 5 * 256 + 0x28, 16, 16⟩
abbrev ILP_LIMIT_STATUS_src (n : Port) : Field := ⟨.port n, portPage n 5 * 256 + 0x28, 12, 4⟩
abbrev ILP_IMEAS_iref (n : Port) : Field := ⟨.port n, portPage n 5 * 256 + 0x2C, 16, 16⟩
abbrev ILP_IMEAS_imeas (n : Port) : Field := ⟨.port n, portPage n 5 * 256 + 0x2C, 0, 16⟩
abbrev ILP_DUTY_dbl_sub (n : Port) : Field := ⟨.port n, portPage n 5 * 256 + 0x30, 16, 16⟩
abbrev ILP_DUTY_da_sub (n : Port) : Field := ⟨.port n, portPage n 5 * 256 + 0x30, 0, 16⟩
abbrev ILP_IBANK0_half_words (n : Port) (k : Nat) : Field := ⟨.single, portPage n 5 * 256 + 0x34 + 4 * k, 0, 32⟩
abbrev ILP_IBANK1_half_words (n : Port) (k : Nat) : Field := ⟨.single, portPage n 5 * 256 + 0x44 + 4 * k, 0, 32⟩

/-! Page FND. -/
abbrev FND_STATUS_retries_left (n : Port) : Field := ⟨.port n, portPage n 6 * 256 + 0x4, 16, 4⟩
abbrev FND_STATUS_dschg (n : Port) : Field := ⟨.port n, portPage n 6 * 256 + 0x4, 11, 1⟩
abbrev FND_STATUS_close_cmd (n : Port) : Field := ⟨.port n, portPage n 6 * 256 + 0x4, 10, 1⟩
abbrev FND_STATUS_dir (n : Port) : Field := ⟨.port n, portPage n 6 * 256 + 0x4, 9, 1⟩
abbrev FND_STATUS_win_ok (n : Port) : Field := ⟨.port n, portPage n 6 * 256 + 0x4, 8, 1⟩
abbrev FND_STATUS_reg (n : Port) : Field := ⟨.port n, portPage n 6 * 256 + 0x4, 6, 2⟩
abbrev FND_STATUS_gate_b (n : Port) : Field := ⟨.port n, portPage n 6 * 256 + 0x4, 5, 1⟩
abbrev FND_STATUS_gate_s (n : Port) : Field := ⟨.port n, portPage n 6 * 256 + 0x4, 4, 1⟩
abbrev FND_STATUS_state (n : Port) : Field := ⟨.port n, portPage n 6 * 256 + 0x4, 0, 3⟩
abbrev FND_EVENT_cfg_refused (n : Port) : Field := ⟨.port n, portPage n 6 * 256 + 0x8, 10, 1⟩
abbrev FND_EVENT_discharge_slow (n : Port) : Field := ⟨.port n, portPage n 6 * 256 + 0x8, 9, 1⟩
abbrev FND_EVENT_soa (n : Port) : Field := ⟨.port n, portPage n 6 * 256 + 0x8, 8, 1⟩
abbrev FND_EVENT_ovp (n : Port) : Field := ⟨.port n, portPage n 6 * 256 + 0x8, 7, 1⟩
abbrev FND_EVENT_lockout (n : Port) : Field := ⟨.port n, portPage n 6 * 256 + 0x8, 6, 1⟩
abbrev FND_EVENT_inrush_timeout (n : Port) : Field := ⟨.port n, portPage n 6 * 256 + 0x8, 5, 1⟩
abbrev FND_EVENT_limit_timeout (n : Port) : Field := ⟨.port n, portPage n 6 * 256 + 0x8, 4, 1⟩
abbrev FND_EVENT_fast_trip (n : Port) : Field := ⟨.port n, portPage n 6 * 256 + 0x8, 3, 1⟩
abbrev FND_EVENT_retry (n : Port) : Field := ⟨.port n, portPage n 6 * 256 + 0x8, 2, 1⟩
abbrev FND_EVENT_opened (n : Port) : Field := ⟨.port n, portPage n 6 * 256 + 0x8, 1, 1⟩
abbrev FND_EVENT_closed (n : Port) : Field := ⟨.port n, portPage n 6 * 256 + 0x8, 0, 1⟩
abbrev FND_CONTROL_epoch (n : Port) : Field := ⟨.port n, portPage n 6 * 256 + 0x14, 24, 8⟩
abbrev FND_CONTROL_rearm (n : Port) : Field := ⟨.port n, portPage n 6 * 256 + 0x14, 0, 1⟩
abbrev FND_SEQ_openings (n : Port) : Field := ⟨.port n, portPage n 6 * 256 + 0x1C, 0, 8⟩
abbrev FND_SENSE_CFG_fs (n : Port) : Field := ⟨.port n, portPage n 6 * 256 + 0x20, 16, 2⟩
abbrev FND_SENSE_CFG_rsns (n : Port) : Field := ⟨.port n, portPage n 6 * 256 + 0x20, 0, 12⟩
abbrev FND_LIMIT_CFG_ft_ratio (n : Port) : Field := ⟨.port n, portPage n 6 * 256 + 0x24, 30, 2⟩
abbrev FND_LIMIT_CFG_ilim_ins (n : Port) : Field := ⟨.port n, portPage n 6 * 256 + 0x24, 16, 9⟩
abbrev FND_LIMIT_CFG_ilim (n : Port) : Field := ⟨.port n, portPage n 6 * 256 + 0x24, 0, 9⟩
abbrev FND_TIMER_CFG_t_lim (n : Port) : Field := ⟨.port n, portPage n 6 * 256 + 0x28, 16, 10⟩
abbrev FND_TIMER_CFG_t_inrush (n : Port) : Field := ⟨.port n, portPage n 6 * 256 + 0x28, 0, 10⟩
abbrev FND_WIN_CFG_ins_ms (n : Port) : Field := ⟨.port n, portPage n 6 * 256 + 0x2C, 24, 8⟩
abbrev FND_WIN_CFG_snk_ov (n : Port) : Field := ⟨.port n, portPage n 6 * 256 + 0x2C, 16, 8⟩
abbrev FND_WIN_CFG_snk_uv (n : Port) : Field := ⟨.port n, portPage n 6 * 256 + 0x2C, 8, 8⟩
abbrev FND_WIN_CFG_src_max (n : Port) : Field := ⟨.port n, portPage n 6 * 256 + 0x2C, 0, 8⟩
abbrev FND_RETRY_CFG_count (n : Port) : Field := ⟨.port n, portPage n 6 * 256 + 0x30, 28, 4⟩
abbrev FND_RETRY_CFG_toff_min (n : Port) : Field := ⟨.port n, portPage n 6 * 256 + 0x30, 0, 13⟩
abbrev FND_SOA_CFG_emax (n : Port) : Field := ⟨.port n, portPage n 6 * 256 + 0x34, 16, 16⟩
abbrev FND_SOA_CFG_pmax (n : Port) : Field := ⟨.port n, portPage n 6 * 256 + 0x34, 0, 12⟩
abbrev FND_OVP_STATUS_v_ovp (n : Port) : Field := ⟨.port n, portPage n 6 * 256 + 0x38, 0, 9⟩
abbrev FND_THRESH_STATUS_c_ft (n : Port) : Field := ⟨.port n, portPage n 6 * 256 + 0x3C, 16, 10⟩
abbrev FND_THRESH_STATUS_c_lim (n : Port) : Field := ⟨.port n, portPage n 6 * 256 + 0x3C, 0, 10⟩
abbrev FND_MEAS_i (n : Port) : Field := ⟨.port n, portPage n 6 * 256 + 0x40, 16, 16⟩
abbrev FND_MEAS_vpair (n : Port) : Field := ⟨.port n, portPage n 6 * 256 + 0x40, 0, 16⟩
abbrev FND_RETRY_STATUS_toff_left (n : Port) : Field := ⟨.port n, portPage n 6 * 256 + 0x44, 16, 16⟩
abbrev FND_RETRY_STATUS_t_on (n : Port) : Field := ⟨.port n, portPage n 6 * 256 + 0x44, 0, 16⟩
abbrev FND_SOA_STATUS_e (n : Port) : Field := ⟨.port n, portPage n 6 * 256 + 0x48, 16, 16⟩
abbrev FND_SOA_STATUS_p_lin (n : Port) : Field := ⟨.port n, portPage n 6 * 256 + 0x48, 0, 16⟩

/-! Page THM. -/
abbrev THM_STATUS_fitted (n : Port) : Field := ⟨.port n, portPage n 7 * 256 + 0x4, 3, 1⟩
abbrev THM_STATUS_ntc_fault (n : Port) : Field := ⟨.port n, portPage n 7 * 256 + 0x4, 2, 1⟩
abbrev THM_STATUS_hold (n : Port) : Field := ⟨.port n, portPage n 7 * 256 + 0x4, 1, 1⟩
abbrev THM_STATUS_ntc_used (n : Port) : Field := ⟨.port n, portPage n 7 * 256 + 0x4, 0, 1⟩
abbrev THM_EVENT_cfg_refused (n : Port) : Field := ⟨.port n, portPage n 7 * 256 + 0x8, 2, 1⟩
abbrev THM_EVENT_ntc_fault (n : Port) : Field := ⟨.port n, portPage n 7 * 256 + 0x8, 1, 1⟩
abbrev THM_EVENT_thermal (n : Port) : Field := ⟨.port n, portPage n 7 * 256 + 0x8, 0, 1⟩
abbrev THM_SEQ_holds (n : Port) : Field := ⟨.port n, portPage n 7 * 256 + 0x1C, 0, 8⟩
abbrev THM_CFG_t_trip (n : Port) : Field := ⟨.port n, portPage n 7 * 256 + 0x20, 24, 8⟩
abbrev THM_CFG_t_hyst (n : Port) : Field := ⟨.port n, portPage n 7 * 256 + 0x20, 16, 8⟩
abbrev THM_CFG_t_amb (n : Port) : Field := ⟨.port n, portPage n 7 * 256 + 0x20, 8, 8⟩
abbrev THM_CFG_ntc_sel (n : Port) : Field := ⟨.port n, portPage n 7 * 256 + 0x20, 5, 2⟩
abbrev THM_CFG_w (n : Port) : Field := ⟨.port n, portPage n 7 * 256 + 0x20, 0, 5⟩
abbrev THM_NTC_CFG_beta (n : Port) : Field := ⟨.port n, portPage n 7 * 256 + 0x24, 0, 16⟩
abbrev THM_RDS_rds_b (n : Port) : Field := ⟨.port n, portPage n 7 * 256 + 0x28, 16, 16⟩
abbrev THM_RDS_rds_s (n : Port) : Field := ⟨.port n, portPage n 7 * 256 + 0x28, 0, 16⟩
abbrev THM_RDSK0_k50 (n : Port) : Field := ⟨.port n, portPage n 7 * 256 + 0x2C, 16, 16⟩
abbrev THM_RDSK0_k25 (n : Port) : Field := ⟨.port n, portPage n 7 * 256 + 0x2C, 0, 16⟩
abbrev THM_RDSK1_k100 (n : Port) : Field := ⟨.port n, portPage n 7 * 256 + 0x30, 16, 16⟩
abbrev THM_RDSK1_k75 (n : Port) : Field := ⟨.port n, portPage n 7 * 256 + 0x30, 0, 16⟩
abbrev THM_RDSK2_k150 (n : Port) : Field := ⟨.port n, portPage n 7 * 256 + 0x34, 16, 16⟩
abbrev THM_RDSK2_k125 (n : Port) : Field := ⟨.port n, portPage n 7 * 256 + 0x34, 0, 16⟩
abbrev THM_FOSTER_S_tau (n : Port) (k : Nat) : Field := ⟨.port n, portPage n 7 * 256 + 0x38 + 4 * k, 16, 16⟩
abbrev THM_FOSTER_S_rth (n : Port) (k : Nat) : Field := ⟨.port n, portPage n 7 * 256 + 0x38 + 4 * k, 0, 16⟩
abbrev THM_FOSTER_B_tau (n : Port) (k : Nat) : Field := ⟨.port n, portPage n 7 * 256 + 0x44 + 4 * k, 16, 16⟩
abbrev THM_FOSTER_B_rth (n : Port) (k : Nat) : Field := ⟨.port n, portPage n 7 * 256 + 0x44 + 4 * k, 0, 16⟩
abbrev THM_TEMP_fet_t (n : Port) : Field := ⟨.port n, portPage n 7 * 256 + 0x50, 24, 8⟩
abbrev THM_TEMP_t_b (n : Port) : Field := ⟨.port n, portPage n 7 * 256 + 0x50, 16, 8⟩
abbrev THM_TEMP_t_s (n : Port) : Field := ⟨.port n, portPage n 7 * 256 + 0x50, 8, 8⟩
abbrev THM_TEMP_t_ref (n : Port) : Field := ⟨.port n, portPage n 7 * 256 + 0x50, 0, 8⟩
abbrev THM_NTC_STATUS_code (n : Port) : Field := ⟨.port n, portPage n 7 * 256 + 0x54, 16, 12⟩
abbrev THM_NTC_STATUS_t_ntc (n : Port) : Field := ⟨.port n, portPage n 7 * 256 + 0x54, 0, 8⟩
abbrev THM_ALPHA_S_alpha (n : Port) (k : Nat) : Field := ⟨.port n, portPage n 7 * 256 + 0x58 + 4 * k, 0, 24⟩
abbrev THM_ALPHA_B_alpha (n : Port) (k : Nat) : Field := ⟨.port n, portPage n 7 * 256 + 0x64 + 4 * k, 0, 24⟩

/-! Debug pages (Table 16.7), in each hearth's own copy. -/
abbrev DBG_EVENT_cfg_refused (h : Hth) : Field := ⟨.own h, dbgPage h 0 * 256 + 0x08, 0, 1⟩
abbrev DBG_VIEW_SEL (h : Hth) : Field := ⟨.own h, dbgPage h 0 * 256 + 0x20, 0, 8⟩
abbrev LATCH_LOOP_y (h : Hth) (k : Nat) : Field := ⟨.own h, dbgPage h 2 * 256 + 0x20 + 4 * k, 16, 16⟩
abbrev LATCH_LOOP_y_pred (h : Hth) (k : Nat) : Field := ⟨.own h, dbgPage h 2 * 256 + 0x20 + 4 * k, 0, 16⟩
abbrev LATCH_LATE (h : Hth) : Field := ⟨.own h, dbgPage h 2 * 256 + 0x60, 0, 16⟩
abbrev LATCH_ONE_SIDED (h : Hth) : Field := ⟨.own h, dbgPage h 2 * 256 + 0x64, 0, 32⟩
abbrev TRACE_WIN_ADDR (h : Hth) : Field := ⟨.own h, dbgPage h 3 * 256 + 0x20, 0, 15⟩
abbrev SELF_cap (h : Hth) : Field := ⟨.own h, dbgPage h 4 * 256 + 0x24, 0, 16⟩
abbrev SELF_kat_fail (h : Hth) : Field := ⟨.own h, dbgPage h 4 * 256 + 0x2C, 0, 8⟩
abbrev SELF_kat_skipped (h : Hth) : Field := ⟨.own h, dbgPage h 4 * 256 + 0x2C, 8, 16⟩

end Sys2Proof.Machine.F
end

