-- ==== Sys2Proof/Machine/RegTable.lean ====
section
/-! DEFINITION. What a plain read and a plain write of each register do (R4, R5, Table 0.4), and what each reset keeps of it
(R65, Table 3.8): one row per register, or per run of like registers, of the field tables 5.6-20.8. -/

namespace Sys2Proof.Machine

/-- Page DEV. -/
def regRowsDEV : List RegRow := [
  { off := 0x04, count := 1, reset := 0x11, rd := 0x33F },
  { off := 0x08, count := 1, rd := 0xF, w1c := 0xF },
  { off := 0x0C, count := 1, rd := 0xF, wr := 0xF, sticky := 0xF },
  { off := 0x10, count := 1 },
  { off := 0x14, count := 1 },
  { off := 0x18, count := 1 },
  { off := 0x1C, count := 1, rd := 0xFF },
  { off := 0x20, count := 1, reset := 0x48080100, rd := 0xFFFFFFFF },
  { off := 0x24, count := 1, reset := 0x1010100, rd := 0xFFFFFFFF },
  { off := 0x28, count := 1, reset := 0x1, rd := 0xF, rc := 0xF, wake := 0xF },
  { off := 0x30, count := 4, rd := 0xFFFFFFFF } ]

/-- Page EMB. -/
def regRowsEMB : List RegRow := [
  { off := 0x04, count := 1, reset := 0x1000, rd := 0x37FF },
  { off := 0x08, count := 1, rd := 0xF, w1c := 0xF },
  { off := 0x0C, count := 1, rd := 0xF, wr := 0xF, sticky := 0xF },
  { off := 0x10, count := 1 },
  { off := 0x18, count := 1 },
  { off := 0x1C, count := 1, rd := 0xFF },
  { off := 0x20, count := 1 },
  { off := 0x24, count := 1, reset := 0x3FFFF, rd := 0x7FFFF, wr := 0x7FFFF, sticky := 0x7FFFF },
  { off := 0x28, count := 1, rd := 0xFCF, sticky := 0xFCF },
  { off := 0x2C, count := 1, rd := 0xFFFFFFFF, wr := 0xFFFFFFFF, sticky := 0xFFFFFFFF },
  { off := 0x30, count := 1, rd := 0xFFFFFFFF } ]

/-- Page TB. -/
def regRowsTB : List RegRow := [
  { off := 0x04, count := 1, reset := 0x2, rd := 0x1F },
  { off := 0x08, count := 1, rd := 0x3F, w1c := 0x3F },
  { off := 0x0C, count := 1, rd := 0x3F, wr := 0x3F, sticky := 0x3F },
  { off := 0x10, count := 1 },
  { off := 0x1C, count := 1, rd := 0xFF },
  { off := 0x20, count := 1, reset := 0x60000000, rd := 0xFFFF0703, wr := 0xFFFF0703, sticky := 0xFFFF0703 },
  { off := 0x24, count := 1, rd := 0xFFFFFFFF },
  { off := 0x28, count := 1, rd := 0xFFFF },
  { off := 0x2C, count := 1, reset := 0x2EE0000, rd := 0xFFFFFFFF },
  { off := 0x30, count := 1, reset := 0x10000, rd := 0x1FFFFFF, wr := 0x1FFFFFF, sticky := 0x1FFFFFF },
  { off := 0x34, count := 1, rd := 0xFFFFFFFF, wr := 0xFFFFFFFF, sticky := 0xFFFFFFFF },
  { off := 0x38, count := 1, rd := 0xFFFFFFFF },
  { off := 0x3C, count := 1, rd := 0xFFFFFF },
  { off := 0x40, count := 1, rd := 0xFFFF } ]

/-- Page FLU. -/
def regRowsFLU : List RegRow := [
  { off := 0x04, count := 1, rd := 0xC0FFF000, counter := 0xF000 },
  { off := 0x08, count := 1, rd := 0x1FF, w1c := 0x1FF },
  { off := 0x0C, count := 1, reset := 0x1E, rd := 0xFFFFFFFF, wr := 0xFFFFFFFF, sticky := 0xFFFFFFFF },
  { off := 0x10, count := 1 },
  { off := 0x14, count := 1 },
  { off := 0x18, count := 1 },
  { off := 0x1C, count := 1, rd := 0xFF },
  { off := 0x20, count := 1, reset := 0x800A3005, rd := 0xC0FFF03F, wr := 0xC0FFF03F, sticky := 0xC0FFF03F },
  { off := 0x24, count := 1, rd := 0xFFFFFFFF, wr := 0xFFFFFFFF, sticky := 0xFFFFFFFF },
  { off := 0x28, count := 1, rd := 0xFFFFFFFF, wr := 0xFFFFFFFF, sticky := 0xFFFFFFFF },
  { off := 0x2C, count := 1, rd := 0xFFFFFFFF, wr := 0xFFFFFFFF, sticky := 0xFFFFFFFF },
  { off := 0x30, count := 1, reset := 0x1388000A, rd := 0xFFFFFFFF, wr := 0xFFFFFFFF, sticky := 0xFFFFFFFF },
  { off := 0x34, count := 1, rd := 0xFFFFFFFF, wr := 0xFFFFFFFF, sticky := 0xFFFFFFFF },
  { off := 0x38, count := 1, reset := 0x3E80064, rd := 0xFFFFFFFF, wr := 0xFFFFFFFF, sticky := 0xFFFFFFFF },
  { off := 0x3C, count := 1, reset := 0x27100064, rd := 0xFFFFFFFF, wr := 0xFFFFFFFF, sticky := 0xFFFFFFFF },
  { off := 0x40, count := 1, reset := 0x271003E8, rd := 0xFFFFFFFF, wr := 0xFFFFFFFF, sticky := 0xFFFFFFFF },
  { off := 0x44, count := 1, reset := 0x3E8000A, rd := 0xFFFFFFFF, wr := 0xFFFFFFFF, sticky := 0xFFFFFFFF },
  { off := 0x48, count := 1, rd := 0xFFFFFFFF, wr := 0xFFFFFFFF, sticky := 0xFFFFFFFF },
  { off := 0x4C, count := 1, rd := 0xFFFFFFFF, wr := 0xFFFFFFFF, sticky := 0xFFFFFFFF },
  { off := 0x50, count := 1, reset := 0xA, rd := 0xFFFFFFFF, wr := 0xFFFFFFFF, sticky := 0xFFFFFFFF },
  { off := 0x54, count := 1, rd := 0xFFFFFFFF, wr := 0xFFFFFFFF, sticky := 0xFFFFFFFF },
  { off := 0x58, count := 1, rd := 0xFFF0000, wr := 0xFFF0000 },
  { off := 0x5C, count := 1, rd := 0xF8FFFFFF },
  { off := 0x60, count := 1, rd := 0x3FFFF },
  { off := 0x64, count := 1, rd := 0x1FFF1FFF },
  { off := 0x68, count := 14, rd := 0xFFFFFFFF, kept := 0xFFFFFFFF },
  { off := 0xA0, count := 1 },
  { off := 0xA4, count := 1, rd := 0x80FFFF00, wr := 0x80FFFF00 } ]

/-- Page ASH. -/
def regRowsASH : List RegRow := [
  { off := 0x04, count := 1, rd := 0x1F3F0001, kept := 0x1F3F0001 },
  { off := 0x08, count := 1, rd := 0x7, w1c := 0x7 },
  { off := 0x0C, count := 1, rd := 0x7, wr := 0x7, sticky := 0x7 },
  { off := 0x10, count := 1 },
  { off := 0x14, count := 1 },
  { off := 0x18, count := 1 },
  { off := 0x1C, count := 1, rd := 0xFF },
  { off := 0x20, count := 1, rd := 0x1F, wr := 0x1F },
  { off := 0x24, count := 4, rd := 0xFFFFFFFF },
  { off := 0x34, count := 4, rd := 0xFFFFFFFF, kept := 0xFFFFFFFF },
  { off := 0x44, count := 28, rd := 0xFFFFFFFF, kept := 0xFFFFFFFF } ]

/-- Page OTP. -/
def regRowsOTP : List RegRow := [
  { off := 0x04, count := 1, rd := 0x1FFF, otp := 0x1F5F },
  { off := 0x08, count := 1, rd := 0x7F, w1c := 0x7F },
  { off := 0x0C, count := 1, rd := 0x7F, wr := 0x7F, sticky := 0x7F },
  { off := 0x10, count := 1 },
  { off := 0x18, count := 1 },
  { off := 0x1C, count := 1, rd := 0xFF },
  { off := 0x20, count := 1 },
  { off := 0x24, count := 1, rd := 0xFFFFFFFF, wr := 0xFFFFFFFF },
  { off := 0x28, count := 1, rd := 0xFFFFFFFF },
  { off := 0x2C, count := 1, rd := 0x3007F },
  { off := 0x30, count := 1, rd := 0xFFFF03FF },
  { off := 0x34, count := 1, rd := 0xFFFFFFFF, counter := 0xFFFFFFFF },
  { off := 0x38, count := 1, rd := 0xF0FF03FF, otp := 0xF0FF03FF },
  { off := 0x3C, count := 1, rd := 0x800003FF, otp := 0x800003FF },
  { off := 0x40, count := 1, rd := 0x8000007F, otp := 0x8000007F },
  { off := 0x44, count := 1, rd := 0x3F, otp := 0x3F },
  { off := 0x48, count := 5, rd := 0xFFFF1E, otp := 0xFFFF1E },
  { off := 0x5C, count := 10, rd := 0xFFFFFFFF, otp := 0xFFFFFFFF },
  { off := 0x84, count := 1, rd := 0xFFFF01 } ]

/-- Page SMB. -/
def regRowsSMB : List RegRow := [
  { off := 0x04, count := 1, rd := 0xFF7FFF },
  { off := 0x08, count := 1, rd := 0x3FF, w1c := 0x3FF },
  { off := 0x0C, count := 1, rd := 0x3FF, wr := 0x3FF, sticky := 0x3FF },
  { off := 0x10, count := 1 },
  { off := 0x14, count := 1 },
  { off := 0x1C, count := 1, rd := 0xFF },
  { off := 0x20, count := 1, reset := 0xFC0001, rd := 0xFF0013, wr := 0xFF0013, sticky := 0xFF0013 },
  { off := 0x24, count := 1, rd := 0xFFFFFFFF },
  { off := 0x28, count := 1, rd := 0xFFFFFFFF, counter := 0xFFFFFFFF } ]

/-- Page IDN. -/
def regRowsIDN : List RegRow := [
  { off := 0x04, count := 1, rd := 0xFF0F },
  { off := 0x08, count := 1, rd := 0x3F, w1c := 0x3F },
  { off := 0x0C, count := 1, rd := 0x3F, wr := 0x3F, sticky := 0x3F },
  { off := 0x10, count := 1 },
  { off := 0x14, count := 1 },
  { off := 0x18, count := 1 },
  { off := 0x1C, count := 1, rd := 0xFF },
  { off := 0x20, count := 1, rd := 0x1, wr := 0x1, sticky := 0x1 },
  { off := 0x24, count := 2, rd := 0xFFF, wr := 0xFFF },
  { off := 0x2C, count := 1, rd := 0x3FF, wr := 0x3FF },
  { off := 0x30, count := 1, rd := 0xFFFF },
  { off := 0x34, count := 1, rd := 0xFFFF },
  { off := 0x38, count := 1, rd := 0xFFFFFFFF, counter := 0xFFFFFFFF },
  { off := 0x3C, count := 1, rd := 0x7FF },
  { off := 0x40, count := 8, rd := 0xFFFFFFFF, wr := 0xFFFFFFFF, sticky := 0xFFFFFFFF },
  { off := 0x60, count := 8, rd := 0xFFFFFFFF },
  { off := 0x80, count := 8, rd := 0xFFFFFFFF },
  { off := 0xA0, count := 8, rd := 0xFFFFFFFF },
  { off := 0xC0, count := 2, rd := 0xFFFFFFFF } ]

/-- Page DRT. -/
def regRowsDRT : List RegRow := [
  { off := 0x04, count := 1, reset := 0x80000, rd := 0x3FFFFFF },
  { off := 0x08, count := 1, rd := 0xFF, w1c := 0xFF },
  { off := 0x0C, count := 1, rd := 0xFF, wr := 0xFF, sticky := 0xFF },
  { off := 0x10, count := 1 },
  { off := 0x1C, count := 1, rd := 0xFF },
  { off := 0x20, count := 1, reset := 0x1805020A, rd := 0xFFFF03FF, wr := 0xFFFF03FF, sticky := 0xFFFF03FF },
  { off := 0x24, count := 1, rd := 0xFFF0FFF, wr := 0xFFF0FFF, sticky := 0xFFF0FFF },
  { off := 0x28, count := 4, reset := 0x640000, rd := 0xFFF0FFF, wr := 0xFFF0FFF, sticky := 0xFFF0FFF },
  { off := 0x38, count := 1, reset := 0x9B91A58C, rd := 0xFFFFFFFF, wr := 0xFFFFFFFF, sticky := 0xFFFFFFFF },
  { off := 0x3C, count := 1, reset := 0x1200190A, rd := 0x1F1FFFFF, wr := 0x1F1FFFFF, sticky := 0x1F1FFFFF },
  { off := 0x40, count := 8, reset := 0xF000F001, rd := 0xFFFFFFFF, wr := 0xFFFFFFFF, sticky := 0xFFFFFFFF },
  { off := 0x60, count := 1, rd := 0xFFFFFFFF },
  { off := 0x64, count := 1, rd := 0xFFFFFFFF },
  { off := 0x68, count := 1, rd := 0xFFFFFFFF },
  { off := 0x6C, count := 1, reset := 0x780005, rd := 0x1FF003F, wr := 0x1FF003F, sticky := 0x1FF003F },
  { off := 0x70, count := 1, reset := 0x1200, rd := 0x1FFF },
  { off := 0x80, count := 8, rd := 0xFFFFFFFF },
  { off := 0xA0, count := 8, rd := 0xFFFFFFFF },
  { off := 0xC0, count := 1, rd := 0xFFFFFF } ]

/-- Page RUN. -/
def regRowsRUN : List RegRow := [
  { off := 0x04, count := 1, rd := 0xFFFFFF },
  { off := 0x08, count := 1, rd := 0xF, w1c := 0xF },
  { off := 0x0C, count := 1, rd := 0xF, wr := 0xF, sticky := 0xF },
  { off := 0x10, count := 1 },
  { off := 0x14, count := 1 },
  { off := 0x1C, count := 1, rd := 0xFF },
  { off := 0x20, count := 1, reset := 0xC0A0020, rd := 0xFFFFFFF1, wr := 0xFFFFFFF1, sticky := 0xFFFFFFF1 },
  { off := 0x24, count := 4, reset := 0x80000000, rd := 0xFFFF3000, wr := 0xFFFF3000, sticky := 0xFFFF3000 },
  { off := 0x34, count := 4, rd := 0xFFFF },
  { off := 0x44, count := 1, rd := 0xFFFFFFFF },
  { off := 0x48, count := 1, rd := 0xE0FFFFFF },
  { off := 0x4C, count := 8, rd := 0xFFFFC000 },
  { off := 0x6C, count := 1, rd := 0xFFFFFFFF } ]

/-- Page FED. -/
def regRowsFED : List RegRow := [
  { off := 0x04, count := 1, reset := 0xF0004, rd := 0xFFFF7 },
  { off := 0x08, count := 1, rd := 0x3FF, w1c := 0x3FF },
  { off := 0x0C, count := 1, rd := 0x3FF, wr := 0x3FF, sticky := 0x3FF },
  { off := 0x10, count := 1 },
  { off := 0x14, count := 1 },
  { off := 0x1C, count := 1, rd := 0xFF },
  { off := 0x20, count := 1, reset := 0x14141452, rd := 0xFFFFFFFE, wr := 0xFFFFFFFE, sticky := 0xFFFFFFFE },
  { off := 0x24, count := 1, reset := 0xA0A00, rd := 0x7FFFF00, wr := 0x7FFFF00, sticky := 0x7FFFF00 },
  { off := 0x28, count := 1, reset := 0x10A0A00, rd := 0x7FFFF00, wr := 0x7FFFF00, sticky := 0x7FFFF00 },
  { off := 0x2C, count := 1, reset := 0x20A0A00, rd := 0x7FFFF00, wr := 0x7FFFF00, sticky := 0x7FFFF00 },
  { off := 0x30, count := 1, reset := 0x30A0A00, rd := 0x7FFFF00, wr := 0x7FFFF00, sticky := 0x7FFFF00 },
  { off := 0x34, count := 4, reset := 0x230006E, rd := 0x3FF03FF, wr := 0x3FF03FF, sticky := 0x3FF03FF },
  { off := 0x44, count := 4, reset := 0x646402, rd := 0xFFFFFFF, wr := 0xFFFFFFF, sticky := 0xFFFFFFF },
  { off := 0x54, count := 4, rd := 0xFFFFFFFF },
  { off := 0x64, count := 1, rd := 0xFFFFFFFF },
  { off := 0x68, count := 1, reset := 0x4400000, rd := 0xE770FFFF } ]

/-- Page CMP. -/
def regRowsCMP : List RegRow := [
  { off := 0x04, count := 1, rd := 0xFFFFFFFF },
  { off := 0x08, count := 1, rd := 0xFFFFFFFF, w1c := 0xFFFFFFFF },
  { off := 0x0C, count := 1, rd := 0xFFFFFFFF, wr := 0xFFFFFFFF, sticky := 0xFFFFFFFF },
  { off := 0x10, count := 1 },
  { off := 0x1C, count := 1, rd := 0xFF },
  { off := 0x20, count := 1, rd := 0xFFFFFFFF },
  { off := 0x24, count := 1, rd := 0xFFFFFFFF },
  { off := 0x28, count := 1, rd := 0xFFFFFFFF, w1c := 0xFFFFFFFF },
  { off := 0x2C, count := 32, reset := 0xFF000000, rd := 0xFFFFFFFD, wr := 0xFFFFFFFD, sticky := 0xFFFFFFFD } ]

/-- Page HTH. -/
def regRowsHTH : List RegRow := [
  { off := 0x04, count := 1, rd := 0xFFF33 },
  { off := 0x08, count := 1, rd := 0x7FF, w1c := 0x7FF },
  { off := 0x0C, count := 1, rd := 0x7FF, wr := 0x7FF, sticky := 0x7FF },
  { off := 0x10, count := 1 },
  { off := 0x14, count := 1 },
  { off := 0x18, count := 1 },
  { off := 0x1C, count := 1, rd := 0xFF },
  { off := 0x20, count := 1, rd := 0x13, wr := 0x13, sticky := 0x13 },
  { off := 0x24, count := 1, reset := 0x1000, rd := 0x1FF0F, wr := 0x1FF0F, sticky := 0x1FF0F },
  { off := 0x28, count := 1, rd := 0xFFFF00F7 },
  { off := 0x2C, count := 1, rd := 0xF7F },
  { off := 0x30, count := 1, rd := 0xFFFFFFFF },
  { off := 0x34, count := 1, rd := 0xFFFF },
  { off := 0x38, count := 1, rd := 0xFFFFFFFF, counter := 0xFFFFFFFF },
  { off := 0x3C, count := 1, reset := 0x1212, rd := 0x1F1F } ]

/-- Page LEN. -/
def regRowsLEN : List RegRow := [
  { off := 0x04, count := 1, reset := 0xC, rd := 0x1F1F0F },
  { off := 0x08, count := 1, rd := 0x3, w1c := 0x3 },
  { off := 0x0C, count := 1, rd := 0x3, wr := 0x3, sticky := 0x3 },
  { off := 0x10, count := 1 },
  { off := 0x1C, count := 1, rd := 0xFF },
  { off := 0x20, count := 1, rd := 0xFFFFFFFF },
  { off := 0x24, count := 1, rd := 0xFFFF },
  { off := 0x28, count := 1, reset := 0x12, rd := 0x1F },
  { off := 0x2C, count := 1, rd := 0xFFFFFFFF, counter := 0xFFFFFFFF },
  { off := 0x30, count := 1, rd := 0xFFFFFFFF, counter := 0xFFFFFFFF } ]

/-- Page TRC. -/
def regRowsTRC : List RegRow := [
  { off := 0x04, count := 1, rd := 0x7, trace := 0x7 },
  { off := 0x08, count := 1, rd := 0x1F, w1c := 0x1F, trace := 0x1F },
  { off := 0x0C, count := 1, rd := 0x1F, wr := 0x1F, sticky := 0x1F },
  { off := 0x10, count := 1, trace := 0x1F },
  { off := 0x14, count := 1, trace := 0x7 },
  { off := 0x1C, count := 1, rd := 0xFF, trace := 0xFF },
  { off := 0x20, count := 1, reset := 0x40000, rd := 0xFFFFFFFF, wr := 0xFFFFFFFF, sticky := 0xFFFFFFFF },
  { off := 0x24, count := 1, reset := 0x20001FFF, rd := 0x3FFF3FFF, wr := 0x3FFF3FFF, sticky := 0x3FFF3FFF },
  { off := 0x28, count := 1, reset := 0x1, rd := 0xF, wr := 0xF, sticky := 0xF },
  { off := 0x2C, count := 1, reset := 0x100, rd := 0x33F, wr := 0x33F, sticky := 0x33F },
  { off := 0x30, count := 1, rd := 0xFF0003, wr := 0xFF0003, sticky := 0xFF0003 },
  { off := 0x34, count := 1, rd := 0x1FFFF, wr := 0x1FFFF, sticky := 0x1FFFF },
  { off := 0x38, count := 1, rd := 0xFFFFFFFF, trace := 0xFFFFFFFF },
  { off := 0x3C, count := 1, rd := 0xFFFFFFFF, trace := 0xFFFFFFFF },
  { off := 0x40, count := 1, rd := 0xFFFF, trace := 0xFFFF },
  { off := 0x44, count := 1, rd := 0x7FFF, wr := 0x7FFF, trace := 0x7FFF } ]

/-- Page LEX. -/
def regRowsLEX : List RegRow := [
  { off := 0x04, count := 1, rd := 0xFE7FFFFF },
  { off := 0x08, count := 1, rd := 0x7F, w1c := 0x7F },
  { off := 0x0C, count := 1, rd := 0x7F, wr := 0x7F, sticky := 0x7F },
  { off := 0x10, count := 1 },
  { off := 0x14, count := 1 },
  { off := 0x18, count := 1 },
  { off := 0x1C, count := 1, rd := 0xFF },
  { off := 0x20, count := 4, rd := 0xFFFFFFFF, wr := 0xFFFFFFFF },
  { off := 0x30, count := 4, rd := 0xFFFFFFFF },
  { off := 0x40, count := 1, rd := 0x7FF, wr := 0x7FF } ]

/-- Page PHB. -/
def regRowsPHB : List RegRow := [
  { off := 0x04, count := 1, rd := 0xFE07FFFF },
  { off := 0x08, count := 1, rd := 0x7F, w1c := 0x7F },
  { off := 0x0C, count := 1, rd := 0x7F, wr := 0x7F, sticky := 0x7F },
  { off := 0x10, count := 1 },
  { off := 0x14, count := 1 },
  { off := 0x18, count := 1 },
  { off := 0x1C, count := 1, rd := 0xFF },
  { off := 0x20, count := 4, rd := 0xFFFFFFFF, wr := 0xFFFFFFFF },
  { off := 0x30, count := 4, rd := 0xFFFFFFFF },
  { off := 0x40, count := 1, rd := 0x1FF, wr := 0x1FF } ]

/-- Page OPC. -/
def regRowsOPC : List RegRow := [
  { off := 0x04, count := 1, rd := 0xFFFF03 },
  { off := 0x08, count := 1, rd := 0x7FFFF, w1c := 0x7FFFF },
  { off := 0x0C, count := 1, rd := 0x7FFFF, wr := 0x7FFFF, sticky := 0x7FFFF },
  { off := 0x10, count := 1 },
  { off := 0x14, count := 1 },
  { off := 0x18, count := 1 },
  { off := 0x1C, count := 1, rd := 0xFF },
  { off := 0x20, count := 8, rd := 0x1FFF3F3F, wr := 0x1FFF3F3F, sticky := 0x1FFF3F3F },
  { off := 0x40, count := 8, reset := 0x9000B000, rd := 0xFFFFFFFF, wr := 0xFFFFFFFF, sticky := 0xFFFFFFFF },
  { off := 0x60, count := 8, reset := 0x8082000, rd := 0xFFFF7FFF, wr := 0xFFFF7FFF, sticky := 0xFFFF7FFF },
  { off := 0x80, count := 8, reset := 0x8082000, rd := 0xFFFF7FFF, wr := 0xFFFF7FFF, sticky := 0xFFFF7FFF },
  { off := 0xA0, count := 1, rd := 0x1FFF, wr := 0x1FFF },
  { off := 0xA4, count := 8, rd := 0xFFFF9FFF },
  { off := 0xC4, count := 8, rd := 0xFFFFFFFF } ]

/-- Page THN. -/
def regRowsTHN : List RegRow := [
  { off := 0x04, count := 1, rd := 0xFFFFFFFF },
  { off := 0x08, count := 1, rd := 0x3FF, w1c := 0x3FF },
  { off := 0x0C, count := 1, rd := 0x3FF, wr := 0x3FF, sticky := 0x3FF },
  { off := 0x10, count := 1 },
  { off := 0x20, count := 1, rd := 0xFFFF },
  { off := 0x24, count := 1, reset := 0xA3208, rd := 0xFFFFFF1E, wr := 0xFFFFFF1E, sticky := 0xFFFFFF1E },
  { off := 0x28, count := 1, reset := 0x1E00096, rd := 0x1FF01FF, wr := 0x1FF01FF, sticky := 0x1FF01FF },
  { off := 0x40, count := 8, rd := 0x3FFF8000 },
  { off := 0x60, count := 8, rd := 0xFFFFFFC0 },
  { off := 0x80, count := 8, rd := 0xFF },
  { off := 0xA0, count := 8, rd := 0xFFFFFFC0, wr := 0xFFFFFFC0, sticky := 0xFFFFFFC0 },
  { off := 0xC0, count := 8, rd := 0xFFFFFFFF },
  { off := 0xE0, count := 8, rd := 0xFFFFFFFF } ]

/-- Page ADC. -/
def regRowsADC : List RegRow := [
  { off := 0x04, count := 1, rd := 0x3FFF },
  { off := 0x08, count := 1, rd := 0x1, w1c := 0x1 },
  { off := 0x0C, count := 1, rd := 0x1, wr := 0x1, sticky := 0x1 },
  { off := 0x10, count := 1 },
  { off := 0x1C, count := 1, rd := 0xFF },
  { off := 0x20, count := 24, rd := 0xFFF0FFF } ]

/-- Page CC. -/
def regRowsCC : List RegRow := [
  { off := 0x04, count := 1, reset := 0x807070, rd := 0x1FFFFF7F },
  { off := 0x08, count := 1, rd := 0x3FFF, w1c := 0x3FFF },
  { off := 0x0C, count := 1, rd := 0x3FFF, wr := 0x3FFF, sticky := 0x3FFF },
  { off := 0x10, count := 1 },
  { off := 0x14, count := 1, reset := 0x1, rd := 0x1, wr := 0x1, sticky := 0x1 },
  { off := 0x1C, count := 1, rd := 0xFF },
  { off := 0x20, count := 1, reset := 0x324B00, rd := 0x3FFFF00, wr := 0x1FFFF00, sticky := 0x1FFFF00 },
  { off := 0x24, count := 1, reset := 0xC0F96, rd := 0xFFFFFF, wr := 0xFFFFFF, sticky := 0xFFFFFF },
  { off := 0x28, count := 1, reset := 0xA0C, rd := 0xFF0F, wr := 0xFF0F, sticky := 0xFF0F },
  { off := 0x2C, count := 1, rd := 0xFF03 },
  { off := 0x30, count := 1, rd := 0xF },
  { off := 0x34, count := 1, reset := 0x240024, rd := 0x1FF01FF, wr := 0x1FF, sticky := 0x1FF },
  { off := 0x38, count := 1, rd := 0x1FFFF00 } ]

/-- Page MSG. -/
def regRowsMSG : List RegRow := [
  { off := 0x04, count := 1, rd := 0x1FFFFE00 },
  { off := 0x08, count := 1, rd := 0x1FFF, w1c := 0x1FFF },
  { off := 0x0C, count := 1, rd := 0x1FFF, wr := 0x1FFF, sticky := 0x1FFF },
  { off := 0x10, count := 1 },
  { off := 0x14, count := 1 },
  { off := 0x1C, count := 1, rd := 0xFF },
  { off := 0x20, count := 1, reset := 0x1A0B, rd := 0xFF0F, wr := 0xFF0F, sticky := 0xFF0F },
  { off := 0x24, count := 1, reset := 0x8, rd := 0x1F, wr := 0x1F, sticky := 0x1F },
  { off := 0x28, count := 1, reset := 0x202000, rd := 0x3F3F00, rc := 0x3F00 },
  { off := 0x2C, count := 1, rd := 0x3FFFFFF },
  { off := 0x30, count := 1, rd := 0x3FFFFFF } ]

/-- Page POL. -/
def regRowsPOL : List RegRow := [
  { off := 0x04, count := 1, rd := 0xFFE03F },
  { off := 0x08, count := 1, rd := 0x1FFFF, w1c := 0x1FFFF },
  { off := 0x0C, count := 1, rd := 0x1FFFF, wr := 0x1FFFF, sticky := 0x1FFFF },
  { off := 0x10, count := 1 },
  { off := 0x14, count := 1 },
  { off := 0x1C, count := 1, rd := 0xFF, wake := 0xFF },
  { off := 0x20, count := 1, rd := 0xFE0000 },
  { off := 0x24, count := 1, rd := 0xFFFFFFFF },
  { off := 0x28, count := 1, rd := 0xFFFFFFFF },
  { off := 0x2C, count := 1, rd := 0xFF, wr := 0xFF, sticky := 0xFF },
  { off := 0x30, count := 1, reset := 0x1F4, rd := 0xFFFF, wr := 0xFFFF, sticky := 0xFFFF },
  { off := 0x34, count := 1, rd := 0xFFFF },
  { off := 0x38, count := 1, rd := 0xFF },
  { off := 0x3C, count := 1, rd := 0xFF0000FF },
  { off := 0x40, count := 11, rd := 0xFFFFFFFF },
  { off := 0x80, count := 11, rd := 0xFFFFFFFF } ]

/-- Page VDM. -/
def regRowsVDM : List RegRow := [
  { off := 0x04, count := 1, rd := 0x1F0FC0 },
  { off := 0x08, count := 1, rd := 0x7FFF, w1c := 0x7FFF },
  { off := 0x0C, count := 1, rd := 0x7FFF, wr := 0x7FFF, sticky := 0x7FFF },
  { off := 0x10, count := 1 },
  { off := 0x14, count := 1 },
  { off := 0x1C, count := 1, rd := 0xFF },
  { off := 0x20, count := 6, rd := 0xFFFFFFFF },
  { off := 0x38, count := 6, rd := 0xFFFFFFFF },
  { off := 0x50, count := 4, rd := 0xFFFFF },
  { off := 0x60, count := 2, rd := 0xFFFFFFFF },
  { off := 0x68, count := 1, rd := 0xFFFFFFFF },
  { off := 0x6C, count := 6, rd := 0xFFFFFFFF },
  { off := 0x84, count := 1, rd := 0xFFFFFFFF, wr := 0xFFFFFFFF },
  { off := 0x88, count := 6, rd := 0xFFFFFFFF, wr := 0xFFFFFFFF } ]

/-- Page STG. -/
def regRowsSTG : List RegRow := [
  { off := 0x04, count := 1, reset := 0x80000, rd := 0xFF1F07, hearth := 0xFC1C00 },
  { off := 0x08, count := 1, rd := 0x7F, w1c := 0x7F, hearth := 0x6 },
  { off := 0x0C, count := 1, rd := 0x7F, wr := 0x7F, sticky := 0x7F },
  { off := 0x10, count := 1 },
  { off := 0x1C, count := 1, rd := 0xFF },
  { off := 0x20, count := 1, reset := 0x1000028, rd := 0x37F7F7F, wr := 0x3007F7F, sticky := 0x3007F7F },
  { off := 0x24, count := 1, reset := 0x7FF7F00, rd := 0x7FF7F7F, wr := 0x7FF7F7F, sticky := 0x7FF7F7F },
  { off := 0x28, count := 1, reset := 0xC80800, rd := 0x1FF0FFF, wr := 0x1FF0FFF, sticky := 0x1FF0FFF },
  { off := 0x2C, count := 1, reset := 0x40, rd := 0x3FF, wr := 0x3FF, sticky := 0x3FF },
  { off := 0x30, count := 1, reset := 0xA, rd := 0x101FF, wr := 0x101FF, hearth := 0x101FF, sticky := 0x101FF },
  { off := 0x34, count := 1, rd := 0xFFF, wr := 0xFFF, hearth := 0xFF000FFF },
  { off := 0x38, count := 1, rd := 0xFFFFFFFF, hearth := 0xFFFFFFFF },
  { off := 0x3C, count := 1, reset := 0x40100, rd := 0x1F1F1F01, wr := 0x1F1F1F01, hearth := 0x1F1F1F01, sticky := 0x1F1F1F01 },
  { off := 0x40, count := 1, rd := 0xFFFFFFFF, hearth := 0xFFFFFFFF },
  { off := 0x44, count := 4, rd := 0xFFFFFFFF, wr := 0xFFFFFFFF, kept := 0xFFFFFFFF },
  { off := 0x54, count := 4, rd := 0xFFFFFFFF, wr := 0xFFFFFFFF, kept := 0xFFFFFFFF },
  { off := 0x64, count := 1, rd := 0xFFF0FFF } ]

/-- Page ILP. -/
def regRowsILP : List RegRow := [
  { off := 0x04, count := 1, rd := 0xFFFF000F },
  { off := 0x08, count := 1, rd := 0x7, w1c := 0x7 },
  { off := 0x0C, count := 1, rd := 0x7, wr := 0x7, sticky := 0x7 },
  { off := 0x10, count := 1 },
  { off := 0x1C, count := 1, rd := 0xFF },
  { off := 0x20, count := 1, reset := 0x2, rd := 0x7, wr := 0x7, sticky := 0x7 },
  { off := 0x24, count := 1, reset := 0x64, rd := 0xFFFFFFFF, wr := 0xFFFFFFFF, sticky := 0xFFFFFFFF },
  { off := 0x28, count := 1, rd := 0xFFFFF000 },
  { off := 0x2C, count := 1, rd := 0xFFFFFFFF },
  { off := 0x30, count := 1, rd := 0xFFFFFFFF },
  { off := 0x34, count := 4, rd := 0xFFFFFFFF, wr := 0xFFFFFFFF, kept := 0xFFFFFFFF },
  { off := 0x44, count := 4, rd := 0xFFFFFFFF, wr := 0xFFFFFFFF, kept := 0xFFFFFFFF } ]

/-- Page FND. -/
def regRowsFND : List RegRow := [
  { off := 0x04, count := 1, reset := 0x30000, rd := 0xF0FF7 },
  { off := 0x08, count := 1, rd := 0x7FF, w1c := 0x7FF },
  { off := 0x0C, count := 1, rd := 0x7FF, wr := 0x7FF, sticky := 0x7FF },
  { off := 0x10, count := 1 },
  { off := 0x14, count := 1 },
  { off := 0x1C, count := 1, rd := 0xFF },
  { off := 0x20, count := 1, reset := 0x100C8, rd := 0x30FFF, wr := 0x30FFF, sticky := 0x30FFF },
  { off := 0x24, count := 1, reset := 0x40280078, rd := 0xC1FF01FF, wr := 0xC1FF01FF, sticky := 0xC1FF01FF },
  { off := 0x28, count := 1, reset := 0x640064, rd := 0x3FF03FF, wr := 0x3FF03FF, sticky := 0x3FF03FF },
  { off := 0x2C, count := 1, reset := 0x13C2837, rd := 0xFFFFFFFF, wr := 0xFFFFFFFF, sticky := 0xFFFFFFFF },
  { off := 0x30, count := 1, reset := 0x30000032, rd := 0xF0001FFF, wr := 0xF0001FFF, sticky := 0xF0001FFF },
  { off := 0x34, count := 1, reset := 0xC8003C, rd := 0xFFFF0FFF, wr := 0xFFFF0FFF, sticky := 0xFFFF0FFF },
  { off := 0x38, count := 1, reset := 0x3C, rd := 0x1FF },
  { off := 0x3C, count := 1, rd := 0x3FF03FF },
  { off := 0x40, count := 1, rd := 0xFFFFFFFF },
  { off := 0x44, count := 1, rd := 0xFFFFFFFF },
  { off := 0x48, count := 1, rd := 0xFFFFFFFF } ]

/-- Page THM. -/
def regRowsTHM : List RegRow := [
  { off := 0x04, count := 1, rd := 0xF },
  { off := 0x08, count := 1, rd := 0x7, w1c := 0x7 },
  { off := 0x0C, count := 1, rd := 0x7, wr := 0x7, sticky := 0x7 },
  { off := 0x10, count := 1 },
  { off := 0x1C, count := 1, rd := 0xFF },
  { off := 0x20, count := 1, reset := 0xAF0F7D00, rd := 0xFFFFFF7F, wr := 0xFFFFFF7F, sticky := 0xFFFFFF7F },
  { off := 0x24, count := 1, reset := 0xD6B, rd := 0xFFFF, wr := 0xFFFF, sticky := 0xFFFF },
  { off := 0x28, count := 1, reset := 0x12C012C, rd := 0xFFFFFFFF, wr := 0xFFFFFFFF, sticky := 0xFFFFFFFF },
  { off := 0x2C, count := 1, reset := 0x499A4000, rd := 0xFFFFFFFF, wr := 0xFFFFFFFF, sticky := 0xFFFFFFFF },
  { off := 0x30, count := 1, reset := 0x6000547B, rd := 0xFFFFFFFF, wr := 0xFFFFFFFF, sticky := 0xFFFFFFFF },
  { off := 0x34, count := 1, reset := 0x799A6CCD, rd := 0xFFFFFFFF, wr := 0xFFFFFFFF, sticky := 0xFFFFFFFF },
  { off := 0x38, count := 1, reset := 0xA0032, rd := 0xFFFFFFFF, wr := 0xFFFFFFFF, sticky := 0xFFFFFFFF },
  { off := 0x3C, count := 1, reset := 0x1F401F4, rd := 0xFFFFFFFF, wr := 0xFFFFFFFF, sticky := 0xFFFFFFFF },
  { off := 0x40, count := 1, reset := 0x4E2009C4, rd := 0xFFFFFFFF, wr := 0xFFFFFFFF, sticky := 0xFFFFFFFF },
  { off := 0x44, count := 1, reset := 0xA0032, rd := 0xFFFFFFFF, wr := 0xFFFFFFFF, sticky := 0xFFFFFFFF },
  { off := 0x48, count := 1, reset := 0x1F401F4, rd := 0xFFFFFFFF, wr := 0xFFFFFFFF, sticky := 0xFFFFFFFF },
  { off := 0x4C, count := 1, reset := 0x4E2009C4, rd := 0xFFFFFFFF, wr := 0xFFFFFFFF, sticky := 0xFFFFFFFF },
  { off := 0x50, count := 1, rd := 0xFFFFFFFF },
  { off := 0x54, count := 1, rd := 0xFFF00FF },
  { off := 0x58, count := 3, rd := 0xFFFFFF },
  { off := 0x64, count := 3, rd := 0xFFFFFF } ]

/-- Pages 0x60 and 0x66, DBG (Table 16.7). -/
def regRowsDBG : List RegRow := [
  { off := 0x08, count := 1, rd := 0x1, w1c := 0x1 },
  { off := 0x20, count := 1, reset := 0x7, rd := 0xFF } ]

/-- Pages 0x62 and 0x68, LATCH (Table 16.7). -/
def regRowsLATCH : List RegRow := [
  { off := 0x20, count := 16, rd := 0xFFFFFFFF },
  { off := 0x60, count := 1, rd := 0xFFFF },
  { off := 0x64, count := 1, rd := 0xFFFFFFFF, counter := 0xFFFFFFFF } ]

/-- Pages 0x63 and 0x69, TRACE (Table 16.7). -/
def regRowsTRACE : List RegRow := [
  { off := 0x20, count := 1, rd := 0x7FFF, wr := 0x7FFF } ]

/-- Pages 0x64 and 0x6A, SELF (Table 16.7). -/
def regRowsSELF : List RegRow := [
  { off := 0x20, count := 1, rd := 0x7 },
  { off := 0x24, count := 1, rd := 0xFFFF },
  { off := 0x28, count := 1, rd := 0x1F },
  { off := 0x2C, count := 1, rd := 0xFFFFFF, counter := 0xFFFFFF } ]

end Sys2Proof.Machine
end

