-- ==== Sys2Proof/Machine/Ops.lean ====
section
/-! DEFINITION. The named operations every command is written in: a sparse store in one canonical form, the fields of the
register fabric and the copies a write reaches (R4, R5, R16), the timers (R71, R95), the events and the reports they put on
Flue's rails (R361, R424). -/

namespace Sys2Proof.Machine

/-! ### A sparse store: keys rising, no entry equal to what an unlisted key reads as -/

/-- What the store `m` holds at `k`, where an unlisted key reads as `d k`. -/
def sparseRead {α : Type} (d : Nat → α) : List (Nat × α) → Nat → α
  | [], k => d k
  | (a, v) :: t, k => if a = k then v else sparseRead d t k

/-- The store without key `k`. -/
def sparseErase {α : Type} : List (Nat × α) → Nat → List (Nat × α)
  | [], _ => []
  | (a, v) :: t, k => if a = k then sparseErase t k else (a, v) :: sparseErase t k

/-- The store with `(k, v)` put before the first greater key. -/
def sparseInsert {α : Type} : List (Nat × α) → Nat → α → List (Nat × α)
  | [], k, v => [(k, v)]
  | (a, w) :: t, k, v => if k < a then (k, v) :: (a, w) :: t else (a, w) :: sparseInsert t k v

/-- The store with `v` at `k`, in canonical form: writing what an unlisted key reads as removes the entry. -/
def sparseWrite {α : Type} [DecidableEq α] (d : Nat → α) (m : List (Nat × α)) (k : Nat) (v : α) : List (Nat × α) :=
  if v = d k then sparseErase m k else sparseInsert (sparseErase m k) k v

/-- The canonical form: every key above the one before it, and no entry equal to what its key reads as when unlisted. -/
def sparseWf {α : Type} [DecidableEq α] (d : Nat → α) : List (Nat × α) → Bool
  | [] => true
  | (a, v) :: t => (v ≠ d a) && (t.all fun p => a < p.1) && sparseWf d t

/-! ### Bits of a word -/

/-- Bits [lo + width - 1 : lo] of `w`. -/
def bitsGet (w : Word) (lo width : Nat) : Nat := w.toNat / 2 ^ lo % 2 ^ width

/-- `w` with its bits [lo + width - 1 : lo] replaced by the low bits of `v`. -/
def bitsSet (w : Word) (lo width v : Nat) : Word :=
  BitVec.ofNat 32 (w.toNat % 2 ^ lo + v % 2 ^ width * 2 ^ lo + w.toNat / 2 ^ (lo + width) * 2 ^ (lo + width))

/-- Bit `i` of a number. -/
def bitOf (v i : Nat) : Bool := v / 2 ^ i % 2 = 1

/-- `v` with bit `i` set to `b`. -/
def bitPut (v i : Nat) (b : Bool) : Nat :=
  if bitOf v i = b then v else if b then v + 2 ^ i else v - 2 ^ i

/-- 1 for true, 0 for false: how a flag stands in a register. -/
def bn (b : Bool) : Nat := if b then 1 else 0

/-- The two's-complement value of a `w`-bit number. -/
def signed (w v : Nat) : Int := if v % 2 ^ w < 2 ^ (w - 1) then (v % 2 ^ w : Int) else (v % 2 ^ w : Int) - 2 ^ w

/-- The `w`-bit two's-complement code of an integer. -/
def unsigned (w : Nat) (x : Int) : Nat := (x % (2 ^ w : Int)).toNat

/-- A value held within `lo` and `hi`. -/
def clampInt (lo hi x : Int) : Int := if x < lo then lo else if hi < x then hi else x

/-- Ceiling of a quotient; 0 for a divisor of 0. -/
def ceilDiv (a b : Nat) : Nat := if b = 0 then 0 else (a + b - 1) / b

/-! ### The register table -/

/-- Number of a register page's first port page block: 0x20 + 8n + k. -/
def pageOf (addr : Nat) : Nat := addr / 256

/-- The rows of a page (Table 20.2). -/
def regRows (page : Nat) : List RegRow :=
  if 0x20 ≤ page ∧ page ≤ 0x5F then
    match page % 8 with
    | 0 => regRowsCC | 1 => regRowsMSG | 2 => regRowsPOL | 3 => regRowsVDM
    | 4 => regRowsSTG | 5 => regRowsILP | 6 => regRowsFND | _ => regRowsTHM
  else
    match page with
    | 0x00 => regRowsDEV | 0x01 => regRowsEMB | 0x02 => regRowsTB | 0x03 => regRowsFLU | 0x04 => regRowsASH
    | 0x05 => regRowsOTP | 0x06 => regRowsSMB | 0x07 => regRowsIDN | 0x08 => regRowsDRT | 0x09 => regRowsRUN
    | 0x0A => regRowsFED | 0x0B => regRowsCMP | 0x0C => regRowsCMP | 0x0D => regRowsHTH | 0x0E => regRowsLEN
    | 0x0F => regRowsTRC | 0x10 => regRowsLEX | 0x11 => regRowsPHB | 0x12 => regRowsOPC | 0x13 => regRowsTHN
    | 0x14 => regRowsADC
    | 0x60 => regRowsDBG | 0x66 => regRowsDBG | 0x62 => regRowsLATCH | 0x68 => regRowsLATCH
    | 0x63 => regRowsTRACE | 0x69 => regRowsTRACE | 0x64 => regRowsSELF | 0x6A => regRowsSELF
    | _ => []

/-- The row of the register at an offset, if the page maps one there. -/
def rowAt : List RegRow → Nat → Option RegRow
  | [], _ => none
  | r :: t, off => if r.off ≤ off ∧ off < r.off + 4 * r.count then some r else rowAt t off

/-- The row of the register at a byte address. -/
def regRow (addr : Nat) : Option RegRow := rowAt (regRows (pageOf addr)) (addr % 256)

/-- Keys of the register store: four words to a byte address, the single one, Hearth A's, Hearth B's, and the snapshot in Ember SRAM
of what the hearths hold (R53, Table 1.6). -/
def regKey (addr copy : Nat) : Nat := 4 * addr + copy

/-- What an unlisted register reads as: its word after a power-on reset, with every OTP word 0 (R6). -/
def regDefault (key : Nat) : Word :=
  match regRow (key / 4) with
  | some r => BitVec.ofNat 32 r.reset
  | none => 0

/-! ### Hearths and copies (R16, Table 16.1) -/

/-- Copy number of a hearth in the register store. -/
def hthCopy : Hth → Nat
  | .A => 1
  | .B => 2

/-- Copy number of the snapshot in Ember SRAM. -/
def emberCopy : Nat := 3

/-- 0 for A, 1 for B, as the registers code a hearth. -/
def hthBit : Hth → Nat
  | .A => 0
  | .B => 1

/-- Hearth of a register's code. -/
def hthOfBit (b : Nat) : Hth := if b = 0 then .A else .B

/-- Codes of Table 16.1. -/
def roleCode : Role → Nat
  | .off => 0 | .solo => 1 | .owner => 2 | .active => 3 | .shadow => 4 | .fenced => 5 | .copying => 6

/-- Codes of HTH.STATUS.mode. -/
def modeCode : HMode → Nat
  | .solo => 0 | .split => 1 | .mirror => 2

/-- The role of a hearth. -/
def State.role (s : State) : Hth → Role
  | .A => s.hearths.roleA
  | .B => s.hearths.roleB

/-- A fenced hearth's rail is off (R352). -/
def State.railOff (s : State) : Hth → Bool
  | .A => s.hearths.offA
  | .B => s.hearths.offB

/-- A hearth is powered: its role is not Off and its rail has not been switched off. -/
def State.powered (s : State) (h : Hth) : Bool := s.role h ≠ .off && !s.railOff h

/-- The hearth that drives in Solo and Mirror. -/
def State.activeHearth (s : State) : Hth :=
  if s.hearths.roleB = .solo ∨ s.hearths.roleB = .active then .B else .A

/-- The hearth whose outputs drive a port (Table 1.2). -/
def State.driver (s : State) (n : Port) : Hth :=
  match s.hearths.mode with
  | .split => if n.val < 4 then .A else .B
  | _ => s.activeHearth

/-- The hearth a device-wide read returns (R16). -/
def State.devHearth (s : State) : Hth :=
  match s.hearths.mode with
  | .split => .A
  | _ => s.activeHearth

/-- Hearth `h` runs port `n`, or receives what the host writes to it (R16, R352): in Split its owner only, otherwise the driver
and every other powered hearth. -/
def State.runsPort (s : State) (h : Hth) (n : Port) : Bool :=
  h = s.driver n || (s.hearths.mode ≠ .split && s.powered h)

/-- Hearth `h` receives what reaches every running hearth. -/
def State.runsDev (s : State) (h : Hth) : Bool := h = s.devHearth || s.powered h

/-- The hearths that receive what reaches every running hearth. -/
def State.devHearths (s : State) : List Hth := [Hth.A, Hth.B].filter fun h => s.runsDev h

/-- The logic of the hearths that run the ports (Table 1.1). -/
def State.logic (s : State) : Logic :=
  { msg := s.msg, pol := s.pol, vdm := s.vdm, thn := s.thn, lp := s.lp, lanes := s.lanes, fnd := s.fnd, inputs := s.inputs,
    draught := s.draught, auth := s.auth }

/-- What a hearth's logic holds of the ports that `p` names, the rest at its reset condition. -/
def Logic.portsOf (l : Logic) (p : Port → Bool) : Logic :=
  { l with
    msg := Vector.ofFn fun n => if p n then l.msg.get n else MsgPort.empty
    pol := Vector.ofFn fun n => if p n then l.pol.get n else PolPort.empty
    vdm := Vector.ofFn fun n => if p n then l.vdm.get n else VdmPort.empty
    thn := Vector.ofFn fun n => if p n then l.thn.get n else ThnPort.empty
    lp := Vector.ofFn fun n => if p n then l.lp.get n else LoopPort.empty
    fnd := Vector.ofFn fun n => if p n then l.fnd.get n else FndPort.empty
    inputs := l.inputs.filter fun i => p i.port
    auth := l.auth.filter fun c => p c.port }

/-- The logic that a hearth holds (Tables 1.1 and 16.1): none without power, that held apart where it has been reset while Fenced or Copying,
otherwise that of the ports it runs, which in Mirror is the same in both hearths. -/
def State.logicOf (s : State) (h : Hth) : Option Logic :=
  if !s.powered h then none
  else match s.apart with
    | some l => if s.role h = .fenced ∨ s.role h = .copying then some l else some (s.logic.portsOf (s.runsPort h))
    | none => some (s.logic.portsOf (s.runsPort h))

/-- The copy a read of a home returns. -/
def State.copyOf (s : State) : Home → Nat
  | .single => 0
  | .port n => hthCopy (s.driver n)
  | .dev => hthCopy s.devHearth
  | .own h => hthCopy h

/-- The copies a write to a home reaches: for what a hearth holds also the snapshot in Ember SRAM, in the same access (R53). -/
def State.copies (s : State) : Home → List Nat
  | .single => [0]
  | .port n => (if s.runsPort .A n then [1] else []) ++ (if s.runsPort .B n then [2] else []) ++ [3]
  | .dev => (if s.runsDev .A then [1] else []) ++ (if s.runsDev .B then [2] else []) ++ [3]
  | .own h => [hthCopy h]

/-- A hearth's own copy of a device-wide field. -/
def Field.inHearth (f : Field) (h : Hth) : Field := { f with home := .own h }

/-- The word of a register in one copy. -/
def State.word (s : State) (addr copy : Nat) : Word := sparseRead regDefault s.regs (regKey addr copy)

/-- The register store is in its canonical form. -/
abbrev State.Wf (s : State) : Prop := sparseWf regDefault s.regs = true

/-- Write the word of a register in one copy. -/
def State.putWord (s : State) (addr copy : Nat) (w : Word) : State :=
  { s with regs := sparseWrite regDefault s.regs (regKey addr copy) w }

/-- The value of a field in the snapshot. -/
def State.kept (s : State) (f : Field) : Nat := bitsGet (s.word f.addr emberCopy) f.lo f.width

/-- A field's value, from the copy a read returns. -/
def State.get (s : State) (f : Field) : Nat := bitsGet (s.word f.addr (s.copyOf f.home)) f.lo f.width

/-- A one-bit field as a Boolean. -/
def State.flag (s : State) (f : Field) : Bool := s.get f = 1

/-- Write a field in the copies listed. -/
def regsSet (m : List (Nat × Word)) (f : Field) (v : Nat) : List Nat → List (Nat × Word)
  | [] => m
  | c :: t =>
    regsSet (sparseWrite regDefault m (regKey f.addr c) (bitsSet (sparseRead regDefault m (regKey f.addr c)) f.lo f.width v))
      f v t

/-- A register's word in copy `c` after a reset that presents the bits `snap` from the snapshot to what a hearth holds, keeps the other bits
of `own` as they stand, and brings the rest to the reset value. -/
def restoredWord (m : List (Nat × Word)) (snap own : Nat) (r : RegRow) (addr c : Nat) : Word :=
  let e := BitVec.ofNat 32 (if c = 0 then 0 else snap)
  let o := BitVec.ofNat 32 own
  (sparseRead regDefault m (regKey addr emberCopy) &&& e) ||| (sparseRead regDefault m (regKey addr c) &&& o &&& ~~~e) |||
    (BitVec.ofNat 32 r.reset &&& ~~~(e ||| o))

/-- Write the copies `cs` of every register that `m` lists into a store, as `f` gives their words. -/
def regsRestore (m : List (Nat × Word)) (cs : List Nat) (f : Nat → Nat → Word) (into : List (Nat × Word)) : List (Nat × Word) :=
  m.foldl (fun t p => cs.foldl (fun t c => sparseWrite regDefault t (regKey (p.1 / 4) c) (f (p.1 / 4) c)) t) into

/-- Write a field, modulo its width, in every copy that a write reaches. -/
def State.set (s : State) (f : Field) (v : Nat) : State := { s with regs := regsSet s.regs f v (s.copies f.home) }

/-- Write a flag. -/
def State.setB (s : State) (f : Field) (b : Bool) : State := s.set f (bn b)

/-- Advance a counter by 1, modulo its width. -/
def State.bump (s : State) (f : Field) : State := s.set f (s.get f + 1)

/-- The hearth role epoch advances: once on a tick, however many roles change on it (R344). -/
def State.roleBump (s : State) : State :=
  let now := some s.tbase.toNat
  if s.hearths.seqTick = now then s
  else ({ s with hearths := { s.hearths with seqTick := now } } : State).bump F.HTH_SEQ_epoch

/-- Advance a saturating counter by 1. -/
def State.bumpSat (s : State) (f : Field) : State :=
  if s.get f + 1 < 2 ^ f.width then s.set f (s.get f + 1) else s

/-- Bit `i` of a field that holds one bit per port, feed or group. -/
def State.bit (s : State) (f : Field) (i : Nat) : Bool := bitOf (s.get f) i

/-- Write bit `i` of such a field. -/
def State.setBit (s : State) (f : Field) (i : Nat) (b : Bool) : State := s.set { f with lo := f.lo + i, width := 1 } (bn b)

/-- The device is degraded (R343). -/
def State.degraded (s : State) : Bool :=
  match s.hearths.mode with
  | .mirror => [Role.fenced, Role.copying].contains s.hearths.roleA || [Role.fenced, Role.copying].contains s.hearths.roleB ||
      s.hearths.startFence
  | .split => s.hearths.roleA = .fenced || s.hearths.roleB = .fenced || s.hearths.startFence
  | .solo => s.hearths.startFence

/-- The rail code of a hearth (Table 16.8). -/
def State.railCode (s : State) : Hth → Nat
  | .A => s.get F.HTH_RAIL_code_a
  | .B => s.get F.HTH_RAIL_code_b

/-- Set the rail code of a hearth, which its LEN page shows too. -/
def State.setRail (s : State) (h : Hth) (code : Nat) : State :=
  match h with
  | .A => (s.set F.HTH_RAIL_code_a code).set (F.LEN_RAIL_code.inHearth h) code
  | .B => (s.set F.HTH_RAIL_code_b code).set (F.LEN_RAIL_code.inHearth h) code

/-! ### Ticks and timers (R71, R95) -/

/-- The tick rate in use, in kHz (R71). -/
def State.tickKhz (s : State) : Nat := if s.get F.TB_STATUS_ref_src = 2 then 24576 else s.get F.TB_CONFIG_ref_khz

/-- Milliseconds as ticks. -/
def State.ms (s : State) (t : Nat) : Nat := t * s.tickKhz

/-- Microseconds as ticks, rounded up. -/
def State.us (s : State) (t : Nat) : Nat := ceilDiv (t * s.tickKhz) 1000

/-- Nanoseconds as ticks, rounded up. -/
def State.ns (s : State) (t : Nat) : Nat := ceilDiv (t * s.tickKhz) 1000000

/-- Ticks from `a` to the present one, modulo 2^48 (R72). -/
def State.since (s : State) (a : Nat) : Nat := (s.tbase - BitVec.ofNat 48 a).toNat

/-- TBASE value `a` comes before `b`, compared modulo 2^48 (R72). -/
def tickBefore (a b : Nat) : Bool :=
  let d := (b + 2 ^ 48 - a % 2 ^ 48) % 2 ^ 48
  d ≠ 0 && d < 2 ^ 47

/-- Timers other than one. -/
def timersWithout (k : TimerKind) (u : Nat) : List Timer → List Timer
  | [] => []
  | t :: l => if t.kind = k ∧ t.unit = u then timersWithout k u l else t :: timersWithout k u l

/-- The first timer of a kind and unit. -/
def timerFind (k : TimerKind) (u : Nat) : List Timer → Option Timer
  | [] => none
  | t :: l => if t.kind = k ∧ t.unit = u then some t else timerFind k u l

/-- Stop a timer. -/
def State.stop (s : State) (k : TimerKind) (u : Nat) : State := { s with timers := timersWithout k u s.timers }

/-- Start, or restart, a timer. -/
def State.start (s : State) (k : TimerKind) (u ticks : Nat) : State :=
  { s with timers := { kind := k, unit := u, left := ticks } :: timersWithout k u s.timers }

/-- A timer runs. -/
def State.running (s : State) (k : TimerKind) (u : Nat) : Bool := (timerFind k u s.timers).isSome

/-- Ticks left of a timer, 0 when it does not run. -/
def State.left (s : State) (k : TimerKind) (u : Nat) : Nat :=
  match timerFind k u s.timers with
  | some t => t.left
  | none => 0

/-- A timer that counts ticks or epochs and no time: the tick between the two halves of an Rp rise (R89), where the thresholds have moved
already, the epochs of a trial (R355), the coarse ticks of the Smoulder poll. -/
def State.countsTicks (s : State) (t : Timer) : Bool :=
  match t.kind with
  | .trial | .ccPoll => true
  | .rpSecond => let c := s.cc.get (Fin.ofNat 8 t.unit); c.thr = c.goal
  | _ => false

/-- Every running timer's remaining count times new / old, rounded up, so that it ends at the same time (R71); what counts ticks is not
converted (R9). -/
def State.rescale (s : State) (old new : Nat) : State :=
  { s with
    timers := s.timers.map fun t => if s.countsTicks t then t else { t with left := ceilDiv (t.left * new) old }
    ember := { s.ember with coarseAcc := s.ember.coarseAcc * new / old } }

/-! ### Pages that answer (R56-R58, R412) -/

/-- The page answers in the present device state. Before step 6, and in the states in which the target itself is silent, none does. -/
def State.pageAnswers (s : State) (page : Nat) : Bool :=
  match s.ember.dev with
  | .lit | .banked => true
  | .startup => 6 ≤ s.ember.step
  | .fuseHold => page = 0 || page = 5
  | .held => page = 0 || page = 5 || page = 3
  | _ => false

/-- A host access to a page: not acted on where the page does not answer. -/
def State.answered (s : State) (page : Nat) (f : State → State) : State := if s.pageAnswers page then f s else s

/-- The tick is an epoch tick: TBASE[10:0] is 0 (R72). -/
def State.atEpoch (s : State) : Bool := s.tbase.toNat % 2048 = 0

/-! ### Events and reports -/

/-- Who reports: a hearth-held page through the hearth that drives it (2 A, 3 B), the Fender pages as 4, a host access as 1,
otherwise the timed periphery (Table 17.6). -/
def State.master (s : State) (f : Field) (access : Nat) : Nat :=
  if 1 ≤ access ∧ access ≤ 4 then 1
  else
    match f.home with
    | .single => 0
    | .own h => 2 + hthBit h
    | .dev => 2 + hthBit s.devHearth
    | .port n => if f.addr / 256 % 8 = 6 ∨ f.addr / 256 % 8 = 7 then 4 else 2 + hthBit (s.driver n)

/-- The pair of a source and unit reads equal: broken, or held so by FLU.INJECT (R361, R362). -/
def State.pairEqual (s : State) (source unit : Nat) : Bool :=
  s.flue.broken.contains (source, unit) ||
    (match s.flue.testPair with
     | some (p, t) => p = (source, unit) && !tickBefore t s.tbase.toNat
     | none => false)

/-- The tick after this one. -/
def State.nextTick (s : State) : Nat := (s.tbase + 1).toNat

/-- The tick on which an occurrence of this tick is presented: the next one where the pair, asserted on the tick before, idles now (R361). -/
def State.pairDue (s : State) (key : Nat × Nat × Nat) : Nat :=
  match s.flue.asserted.find? fun a => a.1 = key with
  | some (_, t) => if s.since t = 1 ∨ t = s.nextTick then s.nextTick else s.tbase.toNat
  | none => s.tbase.toNat

/-- Assert a source's rail pair (R361). A pair that reads equal gives no report. -/
def State.report (s : State) (source unit detail master access : Nat) (bit : Option Nat := none) : State :=
  if s.pairEqual source unit then s
  else
    let key := (source, unit, if source = 1 then detail else 0)
    let due := s.pairDue key
    { s with flue := { s.flue with
        rails := s.flue.rails ++ [{ tick := s.tbase.toNat, source := source, unit := unit, detail := detail, master := master,
                                    access := access, bit := bit, due := due }]
        asserted := (key, due) :: s.flue.asserted.filter fun a => a.1 ≠ key && (s.since a.2 ≤ 1 || a.2 = s.nextTick) } }

/-- The device has set an EVENT bit on this tick (R410). -/
def State.justSet (s : State) (page bit : Nat) : Bool :=
  s.flue.rails.any fun r => r.tick = s.tbase.toNat && r.bit = some (32 * page + bit)

/-- An event of a page whose unit is not a port (a feed): the EVENT bit is set and the source reports for that unit. -/
def State.eventAs (s : State) (f : Field) (source unit access : Nat) : State :=
  (s.set f 1).report source unit 0 (s.master f access) access (some (32 * pageOf f.addr + f.lo))

/-- The Flue source that an EVENT bit names (Table 17.2 and the EVENT tables of the pages); 1, PAGE_EVENT, where it names none. -/
def eventSource (page bit : Nat) : Nat :=
  if 0x20 ≤ page ∧ page ≤ 0x5F then
    match page % 8, bit with
    | 0, 6 => 0x28 | 0, 7 => 0x29 | 0, 8 => 0x20 | 0, 9 => 0x21
    | 4, 1 => 0x41 | 4, 3 => 0x30 | 4, 4 => 0x30 | 4, 5 => 0x31 | 4, 6 => 0x30
    | 5, 1 => 0x41
    | 6, 3 => 0x38 | 6, 4 => 0x3A | 6, 5 => 0x39 | 6, 6 => 0x3D | 6, 7 => 0x3B | 6, 8 => 0x3C | 6, 9 => 0x3F
    | 7, 0 => 0x3E | 7, 1 => 0x50
    | _, _ => 1
  else
    match page, bit with
    | 0x02, 1 => 0x18
    | 0x0A, 4 => 0x48 | 0x0A, 5 => 0x49 | 0x0A, 6 => 0x4A | 0x0A, 7 => 0x48 | 0x0A, 8 => 0x4B
    | 0x12, b => if b < 16 then 0x42 else 1
    | _, _ => 1

/-- The unit that an EVENT bit reports: the page for PAGE_EVENT, otherwise the port, or the thermistor the port names, or the
device. -/
def State.eventUnit (s : State) (page bit : Nat) : Nat :=
  let n : Port := Fin.ofNat 8 ((page - 0x20) / 8)
  match eventSource page bit with
  | 1 => page
  | 0x50 => s.get (F.THM_CFG_ntc_sel n)
  | 0x42 => bit % 8
  | 0x18 => 0
  | _ => n.val

/-- An event: its EVENT bit is set and its source reports, with the bit as the detail of a PAGE_EVENT (R361, R373). The pages of
Flue and Ash report nothing. -/
def State.eventBy (s : State) (f : Field) (access : Nat) : State :=
  let page := pageOf f.addr
  if page = 3 ∨ page = 4 then s.set f 1
  else
    let c := eventSource page f.lo
    (s.set f 1).report c (s.eventUnit page f.lo) (if c = 1 then f.lo else 0) (s.master f access) access (some (32 * page + f.lo))

/-- An event that the device detects by itself (access 0 of Table 17.6). -/
def State.event (s : State) (f : Field) : State := s.eventBy f 0

/-- An event that a host register write causes (access 1). -/
def State.eventHost (s : State) (f : Field) : State := s.eventBy f 1

/-- An event that an access of a table window causes (access 3). -/
def State.eventWindow (s : State) (f : Field) : State := s.eventBy f 3

/-- An event that a cable message causes (access 5). -/
def State.eventMsg (s : State) (f : Field) : State := s.eventBy f 5

/-- One more count of a Soot category for a port (R380): counts saturate at 0xFFFF, and the first to saturate sets soot_sat. -/
def State.soot (s : State) (c : Nat) (p : Port) : State :=
  let f := if p.val % 2 = 0 then F.ASH_SOOT_even (4 * c + p.val / 2) else F.ASH_SOOT_odd (4 * c + p.val / 2)
  let t := s.bumpSat f
  if s.get f ≠ 0xFFFF ∧ t.get f = 0xFFFF then t.set F.ASH_EVENT_soot_sat 1 else t

end Sys2Proof.Machine
end

