-- ==== Sys2Proof/Machine/LoopMath.lean ====
section
/-! DEFINITION. The Q1.15 arithmetic of the loops (Tables 11.2 and 11.4): conversions, the ratio feed-forward, the ratio bounds, and the
lookup of the Operating-Point Correction Table. -/

namespace Sys2Proof.Machine

/-- Saturation to a signed 16-bit number (R236). -/
def sat16 (x : Int) : Int := clampInt (-32768) 32767 x

/-- The lower 16 bits of a number, as a register shows a Q1.15 value. -/
def q16 (x : Int) : Nat := unsigned 16 x

/-- A voltage in mV as Q1.15 of 61.44 V: round(mV x 8 / 15) (Table 11.2). -/
def qOfMv (mv : Nat) : Int := sat16 ((16 * mv + 15) / 30 : Nat)

/-- v_port of the last sample. -/
def State.vPort (s : State) (n : Port) : Int := 8 * (s.get (F.STG_ADC_LAST_vbus n) : Int)

/-- v_bus of the last sample. -/
def State.vBus (s : State) (n : Port) : Int := 8 * ((s.lp.get n).bus : Int)

/-- The field of ADC.CODEk that holds a channel's last code. -/
def adcField (ch : Nat) : Field := if ch % 2 = 0 then F.ADC_CODE_even (ch / 2) else F.ADC_CODE_odd (ch / 2)

/-- Last code of a housekeeping channel. -/
def State.adc (s : State) (ch : Nat) : Nat := s.get (adcField ch)

/-- Pn_VBUS as last sampled, in mV: a code is 15 mV. -/
def State.vbusMv (s : State) (n : Port) : Nat := 15 * s.get (F.STG_ADC_LAST_vbus n)

/-- The configuration that the registers hold. -/
def State.stageRegs (s : State) (n : Port) : StageCfg :=
  { zero := s.get (F.STG_IMON_CFG_zero n), ifs := s.get (F.STG_IMON_CFG_ifs_100ma n), minPulse := s.get (F.STG_PWM_CFG_min_pulse n),
    slew := s.get (F.STG_SP_CFG_slew n), manual := s.flag (F.STG_SP_CFG_manual n), ffEn := s.flag (F.ILP_CFG_ff_en n),
    regionAuto := s.flag (F.ILP_CFG_region_auto n), bankI := s.get (F.ILP_CFG_bank_sel n), bankV := s.get (F.STG_VLOOP_CFG_bank_sel n),
    dvSplit := s.get (F.STG_VLOOP_CFG_dv_split n), sOff := s.get (F.STG_TIMING_s_off n), iUpd := s.get (F.STG_TIMING_i_upd n),
    vUpd := s.get (F.STG_TIMING_v_upd n), icap := s.get (F.ILP_ILIMITS_icap n), ineg := s.get (F.ILP_ILIMITS_ineg n) }

/-- The configuration that a sample on this tick takes (R245, R253). -/
def State.stageCfg (s : State) (n : Port) : StageCfg := (s.lp.get n).begun.cfg

/-- i_L of an IMON code (Table 11.2). -/
def imonQ (mid code : Nat) : Int := sat16 (((code : Int) - mid) * 16)

/-- i_L of the last sample. -/
def State.iL (s : State) (n : Port) : Int := (s.lp.get n).il

/-- I_fs in 10 mA. -/
def State.ifs (s : State) (n : Port) : Nat := 10 * (s.lp.get n).cfg.ifs

/-- A limit in 10 mA as a current quantity: floor(I x 32,768 / I_fs), saturated (Table 11.2). -/
def StageCfg.qOfLimit (c : StageCfg) (i10 : Nat) : Int := sat16 (i10 * 32768 / max 1 (10 * c.ifs) : Nat)

/-- The lower bound of a voltage loop (R241): in reverse 0, otherwise -I_neg. -/
def StageCfg.voltLo (c : StageCfg) (rev : Bool) : Int := if rev then 0 else -(c.qOfLimit c.ineg)

/-- The ratio term of Table 11.4 as Q1.15: v_port / (8 v_bus) rounded down, 0 while v_bus is below 1.0 V. -/
def State.uRatio (s : State) (n : Port) : Int :=
  let vb := s.vBus n
  if vb * 15 < 8000 then 0 else sat16 (s.vPort n * 4096 / vb)

/-- N in force on port `n` (R78). -/
def State.nInForce (s : State) (n : Port) : Nat := (s.tb.carriers.get n).nEff

/-- The period of port `n` in sub-ticks: 64 N (R232). -/
def State.periodSub (s : State) (n : Port) : Nat := 64 * s.nInForce n

/-- u_min: M_min / 8 with M_min = p / (1 - p), rounded up to the grid (R241). -/
def State.uMin (s : State) (n : Port) : Int :=
  let mp := (s.lp.get n).cfg.minPulse
  (ceilDiv (4096 * mp) (s.periodSub n - mp) : Nat)

/-- u_max: M_max / 8 with M_max = min(8 x 32,767 / 32,768, (1 - p) / p), rounded down (R241). -/
def State.uMax (s : State) (n : Port) : Int :=
  let mp := (s.lp.get n).cfg.minPulse
  min 32767 ((4096 * (s.periodSub n - mp) / max 1 mp : Nat) : Int)

/-- The duty pair of a ratio command u = M / 8 (R243): leg A high and leg B low, in sub-ticks, halves rounded up, for a period of `per`
sub-ticks and the minimum pulse `mp`. -/
def dutyA (per mp : Nat) (u : Int) : Nat := (min ((2 * u * ((per : Int) - mp) + 4096) / 8192) ((per : Int) - mp)).toNat
def dutyB (per mp : Nat) (u : Int) : Nat :=
  (max (mp : Int) ((2 * per * u - 8192 * ((per : Int) - mp) + u) / (2 * u))).toNat

/-! ### The Operating-Point Correction Table (R262-R264) -/

/-- An OPCT entry: Δ and t_add. -/
def opctDelta (e : BitVec 24) : Int := signed 16 (e.toNat / 256)
def opctTadd (e : BitVec 24) : Nat := e.toNat % 256

/-- A hearth's store. -/
def State.hearthOf (s : State) : Hth → Hearth
  | .A => s.hA
  | .B => s.hB

/-- Put a hearth's store. -/
def State.putHearth (s : State) (h : Hth) (x : Hearth) : State :=
  match h with
  | .A => { s with hA := x }
  | .B => { s with hB := x }

/-- The window of a port in the hearth that drives it. -/
def State.windowRegs (s : State) (n : Port) : OpWindow :=
  let own (f : Field) : Nat := s.get (f.inHearth (s.driver n))
  { base := own (F.OPC_WIN_SHAPE_base n.val), nM := own (F.OPC_WIN_SHAPE_n_m n.val), nI := own (F.OPC_WIN_SHAPE_n_i n.val),
    mBase := own (F.OPC_WIN_AXES_m_base n.val), mShift := own (F.OPC_WIN_AXES_m_shift n.val), iBase := own (F.OPC_WIN_AXES_i_base n.val),
    iShift := own (F.OPC_WIN_AXES_i_shift n.val) }

/-- The table may be used, in the hearth that drives the port: valid and not clearing (R264, R265). -/
def State.opctValid (s : State) (n : Port) : Bool :=
  s.get (F.OPC_STATUS_valid.inHearth (s.driver n)) = 1 && s.get (F.OPC_STATUS_clearing.inHearth (s.driver n)) = 0

/-- A window is not empty. -/
def OpWindow.isOpen (w : OpWindow) : Bool := w.nM ≠ 0 && w.nI ≠ 0

/-- Index of a lookup (R263), from the ratio command applied last and i_L. -/
def OpWindow.index (w : OpWindow) (u i : Int) : Nat :=
  let km := clampInt 0 (w.nM - 1) ((u - 16 * w.mBase) / 2 ^ w.mShift)
  let ki := clampInt 0 (w.nI - 1) ((i - 16 * signed 12 w.iBase) / 2 ^ w.iShift)
  w.base + (km * w.nI + ki).toNat

/-- Index of the lookup of a sample of port `n` on this tick. -/
def State.opctIndex (s : State) (n : Port) : Nat := (s.lp.get n).begun.win.index (s.lp.get n).uPrev (s.iL n)

/-- An entry of a hearth's table as it stood when the tick began. -/
def Hearth.opctRead (x : Hearth) (i : Nat) : BitVec 24 :=
  match x.opctWas.find? fun a => a.1 = i with
  | some a => a.2
  | none => sparseRead (fun _ => 0) x.opct i

/-- The entry that the lookup gives, in the hearth that drives the port. -/
def State.opctEntry (s : State) (n : Port) : BitVec 24 := (s.hearthOf (s.driver n)).opctRead (s.opctIndex n)

/-- A sample on this tick uses entries at all: valid, not clearing, window not empty (R264, R265). -/
def State.opctLive (s : State) (n : Port) : Bool := (s.lp.get n).begun.valid && (s.lp.get n).begun.win.isOpen

/-- Δ of an entry, 0 where there is none. -/
def deltaOf : Option (BitVec 24) → Int
  | some e => opctDelta e
  | none => 0

/-- The entry that a lookup on this tick gives, where entries are used. -/
def State.opctNow (s : State) (n : Port) : Option (BitVec 24) := if s.opctLive n then some (s.opctEntry n) else none

/-- The feed-forward of Table 11.4 with an entry (R264). -/
def State.ffWith (s : State) (n : Port) (e : Option (BitVec 24)) : Int :=
  if (s.lp.get n).cfg.ffEn then sat16 (s.uRatio n + deltaOf e) else 0

/-- The current loop's feed-forward as it stands on this tick, which a preset takes off (R247). -/
def State.ffNow (s : State) (n : Port) : Int := s.ffWith n (s.opctNow n)

/-- The current loop's feed-forward of the last sample (Table 11.4, R264). -/
def State.ffI (s : State) (n : Port) : Int := s.ffWith n (s.lp.get n).opEntry

end Sys2Proof.Machine
end

