-- ==== Sys2Proof/Machine/PortOps.lean ====
section
/-! DEFINITION. The operations on a port that several blocks order: presentations and VCONN, role epochs and waiting messages, the
stage, the path and DSCHG, tracking and Thatin, the contract, Hard Reset and Error Recovery. -/

namespace Sys2Proof.Machine

/-! ### Hidden state of a port -/

/-- Element `n` of a per-port vector changed by `f`. -/
def vmod {α : Type} (v : Vector α 8) (n : Port) (f : α → α) : Vector α 8 := v.set n.val (f (v.get n)) n.isLt

def State.modCc (s : State) (n : Port) (f : CcPort → CcPort) : State := { s with cc := vmod s.cc n f }
def State.modMsg (s : State) (n : Port) (f : MsgPort → MsgPort) : State := { s with msg := vmod s.msg n f }
def State.modPol (s : State) (n : Port) (f : PolPort → PolPort) : State := { s with pol := vmod s.pol n f }
def State.modVdm (s : State) (n : Port) (f : VdmPort → VdmPort) : State := { s with vdm := vmod s.vdm n f }
def State.modThn (s : State) (n : Port) (f : ThnPort → ThnPort) : State := { s with thn := vmod s.thn n f }
def State.modLp (s : State) (n : Port) (f : LoopPort → LoopPort) : State := { s with lp := vmod s.lp n f }
def State.modFnd (s : State) (n : Port) (f : FndPort → FndPort) : State := { s with fnd := vmod s.fnd n f }

/-- The sequence under way on a port. -/
def State.seqOf (s : State) (n : Port) : Seqn := (s.pol.get n).seq

/-- Enter a sequence state. -/
def State.setSeq (s : State) (n : Port) (q : Seqn) : State := s.modPol n fun p => { p with seq := q }

/-- A port's capture registers at the hearth boundary changed by `f` (R12). -/
def State.modCap (s : State) (n : Port) (f : CapPort → CapPort) : State :=
  { s with boundary := { s.boundary with ports := vmod s.boundary.ports n f } }

/-- A Level 3 safe state or a port safe outranks a hearth command at the port's CC pins, VCONN switch and DSCHG (R23). -/
def State.higherHeld (s : State) (n : Port) : Bool := s.flag F.FLU_STATUS_l3 || (s.pol.get n).safeHeld

/-- Fold an operation over the eight ports in ascending order. -/
def State.allPorts (s : State) (f : State → Port → State) : State := (List.finRange 8).foldl f s

/-! ### Level codes and attach types (R91, R92) -/

/-- Level code of a pin at `mv` that presents `pres`, with the thresholds of Rp code `thr` (Table 5.2): each window includes its lower
edge. Open, Ra and VCONN are not sensed. -/
def ccCode (pres thr mv : Nat) : Nat :=
  match pres with
  | 1 | 7 => if mv < 200 then 4 else if mv < 660 then 5 else if mv < 1230 then 6 else if mv < 6000 then 7 else 8
  | 3 | 4 | 5 =>
    let ra := match thr with | 3 => 200 | 4 => 400 | _ => 800
    let op := if thr = 5 then 2600 else 1600
    if mv < ra then 1 else if mv < op then 2 else if mv < 6000 then 3 else 8
  | _ => 0

/-- A code that a sourcing partner's Rp gives. -/
def isRp (c : Nat) : Bool := 5 ≤ c && c ≤ 7

/-- Attach type of a pair of codes (Table 5.3), for a port that presents Rp (`rp`) or Rd. -/
def attachType (rp : Bool) (a b : Nat) : Nat :=
  if rp then
    if (a = 2 ∧ b = 3) ∨ (a = 3 ∧ b = 2) then 1
    else if (a = 2 ∧ b = 1) ∨ (a = 1 ∧ b = 2) then 2
    else if (a = 1 ∧ b = 3) ∨ (a = 3 ∧ b = 1) then 3
    else if a = 1 ∧ b = 1 then 4
    else if a = 2 ∧ b = 2 then 5
    else 0
  else if isRp a && isRp b then 7
  else if (isRp a && b = 4) || (isRp b && a = 4) then 6
  else 0

/-- Orientation of an attach type (R92): the pin with Rd or Rp, 0 for accessories and for type 0. -/
def orientOf (type b : Nat) : Nat :=
  match type with
  | 1 | 2 => if b = 2 then 1 else 0
  | 3 => 0
  | 6 => if isRp b then 1 else 0
  | _ => 0

/-- Whether a type's debounce runs (R92, R93): a type that gives an attach event, an accessory whatever its enable, and type 6 only
while VBUS is present. -/
def debounces (type : Nat) (vbus : Bool) : Bool :=
  match type with
  | 1 | 2 | 4 | 5 | 7 => true
  | 6 => vbus
  | _ => false

/-! ### Presentations (R88-R90, R108) -/

/-- What a pin presents; `cc2` names the pin. -/
def State.pinPres (s : State) (n : Port) (cc2 : Bool) : Nat := if cc2 then s.get (F.CC_STATUS_pres2 n) else s.get (F.CC_STATUS_pres1 n)

/-- The level code of a pin. -/
def State.pinLvl (s : State) (n : Port) (cc2 : Bool) : Nat := if cc2 then s.get (F.CC_STATUS_lvl2 n) else s.get (F.CC_STATUS_lvl1 n)

def State.setLvl (s : State) (n : Port) (cc2 : Bool) (v : Nat) : State :=
  if cc2 then s.set (F.CC_STATUS_lvl2 n) v else s.set (F.CC_STATUS_lvl1 n) v

/-- A pin isolated under R108. -/
def State.pinIso (s : State) (n : Port) (cc2 : Bool) : Bool := if cc2 then (s.cc.get n).iso2 else (s.cc.get n).iso1

/-- The pin that carries VCONN. -/
def State.isVconnPin (s : State) (n : Port) (cc2 : Bool) : Bool :=
  s.flag (F.CC_STATUS_vconn_on n) && s.flag (F.CC_VCONN_STATUS_pin n) = cc2

/-- A pin takes a presentation. A pin that presents Open, Ra or VCONN reads level code 0 (R91). -/
def State.setPin (s : State) (n : Port) (cc2 : Bool) (code : Nat) : State :=
  let t := if cc2 then s.set (F.CC_STATUS_pres2 n) code else s.set (F.CC_STATUS_pres1 n) code
  if code = 0 ∨ code = 2 ∨ code = 6 then t.setLvl n cc2 0 else t

/-- The code that the commanded presentation puts on a pin now. -/
def State.cmdCode (s : State) (n : Port) (cc2 : Bool) : Nat :=
  match (s.cc.get n).cmd with
  | .opened => 0
  | .rd => 1
  | .rp l => 3 + l.val
  | .toggle l => if s.pinPres n (!cc2) = 1 then 1 else 3 + l.val
  | .ra p => if p = cc2 then 2 else 0

/-- A pin that neither carries VCONN nor is isolated takes a presentation. -/
def State.drivePin (s : State) (n : Port) (cc2 : Bool) (code : Nat) : State :=
  if s.isVconnPin n cc2 || s.pinIso n cc2 then s else s.setPin n cc2 code

/-- Both pins take a presentation. -/
def State.drivePins (s : State) (n : Port) (code : Nat) : State := (s.drivePin n false code).drivePin n true code

/-- A change of Rp level (R89): on a rise the thresholds move at once and the current 1 tick later, on a fall the current at once and
the thresholds after 2 µs. A fall that is taken back before its 2 µs are over still has its thresholds. -/
def State.rpChange (s : State) (n : Port) (code : Nat) : State :=
  let c := s.cc.get n
  if c.thr = code ∧ c.goal = code then s
  else if c.thr ≤ code then (s.modCc n fun c => { c with thr := code, goal := code }).start .rpSecond n.val 1
  else ((s.drivePins n code).modCc n fun c => { c with goal := code }).start .rpSecond n.val (s.us 2)

/-- The second half of a change of Rp level. -/
def State.rpSecond (s : State) (n : Port) : State :=
  let g := (s.cc.get n).goal
  ((s.drivePins n g).modCc n fun c => { c with thr := g }).stop .rpSecond n.val

/-- A port presents Rp on a pin that is not isolated. -/
def State.presentsRp (s : State) (n : Port) : Bool :=
  (3 ≤ s.pinPres n false && s.pinPres n false ≤ 5) || (3 ≤ s.pinPres n true && s.pinPres n true ≤ 5)

/-- Present Rp: from another Rp level in the order of R89, otherwise at once. -/
def State.rpTo (s : State) (n : Port) (code : Nat) : State :=
  if s.presentsRp n then s.rpChange n code
  else ((s.drivePins n code).modCc n fun c => { c with thr := code, goal := code }).stop .rpSecond n.val

/-- Start a toggle cycle with its Rp phase (R90). -/
def State.toggleStart (s : State) (n : Port) (l : Fin 3) : State :=
  let t := s.rpTo n (3 + l.val)
  (t.set (F.CC_STATUS_toggling n) 1).start .drp n.val
    (s.ms (s.get (F.CC_CONFIG_drp_period_ms n)) * s.get (F.CC_CONFIG_drp_src_pct n) / 100)

/-- Stop toggling, holding the phase in force (R90). -/
def State.toggleStop (s : State) (n : Port) : State := (s.set (F.CC_STATUS_toggling n) 0).stop .drp n.val

/-- The BMC pin: the orientation pin of an attached port. -/
def State.bmcPin (s : State) (n : Port) : Bool := s.flag (F.CC_STATUS_orient n)

/-- The code that a pin reads at its voltage (R91, R108): 8 while isolated, 0 on the BMC pin while the transmitter is active. -/
def State.sensed (s : State) (n : Port) (cc2 : Bool) : Nat :=
  let c := s.cc.get n
  if s.pinIso n cc2 then 8
  else if c.busy && s.bmcPin n = cc2 then 0
  else ccCode (s.pinPres n cc2) c.thr (if cc2 then c.mv2 else c.mv1)

/-- The candidate type of an unattached port from its codes. -/
def State.candidate (s : State) (n : Port) : Nat := attachType (s.presentsRp n) (s.pinLvl n false) (s.pinLvl n true)

/-- The time for which an attach pattern is debounced: tTryCCDebounce in Try.SRC, Try.SNK and TryWait.SRC (Table 7.2). -/
def State.attachMs (s : State) (n : Port) : Nat :=
  if [1, 3, 4].contains (s.pol.get n).trying then 15 else s.get (F.CC_DEBOUNCE_attach_ms n)

/-- A pattern that an attach debounce takes stands: the debounce starts, or is held at its start, and toggling stops (R90, R92). Try.SNK
monitors its pins only after tDRPTry (R137). -/
def State.debounceFrom (s : State) (n : Port) : State :=
  let t := s.toggleStop n
  let early : Bool := (s.pol.get n).trying = 3 && s.running .tryTimer n.val
  if !early && debounces (s.candidate n) (s.flag (F.CC_STATUS_vbus_present n)) then t.start .attach n.val (s.ms (s.attachMs n)) else t.stop .attach n.val

/-- What a Try state times by the level codes (R137, Type-C 2.3): both pins open for tPDDebounce in TryWait.SNK, no Rp for tTryCCDebounce in
Try.SNK once it monitors. -/
def State.tryFollow (s : State) (n : Port) : State :=
  let time (k : TimerKind) (on : Bool) (ms : Nat) : State :=
    if !on then s.stop k n.val else if s.running k n.val then s else s.start k n.val (s.ms ms)
  match (s.pol.get n).trying with
  | 2 => time .tryTimer (s.pinLvl n false = 4 && s.pinLvl n true = 4) (s.get (F.CC_DEBOUNCE_detach_ms n))
  | 3 => if s.running .tryTimer n.val then s else time .tryTimeout (s.candidate n ≠ 6) 15
  | _ => s

/-- The attach debounce (re)starts, is held at its start or stops, and toggling stops or resumes (R90, R92, R93). -/
def State.ccDebounce (s : State) (n : Port) : State :=
  let c := s.candidate n
  let t := (s.tryFollow n).set (F.CC_STATUS_attach n) c
  if debounces c true then t.debounceFrom n
  else
    let t := t.stop .attach n.val
    match (s.cc.get n).cmd with
    | .toggle l => if s.flag (F.CC_STATUS_toggling n) then t else t.toggleStart n l
    | _ => t

/-- A port that presents anew, or is no longer attached, finds an attach pattern standing: its debounce runs though no code has changed (R90,
R93). One that runs already goes on. -/
def State.standingFollow (s : State) (n : Port) : State :=
  if (s.cc.get n).attached || !debounces (s.candidate n) true then s
  else if s.running .attach n.val then s.toggleStop n
  else s.debounceFrom n

/-- The condition of R94 that the level codes show, for the attach type latched. -/
def State.detachLevels (s : State) (n : Port) : Bool :=
  let o : Bool := s.flag (F.CC_STATUS_orient n)
  match s.get (F.CC_STATUS_attach n) with
  | 1 | 2 => s.pinLvl n o = 3
  | 5 => s.pinLvl n false = 3 || s.pinLvl n true = 3
  | 4 => s.pinLvl n false = 3 && s.pinLvl n true = 3
  | _ => false

/-- The detach timer follows the level codes (R94). -/
def State.ccDetachTimer (s : State) (n : Port) : State :=
  if s.detachLevels n then
    if s.running .detach n.val then s else s.start .detach n.val (s.ms (s.get (F.CC_DEBOUNCE_detach_ms n)))
  else s.stop .detach n.val

/-- CC.SNK_DISC.vth_eff (R162, R211), 100 mV: three quarters of a tracking contract's vlo or of a contract above 5 V at a sink whose
source makes no transition, a collapsed contract's for 50 ms, otherwise SNK_DISC.vth. -/
def State.vthEff (s : State) (n : Port) : Nat :=
  let vth := s.get (F.CC_SNK_DISC_vth n)
  if s.running .vthRestore n.val then (s.thn.get n).vthHeld
  else if s.flag (F.POL_STATUS_power_role n) then vth
  else
    match (s.thn.get n).terms, (s.pol.get n).cur with
    | some t, _ => 75 * t.vlo / 100
    | none, some c => if 5000 < c.mv ∧ s.seqOf n ≠ .snkTransition then 75 * c.mv / 10000 else vth
    | none, none => vth

/-- VBUS of a sink port or of a debug accessory seen as sink, in mV: the detach timer follows it against vth_eff, while the policy does not
suspend the test (R94). -/
def State.sinkDetachTimer (s : State) (n : Port) (mv : Nat) : State :=
  let a := s.get (F.CC_STATUS_attach n)
  if (s.cc.get n).attached ∧ (a = 6 ∨ a = 7) then
    if mv < 100 * s.vthEff n ∧ ¬ s.flag (F.CC_STATUS_vbus_mask n) then
      if s.running .detach n.val then s else s.start .detach n.val (s.ms (s.get (F.CC_DEBOUNCE_detach_ms n)))
    else s.stop .detach n.val
  else s

/-- What follows a change of a port's level codes or of what it presents from `was` to `s` (R92-R94, R107): the detach timer and a sink's
Rp timer of an attached port, the candidate and its debounce of any other. -/
def State.codesFollow (s was : State) (n : Port) : State :=
  let moved (p : Bool) : Bool := s.pinLvl n p ≠ was.pinLvl n p
  if (s.cc.get n).attached then
    let t := if (moved false || moved true) && !(s.get (F.CC_STATUS_attach n) = 6 || s.get (F.CC_STATUS_attach n) = 7) then s.ccDetachTimer n else s
    if moved (s.bmcPin n) && s.get (F.CC_STATUS_attach n) = 6 then t.start .rpLevel n.val (s.ms (s.get (F.CC_DEBOUNCE_detach_ms n))) else t
  else if moved false || moved true || s.presentsRp n ≠ was.presentsRp n then s.ccDebounce n
  else s

/-- The BMC transmitter drives its pin, which reads code 0 (R91). It does not reach a pin that is isolated (R108), nor one that a higher command
holds (R23). -/
def State.busyApply (s : State) (n : Port) : State :=
  if s.pinIso n (s.bmcPin n) || s.higherHeld n then s
  else ((s.modCc n fun c => { c with busy := true }).setLvl n (s.bmcPin n) 0).codesFollow s n

/-- Transmit data of the hearth is captured at the boundary (R12), and reaches the pin where nothing keeps it. -/
def State.busyOn (s : State) (n : Port) : State := (s.modCap n fun c => { c with bmc := true }).busyApply n

/-- The transmit data ends: the pin that the transmitter drove is sensed again. -/
def State.busyOff (s : State) (n : Port) : State :=
  let s := s.modCap n fun c => { c with bmc := false }
  if (s.cc.get n).busy then
    let t := s.modCc n fun c => { c with busy := false }
    (t.setLvl n (t.bmcPin n) (t.sensed n (t.bmcPin n))).codesFollow s n
  else s

/-- A presentation is applied (R89, R90); the dead-battery clamp is replaced (R101). -/
def State.presentNow (s : State) (n : Port) (p : Pres) : State :=
  let t := ((s.modCc n fun c => { c with cmd := p }).set (F.CC_STATUS_db_clamp n) 0).toggleStop n
  let t := match p with
    | .opened => (t.drivePins n 0).stop .rpSecond n.val
    | .rd => (t.drivePins n 1).stop .rpSecond n.val
    | .ra cc2 => ((t.drivePin n cc2 2).drivePin n (!cc2) 0).stop .rpSecond n.val
    | .toggle l => t.toggleStart n l
    | .rp l => t.rpTo n (3 + l.val)
  (t.codesFollow s n).standingFollow n

/-- A presentation command of a hearth is captured, and applied unless a higher command holds the pins (R12, R23). -/
def State.present (s : State) (n : Port) (p : Pres) : State :=
  let t := s.modCap n fun c => { c with pres := p, presDue := s.higherHeld n }
  if s.higherHeld n then t else t.presentNow n p

/-! ### VCONN (R102, R103) -/

/-- The sum of R102 over the ports with VCONN switched on and port `n`, with `ilim` for port `n`, in 25 mA. -/
def State.vconnSum (s : State) (n : Port) (ilim : Nat) : Nat :=
  (List.finRange 8).foldl (fun a p =>
    if p = n then a + ilim else if s.flag (F.CC_STATUS_vconn_on p) then a + s.get (F.CC_VCONN_CFG_ilim p) else a) 0

/-- A port fence holds the port disabled (Table 17.4). -/
def State.portFenced (s : State) (n : Port) : Bool :=
  s.flue.records.any fun r => r.level = 4 && r.unit = n.val && 3 ≤ r.group && r.group ≤ 7

/-- A VCONN enable passes R102. -/
def State.vconnAllowed (s : State) (n : Port) : Bool :=
  let a := s.get (F.CC_STATUS_attach n)
  (s.cc.get n).attached && (a = 1 || a = 2) && s.flag F.EMB_STATUS_vconn_in_ok &&
    25 * s.vconnSum n (s.get (F.CC_VCONN_CFG_ilim n)) ≤ 1200

/-- STATUS.vconn_rev (R103): the switch blocks while it is closed and the pin stands above VCONN_IN, channel 43 in 1.5 mV. -/
def State.vconnRevShow (s : State) (n : Port) : State :=
  let c := s.cc.get n
  let mv := if s.flag (F.CC_VCONN_STATUS_pin n) then c.mv2 else c.mv1
  s.setB (F.CC_STATUS_vconn_rev n) (s.flag (F.CC_STATUS_vconn_on n) && 3 * s.adc 43 < 2 * mv)

/-- The VCONN switch opens; the pin returns to the commanded presentation. -/
def State.vconnOpen (s : State) (n : Port) : State :=
  if s.flag (F.CC_STATUS_vconn_on n) then
    let pin := s.flag (F.CC_VCONN_STATUS_pin n)
    let t := ((s.set (F.CC_STATUS_vconn_on n) 0).set (F.CC_VCONN_STATUS_on n) 0).set (F.POL_STATUS_vconn_src n) 0
    (t.drivePin n pin (t.cmdCode n pin)).vconnRevShow n
  else s

/-- VCONN off, by a command or by the front end: the switch opens, and an enable that stands or is stored ends (R94, R98, R103). -/
def State.vconnOff (s : State) (n : Port) : State :=
  (s.modCap n fun c => { c with vconn := false, vconnDue := false }).vconnOpen n

/-- A refused enable: EVENT.vconn_refused and its report (R102). -/
def State.vconnRefuse (s : State) (n : Port) : State :=
  (s.modCap n fun c => { c with vconn := false, vconnDue := false }).event (F.CC_EVENT_vconn_refused n)

/-- An enable is tested: the switch closes onto the pin that is not the orientation pin, or the enable is refused (R102). While that pin is
isolated the switch stays open until the reconnection (R108, R109). -/
def State.vconnTest (s : State) (n : Port) : State :=
  if s.flag (F.CC_STATUS_vconn_on n) then s
  else if s.vconnAllowed n then
    let pin : Bool := !s.flag (F.CC_STATUS_orient n)
    let t := s.modCap n fun c => { c with vconn := true, vconnDue := false }
    if s.pinIso n pin then t
    else
      ((((t.setPin n pin 6).set (F.CC_STATUS_vconn_on n) 1).set (F.CC_VCONN_STATUS_on n) 1).setB (F.CC_VCONN_STATUS_pin n) pin).set
        (F.POL_STATUS_vconn_src n) 1 |>.vconnRevShow n
  else s.vconnRefuse n

/-- A VCONN enable command. It is stored while a higher command holds the port (R23), and discarded on the tick of a detach (R98). The enables
captured on one tick are tested in ascending port order (R102): those of higher ports on this tick are tested again behind this one. -/
def State.vconnOn (s : State) (n : Port) : State :=
  let now := s.tbase.toNat
  if s.flag (F.CC_STATUS_vconn_on n) ∨ (s.cc.get n).detachTick = some now then s
  else if s.higherHeld n then s.modCap n fun c => { c with vconn := true, vconnDue := true }
  else
    let later := (List.finRange 8).filter fun p => n < p && (s.cc.get p).enTick = some now && s.flag (F.CC_STATUS_vconn_on p)
    let t := s.modCc n fun c =>
      { c with enTick := some now, refusedWas := if c.enTick = some now then c.refusedWas else s.flag (F.CC_EVENT_vconn_refused n) }
    later.foldl State.vconnTest ((later.foldl State.vconnOpen t).vconnTest n)

/-- What the enable of this tick has done to a port's EVENT.vconn_refused is taken back (R98). -/
def State.vconnUnrefuse (s : State) (n : Port) : State :=
  let f := F.CC_EVENT_vconn_refused n
  let own (r : Report) : Bool := r.tick = s.tbase.toNat && r.bit = some (32 * pageOf f.addr + f.lo)
  ({ s with flue := { s.flue with rails := s.flue.rails.filter fun r => !own r } } : State).setB f (s.cc.get n).refusedWas

/-- A VCONN enable captured on the tick of the port's detach is discarded, though it came first (R98): its refusal is taken back, and the
enables that other ports have commanded on this tick are tested again without it. -/
def State.vconnDiscard (s : State) (n : Port) : State :=
  let now := some s.tbase.toNat
  if (s.cc.get n).enTick = now then
    let t := ((s.vconnOff n).vconnUnrefuse n).modCc n fun c => { c with enTick := none }
    let others := (List.finRange 8).filter fun p => (t.cc.get p).enTick = now && !t.higherHeld p && (t.cc.get p).detachTick ≠ now
    others.foldl State.vconnTest (others.foldl (fun u p => (u.vconnOpen p).vconnUnrefuse p) t)
  else s.vconnOff n

/-! ### Role epochs and waiting messages (R117, R120, R163) -/

/-- A device-wide bit that a port owns. -/
def State.dropAdmission (s : State) (n : Port) : State :=
  { s with draught := { s.draught with queue := s.draught.queue.filter fun a => a.port ≠ n } }

/-- DRT.STATUS.queue and DRT.ADMIT show the admission queue. -/
def State.showQueue (s : State) : State :=
  let q := s.draught.queue
  (s.set F.DRT_STATUS_queue q.length).set F.DRT_ADMIT_order
    ((q.foldr (fun a acc => acc * 8 + a.port.val) 0) % 2 ^ 24)

/-- A port loses its admission (R287). -/
def State.loseAdmission (s : State) (n : Port) : State := (s.dropAdmission n).showQueue.setBit F.DRT_STATUS_admitted n.val false

/-- The role epoch advances (R163); a waiting admission request of the port leaves the queue (R287). -/
def State.advanceEpoch (s : State) (n : Port) : State := (s.bump (F.POL_SEQ_epoch n)).dropAdmission n |>.showQueue

/-- MessageID counters reset for the SOP types listed, and MSG.SEQ advanced (R117). -/
def State.idReset (s : State) (n : Port) (sops : List Nat) : State :=
  let clear (d : Nat) (v : Vector Nat 3) : Vector Nat 3 := Vector.ofFn fun i => if sops.contains i.val then d else v.get i
  (s.modMsg n fun m => { m with rxId := clear 8 m.rxId, txId := clear 0 m.txId }).bump (F.MSG_SEQ_id_resets n)

/-- One drop counted under R120. -/
def State.countStale (s : State) (n : Port) : State := (s.event (F.MSG_EVENT_stale_tx n)).soot 0 n

/-- A host VDM that is lost sets VDM.EVENT.tx_failed (R202). -/
def State.hostLost (s : State) (n : Port) (lost : Bool) : State := if lost then s.event (F.VDM_EVENT_tx_failed n) else s

/-- Drop the waiting messages that satisfy `p`, each counted under R120 (R125). -/
def State.dropQueue (s : State) (n : Port) (p : Msg → Bool) : State :=
  let gone := (s.msg.get n).queue.filter p
  let t := s.modMsg n fun m => { m with queue := m.queue.filter fun x => !p x }
  (gone.foldl (fun t _ => t.countStale n) t).hostLost n (gone.any fun m => m.purpose = .hostTx)

/-- Drop the message under way that satisfies `p` and is not on the line: it waits for a GoodCRC, a Chunk Request or a retry (R125). -/
def State.dropUnder (s : State) (n : Port) (p : Msg → Bool) : State :=
  let x := s.msg.get n
  let gone := (if x.phase = .frame then none else x.current.filter p).toList ++ (x.aside.filter p).toList
  let t := if x.phase ≠ .frame ∧ x.current.any p then
      ((((s.modMsg n fun y => { y with current := none, phase := .idle }).set (F.MSG_STATUS_awaiting_goodcrc n) 0).stop .tReceive n.val).stop
        .chunkSend n.val)
    else s
  let t := if x.aside.any p then (t.modMsg n fun y => { y with aside := none }).stop .chunkSend n.val else t
  (gone.foldl (fun t _ => t.countStale n) t).hostLost n (gone.any fun m => m.purpose = .hostTx)

/-- A frame in progress is aborted (R124); a message that waits for GoodCRC, a Chunk Request or a retry waits on. -/
def State.frameAbort (s : State) (n : Port) : State :=
  let t := s.modMsg n fun m => { m with
    current := if m.phase = .frame then none else m.current, phase := if m.phase = .frame then .idle else m.phase, sigOn := false }
  (t.set (F.MSG_STATUS_tx_active n) 0).busyOff n

/-- A frame in progress is aborted, and the waits for GoodCRC, a Chunk Request and tSinkTx end, since nothing but the signal follows. -/
def State.txAbort (s : State) (n : Port) : State :=
  let t := ((s.frameAbort n).modMsg n fun m => { m with phase := .idle }).set (F.MSG_STATUS_awaiting_goodcrc n) 0
  ((t.stop .tReceive n.val).stop .chunkSend n.val).stop .sinkTx n.val

/-- The transmitter stops with a change of role epoch: a frame in progress is aborted (R124), any other message under way is abandoned and
counted (R123). -/
def State.txStop (s : State) (n : Port) : State :=
  let t := s.txAbort n
  let x := t.msg.get n
  (x.current.toList ++ x.aside.toList).foldl (fun t _ => t.countStale n) (t.modMsg n fun m => { m with current := none, aside := none })

/-- The transmitter stops and sends nothing further: a waiting or pending signal is not sent either (R124). -/
def State.txSilence (s : State) (n : Port) : State := ((s.txStop n).modMsg n fun m => { m with signal := .empty }).stop .signal n.val

/-- The assembly of a chunked message ends (R129). -/
def State.assemblyEnd (s : State) (n : Port) : State :=
  ((s.modMsg n fun m => { m with assembly := none, chunkDue := false }).set (F.MSG_STATUS_rx_active n) 0).stop .chunkRecv n.val

/-- A chunked message being assembled is abandoned, with its Chunk Request where that still waits, or waits to be sent again (R129). -/
def State.rxStop (s : State) (n : Port) : State :=
  (s.assemblyEnd n).modMsg n fun m => { m with
    queue := m.queue.filter fun x => x.purpose ≠ .chunkRequest
    current := if m.phase = .idle then m.current.filter fun x => x.purpose ≠ .chunkRequest else m.current }

/-- The queue without the offer handed over last. -/
def offerTaken (q : List Msg) : List Msg := (q.reverse.eraseP fun m => m.purpose = .caps).reverse

/-- Withdraw the port's draft that waits, or was handed over and has not begun (R121, R159). -/
def State.withdrawDraft (s : State) (n : Port) : State :=
  match (s.pol.get n).draft with
  | none => s
  | some d =>
    let queued := (s.msg.get n).queue.any fun m => m.purpose = .caps
    let t := s.modPol n fun p => { p with draft := none }
    if d.handed then
      if queued then (t.modMsg n fun m => { m with queue := offerTaken m.queue }).event (F.POL_EVENT_draft_withdrawn n)
      else t
    else t.event (F.POL_EVENT_draft_withdrawn n)

/-! ### Handing messages to the Message Layer (R119) -/

/-- Specification Revision bits in force on a SOP type: the fixed revision, else rev_max (R115). -/
def State.revOf (s : State) (n : Port) (sop : Nat) : Nat :=
  let f := match sop with | 0 => s.get (F.MSG_STATUS_rev_sop n) | 1 => s.get (F.MSG_STATUS_rev_sop1 n) | _ => s.get (F.MSG_STATUS_rev_sop2 n)
  if f = 0 then s.get (F.MSG_CONFIG_rev_max n) else f

/-- PD 2.0 is in force on SOP. -/
def State.pd2 (s : State) (n : Port) : Bool := s.revOf n 0 = 1

/-- Message types of USB Power Delivery (PRESUMED, R137): control messages plain, data messages + 32, extended messages + 64. -/
def pdAccept : Nat := 3
def pdReject : Nat := 4
def pdPsRdy : Nat := 6
def pdGetSourceCap : Nat := 7
def pdGetSinkCap : Nat := 8
def pdDrSwap : Nat := 9
def pdPrSwap : Nat := 10
def pdVconnSwap : Nat := 11
def pdWait : Nat := 12
def pdSoftReset : Nat := 13
def pdNotSupported : Nat := 16
def pdFrSwap : Nat := 19
def pdSourceCaps : Nat := 33
def pdRequest : Nat := 34
def pdSinkCaps : Nat := 36
def pdEprRequest : Nat := 41
def pdEprMode : Nat := 42
def pdVdm : Nat := 47
def pdSecurityRequest : Nat := 72
def pdSecurityResponse : Nat := 73
def pdExtControl : Nat := 80
def pdEprSourceCaps : Nat := 81
def pdEprSinkCaps : Nat := 82

/-- Type of a message header (PRESUMED layout): [4:0] type, [14:12] objects, [15] extended. -/
def typeOf (h : Nat) : Nat := (if bitOf h 15 then 64 else if h / 4096 % 8 ≠ 0 then 32 else 0) + h % 32

/-- The protocol-critical messages of R119. -/
def isCritical (ty : Nat) : Bool := [pdAccept, pdReject, pdWait, pdPsRdy, pdNotSupported, pdSoftReset].contains ty

/-- Bytes of words, least significant first (R8). -/
def wordBytes (w : Word) : List Byte := (List.range 4).map fun i => BitVec.ofNat 8 (w.toNat / 2 ^ (8 * i))
def wordsBytes (l : List Word) : List Byte := l.flatMap wordBytes

/-- Words of bytes, least significant first. -/
def bytesWords : List Byte → List Word
  | a :: b :: c :: d :: t => BitVec.ofNat 32 (a.toNat + 256 * b.toNat + 65536 * c.toNat + 16777216 * d.toNat) :: bytesWords t
  | _ => []

/-- A message handed over for transmission (R119): its class follows its type, its tag is the role epoch at which it was built; a Chunk
Request is critical. The MessageID, the roles and the revision are put into the header when its frame is built. -/
def State.handoverAt (s : State) (n : Port) (sop ty : Nat) (data : List Byte) (why : Purpose) (epoch : Nat) : State :=
  let nobj := if 32 ≤ ty ∧ ty < 64 then data.length / 4 else 0
  let m : Msg :=
    { port := n, sop := sop, critical := isCritical ty || why = .chunkRequest, epoch := epoch, retries := 0,
      tbase := s.tbase.toNat % 2 ^ 32, header := ty % 32 + 4096 * nobj + (if 64 ≤ ty then 32768 else 0), data := data, chunk := 0,
      purpose := why, slot := .waiting, waited := false, granted := 0, rev := s.revOf n sop, heldNg := false,
      unacked := false }
  s.modMsg n fun x => { x with queue := x.queue ++ [m] }

/-- A message built now and handed over. -/
def State.handover (s : State) (n : Port) (sop ty : Nat) (data : List Byte) (why : Purpose) : State :=
  s.handoverAt n sop ty data why (s.get (F.POL_SEQ_epoch n))

/-- A control message on SOP. -/
def State.sendCtl (s : State) (n : Port) (ty : Nat) (why : Purpose) : State := s.handover n 0 ty [] why

/-! ### The stage (R233, R247, R248, R312) -/

/-- Fallback coefficients of the OTP boot configuration exist for a loop (R248): `volt` names the voltage loop. -/
def State.fallbackWords (s : State) (volt : Bool) : List Word := if volt then s.fallbackV else s.fallbackI

/-- The words of a bank: the voltage loop's or the current loop's bank `b`. -/
def State.bankWords (s : State) (n : Port) (volt : Bool) (b : Nat) : List Word :=
  (List.range 4).map fun k => BitVec.ofNat 32 (s.get (match volt, b with
    | true, 0 => F.STG_VBANK0_half_words n k
    | true, _ => F.STG_VBANK1_half_words n k
    | false, 0 => F.ILP_IBANK0_half_words n k
    | false, _ => F.ILP_IBANK1_half_words n k))

/-- Dv in force: 16 on the Kindling port (R60). -/
def State.dvOf (s : State) (n : Port) : Nat :=
  if s.ember.kindling = some n then 16 else max 1 (s.get (F.STG_STATUS_dv_eff n))

/-- A bank whose eight half-words are all 0. -/
def bankEmpty (l : List Word) : Bool := l.all fun w => w = 0

/-- Preset of both loops to a ratio, given as a Q1.15 command M/8 (R247): the captured voltage-loop output is 0, and its clamp bits say whether
that sits on a bound. A result of an earlier sample is still captured at its update instant (DEDUCED, log 118). -/
def State.preset (s : State) (n : Port) (u : Int) : State :=
  let v := sat16 (u - s.ffNow n)
  let c := (s.lp.get n).cfg
  let t := s.modLp n fun l => { l with
    iRef := 0, hi := { Hist.zero with u1 := v, u2 := v, u3 := v }, hv := Hist.zero, uPrev := u, sinceV := 0, sinceI := 0, runV := 0, runI := 0,
    capV := none, capI := none, capAtV := none, capAtI := none }
  ((t.set (F.STG_VLOOP_STATUS_y n) 0).setB (F.STG_STATUS_vclamp_lo n) (0 ≤ c.voltLo (s.flag (F.STG_STATUS_dir n)))).setB
    (F.STG_STATUS_vclamp_hi n) (c.qOfLimit (s.get (F.ILP_LIMIT_STATUS_ilim n)) ≤ 0)

/-- Preset to zero duty: M0 = M_min (R247). -/
def State.presetZero (s : State) (n : Port) : State := s.preset n (s.uMin n)

/-- An evaluation whose update instant has come is late from now on. -/
def Evaluation.pass (n : Port) (volt : Bool) (e : Evaluation) : Evaluation := if e.port = n ∧ e.volt = volt then { e with late := true } else e

/-- The update instant of a loop passes: what waits or is in a lane for it is late. -/
def State.lanesPass (s : State) (n : Port) (volt : Bool) : State :=
  { s with lanes := { waiting := s.lanes.waiting.map (Evaluation.pass n volt), busy := s.lanes.busy.map (Evaluation.pass n volt) } }

/-- The stage of a port stops: what its loops hold for an update instant, or have in a lane, is discarded (R234). -/
def State.loopsDrop (s : State) (n : Port) : State :=
  ((s.lanesPass n false).lanesPass n true).modLp n fun l => { l with switching := false, resV := none, resI := none, dueV := none, dueI := none }

/-- A stop command (R233): both legs at mid-level at once, Pn_SEN low at the next period start; a stored run command is discarded
(R312). A stage in Fault stays in Fault. -/
def State.stageOff (s : State) (n : Port) : State :=
  let st := s.get (F.STG_STATUS_state n)
  let t := ((s.modCap n fun c => { c with run := none }).loopsDrop n).modLp n fun l => { l with runStored := false, jump := false, held := false }
  if st = 1 ∨ st = 2 then
    ((t.set (F.STG_STATUS_state n) 0).modLp n fun l => { l with senLow := true }).stop .senTimeout n.val
  else t

/-- Level 3, a fast trip and a port safe outrank a hearth command at the port's stage (R23). -/
def State.outputHeld (s : State) (n : Port) : Bool := s.higherHeld n || (s.lp.get n).tripHold

/-- A run command takes effect (R233, R248). -/
def State.stageStart (s : State) (n : Port) : State :=
  let st := s.get (F.STG_STATUS_state n)
  let t := s.modLp n fun l => { l with runStored := false }
  if st = 0 ∨ (st = 3 ∧ ¬ s.flag (F.STG_EVENT_stage_fault n) ∧ ¬ s.flag (F.STG_EVENT_sen_timeout n)) then
    let needV := bankEmpty (s.bankWords n true (s.get (F.STG_STATUS_vbank n))) || s.ember.kindling = some n
    let needI := bankEmpty (s.bankWords n false (s.get (F.ILP_STATUS_bank n))) || s.ember.kindling = some n
    if (needV && bankEmpty (s.fallbackWords true)) || (needI && bankEmpty (s.fallbackWords false)) then
      (t.set (F.STG_STATUS_state n) 0).event (F.STG_EVENT_no_coeffs n)
    else
      ((t.set (F.STG_STATUS_state n) 1).modLp n fun l => { l with senLow := false }).start .senTimeout n.val (s.us 100)
  else t

/-- The path lets the stage start: no close command stands, or the path is Closed or Limiting (R312). -/
def State.pathReady (s : State) (n : Port) : Bool :=
  !s.flag (F.FND_STATUS_close_cmd n) || s.get (F.FND_STATUS_state n) = 3 || s.get (F.FND_STATUS_state n) = 4

/-- A run command (R233, R312): applied, or stored while the path is not ready or a higher command holds the output (R23). -/
def State.stageRun (s : State) (n : Port) (reverse : Bool) : State :=
  let t := (s.setB (F.STG_STATUS_dir n) reverse).modCap n fun c => { c with run := some reverse }
  if s.pathReady n && !s.outputHeld n then t.stageStart n else t.modLp n fun l => { l with runStored := true }

/-- A stored run command applies once nothing holds it (R23, R312). -/
def State.stageStored (s : State) (n : Port) : State :=
  if (s.lp.get n).runStored ∧ s.pathReady n ∧ ¬ s.outputHeld n then s.stageStart n else s

/-! ### DSCHG (R323) -/

/-- A gate of the port is on. -/
def State.gateOn (s : State) (n : Port) : Bool := s.flag (F.FND_STATUS_gate_s n) || s.flag (F.FND_STATUS_gate_b n)

/-- DSCHG switches on. -/
def State.dschgStart (s : State) (n : Port) : State :=
  ((s.set (F.FND_STATUS_dschg n) 1).modFnd n fun f => { f with dschgWait := false, dschgSlow := false }).start .dschg n.val (s.ms 650)

/-- DSCHG is requested: at once when both gates are off, otherwise at the first capture at which they are. -/
def State.dschgApply (s : State) (n : Port) : State :=
  if s.flag (F.FND_STATUS_dschg n) then s
  else if s.gateOn n then s.modFnd n fun f => { f with dschgWait := true }
  else s.dschgStart n

/-- A DSCHG request of a hearth is captured, and applied unless a higher command holds the port (R12, R23). -/
def State.dschgOn (s : State) (n : Port) : State :=
  let t := s.modCap n fun c => { c with dschg := true, dschgDue := s.higherHeld n }
  if s.higherHeld n then t else t.dschgApply n

/-- DSCHG switches off. -/
def State.dschgOff (s : State) (n : Port) : State :=
  (((s.modCap n fun c => { c with dschg := false, dschgDue := false }).set (F.FND_STATUS_dschg n) 0).modFnd n fun f =>
    { f with dschgWait := false, dschgSlow := false }).stop .dschg n.val
    |>.stop .dschgForce n.val

/-! ### Fender's thresholds and comparators (R307, R315, R336, R337) -/

/-- Code of a current limit in 25 mA steps: round(I x Rsns x 1,024 / V_fs), with `num`/`den` the fast-trip ratio. -/
def senseCode (lim rsns fs num den : Nat) : Nat := (2 * lim * rsns * 256 * num + 15000 * (fs + 1) * den) / (2 * 15000 * (fs + 1) * den)

/-- The fast-trip ratio k of LIMIT_CFG.ft_ratio. -/
def ftRatio : Nat → Nat × Nat
  | 0 => (5, 4)
  | 1 => (3, 2)
  | _ => (2, 1)

/-- The limit in force: ilim_ins during Inrush, otherwise ilim. -/
def State.limitNow (s : State) (n : Port) : Nat :=
  if s.get (F.FND_STATUS_state n) = 2 then s.get (F.FND_LIMIT_CFG_ilim_ins n) else s.get (F.FND_LIMIT_CFG_ilim n)

/-- The highest voltage that the port may see in its present state (R315), mV. While a Hard Reset or a power-role swap holds VBUS or lets it
fall (R178, R185), the old target is the reference in force. -/
def State.vHi (s : State) (n : Port) : Nat :=
  let p := s.pol.get n
  let target : Option Contract → Nat := fun c => match c with | some c => c.mv | none => 5000
  if [Seqn.hold, .ramp, .readySent, .snkTransition].contains p.seq then max (target p.cur) (target p.new)
  else if [Seqn.hrSend, .hrHold, .hrDescent, .prHold, .prDescent].contains p.seq ∧ ¬ s.flag (F.STG_STATUS_dir n) then
    max (target p.cur) (15 * s.get (F.STG_SP_STATUS_vref n) / 8)
  else
    match (s.thn.get n).terms, p.cur with
    | some k, _ => 100 * k.vhi
    | none, some c => if c.kind ≤ 1 then c.mv else c.hi
    | none, none => 5500

/-- v_ovp in 100 mV: min(56.0 V, max(6.0 V, 1.10 x V_hi + 0.5 V)), rounded up. -/
def State.vOvp (s : State) (n : Port) : Nat := min 560 (max 60 (ceilDiv (11 * s.vHi n + 5000) 1000))

/-- Fender loads the upper threshold of comparator `k`; a change restarts its filter (R337, R338). -/
def State.cmpHi (s : State) (k hi : Nat) : State :=
  if s.get (F.CMP_CFG_hi 0 k) = hi then s else (s.set (F.CMP_CFG_hi 0 k) hi).setBit (F.CMP_STATUS_live 0) k false

/-- The threshold as FND.OVP_STATUS shows it: free where the field does not hold it (R315; DESIGN CHOICE, log 133). -/
def ovpShown (v : Nat) : Nat := if v < 512 then v else Config.ovpShown v % 512

/-- Fender loads the thresholds in force: the codes shown, and the upper thresholds of the comparators it owns (R337). -/
def State.fenderLoad (s : State) (n : Port) : State :=
  let lim := s.limitNow n
  let rs := s.get (F.FND_SENSE_CFG_rsns n)
  let fs := s.get (F.FND_SENSE_CFG_fs n)
  let k := ftRatio (s.get (F.FND_LIMIT_CFG_ft_ratio n))
  let ft := senseCode lim rs fs k.1 k.2
  let open_ : Bool := s.get (F.FND_STATUS_state n) = 3 || s.get (F.FND_STATUS_state n) = 4
  let v := s.vOvp n
  let t := (s.set (F.FND_THRESH_STATUS_c_ft n) ft).set (F.FND_THRESH_STATUS_c_lim n) (senseCode lim rs fs 1 1)
  let t := if open_ then t.set (F.FND_OVP_STATUS_v_ovp n) (ovpShown v) else t
  let t := if s.bit (F.CMP_OWNER_fender 0) n.val then t.cmpHi n.val (min 254 ((ft + 2) / 4)) else t
  if s.bit (F.CMP_OWNER_fender 0) (8 + n.val) then t.cmpHi (8 + n.val) (if open_ then ceilDiv (100 * v) 240 else 255) else t

/-- Fender takes comparator `k` for port `n`, with an input, a lower threshold and a filter; a change of its signal restarts the filter, and
the violation it showed ends (R336, R338). -/
def State.cmpTake (s : State) (k : Fin 16) (n : Port) (input lo filt : Nat) : State :=
  let c := k.val
  let same : Bool := s.get (F.CMP_CFG_input 0 c) = input && s.get (F.CMP_CFG_idx 0 c) = n.val && s.get (F.CMP_CFG_lo 0 c) = lo
  let t := ((s.set (F.CMP_CFG_input 0 c) input).set (F.CMP_CFG_idx 0 c) n.val).set (F.CMP_CFG_lo 0 c) lo
  let t := (t.set (F.CMP_CFG_filt 0 c) filt).set (F.CMP_CFG_en 0 c) 1
  let t := t.setBit (F.CMP_OWNER_fender 0) c true
  if same then t else t.setBit (F.CMP_STATUS_live 0) c false

/-- Fender takes the two comparators of an enabled port, with the settings it fixes (R336); lo of the window stays the host's. -/
def State.ownTake (s : State) (n : Port) : State :=
  let k : Fin 16 := ⟨8 + n.val, by omega⟩
  ((s.cmpTake ⟨n.val, by omega⟩ n 2 0 2).cmpTake k n 1 (s.get (F.CMP_CFG_lo 0 k.val)) 25).fenderLoad n

/-- A disabled port's comparators are released, with their last settings. -/
def State.ownRelease (s : State) (n : Port) : State :=
  (s.setBit (F.CMP_OWNER_fender 0) n.val false).setBit (F.CMP_OWNER_fender 0) (8 + n.val) false

/-! ### The path (R309-R318) -/

/-- Both gates off; a waiting DSCHG request applies. -/
def State.gatesOff (s : State) (n : Port) : State :=
  let t := ((s.set (F.FND_STATUS_gate_s n) 0).set (F.FND_STATUS_gate_b n) 0).set (F.FND_STATUS_reg n) 0
  if (s.fnd.get n).dschgWait then t.dschgStart n else t

/-- Timers of the path stop. -/
def State.pathTimersStop (s : State) (n : Port) : State :=
  ((((s.stop .insertion n.val).stop .inrush n.val).stop .limit n.val).stop .offTime n.val).stop .closedFor n.val

/-- An open command, a detach or an abort (R309): from states 1-5 and 7 the path goes to Open; Lockout is not left, and on the tick of a
fast trip the trip governs (R318). -/
def State.openPath (s : State) (n : Port) : State :=
  let st := s.get (F.FND_STATUS_state n)
  let t := ((s.modCap n fun c => { c with close := false }).set (F.FND_STATUS_close_cmd n) 0).modLp n fun l => { l with runStored := false }
  if st = 0 ∨ st = 6 ∨ (s.fnd.get n).tripTick = some s.tbase.toNat then t
  else
    let u := ((t.gatesOff n).pathTimersStop n).set (F.FND_STATUS_state n) 0
    let u := (u.set (F.FND_STATUS_win_ok n) 0).set (F.FND_RETRY_STATUS_toff_left n) 0
    let u := (u.modLp n fun l => { l with tripHold := false }).set (F.THM_STATUS_hold n) 0
    if 2 ≤ st ∧ st ≤ 4 then (u.modFnd n fun f => { f with openTick := some s.tbase.toNat }).event (F.FND_EVENT_opened n) else u

/-- Lockout is left for Open with every retry (R318); a run command stored under a fast trip applies where no close command stands (R23). -/
def State.leaveLockout (s : State) (n : Port) : State :=
  if s.get (F.FND_STATUS_state n) = 6 then
    let t := ((s.modLp n fun l => { l with tripHold := false }).set (F.FND_STATUS_state n) 0).set (F.FND_STATUS_retries_left n)
      (s.get (F.FND_RETRY_CFG_count n))
    if t.flag (F.FND_STATUS_close_cmd n) then t else t.stageStored n
  else s

/-- A detach: the path is Open, whatever trip fell on its tick, with no off-time and out of Lockout (R318). -/
def State.detachPath (s : State) (n : Port) : State :=
  ((s.modFnd n fun f => { f with tripTick := none }).openPath n).leaveLockout n

/-- A close may act: an admission is held in Lit with no entry under way, or the port is the Kindling port (R310, R50); R66, an OTP command,
Level 3 and a port safe stand against it. -/
def State.closeAllowed (s : State) (n : Port) : Bool :=
  (s.bit F.DRT_STATUS_admitted n.val && s.ember.dev = .lit && s.ember.entry.isNone || s.ember.kindling = some n) && !s.flag F.OTP_STATUS_busy &&
    !s.flag F.FLU_STATUS_l3 && !s.ember.resensePending && !(s.pol.get n).safeHeld

/-- The configuration that a closure which begins now takes (R331). -/
def State.fndCfg (s : State) (n : Port) : FndCfg :=
  { insMs := s.get (F.FND_WIN_CFG_ins_ms n), srcMax := s.get (F.FND_WIN_CFG_src_max n), snkUv := s.get (F.FND_WIN_CFG_snk_uv n),
    snkOv := s.get (F.FND_WIN_CFG_snk_ov n), tInrush := s.get (F.FND_TIMER_CFG_t_inrush n), tLim := s.get (F.FND_TIMER_CFG_t_lim n),
    toffMin := s.get (F.FND_RETRY_CFG_toff_min n), count := s.get (F.FND_RETRY_CFG_count n), pmax := s.get (F.FND_SOA_CFG_pmax n),
    emax := s.get (F.FND_SOA_CFG_emax n) }

/-- The insertion windows of Table 14.3, on the last conversions of Pn_VBUS and of the stage side (channels 10 + n and 18 + n, 15 mV). -/
def State.windowsMet (s : State) (n : Port) : Bool :=
  let c := (s.fnd.get n).cfg
  let vbus := 15 * s.adc (10 + n.val)
  let stage := 15 * s.adc (18 + n.val)
  if s.flag (F.FND_STATUS_dir n) then 100 * c.snkUv ≤ vbus && vbus ≤ 100 * c.snkOv && stage ≤ vbus + 500
  else vbus ≤ 800 && stage ≤ 100 * c.srcMax

/-- STATUS.win_ok shows the windows from Inserting until the path opens (DEDUCED, log 91), and in Inserting the insertion delay follows
them: it starts once they hold, and an excursion stops it (R310). -/
def State.windowsFollow (s : State) (n : Port) : State :=
  let st := s.get (F.FND_STATUS_state n)
  if 1 ≤ st ∧ st ≤ 4 then
    let t := s.setB (F.FND_STATUS_win_ok n) (s.windowsMet n)
    if st ≠ 1 then t
    else if !s.windowsMet n then t.stop .insertion n.val
    else if s.running .insertion n.val then t
    else t.start .insertion n.val (s.ms (s.fnd.get n).cfg.insMs)
  else s

/-- A standing close command begins insertion when the path is Open and it may act (R310). -/
def State.pathTry (s : State) (n : Port) : State :=
  if s.flag (F.FND_STATUS_close_cmd n) ∧ s.get (F.FND_STATUS_state n) = 0 ∧ s.closeAllowed n then
    let c := s.fndCfg n
    ((s.set (F.FND_STATUS_state n) 1).modFnd n fun f => { f with cfg := c }).windowsFollow n
  else s

/-- A close command (R310, R317): from Open it gives every retry back. -/
def State.closePath (s : State) (n : Port) (sink : Bool) : State :=
  let t := ((s.modCap n fun c => { c with close := true }).set (F.FND_STATUS_close_cmd n) 1).setB (F.FND_STATUS_dir n) sink
  let t := if s.get (F.FND_STATUS_state n) = 0 then t.set (F.FND_STATUS_retries_left n) (s.get (F.FND_RETRY_CFG_count n)) else t
  t.pathTry n

/-- A port safe releases the port's outputs: the commands captured last that it kept from them apply (R23). -/
def State.outputsRelease (s : State) (n : Port) : State :=
  let c := s.boundary.ports.get n
  let t := if c.presDue then s.present n c.pres else s
  let t := if c.vconnDue then t.vconnTest n else t
  let t := if c.dschgDue then t.dschgOn n else t
  let t := if c.bmc then t.busyApply n else t
  (t.pathTry n).stageStored n

/-- The path conducts: Inrush, Closed or Limiting. -/
def State.pathIsOpen (s : State) (n : Port) : Bool := !(2 ≤ s.get (F.FND_STATUS_state n) && s.get (F.FND_STATUS_state n) ≤ 4)

/-- The port sources: attached as source, with the power role of source. -/
def State.sourcing (s : State) (n : Port) : Bool :=
  s.flag (F.POL_STATUS_power_role n) && (s.cc.get n).attached

/-- The port sinks: attached with the power role of sink. -/
def State.sinking (s : State) (n : Port) : Bool := !s.flag (F.POL_STATUS_power_role n) && (s.cc.get n).attached

/-! ### Contracts and thresholds (R162, R211) -/

/-- Tracking collapses for a reason of Table 9.6 (R212): the terms end, TRK_END is due while the link is up, the source's reference
returns, a sink's threshold returns after 50 ms (R211), and the port's predictions are discarded without a squash (R295). -/
def State.collapse (s : State) (n : Port) (reason : Nat) : State :=
  match (s.thn.get n).terms with
  | some k =>
    let src := s.flag (F.POL_STATUS_power_role n)
    let t := s.modThn n fun x => { x with
      terms := none, returning := if src then some k else none, broken := true, vthHeld := 75 * k.vlo / 100,
      ending := if s.bit F.THN_STATUS_link n.val then some reason else x.ending }
    let t := ((t.setBit F.THN_STATUS_tracking n.val false).set (F.THN_PORT_STATUS_reason n.val) reason).event F.THN_EVENT_trk_collapse
    let t : State := { t with draught := { t.draught with preds := t.draught.preds.filter fun p => p.consumer ≠ n.val } }
    let t := ((t.set (F.RUN_TRK_TGT_committed n.val) 0).set (F.RUN_TRK_TGT_published n.val) 0).setBit F.RUN_STATUS_trk_pub n.val false
    if src then t else t.start .vthRestore n.val (s.ms 50)
  | none => s.modThn n fun x => { x with broken := x.broken || x.sent.isSome }

/-- Thatin exits (R214): the SBU switches open, SBU1 stops, tracking collapses. -/
def State.thatinExit (s : State) (n : Port) : State :=
  if s.bit F.THN_STATUS_entered n.val then
    let t := s.collapse n 3
    let t := (t.set (F.CC_SBU_STATUS_sbu1_conn n) 0).set (F.CC_SBU_STATUS_sbu2_conn n) 0
    let t := (t.setBit F.THN_STATUS_entered n.val false).setBit F.THN_STATUS_link n.val false
    let t := (t.set (F.THN_PORT_STATUS_version n.val) 0).set (F.THN_PORT_STATUS_master n.val) 0
    let t := t.set (F.VDM_STATUS_thatin n) 0
    let t := (t.modThn n ThnPort.left).stop .thatinPoll n.val
    t.event F.THN_EVENT_exited
  else s

/-- EPR mode changes (R166). -/
def State.setEpr (s : State) (n : Port) (on : Bool) : State :=
  if s.flag (F.POL_STATUS_epr_mode n) = on then s
  else (s.setB (F.POL_STATUS_epr_mode n) on).event (F.POL_EVENT_epr_change n)

/-- The policy timers of a sequence or contract, but for tNoResponse. -/
def policyTimers : List TimerKind :=
  [.sourceCap, .senderResponse, .sinkWaitCap, .keepAlive, .reRequest, .pps, .draftGap, .srcTransition, .psTransition, .swapPs, .swapStart,
   .frsInit, .vconnSwap, .sinkRequest, .enterEpr, .vdmResponse, .vdmBusy, .hostVdm, .cableIdentity]

/-- Timers of a port stop. -/
def State.stopAll (s : State) (n : Port) (l : List TimerKind) : State := l.foldl (fun t k => t.stop k n.val) s

/-- Policy timers of a contract stop. -/
def State.policyTimersStop (s : State) (n : Port) : State := (s.stopAll n policyTimers).stop .noResponse n.val

/-- A port's emergency clamp is removed (R300). -/
def State.clampOff (s : State) (n : Port) : State :=
  let t := (s.set (F.DRT_CLAMP_clamp_on n.val) 0).set (F.DRT_CLAMP_clamp n.val) 0
  t.setB F.DRT_STATUS_shed ((List.finRange 8).any fun p => t.flag (F.DRT_CLAMP_clamp_on p.val))

/-- The contract ends (Table 8.6): no explicit contract, EPR mode left, contract registers cleared, SinkTx levels no longer used. -/
def State.contractEnd (s : State) (n : Port) : State :=
  let t := (s.modPol n fun p => { p with cur := none, new := none, asking := 0, sinkTx := false, draft := none, frsArmed := false, frsWanted := false, todo := [] })
  let t := (((t.set (F.POL_CONTRACT_pos n) 0).set (F.POL_CONTRACT_kind n) 0).set (F.POL_CONTRACT_epr n) 0).set (F.POL_CONTRACT_VI_v n) 0
  let t := ((t.set (F.POL_CONTRACT_VI_i n) 0).set (F.POL_STATUS_explicit n) 0).setEpr n false
  let t := t.set (F.MSG_STATUS_sinktx_ng n) 0
  t.set (F.POL_STATUS_ams n) 0

/-- A host VDM waits to be sent or awaits its answer. -/
def VdmPort.hostOpen (v : VdmPort) : Bool := (v.ask.toList ++ v.waiting).any fun a => a.what = 8

/-- VDMs under way end, and with them the partner's modes and the version in use; a host VDM among them has failed (R202). -/
def State.vdmEnd (s : State) (n : Port) : State :=
  let t := (s.modVdm n fun _ => VdmPort.empty).stopAll n [.vdmResponse, .vdmBusy, .hostVdm, .cableIdentity]
  let t := ((t.set (F.VDM_STATUS_disc n) 0).set (F.VDM_STATUS_host_entered n) 0).set (F.VDM_STATUS_svdm_ver n) 0
  t.hostLost n (s.vdm.get n).hostOpen

/-- Fixed revisions are cleared (Table 8.6). -/
def State.revsClear (s : State) (n : Port) (sops : List Nat) : State :=
  let t := if sops.contains 0 ∧ s.get (F.MSG_STATUS_rev_sop n) ≠ 0 then
    (s.set (F.MSG_STATUS_rev_sop n) 0).event (F.MSG_EVENT_rev_changed n) else s
  let t := if sops.contains 1 ∧ t.get (F.MSG_STATUS_rev_sop1 n) ≠ 0 then
    (t.set (F.MSG_STATUS_rev_sop1 n) 0).event (F.MSG_EVENT_rev_changed n) else t
  if sops.contains 2 ∧ t.get (F.MSG_STATUS_rev_sop2 n) ≠ 0 then
    (t.set (F.MSG_STATUS_rev_sop2 n) 0).event (F.MSG_EVENT_rev_changed n) else t

/-! ### Resets of a port (R124, R184, R189) -/

/-- Salt bytes of a challenge, drawn from the random source. -/
def State.saltBytes (s : State) : List Byte := (List.range 32).map fun i => Config.randomByte (s.fresh + i)

/-- A hearth's signing engine takes the first of its challenges: the salt is drawn, and the answer's role epoch is that of this tick (R226,
R229, Table 10.3). -/
def State.authNext (s : State) (h : Hth) : State :=
  match s.auth.find? fun c => s.driver c.port = h with
  | some c =>
    if c.salt.isEmpty then
      { s with
        auth := s.auth.map fun d => if d.port = c.port then { d with salt := s.saltBytes, epoch := s.get (F.POL_SEQ_epoch c.port) } else d
        fresh := s.fresh + 32 }
    else s
  | none => s

/-- An open authentication request of a port ends, and the engine goes on to the next (R229). -/
def State.authDrop (s : State) (n : Port) : State :=
  if s.bit F.IDN_STATUS_pending n.val then
    (({ s with auth := s.auth.filter fun c => c.port ≠ n } : State).setBit F.IDN_STATUS_pending n.val false).authNext (s.driver n)
  else s

/-- An authentication error is recorded. -/
def State.authError (s : State) (n : Port) (code : Nat) : State :=
  ((s.set F.IDN_LAST_ERR_port n.val).set F.IDN_LAST_ERR_code code).eventMsg F.IDN_EVENT_request_error

/-- A Hard Reset is requested (R124): a frame in progress is aborted, a waiting GoodCRC is replaced, and the ordered set follows after
ifg_us. The sequence that it interrupts is kept, for what the Hard Reset makes of it (R190, R191). -/
def State.hardResetRequest (s : State) (n : Port) : State :=
  let t := ((s.txAbort n).assemblyEnd n).modMsg n fun m => { m with signal := .hardReset }
  let t := (t.stopAll n policyTimers).start .signal n.val (s.us (s.get (F.MSG_CONFIG_ifg_us n)))
  t.modPol n fun p => { p with seq := .hrSend, seqWas := if p.seq = .hrSend then p.seqWas else p.seq }

/-- The port puts its own power on VBUS: as source, or as the new source of a power-role swap before its completion (R178, R181, R189). -/
def State.drivesVbus (s : State) (n : Port) : Bool :=
  s.sourcing n || ((s.cc.get n).attached && ((s.pol.get n).settledSource || s.seqOf n = .prRaise || s.seqOf n = .prReadySent))

/-- STATUS.rp_level of a port that is no sink any more (R107). -/
def State.rpLevelClear (s : State) (n : Port) : State :=
  let t := s.stop .rpLevel n.val
  if s.get (F.CC_STATUS_rp_level n) = 0 then t else (t.set (F.CC_STATUS_rp_level n) 0).event (F.CC_EVENT_rp_change n)

/-- The port's attach latched is given up without a detach report: type and orientation read 0 (R92), and its debounces end. -/
def State.unattach (s : State) (n : Port) : State :=
  let t := (((s.modCc n fun c => { c with attached := false }).set (F.CC_STATUS_attach n) 0).set (F.CC_STATUS_orient n) 0).rpLevelClear n
  (t.stop .attach n.val).stop .detach n.val

/-- Entry to Error Recovery (R189, Table 8.6): Open on both pins, the path opens with DSCHG if it was sourcing, the stage and VCONN stop,
the contract, EPR mode and Thatin end, the role epoch advances and every waiting message is dropped. -/
def State.errorRecovery (s : State) (n : Port) : State :=
  let src := s.drivesVbus n
  let t := ((s.collapse n 2).thatinExit n).authDrop n
  let t := (t.event (F.POL_EVENT_error_recovery n)).advanceEpoch n
  let t := (((t.txSilence n).assemblyEnd n).dropQueue n fun _ => true).policyTimersStop n
  let t := ((((t.vconnOff n).present n .opened).unattach n).stageOff n).openPath n
  let t := (if src then t.dschgOn n else t).set F.DEV_RESET_CAUSE_cause 5
  let t := ((t.contractEnd n).revsClear n [0, 1, 2]).vdmEnd n
  let t := (t.set (F.CC_STATUS_vbus_mask n) 0).loseAdmission n
  let t := ((t.set (F.POL_STATUS_typec n) 13).set (F.POL_STATUS_pd n) 0).set (F.POL_STATUS_pd_partner n) 0
  let t := t.modPol n fun p => { p with
    seq := .recovery, wait0V := src, hardResets := 0, capsCount := 0, cableA := 0, cableEpr := false, partnerEpr := false, offered := false,
    partnerCaps := false, trying := 0, noPd := false, cableFails := 0, cableSeen := false, waitCaps := false,
    hrKind := 0, frsDue := false }
  (((t.stop .hardReset n.val).stop .srcRecover n.val).stop .abortWait n.val).stop .cableReset n.val |>.start .errorRecovery n.val (s.ms 30)

/-! ### Triggers of the Trace Units (R272, R340) -/

/-- State of a hearth's capture. -/
def State.trcState (s : State) (h : Hth) : Nat := s.get (F.TRC_STATUS_state.inHearth h)

/-- A trigger reaches a hearth: the first one, while the capture is armed. -/
def State.trcTrigger (s : State) (h : Hth) (cause : Nat) : State :=
  if s.trcState h = 1 ∧ (s.hearthOf h).trigger = 0 then s.putHearth h { s.hearthOf h with trigger := cause } else s

/-- Every running hearth in turn. -/
def State.eachHearth (s : State) (f : State → Hth → State) : State := s.devHearths.foldl f s

/-- The latched output of comparator `k` had the edge on this tick (R340). -/
def State.cmpEdge (s : State) (k : Fin 64) (rising : Bool) : Bool :=
  s.array.tick = some s.tbase.toNat && (if rising then s.array.rose else s.array.fell).getLsbD k.val

/-- The cause that an occurrence is for a hearth's capture, where its source is enabled. -/
def State.trcMatch (s : State) (h : Hth) (c : TrcCause) : Option Nat :=
  let own (f : Field) : Nat := s.get (f.inHearth h)
  match c with
  | .comparator k rising =>
    let e := own F.TRC_TRIG_CMP_edge
    if s.cmpEdge k rising ∧ own F.TRC_TRIG_SRC_cmp = 1 ∧ own F.TRC_TRIG_CMP_cmp = k.val ∧ (if rising then e % 2 = 1 else 2 ≤ e) then some 2 else none
  | .flue source level =>
    let c := own F.TRC_TRIG_FLUE_source
    if own F.TRC_TRIG_SRC_flue = 1 ∧ (c = 0 ∨ c = source.toNat) ∧ own F.TRC_TRIG_FLUE_level ≤ level.val then some 3 else none
  | .alert port code =>
    if own F.TRC_TRIG_SRC_lex = 1 ∧ bitOf (own F.TRC_TRIG_LEX_ports) port.val ∧
        (own F.TRC_TRIG_LEX_any = 1 ∨ own F.TRC_TRIG_LEX_code = code.toNat) then some 4 else none

/-- A trigger reaches both hearths through the boundary (R272). The edges of the latched outputs, the reports that Flue takes and the ALERT
clauses bring theirs with them; TRACE_TRIGGER names an occurrence once more, which a capture that has its trigger ignores. -/
def State.traceTrigger (s : State) (c : TrcCause) : State :=
  s.eachHearth fun t h => match t.trcMatch h c with | some k => t.trcTrigger h k | none => t

end Sys2Proof.Machine
end

