-- ==== Sys2Proof/Machine/Cc.lean ====
section
/-! DEFINITION. The CC Front Ends (chapter 5): level codes, attach and detach, VCONN, overvoltage. -/

namespace Sys2Proof.Machine

/-! ### Level codes (R91, R99) -/

/-- A pin's code is read anew, and the debounces follow it (R91, R93, R94, R107); a change on the pin that is not the orientation pin of an
attached port sets other_pin (R99). -/
def State.pinRead (s : State) (n : Port) (cc2 : Bool) : State :=
  let t := s.setLvl n cc2 (s.sensed n cc2)
  if t.pinLvl n cc2 = s.pinLvl n cc2 then s
  else
    let t := t.codesFollow s n
    if (s.cc.get n).attached && cc2 ≠ s.bmcPin n then t.event (F.CC_EVENT_other_pin n) else t

/-- The voltage of a pin changes: its code follows Table 5.2. -/
def State.ccLevel (s : State) (n : Port) (cc2 : Bool) (mv : Nat) : State :=
  let t := s.modCc n fun c => if cc2 then { c with mv2 := mv } else { c with mv1 := mv }
  (t.pinRead n cc2).vconnRevShow n

def execCcLevelChange (n : Port) (cc2 : Bool) (mv : Nat) (s : State) : Host.Outcome State Fault Refusal := .next (s.ccLevel n cc2 mv)

/-- The pin that is not the orientation pin changes while attached (R99): other_pin is set, and neither type nor orientation changes. -/
def State.otherPin (s : State) (n : Port) (mv : Nat) : State :=
  if (s.cc.get n).attached then s.ccLevel n (!s.flag (F.CC_STATUS_orient n)) mv else s

def execOtherPinChange (n : Port) (mv : Nat) (s : State) : Host.Outcome State Fault Refusal := .next (s.otherPin n mv)

/-- An accessory type whose enable is clear (R92). -/
def State.accessoryOff (s : State) (n : Port) (type : Nat) : Bool :=
  match type with
  | 4 => !s.flag (F.CC_CONFIG_audio_acc_en n)
  | 5 | 7 => !s.flag (F.CC_CONFIG_debug_acc_en n)
  | _ => false

/-! ### Attach and detach reports (R93, R94, R163) -/

/-- A report to the Policy Sequencers (R83, R139). -/
def State.policyInput (s : State) (n : Port) (k : InKind) : State :=
  { s with inputs := s.inputs ++ [{ tick := s.tbase.toNat, port := n, kind := k }] }

/-- The attach timer expires (R92, R93): the attach is latched and reported, CC.SEQ and the role epoch advance (R163) and every
MessageID counter is reset (R117), and no revision is fixed (R115); the Rp level of a sink is timed from here (R107). An accessory whose enable is clear only sets
accessory_ignored; a dual-role port then stays as it stands until a code changes (DESIGN CHOICE, log 69: R90 resumes toggling after a failed
debounce, and this one has not failed). -/
def State.attachExpiry (s : State) (n : Port) : State :=
  let c := s.candidate n
  if s.running .attach n.val ∧ ¬ (s.cc.get n).attached ∧ debounces c (s.flag (F.CC_STATUS_vbus_present n)) then
    let t := s.stop .attach n.val
    if s.accessoryOff n c then t.event (F.CC_EVENT_accessory_ignored n)
    else
      let t := t.modCc n fun x => { x with attached := true, attachTick := s.tbase.toNat }
      let t := (t.set (F.CC_STATUS_attach n) c).set (F.CC_STATUS_orient n) (orientOf c (s.pinLvl n true))
      let t := (t.event (F.CC_EVENT_attach n)).bump (F.CC_SEQ_changes n)
      let t := if c = 6 then t.start .rpLevel n.val (s.ms (s.get (F.CC_DEBOUNCE_detach_ms n))) else t
      (((t.advanceEpoch n).idReset n [0, 1, 2]).revsClear n [0, 1, 2]).policyInput n (.attach c)
  else s

def execAttachDebounceExpiry (n : Port) (s : State) : Host.Outcome State Fault Refusal := .next (s.attachExpiry n)

/-- A command that named a pin, captured on the tick of the detach, is discarded (R98): the presentation before it returns. -/
def State.commandTakenBack (s : State) (n : Port) : State :=
  match (s.cc.get n).before with
  | some (tick, p) => if tick = s.tbase.toNat then s.present n p else s
  | none => s

/-- A detach report (R94, R98, R192): the front end opens VCONN, the role epoch and CC.SEQ advance, the transmitter stops (R124) and any
sequence ends; the path opens (R309) and leaves Lockout (R318), and a sourcing port's DSCHG switches on (R323). -/
def State.detach (s : State) (n : Port) : State :=
  let src := s.sourcing n
  let t := s.commandTakenBack n
  let t := (t.collapse n 2).txSilence n
  let t := ((t.event (F.CC_EVENT_detach n)).set (F.CC_STATUS_attach n) 0).set (F.CC_STATUS_orient n) 0
  let t := (t.bump (F.CC_SEQ_changes n)).modCc n fun c => { c with attached := false, detachTick := some s.tbase.toNat }
  let t := (((t.stop .detach n.val).rpLevelClear n).vconnDiscard n).standingFollow n
  let t := ((t.advanceEpoch n).idReset n [0, 1, 2]).revsClear n [0, 1, 2]
  let t := (((t.rxStop n).thatinExit n).authDrop n).policyTimersStop n
  let t := ((((t.stop .hardReset n.val).stop .srcRecover n.val).stop .abortWait n.val).stop .errorRecovery n.val).stop .cableReset n.val
  let t := (t.stageOff n).detachPath n
  let t := if src then (t.dschgOn n).modFnd n fun f => { f with detaching := true } else t
  let t := (((t.contractEnd n).vdmEnd n).set (F.CC_STATUS_vbus_mask n) 0).loseAdmission n
  (t.setSeq n .idle).policyInput n .detach

/-- The detach timer has run out (R94). For types 6 and 7 the policy can suspend the test of VBUS. -/
def State.detachExpiry (s : State) (n : Port) : State :=
  if (s.cc.get n).attached ∧ s.running .detach n.val then
    let a := s.get (F.CC_STATUS_attach n)
    if a = 6 ∨ a = 7 then (if s.flag (F.CC_STATUS_vbus_mask n) then s else s.detach n)
    else if s.detachLevels n then s.detach n
    else s
  else s

def execDetachDebounceExpiry (n : Port) (s : State) : Host.Outcome State Fault Refusal := .next (s.detachExpiry n)

/-- The fast open indication (R97): for types 1 and 2, while the transmitter is not active. It reaches the hearths as an input, and a
frame in progress is aborted (R124). -/
def State.openFast (s : State) (n : Port) : State :=
  let a := s.get (F.CC_STATUS_attach n)
  if (s.cc.get n).attached ∧ (a = 1 ∨ a = 2) ∧ ¬ (s.cc.get n).busy ∧ s.pinLvl n (s.flag (F.CC_STATUS_orient n)) = 3 then
    ((s.event (F.CC_EVENT_cc_open_fast n)).collapse n 2).policyInput n .openFast
  else s

def execCcOpenFast (n : Port) (s : State) : Host.Outcome State Fault Refusal := .next (s.openFast n)

/-- VBUS at or above 4.0 V with no Rp on either pin (R92). -/
def State.vbusNoCc (s : State) (n : Port) : State :=
  if s.flag (F.CC_STATUS_vbus_present n) ∧ ¬ (s.cc.get n).attached ∧ ¬ isRp (s.pinLvl n false) ∧ ¬ isRp (s.pinLvl n true) then
    s.event (F.CC_EVENT_vbus_no_cc n)
  else s

def execVbusNoCc (n : Port) (s : State) : Host.Outcome State Fault Refusal := .next (s.vbusNoCc n)

/-- A change of VBUS across 4.0 V (R92): a held type-6 debounce is released, or held at its start. -/
def State.vbusPresent (s : State) (n : Port) (on : Bool) : State :=
  let t := s.setB (F.CC_STATUS_vbus_present n) on
  if (s.cc.get n).attached then t
  else if s.candidate n = 6 then (if s.flag (F.CC_STATUS_vbus_present n) = on then t else t.ccDebounce n)
  else if on then t.vbusNoCc n
  else t

/-! ### Presentation commands (R89, R90, R98) -/

/-- A presentation command of the hearth. One that names a pin is discarded on the tick of a detach (R98). -/
def State.presentationCmd (s : State) (n : Port) (p : Pres) : State :=
  match p with
  | .ra _ =>
    if (s.cc.get n).detachTick = some s.tbase.toNat then s
    else (s.modCc n fun c => { c with before := some (s.tbase.toNat, c.cmd) }).present n p
  | _ => s.present n p

def execPresentationCmd (n : Port) (p : Pres) (s : State) : Host.Outcome State Fault Refusal := .next (s.presentationCmd n p)

/-- The toggle timer (R90): each cycle starts with its Rp phase. -/
def State.drpPhase (s : State) (n : Port) : State :=
  match (s.cc.get n).cmd with
  | .toggle l =>
    if s.flag (F.CC_STATUS_toggling n) then
      if s.presentsRp n then
        (s.drivePins n 1).start .drp n.val
          (s.ms (s.get (F.CC_CONFIG_drp_period_ms n)) - s.ms (s.get (F.CC_CONFIG_drp_period_ms n)) * s.get (F.CC_CONFIG_drp_src_pct n) / 100)
      else s.toggleStart n l
    else s
  | _ => s

def execDrpTogglePhase (n : Port) (s : State) : Host.Outcome State Fault Refusal := .next (s.drpPhase n)

/-! ### Configuration writes (R96, R104) -/

/-- A field value after R10: 0 leaves the field unchanged. -/
def keep0 (new old : Nat) : Nat := if new = 0 then old else new

/-- Out of [lo, hi], where 0 is left unchanged. -/
def outside (v lo hi : Nat) : Bool := v ≠ 0 && (v < lo || hi < v)

/-- A write of CC.CONFIG (`reg` false) or CC.DEBOUNCE (R96, Table 5.8). -/
def State.ccConfigWrite (s : State) (n : Port) (debounce : Bool) (v : Word) : State :=
  if debounce then
    let a := bitsGet v 0 8
    let d := bitsGet v 8 8
    let o := bitsGet v 16 8
    if outside a 100 200 || outside d 10 20 || outside o 4 24 then s.eventHost (F.CC_EVENT_cfg_refused n)
    else
      ((s.set (F.CC_DEBOUNCE_attach_ms n) (keep0 a (s.get (F.CC_DEBOUNCE_attach_ms n)))).set (F.CC_DEBOUNCE_detach_ms n)
        (keep0 d (s.get (F.CC_DEBOUNCE_detach_ms n)))).set (F.CC_DEBOUNCE_open_fast n) (keep0 o (s.get (F.CC_DEBOUNCE_open_fast n)))
  else
    let p := bitsGet v 8 8
    let c := bitsGet v 16 7
    if outside p 50 100 || outside c 30 70 then s.eventHost (F.CC_EVENT_cfg_refused n)
    else
      (((s.set (F.CC_CONFIG_drp_period_ms n) (keep0 p (s.get (F.CC_CONFIG_drp_period_ms n)))).set (F.CC_CONFIG_drp_src_pct n)
        (keep0 c (s.get (F.CC_CONFIG_drp_src_pct n)))).set (F.CC_CONFIG_audio_acc_en n) (bitsGet v 23 1)).set
        (F.CC_CONFIG_debug_acc_en n) (bitsGet v 24 1)

def execCcConfigWrite (n : Port) (debounce : Bool) (value : Word) (s : State) : Host.Outcome State Fault Refusal :=
  .next (s.answered (portPage n 0) fun s => s.ccConfigWrite n debounce value)

/-- A write of VCONN_CFG (R96, R104). -/
def State.vconnCfgWrite (s : State) (n : Port) (v : Word) : State :=
  let l := bitsGet v 0 4
  let o := bitsGet v 8 8
  let newL := keep0 l (s.get (F.CC_VCONN_CFG_ilim n))
  if outside l 1 12 || outside o 1 100 ||
      (s.flag (F.CC_STATUS_vconn_on n) && s.get (F.CC_VCONN_CFG_ilim n) < newL && 1200 < 25 * s.vconnSum n newL) then
    s.eventHost (F.CC_EVENT_cfg_refused n)
  else (s.set (F.CC_VCONN_CFG_ilim n) newL).set (F.CC_VCONN_CFG_oc_100us n) (keep0 o (s.get (F.CC_VCONN_CFG_oc_100us n)))

def execVconnCfgWrite (n : Port) (value : Word) (s : State) : Host.Outcome State Fault Refusal :=
  .next (s.answered (portPage n 0) fun s => s.vconnCfgWrite n value)

/-! ### VCONN (R102, R103) -/

def execVconnEnable (n : Port) (s : State) : Host.Outcome State Fault Refusal := .next (s.vconnOn n)

def execVconnDisable (n : Port) (s : State) : Host.Outcome State Fault Refusal := .next (s.vconnOff n)

/-- Ticks for which the limit must be held (R95, R103). -/
def State.vconnOcTicks (s : State) (n : Port) : Nat := ceilDiv (s.get (F.CC_VCONN_CFG_oc_100us n) * s.tickKhz) 10

/-- The current limit holds on a port (R103): once for oc_100us the switch opens. -/
def execVconnOc (hold : OcHold) (s : State) : Host.Outcome State Fault Refusal :=
  let n := hold.port
  .next (if s.flag (F.CC_STATUS_vconn_on n) ∧ s.vconnOcTicks n ≤ hold.held then (s.vconnOff n).event (F.CC_EVENT_vconn_oc n) else s)

/-- VCONN_IN falls below 4.40 V (R103): every switched-on VCONN switch opens, each reporting VCONN_UV. -/
def execVconnUv (s : State) : Host.Outcome State Fault Refusal :=
  .next (
    (s.set F.EMB_STATUS_vconn_in_ok 0).allPorts fun t n =>
      if s.flag (F.CC_STATUS_vconn_on n) then (t.vconnOff n).event (F.CC_EVENT_vconn_uv n) else t)

/-- VCONN_STATUS.imeas at an epoch tick: the current of a closed switch, which its limit bounds (R103), and 0 with the switch open. -/
def State.vconnMeasure (s : State) : State :=
  s.allPorts fun t n =>
    if t.flag (F.CC_STATUS_vconn_on n) then
      ({ t with fresh := t.fresh + 1 } : State).set (F.CC_VCONN_STATUS_imeas n)
        (min (Config.vconnCurrent t.fresh) (25 * t.get (F.CC_VCONN_CFG_ilim n) / 2))
    else t.set (F.CC_VCONN_STATUS_imeas n) 0

/-! ### Rp level of a sink port (R107) -/

/-- The Rp level on a sink port's orientation pin has held for detach_ms (R107); messages that waited for it are taken again (R126). -/
def State.rpDebounced (s : State) (n : Port) : State :=
  let c := s.pinLvl n (s.flag (F.CC_STATUS_orient n))
  let v := if (s.cc.get n).attached ∧ s.get (F.CC_STATUS_attach n) = 6 ∧ isRp c then c - 4 else 0
  let t := s.stop .rpLevel n.val
  if ¬ s.running .rpLevel n.val then s
  else if v = s.get (F.CC_STATUS_rp_level n) then t
  else
    let t := ((t.set (F.CC_STATUS_rp_level n) v).setB (F.MSG_STATUS_sinktx_ng n) (v = 2)).event (F.CC_EVENT_rp_change n)
    t.modMsg n fun m => { m with queue := m.queue.map fun x => { x with heldNg := false } }

def execRpLevelDebounced (n : Port) (s : State) : Host.Outcome State Fault Refusal := .next (s.rpDebounced n)

/-! ### Overvoltage (R108-R110) -/

/-- A CC pin exceeds 6.00 V for 100 ns (R108): everything behind it is isolated, the BMC transceiver included, and it reads 0x8. A VCONN switch
on it opens, while its enable stands. -/
def State.ccOv (s : State) (n : Port) (cc2 : Bool) (mv : Nat) : State :=
  let t := if s.isVconnPin n cc2 then s.vconnOpen n else s
  let t := t.modCc n fun c => if cc2 then { c with iso2 := true, mv2 := mv } else { c with iso1 := true, mv1 := mv }
  let t := if cc2 = s.bmcPin n then t.modCc n fun c => { c with busy := false } else t
  let t := if cc2 then t.set (F.CC_STATUS_pres2 n) 0 else t.set (F.CC_STATUS_pres1 n) 0
  ((t.pinRead n cc2).set (F.CC_STATUS_cc_iso n) 1).event (F.CC_EVENT_cc_ov n)

def execCcOv (n : Port) (cc2 : Bool) (mv : Nat) (s : State) : Host.Outcome State Fault Refusal := .next (s.ccOv n cc2 mv)

/-- An isolated pin is reconnected, and presentation resumes at the commanded value, that of VCONN under R102 (R109). -/
def State.ccReconnect (s : State) (n : Port) (cc2 : Bool) : State :=
  if s.pinIso n cc2 then
    let t := s.modCc n fun c => if cc2 then { c with iso2 := false } else { c with iso1 := false }
    let x := t.cc.get n
    let t := ((t.setPin n cc2 (t.cmdCode n cc2)).pinRead n cc2).setB (F.CC_STATUS_cc_iso n) (x.iso1 || x.iso2)
    let t := if (s.boundary.ports.get n).bmc && cc2 = s.bmcPin n then t.busyApply n else t
    if (s.boundary.ports.get n).vconn && cc2 ≠ s.bmcPin n then t.vconnTest n else t
  else s

/-- An isolated pin has been below 5.50 V for 10 ms, at `mv` now (R109). -/
def execCcOvAutoRelease (n : Port) (cc2 : Bool) (mv : Nat) (s : State) : Host.Outcome State Fault Refusal :=
  .next (
    if s.pinIso n cc2 then
      let t := s.modCc n fun c => if cc2 then { c with mv2 := mv } else { c with mv1 := mv }
      if s.flag (F.CC_CONTROL_cc_ov_auto n) ∧ mv < 5500 then t.ccReconnect n cc2 else t
    else s)

/-- CONTROL.ov_release (R109): each isolated pin that is below 5.50 V is reconnected. -/
def State.ovRelease (s : State) (n : Port) : State :=
  let c := s.cc.get n
  let t := if c.mv1 < 5500 then s.ccReconnect n false else s
  if c.mv2 < 5500 then t.ccReconnect n true else t

def execOvRelease (n : Port) (s : State) : Host.Outcome State Fault Refusal := .next (s.answered (portPage n 0) fun s => s.ovRelease n)

/-- An SBU pin exceeds 4.00 V for 100 ns (R110). -/
def State.sbuOv (s : State) (n : Port) (sbu2 : Bool) : State :=
  let t :=
    if sbu2 then (s.set (F.CC_SBU_STATUS_sbu2_conn n) 0).set (F.CC_SBU_STATUS_sbu2_ov n) 1
    else (s.set (F.CC_SBU_STATUS_sbu1_conn n) 0).set (F.CC_SBU_STATUS_sbu1_ov n) 1
  t.event (F.CC_EVENT_sbu_ov n)

def execSbuOv (n : Port) (sbu2 : Bool) (s : State) : Host.Outcome State Fault Refusal := .next (s.sbuOv n sbu2)

/-- The SBU pin has been below 3.60 V for 1 ms: the switch closes again while Thatin is entered (R110). -/
def execSbuOvRelease (n : Port) (sbu2 : Bool) (s : State) : Host.Outcome State Fault Refusal :=
  .next (
    let on := s.bit F.THN_STATUS_entered n.val
    if sbu2 then (s.set (F.CC_SBU_STATUS_sbu2_ov n) 0).setB (F.CC_SBU_STATUS_sbu2_conn n) on
    else (s.set (F.CC_SBU_STATUS_sbu1_ov n) 0).setB (F.CC_SBU_STATUS_sbu1_conn n) on)

def execVbusPresentChange (n : Port) (present : Bool) (s : State) : Host.Outcome State Fault Refusal := .next (s.vbusPresent n present)

end Sys2Proof.Machine
end

