-- ==== Sys2Proof/Machine/Lexicon.lean ====
section
/-! DEFINITION. The Lexicon engine (chapter 7): clauses, decision points, parameters, and the drafting of offers from committed budget. -/

namespace Sys2Proof.Machine

/-! ### Clauses (R142, R143) -/

/-- Bits [lo + width - 1 : lo] of a 64-bit entry. -/
def entryBits (c : Entry64) (lo width : Nat) : Nat := c.toNat / 2 ^ lo % 2 ^ width

def clauseOp (c : Entry64) : Nat := entryBits c 58 6
def clausePorts (c : Entry64) : Nat := entryBits c 50 8
def clausePoint (c : Entry64) : Nat := entryBits c 44 6
def clauseVar (c : Entry64) : Nat := entryBits c 39 5
def clauseCmp (c : Entry64) : Nat := entryBits c 36 3
def clauseVal (c : Entry64) : Nat := entryBits c 24 12
def clauseOperand (c : Entry64) : Nat := entryBits c 0 24

/-- The Request under evaluation (cvar 4-6 and 21); all 0 away from point 5. -/
structure ReqVars where
  pos : Nat := 0
  v : Nat := 0
  i : Nat := 0
  w : Nat := 0
deriving DecidableEq, Repr

/-- Value of a condition variable (Table 7.6). -/
def State.cvar (s : State) (n : Port) (r : ReqVars) (var : Nat) : Nat :=
  let p := s.pol.get n
  match var with
  | 1 => s.get (F.CC_STATUS_attach n)
  | 2 => s.get (F.MSG_STATUS_rev_sop n)
  | 3 => s.get (F.POL_BUDGET_pc n) / 10
  | 4 => r.pos
  | 5 => r.v
  | 6 => r.i
  | 7 => p.cableA
  | 8 => bn p.cableEpr
  | 9 => bn p.partnerEpr
  | 10 => s.get (F.POL_STATUS_epr_mode n)
  | 11 => s.get (F.POL_STATUS_power_role n)
  | 12 => s.get (F.POL_STATUS_data_role n)
  | 13 => s.get (F.POL_STATUS_vconn_src n)
  | 14 => s.get F.DRT_TJ_tj
  | 15 => s.get (F.THM_TEMP_fet_t n)
  | 16 => s.get F.FED_STATUS_selected
  | 17 => s.get (F.POL_HOST_FLAGS_flags n)
  | 18 => bn s.degraded
  | 19 => s.get (F.VDM_STATUS_thatin n)
  | 20 => p.hardResets
  | 21 => r.w
  | _ => 0

/-- A comparison (Table 7.7). -/
def compareVar (cmp x v : Nat) : Bool :=
  match cmp with
  | 0 => x = v
  | 1 => x ≠ v
  | 2 => x < v
  | 3 => x ≤ v
  | 4 => v < x
  | 5 => v ≤ x
  | 6 => bitOf x (v % 32)
  | _ => !bitOf x (v % 32)

/-- A clause's own port mask and condition hold (R143). -/
def State.clauseHolds (s : State) (n : Port) (r : ReqVars) (c : Entry64) : Bool :=
  bitOf (clausePorts c) n.val && (clauseVar c = 0 || compareVar (clauseCmp c) (s.cvar n r (clauseVar c)) (clauseVal c))

/-- The clauses of a point that take part, in image order, as op and operand: a run of AND clauses joins the next clause (R143). -/
def State.partakers (s : State) (n : Port) (r : ReqVars) : Bool → List Entry64 → List (Nat × Nat)
  | _, [] => []
  | run, c :: t =>
    if clauseOp c = 0 then s.partakers n r run t
    else if clauseOp c = 1 then s.partakers n r (run && s.clauseHolds n r c) t
    else if run && s.clauseHolds n r c then (clauseOp c, clauseOperand c) :: s.partakers n r true t
    else s.partakers n r true t

/-- The clauses of a decision point in the active Lexicon of the hearth that drives the port. -/
def State.clausesAt (s : State) (n : Port) (point : Nat) : List Entry64 :=
  ((s.hearthOf (s.driver n)).lex.map (·.2)).filter fun c => clausePoint c = point

/-- An ALERT clause acts (R143, R272). -/
def State.alert (s : State) (n : Port) (code : Nat) : State :=
  ((s.set (F.POL_ALERT_CODE_code n) code).event (F.POL_EVENT_lexicon_alert n)).traceTrigger (.alert n (BitVec.ofNat 8 code))

/-- A collect point: every clause that takes part (R143). -/
def State.collect (s : State) (n : Port) (point : Nat) : List (Nat × Nat) := s.partakers n {} true (s.clausesAt n point)

/-- The actions of a first-match point up to its match: ALERT clauses act and do not consume the match. -/
def matchFirst : List (Nat × Nat) → List Nat × Option (Nat × Nat)
  | [] => ([], none)
  | (op, x) :: t => if op = 0x28 then let (a, m) := matchFirst t; (x % 256 :: a, m) else ([], some (op, x))

/-- A first-match point: the state after the ALERT clauses, and the action. -/
def State.firstMatch (s : State) (n : Port) (point : Nat) (r : ReqVars) : State × Option (Nat × Nat) :=
  let (alerts, m) := matchFirst (s.partakers n r true (s.clausesAt n point))
  (alerts.foldl (fun t c => t.alert n c) s, m)

/-- Table 7.11 applies to a port: a load or a check runs in the hearth that drives it (R153). -/
def State.loadPolicy (s : State) (n : Port) : Bool := s.get (F.LEX_STATUS_state.inHearth (s.driver n)) ≠ 0

/-! ### Point 0: parameters (R148) -/

/-- One SET clause: a value of 0 leaves the default. -/
def Params.put (p : Params) (id v : Nat) : Params :=
  if v = 0 then p
  else
    match id with
    | 1 => { p with srcPdp := v }
    | 2 => { p with imax := v }
    | 3 => { p with minOffer := v }
    | 4 => { p with snkOp := v }
    | 5 => { p with snkPdp := v }
    | 6 => { p with dbTarget := v }
    | 7 => { p with pdoFlags := v }
    | 8 => { p with noPd := v }
    | _ => p

/-- Point 0 is evaluated: every parameter returns to its default, then the SET clauses act. -/
def State.point0 (s : State) (n : Port) : State :=
  if s.loadPolicy n then s
  else
    let p := (s.collect n 0).foldl (fun p (a : Nat × Nat) => if a.1 = 2 then p.put (a.2 / 65536) (a.2 % 65536) else p) Params.default
    let t := s.modPol n fun x => { x with params := p }
    (s.collect n 0).foldl (fun t (a : Nat × Nat) => if a.1 = 0x28 then t.alert n (a.2 % 256) else t) t

/-! ### Point 1: the unattached presentation (R144, R145) -/

/-- Role and Rp level that point 1 gives, source-only ports clamped to source (R145). While an image loads they stand, but a source-only port is
never a sink. -/
def State.point1 (s : State) (n : Port) : State :=
  if s.loadPolicy n then
    if s.flag (F.CC_CONFIG_src_only n) then s.modPol n fun p => if p.role = 1 then p else { p with role := 1, level := 0 } else s
  else
    let (t, m) := s.firstMatch n 1 {}
    let so := s.flag (F.CC_CONFIG_src_only n)
    let lvl (x : Nat) : Fin 3 := Fin.ofNat 3 (x / 16 % 4)
    match m with
    | some (_, x) =>
      let role := x % 8
      if so ∧ role ≠ 1 then (t.modPol n fun p => { p with role := 1, level := lvl x }).event (F.POL_EVENT_role_clamped n)
      else t.modPol n fun p => { p with role := role, level := lvl x }
    | none => t.modPol n fun p => { p with role := if so then 1 else 0, level := 0 }

/-- The presentation of point 1. -/
def State.point1Pres (s : State) (n : Port) : Pres :=
  let p := s.pol.get n
  match p.role with
  | 0 => .rd
  | 1 => .rp p.level
  | _ => .toggle p.level

/-! ### Power data objects (PRESUMED layouts of USB Power Delivery, R137) -/

/-- A fixed supply: voltage in 100 mV, current in mA. -/
def pdoFixed (v ma : Nat) : Nat := v * 2 * 1024 + ma / 10
/-- A PPS supply. -/
def pdoPps (vmax vmin ma : Nat) (limited : Bool) : Nat :=
  3 * 2 ^ 30 + bn limited * 2 ^ 27 + vmax * 2 ^ 17 + vmin * 256 + ma / 50
/-- An SPR AVS supply: currents at 15 V and 20 V. -/
def pdoSprAvs (ma15 ma20 : Nat) : Nat := 3 * 2 ^ 30 + 2 * 2 ^ 28 + ma15 / 10 * 1024 + ma20 / 10
/-- The minimum-voltage field of an EPR AVS object, of 8 bits: Table 7.9 admits minima that it does not hold (R156; log 107). -/
def eprAvsMin (vmin : Nat) : Nat := if vmin < 256 then vmin else Config.eprAvsMin vmin % 256
/-- An EPR AVS supply. -/
def pdoEprAvs (vmax vmin pdp : Nat) : Nat := 3 * 2 ^ 30 + 2 ^ 28 + vmax * 2 ^ 17 + eprAvsMin vmin * 256 + pdp

/-- An object as offered: its kind as POL.CONTRACT codes it (1 fixed, 2 PPS, 3 AVS), voltage range in mV, current in mA and PDP in W
(0 where the object gives none). -/
structure Obj where
  kind : Nat
  lo : Nat
  hi : Nat
  ma : Nat
  pdp : Nat
  epr : Bool
deriving DecidableEq, Repr

/-- The object that a word holds; none for 0. -/
def objOf (w : Word) : Option Obj :=
  if w = 0 then none
  else if bitsGet w 30 2 = 0 then
    some { kind := 1, lo := bitsGet w 10 10 * 50, hi := bitsGet w 10 10 * 50, ma := bitsGet w 0 10 * 10, pdp := 0, epr := 400 < bitsGet w 10 10 }
  else if bitsGet w 30 2 = 3 then
    match bitsGet w 28 2 with
    | 0 => some { kind := 2, lo := bitsGet w 8 8 * 100, hi := bitsGet w 17 8 * 100, ma := bitsGet w 0 7 * 50, pdp := 0, epr := false }
    | 1 => some { kind := 3, lo := bitsGet w 8 8 * 100, hi := bitsGet w 17 9 * 100, ma := 5000, pdp := bitsGet w 0 8, epr := true }
    | 2 =>
      let hi := if bitsGet w 0 10 = 0 then 15000 else 20000
      some { kind := 3, lo := 9000, hi := hi, ma := max (bitsGet w 10 10) (bitsGet w 0 10) * 10, pdp := 0, epr := false }
    | _ => none
  else none

/-- Current of an object at a voltage in mV, in mA: the 15 V and 20 V fields of an SPR AVS object, PDP over voltage for an EPR AVS
object. -/
def objMa (w : Word) (o : Obj) (mv : Nat) : Nat :=
  if o.kind = 3 then
    if o.epr then min o.ma (o.pdp * 1000000 / max 1 mv)
    else if 15000 < mv then bitsGet w 0 10 * 10 else bitsGet w 10 10 * 10
  else o.ma

/-! ### Offers (R156-R158) -/

/-- An OFFER or SINKCAP template (Table 7.9): kind, vmax and vmin in 100 mV, flags. -/
structure Template where
  kind : Nat
  vmax : Nat
  vmin : Nat
  flags : Nat
deriving DecidableEq, Repr

def templateOf (x : Nat) : Template := { kind := x / 2 ^ 21 % 8, vmax := x / 2 ^ 12 % 512, vmin := x / 8 % 512, flags := x % 8 }

/-- The templates that a collect point gives, by op. -/
def State.templates (s : State) (n : Port) (point op : Nat) : List Template :=
  ((s.collect n point).filter fun a => a.1 = op).map fun a => templateOf a.2

/-- Committed budget in W, never above SRC_PDP_W (R156). -/
def State.pcW (s : State) (n : Port) : Nat := min (s.get (F.POL_BUDGET_pc n) / 10) (s.pol.get n).params.srcPdp

/-- The cable allows 5 A: CABLE_A is 5 and the port sources VCONN (R156). -/
def State.cable5 (s : State) (n : Port) : Bool := (s.pol.get n).cableA = 5 && s.flag (F.POL_STATUS_vconn_src n)

/-- I_lim of R156 in mA. -/
def State.offerLimit (s : State) (n : Port) (capped : Bool) : Nat :=
  let i := (s.pol.get n).params.imax
  if capped || !s.cable5 n then min 3000 i else i

/-- The object of a template, if it is not omitted (R156). -/
def State.offerObj (s : State) (n : Port) (t : Template) : Option Word :=
  let lim := s.offerLimit n (bitOf t.flags 0)
  let pc := s.pcW n
  let p := (s.pol.get n).params
  let at' (v100 : Nat) : Nat := min lim (pc * 10000 / max 1 v100)
  if bitOf t.flags 1 ∧ (s.pol.get n).cableA ≠ 5 then none
  else
    match t.kind with
    | 0 | 1 => let i := at' t.vmax / 10 * 10; if i < p.minOffer then none else some (BitVec.ofNat 32 (pdoFixed t.vmax i))
    | 2 =>
      let i := at' t.vmax / 50 * 50
      if i < p.minOffer then none else some (BitVec.ofNat 32 (pdoPps t.vmax t.vmin i (pc * 10000 / max 1 t.vmax < lim)))
    | 3 =>
      let i15 := at' 150 / 10 * 10
      let i20 := if t.vmax = 150 then 0 else at' 200 / 10 * 10
      let top := if t.vmax = 150 then i15 else i20
      if top < p.minOffer then none else some (BitVec.ofNat 32 (pdoSprAvs i15 i20))
    | _ =>
      let pdp := min (min pc p.srcPdp) 240
      if pdp * 10000 / max 1 t.vmax < p.minOffer then none else some (BitVec.ofNat 32 (pdoEprAvs t.vmax t.vmin pdp))

/-- Insert a template by ascending vmax, after those of equal vmax. -/
def insertByV (t : Template) : List Template → List Template
  | [] => [t]
  | a :: l => if t.vmax < a.vmax then t :: a :: l else a :: insertByV t l

/-- Templates by ascending vmax. -/
def sortByV (l : List Template) : List Template := l.foldl (fun acc t => insertByV t acc) []

/-- Templates without repeats, first kept. -/
def dedupT : List Template → List Template
  | [] => []
  | t :: l => t :: (dedupT l).filter fun a => a ≠ t

/-- SPR templates in the order of R157, fixed 5 V left out, identical ones and every SPR AVS after the first dropped. The first is the first
collected, even where R156 then omits it (DESIGN CHOICE, log 77). -/
def sprOrder (l : List Template) : List Template :=
  let l := dedupT l
  sortByV (l.filter fun t => t.kind = 0 && t.vmax ≠ 50) ++ sortByV (l.filter fun t => t.kind = 2) ++ (l.filter fun t => t.kind = 3).take 1

/-- EPR templates in the order of R157. -/
def eprOrder (l : List Template) : List Template :=
  let l := dedupT l
  sortByV (l.filter fun t => t.kind = 1) ++ (l.filter fun t => t.kind = 4).take 1

/-- The fixed 5 V object with its flags (R156, R158). -/
def State.offer5V (s : State) (n : Port) (l : List Template) : Word :=
  let capped := match l.find? fun t => t.kind = 0 && t.vmax = 50 with | some t => bitOf t.flags 0 | none => false
  let i := min (s.offerLimit n capped) (s.pcW n * 200) / 10 * 10
  let p := s.pol.get n
  let flags := bn (2 ≤ p.role) * 2 ^ 29 + bn (bitOf p.params.pdoFlags 0) * 2 ^ 27 + bn (bitOf p.params.pdoFlags 1) * 2 ^ 25 +
    bn (l.any fun t => t.kind = 1 || t.kind = 4) * 2 ^ 23
  BitVec.ofNat 32 (flags + pdoFixed 50 i)

/-- A list of words filled to `k` with 0. -/
def padTo (k : Nat) (l : List Word) : List Word := l ++ List.replicate (k - l.length) 0

/-- The words of the last delivered offer, 11 positions. -/
def State.offerRegs (s : State) (n : Port) : List Word := (List.range 11).map fun k => BitVec.ofNat 32 (s.get (F.POL_OFFER_pdo n k))

/-- A list of words without the zeros at its end. -/
def trimZeros (l : List Word) : List Word := (l.reverse.dropWhile fun w => w = 0).reverse

/-- The delivered offer, as it is kept while an image loads (Table 7.11): its EPR objects in EPR mode only. -/
def State.offerKept (s : State) (n : Port) : List Word :=
  let l := s.offerRegs n
  if s.flag (F.POL_STATUS_epr_mode n) && (s.pol.get n).offerEpr then l.take 7 ++ trimZeros (l.drop 7) else trimZeros (l.take 7)

/-- The draft of a port (R156-R158): its objects, whether some template was dropped for want of a position (pdo_overflow), and whether an
EPR template was collected. While an image loads a delivered offer stands, and a port without one offers fixed 5 V only (R153). -/
def State.buildDraft (s : State) (n : Port) : List Word × Bool × Bool :=
  let p := s.pol.get n
  let l := if s.loadPolicy n then [] else s.templates n 4 0x10
  if s.loadPolicy n && p.offered then (s.offerKept n, false, p.eprCollected)
  else
    let epr := s.flag (F.POL_STATUS_epr_mode n)
    let useEpr : Bool := epr && p.cableEpr
    let place (order : List Template) : List Word := order.filterMap fun t => s.offerObj n t
    let spr := place (sprOrder l)
    let eprL := if useEpr then place (eprOrder l) else []
    let extra (k : Nat) : Bool := 1 < ((dedupT l).filter fun t => t.kind = k).length
    let many : Bool := 6 < spr.length || 4 < eprL.length || extra 3 || (useEpr && extra 4)
    let head := s.offer5V n l :: spr.take 6
    let objs := if epr then padTo 7 head ++ eprL.take 4 else head
    (objs, many, l.any fun t => t.kind = 1 || t.kind = 4)

/-- The contract in force is still covered by a draft (R159): its object offers its kind, its voltage and its current. -/
def covers (objs : List Word) (c : Contract) : Bool :=
  match objs[c.pos - 1]? with
  | none => false
  | some w =>
    match objOf w with
    | none => false
    | some o => o.kind = c.kind && o.lo ≤ c.mv && c.mv ≤ o.hi && c.ma ≤ objMa w o c.mv

/-! ### Sink capabilities (R161) -/

/-- The sink templates that point 6 collects; as at load_begin while an image loads (R153). -/
def State.sinkRaw (s : State) (n : Port) : List Template :=
  if s.loadPolicy n then (s.pol.get n).sinkOps.map templateOf else s.templates n 6 0x11

/-- Sink templates of point 6, in the order of R157. -/
def State.sinkTemplates (s : State) (n : Port) (epr : Bool) : List Template :=
  let l := s.sinkRaw n
  (sprOrder l).take 6 ++ (if epr then (eprOrder l).take 4 else [])

/-- Sink object of a template: the operating current is SNK_OP_MA; an EPR AVS object carries SNK_PDP_W. -/
def State.sinkObj (s : State) (n : Port) (t : Template) : Word :=
  let p := (s.pol.get n).params
  BitVec.ofNat 32 (match t.kind with
    | 0 | 1 => pdoFixed t.vmax p.snkOp
    | 2 => pdoPps t.vmax t.vmin p.snkOp false
    | 3 => pdoSprAvs p.snkOp (if t.vmax = 150 then 0 else p.snkOp)
    | _ => pdoEprAvs t.vmax t.vmin (min 255 p.snkPdp))

/-- Objects of Sink_Capabilities, or of EPR_Sink_Capabilities. -/
def State.sinkObjs (s : State) (n : Port) (epr : Bool) : List Word :=
  let p := s.pol.get n
  let five := BitVec.ofNat 32 (bn (2 ≤ p.role) * 2 ^ 29 + bn (bitOf p.params.pdoFlags 0) * 2 ^ 27 + bn (bitOf p.params.pdoFlags 1) * 2 ^ 25 +
    pdoFixed 50 p.params.snkOp)
  let l := s.sinkRaw n
  let head := five :: ((sprOrder l).take 6).map (s.sinkObj n)
  if epr then padTo 7 head ++ ((eprOrder l).take 4).map (s.sinkObj n) else head

end Sys2Proof.Machine
end

