-- ==== Sys2Proof/Machine/Policy.lean ====
section
/-! DEFINITION. The operations of the Policy Sequencer (chapters 7 and 8): Atomic Message Sequences, drafts, requests, contracts,
transitions, swaps, Soft Reset and Hard Reset. -/

namespace Sys2Proof.Machine

/-! ### Atomic Message Sequences (R126, R159, R164) -/

/-- The SOP revision is fixed at PD 3.x. -/
def State.pd3 (s : State) (n : Port) : Bool := s.get (F.MSG_STATUS_rev_sop n) = 2

/-- A sequence that the partner started runs. -/
def State.amsOn (s : State) (n : Port) : State := s.set (F.POL_STATUS_ams n) 1

/-- The port starts a sequence of its own: a source in SinkTx levels presents SinkTxNG and waits tSinkTx (R107, R126). -/
def State.amsStart (s : State) (n : Port) : State :=
  let t := s.amsOn n
  if (s.pol.get n).sinkTx && s.sourcing n && !s.flag (F.MSG_STATUS_sinktx_ng n) then
    ((t.present n (.rp 1)).set (F.MSG_STATUS_sinktx_ng n) 1).start .sinkTx n.val (s.ms 18)
  else t

/-- A sequence ends: SinkTxOk is presented again (R107, R126). -/
def State.amsStop (s : State) (n : Port) : State :=
  let t := s.set (F.POL_STATUS_ams n) 0
  if (s.pol.get n).sinkTx && s.sourcing n && s.flag (F.MSG_STATUS_sinktx_ng n) then
    ((t.present n (.rp 2)).set (F.MSG_STATUS_sinktx_ng n) 0).stop .sinkTx n.val
  else t

def State.setPd (s : State) (n : Port) (v : Nat) : State := s.set (F.POL_STATUS_pd n) v
def State.setTypec (s : State) (n : Port) (v : Nat) : State := s.set (F.POL_STATUS_typec n) v

/-- The port is in EPR mode. -/
def State.inEpr (s : State) (n : Port) : Bool := s.flag (F.POL_STATUS_epr_mode n)

/-- tPSTransition (Table 7.2). -/
def State.psTransition (s : State) (n : Port) : Nat := s.ms (if s.inEpr n then 925 else 500)

/-! ### Structured VDM initiations (R194, R195) -/

/-- A structured VDM header (PRESUMED layout): SVID, version 2.1 or 1.0, object position, command type and command. -/
def vdmHdr (svid : Nat) (old : Bool) (pos typ cmd : Nat) : Nat :=
  svid * 65536 + 32768 + (if old then 0 else 1 * 8192 + 1 * 2048) + pos % 8 * 256 + typ % 4 * 64 + cmd % 32

/-- The Phrasebook is being loaded (R201). -/
def State.phbBusy (s : State) : Bool := s.get F.PHB_STATUS_state ≠ 0

/-- The device's Thatin Mode VDO (Table 9.3). -/
def State.thatinVdo (s : State) : Word :=
  BitVec.ofNat 32 (2 ^ 28 + (if s.flag F.THN_CONFIG_v10_only then 0 else 2 ^ 24) + 2 ^ 23 + 2 ^ 22 + s.get F.THN_CONFIG_trk_src_en * 2 ^ 21 +
    s.get F.THN_CONFIG_trk_snk_en * 2 ^ 20 + s.get F.THN_CONFIG_slew_max * 2 ^ 12)

/-- The words of a VDM that the Phrasebook initiates. -/
def State.vdmWords (s : State) (n : Port) (a : VdmAsk) : List Word :=
  let old := s.pd2 n
  let h (svid pos cmd : Nat) : Word := BitVec.ofNat 32 (vdmHdr svid old pos 0 cmd)
  match a.what with
  | 1 | 9 => [h 0xFF00 0 1]
  | 2 => [h 0xFF00 0 2]
  | 3 => [h a.svid 0 3]
  | 4 => [h a.svid a.pos 4]
  | 5 | 7 => [h a.svid a.pos 5]
  | 6 => [h a.svid a.pos 4, s.thatinVdo]
  | _ =>
    let hdr := (a.words.head?.getD 0).toNat
    BitVec.ofNat 32 (hdr / 32768 * 32768 + hdr % 2048 + (if old then 0 else 1 * 8192 + 1 * 2048)) :: a.words.tail

/-- An initiation waits: a sequence or another initiation runs, a draft waits, or the Phrasebook is being loaded (R195, R201). -/
def State.vdmBlocked (s : State) (n : Port) : Bool :=
  s.flag (F.POL_STATUS_ams n) || (s.pol.get n).draft.isSome || s.phbBusy || (s.vdm.get n).ask.isSome

/-- An initiation is sent, on SOP' for the identity of a cable. -/
def State.vdmSend (s : State) (n : Port) (a : VdmAsk) : State :=
  let t := (s.modVdm n fun v => { v with ask := some a, cableTries := if a.what = 9 then v.cableTries + 1 else v.cableTries }).amsStart n
  let t := if 1 ≤ a.what ∧ a.what ≤ 3 then t.set (F.VDM_STATUS_disc n) a.what else t
  t.handover n (if a.what = 9 then 1 else 0) pdVdm (wordsBytes (t.vdmWords n a)) (if a.what = 8 then .hostTx else .vdmAsk)

/-- An initiation is asked for. -/
def State.vdmInitiate (s : State) (n : Port) (a : VdmAsk) : State :=
  if s.vdmBlocked n then s.modVdm n fun v => { v with waiting := v.waiting ++ [a] }
  else s.vdmSend n a

/-- The next waiting initiation is sent. -/
def State.vdmDrain (s : State) (n : Port) : State :=
  match (s.vdm.get n).waiting with
  | a :: l => if s.vdmBlocked n then s else (s.modVdm n fun v => { v with waiting := l }).vdmSend n a
  | [] => s

/-- Discover Identity on SOP' (R198). -/
def State.cableIdentify (s : State) (n : Port) : State :=
  if s.flag (F.POL_STATUS_vconn_src n) then
    (s.modVdm n fun v => { v with cableTries := 0 }).vdmInitiate n { what := 9, svid := 0xFF00, pos := 0 }
  else s

/-- Discovery on SOP starts: only as DFP with an explicit contract (R197). -/
def State.discoveryStart (s : State) (n : Port) : State :=
  if s.flag (F.POL_STATUS_data_role n) && s.flag (F.POL_STATUS_explicit n) then
    (s.modVdm n fun v => { v with discovered := true, svids := [], modesLeft := [], foundVdo := 0 }).vdmInitiate n { what := 1, svid := 0xFF00, pos := 0 }
  else s

/-! ### Drafts (R159) -/

/-- A draft has been handed over and its frame has not begun. -/
def State.draftQueued (s : State) (n : Port) : Bool := (s.msg.get n).queue.any fun m => m.purpose = .caps

/-- Hand an offer over; `own` when the port starts the sequence. -/
def State.offerHand (s : State) (n : Port) (d : Draft) (own : Bool) : State :=
  let t := s.modPol n fun p => { p with draft := some { d with handed := true } }
  let t := if own then t.amsStart n else t.amsOn n
  t.handoverAt n 0 (if d.epr then pdEprSourceCaps else pdSourceCaps) (wordsBytes d.objs) .caps d.epoch

/-- A draft that waits is handed over when no sequence, swap or reset runs and, for a routine draft, a first offer has been delivered and
min_gap_ms has passed since the last one (R159). -/
def State.draftTry (s : State) (n : Port) : State :=
  match (s.pol.get n).draft with
  | some d =>
    let early : Bool := !d.urgent && (!(s.pol.get n).offered || s.running .draftGap n.val)
    if d.handed || s.flag (F.POL_STATUS_ams n) || s.seqOf n ≠ .idle || early then s else s.offerHand n d true
  | none => s

/-- An offer of these objects is the last delivered offer, bit for bit. -/
def State.sameOffer (s : State) (n : Port) (objs : List Word) : Bool :=
  (s.pol.get n).offered && (s.pol.get n).offerEpr = s.inEpr n && s.offerRegs n = padTo 11 objs

/-- An older draft is withdrawn, and the sequence it had not begun is given up. -/
def State.draftDrop (s : State) (n : Port) : State := if s.draftQueued n then (s.withdrawDraft n).amsStop n else s.withdrawDraft n

/-- A draft is built, whatever the last offer: its words, its overflow event and its EPR flag. -/
def State.draftBuild (s : State) (n : Port) : State × List Word :=
  let (objs, many, epr) := s.buildDraft n
  let t := s.modPol n fun p => { p with eprCollected := epr }
  (if many then t.event (F.POL_EVENT_pdo_overflow n) else t, objs)

/-- A draft is made on an occasion of R159, for an attached source port; `now` is host command 1, which bypasses min_gap_ms. -/
def State.draft (s : State) (n : Port) (now : Bool) : State :=
  if s.sourcing n then
    let (t, objs) := s.draftBuild n
    if t.sameOffer n objs then (t.draftDrop n).vdmDrain n
    else
      let urgent : Bool := now || (match (s.pol.get n).cur with | some c => !covers objs c | none => false)
      let t := t.draftDrop n
      (t.modPol n fun p => { p with draft := some { objs := objs, epoch := s.get (F.POL_SEQ_epoch n), epr := s.inEpr n, urgent := urgent, handed := false } }).draftTry n
  else s

/-- Source_Capabilities are sent whatever the last offer: the first of an attach, after Soft Reset or a swap, and as an answer. -/
def State.capsSend (s : State) (n : Port) (own : Bool) : State :=
  let (t, objs) := (s.draftDrop n).draftBuild n
  ((t.setPd n 2).setSeq n .idle).offerHand n { objs := objs, epoch := s.get (F.POL_SEQ_epoch n), epr := s.inEpr n, urgent := true, handed := true } own

/-! ### Sequences of the port's own -/

/-- Floor of a port as a source, in W (R283): the larger of floor_w and 5 V x the Rp current of its point-1 presentation. -/
def State.sourceFloor (s : State) (n : Port) : Nat :=
  max (s.get (F.DRT_PORT_CFG_floor_w n.val)) (match (s.pol.get n).level.val with | 0 => 5 | 1 => 8 | _ => 15)

/-- Floor of a port in W; 0 where its point-1 role is sink. -/
def State.portFloor (s : State) (n : Port) : Nat := if (s.pol.get n).role = 0 then 0 else s.sourceFloor n

/-- The port's floor as a source fits in X - M (R287). -/
def State.floorFits (s : State) (n : Port) : Bool := s.get F.DRT_COMMIT_m + 10 * s.sourceFloor n ≤ s.get F.DRT_POOL_x

/-- EPR_Mode with an action (PRESUMED codes): 1 Enter, 2 Ack, 3 Succeeded, 4 Failed, 5 Exit. -/
def eprWord (action data : Nat) : List Byte := wordsBytes [BitVec.ofNat 32 (action * 2 ^ 24 + data % 256 * 2 ^ 16)]

/-- The message types that open a swap window. -/
def isSwap (ty : Nat) : Bool := [pdPrSwap, pdDrSwap, pdVconnSwap].contains ty

/-- A swap window opens: a port that presents Rd masks the VBUS test (R176). -/
def State.maskOpen (s : State) (n : Port) : State := if s.sourcing n then s else s.set (F.CC_STATUS_vbus_mask n) 1

/-- The mask is cleared at the later of completion and VBUS at 4.0 V (R176). -/
def State.maskDone (s : State) (n : Port) : State :=
  if s.flag (F.CC_STATUS_vbus_present n) then s.set (F.CC_STATUS_vbus_mask n) 0 else s

/-- A request is sent and its answer awaited. -/
def State.ask (s : State) (n : Port) (ty : Nat) (data : List Byte) (why : Purpose) : State :=
  ((s.modPol n fun p => { p with asking := ty, seq := .asked, begun := false }).amsStart n).handover n 0 ty data why

/-- The first message of a swap that the port asks for begins: its window opens (R176). -/
def State.swapBegin (s : State) (n : Port) : State :=
  let p := s.pol.get n
  if p.seq = .asked ∧ isSwap p.asking then ((s.modPol n fun p => { p with begun := true }).setPd n 5).maskOpen n else s

/-- A sequence that the port has asked for, and whose message has not begun, gives way to the partner's (R121; PRESUMED, log 108). -/
def State.askDrop (s : State) (n : Port) : State :=
  let waits (m : Msg) : Bool := m.purpose = .ask && m.sop = 0
  if s.seqOf n = .asked ∧ ((s.msg.get n).queue.any waits) then
    (s.modMsg n fun x => { x with queue := x.queue.filter fun m => !waits m }).modPol n fun p => { p with seq := .idle, asking := 0, new := none }
  else s

/-- Request data object of a contract (PRESUMED layout); `mismatch` sets Capability Mismatch. A current goes into a field of 50 mA rounded down
(DESIGN CHOICE, log 112). -/
def rdoOf (c : Contract) (mismatch : Bool) : Nat :=
  c.pos * 2 ^ 28 + bn mismatch * 2 ^ 26 + 2 ^ 24 +
    (match c.kind with
     | 2 => c.mv / 20 * 512 + c.ma / 50
     | 3 => c.mv / 100 * 4 * 512 + c.ma / 50
     | _ => c.ma / 10 * 1024 + c.ma / 10)

/-- The sink's Request for a contract, EPR_Request with a copy of the object in EPR mode (PRESUMED, R137). -/
def State.requestSend (s : State) (n : Port) (c : Contract) (mismatch own : Bool) : State :=
  let t := s.modPol n fun p => { p with new := some c, asking := pdRequest, seq := .asked }
  let t := if own then t.amsStart n else t.amsOn n
  let rdo := BitVec.ofNat 32 (rdoOf c mismatch)
  if s.inEpr n then
    t.handover n 0 pdEprRequest (wordsBytes [rdo, (((s.pol.get n).sourceKept.getD ((List.range 11).map fun k => BitVec.ofNat 32 (s.get (F.POL_PARTNER_pdo n k))))[c.pos - 1]?.getD 0)]) (if own then .ask else .request)
  else t.handover n 0 pdRequest (wordsBytes [rdo]) (if own then .ask else .request)

/-- Whether a command of Table 7.12 is allowed in the port's present role (R145, R177). -/
def State.cmdAllowed (s : State) (n : Port) (code : Nat) : Bool :=
  let att : Bool := (s.cc.get n).attached && !(s.pol.get n).safeHeld
  let explicit := s.flag (F.POL_STATUS_explicit n)
  match code with
  | 1 => s.sourcing n
  | 2 => explicit && !s.inEpr n && !s.flag (F.CC_CONFIG_src_only n)
  | 3 | 4 => explicit
  | 5 | 6 | 9 => att && s.flag (F.POL_STATUS_pd_partner n)
  | 7 => explicit && !s.sourcing n && !s.inEpr n
  | 8 => s.inEpr n
  | 10 | 11 => att
  | 12 => true
  | 13 | 14 => s.get (F.POL_STATUS_typec n) = 0
  | _ => false

/-- A sequence of the port's own starts: 1 PR_Swap, 2 DR_Swap, 3 VCONN_Swap, 4 Get_Sink_Cap, 5 EPR entry, 6 Get_Source_Cap, 8 EPR exit,
32 the repeat Request of a sink, 33 its EPR_KeepAlive. -/
def State.initiateNow (s : State) (n : Port) (code : Nat) : State :=
  match code with
  | 1 => if s.cmdAllowed n 2 then s.ask n pdPrSwap [] .ask else s
  | 2 => if s.cmdAllowed n 3 then s.ask n pdDrSwap [] .ask else s
  | 3 => if s.cmdAllowed n 4 then s.ask n pdVconnSwap [] .ask else s
  | 4 => if s.cmdAllowed n 5 then s.ask n pdGetSinkCap [] .ask else s
  | 5 =>
    if s.cmdAllowed n 7 then
      ((s.ask n pdEprMode (eprWord 1 (s.pol.get n).params.snkPdp) .eprEnter).setSeq n .eprAsked).setPd n 7
        |>.start .enterEpr n.val (s.ms 500)
    else s
  | 6 => if s.cmdAllowed n 6 then s.ask n pdGetSourceCap [] .ask else s
  | 8 => if s.cmdAllowed n 8 then s.ask n pdEprMode (eprWord 5 0) .eprExit else s
  | 33 => (s.amsStart n).handover n 0 pdExtControl [3, 0] .keepAlive
  | 32 =>
    match (s.pol.get n).cur with
    | some c => if s.sourcing n then s else s.requestSend n c false true
    | none => s
  | _ => s

/-- A sequence is asked for: it waits while another runs. -/
def State.initiate (s : State) (n : Port) (code : Nat) : State :=
  if code = 7 then s.cableIdentify n
  else if s.flag (F.POL_STATUS_ams n) then s.modPol n fun p => { p with todo := p.todo ++ [code] }
  else s.initiateNow n code

/-- The next sequence that waits starts. -/
def State.todoDrain (s : State) (n : Port) : State :=
  match (s.pol.get n).todo with
  | c :: l => (s.modPol n fun p => { p with todo := l }).initiateNow n c
  | [] => s

/-- A sequence ends, and what waited for its end starts: a draft, then the port's own sequences, then a VDM (R159, R195). -/
def State.amsEnd (s : State) (n : Port) : State :=
  let t := ((s.amsStop n).stop .senderResponse n.val).modPol n fun p => { p with seq := .idle, asking := 0 }
  let t := if t.get (F.POL_STATUS_pd n) ≠ 0 then t.setPd n (if t.flag (F.POL_STATUS_explicit n) then 3 else 1) else t
  let t := t.draftTry n
  let t := if t.flag (F.POL_STATUS_ams n) then t else t.todoDrain n
  if t.flag (F.POL_STATUS_ams n) then t else t.vdmDrain n

/-! ### Points 3, 12 and 14 -/

/-- One action of a collect point. -/
def State.act (s : State) (n : Port) (a : Nat × Nat) : State :=
  match a.1 with
  | 0x09 => if a.2 % 2 = 1 then s.vconnOn n else s.vconnOff n
  | 0x20 => s.initiate n (a.2 % 256)
  | 0x28 => s.alert n (a.2 % 256)
  | _ => s

/-- Points 3 and 12: every clause that takes part acts; while an image loads nothing is initiated (Table 7.11). The
conditions of all of them are evaluated before the first acts (DESIGN CHOICE, log 111). -/
def State.actPoint (s : State) (n : Port) (point : Nat) : State :=
  if s.loadPolicy n then s else (s.collect n point).foldl (fun t a => t.act n a) s

/-- Point 14: whether the port arms for FR_Swap (R180). Never reached on a source-only port. -/
def State.point14 (s : State) (n : Port) : State :=
  if s.loadPolicy n || s.sourcing n || s.flag (F.CC_CONFIG_src_only n) || (s.pol.get n).partnerFrs = 0 || (s.pol.get n).cur.isNone then s
  else
    let (t, m) := s.firstMatch n 14 {}
    t.modPol n fun p => { p with frsWanted := match m with | some (0x18, _) => true | _ => false }

/-! ### Contracts (R160-R162, R172) -/

/-- A Request data object (PRESUMED layout): position. -/
def rdoPos (w : Word) : Nat := bitsGet w 28 4

/-- Voltage of a request in mV and its current in mA, by the kind of the object it names. -/
def rdoVI (w : Word) (o : Obj) : Nat × Nat :=
  match o.kind with
  | 2 => (bitsGet w 9 12 * 20, bitsGet w 0 7 * 50)
  | 3 => (bitsGet w 9 12 * 25, bitsGet w 0 7 * 50)
  | _ => (o.lo, bitsGet w 10 10 * 10)

/-- Power of an object in mW: its PDP, or its voltage times its current. -/
def objPower (w : Word) (o : Obj) (mv : Nat) : Nat := if o.epr && o.kind = 3 then o.pdp * 1000 else o.hi * objMa w o mv / 1000

/-- A Request against the objects of an offer: the contract it asks for, or none where it is not valid (R160). -/
def checkRequest (objs : List Word) (rdo : Word) : Option Contract :=
  match objs[rdoPos rdo - 1]? with
  | none => none
  | some w =>
    match objOf w with
    | none => none
    | some o =>
      let (mv, ma) := rdoVI rdo o
      if rdoPos rdo = 0 ∨ objMa w o mv < ma then none
      else if o.kind ≠ 1 ∧ (mv < o.lo ∨ o.hi < mv ∨ objPower w o mv < mv * ma / 1000) then none
      else some { pos := rdoPos rdo, kind := o.kind, epr := o.epr, mv := mv, ma := ma, lo := o.lo, hi := o.hi, pdp := o.pdp }

/-- Power of a contract in mW. -/
def Contract.mw (c : Contract) : Nat := c.mv * c.ma / 1000

/-- A repeat of the contract in force (R213). -/
def State.isRepeat (s : State) (n : Port) (c : Contract) : Bool :=
  match (s.pol.get n).cur with
  | some d => d.pos = c.pos && d.mv = c.mv && d.ma = c.ma && d.epr = c.epr
  | none => false

/-- Tracking is active on a port. -/
def State.tracking (s : State) (n : Port) : Bool := (s.thn.get n).terms.isSome

/-- The keep-alive timer of EPR mode restarts (Table 7.2). -/
def State.keepAliveStart (s : State) (n : Port) : State :=
  if s.inEpr n then s.start .keepAlive n.val (s.ms (if s.sourcing n then 875 else 375)) else s.stop .keepAlive n.val

/-- SinkTx levels are taken up at the first explicit contract under PD 3.x (R107). -/
def State.sinkTxTake (s : State) (n : Port) : State :=
  if s.sourcing n && s.pd3 n && !(s.pol.get n).sinkTx then (s.modPol n fun p => { p with sinkTx := true }).present n (.rp 2) else s

/-- The contract `c` is in force: its registers, its timers and EVENT.contract (R172). -/
def State.contractSet (s : State) (n : Port) (c : Contract) : State :=
  let t := s.modPol n fun p => { p with cur := some c, new := none }
  let t := ((t.set (F.POL_CONTRACT_pos n) c.pos).set (F.POL_CONTRACT_kind n) c.kind).setB (F.POL_CONTRACT_epr n) c.epr
  let t := ((t.set (F.POL_CONTRACT_VI_v n) (c.mv / 20)).set (F.POL_CONTRACT_VI_i n) (c.ma / 10)).set (F.POL_STATUS_explicit n) 1
  let t := ((t.event (F.POL_EVENT_contract n)).setPd n 3).stop .psTransition n.val
  let t := (t.stop .noResponse n.val).keepAliveStart n
  let t := t.clampOff n
  let t := if s.sourcing n then (if c.kind = 2 then t.start .pps n.val (s.ms 13500) else t.stop .pps n.val)
    else if c.kind = 1 then t.stop .reRequest n.val else t.start .reRequest n.val (s.ms 8000)
  (t.sinkTxTake n)

/-- An explicit contract is entered: point 12, point 14 and discovery follow, and the sequence ends (R144, R180, R197). -/
def State.contractEnter (s : State) (n : Port) (c : Contract) : State :=
  let t := (s.contractSet n c).setSeq n .idle
  let t := ((t.amsStop n).actPoint n 12).point14 n
  let t := if (t.vdm.get n).discovered then t else t.discoveryStart n
  if t.flag (F.POL_STATUS_ams n) then t else t.amsEnd n

/-- The source's transition begins when the GoodCRC for its Accept is received (R169). -/
def State.transitionBegin (s : State) (n : Port) : State :=
  let t := ((s.setSeq n .hold).setPd n 4).start .srcTransition n.val (s.ms 30)
  t.start .psTransition n.val (s.psTransition n)

/-- A transition or swap step that hands PS_RDY over. -/
def State.readyHand (s : State) (n : Port) (q : Seqn) (why : Purpose) : State := (s.sendCtl n pdPsRdy why).setSeq n q

/-! ### Requests as source (R160, R213) -/

/-- An answer of Reject or Wait to a Request, after which the PPS contract in force is timed anew (PRESUMED, R137); a request that is not an accepted repeat collapses tracking (R213). -/
def State.requestRefuse (s : State) (n : Port) (wait : Bool) : State :=
  let t := (s.collapse n 1).event (if wait then F.POL_EVENT_request_wait n else F.POL_EVENT_request_rejected n)
  let t := match (s.pol.get n).cur with | some c => if s.sourcing n ∧ c.kind = 2 then t.start .pps n.val (s.ms 13500) else t | none => t
  (t.setSeq n .accepting).sendCtl n (if wait then pdWait else pdReject) .plain

/-- Within a swap window no transition starts: a Request is answered Wait (R176; DEDUCED, log 109). -/
def State.requestInSwap (s : State) (n : Port) (rdo : Word) : State :=
  let t := ((s.set (F.POL_LAST_RDO_rdo n) rdo.toNat).collapse n 1).event (F.POL_EVENT_request_wait n)
  t.sendCtl n pdWait .plain

/-- A Request of a PD partner (R160): not valid, Reject; above P_c, Wait and an urgent draft; otherwise point 5 decides, Accept by default. -/
def State.requestEval (s : State) (n : Port) (rdo : Word) : State :=
  let s := s.askDrop n
  let t := ((s.stop .senderResponse n.val).stop .pps n.val).set (F.POL_LAST_RDO_rdo n) rdo.toNat
  let t := (t.amsOn n).modPol n fun p => { p with partnerEpr := p.partnerEpr || bitOf rdo.toNat 22 }
  let t := if (t.get (F.POL_STATUS_pd n)) = 3 then t else t.setPd n 2
  match checkRequest (if (s.pol.get n).offered then s.offerRegs n else []) rdo with
  | none => t.requestRefuse n (s.loadPolicy n)
  | some c =>
    if s.get (F.POL_BUDGET_pc n) * 100 < c.mw then (t.requestRefuse n true).draft n true
    else
      let r : ReqVars := { pos := c.pos, v := c.mv / 100, i := c.ma / 50, w := c.mw / 1000 }
      let (u, m) := if s.loadPolicy n then (t, none) else t.firstMatch n 5 r
      match m with
      | some (0x19, _) => u.requestRefuse n false
      | some (0x1A, _) => u.requestRefuse n true
      | _ =>
        if s.tracking n && s.isRepeat n c then (u.setSeq n .repeating).sendCtl n pdAccept .acceptRepeat
        else
          ((u.collapse n 1).modPol n fun p => { p with new := some c, seq := .accepting }).sendCtl n pdAccept .acceptRequest

/-! ### Requests as sink (R161) -/

/-- A candidate of point 7: the contract it would make, and its voltage. -/
def State.candidateOf (s : State) (n : Port) (pos : Nat) (w : Word) (temps : List Template) : Option Contract :=
  match objOf w with
  | none => none
  | some o =>
    let p := (s.pol.get n).params
    let l := min p.snkPdp (s.get (F.DRT_PORT_CFG_imp_w n.val))
    let fits (t : Template) : Option Nat :=
      match o.kind, t.kind with
      | 1, 0 | 1, 1 => if t.vmax * 100 = o.hi then some o.hi else none
      | 2, 2 => if max o.lo (t.vmin * 100) ≤ min o.hi (t.vmax * 100) then some (min o.hi (t.vmax * 100)) else none
      | 3, 3 | 3, 4 =>
        if (o.epr = (t.kind = 4)) ∧ max o.lo (t.vmin * 100) ≤ min o.hi (t.vmax * 100) then some (min o.hi (t.vmax * 100)) else none
      | _, _ => none
    let best := temps.foldl (fun (b : Nat) t => match fits t with | some v => max b v | none => b) 0
    if best = 0 then none
    else
      let ma := min p.snkOp (min (objMa w o best) (l * 1000000 / best / 10 * 10))
      some { pos := pos, kind := o.kind, epr := o.epr, mv := best, ma := ma, lo := o.lo, hi := o.hi, pdp := o.pdp }

/-- The object of greatest V x I, ties to the lower voltage. -/
def bestPower : List Contract → Option Contract
  | [] => none
  | c :: l =>
    match bestPower l with
    | none => some c
    | some d => if d.mw < c.mw ∨ (d.mw = c.mw ∧ c.mv ≤ d.mv) then some c else some d

/-- The partner's last capabilities. -/
def State.partnerRegs (s : State) (n : Port) : List Word := (List.range 11).map fun k => BitVec.ofNat 32 (s.get (F.POL_PARTNER_pdo n k))

/-- The partner's last source capabilities. -/
def State.partnerSource (s : State) (n : Port) : List Word := (s.pol.get n).sourceKept.getD (s.partnerRegs n)

/-- PARTNER0-10 take the objects received (R166). -/
def State.partnerShow (s : State) (n : Port) (objs : List Word) : State :=
  (List.range 11).foldl (fun t k => t.set (F.POL_PARTNER_pdo n k) ((padTo 11 objs)[k]?.getD 0).toNat) s

/-- The contract a sink asks for (R161), and whether no object matches. Of two objects at the same highest voltage the one at the lower position is
taken (DESIGN CHOICE, log 112). -/
def State.select (s : State) (n : Port) (rule : Option Nat) : Contract × Bool :=
  let col := s.sinkRaw n
  let temps := if ¬ col.isEmpty then s.sinkTemplates n (s.inEpr n) ++ col.filter (fun t => t.kind = 0 && t.vmax = 50)
    else [{ kind := 0, vmax := 50, vmin := 0, flags := 0 }]
  let cands := ((s.partnerSource n).zipIdx.filterMap fun a => s.candidateOf n (a.2 + 1) a.1 temps)
  let pick : Option Contract :=
    match rule with
    | some x =>
      match x / 65536 % 256 with
      | 1 =>
        (cands.filter fun c => c.mv ≤ x / 16 % 4096 * 100).foldl
          (fun (b : Option Contract) c => match b with | some d => if d.mv < c.mv then some c else b | none => some c) none
      | 2 => cands.find? fun c => c.pos = x % 16
      | _ => bestPower cands
    | none => bestPower cands
  match pick with
  | some c => (c, false)
  | none =>
    let five := match (s.partnerSource n).head? with | some w => bitsGet w 0 10 * 10 | none => 0
    ({ pos := 1, kind := 1, epr := false, mv := 5000, ma := min (s.pol.get n).params.snkOp five, lo := 5000, hi := 5000, pdp := 0 }, true)

/-- The sink's choice is made at point 7 and requested; `own` when the sink itself starts the sequence. -/
def State.sinkRequest (s : State) (n : Port) (own : Bool) : State :=
  let (t, m) := if s.loadPolicy n then (s, none) else s.firstMatch n 7 {}
  let (c, mis) := t.select n (match m with | some (_, x) => some x | none => none)
  (t.setPd n 2).requestSend n c mis own

/-- Received source capabilities are kept (R166). -/
def State.partnerStore (s : State) (n : Port) (objs : List Word) : State :=
  (s.partnerShow n objs).modPol n fun p => { p with partnerCaps := true, sourceKept := none, partnerEpr := match objs.head? with | some w => bitOf w.toNat 23 | none => p.partnerEpr }

/-! ### Soft Reset (R125, R184, R187) -/

/-- The port is in the window of a power-role swap. -/
def State.inPrSwap (s : State) (n : Port) : Bool :=
  [Seqn.prHold, .prDescent, .prReady, .prWaitOff, .prRaise, .prReadySent].contains (s.seqOf n)

/-- A swap has been asked for or is being accepted: its window is open, and nothing moves yet (R176). -/
def State.swapOpen (s : State) (n : Port) : Bool :=
  (s.seqOf n = .asked && (s.pol.get n).begun || s.seqOf n = .accepting) && isSwap (s.pol.get n).asking

/-- The port is in the window of a power-role swap, from its first message on (R179). -/
def State.prWindow (s : State) (n : Port) : Bool := s.inPrSwap n || s.swapOpen n && (s.pol.get n).asking = pdPrSwap

/-- The port is in a fast role swap. -/
def State.inFrSwap (s : State) (n : Port) : Bool :=
  [Seqn.frSignal, .frSource, .frAsked, .frWaitReady, .frReadySent].contains (s.seqOf n)

/-- The port is in a swap window. -/
def State.inSwap (s : State) (n : Port) : Bool :=
  s.inPrSwap n || s.inFrSwap n || [Seqn.vcnWait, .vcnClose, .vcnReadySent].contains (s.seqOf n) || s.swapOpen n

/-- A transition runs between the Accept and the PS_RDY. -/
def State.inTransition (s : State) (n : Port) : Bool := [Seqn.hold, .ramp, .readySent, .snkTransition].contains (s.seqOf n)

/-- An initiation that awaits its answer ends with a Soft_Reset; a host VDM among them has failed (R202). -/
def State.vdmAskDrop (s : State) (n : Port) : State :=
  let t := (s.modVdm n fun v => { v with ask := none }).stop .vdmResponse n.val
  t.hostLost n ((s.vdm.get n).ask.any fun a => a.what = 8)

/-- A swap that has not completed is given up by a Soft_Reset: its mask, its timer and its place in POL.STATUS end (R176). -/
def State.swapGiveUp (s : State) (n : Port) : State :=
  if s.inSwap n then ((s.maskDone n).stop .vconnSwap n.val).setPd n (if s.flag (F.POL_STATUS_explicit n) then 3 else 1) else s

/-- After a Soft_Reset exchange: point 4 as source, point 7 as sink, which waits for capabilities. -/
def State.softResetDone (s : State) (n : Port) : State :=
  let t := ((s.amsStop n).modPol n fun p => { p with seq := .idle, asking := 0, new := none }).vdmAskDrop n
  if s.sourcing n then t.capsSend n true else (t.setPd n 1).start .sinkWaitCap n.val (s.ms 465)

/-- A Soft_Reset is sent on SOP; in a transition Hard Reset takes its place (R187). -/
def State.softResetSend (s : State) (n : Port) : State :=
  if s.inTransition n then s.hardResetRequest n
  else
    let t := ((s.swapGiveUp n).collapse n 1).stop .senderResponse n.val
    (t.ask n pdSoftReset [] .softReset).setSeq n .softReset

/-! ### Swaps (R175-R183) -/

/-- Completion of a swap: the role epoch advances and swap_done is set (R175). -/
def State.swapDone (s : State) (n : Port) : State := (s.advanceEpoch n).event (F.POL_EVENT_swap_done n)

/-- PR_Swap starts once its Accept is acknowledged (Table 8.4, R178). -/
def State.prStart (s : State) (n : Port) : State :=
  let t := (s.setPd n 5).modPol n fun p => { p with asking := 0, wait0V := false }
  if s.sourcing n then (t.setSeq n .prHold).start .srcTransition n.val (s.ms 30)
  else (((t.stageOff n).set (F.CC_STATUS_vbus_mask n) 1).setSeq n .prWaitOff).start .swapPs n.val (s.ms 835)

/-- The Thatin reference is driven on Pn_SBU1 (R205): by the master, its switch closed, outside every swap window. -/
def State.refDrive (s : State) (n : Port) : Bool :=
  s.bit F.THN_STATUS_entered n.val && s.flag (F.THN_PORT_STATUS_master n.val) && s.flag (F.CC_SBU_STATUS_sbu1_conn n) && !s.inSwap n

/-- The reference is present on Pn_SBU1 of a slave port (R205): certain while the time base follows it, otherwise a value that no command
brings (R218). -/
def State.refSeen (s : State) (n : Port) : Bool :=
  s.bit F.THN_STATUS_entered n.val && !s.flag (F.THN_PORT_STATUS_master n.val) && s.flag (F.CC_SBU_STATUS_sbu1_conn n) &&
    ((s.flag F.TB_STATUS_qualified && s.get F.TB_CONFIG_ref_sel = 1 && s.get F.TB_CONFIG_ref_port = n.val) ||
      Config.partnerRef n.val s.tbase.toNat)

/-- The Thatin master follows the power role at completion (R205). -/
def State.thatinRole (s : State) (n : Port) : State :=
  if s.bit F.THN_STATUS_entered n.val then
    s.setB (F.THN_PORT_STATUS_master n.val) (s.flag (F.POL_STATUS_power_role n))
  else s

/-- The attach type of a port that has become source: powered cable when the other pin shows Ra (Table 5.3). -/
def State.sourceType (s : State) (n : Port) : Nat :=
  let o : Bool := s.flag (F.CC_STATUS_orient n)
  if s.pinLvl n (!o) = 1 ∨ s.isVconnPin n (!o) then 2 else 1

/-- A source has become sink (Table 8.4 step 5). -/
def State.becomeSink (s : State) (n : Port) : State :=
  let t := (s.contractEnd n).set (F.POL_STATUS_power_role n) 0
  let t := ((t.set (F.CC_STATUS_attach n) 6).set (F.STG_STATUS_dir n) 1).setTypec n 5
  let t := ((t.modPol n fun p => { p with settledSource := false, offered := false, waitCaps := true }).swapDone n).thatinRole n
  let t := ((t.stop .swapPs n.val).setSeq n .idle).setPd n 1
  let t := (t.closePath n true).start .rpLevel n.val (t.ms (t.get (F.CC_DEBOUNCE_detach_ms n)))
  if t.flag (F.CC_STATUS_vbus_present n) then
    ((t.set (F.CC_STATUS_vbus_mask n) 0).stageRun n true).start .sinkWaitCap n.val (s.ms 465)
  else t

/-- A sink has become source (R178, R181). -/
def State.becomeSource (s : State) (n : Port) : State :=
  let t := (s.contractEnd n).set (F.POL_STATUS_power_role n) 1
  let t := ((t.set (F.CC_STATUS_attach n) (s.sourceType n)).rpLevelClear n).setTypec n 6
  let t := ((t.modPol n fun p => { p with settledSource := true, offered := false, waitCaps := false }).swapDone n).thatinRole n
  let t := (((t.maskDone n).stop .swapPs n.val).setSeq n .idle).setPd n 1
  (t.set (F.FND_STATUS_dir n) 0).start .swapStart n.val (s.ms 20)

/-- DR_Swap completes (R175, R183): the data role changes, a port that has become UFP gives its initiations up, and as DFP discovery is
due again. -/
def State.drDone (s : State) (n : Port) : State :=
  let dfp := !s.flag (F.POL_STATUS_data_role n)
  let lost : Bool := (s.vdm.get n).waiting.any (fun a => a.what = 8) || (!dfp && (s.vdm.get n).hostOpen)
  let t := (s.setB (F.POL_STATUS_data_role n) dfp).modPol n fun p => { p with settledDfp := dfp }
  let t := (t.swapDone n).modVdm n fun v => { v with discovered := false, ask := if dfp then v.ask else none, waiting := [] }
  let t := ((t.hostLost n lost).maskDone n).amsEnd n
  if dfp then t.discoveryStart n else t

/-- VCONN_Swap completes (R175). -/
def State.vcnDone (s : State) (n : Port) : State :=
  let t := (s.stop .vconnSwap n.val).modPol n fun p => { p with settledVconn := s.flag (F.POL_STATUS_vconn_src n) }
  ((t.swapDone n).maskDone n).amsEnd n

/-- VCONN_Swap starts once its Accept is acknowledged (R182). -/
def State.vcnStart (s : State) (n : Port) : State :=
  let t := (s.setPd n 5).modPol n fun p => { p with asking := 0 }
  if s.flag (F.POL_STATUS_vconn_src n) then (t.setSeq n .vcnWait).start .vconnSwap n.val (s.ms 150)
  else
    let u := t.vconnOn n
    if u.flag (F.CC_STATUS_vconn_on n) then u.setSeq n .vcnClose else u.hardResetRequest n

/-! ### Point 13 and Hard Reset (R144, R184-R186, R190, R191) -/

/-- Type-C operation without PD. -/
def State.noPdOperation (s : State) (n : Port) : State := ((s.modPol n fun p => { p with noPd := true }).amsEnd n).setPd n 0

/-- Point 13. -/
def State.point13 (s : State) (n : Port) : State :=
  let t := (s.event (F.POL_EVENT_no_response n)).stop .senderResponse n.val
  let (t, m) := if s.loadPolicy n then (t, none) else t.firstMatch n 13 {}
  match m with
  | some (0x29, _) => t.hardResetRequest n
  | some (0x2A, _) => t.errorRecovery n
  | _ =>
    if (s.pol.get n).hardResets < 2 then t.hardResetRequest n
    else if s.flag (F.POL_STATUS_pd_partner n) then t.errorRecovery n
    else t.noPdOperation n

/-- In a swap window the port returns to its settled roles, presentation included (R190). -/
def State.settleRoles (s : State) (n : Port) : State :=
  let p := s.pol.get n
  if s.inPrSwap n ∨ s.inFrSwap n then
    let t := (s.setB (F.POL_STATUS_power_role n) p.settledSource).setB (F.STG_STATUS_dir n) (!p.settledSource)
    let t := t.setTypec n (if p.settledSource then 6 else 5)
    if p.settledSource then
      let t := if s.get (F.CC_STATUS_attach n) = 6 then (t.set (F.CC_STATUS_attach n) (s.sourceType n)).rpLevelClear n else t
      (t.set (F.CC_STATUS_vbus_mask n) 0).present n (.rp p.level) else t.present n .rd
  else s

/-- A Hard Reset takes place, of kind 1 sent or 2 received (Tables 8.6 and 8.7, R186): step 1. -/
def State.hardResetStart (s : State) (n : Port) (kind : Nat) : State :=
  let t := (((s.settleRoles n).collapse n 2).thatinExit n).authDrop n
  let t := (((t.event (F.POL_EVENT_hard_reset n)).set F.DEV_RESET_CAUSE_cause 5).advanceEpoch n).idReset n [0, 1, 2]
  let t := (t.txSilence n).assemblyEnd n
  let t := ((t.dropQueue n fun _ => true).revsClear n [0, 1, 2]).policyTimersStop n
  let src := t.flag (F.POL_STATUS_power_role n)
  let t := (((t.contractEnd n).vdmEnd n).vconnOff n).stop .cableReset n.val
  let t := (t.setB (F.POL_STATUS_data_role n) src).modPol n fun p => { p with
    settledDfp := src, settledVconn := false, offered := false, partnerCaps := false, waitCaps := false, fell0V := false, wait0V := false,
    hrKind := kind, frsDue := false }
  let t := (t.setPd n 6).start .noResponse n.val (s.ms 5000)
  if src then
    let t := if (s.pol.get n).sinkTx then t.present n (.rp (s.pol.get n).level) else t
    (t.setSeq n .hrHold).start .hardReset n.val (s.ms 30)
  else ((t.stageOff n).set (F.CC_STATUS_vbus_mask n) 1).setSeq n .hrSink

/-- The sequence of a Hard Reset runs. -/
def hardSeq (q : Seqn) : Bool := [Seqn.hrHold, .hrDescent, .hrRecover, .hrRaise, .hrSink].contains q

/-- A Hard Reset is sent (kind 1) or received (kind 2): the sequence that a request of the port's own had interrupted counts (R190). One sent
and one received in the same window, while tNoResponse runs, are one Hard Reset, which goes on (R191; DEDUCED, log 110). -/
def State.hardResetBegin (s : State) (n : Port) (kind : Nat) : State :=
  let p := s.pol.get n
  let t := if p.seq = .hrSend then s.setSeq n p.seqWas else s
  if hardSeq (t.seqOf n) ∧ p.hrKind + kind = 3 ∧ s.running .noResponse n.val then
    (t.modPol n fun q => { q with hrKind := 3 }).modMsg n fun m => { m with signal := .empty }
  else t.hardResetStart n kind

/-- A received Hard Reset (R125, R191): the port's own request that has not begun is not sent. -/
def State.hardResetReceived (s : State) (n : Port) : State := if (s.cc.get n).attached then s.hardResetBegin n 2 else s

/-! ### Point 1, enable and disable (R144, R145, R189) -/

/-- The unattached presentation is taken up: point 1, or the hold of a Flue port safe (R368). -/
def State.reachPoint1 (s : State) (n : Port) : State :=
  let t := s.setSeq n .idle
  if (s.pol.get n).safeHeld then
    if s.flag (F.CC_CONFIG_src_only n) then (t.presentNow n .opened).setTypec n 13 else (t.presentNow n .rd).setTypec n 1
  else
    let t := t.point1 n
    let t := (t.modPol n fun p => { p with trying := 0 }).present n (t.point1Pres n)
    t.setTypec n (if (t.pol.get n).role = 0 then 1 else 2)

/-- The port is disabled (command 12): Open, path open, admission lost, Lockout left (R287, R318, R336). -/
def State.disablePort (s : State) (n : Port) : State :=
  let t := (((s.collapse n 2).thatinExit n).authDrop n).policyTimersStop n
  let t := ((t.txSilence n).rxStop n).modMsg n fun m => { m with queue := [] }
  let t := ((((t.stop .hardReset n.val).stop .srcRecover n.val).stop .abortWait n.val).stop .errorRecovery n.val).stop .signal n.val
  let t := t.stop .cableReset n.val
  let t := (((t.vconnOff n).present n .opened).unattach n).set (F.CC_STATUS_vbus_mask n) 0
  let t := (((t.stageOff n).openPath n).leaveLockout n).loseAdmission n
  let t := ((t.contractEnd n).revsClear n [0, 1, 2]).vdmEnd n
  let t := t.modPol n fun p => { PolPort.empty with params := p.params, role := p.role, level := p.level, safeHeld := p.safeHeld }
  (((t.set (F.POL_STATUS_pd n) 0).set (F.POL_STATUS_pd_partner n) 0).setTypec n 0).ownRelease n

/-- The port is enabled (command 13): points 0 and 1; Fender owns its comparators again (R336). -/
def State.enablePort (s : State) (n : Port) : State := ((s.point0 n).reachPoint1 n).ownTake n

/-! ### Attach (R92, R137, R144) -/

/-- The policy registers of a new attach. -/
def State.attachRoles (s : State) (n : Port) (source dfp : Bool) (typec : Nat) : State :=
  let t := ((s.setB (F.POL_STATUS_power_role n) source).setB (F.POL_STATUS_data_role n) dfp).setTypec n typec
  let t := (t.setB (F.STG_STATUS_dir n) (!source)).modPol n fun p => { p with
    settledSource := source, settledDfp := dfp, settledVconn := false, trying := 0, hardResets := 0, capsCount := 0, cableA := 0,
    cableEpr := false, partnerEpr := false, partnerFrs := 0, offered := false, partnerCaps := false, cableFails := 0, cableSeen := false,
    hrKind := 0, frsDue := false, noPd := false, seq := .idle, asking := 0, waitCaps := false, todo := [] }
  ((t.set (F.POL_STATUS_pd_partner n) 0).stop .tryTimer n.val).stop .tryTimeout n.val

/-- Attach as source: the path and the stage are ordered, point 3 acts, and tTypeCSendSourceCap starts. -/
def State.attachSource (s : State) (n : Port) : State :=
  let t := ((s.attachRoles n true true 6).closePath n false).stageRun n false
  ((t.setPd n 1).actPoint n 3).start .sourceCap n.val (s.ms 150)

/-- Attach as sink: the path and the stage are ordered, and tSinkWaitCap starts. -/
def State.attachSink (s : State) (n : Port) : State :=
  let t := ((s.attachRoles n false false 5).closePath n true).stageRun n true
  ((t.setPd n 1).modPol n fun p => { p with waitCaps := true }).start .sinkWaitCap n.val (s.ms 465)

/-- An accessory attach: point 2 decides whether a source gives vSafe5V (R144); no VBUS by default and while an image loads. -/
def State.attachAccessory (s : State) (n : Port) (type : Nat) : State :=
  let t := s.attachRoles n (type ≠ 7) (type ≠ 7) (if type = 4 then 11 else 12)
  let (t, m) := if s.loadPolicy n then (t, none) else t.firstMatch n 2 {}
  match m with
  | some (0x0A, x) => if x % 2 = 1 ∧ type ≠ 7 then (t.closePath n false).stageRun n false else t
  | _ => t

/-- A Try state is entered (R137, Table 7.2): the attach just latched is not taken, and the other role is presented. Try.SRC (1), Try.SNK (3)
and TryWait.SRC (4) run tDRPTry, Try.SRC tTryTimeout too; TryWait.SNK (2) stands until both pins have been open. -/
def State.tryEnter (s : State) (n : Port) (phase typec : Nat) (p : Pres) : State :=
  let t := ((s.unattach n).stop .tryTimer n.val).stop .tryTimeout n.val
  let t := ((t.modPol n fun q => { q with trying := phase }).present n p).setTypec n typec
  let t := if phase = 2 then t else t.start .tryTimer n.val (s.ms 110)
  if phase = 1 then t.start .tryTimeout n.val (s.ms 700) else t

/-- An attach report is taken (R93, R137): point 0, then the state of the attach type. A port held by a port safe stays unattached. -/
def State.attachTake (s : State) (n : Port) (type : Nat) : State :=
  if (s.pol.get n).safeHeld || s.get (F.POL_STATUS_typec n) = 0 then s
  else
    let t := s.point0 n
    let p := t.pol.get n
    match type with
    | 1 | 2 =>
      if p.role = 4 ∧ p.trying = 0 then t.tryEnter n 3 9 .rd else t.attachSource n
    | 6 =>
      if p.role = 3 ∧ p.trying = 0 then t.tryEnter n 1 7 (.rp p.level) else t.attachSink n
    | 4 | 5 | 7 => t.attachAccessory n type
    | _ => t

/-- Rd stands on exactly one pin of a port that presents Rp, or Rp on exactly one of a port that presents Rd. -/
def State.partnerSeen (s : State) (n : Port) : Bool := [1, 2, 6].contains (s.candidate n)

/-- Try.SRC ends in TryWait.SNK where no Rd has been detected after tDRPTry and VBUS is within vSafe0V (R137, Type-C 2.3). -/
def State.tryOver (s : State) (n : Port) : State :=
  if (s.pol.get n).trying = 1 ∧ ¬ s.running .tryTimer n.val ∧ ¬ s.partnerSeen n ∧ s.vbusMv n ≤ 800 then s.tryEnter n 2 8 .rd else s

/-- The timer of a Try state expires (R137, Type-C 2.3): in Try.SRC and TryWait.SRC tDRPTry without a partner seen, which one still in its
debounce puts off; in TryWait.SNK tPDDebounce with both pins open; in Try.SNK the monitoring of Rp begins after tDRPTry. -/
def State.tryExpiry (s : State) (n : Port) : State :=
  let t := s.stop .tryTimer n.val
  match (s.pol.get n).trying with
  | 1 => t.tryOver n
  | 2 => if s.pinLvl n false = 4 ∧ s.pinLvl n true = 4 then t.reachPoint1 n else t
  | 3 => t.ccDebounce n
  | 4 => if s.partnerSeen n then t.start .tryTimer n.val (s.ms 15) else t.reachPoint1 n
  | _ => t

/-- tTryTimeout without Rd ends Try.SRC, and tTryCCDebounce without Rp ends Try.SNK. -/
def State.tryTimeoutTake (s : State) (n : Port) : State :=
  let p := s.pol.get n
  let t := s.stop .tryTimeout n.val
  match p.trying with
  | 1 => if s.partnerSeen n then t.start .tryTimeout n.val (s.ms 15) else t.tryEnter n 2 8 .rd
  | 3 => if s.partnerSeen n then t else t.tryEnter n 4 10 (.rp p.level)
  | _ => t

/-- A detach report is taken (R94, R144, R323): point 0, and point 1 once a sourcing port's discharge has ended. -/
def State.detachTake (s : State) (n : Port) : State :=
  if s.get (F.POL_STATUS_typec n) = 0 then s
  else
    let t := ((s.set (F.POL_STATUS_pd n) 0).set (F.POL_STATUS_pd_partner n) 0).set (F.POL_STATUS_power_role n) 0
    let t := (t.set (F.POL_STATUS_data_role n) 0).modPol n fun p => { p with
      seq := .idle, offered := false, cableA := 0, cableEpr := false, partnerEpr := false, hardResets := 0 }
    let t := t.point0 n
    if (s.fnd.get n).detaching ∧ s.flag (F.FND_STATUS_dschg n) then t else (t.modFnd n fun f => { f with detaching := false }).reachPoint1 n

end Sys2Proof.Machine
end

