-- ==== Sys2Proof/Machine/Operands.lean ====
section
/-! DEFINITION. Operand helpers that several families share: codes of the housekeeping converter (Table 20.7), limits of a written
field, and the bytes that a read returns. -/

namespace Sys2Proof.Machine

/-- A die temperature code in m°C (channel 47: 0.125 K steps from -273.15 °C). -/
def tjMilli (code : Nat) : Int := (code * 125 : Nat) - 273150

/-- Die temperature as the registers code it: Tj + 40 °C, within a byte. -/
def tjByte (code : Nat) : Nat := (clampInt 0 255 (tjMilli code / 1000 + 40)).toNat

/-- VSYS in mV (channel 39: 1.5 mV steps). -/
def State.vsysMv (s : State) : Nat := s.adc 39 * 3 / 2

/-- Every path of every port is Open. -/
def State.pathsOpen (s : State) : Bool := (List.finRange 8).all fun n => s.get (F.FND_STATUS_state n) = 0

/-! ### One hearth's copy of a device-wide register (R16) -/

/-- Write a device-wide field in the copies of the hearths listed. -/
def State.setIn (s : State) (hs : List Hth) (f : Field) (v : Nat) : State := hs.foldl (fun t h => t.set (f.inHearth h) v) s

/-- Advance a device-wide counter in the copies of the hearths listed. -/
def State.bumpIn (s : State) (hs : List Hth) (f : Field) : State := hs.foldl (fun t h => t.bump (f.inHearth h)) s

/-- An event of a device-wide page in the hearths listed; one report (access as Table 17.6). -/
def State.eventIn (s : State) (hs : List Hth) (f : Field) (access : Nat) : State :=
  (s.setIn hs f 1).report (eventSource (pageOf f.addr) f.lo) (pageOf f.addr) f.lo (s.master f access) access
    (some (32 * pageOf f.addr + f.lo))

/-- Bytes that a read returns on the bus. -/
def State.returnBytes (s : State) (l : List Byte) : State := { s with pins := { s.pins with out := l } }

/-- A word that a read returns, least significant byte first (R8). -/
def State.returnWord (s : State) (w : Word) : State := s.returnBytes (wordBytes w)

/-! ### Configuration writes (R10, R303, R331) -/

/-- A field of a configuration register with its range, and whether 0 is a value of its own. -/
structure CfgField where
  f : Field
  lo : Nat
  hi : Nat
  zero : Bool
deriving DecidableEq, Repr

/-- The value a write leaves in a field: 0 leaves it unchanged where 0 has no meaning. -/
def State.cfgValue (s : State) (v : Word) (c : CfgField) : Nat :=
  let x := bitsGet v c.f.lo c.f.width
  if c.zero then x else keep0 x (s.get c.f)

/-- Every field of a written value is in range. -/
def cfgFits (v : Word) (l : List CfgField) : Bool :=
  l.all fun c =>
    let x := bitsGet v c.f.lo c.f.width
    (x = 0) || (c.lo ≤ x && x ≤ c.hi)

/-- A configuration write: with a field out of range, or `ok` false, it is not acted on in any field and `refused` is set. -/
def State.cfgWrite (s : State) (l : List CfgField) (refused : Field) (ok : Bool) (v : Word) : State :=
  if cfgFits v l && ok then l.foldl (fun t c => t.set c.f (s.cfgValue v c)) s else s.eventHost refused

end Sys2Proof.Machine
end

