-- ==== Sys2Proof/Machine/Otp.lean ====
section
/-! DEFINITION. The OTP Store (chapter 18): the check code, sensing at two margins, regions and seals, deliveries, and commands. -/

namespace Sys2Proof.Machine

/-! ### The check code (R459) -/

/-- Positions of d0-d31: the numbers 1 to 38 that are no power of two, ascending. -/
def eccDataPos : List Nat := (List.range 39).filter fun p => ! [0, 1, 2, 4, 8, 16, 32].contains p

/-- Check bit ck of 32 data bits, for k from 0 to 5. -/
def eccCheck (d : Word) (k : Nat) : Bool :=
  (eccDataPos.zipIdx).foldl (fun a p => if bitOf p.1 k then a ^^ d.getLsbD p.2 else a) false

/-- c0-c5 of 32 data bits, as a number. -/
def eccSix (d : Word) : Nat := (List.range 6).foldl (fun a k => a + bn (eccCheck d k) * 2 ^ k) 0

/-- Parity of a number's low 39 bits. -/
def parity39 (v : Nat) : Bool := (List.range 39).foldl (fun a i => a ^^ bitOf v i) false

/-- The codeword of 32 data bits: d31-d0 in bits 31-0, c6-c0 in bits 38-32. -/
def otpCodeword (d : Word) : BitVec 39 :=
  let v := d.toNat + eccSix d * 2 ^ 32
  BitVec.ofNat 39 (v + bn (parity39 v) * 2 ^ 38)

def otpData (w : BitVec 39) : Word := BitVec.ofNat 32 w.toNat
def otpEcc (w : BitVec 39) : Nat := w.toNat / 2 ^ 32

/-- The bit of a codeword that stands at a position 1-38. -/
def eccBitAt (p : Nat) : Nat :=
  match [1, 2, 4, 8, 16, 32].findIdx? fun q => q = p with
  | some k => 32 + k
  | none => (eccDataPos.findIdx? fun q => q = p).getD 0

/-- A read of a word against the code: a valid codeword, one corrected bit, or uncorrectable. -/
inductive OtpRead where
  | valid (w : BitVec 39)
  | corrected (w : BitVec 39)
  | bad
deriving DecidableEq, Repr

/-- The table of R459: syndrome against parity. -/
def otpDecode (w : BitVec 39) : OtpRead :=
  let s := Nat.xor (otpEcc w % 64) (eccSix (otpData w))
  let q := parity39 w.toNat
  if s = 0 then (if q then .corrected (w ^^^ BitVec.ofNat 39 (2 ^ 38)) else .valid w)
  else if q ∧ s ≤ 38 then .corrected (w ^^^ BitVec.ofNat 39 (2 ^ eccBitAt s))
  else .bad

/-- The codeword a read corrects to. -/
def OtpReadWord (r : OtpRead) : Option (BitVec 39) :=
  match r with
  | .valid w => some w
  | .corrected w => some w
  | .bad => none

/-! ### Sensing (R384-R386) -/

/-- A cell at normal and at tight margin. -/
def State.otpCell (s : State) (flips : List OtpFlip) (tight : Bool) (c : Nat) : BitVec 39 :=
  let n := sparseRead (fun _ => 0) s.otp.cells c
  let w := if tight then n &&& ~~~(sparseRead (fun _ => 0) s.otp.weak c) else n
  flips.foldl (fun w f => if f.word = c ∧ (tight ∨ ¬ f.tight) then w ^^^ BitVec.ofNat 39 (2 ^ (f.bit % 39)) else w) w

/-- Bit i of a triplicate of `width` bits, by majority. -/
def majority3 (w : BitVec 39) (width i : Nat) : Bool :=
  2 ≤ bn (w.getLsbD i) + bn (w.getLsbD (width + i)) + bn (w.getLsbD (2 * width + i))

/-- A triplicate as a number. -/
def majorityWord (w : BitVec 39) (width : Nat) : Nat := (List.range width).foldl (fun a i => a + bn (majority3 w width i) * 2 ^ i) 0

/-- The redirection entry of a spare at a margin: valid bit 10 and word address 9-0. -/
def State.otpEntry (s : State) (flips : List OtpFlip) (i : Nat) (tight : Bool := false) : Nat := majorityWord (s.otpCell flips tight (1081 + i)) 11

/-- The cell that holds a data word: its own, or the spare that a valid entry gives it. -/
def State.otpCellOf (s : State) (flips : List OtpFlip) (word : Nat) : Nat :=
  match (List.range 32).find? fun i => s.otpEntry flips i = 1024 + word with
  | some i => 1024 + i
  | none => word

/-- How a cell resolves (R385): the word used, whether one bit was corrected with equal reads, whether it is marginal, and whether it is
uncorrectable. -/
structure OtpOutcome where
  word : Word
  corrected : Bool
  marginal : Bool
  bad : Bool
deriving DecidableEq, Repr

def otpResolve (n t : BitVec 39) : OtpOutcome :=
  match otpDecode n, otpDecode t with
  | .valid a, .valid b | .valid a, .corrected b | .corrected a, .valid b | .corrected a, .corrected b =>
    if n = t then { word := otpData a, corrected := otpDecode n ≠ .valid a, marginal := false, bad := false }
    else if a = b then { word := otpData a, corrected := false, marginal := true, bad := false }
    else { word := 0, corrected := false, marginal := false, bad := true }
  | _, _ => { word := 0, corrected := false, marginal := false, bad := true }

/-- A cell of the array resolved. -/
def State.otpOutcome (s : State) (flips : List OtpFlip) (c : Nat) : OtpOutcome :=
  otpResolve (s.otpCell flips false c) (s.otpCell flips true c)

/-- First word and number of words of a region (Table 18.1). -/
def otpRegion (r : Nat) : Nat × Nat :=
  match r with
  | 0 => (0, 64) | 1 => (64, 256) | 2 => (320, 128) | 3 => (448, 448) | _ => (896, 128)

/-- Region of a word. -/
def otpRegionOf (w : Nat) : Nat := if w < 64 then 0 else if w < 320 then 1 else if w < 448 then 2 else if w < 896 then 3 else 4

/-- A fuse of a region at normal margin, and whether the tight majority differs. -/
def State.otpFuse (s : State) (flips : List OtpFlip) (r k : Nat) : Bool × Bool :=
  let c := 1066 + 3 * r + k
  let n := majority3 (s.otpCell flips false c) 1 0
  (n, n ≠ majority3 (s.otpCell flips true c) 1 0)

/-- A fuse of each region, as a mask. -/
def State.otpFuses (s : State) (flips : List OtpFlip) (k : Nat) : BitVec 5 :=
  BitVec.ofNat 5 ((List.range 5).foldl (fun a r => a + bn (s.otpFuse flips r k).1 * 2 ^ r) 0)

/-- The shadow of a word, as delivered to its users. -/
def State.otpShadow (s : State) (w : Nat) : Word := sparseRead (fun _ => 0) s.otp.shadow w

/-- The digest of a region over its words as resolved (R389). -/
def otpDigestOf (word : Nat → Word) (r : Nat) : List Byte :=
  let (first, count) := otpRegion r
  let head : List Byte := [BitVec.ofNat 8 r, 0, BitVec.ofNat 8 count, BitVec.ofNat 8 (count / 256)]
  (sha256 (head ++ (List.range count).flatMap fun i => wordBytes (word (first + i)))).take 8

/-- The digest of a region over the shadows, as it is checked. -/
def State.otpDigest (s : State) (r : Nat) : List Byte := otpDigestOf s.otpShadow r

/-- The sealed digest, low word first. -/
def State.otpSeal (s : State) (r : Nat) : List Word := [s.otpShadow (1056 + 2 * r), s.otpShadow (1057 + 2 * r)]

/-- The registers that show the shadows: region flags, digests, spares in use as the entries read. -/
def State.otpShow (s : State) (flips : List OtpFlip) : State :=
  let t := (List.range 5).foldl (fun (t : State) r =>
    let t := ((t.setB (F.OTP_REGION_fin r) (t.otp.fin.getLsbD r)).setB (F.OTP_REGION_wlock r) (t.otp.wlock.getLsbD r)).setB
      (F.OTP_REGION_rlock r) (t.otp.rlock.getLsbD r)
    (t.set (F.OTP_DIG_digest (2 * r)) (t.otpShadow (1056 + 2 * r)).toNat).set (F.OTP_DIG_digest (2 * r + 1)) (t.otpShadow (1057 + 2 * r)).toNat) s
  t.set F.OTP_SPARES_used ((List.range 32).filter fun i => 1024 ≤ t.otpEntry flips i).length

/-- Saturating addition into a field. -/
def State.addSat (s : State) (f : Field) (k : Nat) : State := s.set f (min (2 ^ f.width - 1) (s.get f + k))

/-- The region whose word, seal word or fuse a cell is; 5 for a spare or a redirection entry. -/
def otpCellRegion (c : Nat) : Nat :=
  if c < 1024 then otpRegionOf c else if c < 1056 then 5 else if c < 1066 then (c - 1056) / 2 else if c < 1081 then (c - 1066) / 3 else 5

/-- A full sense (R386): every word, spare, table entry, seal row and fuse at both margins (R385), the shadows and what the registers keep of
them; a spare that an entry gives a word is sensed as that word. `tj` is Tj + 40 °C. -/
def State.otpSense (s : State) (flips : List OtpFlip) (occasion tj : Nat) : State :=
  let words : List (Nat × OtpOutcome) := (List.range 1024).map fun w => (w, s.otpOutcome flips (s.otpCellOf flips w))
  let seals : List (Nat × OtpOutcome) := (List.range 10).map fun i => (1056 + i, s.otpOutcome flips (1056 + i))
  let used (i : Nat) : Bool := 1024 ≤ s.otpEntry flips i
  let spares : List (Nat × OtpOutcome) := ((List.range 32).filter fun i => !used i).map fun i => (1024 + i, s.otpOutcome flips (1024 + i))
  let held := words ++ seals
  let all := held ++ spares
  let entries := ((List.range 32).filter fun i => s.otpEntry flips i ≠ s.otpEntry flips i true).map fun i => 1081 + i
  let fuses := ((List.range 15).filter fun i => (s.otpFuse flips (i / 3) (i % 3)).2).map fun i => 1066 + i
  let marg := ((all.filter fun a => a.2.marginal).map (·.1)) ++ fuses ++ entries
  let bad := (all.filter fun a => a.2.bad).map (·.1)
  let fresh := marg.any fun w => !s.otp.marginal.contains w
  let t : State := { s with otp := { s.otp with
    shadow := held.foldl (fun m a => sparseWrite (fun _ => 0) m a.1 a.2.word) []
    fin := s.otpFuses flips 0, wlock := s.otpFuses flips 1, rlock := s.otpFuses flips 2, marginal := marg } }
  let t := t.addSat F.OTP_MARGINAL_ecc_corr (all.filter fun a => a.2.corrected).length
  let t := t.addSat F.OTP_MARGINAL_margin_corr marg.length
  let t := (List.range 5).foldl (fun (t : State) r =>
    let inR (w : Nat) : Bool := otpCellRegion w = r
    (t.set (F.OTP_REGION_marginal r) (min 255 (marg.filter inR).length)).set (F.OTP_REGION_uncorrectable r) (min 255 (bad.filter inR).length)) t
  let t := (t.set F.OTP_MARG_LOG_occasion occasion).set F.OTP_MARG_LOG_tj tj
  let t := match (marg.filter fun w => w < 1024).getLast? with | some w => t.set F.OTP_MARG_LOG_word w | none => t
  let t := (t.setB F.OTP_BAD_WORD_valid (bad.any (· < 1024))).set F.OTP_BAD_WORD_word ((bad.find? (· < 1024)).getD 0)
  let t := t.otpShow flips
  let t := if fresh then t.event F.OTP_EVENT_marginal else t
  if bad.isEmpty then t else t.event F.OTP_EVENT_uncorrectable

/-- The digest of every finalised region is checked (R390): digest_fail for each that fails, and the regions ignored. -/
def State.otpCheckRegions (s : State) : State :=
  (List.range 5).foldl (fun (t : State) r =>
    let fin := t.otp.fin.getLsbD r
    let fail := fin && bytesWords (t.otpDigest r) ≠ t.otpSeal r
    ((t.setB (F.OTP_REGION_digest_fail r) fail).setBit F.OTP_STATUS_digest_fail r fail).setBit F.OTP_STATUS_unfinal r (!fin)) s

/-- Some finalised region has failed its digest. -/
def State.otpDigestFails (s : State) : Bool := s.get F.OTP_STATUS_digest_fail ≠ 0

/-- The re-sense of Banked exit (R66, R386), at the Tj last sampled. -/
def State.otpResense (s : State) (flips : List OtpFlip) : State := (s.otpSense flips 6 (tjByte (s.adc 47))).otpCheckRegions

/-- No command runs. -/
def Otp.idle (o : Otp) : Otp := { o with run := none }

/-! ### Deliveries (R392-R394) -/

/-- A word of a finalised region as delivered; 0 where its region is ignored. -/
def State.otpWord (s : State) (w : Nat) : Word := sparseRead (fun _ => 0) s.otp.given w

/-- A field of region 2, in Table 18.2's terms: offset, lowest bit, width, range, default, and 1 where the field holds value plus 1. -/
structure BootField where
  off : Nat
  lo : Nat
  width : Nat
  min : Nat
  max : Nat
  dflt : Nat
  plus : Nat
deriving DecidableEq, Repr

/-- The raw field. -/
def State.bootRaw (s : State) (b : BootField) : Nat := bitsGet (s.otpWord (320 + b.off)) b.lo b.width

/-- A set field lies outside its range. -/
def State.bootBad (s : State) (b : BootField) : Bool :=
  let v := s.bootRaw b
  v ≠ 0 && (v - b.plus < b.min || b.max < v - b.plus)

/-- The value that a field delivers. -/
def State.bootValue (s : State) (b : BootField) : Nat := if s.bootRaw b = 0 ∨ s.bootBad b then b.dflt else s.bootRaw b - b.plus

def bootMode : BootField := ⟨0, 0, 2, 0, 2, 0, 1⟩
def bootRef : BootField := ⟨1, 16, 16, 12000, 50000, 24576, 0⟩
def bootPec : BootField := ⟨1, 8, 2, 0, 2, 1, 1⟩
def bootAddr : BootField := ⟨1, 0, 7, 0x08, 0x77, 0, 0⟩
def bootDiv (n : Port) : BootField := ⟨3 + n.val / 4, 8 * (n.val % 4), 7, 20, 98, 40, 0⟩
def bootIlim (n : Port) : BootField := ⟨6 + 2 * n.val, 23, 9, 40, 480, 120, 0⟩
def bootIlimIns (n : Port) : BootField := ⟨6 + 2 * n.val, 14, 9, 40, 480, 40, 0⟩
def bootFs (n : Port) : BootField := ⟨6 + 2 * n.val, 0, 3, 0, 3, 1, 1⟩
def bootRsns (n : Port) : BootField := ⟨7 + 2 * n.val, 0, 12, 50, 2000, 200, 0⟩
def bootSupply (f : Nat) : BootField := ⟨22 + 2 * f, 20, 12, 1, 4095, 100, 0⟩
def bootAbsorb (f : Nat) : BootField := ⟨22 + 2 * f, 8, 12, 1, 4095, 0, 0⟩
def bootPrio (f : Nat) : BootField := ⟨22 + 2 * f, 0, 4, 0, 7, f, 1⟩
def bootOv (f : Nat) : BootField := ⟨23 + 2 * f, 22, 10, 20, 580, 560, 0⟩
def bootUv (f : Nat) : BootField := ⟨23 + 2 * f, 12, 10, 20, 570, 110, 0⟩
def bootRfsns (f : Nat) : BootField := ⟨23 + 2 * f, 0, 12, 10, 2000, 100, 0⟩

/-- A feed's windows do not fit (R393): uv + 1.0 V above ov. -/
def State.bootWinBad (s : State) (f : Nat) : Bool := s.bootValue (bootOv f) < s.bootValue (bootUv f) + 10

/-- A fallback set of region 2; one whose format word has a reserved bit set is all zero. -/
def State.bootBank (s : State) (off : Nat) : List Word :=
  let l := (List.range 4).map fun k => s.otpWord (320 + off + k)
  if (l.head?.getD 0).toNat % 2 ^ 16 / 8 % 2 ^ 13 % 16 ≠ 0 ∨ (l.head?.getD 0).toNat % 2 ^ 16 / 2 ^ 8 ≠ 0 then List.replicate 4 0 else l

/-- A fallback set's format word has a reserved bit set. -/
def State.bootBankBad (s : State) (off : Nat) : Bool :=
  (List.range 4).map (fun k => s.otpWord (320 + off + k)) ≠ s.bootBank off

/-- Fields of region 2 with their registers. -/
def bootRegs : List (BootField × Field) :=
  [(bootRef, F.TB_CONFIG_ref_khz), (bootPec, F.SMB_CONFIG_pec)] ++
  ((List.finRange 8).flatMap fun n =>
    [(bootDiv n, F.STG_CARRIER_n_div n), (bootIlim n, F.FND_LIMIT_CFG_ilim n), (bootIlimIns n, F.FND_LIMIT_CFG_ilim_ins n),
     (bootFs n, F.FND_SENSE_CFG_fs n), (bootRsns n, F.FND_SENSE_CFG_rsns n)]) ++
  (List.range 4).flatMap fun f =>
    [(bootSupply f, F.DRT_FEED_CAP_supply_w f), (bootAbsorb f, F.DRT_FEED_CAP_absorb_w f), (bootPrio f, F.FED_FEED_CFG_prio f),
     (bootRfsns f, F.FED_FEED_SNS_rfsns f)]

/-- Every ranged field of region 2 with its offset. -/
def bootAll : List BootField := bootMode :: bootAddr :: (bootRegs.map (·.1) ++ (List.range 4).flatMap fun f => [bootOv f, bootUv f])

/-- Offsets of region 2 that hold a field out of range. -/
def State.bootInvalid (s : State) : List Nat :=
  ((bootAll.filter s.bootBad).map (·.off)) ++ ((List.range 4).filter s.bootWinBad).map (fun f => 23 + 2 * f) ++
    (if s.bootBankBad 30 then [30] else []) ++ (if s.bootBankBad 34 then [34] else [])

/-- The bits of a register's word that a reset kind keeps (Table 3.8). -/
def keepMask (kind : ResetKind) (r : RegRow) : Nat :=
  match kind with
  | .powerOn | .coldWake => 0
  | .resetN | .level3 => r.sticky ||| r.kept ||| r.wake ||| r.trace
  | .soft => r.sticky ||| r.kept ||| r.wake ||| r.otp ||| r.trace
  | .smoulderWake => r.sticky ||| r.kept ||| r.wake

/-- A reset kind keeps a field. -/
def keepsField (kind : ResetKind) (f : Field) : Bool :=
  match regRow f.addr with
  | some r => bitOf (keepMask kind r) f.lo
  | none => false

/-- A reset value of region 2 is presented in a register whose class takes its reset value (R392). -/
def State.bootPut (s : State) (f : Field) (v : Nat) : State := if keepsField s.ember.kind f then s else s.set f v

/-- Words of region 1 (R394). -/
def State.identityShow (s : State) : State :=
  let t := (List.range 8).foldl (fun (t : State) k =>
    (t.set (F.IDN_PUBKEY_X_x k) (t.otpWord (72 + k)).toNat).set (F.IDN_PUBKEY_Y_y k) (t.otpWord (80 + k)).toNat) s
  let t := (t.set (F.IDN_SERIAL_serial 0) (t.otpWord 88).toNat).set (F.IDN_SERIAL_serial 1) (t.otpWord 89).toNat
  (t.set F.THN_SVID_svid (t.otpWord 90).toNat).set F.IDN_DEV_CERT_LEN_len (t.otpWord 91).toNat

/-- CC.CONFIG.src_only as delivered: the pins of a source-only port carry no clamp (R101, R392). -/
def State.srcOnlyGive (s : State) : State :=
  (List.finRange 8).foldl (fun (t : State) n =>
    if bitOf (t.otpWord 320).toNat (24 + n.val) then
      (((t.set (F.CC_CONFIG_src_only n) 1).set (F.CC_STATUS_pres1 n) 0).set (F.CC_STATUS_pres2 n) 0).set (F.CC_STATUS_db_clamp n) 0
    else t.set (F.CC_CONFIG_src_only n) 0) s

/-- Step 3 (R392): the words of every finalised region are delivered; the source-only ports, whose pins carry no clamp, the hearth-mode default and the fallback sets are taken, and fields out
of range are named. -/
def State.otpDeliver (s : State) : State :=
  let fin (w : Nat) : Bool := w < 1024 && s.otp.fin.getLsbD (otpRegionOf w)
  let t : State := { s with otp := { s.otp with given := s.otp.shadow.filter fun a => fin a.1, keyFailed := 0 } }
  let t : State := { t with fallbackV := t.bootBank 30, fallbackI := t.bootBank 34 }
  let bad := t.bootInvalid
  let t := if bad.isEmpty then t else
    let u := t.event F.OTP_EVENT_field_invalid
    if u.flag F.OTP_BAD_FIELD_valid then u else (u.set F.OTP_BAD_FIELD_valid 1).set F.OTP_BAD_FIELD_offset (bad.foldl min 127)
  let t := t.srcOnlyGive
  (t.bootPut F.HTH_MODE_mode (t.bootValue bootMode)).bootPut F.HTH_MODE_solo_hearth (bitsGet (t.otpWord 320) 2 1)

/-- Step 6 (R392): every other field of region 2, and the identity registers. -/
def State.otpDefaults (s : State) : State :=
  let t := bootRegs.foldl (fun (t : State) b => t.bootPut b.2 (t.bootValue b.1)) s
  let t := (List.range 4).foldl (fun (t : State) f =>
    (t.bootPut (F.FED_FEED_WIN_ov f) (if t.bootWinBad f then 560 else t.bootValue (bootOv f))).bootPut (F.FED_FEED_WIN_uv f)
      (if t.bootWinBad f then 110 else t.bootValue (bootUv f))) t
  (if s.ember.kind = .soft then t.srcOnlyGive else t).identityShow

/-- The ports that the array marks source-only, as the dead-battery clamp reads it with or without a supply (R31, R101): the field of a
finalised region 2. -/
def State.fuseSrcOnly (s : State) (n : Port) : Bool :=
  (s.otpFuse [] 2 0).1 && bitOf (s.otpOutcome [] (s.otpCellOf [] 320)).word.toNat (24 + n.val)

def State.otpAddrOvr (s : State) : Nat := s.bootValue bootAddr
def State.otpFeedOff (s : State) : Nat := bitsGet (s.otpWord 320) 16 4
def State.otpPortOff (s : State) : Nat := bitsGet (s.otpWord 320) 8 8
def State.otpSrcOnly (s : State) : Nat := bitsGet (s.otpWord 320) 24 8
def State.otpKindleDeny (s : State) : Nat := bitsGet (s.otpWord 322) 0 8
def State.otpKindleOff (s : State) : Bool := bitOf (s.otpWord 322).toNat 31

/-! ### Commands (R395-R400) -/

/-- The first condition of R396 that does not hold: reasons 3, 4 and 5; 0 when all hold. -/
def State.otpCondition (s : State) : Nat :=
  if s.vsysMv < 4500 then 3
  else if 85000 < tjMilli (s.adc 47) then 4
  else if ¬ s.pathsOpen ∨ s.ember.kindling.isSome then 5
  else 0

/-- RESULT of a command. -/
def State.otpResult (s : State) (cmd outcome reason pulses word : Nat) : State :=
  let t := ((s.set F.OTP_RESULT_cmd cmd).set F.OTP_RESULT_outcome outcome).set F.OTP_RESULT_reason reason
  (t.set F.OTP_RESULT_pulses pulses).set F.OTP_RESULT_word word

/-- A refused command (R395). -/
def State.otpRefuse (s : State) (cmd reason word : Nat) : State :=
  (s.otpResult cmd 4 reason 0 word).eventBy F.OTP_EVENT_refused 8

/-- The bits of the fin, wlock or rlock mask. -/
def State.otpFuseSet (s : State) (k r : Nat) : Bool :=
  match k with | 0 => s.otp.fin.getLsbD r | 1 => s.otp.wlock.getLsbD r | _ => s.otp.rlock.getLsbD r

/-- The first word of a region that is marginal or uncorrectable now (R398). -/
def State.otpUnfit (s : State) (flips : List OtpFlip) (r : Nat) : Option Nat :=
  let (first, count) := otpRegion r
  ((List.range count).map (first + ·)).find? fun w =>
    let o := s.otpOutcome flips (s.otpCellOf [] w)
    o.marginal || o.bad

/-- The reason of Table 18.4 for which a command is refused, and the word it names; 0 for none. -/
def State.otpReason (s : State) (flips : List OtpFlip) (cmd word region : Nat) : Nat × Nat :=
  let act : Bool := cmd ≠ 1
  let r := if cmd = 2 then otpRegionOf word else region
  if act ∧ s.get F.OTP_KEY_key ≠ 0xB5 then (1, 0)
  else if s.flag F.OTP_STATUS_busy ∨ s.ember.resensePending then (2, 0)
  else if act ∧ s.otpCondition ≠ 0 then (s.otpCondition, 0)
  else if 2 ≤ cmd ∧ cmd ≤ 5 ∧ r < 2 then (6, 0)
  else if cmd = 2 ∧ (s.otp.fin.getLsbD r ∨ s.otp.wlock.getLsbD r) then (7, 0)
  else if cmd = 2 ∧ s.otpCell [] false (s.otpCellOf [] word) ≠ 0 then (8, 0)
  else if 7 ≤ cmd ∨ (3 ≤ cmd ∧ cmd ≤ 5 ∧ 4 < region) then (9, 0)
  else if 3 ≤ cmd ∧ cmd ≤ 5 ∧ s.otpFuseSet (cmd - 3) region then (10, 0)
  else if cmd = 3 then (match s.otpUnfit flips region with | some w => (11, w) | none => (0, 0))
  else (0, 0)

/-- A write of OTP.CMD (R395): the key is cleared, and the command is refused or begins. -/
def State.otpCommand (s : State) (flips : List OtpFlip) (cmd word region : Nat) : State :=
  let (reason, w) := s.otpReason flips cmd word region
  let t := s.set F.OTP_KEY_key 0
  if cmd = 0 then t
  else if reason ≠ 0 then t.otpRefuse cmd reason w
  else
    let us := match cmd with | 1 => 5 | 2 => 1000 | 3 => 2000 | 4 => 500 | 5 => 500 | _ => 300
    let t : State := { t with otp := { t.otp with run := some { cmd := cmd, word := word, region := region, data := BitVec.ofNat 32 (t.get F.OTP_WDATA_data) } } }
    (t.set F.OTP_STATUS_busy 1).start .otpCommand 0 (t.us us)

/-- A word that a host read finds read-locked (R387, R391). -/
def State.otpLocked (s : State) (w : Nat) : Bool :=
  s.otp.rlock.getLsbD (otpRegionOf w) && otpRegionOf w ≠ 0 && (otpRegionOf w ≠ 1 || w < 72)

/-- READ's sense of one word (Table 18.3): margin bit 0 tight, bit 1 raw. -/
def State.otpReadNow (s : State) (flips : List OtpFlip) (word margin : Nat) : State :=
  let w := s.otpCell flips (bitOf margin 0) (s.otpCellOf [] word)
  let put (t : State) (d ecc : Nat) (cor bad : Bool) : State :=
    (((t.set F.OTP_RDATA_data d).set F.OTP_RECC_ecc ecc).setB F.OTP_RECC_corrected cor).setB F.OTP_RECC_uncorr bad
  if s.otpLocked word then put s 0 0 false false
  else if bitOf margin 1 then put s (otpData w).toNat (otpEcc w) false false
  else
    match otpDecode w with
    | .valid a => put s (otpData a).toNat (otpEcc w) false false
    | .corrected a => put s (otpData a).toNat (otpEcc w) true false
    | .bad => put s 0 (otpEcc w) false true

def execOtpRead (word : BitVec 10) (margin : BitVec 2) (flips : List OtpFlip) (s : State) : Host.Outcome State Fault Refusal :=
  .next (s.answered 5 fun s =>
    let t := s.otpCommand [] 1 word.toNat 0
    if (s.otpReason [] 1 word.toNat 0).1 = 0 then t.otpReadNow flips word.toNat margin.toNat else t)

/-- A host write of OTP.CMD (Table 18.6), with no difference seen by the sense that a READ or FINALISE makes. -/
def State.otpCmdWrite (s : State) (v : Word) : State :=
  let cmd := bitsGet v 28 4
  let t := s.otpCommand [] cmd (bitsGet v 0 10) (bitsGet v 16 3)
  if cmd = 1 ∧ (s.otpReason [] cmd (bitsGet v 0 10) (bitsGet v 16 3)).1 = 0 then t.otpReadNow [] (bitsGet v 0 10) (bitsGet v 24 2) else t

def execOtpProgram (word : BitVec 10) (s : State) : Host.Outcome State Fault Refusal :=
  .next (s.answered 5 fun s => s.otpCommand [] 2 word.toNat 0)

def execOtpFinalise (region : BitVec 3) (flips : List OtpFlip) (s : State) : Host.Outcome State Fault Refusal :=
  .next (s.answered 5 fun s => s.otpCommand flips 3 0 region.toNat)

def execOtpLockWrite (region : BitVec 3) (s : State) : Host.Outcome State Fault Refusal :=
  .next (s.answered 5 fun s => s.otpCommand [] 4 0 region.toNat)

def execOtpLockRead (region : BitVec 3) (s : State) : Host.Outcome State Fault Refusal :=
  .next (s.answered 5 fun s => s.otpCommand [] 5 0 region.toNat)

def execOtpReblow (word : BitVec 10) (s : State) : Host.Outcome State Fault Refusal :=
  .next (s.answered 5 fun s => s.otpCommand [] 6 word.toNat 0)

/-- Pulses on a cell: the bits of `target` are blown, but for those left unblown, and some of them weakly. A bit once blown stays blown. -/
def State.otpPulse (s : State) (c : Nat) (target : BitVec 39) (k : OtpTry) : State :=
  let old := sparseRead (fun _ => 0) s.otp.cells c
  let weak := sparseRead (fun _ => 0) s.otp.weak c
  let blown := target &&& ~~~k.unblown
  let now := old ||| blown
  let w := (weak &&& ~~~blown) ||| (blown &&& k.weak)
  { s with otp := { s.otp with
      cells := sparseWrite (fun _ => 0) s.otp.cells c now, weak := sparseWrite (fun _ => 0) s.otp.weak c w } }

/-- The tight read of a cell equals the target. -/
def State.otpHolds (s : State) (c : Nat) (target : BitVec 39) : Bool := s.otpCell [] true c = target

/-- A word as now read from the array. -/
def State.otpNow (s : State) (w : Nat) : Word := (s.otpOutcome [] (if w < 1024 then s.otpCellOf [] w else w)).word

/-- Shadows of words take what is now read (R392, R397). -/
def State.otpShadowNow (s : State) (words : List Nat) : State :=
  let m := words.foldl (fun m w => sparseWrite (fun _ => 0) m w (s.otpNow w)) s.otp.shadow
  ({ s with otp := { s.otp with shadow := m } } : State).otpShow []

/-- How many copies of a fuse read 1 at tight margin (R399). -/
def State.otpCopies (s : State) (r k : Nat) : Nat :=
  let w := s.otpCell [] true (1066 + 3 * r + k)
  bn (w.getLsbD 0) + bn (w.getLsbD 1) + bn (w.getLsbD 2)

/-- A fuse of a region comes into force once a majority of its copies reads 1 at tight margin (R399). -/
def State.otpFuseNow (s : State) (r k : Nat) : State :=
  if s.otpCopies r k < 2 then s else
    let on (m : BitVec 5) : BitVec 5 := m ||| BitVec.ofNat 5 (2 ^ r)
    let o : Otp := match k with
      | 0 => { s.otp with fin := on s.otp.fin }
      | 1 => { s.otp with wlock := on s.otp.wlock }
      | _ => { s.otp with rlock := on s.otp.rlock }
    ({ s with otp := o } : State).otpShow []

/-- A spare that is blank and has no entry. -/
def State.otpFreeSpare (s : State) : Option Nat :=
  (List.range 32).find? fun i => s.otpEntry [] i < 1024 && s.otpCell [] false (1024 + i) = 0

/-- A redirection entry is written in its three copies. -/
def State.otpRedirect (s : State) (i word : Nat) : State :=
  let e := 1024 + word
  s.otpPulse (1081 + i) (BitVec.ofNat 39 (e + e * 2 ^ 11 + e * 2 ^ 22)) { pulses := 1, unblown := 0, weak := 0 }

/-- Pulses that come out as they should. -/
def OtpTry.good : OtpTry := { pulses := 1, unblown := 0, weak := 0 }

/-- PROGRAM goes on with the spares: one try for each, until one matches or none is left. -/
def State.otpSpares (s : State) (word : Nat) (target : BitVec 39) : List OtpTry → Nat → State × Bool
  | _, 0 => (s, false)
  | l, k + 1 =>
    match s.otpFreeSpare with
    | none => (s, false)
    | some i =>
      let t := s.otpPulse (1024 + i) target (l.head?.getD OtpTry.good)
      if t.otpHolds (1024 + i) target then (t.otpRedirect i word, true)
      else t.otpSpares word target (l.drop 1) k

/-- The end of a command: busy clears, RESULT and SEQ are written, done or failed is set, and close commands that waited act (R395, R396). -/
def State.otpEnd (s : State) (r : OtpRun) (outcome reason pulses word : Nat) : State :=
  let t : State := { s with otp := s.otp.idle }
  let t := ((t.set F.OTP_STATUS_busy 0).stop .otpCommand 0).otpResult r.cmd outcome reason pulses word
  let t := (t.eventBy (if outcome ≤ 2 then F.OTP_EVENT_done else F.OTP_EVENT_failed) 8).bump F.OTP_SEQ_commands
  t.allPorts fun t n => t.pathTry n

/-- Completion of PROGRAM (R397). -/
def State.otpProgramEnd (s : State) (r : OtpRun) (tries : List OtpTry) : State :=
  let target := otpCodeword r.data
  let k := if target = 0 then { pulses := 0, unblown := 0, weak := 0 } else tries.head?.getD OtpTry.good
  let c := s.otpCellOf [] r.word
  let t := s.otpPulse c target k
  if t.otpHolds c target then (t.otpShadowNow [r.word]).otpEnd r 0 0 k.pulses.val r.word
  else
    let (u, ok) := t.otpSpares r.word target (tries.drop 1) 32
    let u := u.otpShadowNow [r.word]
    if ok then (u.eventBy F.OTP_EVENT_spare_used 8).otpEnd r 2 0 8 r.word else u.otpEnd r 3 0 8 r.word

/-- The two seal words of a region's digest over its words as now read (R389, R398). -/
def State.otpSealCodes (s : State) (r : Nat) : BitVec 39 × BitVec 39 :=
  let d := bytesWords (otpDigestOf s.otpNow r)
  (otpCodeword (d[0]?.getD 0), otpCodeword (d[1]?.getD 0))

/-- Completion of FINALISE (R398): the digest goes into the two seal words, and fin is blown. -/
def State.otpFinaliseEnd (s : State) (r : OtpRun) (tries : List OtpTry) : State :=
  let lo := 1056 + 2 * r.region
  let (a, b) := s.otpSealCodes r.region
  let t := (s.otpPulse lo a (tries.head?.getD OtpTry.good)).otpPulse (lo + 1) b ((tries[1]?).getD OtpTry.good)
  let t := t.otpPulse (1066 + 3 * r.region) 7 OtpTry.good
  let ok := t.otpHolds lo a && t.otpHolds (lo + 1) b
  let p := max (tries.head?.getD OtpTry.good).pulses.val ((tries[1]?).getD OtpTry.good).pulses.val
  ((t.otpShadowNow [lo, lo + 1]).otpFuseNow r.region 0).otpEnd r (if ok then 0 else 3) 0 p 0

/-- The three copies of a fuse are pulsed, one try for each. -/
def State.otpFusePulse (s : State) (r k : Nat) (bit : Nat → OtpTry) : State :=
  let un := bn ((bit 0).unblown.getLsbD 0) + bn ((bit 1).unblown.getLsbD 0) * 2 + bn ((bit 2).unblown.getLsbD 0) * 4
  let wk := bn ((bit 0).weak.getLsbD 0) + bn ((bit 1).weak.getLsbD 0) * 2 + bn ((bit 2).weak.getLsbD 0) * 4
  (s.otpPulse (1066 + 3 * r + k) 7 { pulses := 8, unblown := BitVec.ofNat 39 un, weak := BitVec.ofNat 39 wk }).otpFuseNow r k

/-- Completion of LOCK_WRITE or LOCK_READ (R399): three copies, in force once a majority reads 1 at tight margin. -/
def State.otpLockEnd (s : State) (r : OtpRun) (tries : List OtpTry) : State :=
  let bit (i : Nat) : OtpTry := (tries[i]?).getD OtpTry.good
  let t := s.otpFusePulse r.region (r.cmd - 3) bit
  let held := t.otpCopies r.region (r.cmd - 3)
  let p := max (bit 0).pulses.val (max (bit 1).pulses.val (bit 2).pulses.val)
  t.otpEnd r (if held = 3 then 0 else if held = 2 then 1 else 3) 0 p 0

/-- The target of REBLOW (R400). -/
def State.otpTarget (s : State) (c : Nat) : BitVec 39 :=
  let w := s.otpCell [] false c
  (OtpReadWord (otpDecode w)).getD w

/-- Completion of REBLOW: the bits of the target that read 0 at tight margin are pulsed again. -/
def State.otpReblowEnd (s : State) (r : OtpRun) (tries : List OtpTry) : State :=
  let c := s.otpCellOf [] r.word
  let target := s.otpTarget c
  let need := target &&& ~~~(s.otpCell [] true c)
  let k := if need = 0 then { pulses := 0, unblown := 0, weak := 0 } else tries.head?.getD OtpTry.good
  let t := s.otpPulse c need k
  (t.otpShadowNow [r.word]).otpEnd r (if t.otpHolds c target then 0 else 3) 0 k.pulses.val r.word

/-- A running command completes; `tries` says how its pulses came out, in the order they were given. -/
def execOtpCommandComplete (tries : List OtpTry) (s : State) : Host.Outcome State Fault Refusal :=
  .next (
    match s.otp.run with
    | none => s
    | some r =>
      match r.cmd with
      | 1 => s.otpEnd r 0 0 0 r.word
      | 2 => s.otpProgramEnd r tries
      | 3 => s.otpFinaliseEnd r tries
      | 4 | 5 => s.otpLockEnd r tries
      | _ => s.otpReblowEnd r tries)

/-- A cell not yet pulsed when a command ended. -/
def OtpTry.none : OtpTry := { pulses := 0, unblown := BitVec.allOnes 39, weak := 0 }

/-- The cells of a command that has not come to its end: `tries` says what the pulses came to until then, in the order of the command's
cells: the word and its spares, the two seal words and the copies of fin, the copies of a lock. -/
def State.otpPart (s : State) (r : OtpRun) (tries : List OtpTry) : State :=
  let k (i : Nat) : OtpTry := (tries[i]?).getD OtpTry.none
  match r.cmd with
  | 1 => s
  | 2 =>
    let target := otpCodeword r.data
    let t := s.otpPulse (s.otpCellOf [] r.word) target (k 0)
    let t := (tries.drop 1).foldl (fun (t : State) k => match t.otpFreeSpare with | some i => t.otpPulse (1024 + i) target k | none => t) t
    t.otpShadowNow [r.word]
  | 3 =>
    let lo := 1056 + 2 * r.region
    let (a, b) := s.otpSealCodes r.region
    (((s.otpPulse lo a (k 0)).otpPulse (lo + 1) b (k 1)).otpFusePulse r.region 0 fun i => k (2 + i)).otpShadowNow [lo, lo + 1]
  | 4 | 5 => s.otpFusePulse r.region (r.cmd - 3) k
  | _ =>
    let c := s.otpCellOf [] r.word
    (s.otpPulse c (s.otpTarget c &&& ~~~(s.otpCell [] true c)) (k 0)).otpShadowNow [r.word]

/-- A condition fails before a pulse (R396): the command ends with outcome 5; what is already blown stays blown. -/
def State.otpAbort (s : State) (r : OtpRun) (reason : Nat) (tries : List OtpTry) : State :=
  (s.otpPart r tries).otpEnd r 5 reason ((tries.head?.getD OtpTry.none).pulses.val) (if r.cmd = 2 ∨ r.cmd = 6 then r.word else 0)

/-- A reset of the periphery ends a running command at once (R396): what its pulses have blown by then is free, and shows at the next
sense. -/
def State.otpCut (s : State) : Otp :=
  match s.otp.run with
  | none => s.otp
  | some r =>
    let free (i : Nat) : BitVec 39 := Config.cutBits (66 * s.otp.cuts + i)
    let t := s.otpPart r ((List.range 33).map fun i => { pulses := 0, unblown := free (2 * i), weak := free (2 * i + 1) })
    { s.otp with cells := t.otp.cells, weak := t.otp.weak, run := none, cuts := s.otp.cuts + 1 }

def execOtpCommandAbort (reason : Fin 3) (tries : List OtpTry) (s : State) : Host.Outcome State Fault Refusal :=
  .next (
    match s.otp.run with
    | some r => if r.cmd = 1 then s else s.otpAbort r (reason.val + 3) tries
    | none => s)

end Sys2Proof.Machine
end

