-- ==== Sys2Proof/Machine/Vdm.lean ====
section
/-! DEFINITION. The Phrasebook and Thatin (chapter 9): answering structured VDMs, discovery, cable identity, Thatin entry and exit. -/

namespace Sys2Proof.Machine

/-! ### Messages -/

/-- Words of a message. -/
def Msg.words (m : Msg) : List Word := bytesWords m.data

/-- Type of a message. -/
def Msg.ty (m : Msg) : Nat := typeOf m.header

/-! ### Structured VDM headers (PRESUMED layout) -/

/-- The VDM header of a message, 0 without one. -/
def Msg.vdm (m : Msg) : Nat := match m.words with | w :: _ => w.toNat | [] => 0

def vdmSvid (h : Nat) : Nat := h / 65536
def vdmStructured (h : Nat) : Bool := bitOf h 15
def vdmVer (h : Nat) : Nat := h / 2048 % 16
def vdmPos (h : Nat) : Nat := h / 256 % 8
def vdmType (h : Nat) : Nat := h / 64 % 4
def vdmCmd (h : Nat) : Nat := h % 32

/-- A message is a structured VDM. -/
def Msg.isSvdm (m : Msg) : Bool := m.ty = pdVdm && vdmStructured m.vdm

/-- A structured VDM request, Attention included. -/
def Msg.isRequest (m : Msg) : Bool := m.isSvdm && vdmType m.vdm = 0

/-! ### The active Phrasebook (R196, R199, R200) -/

def phbKind (e : Entry64) : Nat := entryBits e 60 4
def phbPorts (e : Entry64) : Nat := entryBits e 52 8
def phbPos (e : Entry64) : Nat := entryBits e 48 4
def phbSvid (e : Entry64) : Nat := entryBits e 32 16
def phbVdo (e : Entry64) : Word := BitVec.ofNat 32 (entryBits e 0 32)

/-- Entries of the active Phrasebook for a port, in image order. -/
def State.phbOf (s : State) (n : Port) : List Entry64 :=
  ((s.hearthOf (s.driver n)).phb.map (·.2)).filter fun e => bitOf (phbPorts e) n.val

/-- An advertised MODE entry (R200). -/
def State.advertised (s : State) (n : Port) (e : Entry64) : Bool :=
  (phbKind e = 2 || phbKind e = 3) && (phbSvid e ≠ s.get F.THN_SVID_svid || s.bit F.THN_CONFIG_ports n.val)

/-- Advertised MODE entries of a port. -/
def State.modesOf (s : State) (n : Port) : List Entry64 := (s.phbOf n).filter fun e => s.advertised n e

/-- Distinct numbers of a list, first kept. -/
def distinct : List Nat → List Nat
  | [] => []
  | a :: l => a :: (distinct l).filter fun b => b ≠ a

/-- Advertised SVIDs in image order. -/
def State.svidsOf (s : State) (n : Port) : List Nat := distinct ((s.modesOf n).map phbSvid)

/-- The SVIDs of a table's MODE entries for a port, advertised or not, in image order. -/
def modeSvids (tab : List (Nat × Entry64)) (n : Port) : List Nat :=
  distinct (((tab.map (·.2)).filter fun e => bitOf (phbPorts e) n.val && (phbKind e = 2 || phbKind e = 3)).map phbSvid)

/-- Host SVIDs of a port in a hearth's table (R200): its MODE SVIDs other than Thatin's. -/
def State.hostSvidsIn (s : State) (n : Port) (h : Hth) : List Nat :=
  ((modeSvids (s.hearthOf h).phb n).filter fun v => v ≠ s.get (F.THN_SVID_svid.inHearth h)).take 4

/-- Host SVIDs of a port in the hearth that drives it. -/
def State.hostSvids (s : State) (n : Port) : List Nat := s.hostSvidsIn n (s.driver n)

/-- The slot at which a hearth's HOST_SVID0-3 show an SVID. -/
def State.hostSlot (s : State) (n : Port) (h : Hth) (v : Nat) : Option Nat :=
  (List.range 4).find? fun k => v ≠ 0 && s.get ((F.VDM_HOST_SVID_svid n k).inHearth h) = v

/-- A hearth's HOST_SVID0-3 show the host SVIDs of its table (R200). What the partner has answered for an SVID, and its bit of host_entered,
go with the SVID to its new slot (DEDUCED, log 116). -/
def State.hostSvidShow (s : State) (n : Port) (h : Hth) : State :=
  let entered := s.get ((F.VDM_STATUS_host_entered n).inHearth h)
  let slot (k : Nat) : Option Nat := s.hostSlot n h ((s.hostSvidsIn n h)[k]?.getD 0)
  let t := (List.range 4).foldl (fun t k =>
    (t.set ((F.VDM_HOST_SVID_svid n k).inHearth h) ((s.hostSvidsIn n h)[k]?.getD 0)).set ((F.VDM_HOST_SVID_modes n k).inHearth h)
      (match slot k with | some j => s.get ((F.VDM_HOST_SVID_modes n j).inHearth h) | none => 0)) s
  t.set ((F.VDM_STATUS_host_entered n).inHearth h)
    ((List.range 4).foldl (fun a k => a + (match slot k with | some j => bn (bitOf entered j) * 2 ^ k | none => 0)) 0)

/-- A host mode is entered whose SVID has no MODE entry for the port any more (R201). -/
def State.hostOrphan (s : State) (n : Port) (h : Hth) : Bool :=
  (List.range 4).any fun k => bitOf (s.get ((F.VDM_STATUS_host_entered n).inHearth h)) k &&
    !(s.hostSvidsIn n h).contains (s.get ((F.VDM_HOST_SVID_svid n k).inHearth h))

/-- Index of a host SVID. -/
def State.hostIndex (s : State) (n : Port) (svid : Nat) : Option Nat := (s.hostSvids n).findIdx? fun v => v = svid

/-- The number of modes that a partner has answered for a host-handled SVID. -/
def State.modesShow (s : State) (n : Port) (svid k : Nat) : State :=
  match s.hostIndex n svid with
  | some i => s.set (F.VDM_HOST_SVID_modes n i) k
  | none => s

/-- Identity VDOs in position order (R196). -/
def State.idVdos (s : State) (n : Port) : List Word :=
  let ids := (s.phbOf n).filter fun e => phbKind e = 1
  (List.range 6).filterMap fun k =>
    match ids.find? fun e => phbPos e = k + 1 with
    | none => none
    | some e =>
      if k = 0 then some (bitsSet (phbVdo e) 26 1 (bn (!(s.modesOf n).isEmpty))) else some (phbVdo e)

/-- SVIDs packed two to a VDO, upper half first, with a zero where the last VDO is full. -/
def packSvids : List Nat → List Word
  | [] => [0]
  | [a] => [BitVec.ofNat 32 (a * 65536)]
  | a :: b :: l => BitVec.ofNat 32 (a * 65536 + b) :: packSvids l

/-- Mode VDOs of an SVID in position order. -/
def State.modeVdos (s : State) (n : Port) (svid : Nat) : List Word :=
  let es := (s.modesOf n).filter fun e => phbSvid e = svid
  (List.range 6).filterMap fun k =>
    match es.find? fun e => phbPos e = k + 1 with
    | none => none
    | some e => some (if svid = s.get F.THN_SVID_svid then s.thatinVdo else phbVdo e)

/-- The MODE entry of an SVID and object position. -/
def State.modeEntry (s : State) (n : Port) (svid pos : Nat) : Option Entry64 :=
  (s.modesOf n).find? fun e => phbSvid e = svid && phbPos e = pos

/-! ### Thatin entry and exit (R204, R214) -/

/-- Thatin is entered with a partner's Mode VDO, when the ACK is acknowledged (R204). -/
def State.thatinEnter (s : State) (n : Port) (vdo : Word) : State :=
  let own := if s.flag F.THN_CONFIG_v10_only then 0 else 1
  let ver := min own (bitsGet vdo 24 4)
  let m := s.flag (F.POL_STATUS_power_role n)
  let t := (s.setB (F.CC_SBU_STATUS_sbu1_conn n) (!s.flag (F.CC_SBU_STATUS_sbu1_ov n))).setB (F.CC_SBU_STATUS_sbu2_conn n)
    (!s.flag (F.CC_SBU_STATUS_sbu2_ov n))
  let t := (t.setBit F.THN_STATUS_entered n.val true).set (F.THN_PORT_STATUS_version n.val) (1 + ver)
  let t := (t.setB (F.THN_PORT_STATUS_master n.val) m).set (F.VDM_STATUS_thatin n) 1
  let t := (t.modThn n ThnPort.left).modVdm n fun v => { v with partnerVdo := vdo }
  let t := (t.event F.THN_EVENT_entered).start .thatinPoll n.val (s.ms (s.get F.THN_CONFIG_poll_ms))
  if ver < own then t.event F.THN_EVENT_version_down else t

/-! ### Answering (R195, R196, R202, R204) -/

/-- SVDM version field of an answer: the lower of the device's and the request's. -/
def State.answerVer (s : State) (n : Port) (h : Nat) : Nat :=
  let own := if s.pd2 n then 0 else 5
  min own (vdmVer h)

/-- STATUS.svdm_ver shows the version in use with the partner, from the version field of a header. -/
def State.verShow (s : State) (n : Port) (ver : Nat) : State :=
  s.set (F.VDM_STATUS_svdm_ver n) (if ver = 0 then 1 else if ver < 5 then 2 else 3)

/-- An answer to a request: 1 ACK, 2 NAK, 3 BUSY. -/
def State.vdmAnswer (s : State) (n : Port) (h typ : Nat) (vdos : List Word) (why : Purpose) : State :=
  let hdr := vdmSvid h * 65536 + 32768 + s.answerVer n h * 2048 + h / 256 % 8 * 256 + typ * 64 + vdmCmd h
  (s.verShow n (s.answerVer n h)).handover n 0 pdVdm (wordsBytes (BitVec.ofNat 32 hdr :: vdos)) why

/-- A bit of VDM.STATUS.host_entered. -/
def State.hostEntered (s : State) (n : Port) (svid : Nat) (on : Bool) : State :=
  match s.hostIndex n svid with
  | some i => (s.setBit (F.VDM_STATUS_host_entered n) i on).eventMsg (if on then F.VDM_EVENT_host_enter n else F.VDM_EVENT_host_exit n)
  | none => s

/-- A host-SVID VDM is stored for the host (R202). -/
def State.hostStore (s : State) (n : Port) (m : Msg) : State :=
  let t := if s.flag (F.VDM_EVENT_host_vdm_rx n) then s.eventMsg (F.VDM_EVENT_rx_overwrite n) else s
  let t := t.set (F.VDM_RX_HDR_hdr n) m.vdm
  let t := (List.range 6).foldl (fun t k => t.set (F.VDM_RX_VDO_vdo n k) ((m.words[k + 1]?).getD 0).toNat) t
  t.eventMsg (F.VDM_EVENT_host_vdm_rx n)

/-- Any mode is entered on SOP (R177). -/
def State.modeEntered (s : State) (n : Port) : Bool := s.bit F.THN_STATUS_entered n.val || s.get (F.VDM_STATUS_host_entered n) ≠ 0

/-- A request for an SVID that the port knows: the PD SID with the discovery of an identity or of SVIDs, otherwise one with a MODE entry
(R195, R196). -/
def State.svidKnown (s : State) (n : Port) (h : Nat) : Bool :=
  ((vdmCmd h = 1 || vdmCmd h = 2) && vdmSvid h = 0xFF00) || (s.svidsOf n).contains (vdmSvid h)

/-- A structured VDM request (R195): BUSY while a table loads, otherwise answered from the table, NAK'd or stored for the host. Discover SVIDs
on a port that advertises none is answered NAK (DESIGN CHOICE, log 81). -/
def State.vdmRequest (s : State) (n : Port) (m : Msg) : State :=
  let h := m.vdm
  let svid := vdmSvid h
  let nak (t : State) : State := t.vdmAnswer n h 2 [] .plain
  let ack (t : State) (v : List Word) : State := t.vdmAnswer n h 1 v .plain
  if vdmCmd h ≠ 6 ∧ s.phbBusy then s.vdmAnswer n h 3 [] .plain
  else if vdmCmd h ≠ 6 ∧ ¬ s.svidKnown n h then nak s
  else
    match vdmCmd h with
    | 1 => if (s.phbOf n).any fun e => phbKind e = 1 && phbPos e = 1 then ack s (s.idVdos n) else nak s
    | 2 => if (s.svidsOf n).isEmpty then nak s else ack s (packSvids (s.svidsOf n))
    | 3 => if (s.modeVdos n svid).isEmpty then nak s else ack s (s.modeVdos n svid)
    | 4 =>
      match s.modeEntry n svid (vdmPos h) with
      | none => nak s
      | some e =>
        if svid = s.get F.THN_SVID_svid then
          match m.words[1]? with
          | some v =>
            if phbKind e = 2 ∧ bitsGet v 28 4 = 1 ∧ ¬ s.flag (F.POL_STATUS_data_role n) ∧ s.flag (F.POL_STATUS_explicit n) then
              (s.modVdm n fun x => { x with partnerVdo := v }).vdmAnswer n h 1 [s.thatinVdo] .thatinAck
            else nak s
          | none => nak s
        else if phbKind e = 2 then (ack s []).hostEntered n svid true
        else nak s
    | 5 =>
      match s.modeEntry n svid (vdmPos h) with
      | none => nak s
      | some e =>
        if svid = s.get F.THN_SVID_svid then (if s.flag (F.POL_STATUS_data_role n) then nak s else ((ack s []).thatinExit n))
        else if phbKind e = 2 then (ack s []).hostEntered n svid false
        else nak s
    | c =>
      if (s.hostSvids n).contains svid ∧ (c = 6 ∨ 16 ≤ c ∧ (s.modeEntry n svid (vdmPos h)).isSome) then
        let t := s.hostStore n m
        if c = 6 then t
        else (t.modVdm n fun x => { x with hostRequest := some (BitVec.ofNat 32 h) }).start .hostVdm n.val (s.ms 10)
      else if c = 6 then s
      else nak s

/-- The host has not answered within 10 ms (R202): NAK. -/
def State.hostVdmTimeout (s : State) (n : Port) : State :=
  match (s.vdm.get n).hostRequest with
  | some h => ((s.modVdm n fun x => { x with hostRequest := none }).stop .hostVdm n.val).vdmAnswer n h.toNat 2 [] .plain
  | none => s

/-! ### Discovery and answers received (R197, R198) -/

/-- The initiation ends, and with it the sequence. -/
def State.vdmAskEnd (s : State) (n : Port) : State :=
  (((s.modVdm n fun v => { v with ask := none, retried := false }).stop .vdmResponse n.val).stop .cableIdentity n.val).amsEnd n

/-- The next initiation of a chain: it is first among those that wait for the end of the last one's sequence, behind a draft (R195). -/
def State.vdmNext (s : State) (n : Port) (a : VdmAsk) : State := (s.modVdm n fun v => { v with waiting := a :: v.waiting }).vdmAskEnd n

/-- Discovery has ended, completely or not (R197): a Thatin mode that the partner has returned is entered when auto_enter is set. -/
def State.discEnd (s : State) (n : Port) : State :=
  let v := (s.vdm.get n).foundVdo
  if s.flag F.THN_CONFIG_auto_enter && s.bit F.THN_CONFIG_ports n.val && bitsGet v 28 4 = 1 && !s.bit F.THN_STATUS_entered n.val then
    s.vdmNext n { what := 6, svid := s.get F.THN_SVID_svid, pos := 1 }
  else s.vdmAskEnd n

/-- Discovery is complete. -/
def State.discDone (s : State) (n : Port) : State := ((s.set (F.VDM_STATUS_disc n) 4).bump (F.VDM_SEQ_discoveries n)).discEnd n

/-- Discovery stops at a NAK or a timeout. -/
def State.discFail (s : State) (n : Port) : State :=
  (((s.modVdm n fun v => { v with modesLeft := [], svids := [] }).set (F.VDM_STATUS_disc n) 5).eventMsg (F.VDM_EVENT_disc_failed n)).discEnd n

/-- The next Discover Modes, or the end of discovery. -/
def State.discModes (s : State) (n : Port) : State :=
  match (s.vdm.get n).modesLeft with
  | v :: l => (s.modVdm n fun x => { x with modesLeft := l }).vdmNext n { what := 3, svid := v, pos := 0 }
  | [] => s.discDone n

/-- SVIDs of a response, up to the terminating zero, and whether it was seen. -/
def unpackSvids : List Word → List Nat × Bool
  | [] => ([], false)
  | w :: l =>
    let hi := w.toNat / 65536
    let lo := w.toNat % 65536
    if hi = 0 then ([], true)
    else if lo = 0 then ([hi], true)
    else let (r, z) := unpackSvids l; (hi :: lo :: r, z)

/-- SVIDs for which the port has a DISCOVER entry, in entry order. -/
def State.discoverOf (s : State) (n : Port) : List Nat := ((s.phbOf n).filter fun e => phbKind e = 4).map phbSvid

/-- PARTNER_SVID0-5 show the first 12 SVIDs. -/
def State.partnerSvidShow (s : State) (n : Port) (l : List Nat) : State :=
  (List.range 6).foldl (fun t k => t.set (F.VDM_PARTNER_SVID_svids n k) ((l[2 * k]?).getD 0 * 65536 + (l[2 * k + 1]?).getD 0)) s

/-- Cable identity (R198). -/
def State.cableSet (s : State) (n : Port) (a : Nat) (epr : Bool) : State :=
  let p := s.pol.get n
  let t := s.modPol n fun p => { p with cableA := a, cableEpr := epr }
  if p.cableA ≠ a ∨ p.cableEpr ≠ epr then t.draft n false else t

/-- BUSY (R194): the request is sent once more after 50 ms; answered BUSY again, it has failed (DESIGN CHOICE, log 80). -/
def State.busyTake (s : State) (n : Port) (fail : State → State) : State :=
  let t := s.eventMsg (F.VDM_EVENT_busy_rx n)
  let t := (t.stop .vdmResponse n.val).stop .cableIdentity n.val
  if (s.vdm.get n).retried then fail t else t.start .vdmBusy n.val (s.ms 50)

/-- A cable's answer on SOP' (R198): the identity sets CABLE_A and CABLE_EPR, a NAK clears both. -/
def State.cableAnswer (s : State) (n : Port) (m : Msg) : State :=
  let s := s.modPol n fun p => { p with cableSeen := true }
  if vdmType m.vdm = 3 then s.busyTake n fun t => t.vdmAskEnd n
  else
    let id := (m.words[1]?).getD 0
    let v := (m.words[4]?).getD 0
    let t :=
      if vdmType m.vdm = 1 then
        let t := ((s.set (F.VDM_CABLE_VDO_vdo n 0) id.toNat).set (F.VDM_CABLE_VDO_vdo n 1) v.toNat).eventMsg (F.VDM_EVENT_cable_id n)
        t.cableSet n (match bitsGet v 5 2 with | 1 => 3 | 2 => 5 | _ => 0) (bitOf v.toNat 17 && bitsGet v 9 2 = 3)
      else s.cableSet n 0 false
    t.vdmAskEnd n

/-- An initiation on SOP fails: discovery stops, a host VDM has not been delivered. -/
def State.askFail (s : State) (n : Port) (a : VdmAsk) : State :=
  if a.what ≤ 3 then s.discFail n
  else (if a.what = 8 then s.eventMsg (F.VDM_EVENT_tx_failed n) else s).vdmAskEnd n

/-- An answer on SOP to the initiation under way. -/
def State.vdmReply (s : State) (n : Port) (m : Msg) : State :=
  let h := m.vdm
  match (s.vdm.get n).ask with
  | none => s
  | some a =>
    if vdmType h = 3 then s.busyTake n fun t => t.askFail n a
    else if vdmType h = 2 then s.askFail n a
    else
      let t := s.verShow n (vdmVer h)
      match a.what with
      | 1 =>
        let t := (List.range 6).foldl (fun t k => t.set (F.VDM_PARTNER_ID_vdo n k) ((m.words[k + 1]?).getD 0).toNat) t
        (t.eventMsg (F.VDM_EVENT_identity_done n)).vdmNext n { what := 2, svid := 0xFF00, pos := 0 }
      | 2 =>
        let (l, z) := unpackSvids (m.words.drop 1)
        let all := (s.vdm.get n).svids ++ l
        let t := (t.modVdm n fun v => { v with svids := all }).partnerSvidShow n all
        if z then
          let left := (s.discoverOf n).filter fun v => all.contains v
          ((t.eventMsg (F.VDM_EVENT_svids_done n)).modVdm n fun v => { v with modesLeft := left }).discModes n
        else t.vdmNext n { what := 2, svid := 0xFF00, pos := 0 }
      | 3 =>
        let vdos := m.words.drop 1
        let t := if a.svid = s.get F.THN_SVID_svid then t.modVdm n fun v => { v with foundVdo := (vdos.head?).getD 0 }
          else t.modesShow n a.svid vdos.length
        (t.eventMsg (F.VDM_EVENT_modes_done n)).discModes n
      | 4 => (t.hostEntered n a.svid true).vdmAskEnd n
      | 5 => (t.hostEntered n a.svid false).vdmAskEnd n
      | 6 =>
        let v := (m.words[1]?).getD 0
        if bitsGet v 28 4 = 1 then (t.thatinEnter n v).vdmAskEnd n else t.vdmAskEnd n
      | 7 => (t.thatinExit n).vdmAskEnd n
      | _ => (t.eventMsg (F.VDM_EVENT_tx_done n)).vdmAskEnd n

/-- A structured VDM is taken: a request, an answer on SOP, or a cable's answer on SOP'. -/
def State.vdmTake (s : State) (n : Port) (m : Msg) : State :=
  if m.sop = 1 then (match (s.vdm.get n).ask with | some a => if a.what = 9 then s.cableAnswer n m else s | none => s)
  else if m.isRequest then s.vdmRequest n m
  else s.vdmReply n m

/-- An initiation's response wait expires (R195, R197): discovery stops, Thatin or a host mode is given up, a host VDM fails. -/
def State.vdmTimeout (s : State) (n : Port) : State :=
  match (s.vdm.get n).ask with
  | some a =>
    if a.what = 9 then s else s.askFail n a
  | none => s

/-- An initiation that would be sent again waits while the Phrasebook is being loaded (R201). -/
def State.askWaits (s : State) (n : Port) (a : VdmAsk) : State :=
  (s.modVdm n fun v => { v with ask := none, waiting := a :: v.waiting }).amsStop n

/-- 50 ms after BUSY the request is sent once more (R194). -/
def State.vdmBusyRetry (s : State) (n : Port) : State :=
  match (s.vdm.get n).ask with
  | some a =>
    if s.running .vdmBusy n.val then
      let t := (s.stop .vdmBusy n.val).modVdm n fun v => { v with retried := true }
      if s.phbBusy then t.askWaits n a
      else t.handover n (if a.what = 9 then 1 else 0) pdVdm (wordsBytes (t.vdmWords n a)) (if a.what = 8 then .hostTx else .vdmAsk)
    else s
  | none => s

/-! ### Host commands of VDM.CONTROL (R7, R202, R204, R209, R212, R214) -/

def State.vdmRefuse (s : State) (n : Port) : State := s.eventHost (F.VDM_EVENT_cmd_refused n)

/-- The port may initiate VDMs on SOP: DFP with an explicit contract (R194, R197). -/
def State.vdmInitiator (s : State) (n : Port) : Bool := s.flag (F.POL_STATUS_data_role n) && s.flag (F.POL_STATUS_explicit n)

/-- Command 1 (R197). -/
def State.vdmDiscover (s : State) (n : Port) : State := if s.vdmInitiator n then s.discoveryStart n else s.vdmRefuse n

/-- Commands 2 and 3: the slot names a host SVID, the position one of its modes. -/
def State.hostModeCmd (s : State) (n : Port) (arg : BitVec 16) (what : Nat) : State :=
  match (s.hostSvids n)[arg.toNat % 16]? with
  | some v =>
    if s.vdmInitiator n ∧ arg.toNat / 16 % 16 ≠ 0 then s.vdmInitiate n { what := what, svid := v, pos := arg.toNat / 16 % 16 } else s.vdmRefuse n
  | none => s.vdmRefuse n

/-- Command 4 (R202): refused for an SVID that is not a host SVID, a request as UFP, or a response that nothing awaits. A VDO count of 7 is
taken as 6, the number of TX_VDO registers (DESIGN CHOICE, log 79). What is sent, and sent again after BUSY, is what the registers hold now. -/
def State.hostSend (s : State) (n : Port) (arg : BitVec 16) : State :=
  let h := s.get (F.VDM_TX_HDR_hdr n)
  let cnt := min 6 (arg.toNat % 8)
  let vdos := (List.range cnt).map fun k => BitVec.ofNat 32 (s.get (F.VDM_TX_VDO_vdo n k))
  let isReq : Bool := vdmType h = 0
  if !(s.hostSvids n).contains (vdmSvid h) || (isReq && vdmCmd h ≠ 6 && !s.flag (F.POL_STATUS_data_role n)) ||
      (!isReq && (s.vdm.get n).hostRequest.isNone) then s.vdmRefuse n
  else
    match isReq, (s.vdm.get n).hostRequest with
    | false, some r =>
      let t := (s.modVdm n fun v => { v with hostRequest := none }).stop .hostVdm n.val
      let hdr := h / 32768 * 32768 + s.answerVer n r.toNat * 2048 + h % 2048
      t.handover n 0 pdVdm (wordsBytes (BitVec.ofNat 32 hdr :: vdos)) .hostTx
    | _, _ => s.vdmInitiate n { what := 8, svid := vdmSvid h, pos := cnt, words := BitVec.ofNat 32 h :: vdos }

/-- Command 5 (R204): DFP with an explicit contract, Thatin allowed on the port, a partner of major version 1. -/
def State.thatinCmd (s : State) (n : Port) : State :=
  if s.vdmInitiator n && s.bit F.THN_CONFIG_ports n.val && bitsGet (s.vdm.get n).foundVdo 28 4 = 1 && !s.bit F.THN_STATUS_entered n.val then
    s.vdmInitiate n { what := 6, svid := s.get F.THN_SVID_svid, pos := 1 }
  else s.vdmRefuse n

/-- Command 6 (R214). -/
def State.thatinExitCmd (s : State) (n : Port) : State :=
  if s.vdmInitiator n && s.bit F.THN_STATUS_entered n.val then s.vdmInitiate n { what := 7, svid := s.get F.THN_SVID_svid, pos := 1 }
  else s.vdmRefuse n

/-- The terms of THN.TRK_REQ (R209). -/
def State.trkReq (s : State) (n : Port) : TrkTerms :=
  let p := s.pol.get n
  let pdp := match p.cur with | some c => c.pdp | none => 0
  { vlo := s.get (F.THN_TRK_REQ_vlo n.val), vhi := s.get (F.THN_TRK_REQ_vhi n.val), slew := s.get (F.THN_TRK_REQ_slew n.val), id := 0,
    ptrk := min (s.get (F.POL_BUDGET_pc n) / 10) pdp }

/-- Terms pass R209. -/
def State.trkFits (s : State) (n : Port) (k : TrkTerms) : Bool :=
  let v := (s.vdm.get n).partnerVdo
  match (s.pol.get n).cur with
  | none => false
  | some c =>
    s.get (F.THN_PORT_STATUS_version n.val) = 2 && c.kind = 3 && c.epr && s.bit F.THN_STATUS_link n.val &&
      s.flag (F.THN_PORT_STATUS_master n.val) && 150 ≤ k.vlo && 100 * k.vlo ≤ c.mv && c.mv ≤ 100 * k.vhi && 100 * k.vhi ≤ c.hi &&
      k.vlo + 10 ≤ k.vhi && 5 ≤ k.slew && k.slew ≤ 150 && k.slew ≤ min (s.get F.THN_CONFIG_slew_max) (bitsGet v 12 8) &&
      bitOf v.toNat 20 && s.flag F.THN_CONFIG_trk_src_en

/-- Command 7 (R209). -/
def State.proposeTracking (s : State) (n : Port) : State :=
  if s.trkFits n (s.trkReq n) then s.modThn n fun x => { x with armed := some (s.trkReq n), broken := false } else s.vdmRefuse n

/-- Command 8 (R212). -/
def State.endTracking (s : State) (n : Port) : State := if s.tracking n then s.collapse n 7 else s.vdmRefuse n

end Sys2Proof.Machine
end

