-- ==== Sys2Proof/Machine/Idn.lean ====
section
/-! DEFINITION. Device identity and Type-C Authentication (chapter 10): the key check, the certificate chain, the responder and the loading
of host certificates. -/

namespace Sys2Proof.Machine

/-! ### The key and the chain (R219-R222, R227) -/

/-- Bytes of words of region 1, four to a word (R8). -/
def State.identityBytes (s : State) (first count : Nat) : List Byte := wordsBytes ((List.range count).map fun k => s.otpWord (first + k))

/-- The private key that step 3 delivered. -/
def State.privateKey (s : State) : Nat := beNat (s.identityBytes 64 8)

/-- The public key of region 1. -/
def State.publicKey (s : State) : Nat × Nat := (beNat (s.identityBytes 72 8), beNat (s.identityBytes 80 8))

/-- The key is good: not zero, and its public key is the one held (R220). -/
def State.keyGood (s : State) : Bool := s.privateKey ≠ 0 && ecPublic s.privateKey = some s.publicKey

/-- Start-up step 5: the signing engine of each hearth listed checks the key. One whose check has failed since the key was delivered
checks it no more, and key_ok stays 0 (R220). -/
def State.keyCheckIn (s : State) (hs : List Hth) : State :=
  let first := hs.filter fun h => !bitOf s.otp.keyFailed.toNat (hthBit h)
  let ok := s.keyGood
  let t := (s.setIn hs F.IDN_STATUS_key_ok 0).setIn first F.IDN_STATUS_key_ok (bn ok)
  if ok || first.isEmpty then t
  else
    let failed := first.foldl (fun m h => bitPut m (hthBit h) true) t.otp.keyFailed.toNat
    ({ t with otp := { t.otp with keyFailed := BitVec.ofNat 2 failed } } : State).eventIn first F.IDN_EVENT_key_bad 0

def State.keyCheck (s : State) : State := s.keyCheckIn s.devHearths

/-- The device certificate. -/
def State.deviceCert (s : State) : List Byte := (s.identityBytes 100 220).take (s.get F.IDN_DEV_CERT_LEN_len)

/-- The root hash in force (R221, R222). -/
def State.rootHash (s : State) (x : Hearth) : List Byte :=
  if s.get F.IDN_CHAIN_CFG_root_sel = 1 ∧ ¬ (x.cert0.isEmpty ∧ x.cert1.isEmpty) then
    wordsBytes ((List.range 8).map fun k => BitVec.ofNat 32 (s.get (F.IDN_ROOT_HASH_hash k)))
  else s.identityBytes 92 8

/-- The slot-0 chain of a hearth (R221). -/
def State.chainOf (s : State) (x : Hearth) : List Byte :=
  let body := s.rootHash x ++ x.cert0 ++ x.cert1 ++ s.deviceCert
  let len := body.length + 4
  [BitVec.ofNat 8 len, BitVec.ofNat 8 (len / 256), 0, 0] ++ body

/-- The digest computation starts (R227): at step 6, and at each commit of a chain load. -/
def State.digestStart (s : State) (hs : List Hth) : State := s.setIn hs F.IDN_STATUS_digest_busy 1

/-- One hearth's digest is complete. -/
def State.digestDone (s : State) (h : Hth) : State :=
  let c := s.chainOf (s.hearthOf h)
  let d := sha256 c
  let t := s.putHearth h { s.hearthOf h with digest := some d }
  let t := (List.range 8).foldl (fun (t : State) k => t.setIn [h] (F.IDN_DIGEST_digest k) ((bytesWords d)[k]?.getD 0).toNat) t
  let t := (t.setIn [h] F.IDN_CHAIN_LEN_len c.length).setIn [h] F.IDN_STATUS_digest_busy 0
  t.bumpIn [h] F.IDN_SEQ_chains

def execDigestComplete (s : State) : Host.Outcome State Fault Refusal :=
  .next (
    let hs := s.devHearths.filter fun h => s.get (F.IDN_STATUS_digest_busy.inHearth h) = 1
    if hs.isEmpty then s else (hs.foldl (fun t h => t.digestDone h) s).eventIn hs F.IDN_EVENT_chain_changed 0)

/-! ### The responder (R223-R226, R228) -/

/-- A response is handed over with the role epoch of its request. -/
def State.authSend (s : State) (n : Port) (epoch : Nat) (l : List Byte) : State :=
  s.handoverAt n 0 pdSecurityResponse l .plain epoch

/-- ERROR with a code. -/
def State.authFail (s : State) (n : Port) (epoch code : Nat) : State :=
  (s.authError n code).authSend n epoch [1, 0x7F, BitVec.ofNat 8 code, 0]

/-- A request of the Authentication protocol (Table 10.2): a challenge waits for the signing engine, and is answered with the digest of now
(DEDUCED, log 117). (Request and response formats PRESUMED from the specification of R223.) -/
def State.authRequest (s : State) (n : Port) (epoch : Nat) (l : List Byte) : State :=
  let h := s.driver n
  let x := s.hearthOf h
  let byte (i : Nat) : Nat := (l[i]?.getD 0).toNat
  let type := byte 1
  let need := match type with | 0x81 => 4 | 0x82 => 8 | 0x83 => 36 | _ => 2
  if s.get (F.IDN_STATUS_key_ok.inHearth h) = 0 then s.authFail n epoch 4
  else if byte 0 ≠ 1 then s.authFail n epoch 2
  else if s.get (F.IDN_STATUS_state.inHearth h) ≠ 0 ∨ s.get (F.IDN_STATUS_digest_busy.inHearth h) = 1 ∨ x.digest.isNone then s.authFail n epoch 3
  else if l.length < need then s.authFail n epoch 1
  else if (type = 0x82 ∨ type = 0x83) ∧ byte 2 ≠ 0 then s.authFail n epoch 1
  else
    match type with
    | 0x81 => s.authSend n epoch ([1, 1, 1, 1] ++ x.digest.getD [])
    | 0x82 =>
      let c := s.chainOf x
      let off := byte 4 + 256 * byte 5
      let len := byte 6 + 256 * byte 7
      if c.length ≤ off then s.authFail n epoch 1
      else s.authSend n epoch ([1, 2, 0, 0] ++ (c.drop off).take (min len 256))
    | 0x83 =>
      let c : Challenge := { port := n, epoch := epoch, request := l, salt := [], chain := x.digest.getD [] }
      (({ s with auth := s.auth ++ [c] } : State).setBit F.IDN_STATUS_pending n.val true).authNext h
    | _ => s.authFail n epoch 1

/-- A Security_Request on SOP is taken; an earlier one still open on the port is discarded (R228). -/
def State.authTake (s : State) (n : Port) (m : Msg) : State :=
  let t := if s.bit F.IDN_STATUS_pending n.val then (s.authDrop n).authError n 0 else s
  t.authRequest n m.epoch m.data

/-- CHALLENGE_AUTH up to its signature (R225). -/
def Challenge.body (c : Challenge) : List Byte :=
  [1, 3, 0, 1, 1, 1, 1, 0] ++ c.chain ++ c.salt ++ List.replicate 32 0

/-- The signing engine of a hearth completes its challenge (R226, R229). -/
def State.challengeSigned (s : State) (h : Hth) : State :=
  let s := s.authNext h
  match s.auth.find? fun c => s.driver c.port = h with
  | none => s
  | some c =>
    let sig := ecdsaSign s.privateKey (sha256 (c.request ++ c.body))
    let t := (s.authDrop c.port).authSend c.port c.epoch (c.body ++ sig)
    (t.bumpSat F.IDN_SIGN_COUNT_count).event F.IDN_EVENT_challenge_signed

def execChallengeSigned (h : Hth) (s : State) : Host.Outcome State Fault Refusal := .next (s.challengeSigned h)

/-! ### Loading host certificates (R230) -/

/-- A load step that is not acted on (R151). -/
def State.idnRefused (s : State) : State := s.eventWindow F.IDN_EVENT_window_refused

/-- Change the store of every hearth that receives host writes. -/
def State.modHearths (s : State) (hs : List Hth) (f : Hearth → Hearth) : State := hs.foldl (fun t h => t.putHearth h (f (t.hearthOf h))) s

/-- CHAIN_LEN is the length of the chain as its slots stand (Table 10.4). -/
def State.chainLenShow (s : State) : State :=
  s.devHearths.foldl (fun t h => t.setIn [h] F.IDN_CHAIN_LEN_len (t.chainOf (t.hearthOf h)).length) s

/-- A write of CERT_LEN: a length of 0 empties the slot at once (R231). -/
def State.certLenWrite (s : State) (k : Fin 2) (v : Word) : State :=
  let t := s.set (F.IDN_CERT_LEN_len k.val) (bitsGet v 0 12)
  if bitsGet v 0 12 = 0 then
    (t.modHearths s.devHearths fun x => if k = 0 then { x with cert0 := [] } else { x with cert1 := [] }).chainLenShow
  else t

/-- Both certificate slots are empty. -/
def Hearth.noCerts (x : Hearth) : Hearth := { x with certStage := [], cert0 := [], cert1 := [] }

def State.idnLoadBegin (s : State) (key : Bool) : State :=
  if !key ∨ s.get F.IDN_STATUS_state ≠ 0 then s.idnRefused
  else (s.set F.IDN_STATUS_state 1).modHearths s.devHearths fun x => { x with certStage := [] }

/-- Any write of IDN.CONTROL clears the key. -/
def State.idnKeyed (s : State) (f : State → Bool → State) : State := f (s.set F.IDN_KEY_key 0) (s.get F.IDN_KEY_key = 0x49)

def execIdnLoadBegin (s : State) : Host.Outcome State Fault Refusal :=
  .next (s.answered 7 fun s => s.idnKeyed fun t key => t.idnLoadBegin key)

/-- Four certificate bytes through the window: at the slot and word of WIN_ADDR, whose word advances. -/
def State.idnWindowWrite (s : State) (w : Word) : State :=
  if s.get F.IDN_STATUS_state ≠ 1 then s.idnRefused
  else
    let slot := s.get F.IDN_WIN_ADDR_slot
    let k := s.get F.IDN_WIN_ADDR_word
    let put (m : List (Nat × Byte)) : List (Nat × Byte) :=
      (List.range 4).foldl (fun m i => sparseWrite (fun _ => 0) m (2048 * slot + 4 * k + i) ((wordBytes w)[i]?.getD 0)) m
    (s.modHearths s.devHearths fun x => { x with certStage := put x.certStage }).set F.IDN_WIN_ADDR_word (k + 1)

def execIdnWindowWrite (word : Word) (s : State) : Host.Outcome State Fault Refusal := .next (s.answered 7 fun s => s.idnWindowWrite word)

/-- Staged bytes of a slot. -/
def certBytes (m : List (Nat × Byte)) (slot len : Nat) : List Byte := (List.range len).map fun i => sparseRead (fun _ => 0) m (2048 * slot + i)

/-- Total length that a DER SEQUENCE header gives; none where the bytes begin with no such header. -/
def derLength (l : List Byte) : Option Nat :=
  match l with
  | t :: a :: r =>
    if t ≠ 0x30 then none
    else if a.toNat < 128 then some (2 + a.toNat)
    else
      let k := a.toNat - 128
      if k = 0 ∨ r.length < k then none else some (2 + k + beNat (r.take k))
  | _ => none

/-- A staged slot passes R230. -/
def certGood (m : List (Nat × Byte)) (slot len : Nat) : Bool := len = 0 || derLength (certBytes m slot len) = some len

/-- A commit (R230): the slots are activated, or left empty; the digest is computed again. -/
def State.idnCommit (s : State) : State :=
  if s.get F.IDN_STATUS_state ≠ 1 then s.idnRefused
  else
    let a := s.get (F.IDN_CERT_LEN_len 0)
    let b := s.get (F.IDN_CERT_LEN_len 1)
    let m := (s.hearthOf s.devHearth).certStage
    let ok : Bool := a ≤ 2048 && b ≤ 2048 && !(b ≠ 0 && a = 0) && certGood m 0 a && certGood m 1 b
    let t := s.set F.IDN_STATUS_state 0
    let t := if ok then t.modHearths s.devHearths fun x => { x with cert0 := certBytes x.certStage 0 a, cert1 := certBytes x.certStage 1 b, certStage := [] }
      else (t.eventHost F.IDN_EVENT_load_refused).modHearths s.devHearths Hearth.noCerts
    t.chainLenShow.digestStart s.devHearths

def execIdnCommit (s : State) : Host.Outcome State Fault Refusal :=
  .next (s.answered 7 fun s => s.idnKeyed fun t _ => t.idnCommit)

/-- An abort leaves both slots empty. The digest in force stays until it is next computed (R227 names two points; DEDUCED, log 40). -/
def State.idnAbort (s : State) : State :=
  if s.get F.IDN_STATUS_state = 0 then s
  else ((s.set F.IDN_STATUS_state 0).modHearths s.devHearths Hearth.noCerts).chainLenShow

def execIdnAbort (s : State) : Host.Outcome State Fault Refusal :=
  .next (s.answered 7 fun s => s.idnKeyed fun t _ => t.idnAbort)

end Sys2Proof.Machine
end

