-- ==== Sys2Proof/Machine/LexCmd.lean ====
section
/-! DEFINITION. Loading the Lexicon (R150-R155) and the Phrasebook (R199-R201): images, their checks, activations and the OTP seeds. -/

namespace Sys2Proof.Machine

/-! ### What the checks accept (Tables 7.4-7.9) -/

/-- Points at which an action may stand (Table 7.4). -/
def opAtPoint (op point : Nat) : Bool :=
  match op with
  | 0x00 | 0x01 => true
  | 0x02 => point = 0
  | 0x08 => point = 1
  | 0x09 => point = 3
  | 0x0A => point = 2
  | 0x10 => point = 4
  | 0x11 => point = 6
  | 0x12 => point = 7
  | 0x18 => [5, 8, 9, 10, 11, 14].contains point
  | 0x19 => [5, 8, 9, 10, 11, 14, 15].contains point
  | 0x1A => [5, 8, 9, 10].contains point
  | 0x1B => point = 15
  | 0x20 => point = 3 || point = 12
  | 0x28 => [1, 2, 3, 5, 7, 8, 9, 10, 11, 12, 13, 14, 15].contains point
  | _ => point = 13

/-- Actions of Table 7.4 that are not reserved. -/
def opKnown (op : Nat) : Bool :=
  [0x00, 0x01, 0x02, 0x08, 0x09, 0x0A, 0x10, 0x11, 0x12, 0x18, 0x19, 0x1A, 0x1B, 0x20, 0x28, 0x29, 0x2A].contains op

/-- A parameter value in its range (Table 7.8); 0 leaves the default (R148). -/
def paramInRange (id v : Nat) : Bool :=
  v = 0 || (match id with
    | 1 | 5 => v ≤ 240
    | 2 => 500 ≤ v && v ≤ 5000
    | 3 => 50 ≤ v && v ≤ 3000
    | 4 => 100 ≤ v && v ≤ 5000
    | 6 => 90 ≤ v && v ≤ 540
    | 7 => v ≤ 3
    | _ => 100 ≤ v && v ≤ 3000)

/-- A template within Table 7.9. -/
def templateGood (t : Template) (sink : Bool) : Bool :=
  (match t.kind with
    | 0 => 50 ≤ t.vmax && t.vmax ≤ 200 && t.vmin = 0
    | 1 => [280, 360, 480].contains t.vmax && t.vmin = 0
    | 2 => 34 ≤ t.vmax && t.vmax ≤ 210 && 33 ≤ t.vmin && t.vmin < t.vmax
    | 3 => (t.vmax = 150 || t.vmax = 200) && t.vmin = 90
    | 4 => 151 ≤ t.vmax && t.vmax ≤ 480 && 150 ≤ t.vmin && t.vmin < t.vmax
    | _ => false) && (if sink then t.flags = 0 else t.flags < 4)

/-- An operand in range for its action. -/
def operandGood (op x : Nat) : Bool :=
  match op with
  | 0x00 | 0x09 | 0x0A | 0x28 => true
  | 0x02 => paramInRange (x / 65536) (x % 65536)
  | 0x08 => x / 16 % 4 ≤ 2 && x % 8 ≤ 4
  | 0x10 => templateGood (templateOf x) false
  | 0x11 => templateGood (templateOf x) true
  | 0x12 => x / 65536 ≤ 2
  | 0x20 => 1 ≤ x % 256 && x % 256 ≤ 7
  | _ => x = 0

/-- The four checks of step 4 of R152 on a clause, given the highest point so far: the fail_reason, 0 for none. -/
def clauseFail (c : Entry64) (top : Nat) : Nat :=
  let op := clauseOp c
  if ¬ opKnown op ∨ 15 < clausePoint c ∨ 21 < clauseVar c ∨ (op = 2 ∧ (clauseOperand c / 65536 = 0 ∨ 8 < clauseOperand c / 65536)) then 4
  else if op = 0 then 0
  else if ¬ opAtPoint op (clausePoint c) then 5
  else if ¬ operandGood op (clauseOperand c) then 7
  else if clausePoint c < top then 6
  else 0

/-- The first clause that fails, as fail_reason and fail_index. -/
def clausesFail : List Entry64 → Nat → Nat → Option (Nat × Nat)
  | [], _, _ => none
  | c :: l, i, top =>
    if clauseFail c top ≠ 0 then some (clauseFail c top, i) else clausesFail l (i + 1) (if clauseOp c = 0 then top else clausePoint c)

/-! ### Checks of a Phrasebook (R200) -/

/-- An entry's own fields: kind and svid (4), a field that must be 0 (7), the position (5). -/
def entryFail (thn : Nat) (e : Entry64) : Nat :=
  match phbKind e with
  | 0 => if phbPos e ≠ 0 ∨ phbSvid e ≠ 0 then 7 else 0
  | 1 => if phbSvid e ≠ 0 then 7 else if phbPos e = 0 ∨ 6 < phbPos e then 5 else 0
  | 2 | 3 =>
    if phbSvid e = 0 ∨ phbSvid e = 0xFF00 then 4
    else if phbSvid e = thn ∧ phbVdo e ≠ 0 then 7
    else if phbPos e = 0 ∨ 6 < phbPos e then 5 else 0
  | 4 => if phbSvid e = 0 ∨ phbSvid e = 0xFF00 then 4 else if phbPos e ≠ 0 ∨ phbVdo e ≠ 0 then 7 else 0
  | _ => 4

/-- Two entries stand on some common port. -/
def portsMeet (a b : Entry64) : Bool := Nat.land (phbPorts a) (phbPorts b) ≠ 0

/-- Entry `e` uses a position that an earlier entry uses on a common port. -/
def posUsed (before : List Entry64) (e : Entry64) : Bool :=
  before.any fun b => portsMeet b e && phbPos b = phbPos e &&
    ((phbKind e = 1 && phbKind b = 1) ||
      ((phbKind e = 2 || phbKind e = 3) && (phbKind b = 2 || phbKind b = 3) && phbSvid b = phbSvid e))

/-- Entries for one port exceed a limit: five MODE SVIDs, four of them other than Thatin's, five DISCOVER entries. -/
def portOver (thn : Nat) (l : List Entry64) (n : Nat) : Bool :=
  let own := l.filter fun e => bitOf (phbPorts e) n
  let svids := distinct ((own.filter fun e => phbKind e = 2 || phbKind e = 3).map phbSvid)
  5 < svids.length || 4 < (svids.filter fun v => v ≠ thn).length || 5 < (own.filter fun e => phbKind e = 4).length

/-- Entry `e` lacks a lower position on some port of its own: ID_VDO without pos 1, or a mode position with a gap below it. -/
def posGap (all : List Entry64) (e : Entry64) : Bool :=
  (List.range 8).any fun n => bitOf (phbPorts e) n &&
    (let own := all.filter fun b => bitOf (phbPorts b) n
     match phbKind e with
     | 1 => !(own.any fun b => phbKind b = 1 && phbPos b = 1)
     | 2 | 3 =>
       (List.range 6).any fun k => k + 1 < phbPos e &&
         !(own.any fun b => (phbKind b = 2 || phbKind b = 3) && phbSvid b = phbSvid e && phbPos b = k + 1)
     | _ => false)

/-- The first entry that fails R200. -/
def entriesFail (thn : Nat) (all : List Entry64) : List Entry64 → List Entry64 → Option (Nat × Nat)
  | _, [] => none
  | before, e :: l =>
    let i := before.length
    if phbPorts e = 0 then entriesFail thn all (before ++ [e]) l
    else if entryFail thn e ≠ 0 then some (entryFail thn e, i)
    else if posUsed before e ∨ posGap all e then some (5, i)
    else if (List.range 8).any fun n => bitOf (phbPorts e) n && portOver thn (before ++ [e]) n then some (6, i)
    else entriesFail thn all (before ++ [e]) l

/-! ### The checks of an image (R152, R201) -/

/-- What the checks of an image find: count 0, passed, or refused with fail_reason and fail_index. -/
inductive ImageCheck where
  | empty
  | passed
  | refused (reason index : Nat)
deriving DecidableEq, Repr

/-- Count of an image header. -/
def headerCount (phb : Bool) (hdr : List Word) : Nat := bitsGet (hdr[2]?.getD 0) 0 (if phb then 10 else 12)

/-- Bytes of entries, bits [31:0] first (R142). -/
def entryBytes (l : List Entry64) : List Byte :=
  l.flatMap fun c => wordBytes (BitVec.ofNat 32 c.toNat) ++ wordBytes (BitVec.ofNat 32 (c.toNat / 2 ^ 32))

/-- An image against R152: magic and format, count, CRC, then its entries. -/
def imageCheck (phb : Bool) (thn : Nat) (hdr : List Word) (entry : Nat → Entry64) : ImageCheck :=
  let h0 := (hdr[0]?.getD 0).toNat
  let count := headerCount phb hdr
  if h0 / 65536 ≠ (if phb then 0x5042 else 0x4C58) ∨ h0 / 256 % 256 ≠ 1 then .refused 1 0
  else if (if phb then 512 else 2048) < count then .refused 2 0
  else if count = 0 then .empty
  else
    let l := (List.range count).map entry
    if crc32 (entryBytes l) ≠ hdr[3]?.getD 0 then .refused 3 0
    else
      match if phb then entriesFail thn l [] l else clausesFail l 0 0 with
      | some (r, i) => .refused r i
      | none => .passed

/-! ### Either table -/

/-- The field of LEX or of PHB. -/
def tabField (phb : Bool) (a b : Field) : Field := if phb then b else a

def tabState (phb : Bool) : Field := tabField phb F.LEX_STATUS_state F.PHB_STATUS_state

/-- A hearth's table. -/
def Hearth.table (x : Hearth) (phb : Bool) : List (Nat × Entry64) := if phb then x.phb else x.lex
def Hearth.putTable (x : Hearth) (phb : Bool) (l : List (Nat × Entry64)) : Hearth := if phb then { x with phb := l } else { x with lex := l }

/-- Key for load_begin and revert_seed. -/
def tabKey (phb : Bool) : Nat := if phb then 0x50 else 0x4C

/-- Any write of CONTROL clears the key. -/
def State.tabKeyed (s : State) (phb : Bool) (f : State → Bool → State) : State :=
  let k := tabField phb F.LEX_KEY_key F.PHB_KEY_key
  f (s.set k 0) (s.get k = tabKey phb)

/-- A load step that is not acted on (R151). -/
def State.tabRefused (s : State) (phb : Bool) : State := s.eventWindow (tabField phb F.LEX_EVENT_window_refused F.PHB_EVENT_window_refused)

/-- POL.STATUS.load_policy of every port (R153). -/
def State.showLoad (s : State) : State :=
  s.allPorts fun t n => t.setB (F.POL_STATUS_load_policy n) (s.get (F.LEX_STATUS_state.inHearth (s.driver n)) ≠ 0)

/-- The staged header. -/
def State.tabHeader (s : State) (phb : Bool) : List Word :=
  (List.range 4).map fun k => BitVec.ofNat 32 (s.get (tabField phb (F.LEX_IMG_HDR_hdr k) (F.PHB_IMG_HDR_hdr k)))

/-! ### Activation (R154, R201) -/

/-- The policy steps of an activation on one port: point 0 for an enabled port, and a draft for an attached source (R154, R159). -/
def State.lexActivatePort (s : State) (n : Port) : State :=
  if s.get (F.POL_STATUS_typec n) = 0 then s
  else
    let t := s.point0 n
    t.draft n false

/-- The host SVIDs of a Phrasebook activation in hearths `hs`, and the entered host modes that it leaves without an entry (R200, R201). -/
def State.hostSvidsMove (s : State) (hs : List Hth) : State :=
  s.allPorts fun t n =>
    let t := if hs.any fun h => t.runsPort h n && t.hostOrphan n h
      then t.eventIn (hs.filter fun h => t.runsPort h n) (F.VDM_EVENT_mode_orphan n) 0 else t
    hs.foldl (fun t h => t.hostSvidShow n h) t

/-- The steps of a Phrasebook activation on one port: a Thatin mode whose entry is gone, and what waited (R201). -/
def State.phbActivatePort (s : State) (n : Port) : State :=
  let t :=
    if s.bit F.THN_STATUS_entered n.val ∧ ¬ (modeSvids (s.hearthOf (s.driver n)).phb n).contains (s.get F.THN_SVID_svid) then
      if s.flag (F.POL_STATUS_data_role n) then s.vdmInitiate n { what := 7, svid := s.get F.THN_SVID_svid, pos := 1 } else s.thatinExit n
    else s
  if t.flag (F.POL_STATUS_ams n) then t else t.vdmDrain n

/-- The active table of hearths `hs` becomes `l` with a header and a source (0 none, 1 OTP seed, 2 host image). -/
def State.tabInstall (s : State) (phb : Bool) (hs : List Hth) (l : List (Nat × Entry64)) (src count : Nat) (hdr : List Word) : State :=
  let t := s.modHearths hs fun x => x.putTable phb l
  let t := t.setIn hs (tabState phb) 0
  let t := (t.setIn hs (tabField phb F.LEX_STATUS_src F.PHB_STATUS_src) src).setIn hs
    (tabField phb F.LEX_STATUS_active_count F.PHB_STATUS_active_count) count
  let t := (List.range 4).foldl (fun (t : State) k =>
    t.setIn hs (tabField phb (F.LEX_ACTIVE_HDR_hdr k) (F.PHB_ACTIVE_HDR_hdr k)) ((hdr[k]?.getD 0).toNat)) t
  let t := t.bumpIn hs (tabField phb F.LEX_SEQ_activations F.PHB_SEQ_activations)
  if phb then t.hostSvidsMove hs else t

/-- The policy side of an activation, for the ports that the hearths drive. -/
def State.tabPorts (s : State) (phb : Bool) (hs : List Hth) : State :=
  s.showLoad.allPorts fun t n =>
    if hs.contains (t.driver n) then (if phb then t.phbActivatePort n else t.lexActivatePort n) else t

/-! ### Seeds (R155, R201) -/

/-- A word of region 3. -/
def State.seedWord (s : State) (k : Nat) : Word := s.otpWord (448 + k)

/-- Lexicon and Phrasebook seed counts. -/
def State.lexSeedCount (s : State) : Nat := bitsGet (s.seedWord 0) 0 11
def State.phbSeedCount (s : State) : Nat := bitsGet (s.seedWord 0) 16 11

/-- First word of a seed's header. -/
def State.seedBase (s : State) (phb : Bool) : Nat := if phb then 5 + 2 * s.lexSeedCount else 1

def State.seedHeader (s : State) (phb : Bool) : List Word := (List.range 4).map fun k => s.seedWord (s.seedBase phb + k)

/-- An entry of a seed, bits [31:0] first. -/
def State.seedEntry (s : State) (phb : Bool) (i : Nat) : Entry64 :=
  let b := s.seedBase phb + 4 + 2 * i
  BitVec.ofNat 64 ((s.seedWord b).toNat + (s.seedWord (b + 1)).toNat * 2 ^ 32)

/-- What a seed load finds. -/
def State.seedCheck (s : State) (phb : Bool) : ImageCheck :=
  let c := s.lexSeedCount
  let lexBad : Bool := 221 < c || (c ≠ 0 && headerCount false (s.seedHeader false) ≠ c)
  if phb then
    let p := s.phbSeedCount
    if p = 0 then .empty
    else if lexBad ∨ (439 - 2 * c) / 2 < p ∨ headerCount true (s.seedHeader true) ≠ p then .refused 2 0
    else imageCheck true (s.get F.THN_SVID_svid) (s.seedHeader true) (s.seedEntry true)
  else if c = 0 then .empty
  else if lexBad then .refused 2 0
  else imageCheck false 0 (s.seedHeader false) (s.seedEntry false)

/-- Entries 0 to count - 1 as a table. -/
def tableOf (count : Nat) (entry : Nat → Entry64) : List (Nat × Entry64) :=
  ((List.range count).map fun i => (i, entry i)).filter fun a => a.2 ≠ 0

/-- Load a seed into hearths `hs`: an activation whatever comes of it (R154, R155). -/
def State.seedLoad (s : State) (phb : Bool) (hs : List Hth) : State :=
  match s.seedCheck phb with
  | .passed =>
    let n := if phb then s.phbSeedCount else s.lexSeedCount
    (s.tabInstall phb hs (tableOf n (s.seedEntry phb)) 1 n (s.seedHeader phb)).eventIn hs
      (tabField phb F.LEX_EVENT_seed_loaded F.PHB_EVENT_seed_loaded) 0
  | .empty =>
    let t := (s.tabInstall phb hs [] 0 0 []).eventIn hs (tabField phb F.LEX_EVENT_seed_absent F.PHB_EVENT_seed_absent) 0
    if s.otp.fin.getLsbD 3 then t.eventIn hs (tabField phb F.LEX_EVENT_empty_image F.PHB_EVENT_empty_image) 0 else t
  | .refused r i =>
    let t := (s.tabInstall phb hs [] 0 0 []).eventIn hs (tabField phb F.LEX_EVENT_seed_refused F.PHB_EVENT_seed_refused) 0
    (t.setIn hs (tabField phb F.LEX_STATUS_fail_reason F.PHB_STATUS_fail_reason) r).setIn hs
      (tabField phb F.LEX_STATUS_fail_index F.PHB_STATUS_fail_index) i

/-- Step 6, and a hearth reset: both seeds are loaded into the hearths, and the slot-0 digest is due (R227). -/
def State.loadSeeds (s : State) (hs : List Hth) : State := ((s.seedLoad false hs).seedLoad true hs).digestStart hs

/-- A return to the seed while the device runs. -/
def State.tabToSeed (s : State) (phb : Bool) : State := (s.seedLoad phb s.devHearths).tabPorts phb s.devHearths

/-! ### Host loads (R151, R152) -/

/-- The sink templates of every port as they stand (R153). -/
def State.sinkOpsKeep (s : State) : State :=
  s.allPorts fun t n => t.modPol n fun p => { p with sinkOps := ((s.collect n 6).filter fun a => a.1 = 0x11).map (·.2) }

/-- load_begin: loading starts; the last failure's record is cleared. -/
def State.tabBegin (s : State) (phb key : Bool) : State :=
  if !key ∨ s.get (tabState phb) ≠ 0 then s.tabRefused phb
  else
    let t := (if phb then s else s.sinkOpsKeep).set (tabState phb) 1
    let t := (t.set (tabField phb F.LEX_STATUS_fail_reason F.PHB_STATUS_fail_reason) 0).set
      (tabField phb F.LEX_STATUS_fail_index F.PHB_STATUS_fail_index) 0
    if phb then t else t.showLoad

def tabWin (phb : Bool) : Field := tabField phb F.LEX_WIN_ADDR_index F.PHB_WIN_ADDR_index

/-- An entry written through the window. -/
def State.tabWrite (s : State) (phb : Bool) (e : Entry64) : State :=
  if s.get (tabState phb) ≠ 1 then s.tabRefused phb
  else
    let i := s.get (tabWin phb)
    (s.modHearths s.devHearths fun x => x.putTable phb (sparseWrite (fun _ => 0) (x.table phb) i e)).set (tabWin phb) (i + 1)

/-- An entry read through the window: the staged or active entry at WIN_ADDR, which advances. -/
def State.tabRead (s : State) (phb : Bool) : State :=
  let i := s.get (tabWin phb)
  let e := sparseRead (fun _ => 0) ((s.hearthOf s.devHearth).table phb) i
  (s.returnBytes (entryBytes [e])).set (tabWin phb) (i + 1)

/-- commit: the checks start. -/
def State.tabCommit (s : State) (phb : Bool) : State :=
  if s.get (tabState phb) ≠ 1 then s.tabRefused phb else s.set (tabState phb) 2

/-- The checks finish (R152, R154, R155). -/
def State.tabChecked (s : State) (phb : Bool) : State :=
  if s.get (tabState phb) ≠ 2 then s
  else
    let tab := (s.hearthOf s.devHearth).table phb
    let hdr := s.tabHeader phb
    match imageCheck phb (s.get F.THN_SVID_svid) hdr (sparseRead (fun _ => 0) tab) with
    | .empty => (s.eventHost (tabField phb F.LEX_EVENT_empty_image F.PHB_EVENT_empty_image)).tabToSeed phb
    | .refused r i =>
      let t := (s.eventHost (tabField phb F.LEX_EVENT_image_refused F.PHB_EVENT_image_refused)).tabToSeed phb
      (t.set (tabField phb F.LEX_STATUS_fail_reason F.PHB_STATUS_fail_reason) r).set
        (tabField phb F.LEX_STATUS_fail_index F.PHB_STATUS_fail_index) i
    | .passed =>
      let c := headerCount phb hdr
      let t := s.tabInstall phb s.devHearths (tab.filter fun a => a.1 < c) 2 c hdr
      (t.eventHost (tabField phb F.LEX_EVENT_loaded F.PHB_EVENT_loaded)).tabPorts phb s.devHearths

/-- abort: a load or check under way ends, and the table returns to the seed. -/
def State.tabAbort (s : State) (phb : Bool) : State := if s.get (tabState phb) = 0 then s else s.tabToSeed phb

/-- revert_seed, with the key. -/
def State.tabRevert (s : State) (phb key : Bool) : State := if key then s.tabToSeed phb else s.tabRefused phb

def execLexLoadBegin (s : State) : Host.Outcome State Fault Refusal :=
  .next (s.answered 0x10 fun s => s.tabKeyed false fun t key => t.tabBegin false key)
def execLexWindowWrite (clause : Entry64) (s : State) : Host.Outcome State Fault Refusal :=
  .next (s.answered 0x10 fun s => s.tabWrite false clause)
def execLexWindowRead (s : State) : Host.Outcome State Fault Refusal :=
  .next (s.answered 0x10 fun s => s.tabRead false)
def execLexCommit (s : State) : Host.Outcome State Fault Refusal :=
  .next (s.answered 0x10 fun s => s.tabKeyed false fun t _ => t.tabCommit false)
def execLexCheckComplete (s : State) : Host.Outcome State Fault Refusal := .next (s.tabChecked false)
def execLexAbort (s : State) : Host.Outcome State Fault Refusal :=
  .next (s.answered 0x10 fun s => s.tabKeyed false fun t _ => t.tabAbort false)
def execLexRevertSeed (s : State) : Host.Outcome State Fault Refusal :=
  .next (s.answered 0x10 fun s => s.tabKeyed false fun t key => t.tabRevert false key)
def execPhbLoadBegin (s : State) : Host.Outcome State Fault Refusal :=
  .next (s.answered 0x11 fun s => s.tabKeyed true fun t key => t.tabBegin true key)
def execPhbWindowWrite (entry : Entry64) (s : State) : Host.Outcome State Fault Refusal :=
  .next (s.answered 0x11 fun s => s.tabWrite true entry)

/-- A commit of a Phrasebook starts its checks and, having no row of its own for their end, takes it here. -/
def State.phbCommitNow (s : State) : State :=
  if s.get (tabState true) = 1 then (s.tabCommit true).tabChecked true else s.tabCommit true

def execPhbCommit (s : State) : Host.Outcome State Fault Refusal :=
  .next (s.answered 0x11 fun s => s.tabKeyed true fun t _ => t.phbCommitNow)

def execPhbAbort (s : State) : Host.Outcome State Fault Refusal :=
  .next (s.answered 0x11 fun s => s.tabKeyed true fun t _ => t.tabAbort true)
def execPhbRevertSeed (s : State) : Host.Outcome State Fault Refusal :=
  .next (s.answered 0x11 fun s => s.tabKeyed true fun t key => t.tabRevert true key)

end Sys2Proof.Machine
end

