-- ==== Sys2Proof/Machine/Sequence.lean ====
section
/-! DEFINITION. What a message brings about in the sequences of chapters 7 and 8: its delivery, its failure, and its being taken by the
Policy Sequencer. Message formats are PRESUMED from USB Power Delivery (R137). -/

namespace Sys2Proof.Machine

/-! ### Delivery of a message the port sent (R169, R172, R175, R178) -/

/-- An offer has been delivered: it is the last delivered offer from now on (R159, R166). A newer draft that waits stands, unless it is that
offer. -/
def State.capsDelivered (s : State) (n : Port) (m : Msg) : State :=
  let objs := padTo 11 (bytesWords m.data)
  let t := (List.range 11).foldl (fun (t : State) k => t.set (F.POL_OFFER_pdo n k) ((objs[k]?.getD 0).toNat)) s
  let t := t.modPol n fun p => { p with
    draft := p.draft.filter fun d => !d.handed && !(padTo 11 d.objs = objs && d.epr = (m.ty = pdEprSourceCaps)),
    offered := true, offerEpr := m.ty = pdEprSourceCaps, capsCount := 0, seq := .capsSent }
  let t := ((t.event (F.POL_EVENT_caps_sent n)).setPd n 2).start .draftGap n.val (s.ms (s.get (F.POL_CAPS_CFG_min_gap_ms n)))
  t.start .senderResponse n.val (s.ms 30)

/-- The sequence of answers that the port has given ends with the delivery. -/
def State.plainDelivered (s : State) (n : Port) : State :=
  if (s.seqOf n = .idle ∨ s.seqOf n = .accepting) ∧ ¬ s.swapOpen n ∧ (s.vdm.get n).ask.isNone then s.amsEnd n else s

/-- The Accept of a swap is acknowledged (Table 8.3, R178, R182). -/
def State.swapAccepted (s : State) (n : Port) : State :=
  let a := (s.pol.get n).asking
  if a = pdPrSwap then s.prStart n
  else if a = pdDrSwap then s.drDone n
  else if a = pdVconnSwap then s.vcnStart n
  else s

/-- The PS_RDY of a swap that the port sent is acknowledged (Table 8.3). -/
def State.swapReady (s : State) (n : Port) : State :=
  match s.seqOf n with
  | .prReady => s.start .swapPs n.val (s.ms 435)
  | .prReadySent | .frReadySent => s.becomeSource n
  | .vcnReadySent => s.vcnDone n
  | _ => s

/-- EPR mode is entered (R166): keep-alives start, and a source drafts. -/
def State.eprEntered (s : State) (n : Port) : State :=
  let t := ((s.stop .enterEpr n.val).setEpr n true).amsEnd n
  let t := t.keepAliveStart n
  if t.sourcing n then t.draft n false else t.start .sinkWaitCap n.val (s.ms 465)

/-- EPR mode is left. -/
def State.eprLeft (s : State) (n : Port) : State :=
  let t := ((s.setEpr n false).stop .keepAlive n.val).amsEnd n
  if t.sourcing n then t.draft n false else t.start .sinkWaitCap n.val (s.ms 465)

/-- A Soft_Reset has been acknowledged: the MessageIDs of its SOP type are reset and what waits on it is dropped (R117, R125). -/
def State.softAcked (s : State) (n : Port) (m : Msg) : State :=
  if m.ty = pdSoftReset then ((s.idReset n [m.sop]).dropQueue n fun x => x.sop = m.sop).dropUnder n fun x => x.sop = m.sop else s

/-- What a delivered message of the port was for goes on. -/
def State.deliveredFor (s : State) (n : Port) (m : Msg) : State :=
  match m.purpose with
  | .plain => s.plainDelivered n
  | .caps => s.capsDelivered n m
  | .request | .ask | .eprEnter | .keepAlive => s.start .senderResponse n.val (s.ms 30)
  | .acceptRequest => s.transitionBegin n
  | .acceptRepeat => s.readyHand n .repeating .readyRepeat
  | .readyTransition => match (s.pol.get n).new with | some c => s.contractEnter n c | none => s.amsEnd n
  | .readyRepeat => (s.keepAliveStart n).amsEnd n
  | .acceptSwap => s.swapAccepted n
  | .readySwap => s.swapReady n
  | .softReset => s.start .senderResponse n.val (s.ms 30)
  | .acceptSoft => s.softResetDone n
  | .eprAck => s.handover n 0 pdEprMode (eprWord 3 0) .eprSucceeded
  | .eprSucceeded => s.eprEntered n
  | .eprExit => s.eprLeft n
  | .frSwap => (s.setSeq n .frAsked).start .senderResponse n.val (s.ms 30)
  | .vdmAsk =>
    match (s.vdm.get n).ask with
    | some a =>
      if a.what = 9 then s.start .cableIdentity n.val (s.ms 45)
      else s.start .vdmResponse n.val (s.ms (if a.what ≤ 3 then 30 else 50))
    | none => s
  | .thatinAck => (s.thatinEnter n (s.vdm.get n).partnerVdo).plainDelivered n
  | .hostTx =>
    if vdmType m.vdm = 0 ∧ vdmCmd m.vdm ≠ 6 then s.start .vdmResponse n.val (s.ms (if vdmCmd m.vdm = 4 ∨ vdmCmd m.vdm = 5 then 50 else 30))
    else
      let t := s.event (F.VDM_EVENT_tx_done n)
      if vdmType m.vdm = 0 ∧ (s.vdm.get n).ask.isSome then t.vdmAskEnd n else t.plainDelivered n
  | .chunkRequest => s

/-- A message of the port has been delivered; one on SOP' ends a run of abandoned ones (R188). -/
def State.delivered (s : State) (n : Port) (m : Msg) : State :=
  let t := if m.sop = 1 then s.modPol n fun p => { p with cableFails := 0 } else s
  (t.softAcked n m).deliveredFor n m

/-! ### Failure of a message (R123, R128, R144, R188) -/

/-- A sequence of the port is given up, its outcome lost: the roles and the power stand where they were (R176). -/
def State.seqGiveUp (s : State) (n : Port) : State :=
  let t := if s.swapOpen n then s.maskDone n else s
  let t := (t.amsStop n).modPol n fun p => { p with seq := .idle, asking := 0, new := none }
  if t.get (F.POL_STATUS_pd n) = 0 then t else t.setPd n (if t.flag (F.POL_STATUS_explicit n) then 3 else 1)

/-- The power or VCONN of the port is in motion. -/
def State.inMotion (s : State) (n : Port) : Bool := s.inTransition n || s.inSwap n && !s.swapOpen n

/-- Error Recovery in the window of a power-role swap, Hard Reset in any other motion. -/
def State.motionFail (s : State) (n : Port) : State :=
  if s.inPrSwap n ∨ s.inFrSwap n then s.errorRecovery n
  else s.hardResetRequest n

/-- A message is abandoned, its retries exhausted or its chunks not asked for: the sequence falls back as USB Power Delivery has it
(PRESUMED): offers are tried again up to nCapsCount, otherwise Soft_Reset, and Hard Reset where the power is in motion. -/
def State.txFail (s : State) (n : Port) (m : Msg) : State :=
  if m.sop ≠ 0 then
    let t := if m.sop = 1 ∧ (s.pol.get n).cableSeen then s.modPol n fun p => { p with cableFails := p.cableFails + 1 } else s
    if m.purpose = .vdmAsk then t.start .cableIdentity n.val (s.ms 45) else t
  else
    match m.purpose with
    | .caps =>
      let t := s.modPol n fun p => { p with draft := none, capsCount := p.capsCount + 1 }
      if s.flag (F.POL_STATUS_explicit n) then t.softResetSend n
      else if (s.pol.get n).capsCount + 1 < 50 then (t.amsStop n).start .sourceCap n.val (s.ms 150)
      else t.noPdOperation n
    | .softReset => s.hardResetRequest n
    | .vdmAsk | .hostTx =>
      if (s.vdm.get n).ask.isSome then s.vdmTimeout n
      else (s.event (F.VDM_EVENT_tx_failed n)).plainDelivered n
    | .chunkRequest => s
    | _ =>
      if s.inMotion n then s.motionFail n
      else if s.flag (F.POL_STATUS_explicit n) then s.softResetSend n
      else s.amsEnd n

/-- An offer is dropped as stale: where no other has been handed over since, it is drafted anew at the present role epoch (PRESUMED, log 83:
R120 drops the message, and a change of epoch is no occasion of R159). -/
def State.offerLost (s : State) (n : Port) : State :=
  if s.draftQueued n then s else ((s.modPol n fun p => { p with draft := none }).amsStop n).draft n false

/-- A message gives way to one that the partner sends (R122, R123), or is dropped as stale, and policy is told: what it was for waits or
ends. Where the change of role epoch made it stale, that change has already settled its sequence. How a sequence goes on is PRESUMED from
USB Power Delivery (R137). -/
def State.txLost (s : State) (n : Port) (m : Msg) (stale : Bool) : State :=
  match m.purpose with
  | .caps =>
    if stale then s.offerLost n else (s.modPol n fun p => { p with draft := p.draft.map fun d => { d with handed := false } }).amsStop n
  | .vdmAsk =>
    match (s.vdm.get n).ask with
    | some a => (s.modVdm n fun v => { v with ask := none, waiting := if stale then v.waiting else a :: v.waiting }).amsStop n
    | none => s
  | .hostTx =>
    let t := s.event (F.VDM_EVENT_tx_failed n)
    if (s.vdm.get n).ask.isSome then t.vdmAskEnd n else t
  | .ask | .request | .eprEnter | .eprExit | .keepAlive => s.seqGiveUp n
  | .chunkRequest => s
  | _ => if stale then s else if s.inMotion n then s.motionFail n else s.seqGiveUp n

/-! ### Taking a message (R139, R144, R160-R187) -/

/-- Point 15 (R144): Reject or Not_Supported, by default as the revision has it. -/
def State.unsupported (s : State) (n : Port) (sop : Nat) : State :=
  let (t, a) := if s.loadPolicy n then (s, none) else s.firstMatch n 15 {}
  let answer := match a with | some (0x19, _) => pdReject | _ => if s.pd2 n then pdReject else pdNotSupported
  t.handover n sop answer [] .plain

/-- An answer of a sequence that the partner starts. -/
def State.answer (s : State) (n : Port) (ty : Nat) (data : List Byte) (why : Purpose) : State := (s.amsOn n).handover n 0 ty data why

/-- Bytes of an answer whose content the spec does not give. -/
def State.freeReply (s : State) (n : Port) (ty count : Nat) : State :=
  let l := (List.range count).map fun i => Config.replyByte (s.fresh + i)
  ({ s with fresh := s.fresh + count } : State).answer n ty l .plain

/-- Reject, Wait or Not_Supported (R144, R161, R181). -/
def State.refuseTake (s : State) (n : Port) (wait : Bool) : State :=
  let p := s.pol.get n
  match p.seq with
  | .asked =>
    let t := s.modPol n fun p => { p with new := none }
    let t := (if isSwap p.asking then t.maskDone n else t).amsEnd n
    if p.asking = pdRequest ∧ wait then t.start .sinkRequest n.val (s.ms 100) else t
  | .frAsked => s.errorRecovery n
  | .eprAsked | .eprAcked => (s.stop .enterEpr n.val).amsEnd n
  | _ => if (s.vdm.get n).ask.isSome then s.vdmTimeout n else s

/-- Accept. In an FR_Swap the partner's PS_RDY is then awaited for tPSSourceOn (PRESUMED, log 78: R181 gives no time for it). -/
def State.acceptTake (s : State) (n : Port) : State :=
  let t := s.stop .senderResponse n.val
  match (s.pol.get n).seq with
  | .asked =>
    if (s.pol.get n).asking = pdRequest then
      ((t.setSeq n .snkTransition).setPd n 4).start .psTransition n.val (s.psTransition n)
    else t.swapAccepted n
  | .softReset => t.softResetDone n
  | .frAsked => (t.setSeq n .frWaitReady).start .swapPs n.val (s.ms 435)
  | _ => s

/-- The pin that senses takes Rp at the point-1 level, or at Rp default where point 1 gives sink (Table 8.5 step 4). -/
def State.presentSource (s : State) (n : Port) : State :=
  let p := s.pol.get n
  s.present n (.rp (if p.role = 0 then 0 else p.level))

/-- As the sink of a PR_Swap, after the partner's PS_RDY and vSafe0V, the port presents Rp and raises VBUS (R178). -/
def State.sinkToSource (s : State) (n : Port) : State :=
  let t := ((s.stop .swapPs n.val).modPol n fun p => { p with wait0V := false }).presentSource n
  ((t.setSeq n .prRaise).presetZero n).stageRun n false

/-- PS_RDY. -/
def State.readyTake (s : State) (n : Port) : State :=
  match s.seqOf n with
  | .snkTransition => match (s.pol.get n).new with | some c => s.contractEnter n c | none => s.amsEnd n
  | .prReady => s.becomeSink n
  | .prWaitOff =>
    let t := (s.stop .swapPs n.val).modPol n fun p => { p with wait0V := true }
    if s.vbusMv n ≤ 800 then t.sinkToSource n else t
  | .vcnWait => (s.vconnOff n).vcnDone n
  | .frWaitReady => ((s.stop .swapPs n.val).presentSource n).readyHand n .frReadySent .readySwap
  | _ => s

/-- Soft_Reset (R187): in a transition Hard Reset answers it. -/
def State.softTake (s : State) (n : Port) : State :=
  if s.inTransition n then s.hardResetRequest n
  else
    let t := ((s.swapGiveUp n).stop .senderResponse n.val).modPol n fun p => { p with seq := .accepting, asking := 0, new := none }
    let t := t.vdmAskDrop n
    (t.amsOn n).sendCtl n pdAccept .acceptSoft

/-- A swap is answered by a decision point: Accept opens the window, otherwise Wait or Reject (R177, R176). -/
def State.swapDecide (s : State) (n : Port) (ty point : Nat) : State :=
  let (t, a) := if s.loadPolicy n then (s, some (0x1A, 0)) else s.firstMatch n point {}
  match a with
  | some (0x18, _) =>
    let t := ((t.askDrop n).setPd n 5).modPol n fun p => { p with asking := ty, seq := .accepting }
    (t.maskOpen n).sendCtl n pdAccept .acceptSwap
  | some (0x1A, _) => t.sendCtl n pdWait .plain
  | _ => t.sendCtl n pdReject .plain

/-- PR_Swap received. -/
def State.prSwapTake (s : State) (n : Port) : State :=
  let t := s.amsOn n
  if s.inEpr n then t.sendCtl n pdReject .plain
  else if s.sourcing n then (if s.flag (F.CC_CONFIG_src_only n) then t.sendCtl n pdReject .plain else t.swapDecide n pdPrSwap 8)
  else if s.floorFits n then t.swapDecide n pdPrSwap 8
  else t.sendCtl n pdWait .plain

/-- DR_Swap received. -/
def State.drSwapTake (s : State) (n : Port) : State :=
  if s.modeEntered n then s.hardResetRequest n else (s.amsOn n).swapDecide n pdDrSwap 9

/-- VCONN_Swap received. -/
def State.vconnSwapTake (s : State) (n : Port) : State :=
  let t := s.amsOn n
  if ¬ s.flag (F.POL_STATUS_vconn_src n) ∧ ¬ s.vconnAllowed n then t.sendCtl n pdReject .plain else t.swapDecide n pdVconnSwap 10

/-- EPR_Mode (Enter) received (R160). -/
def State.eprEnterTake (s : State) (n : Port) : State :=
  let t := (s.amsOn n).setPd n 7
  let p := s.pol.get n
  let fail (t : State) : State := t.handover n 0 pdEprMode (eprWord 4 0) .plain
  if ¬ (s.sourcing n && p.cableEpr && s.flag (F.POL_STATUS_vconn_src n) && p.partnerEpr && (s.buildDraft n).2.2) then fail t
  else
    let (t, a) := if s.loadPolicy n then (t, none) else t.firstMatch n 11 {}
    match a with
    | some (0x18, _) => (t.setSeq n .eprSource).handover n 0 pdEprMode (eprWord 2 0) .eprAck
    | _ => fail t

/-- Any EPR_Mode message, by its action. -/
def State.eprModeTake (s : State) (n : Port) (m : Msg) : State :=
  match bitsGet (m.words.head?.getD 0) 24 8 with
  | 1 => s.eprEnterTake n
  | 2 => if s.seqOf n = .eprAsked then (s.stop .senderResponse n.val).setSeq n .eprAcked else s
  | 3 => if s.seqOf n = .eprAsked ∨ s.seqOf n = .eprAcked then (s.stop .senderResponse n.val).eprEntered n else s
  | 4 => if s.seqOf n = .eprAsked ∨ s.seqOf n = .eprAcked then ((s.stop .senderResponse n.val).stop .enterEpr n.val).amsEnd n else s
  | 5 => if s.inEpr n then s.eprLeft n else s
  | _ => s.unsupported n 0

/-- Source_Capabilities, or their EPR form (R161): kept, and a sink chooses and requests. -/
def State.sourceCapsTake (s : State) (n : Port) (m : Msg) : State :=
  let t := ((s.partnerStore n m.words).stop .sinkWaitCap n.val).modPol n fun p => { p with waitCaps := false }
  let t := (t.stop .noResponse n.val).stop .senderResponse n.val
  if s.sourcing n then t.amsEnd n
  else
    let t := t.modPol n fun p => { p with seq := .idle, asking := 0 }
    t.sinkRequest n false

/-- Sink_Capabilities: they are kept (R166), the partner's Fast Role Swap declaration among them, and point 14 may be reached (R180). -/
def State.sinkCapsTake (s : State) (n : Port) (m : Msg) : State :=
  let t := s.modPol n fun p => { p with
    partnerFrs := bitsGet (m.words.head?.getD 0) 23 2, sourceKept := some (s.partnerSource n) }
  let t := t.partnerShow n m.words
  (t.amsEnd n).point14 n

/-- Get_Source_Cap and EPR_Get_Source_Cap. -/
def State.getSourceTake (s : State) (n : Port) (epr : Bool) : State :=
  if s.sourcing n then
    if epr then s.answer n pdEprSourceCaps (wordsBytes (padTo 7 (s.buildDraft n).1)) .plain else s.capsSend n false
  else if (s.pol.get n).role ≠ 0 then s.answer n (if epr then pdEprSourceCaps else pdSourceCaps) (wordsBytes (s.buildDraft n).1) .plain
  else s.unsupported n 0

/-- Get_Sink_Cap and EPR_Get_Sink_Cap. -/
def State.getSinkTake (s : State) (n : Port) (epr : Bool) : State :=
  if s.sourcing n ∧ (s.pol.get n).role = 1 then s.unsupported n 0
  else s.answer n (if epr then pdEprSinkCaps else pdSinkCaps) (wordsBytes (s.sinkObjs n epr)) .plain

/-- Extended_Control: the EPR capability requests and keep-alives. -/
def State.extControlTake (s : State) (n : Port) (m : Msg) : State :=
  match (m.data.head?.getD 0).toNat with
  | 1 => s.getSourceTake n true
  | 2 => s.getSinkTake n true
  | 3 => (s.keepAliveStart n).handover n 0 pdExtControl [4, 0] .plain
  | 4 => ((s.stop .senderResponse n.val).keepAliveStart n).plainDelivered n
  | _ => s.unsupported n 0

/-- Messages that leave tracking in place (Table 9.6 reason 1): keep-alives, and a repeat with its Accept and PS_RDY. A Request is judged
where it is evaluated (R213). -/
def State.exemptRx (s : State) (n : Port) (m : Msg) : Bool :=
  let rep : Bool := match (s.pol.get n).new with | some c => s.isRepeat n c | none => false
  (m.ty = pdExtControl && ((m.data.head?.getD 0) = 3 || (m.data.head?.getD 0) = 4)) || m.ty = pdRequest || m.ty = pdEprRequest ||
    ((m.ty = pdAccept || m.ty = pdPsRdy) && rep)

/-- A message on SOP' or SOP'': a cable's answer, or one that nothing takes. A cable's refusal is not answered. -/
def State.cableTake (s : State) (n : Port) (m : Msg) : State :=
  if m.isSvdm then s.vdmTake n m
  else if [pdReject, pdNotSupported, pdWait].contains m.ty then s
  else s.unsupported n m.sop

/-- A message that ends a PR_Swap in Error Recovery (R179): any in its window but PS_RDY and, while the port's own PR_Swap awaits its answer,
that answer. -/
def State.breaksPrSwap (s : State) (n : Port) (m : Msg) : Bool :=
  s.prWindow n && !(m.sop = 0 && (m.ty = pdPsRdy ||
    (s.seqOf n = .asked && [pdAccept, pdReject, pdWait, pdNotSupported].contains m.ty)))

/-- A Hard Reset or an abort runs: a message that comes through is not acted on (DESIGN CHOICE, log 84). -/
def State.resetting (s : State) (n : Port) : Bool := hardSeq (s.seqOf n) || s.seqOf n = .hrSend || s.seqOf n = .aborted

/-- A message of the Message Layer is taken by policy (R139): the block that handles its type acts. -/
def State.messageTake (s : State) (n : Port) (m : Msg) : State :=
  let ty := m.ty
  if s.resetting n then s
  else if s.breaksPrSwap n m then s.errorRecovery n
  else if m.sop ≠ 0 then s.cableTake n m
  else if ty = pdAccept then s.acceptTake n
  else if ty = pdReject ∨ ty = pdNotSupported then (s.stop .senderResponse n.val).refuseTake n false
  else if ty = pdWait then (s.stop .senderResponse n.val).refuseTake n true
  else if ty = pdPsRdy then s.readyTake n
  else if ty = pdSoftReset then s.softTake n
  else if ty = pdSourceCaps ∨ ty = pdEprSourceCaps then s.sourceCapsTake n m
  else if ty = pdRequest ∨ ty = pdEprRequest then
    (if s.inSwap n then s.requestInSwap n (m.words.head?.getD 0) else s.requestEval n (m.words.head?.getD 0))
  else if ty = pdSinkCaps ∨ ty = pdEprSinkCaps then s.sinkCapsTake n m
  else if ty = pdEprMode then s.eprModeTake n m
  else if m.isSvdm then s.vdmTake n m
  else if ty = pdGetSourceCap then s.getSourceTake n false
  else if ty = pdGetSinkCap then s.getSinkTake n false
  else if ty = pdPrSwap then s.prSwapTake n
  else if ty = pdDrSwap then s.drSwapTake n
  else if ty = pdVconnSwap then s.vconnSwapTake n
  else if ty = pdSecurityRequest then s.authTake n m
  else if ty = pdExtControl then s.extControlTake n m
  else if ty = 17 ∧ ¬ s.pd2 n then s.freeReply n 65 25
  else if ty = 18 ∧ ¬ s.pd2 n then s.freeReply n 66 7
  else if ty = 20 ∧ ¬ s.pd2 n then s.freeReply n 76 4
  else if ty = 24 ∧ ¬ s.pd2 n then s.freeReply n 44 4
  else s.unsupported n 0

/-- A message that acts when it is acknowledged (R175, R204): PS_RDY of a swap, the Accept of a swap that the port asked for, and the answer to
its Enter Mode for Thatin. -/
def State.actsAtAck (s : State) (n : Port) (m : Msg) : Bool :=
  m.sop = 0 && ((m.ty = pdPsRdy && s.inSwap n) || (m.ty = pdAccept && s.seqOf n = .asked && isSwap (s.pol.get n).asking) ||
    (m.isSvdm && !m.isRequest && (match (s.vdm.get n).ask with | some a => a.what = 6 | none => false)))

end Sys2Proof.Machine
end

