-- ==== Sys2Proof/Machine/Inputs.lean ====
section
/-! DEFINITION. The inputs of the Policy Sequencer and the order in which it takes them (chapter 7). -/

namespace Sys2Proof.Machine

/-! ### Aborts (R173) -/

/-- A source port's transition or descent runs. The hold that precedes a descent counts with it (DESIGN CHOICE, log 85: R173 speaks of a
descent only). -/
def State.moving (s : State) (n : Port) : Bool :=
  s.sourcing n && [Seqn.hold, .ramp, .readySent, .prHold, .prDescent, .hrHold, .hrDescent].contains (s.seqOf n)

/-- A transition or descent is aborted (R173): both half-bridges off, the path open, zero duty, DSCHG on, and the role epoch advanced. -/
def State.transitionAbort (s : State) (n : Port) : State :=
  if s.moving n then
    let t := (((s.collapse n 2).presetZero n).stageOff n).openPath n
    let t := ((t.dschgOn n).advanceEpoch n).txSilence n
    let t := (t.policyTimersStop n).stop .hardReset n.val
    (t.modPol n fun p => { p with new := none, seq := .aborted }).start .abortWait n.val (t.ms (t.get (F.CC_DEBOUNCE_detach_ms n) + 1))
  else s

/-! ### The order of inputs (R139, R140) -/

/-- Class of an input among those of one tick and port: 3 is a change of budget and 4 a host command, which have commands of their own. -/
def InKind.rank (k : InKind) : Nat :=
  match k with
  | .attach _ | .detach | .openFast => 0
  | .message _ => 1
  | .timer _ => 2

/-- Place of an input among the pending ones: its tick counted back from now modulo 2^48, its port, its class. -/
def State.place (s : State) (tick : Nat) (n : Port) (rank : Nat) : Nat := ((2 ^ 48 - s.since tick) * 8 + n.val) * 5 + rank

/-- An input may be taken: a message that waits for its GoodCRC may not (R175). -/
def Input.ready (i : Input) : Bool := match i.kind with | .message m => !m.unacked | _ => true

/-- The lower place of two, the first where they are equal. -/
def lowerPlace (b : Option (Nat × Nat)) (a : Nat × Nat) : Option (Nat × Nat) :=
  match b with
  | none => some a
  | some x => if a.1 < x.1 then some a else b

/-- Place and index of the input that a hearth takes next, among those of the ports it drives that satisfy `p`. -/
def State.nextInput (s : State) (h : Hth) (p : Input → Bool) : Option (Nat × Nat) :=
  let own := (s.inputs.zipIdx.filter fun a => s.driver a.1.port = h && a.1.ready && p a.1).map fun a =>
    (s.place a.1.tick a.1.port a.1.kind.rank, a.2)
  own.foldl lowerPlace none

/-- A message is taken: one whose tag is stale is dropped and counted (R118). -/
def State.accepts (s : State) (n : Port) (m : Msg) : State × Bool :=
  if m.epoch = s.get (F.POL_SEQ_epoch n) then (if m.sop = 0 then s.set (F.POL_STATUS_pd_partner n) 1 else s, true)
  else (((s.event (F.MSG_EVENT_stale_rx n)).soot 0 n), false)

/-- An input of a port is taken. -/
def State.inputTake (s : State) (i : Input) : State :=
  let n := i.port
  match i.kind with
  | .attach type => s.attachTake n type
  | .detach => s.detachTake n
  | .openFast => (s.collapse n 2).transitionAbort n
  | .message m =>
    let (t, ok) := s.accepts n m
    if ok then t.messageTake n m else t
  | .timer c =>
    match c with
    | 1 => s.tryExpiry n
    | 2 => s.tryTimeoutTake n
    | 3 => if s.sinking n then s.sinkRequest n true else s
    | 4 => if s.seqOf n = .eprAsked ∨ s.seqOf n = .eprAcked then s.softResetSend n else s
    | _ => s

/-- The input at an index leaves the list and is taken. -/
def State.takeAt (s : State) (k : Nat) : State :=
  match s.inputs[k]? with
  | none => s
  | some i => ({ s with inputs := s.inputs.eraseIdx k } : State).inputTake i

/-- The Sequencer of a hearth takes its next pending input (R139). -/
def State.policyTake (s : State) (h : Hth) : State :=
  match s.nextInput h fun _ => true with
  | none => s
  | some a => s.takeAt a.2

/-- A hearth takes its pending inputs in order, at most `k` of them, up to a place. -/
def State.takeBefore : Nat → Hth → Nat → State → State
  | 0, _, _, s => s
  | k + 1, h, q, s =>
    match s.nextInput h fun _ => true with
    | some a => if a.1 < q then State.takeBefore k h q (s.takeAt a.2) else s
    | none => s

/-- What an input of a class finds on this tick: the pending inputs that come before it have been taken (R139, R140). A report of the power
side is a class 0 input. -/
def State.policyBefore (s : State) (n : Port) (rank : Nat) : State :=
  State.takeBefore s.inputs.length (s.driver n) (s.place s.tbase.toNat n rank) s

/-- A waiting message of a port that satisfies `p` is taken, after the pending inputs that come before it. -/
def State.takeNext (s : State) (n : Port) (p : Msg → Bool) : State :=
  match s.nextInput (s.driver n) fun i => i.port = n && (match i.kind with | .message m => p m | _ => false) with
  | some a => State.takeBefore s.inputs.length (s.driver n) (a.1 + 1) s
  | none => s

/-- The GoodCRC of a message that waited for it has been sent: the message is an input from now on (R175). -/
def Input.acked (n : Port) (now : Nat) (i : Input) : Input :=
  match i.kind with
  | .message m => if i.port = n ∧ m.unacked then { i with tick := now, kind := .message { m with unacked := false } } else i
  | _ => i

/-- The GoodCRC has been sent: what acts at its acknowledgement acts. -/
def State.ackActs (s : State) (n : Port) : State :=
  let t : State := { s with inputs := s.inputs.map (Input.acked n s.tbase.toNat) }
  t.takeNext n fun m => t.actsAtAck n m

end Sys2Proof.Machine
end

