-- ==== Sys2Proof/Machine/Msg.lean ====
section
/-! DEFINITION. The Message Layer and the shared buffer pool (chapter 6): frames received and sent, acknowledgement, retries, chunks, slots. -/

namespace Sys2Proof.Machine

/-! ### The pool (R131-R134) -/

/-- Two ports draw on one pool: in Split, the ports of one hearth. -/
def State.samePool (s : State) (n m : Port) : Bool := s.hearths.mode ≠ .split || s.driver n = s.driver m

/-- Shared slots of a pool. -/
def State.poolSize (s : State) : Nat := if s.hearths.mode = .split then 40 else 32

/-- A message among the inputs of a port. -/
def inputMsgs (n : Port) : List Input → List Msg
  | [] => []
  | i :: l => match i.kind with
    | .message m => if i.port = n then m :: inputMsgs n l else inputMsgs n l
    | _ => inputMsgs n l

/-- Every message that holds or waits for a slot on a port. -/
def State.msgsOf (s : State) (n : Port) : List Msg :=
  let x := s.msg.get n
  x.queue ++ x.current.toList ++ x.aside.toList ++ x.assembly.toList ++ inputMsgs n s.inputs

/-- Shared slots that a port holds. -/
def State.heldShared (s : State) (n : Port) : Nat := ((s.msgsOf n).filter fun m => m.slot = .shared).length

/-- Shared slots free in the pool of a port. -/
def State.poolFree (s : State) (n : Port) : Nat :=
  s.poolSize - (((List.finRange 8).filter fun m => s.samePool n m).map s.heldShared).sum

/-- A port may take a shared slot now. -/
def State.sharedOk (s : State) (n : Port) : Bool := s.heldShared n < s.get (F.MSG_POOL_CFG_max_shared n) && 0 < s.poolFree n

/-- low_water follows pool_free down (Table 6.7). -/
def State.lowWater (s : State) : State :=
  s.allPorts fun t n => t.set (F.MSG_POOL_STATUS_low_water n) (min (t.get (F.MSG_POOL_STATUS_low_water n)) (t.poolFree n))

/-- Transmit requests that were granted on this tick stand back for a receive request (R132), to be granted again behind it: those of the port
itself where it is at its cap, those of its pool where that is dry. -/
def State.grantBack (s : State) (n : Port) : State :=
  let dry := s.poolFree n = 0
  s.allPorts fun t m =>
    if m = n || dry && t.samePool n m then t.modMsg m fun x => { x with queue := x.queue.map fun y =>
      if y.slot = .shared ∧ y.granted = t.tbase.toNat then { y with slot := .waiting } else y }
    else t

/-- A message among the inputs that a port received on this tick moves from its shared slot to the receive slot. -/
def rxMove (n : Port) (tick : Nat) (l : List Input) : List Input :=
  l.map fun i => match i.kind with
    | .message m => if i.port = n ∧ i.tick = tick ∧ m.slot = .shared then { i with kind := .message { m with slot := .receive } } else i
    | _ => i

/-- The chunk 0 that a port received on this tick moves likewise. -/
def State.rxMoveHeld (s : State) (n : Port) (tick : Nat) : State :=
  s.modMsg n fun x => { x with assembly := x.assembly.map fun m => if m.granted = tick ∧ m.slot = .shared then { m with slot := .receive } else m }

/-- A port holds its receive slot. -/
def State.rxHeld (s : State) (n : Port) : Bool := (s.msgsOf n).any fun m => m.slot = .receive

/-- The slot that a received message takes (R131, R132): a shared one, else the receive slot where it is free. Receive requests come before
the transmit requests of their tick, and those of one tick in ascending port order. -/
def State.rxSlot (s : State) (n : Port) : State × Option Slot :=
  let now := s.tbase.toNat
  let s := if s.sharedOk n then s else s.grantBack n
  if s.sharedOk n then (s, some .shared)
  else
    let taken (m : Port) : Bool :=
      (s.inputs.any fun i => i.port = m && i.tick = now && (match i.kind with | .message x => x.slot = .shared | _ => false)) ||
        (s.msg.get m).assembly.any fun x => x.granted = now && x.slot = .shared && x.chunk = 0
    let later := (List.finRange 8).reverse.find? fun m => n < m && s.samePool n m && !s.rxHeld m && taken m
    match (if s.heldShared n < s.get (F.MSG_POOL_CFG_max_shared n) then later else none) with
    | some m => (({ s with inputs := rxMove m now s.inputs } : State).rxMoveHeld m now, some .shared)
    | none => (s, if s.rxHeld n then none else some .receive)

/-- Age of a request in ticks, modulo 2^32 (Table 6.3, R72). -/
def State.ageOf (s : State) (m : Msg) : Nat := (s.tbase.toNat + 2 ^ 48 - m.tbase) % 2 ^ 32

/-- The waiting request to grant next: critical before ordinary, oldest first, ties by port. -/
def State.grantNext (s : State) : Option (Port × Nat) :=
  let all : List (Nat × Port × Nat) := (List.finRange 8).flatMap fun n =>
    if s.sharedOk n then
      ((s.msg.get n).queue.zipIdx.filter fun a => a.1.slot = .waiting).map fun a =>
        (((((if a.1.critical then 0 else 1) + 1) * 2 ^ 32 - s.ageOf a.1) * 8 + n.val) * 1024 + a.2, n, a.2)
    else []
  let best := all.foldl (fun (b : Option (Nat × Port × Nat)) a =>
    match b with | none => some a | some x => if a.1 < x.1 then some a else b) none
  best.map fun b => b.2

/-- Grant requests until none can be granted. -/
def State.grantAll : Nat → State → State
  | 0, s => s
  | k + 1, s =>
    match s.grantNext with
    | some (n, i) => State.grantAll k (s.modMsg n fun m => { m with queue := m.queue.modify i fun x =>
        { x with slot := .shared, granted := s.tbase.toNat } })
    | none => s

/-- The allocation of a tick (R132): requests are granted, at most the 80 slots of both pools in Split, and one that waits for the first
time sets pool_wait (R133). -/
def State.poolGrant (s : State) : State :=
  let t := (s.grantAll 80).lowWater
  t.allPorts fun t n =>
    if (t.msg.get n).queue.any fun m => m.slot = .waiting && !m.waited then
      (t.modMsg n fun m => { m with queue := m.queue.map fun x => if x.slot = .waiting then { x with waited := true } else x }).event
        (F.MSG_EVENT_pool_wait n)
    else t

def execPoolSlotGrant (s : State) : Host.Outcome State Fault Refusal := .next s.poolGrant

/-! ### Headers (PRESUMED layout) -/

/-- Number of data bytes of the frame under way of a message: a chunk of an extended message (R128). -/
def Msg.chunkBytes (m : Msg) : List Byte := (m.data.drop m.chunk).take 26

/-- The message is extended. -/
def Msg.extended (m : Msg) : Bool := bitOf m.header 15

/-- Another chunk follows the one under way. -/
def Msg.more (m : Msg) : Bool := m.extended && m.chunk + 26 < m.data.length

/-- The header of a frame: type, roles, revision, MessageID, number of objects (R115, R117). -/
def State.frameHeader (s : State) (n : Port) (m : Msg) : Nat :=
  let nobj := if m.extended then ceilDiv (2 + m.chunkBytes.length) 4 else m.header / 4096 % 8
  let roles := if m.sop = 0 then s.get (F.POL_STATUS_data_role n) * 32 + s.get (F.POL_STATUS_power_role n) * 256 else 0
  m.header % 32 + roles + m.rev * 64 + ((s.msg.get n).txId[m.sop]?.getD 0) * 512 + nobj * 4096 + (if m.extended then 32768 else 0)

def hdrRev (h : Nat) : Nat := h / 64 % 4
def hdrId (h : Nat) : Nat := h / 512 % 8

/-! ### Sending (R114, R119-R124, R126) -/

/-- A message handed over as it stands begins a sequence, by its type and content (PRESUMED from USB Power Delivery): GotoMin, a Get, a swap,
Soft_Reset, an alert, a request of information, a VDM request. -/
def Msg.initiates (m : Msg) : Bool :=
  [2, 7, 8, 9, 10, 11, 13, 14, 17, 18, 20, 21, 22, 23, 24, 35, 38, 39, 40, 67, 68, 70, 72, 74].contains m.ty || m.isRequest ||
    m.ty = pdVdm && !m.isSvdm || m.ty = pdExtControl && [1, 2].contains (m.data.head?.getD 0).toNat

/-- The message would start an Atomic Message Sequence of the port's own, with its partner or with a cable plug (R126; log 104). -/
def State.startsAms (s : State) (n : Port) (m : Msg) : Bool :=
  match m.purpose with
  | .ask | .eprEnter | .eprExit | .vdmAsk | .hostTx | .keepAlive | .softReset => true
  | .caps => s.sourcing n
  | .plain => m.initiates
  | _ => false

/-- A source's message waits: SinkTxNG has still to be presented, or tSinkTx runs (R126). -/
def State.sinkTxHeld (s : State) (n : Port) (m : Msg) : Bool :=
  s.startsAms n m && s.pd3 n && s.flag (F.POL_STATUS_explicit n) && s.sourcing n &&
    (s.running .sinkTx n.val || (s.pol.get n).sinkTx && !s.flag (F.MSG_STATUS_sinktx_ng n))

/-- A source that has a sequence of its own to send, and has not presented SinkTxNG for one, presents it and waits tSinkTx (R126). -/
def State.sourceNg (s : State) (n : Port) : State :=
  if !s.flag (F.MSG_STATUS_sinktx_ng n) && (s.msg.get n).queue.any fun m => m.slot = .shared && s.sinkTxHeld n m then s.amsStart n else s

/-- A sink's requests for a sequence of its own sample the Rp level (R107, R126): where it is not SinkTxOk, Rp 3.0 A, they wait for a
debounced change of it. STATUS.sinktx_ng shows SinkTxNG, Rp 1.5 A. -/
def State.sinkSample (s : State) (n : Port) : State :=
  if s.pd3 n && s.sinking n && (s.msg.get n).queue.any fun m => s.startsAms n m && m.slot = .shared && !m.heldNg then
    let c := s.cc.get n
    let level := ccCode 1 c.thr (if s.bmcPin n then c.mv2 else c.mv1)
    let t := s.setB (F.MSG_STATUS_sinktx_ng n) (level = 6)
    if level = 7 then t
    else t.modMsg n fun x => { x with queue := x.queue.map fun m => if s.startsAms n m ∧ m.slot = .shared then { m with heldNg := true } else m }
  else s

/-- Frames of a SOP type are sent: on SOP' and SOP'' only while the port sources VCONN and with their enables (Table 6.1). -/
def State.sopOpen (s : State) (n : Port) (sop : Nat) : Bool :=
  sop = 0 || s.flag (F.POL_STATUS_vconn_src n) && s.flag (if sop = 1 then F.MSG_CONFIG_sop1_en n else F.MSG_CONFIG_sop2_en n)

/-- Frames received on a SOP type are taken (R116); what a wait that already runs is for is taken whatever the enable has become (R135). -/
def State.sopTaken (s : State) (n : Port) (sop : Nat) (goodcrc : Bool) : Bool :=
  let x := s.msg.get n
  let waits : Bool := if goodcrc then x.phase = .awaiting && x.current.any (·.sop = sop)
    else x.assembly.any (·.sop = sop) || x.aside.any (·.sop = sop) || x.phase = .chunkWait && x.current.any (·.sop = sop)
  s.sopOpen n sop || s.flag (F.POL_STATUS_vconn_src n) && waits

/-- The index of the message whose turn it is: critical before ordinary, oldest first, among those that hold a slot and may be sent. -/
def State.turnIndex (s : State) (n : Port) : Option Nat :=
  let q := (s.msg.get n).queue
  let ready (m : Msg) : Bool := m.slot = .shared && !m.heldNg && !s.sinkTxHeld n m && s.sopOpen n m.sop
  match q.findIdx? fun m => ready m && m.critical with
  | some i => some i
  | none => q.findIdx? ready

/-- Messages whose transmission leaves tracking in place (Table 9.6 reason 1): keep-alives, and a repeat with its Accept and PS_RDY. -/
def State.exemptTx (s : State) (n : Port) (m : Msg) : Bool :=
  m.sop ≠ 0 || m.purpose = .acceptRepeat || m.purpose = .readyRepeat ||
    (m.ty = pdExtControl && ((m.data.head?.getD 0) = 3 || (m.data.head?.getD 0) = 4)) ||
    (m.purpose = .ask && (m.ty = pdRequest || m.ty = pdEprRequest) && (match (s.pol.get n).new with | some c => s.isRepeat n c | none => false))

/-- BMC_STATUS.tx_div at a frame boundary (R105): the tick rate in kHz over 300, rounded. -/
def State.divShow (s : State) (n : Port) : State := s.set (F.CC_BMC_STATUS_tx_div n) ((2 * s.tickKhz + 300) / 600)

/-- A frame begins: the transmitter is busy, the revision of the frame stands (R135), and tracking collapses unless the message is
exempt. -/
def State.frameStart (s : State) (n : Port) (m : Msg) : State :=
  let t := if s.exemptTx n m then s else s.collapse n 1
  let t := if m.purpose = .ask ∧ m.sop = 0 then t.swapBegin n else t
  let t := (t.modMsg n fun x => { x with current := some { m with rev := s.revOf n m.sop }, phase := .frame }).busyOn n
  (t.set (F.MSG_STATUS_tx_active n) 1).divShow n

/-- A collision is counted (R122). -/
def State.collision (s : State) (n : Port) : State := (s.event (F.MSG_EVENT_collision n)).soot 3 n

/-- A message of the queue leaves it. -/
def State.queueTake (s : State) (n : Port) (i : Nat) : State := s.modMsg n fun y => { y with queue := y.queue.eraseIdx i }

/-- A message's start against the line (R106, R122); `i` is its place in the queue, none for a repeat or a further chunk. A deferred message
stays where it is. Each turn that finds the line busy sets the events and counts (DESIGN CHOICE, log 72: R122 does not say whether a line
still busy is a further collision). -/
def State.startOn (s : State) (n : Port) (m : Msg) (i : Option Nat) (line : Line) : State :=
  let out : State := match i with | some k => s.queueTake n k | none => s.modMsg n fun x => { x with current := none }
  match line with
  | .idle => out.frameStart n m
  | .message => ((out.collision n).event (F.CC_EVENT_tx_collision n)).txLost n m false
  | .other => (s.collision n).event (F.CC_EVENT_tx_collision n)

/-- A pending signal begins, without the idle check (R124, R127). -/
def State.signalStart (s : State) (n : Port) : State :=
  let t := (s.modMsg n fun m => { m with sigOn := true }).busyOn n
  ((t.set (F.MSG_STATUS_tx_active n) 1).divShow n).stop .signal n.val

/-- A message's turn (R119, R120, R122): its tag is compared, and with PD 2.0 an extended message is not sent (R115): it is dropped, and policy
told (DESIGN CHOICE, log 73). -/
def State.turnOf (s : State) (n : Port) (m : Msg) (i : Option Nat) (line : Line) : State :=
  let out : State := match i with | some k => s.queueTake n k | none => s.modMsg n fun x => { x with current := none }
  if m.epoch ≠ s.get (F.POL_SEQ_epoch n) then (out.countStale n).txLost n m true
  else if m.extended && s.revOf n m.sop = 1 then out.txLost n m true
  else s.startOn n m i line

/-- The turn of the waiting message at an index. -/
def State.turnAt (s : State) (n : Port) (i : Option Nat) (line : Line) : State :=
  match i with
  | none => s
  | some k =>
    match (s.msg.get n).queue[k]? with
    | none => s
    | some m => s.turnOf n m (some k) line

/-- The turn while an extended message of the port's own waits for its Chunk Request: the port's own Chunk Requests only are sent, which are due
within 100 µs (R129; DESIGN CHOICE, log 105: the spec does not say whether other messages are sent meanwhile). -/
def State.turnAside (s : State) (n : Port) (line : Line) : State :=
  match (s.msg.get n).queue.findIdx? fun m => m.purpose = .chunkRequest && m.slot = .shared && s.sopOpen n m.sop with
  | none => s
  | some k =>
    let t := s.modMsg n fun x => if x.phase = .chunkWait then { x with aside := x.current, current := none, phase := .idle } else x
    t.turnAt n (some k) line

/-- The turn of the messages: a frame to be repeated or continued, which is lost with the VCONN that its SOP type needs; then those that wait. -/
def State.messageTurn (s : State) (n : Port) (line : Line) : State :=
  match (s.msg.get n).current with
  | some m => if s.sopOpen n m.sop then s.turnOf n m none line else (s.modMsg n fun x => { x with current := none }).txLost n m false
  | none =>
    if (s.msg.get n).aside.isSome then s.turnAside n line
    else
      let t := (s.sinkSample n).sourceNg n
      t.turnAt n (t.turnIndex n) line

/-- A turn of the port's transmitter: a signal first, Cable Reset only while the port sources VCONN (Table 6.1); then the messages. -/
def State.transmitTurn (s : State) (n : Port) (line : Line) : State :=
  let x := s.msg.get n
  if x.sigOn ∨ x.phase = .frame then s
  else
    match x.signal with
    | .hardReset => s.signalStart n
    | .cableReset =>
      if s.flag (F.POL_STATUS_vconn_src n) then s.signalStart n else (s.modMsg n fun m => { m with signal := .empty }).stop .signal n.val
    | .goodcrc _ _ => s
    | .empty =>
      match x.phase with
      | .idle => s.messageTurn n line
      | .chunkWait => s.turnAside n line
      | _ => s

def execTransmitTurn (n : Port) (line : Line) (s : State) : Host.Outcome State Fault Refusal := .next (s.transmitTurn n line)

/-- The GoodCRC of a stored message starts (R127): unless a Hard Reset has replaced it. -/
def State.goodcrcTransmit (s : State) (n : Port) : State :=
  match (s.msg.get n).signal with
  | .goodcrc _ _ => if (s.msg.get n).sigOn then s else s.signalStart n
  | _ => s

def execGoodcrcTransmit (n : Port) (s : State) : Host.Outcome State Fault Refusal := .next (s.goodcrcTransmit n)

/-- A message is handed over for transmission by policy or the Phrasebook (R119). -/
def execMessageHandover (n : Port) (sop : Fin 3) (ty : BitVec 7) (data : List Byte) (s : State) : Host.Outcome State Fault Refusal :=
  .next (s.handover n sop.val ty.toNat data .plain)

/-- A waiting message of a port, by its place in the queue, is withdrawn (R121): it counts nowhere. With the offer handed over last the draft
goes that it was made of. -/
def State.withdraw (s : State) (n : Port) (k : Nat) : State :=
  match (s.msg.get n).queue[k]? with
  | some m =>
    if m.purpose = .caps ∧ offerTaken (s.msg.get n).queue = (s.msg.get n).queue.eraseIdx k ∧ (s.pol.get n).draft.any (·.handed) then
      s.draftDrop n
    else s.queueTake n k
  | none => s

def execMessageWithdraw (which : QueuePlace) (s : State) : Host.Outcome State Fault Refusal := .next (s.withdraw which.port which.place)

/-- nRetryCount at the revision of a message's frame (Table 6.1). -/
def Msg.retryCount (m : Msg) : Nat := if m.rev = 1 then 3 else 2

/-- The wait for GoodCRC ends. -/
def State.awaitEnd (s : State) (n : Port) : State :=
  ((s.modMsg n fun m => { m with phase := .idle }).set (F.MSG_STATUS_awaiting_goodcrc n) 0).stop .tReceive n.val

/-- tReceive expires (R123). -/
def State.tReceiveExpiry (s : State) (n : Port) : State :=
  match (s.msg.get n).phase, (s.msg.get n).current with
  | .awaiting, some m =>
    let t := s.awaitEnd n
    if m.retries < m.retryCount then t.modMsg n fun x => { x with current := some { m with retries := m.retries + 1 } }
    else
      let t := t.modMsg n fun x => { x with current := none }
      ((t.event (F.MSG_EVENT_retry_exhausted n)).soot 2 n).txFail n m
  | _, _ => s

def execTreceiveExpiry (n : Port) (s : State) : Host.Outcome State Fault Refusal := .next (s.tReceiveExpiry n)

/-- The role epoch has changed during a GoodCRC wait (R123). -/
def State.epochAbandon (s : State) (n : Port) : State :=
  match (s.msg.get n).phase, (s.msg.get n).current with
  | .awaiting, some m =>
    if m.epoch ≠ s.get (F.POL_SEQ_epoch n) then (((s.awaitEnd n).modMsg n fun x => { x with current := none }).countStale n).txLost n m true
    else s
  | _, _ => s

def execEpochChangeAbandon (n : Port) (s : State) : Host.Outcome State Fault Refusal := .next (s.epochAbandon n)

def execHardResetRequest (n : Port) (s : State) : Host.Outcome State Fault Refusal := .next (s.hardResetRequest n)

/-- Cable Reset is requested (R124, R188): after two abandoned SOP' messages on a cable that had answered, while VCONN is sourced. A frame in
progress is aborted, and policy told of it; what waits for GoodCRC, a Chunk Request or tSinkTx waits on. While a Hard Reset stands in the
signal slot the request does nothing (DESIGN CHOICE, log 106). -/
def State.cableResetRequest (s : State) (n : Port) : State :=
  let p := s.pol.get n
  if 2 ≤ p.cableFails ∧ p.cableSeen ∧ s.flag (F.POL_STATUS_vconn_src n) ∧ (s.msg.get n).signal ≠ .hardReset then
    let t := (s.frameAbort n).modMsg n fun m => { m with signal := .cableReset }
    let t := (t.modPol n fun p => { p with cableFails := 0 }).start .signal n.val (s.us (s.get (F.MSG_CONFIG_ifg_us n)))
    match (s.msg.get n).phase, (s.msg.get n).current with
    | .frame, some m => t.txLost n m false
    | _, _ => t
  else s

def execCableResetRequest (n : Port) (s : State) : Host.Outcome State Fault Refusal := .next (s.cableResetRequest n)

/-- Cable Reset has been sent (Table 8.6, R188). -/
def State.cableResetSent (s : State) (n : Port) : State :=
  let t := (((s.set F.DEV_RESET_CAUSE_cause 5).idReset n [1, 2]).dropQueue n fun m => m.sop ≠ 0).revsClear n [1, 2]
  (t.vconnOff n).start .cableReset n.val (s.ms 15)

/-- The 15 ms are over: VCONN closes again under R102, and the cable is identified. -/
def State.vconnRestore (s : State) (n : Port) : State :=
  if s.running .cableReset n.val then ((s.stop .cableReset n.val).vconnOn n).cableIdentify n else s

def execVconnRestoreAfterCableReset (n : Port) (s : State) : Host.Outcome State Fault Refusal :=
  .next ((s.policyBefore n 2).vconnRestore n)

def execHardResetReceived (n : Port) (s : State) : Host.Outcome State Fault Refusal := .next ((s.policyBefore n 1).hardResetReceived n)

/-- tSinkTx has passed (R126). -/
def execSinktxWaitExpiry (n : Port) (s : State) : Host.Outcome State Fault Refusal := .next (s.stop .sinkTx n.val)

/-! ### Delivery and the end of a frame (R123, R128, R175) -/

/-- A frame is acknowledged: the counter advances, and the message is delivered or its next chunk is awaited. -/
def State.acknowledged (s : State) (n : Port) (m : Msg) : State :=
  let t := s.awaitEnd n
  let bumpId (v : Vector Nat 3) : Vector Nat 3 := Vector.ofFn fun i => if i.val = m.sop then (v.get i + 1) % 8 else v.get i
  let hdr := s.frameHeader n m
  let t := t.modMsg n fun x => { x with txId := bumpId x.txId }
  if m.more then
    (t.modMsg n fun x => { x with current := some { m with chunk := m.chunk + 26, retries := 0 }, phase := .chunkWait }).start .chunkSend n.val (s.ms 27)
  else
    let t := t.modMsg n fun x => { x with current := none }
    let t := ((t.set (F.MSG_LAST_TX_HDR_sop n) m.sop).set (F.MSG_LAST_TX_HDR_epoch n) m.epoch).set (F.MSG_LAST_TX_HDR_header n) hdr
    t.delivered n m

/-- The GoodCRC has been sent: the stored message is acknowledged, and the next chunk is asked for, once (R129, R175). -/
def State.goodcrcSent (s : State) (n : Port) : State :=
  let t := s.ackActs n
  match (t.msg.get n).assembly with
  | some m =>
    if (t.msg.get n).chunkDue then
      (t.modMsg n fun x => { x with chunkDue := false }).handover n m.sop m.ty
        (wordsBytes [BitVec.ofNat 32 (32768 + 2048 * (t.msg.get n).nextChunk + 1024)]) .chunkRequest
    else t
  | none => t

/-- The transmitter finishes a frame or ordered set. -/
def State.eopSent (s : State) (n : Port) : State :=
  let x := s.msg.get n
  let t := ((s.busyOff n).set (F.MSG_STATUS_tx_active n) 0).divShow n
  if x.sigOn then
    let t := t.modMsg n fun m => { m with sigOn := false, signal := .empty }
    match x.signal with
    | .hardReset => (t.modPol n fun p => { p with hardResets := p.hardResets + 1 }).hardResetBegin n 1
    | .cableReset => t.cableResetSent n
    | .goodcrc _ _ => t.goodcrcSent n
    | .empty => t
  else
    match x.phase, x.current with
    | .frame, some m =>
      let t := ((t.modMsg n fun y => { y with phase := .awaiting }).set (F.MSG_STATUS_awaiting_goodcrc n) 1).start .tReceive n.val (s.ms 1)
      if m.purpose = .chunkRequest then t.start .chunkRecv n.val (s.ms 27) else t
    | _, _ => s

def execEopSent (n : Port) (s : State) : Host.Outcome State Fault Refusal := .next (s.eopSent n)

/-- An outgoing extended message is abandoned (R128). -/
def State.chunkFail (s : State) (n : Port) : State :=
  match (s.msg.get n).phase, (s.msg.get n).current with
  | .chunkWait, some m =>
    let t := (s.modMsg n fun x => { x with current := none, phase := .idle }).stop .chunkSend n.val
    (t.event (F.MSG_EVENT_chunk_timeout n)).txFail n m
  | _, _ =>
    match (s.msg.get n).aside with
    | some m =>
      let t := (s.modMsg n fun x => { x with aside := none }).stop .chunkSend n.val
      (t.event (F.MSG_EVENT_chunk_timeout n)).txFail n m
    | none => s

def execChunkSenderTimeout (n : Port) (s : State) : Host.Outcome State Fault Refusal := .next (s.chunkFail n)

/-- The next chunk of an assembly has not come (R129). -/
def State.chunkRecvTimeout (s : State) (n : Port) : State :=
  if (s.msg.get n).assembly.isSome then (s.rxStop n).event (F.MSG_EVENT_chunk_timeout n) else s

def execChunkReceiverTimeout (n : Port) (s : State) : Host.Outcome State Fault Refusal := .next (s.chunkRecvTimeout n)

/-! ### Receiving (R115-R118, R129, R130, R134) -/

/-- The revision of a SOP type is fixed (R115). -/
def State.revFix (s : State) (n : Port) (sop rev : Nat) : State :=
  let f := match sop with | 0 => F.MSG_STATUS_rev_sop n | 1 => F.MSG_STATUS_rev_sop1 n | _ => F.MSG_STATUS_rev_sop2 n
  if s.get f ≠ 0 then s else (s.set f (min (s.get (F.MSG_CONFIG_rev_max n)) rev)).event (F.MSG_EVENT_rev_changed n)

/-- A new Security_Request discards one of the port that policy has not taken yet (R228). -/
def State.authSupersede (s : State) (n : Port) (m : Msg) : State :=
  let old (i : Input) : Bool := i.port = n && (match i.kind with | .message x => x.ty = pdSecurityRequest && x.sop = 0 | _ => false)
  if m.ty = pdSecurityRequest ∧ m.sop = 0 ∧ s.inputs.any old then
    ({ s with inputs := s.inputs.filter fun i => !old i } : State).authError n 0
  else s

/-- A complete message is passed to policy, tagged with the role epoch (R118). An Accept, a PS_RDY and the answer to a VDM count from their
acknowledgement (R175, R204). -/
def State.toPolicy (s : State) (n : Port) (m : Msg) : State :=
  let late : Bool := m.sop = 0 && (m.ty = pdAccept || m.ty = pdPsRdy || (m.isSvdm && !m.isRequest))
  let s := s.authSupersede n m
  { s with inputs := s.inputs ++ [{ tick := s.tbase.toNat, port := n, kind := .message { m with unacked := late } }] }

/-- The GoodCRC of a stored frame is due (R127). -/
def State.goodcrcDue (s : State) (n : Port) (sop id : Nat) : State :=
  (s.modMsg n fun m => { m with signal := .goodcrc sop id }).start .signal n.val (s.us (s.get (F.MSG_CONFIG_ifg_us n)))

/-- The extended header of a frame. -/
def Msg.extHdr (m : Msg) : Nat := (m.data[0]?.getD 0).toNat + 256 * (m.data[1]?.getD 0).toNat

/-- A chunk continues the message that is being assembled: its SOP type and message type are that message's, and it is not chunk 0. -/
def State.continues (s : State) (n : Port) (m : Msg) : Bool :=
  match (s.msg.get n).assembly with
  | some a => m.extended && a.sop = m.sop && a.ty = m.ty && m.extHdr / 2048 % 16 ≠ 0
  | none => false

/-- A chunk of an incoming extended message (R129, R130). One that is not chunked is not supported (Table 6.1): it is discarded with
ext_invalid (DESIGN CHOICE, log 74). Chunk 0 while another chunk is awaited begins a new message and ends the assembly without ext_invalid
(DESIGN CHOICE, log 75: R129 leaves open whether it is out of order or another message). -/
def State.chunkIn (s : State) (n : Port) (m : Msg) : State :=
  let size := m.extHdr % 512
  let num := m.extHdr / 2048 % 16
  let body := (m.data.drop 2).take 26
  let bad (t : State) : State := (t.rxStop n).event (F.MSG_EVENT_ext_invalid n)
  if 260 < size ∨ ¬ bitOf m.extHdr 15 then bad s
  else if num = 0 then
    let t := s.rxStop n
    let whole := { m with data := body.take size }
    if size ≤ 26 then t.toPolicy n whole
    else (t.modMsg n fun x => { x with assembly := some whole, nextChunk := 1, chunkDue := true }).set (F.MSG_STATUS_rx_active n) 1
  else
    match (s.msg.get n).assembly with
    | none => bad s
    | some a =>
      if !s.continues n m ∨ num ≠ (s.msg.get n).nextChunk then bad s
      else
        let whole := { a with data := (a.data ++ body).take size, tbase := m.tbase, epoch := m.epoch, header := m.header }
        if size ≤ 26 * (num + 1) then (s.rxStop n).toPolicy n whole
        else (s.modMsg n fun x => { x with assembly := some whole, nextChunk := num + 1, chunkDue := true }).stop .chunkRecv n.val

/-- A Chunk Request from the partner (R128): on the SOP type and for the message under way the next chunk goes on, any other chunk abandons
the message. One for another message is none of this wait. -/
def State.chunkAsked (s : State) (n : Port) (r : Msg) : State :=
  match (s.msg.get n).phase, (s.msg.get n).current with
  | .chunkWait, some m =>
    if r.sop ≠ m.sop ∨ r.ty ≠ m.ty then s
    else if 26 * (r.extHdr / 2048 % 16) = m.chunk then (s.modMsg n fun x => { x with phase := .idle }).stop .chunkSend n.val
    else s.chunkFail n
  | _, _ =>
    match (s.msg.get n).aside with
    | some m =>
      if r.sop ≠ m.sop ∨ r.ty ≠ m.ty then s
      else if 26 * (r.extHdr / 2048 % 16) = m.chunk ∧ (s.msg.get n).current.isNone then
        (s.modMsg n fun x => { x with current := some m, aside := none }).stop .chunkSend n.val
      else s.chunkFail n
    | none => s

/-- A valid message other than GoodCRC ends a wait for GoodCRC: the outgoing message is discarded (R123). -/
def State.rxCollision (s : State) (n : Port) : State :=
  match (s.msg.get n).phase, (s.msg.get n).current with
  | .awaiting, some m => (((s.awaitEnd n).modMsg n fun x => { x with current := none }).collision n).txLost n m false
  | _, _ => s

/-- A valid frame that takes a slot: stored, its GoodCRC due, and passed on. -/
def State.frameStore (s : State) (n : Port) (sop : Nat) (m : Msg) : State :=
  let h := m.header
  let soft : Bool := m.ty = pdSoftReset
  let t := if soft then ((s.idReset n [sop]).dropQueue n fun x => x.sop = sop).dropUnder n fun x => x.sop = sop else s
  let t := t.modMsg n fun x => { x with rxId := Vector.ofFn fun i => if i.val = sop then hdrId h else x.rxId.get i }
  let t := (t.revFix n sop (hdrRev h)).goodcrcDue n sop (hdrId h)
  let t := ((t.set (F.MSG_LAST_RX_HDR_sop n) sop).set (F.MSG_LAST_RX_HDR_epoch n) m.epoch).set (F.MSG_LAST_RX_HDR_header n) h
  if m.extended then
    if t.revOf n sop = 1 then t.event (F.MSG_EVENT_ext_invalid n)
    else
      if bitOf m.extHdr 10 then
        let t := t.rxStop n
        (if sop = 0 then t.collapse n 1 else t).chunkAsked n m
      else
        let t := if sop = 0 ∧ ¬ t.exemptRx n { m with data := m.data.drop 2 } then t.collapse n 1 else t
        (t.chunkIn n m).lowWater
  else
    let t := t.rxStop n
    let t := if sop = 0 ∧ ¬ t.exemptRx n m then t.collapse n 1 else t
    (t.toPolicy n m).lowWater

/-- A valid message of a SOP type that the port takes, with its duplicate and slot checks (R117, R123, R129, R134). Every one ends a wait for
GoodCRC. A chunk that continues an assembly needs no slot of its own. -/
def State.frameTake (s : State) (n : Port) (m : Msg) : State :=
  let s := s.rxCollision n
  if ((s.msg.get n).rxId[m.sop]?.getD 8) = hdrId m.header ∧ m.ty ≠ pdSoftReset then s.goodcrcDue n m.sop (hdrId m.header)
  else if s.continues n m then s.frameStore n m.sop { m with slot := .shared }
  else
    match s.rxSlot n with
    | (t, none) => t.event (F.MSG_EVENT_rx_overrun n)
    | (t, some slot) => t.frameStore n m.sop { m with slot := slot }

/-- A frame at the receiver (R116), whose rate is measured over its preamble and lies within 270-330 kbit/s (R105); none comes through while
the BMC pin is isolated (R108). Specification Revision 0b11, which Table 6.1 does not list, is taken as a revision above rev_max
(DESIGN CHOICE, log 76). -/
def State.frameReceived (s : State) (n : Port) (f : Frame) : State :=
  let x := s.msg.get n
  let h := f.header.toNat
  let sop := f.sop.val
  let ty := typeOf h
  let kbps := (126 * s.tickKhz + f.ticks) / (2 * max 1 f.ticks)
  let s := if f.ticks = 0 ∨ s.pinIso n (s.bmcPin n) then s else s.set (F.CC_BMC_STATUS_rx_kbps n) kbps
  if kbps < 270 || 330 < kbps || !(s.cc.get n).attached || s.pinIso n (s.bmcPin n) || x.signal = .hardReset || x.signal = .cableReset then s
  else if !f.good then (s.event (F.MSG_EVENT_crc_fail n)).soot 1 n
  else if 3 ≤ sop then s.event (F.MSG_EVENT_debug_sop_ignored n)
  else if ¬ s.sopTaken n sop (ty = 1) then s
  else if hdrRev h = 0 then s.event (F.MSG_EVENT_rev1_ignored n)
  else if ty = 1 then
    match x.phase, x.current with
    | .awaiting, some m => if m.sop = sop ∧ hdrId h = (x.txId[sop]?.getD 0) then s.acknowledged n m else s
    | _, _ => s
  else
    s.frameTake n
      { port := n, sop := sop, critical := isCritical ty, epoch := s.get (F.POL_SEQ_epoch n), retries := 0,
        tbase := s.tbase.toNat % 2 ^ 32, header := h, data := f.data, chunk := 0, purpose := .plain, slot := .waiting, waited := false,
        granted := s.tbase.toNat, rev := hdrRev h, heldNg := false, unacked := false }

def execFrameReceived (n : Port) (frame : Frame) (s : State) : Host.Outcome State Fault Refusal := .next (s.frameReceived n frame)

/-! ### Registers (R135, R136) -/

/-- Policy is told of a message that a flush drops; an offer is then withdrawn, not made again. -/
def State.flushLost (s : State) (n : Port) (m : Msg) : State :=
  match m.purpose with
  | .caps => (s.modPol n fun p => { p with draft := none }).amsStop n
  | .hostTx => if (s.vdm.get n).ask.isSome then s.vdmAskEnd n else s
  | _ => s.txLost n m true

/-- MSG.CONTROL.flush (R136, R429). -/
def State.msgFlush (s : State) (n : Port) (epoch : Nat) : State :=
  if epoch = s.get (F.POL_SEQ_epoch n) then (s.msg.get n).queue.foldl (fun t m => t.flushLost n m) (s.dropQueue n fun _ => true)
  else (s.eventHost (F.POL_EVENT_stale_cmd n)).soot 0 n

def execMsgFlush (n : Port) (epoch : BitVec 8) (s : State) : Host.Outcome State Fault Refusal :=
  .next (s.answered (portPage n 1) fun s => s.msgFlush n epoch.toNat)

/-- A write of MSG.CONFIG or, for `pool`, POOL_CFG (R135). -/
def State.msgConfigWrite (s : State) (n : Port) (pool : Bool) (v : Word) : State :=
  if pool then
    let m := bitsGet v 0 5
    if outside m 1 16 then s.eventHost (F.MSG_EVENT_cfg_refused n)
    else s.set (F.MSG_POOL_CFG_max_shared n) (keep0 m (s.get (F.MSG_POOL_CFG_max_shared n)))
  else
    let ifg := bitsGet v 8 8
    let rev := bitsGet v 2 2
    if outside ifg 25 40 ∨ rev = 3 then s.eventHost (F.MSG_EVENT_cfg_refused n)
    else
      let t := (s.set (F.MSG_CONFIG_ifg_us n) (keep0 ifg (s.get (F.MSG_CONFIG_ifg_us n)))).set (F.MSG_CONFIG_rev_max n)
        (keep0 rev (s.get (F.MSG_CONFIG_rev_max n)))
      (t.set (F.MSG_CONFIG_sop2_en n) (bitsGet v 1 1)).set (F.MSG_CONFIG_sop1_en n) (bitsGet v 0 1)

def execMsgConfigWrite (n : Port) (pool : Bool) (value : Word) (s : State) : Host.Outcome State Fault Refusal :=
  .next (s.answered (portPage n 1) fun s => s.msgConfigWrite n pool value)

end Sys2Proof.Machine
end

