-- ==== Sys2Proof/Machine/PolicyCmd.lean ====
section
/-! DEFINITION. The Policy Sequencer's inputs: messages, timers, budgets and host commands (chapter 7), and the timers and power events of
transitions, swaps and resets (chapter 8). -/

namespace Sys2Proof.Machine

/-! ### Aborts (R173, R174) -/

def execTransitionAbort (n : Port) (s : State) : Host.Outcome State Fault Refusal := .next ((s.policyBefore n 0).transitionAbort n)

/-- No detach report follows an abort (R174). -/
def State.abortExpiry (s : State) (n : Port) : State :=
  if s.running .abortWait n.val ∧ s.seqOf n = .aborted then (s.stop .abortWait n.val).errorRecovery n else s

def execAbortNoDetach (n : Port) (s : State) : Host.Outcome State Fault Refusal := .next ((s.policyBefore n 2).abortExpiry n)

/-! ### The next input (R139, R140) -/

def execPolicyInputTaken (h : Hth) (s : State) : Host.Outcome State Fault Refusal := .next (s.policyTake h)

/-! ### Messages by name -/

/-- The oldest waiting message of some types on SOP is taken, after what comes before it. -/
def State.takeType (s : State) (n : Port) (tys : List Nat) : State := s.takeNext n fun m => tys.contains m.ty && m.sop = 0

def execRequestReceived (n : Port) (s : State) : Host.Outcome State Fault Refusal := .next (s.takeType n [pdRequest, pdEprRequest])
def execSourceCapsReceived (n : Port) (s : State) : Host.Outcome State Fault Refusal := .next (s.takeType n [pdSourceCaps, pdEprSourceCaps])

def execEprEnterReceived (n : Port) (s : State) : Host.Outcome State Fault Refusal :=
  .next (s.takeNext n fun m => m.ty = pdEprMode && m.sop = 0 && bitsGet (m.words.head?.getD 0) 24 8 = 1)

def execPrSwapReceived (n : Port) (s : State) : Host.Outcome State Fault Refusal := .next (s.takeType n [pdPrSwap])
def execDrSwapReceived (n : Port) (s : State) : Host.Outcome State Fault Refusal := .next (s.takeType n [pdDrSwap])
def execVconnSwapReceived (n : Port) (s : State) : Host.Outcome State Fault Refusal := .next (s.takeType n [pdVconnSwap])

/-- Message types on SOP that some block takes (Table 7.1). -/
def takenTypes : List Nat :=
  [pdAccept, pdReject, pdNotSupported, pdWait, pdPsRdy, pdSoftReset, pdSourceCaps, pdEprSourceCaps, pdRequest, pdEprRequest, pdSinkCaps,
   pdEprSinkCaps, pdEprMode, pdGetSourceCap, pdGetSinkCap, pdPrSwap, pdDrSwap, pdVconnSwap, pdSecurityRequest, pdExtControl, 17, 18, 20, 24]

def execUnsupportedReceived (n : Port) (s : State) : Host.Outcome State Fault Refusal :=
  .next (s.takeNext n fun m => !m.isSvdm && (m.sop ≠ 0 || !takenTypes.contains m.ty))

/-! ### Policy timers (R138, R144, R186, R213) -/

/-- tTypeCSendSourceCap: Source_Capabilities. -/
def State.sourceCapExpiry (s : State) (n : Port) : State :=
  if s.running .sourceCap n.val ∧ s.sourcing n then (s.stop .sourceCap n.val).capsSend n true else s

def execSourceCapTimer (n : Port) (s : State) : Host.Outcome State Fault Refusal := .next ((s.policyBefore n 2).sourceCapExpiry n)

/-- tSenderResponse (R144, R181, R187). -/
def State.senderTimeout (s : State) (n : Port) : State :=
  if s.running .senderResponse n.val then
    let t := s.stop .senderResponse n.val
    match s.seqOf n with
    | .softReset => t.hardResetRequest n
    | .frAsked => t.errorRecovery n
    | _ => t.point13 n
  else s

def execSenderResponseTimeout (n : Port) (s : State) : Host.Outcome State Fault Refusal := .next ((s.policyBefore n 2).senderTimeout n)

/-- tNoResponse: the mask of a sink's Hard Reset is cleared (R186), and point 13 is reached. -/
def State.noResponseExpiry (s : State) (n : Port) : State :=
  if s.running .noResponse n.val then
    let t := s.stop .noResponse n.val
    (if s.seqOf n = .hrSink then t.set (F.CC_STATUS_vbus_mask n) 0 else t).point13 n
  else s

def execNoResponseTimeout (n : Port) (s : State) : Host.Outcome State Fault Refusal := .next ((s.policyBefore n 2).noResponseExpiry n)

/-- tSinkWaitCap: point 13. -/
def State.sinkWaitCapExpiry (s : State) (n : Port) : State :=
  if s.running .sinkWaitCap n.val then (s.stop .sinkWaitCap n.val).point13 n else s

def execSinkWaitCapTimeout (n : Port) (s : State) : Host.Outcome State Fault Refusal := .next ((s.policyBefore n 2).sinkWaitCapExpiry n)

/-- The EPR keep-alive timers: a sink sends EPR_KeepAlive, a source reaches point 13. -/
def State.keepAliveExpiry (s : State) (n : Port) : State :=
  if s.running .keepAlive n.val then
    if s.sourcing n then (s.stop .keepAlive n.val).point13 n
    else (s.keepAliveStart n).initiate n 33
  else s

def execEprKeepaliveTimer (n : Port) (s : State) : Host.Outcome State Fault Refusal := .next ((s.policyBefore n 2).keepAliveExpiry n)

/-- The 8 s of a sink's PPS or AVS contract: a repeat of its Request. -/
def State.reRequestExpiry (s : State) (n : Port) : State :=
  if s.running .reRequest n.val then (s.start .reRequest n.val (s.ms 8000)).initiate n 32 else s

def execSinkRerequestTimer (n : Port) (s : State) : Host.Outcome State Fault Refusal := .next ((s.policyBefore n 2).reRequestExpiry n)

/-- tPPSTimeout on a PPS source contract: Hard Reset (PRESUMED from USB Power Delivery). -/
def State.ppsExpiry (s : State) (n : Port) : State := if s.running .pps n.val then (s.stop .pps n.val).hardResetRequest n else s

def execPpsTimeout (n : Port) (s : State) : Host.Outcome State Fault Refusal := .next ((s.policyBefore n 2).ppsExpiry n)

/-- A changed P_c has been published (R140, R159): tracking above it collapses, and a source drafts, but not where a delivered offer stands
while an image loads (Table 7.11). -/
def State.budgetChange (s : State) (n : Port) : State :=
  let pc := s.get (F.POL_BUDGET_pc n)
  let t := match (s.thn.get n).terms with | some k => if pc < 10 * k.ptrk then s.collapse n 5 else s | none => s
  if s.loadPolicy n && (s.pol.get n).offered then t else t.draft n false

def execBudgetChange (n : Port) (s : State) : Host.Outcome State Fault Refusal := .next ((s.policyBefore n 3).budgetChange n)

/-- min_gap_ms has passed: a routine draft may go. -/
def State.draftGapExpiry (s : State) (n : Port) : State := (s.stop .draftGap n.val).draftTry n

def execDraftGapExpiry (n : Port) (s : State) : Host.Outcome State Fault Refusal := .next ((s.policyBefore n 2).draftGapExpiry n)

/-! ### Host commands (R164, Table 7.12) -/

/-- A command acts. -/
def State.commandAct (s : State) (n : Port) (code arg : Nat) : State :=
  match code with
  | 1 => s.draft n true
  | 2 => s.initiate n 1
  | 3 => s.initiate n 2
  | 4 => s.initiate n 3
  | 5 => s.initiate n 4
  | 6 => s.initiate n 6
  | 7 => s.initiate n 5
  | 8 => s.initiate n 8
  | 9 => s.softResetSend n
  | 10 => s.hardResetRequest n
  | 11 => s.errorRecovery n
  | 12 => s.disablePort n
  | 13 => if s.portFenced n then s else s.enablePort n
  | _ => if s.portFenced n then s else s.present n (.ra (bitOf arg 0))

/-- A sequence that holds a command back: an Atomic Message Sequence or, for codes below 11, a Hard Reset or an abort (R164, R176;
DESIGN CHOICE for the last two, log 84). -/
def State.commandWaits (s : State) (n : Port) (code : Nat) : Bool :=
  code ≤ 11 && s.flag (F.POL_STATUS_ams n) || code < 11 && s.resetting n

/-- A write of POL.CONTROL: stale, refused, busy, held, or acted on. Codes 1-11 start a sequence and are held while one runs. -/
def State.polCommand (s : State) (n : Port) (epoch code arg : Nat) : State :=
  if epoch ≠ s.get (F.POL_SEQ_epoch n) then (s.eventHost (F.POL_EVENT_stale_cmd n)).soot 0 n
  else if code = 0 then s
  else if ¬ s.cmdAllowed n code then s.eventHost (F.POL_EVENT_cmd_refused n)
  else if s.flag (F.POL_STATUS_cmd_held n) then s.eventHost (F.POL_EVENT_cmd_busy n)
  else if s.commandWaits n code then
    (((s.set (F.POL_STATUS_cmd_held n) 1).set (F.POL_CMD_STATUS_cmd n) code).set (F.POL_CMD_STATUS_epoch n) epoch).modPol n
      fun p => { p with heldArg := arg }
  else s.commandAct n code arg

/-- A command that the host writes, where the page answers, behind the inputs that come before it (R57, R140). -/
def State.polHost (s : State) (n : Port) (epoch : BitVec 8) (code arg : Nat) : State :=
  s.answered (portPage n 2) fun s => (s.policyBefore n 4).polCommand n epoch.toNat code arg

def execCmdSendCaps (n : Port) (epoch : BitVec 8) (s : State) : Host.Outcome State Fault Refusal := .next (s.polHost n epoch 1 0)
def execCmdPrSwap (n : Port) (epoch : BitVec 8) (s : State) : Host.Outcome State Fault Refusal := .next (s.polHost n epoch 2 0)
def execCmdDrSwap (n : Port) (epoch : BitVec 8) (s : State) : Host.Outcome State Fault Refusal := .next (s.polHost n epoch 3 0)
def execCmdVconnSwap (n : Port) (epoch : BitVec 8) (s : State) : Host.Outcome State Fault Refusal := .next (s.polHost n epoch 4 0)
def execCmdGetSinkCap (n : Port) (epoch : BitVec 8) (s : State) : Host.Outcome State Fault Refusal := .next (s.polHost n epoch 5 0)
def execCmdGetSourceCap (n : Port) (epoch : BitVec 8) (s : State) : Host.Outcome State Fault Refusal := .next (s.polHost n epoch 6 0)
def execCmdEprEntry (n : Port) (epoch : BitVec 8) (s : State) : Host.Outcome State Fault Refusal := .next (s.polHost n epoch 7 0)
def execCmdEprExit (n : Port) (epoch : BitVec 8) (s : State) : Host.Outcome State Fault Refusal := .next (s.polHost n epoch 8 0)
def execCmdSoftReset (n : Port) (epoch : BitVec 8) (s : State) : Host.Outcome State Fault Refusal := .next (s.polHost n epoch 9 0)
def execCmdHardReset (n : Port) (epoch : BitVec 8) (s : State) : Host.Outcome State Fault Refusal := .next (s.polHost n epoch 10 0)
def execCmdErrorRecovery (n : Port) (epoch : BitVec 8) (s : State) : Host.Outcome State Fault Refusal := .next (s.polHost n epoch 11 0)
def execCmdDisablePort (n : Port) (epoch : BitVec 8) (s : State) : Host.Outcome State Fault Refusal := .next (s.polHost n epoch 12 0)
def execCmdEnablePort (n : Port) (epoch : BitVec 8) (s : State) : Host.Outcome State Fault Refusal := .next (s.polHost n epoch 13 0)

def execCmdProductionTest (n : Port) (epoch : BitVec 8) (arg : BitVec 16) (s : State) : Host.Outcome State Fault Refusal :=
  .next (s.polHost n epoch 14 arg.toNat)

/-- The held command is taken when no sequence runs: checked against SEQ again, then against Table 7.12 (R164). -/
def State.heldTake (s : State) (n : Port) : State :=
  if s.flag (F.POL_STATUS_cmd_held n) ∧ ¬ s.commandWaits n (s.get (F.POL_CMD_STATUS_cmd n)) then
    let t := ((s.set (F.POL_STATUS_cmd_held n) 0).set (F.POL_CMD_STATUS_cmd n) 0).set (F.POL_CMD_STATUS_epoch n) 0
    t.polCommand n (s.get (F.POL_CMD_STATUS_epoch n)) (s.get (F.POL_CMD_STATUS_cmd n)) (s.pol.get n).heldArg
  else s

def execHeldCommandTaken (n : Port) (s : State) : Host.Outcome State Fault Refusal := .next ((s.policyBefore n 4).heldTake n)

/-- A write of POL.CAPS_CFG (R165). -/
def State.capsCfgWrite (s : State) (n : Port) (v : Word) : State :=
  let g := bitsGet v 0 16
  if outside g 50 10000 then s.eventHost (F.POL_EVENT_cfg_refused n)
  else s.set (F.POL_CAPS_CFG_min_gap_ms n) (keep0 g (s.get (F.POL_CAPS_CFG_min_gap_ms n)))

def execCapsCfgWrite (n : Port) (value : Word) (s : State) : Host.Outcome State Fault Refusal :=
  .next (s.answered (portPage n 2) fun s => s.capsCfgWrite n value)

/-! ### Transitions and descents (R169-R172) -/

/-- tSrcTransition has passed: the ramp, or the descent of a PR_Swap, begins. -/
def State.holdExpiry (s : State) (n : Port) : State :=
  if s.running .srcTransition n.val then
    let t := s.stop .srcTransition n.val
    match s.seqOf n with
    | .hold => t.setSeq n .ramp
    | .prHold => t.setSeq n .prDescent
    | _ => t
  else s

def execTransitionHoldExpiry (n : Port) (s : State) : Host.Outcome State Fault Refusal := .next ((s.policyBefore n 2).holdExpiry n)

/-- The transition is settled (R172). -/
def State.transitionSettled (s : State) (n : Port) : State :=
  if s.seqOf n = .ramp then (s.stop .psTransition n.val).readyHand n .readySent .readyTransition else s

def execTransitionSettled (n : Port) (s : State) : Host.Outcome State Fault Refusal := .next ((s.policyBefore n 0).transitionSettled n)

/-- tPSTransition has passed unsettled (R172); as sink, the partner's PS_RDY is missing. -/
def State.transitionTimeout (s : State) (n : Port) : State :=
  if s.running .psTransition n.val then
    let t := s.stop .psTransition n.val
    match s.seqOf n with
    | .hold | .ramp =>
      ((t.modLp n fun l => { l with held := true }).report 0x40 n.val 0 (2 + hthBit (s.driver n)) 0).hardResetRequest n
    | .snkTransition => t.hardResetRequest n
    | _ => t
  else s

def execTransitionTimeout (n : Port) (s : State) : Host.Outcome State Fault Refusal := .next ((s.policyBefore n 2).transitionTimeout n)

/-- A descent reaches 5.0 V (R171): the stage stops, and in a Hard Reset the loops are preset to zero duty (R247; that they are at this moment
of the descent is DEDUCED, log 119). -/
def State.descent5V (s : State) (n : Port) : State :=
  if s.seqOf n = .prDescent ∨ s.seqOf n = .hrDescent then
    let t := if s.seqOf n = .hrDescent then s.presetZero n else s
    (((t.stageOff n).openPath n).dschgOn n).modPol n fun p => { p with wait0V := true }
  else s

def execDescentReaches5v (n : Port) (s : State) : Host.Outcome State Fault Refusal := .next ((s.policyBefore n 0).descent5V n)

/-- VBUS is at vSafe0V: DSCHG goes off, and what waited for it goes on (R171, R178, R185, R186, R189, R323). -/
def State.safe0V (s : State) (n : Port) : State :=
  let t := (s.dschgOff n).modPol n fun p => { p with wait0V := false }
  match s.seqOf n with
  | .prDescent => ((t.present n .rd).set (F.CC_STATUS_vbus_mask n) 1).readyHand n .prReady .readySwap
  | .hrDescent => (t.setSeq n .hrRecover).start .srcRecover n.val (s.ms 830)
  | .hrSink => t.modPol n fun p => { p with fell0V := true }
  | .prWaitOff => if (s.pol.get n).wait0V then t.sinkToSource n else t
  | .recovery => if s.running .errorRecovery n.val then t else t.reachPoint1 n
  | _ => if (s.fnd.get n).detaching then (t.modFnd n fun f => { f with detaching := false }).reachPoint1 n else t.tryOver n

def execVbusReachesVsafe0v (n : Port) (s : State) : Host.Outcome State Fault Refusal := .next ((s.policyBefore n 0).safe0V n)

/-! ### Swaps (R175-R183) -/

/-- tPSSourceOn or tPSSourceOff has passed (R179). -/
def State.swapExpiry (s : State) (n : Port) : State := if s.running .swapPs n.val then (s.stop .swapPs n.val).errorRecovery n else s

def execSwapTimeout (n : Port) (s : State) : Host.Outcome State Fault Refusal := .next ((s.policyBefore n 2).swapExpiry n)

/-- VBUS is at vSafe0V and the partner's PS_RDY has come: the sink of a PR_Swap goes on as source (R178). -/
def State.swapToSource (s : State) (n : Port) : State :=
  if s.seqOf n = .prWaitOff ∧ (s.pol.get n).wait0V then s.sinkToSource n else s

def execSinkSwapToSource (n : Port) (s : State) : Host.Outcome State Fault Refusal := .next ((s.policyBefore n 0).swapToSource n)

/-- tSwapSourceStart has passed: point 3, then Source_Capabilities. -/
def State.swapStartExpiry (s : State) (n : Port) : State :=
  if s.running .swapStart n.val then ((s.stop .swapStart n.val).actPoint n 3).capsSend n true else s

def execSwapSourceStart (n : Port) (s : State) : Host.Outcome State Fault Refusal := .next ((s.policyBefore n 2).swapStartExpiry n)

/-- A sink arms for FR_Swap while point 14 accepts, a feed is selected and the reserve is committed (R180). -/
def State.frsShow (s : State) (n : Port) : State :=
  let on : Bool := (s.pol.get n).frsWanted && s.sinking n && s.get F.FED_STATUS_selected < 4 && 0 < s.draught.reserve.get n
  s.modPol n fun p => { p with frsArmed := on }

def execFrsArm (n : Port) (s : State) : Host.Outcome State Fault Refusal := .next ((s.policyBefore n 0).frsShow n)

/-- The FR_Swap signal at an armed port (R181, Table 8.5 step 1): import stops, the loops are preset forward, the mask is set. -/
def State.frsSignal (s : State) (n : Port) : State :=
  if (s.pol.get n).frsArmed then
    let t := ((s.collapse n 1).set (F.CC_STATUS_vbus_mask n) 1).setPd n 5
    let t := (t.modLp n fun l => { l with jump := true }).amsOn n
    let t := t.modPol n fun p => { p with seq := .frSignal, frsDue := true }
    (t.policyTimersStop n).start .frsInit n.val (s.ms 15)
  else s

def execFrsSignal (n : Port) (s : State) : Host.Outcome State Fault Refusal := .next ((s.policyBefore n 0).frsSignal n)

/-- Pn_VBUS has fallen below 5.5 V after the signal: forward regulation starts, and the power role is settled as source. -/
def State.frsLow (s : State) (n : Port) : State :=
  if (s.pol.get n).frsDue then
    let t := s.modPol n fun p => { p with seq := if p.seq = .frSignal then .frSource else p.seq, settledSource := true, frsDue := false }
    if t.get (F.STG_STATUS_state n) = 2 then t.set (F.STG_STATUS_dir n) 0 else t.stageRun n false
  else s

def execFrsVbusLow (n : Port) (s : State) : Host.Outcome State Fault Refusal := .next ((s.policyBefore n 0).frsLow n)

/-- Within tFRSwapInit FR_Swap is sent, without waiting for SinkTxOk. -/
def State.frsInitExpiry (s : State) (n : Port) : State :=
  if s.running .frsInit n.val then (s.stop .frsInit n.val).sendCtl n pdFrSwap .frSwap else s

def execFrsInitTimer (n : Port) (s : State) : Host.Outcome State Fault Refusal := .next ((s.policyBefore n 2).frsInitExpiry n)

/-- tVCONNSourceTimeout has passed (R182). -/
def State.vconnSwapExpiry (s : State) (n : Port) : State :=
  if s.running .vconnSwap n.val then (s.stop .vconnSwap n.val).hardResetRequest n else s

def execVconnSwapTimeout (n : Port) (s : State) : Host.Outcome State Fault Refusal := .next ((s.policyBefore n 2).vconnSwapExpiry n)

/-- VCONN is within 90% of VCONN_IN: the new VCONN source sends PS_RDY (R182). -/
def State.vconnSwapReady (s : State) (n : Port) : State :=
  if s.seqOf n = .vcnClose then s.readyHand n .vcnReadySent .readySwap else s

def execVconnSwapReady (n : Port) (s : State) : Host.Outcome State Fault Refusal := .next ((s.policyBefore n 0).vconnSwapReady n)

/-! ### Hard Reset and Error Recovery (R185, R186, R189) -/

/-- tPSHardReset has passed: the descent, or, with VBUS at vSafe0V already, tSrcRecover (Tables 8.7 and 8.8). -/
def State.hardDescent (s : State) (n : Port) : State :=
  if s.running .hardReset n.val ∧ s.seqOf n = .hrHold then
    let t := s.stop .hardReset n.val
    if s.vbusMv n ≤ 800 then ((t.dschgOff n).setSeq n .hrRecover).start .srcRecover n.val (s.ms 830)
    else t.setSeq n .hrDescent
  else s

def execHardResetSourceDescent (n : Port) (s : State) : Host.Outcome State Fault Refusal := .next ((s.policyBefore n 2).hardDescent n)

/-- tSrcRecover has passed: the path closes and the stage brings VBUS up from zero duty. -/
def State.recoverRaise (s : State) (n : Port) : State :=
  if s.running .srcRecover n.val ∧ s.seqOf n = .hrRecover then
    ((((s.stop .srcRecover n.val).setSeq n .hrRaise).presetZero n).closePath n false).stageRun n false
  else s

def execSrcRecoverExpiry (n : Port) (s : State) : Host.Outcome State Fault Refusal := .next ((s.policyBefore n 2).recoverRaise n)

/-- VBUS has settled within vSafe5V: after a Hard Reset point 3 is reached; in a PR_Swap the new source sends PS_RDY. -/
def State.safe5V (s : State) (n : Port) : State :=
  match s.seqOf n with
  | .hrRaise => (((s.setSeq n .idle).setPd n 1).actPoint n 3).start .sourceCap n.val (s.ms 150)
  | .prRaise => s.readyHand n .prReadySent .readySwap
  | _ => s

def execHardResetVsafe5v (n : Port) (s : State) : Host.Outcome State Fault Refusal := .next ((s.policyBefore n 0).safe5V n)

/-- The sink's mask clears (R176, R186): VBUS is back at 4.0 V after vSafe0V, or tNoResponse has passed; the sink then waits for
capabilities. -/
def State.sinkMaskClear (s : State) (n : Port) : State :=
  let hard : Bool := s.seqOf n = .hrSink
  let back := s.flag (F.CC_STATUS_vbus_present n)
  let due : Bool := if hard then ((s.pol.get n).fell0V && back) || !s.running .noResponse n.val else back && !s.inSwap n
  if s.flag (F.CC_STATUS_vbus_mask n) && due then
    let t := (s.set (F.CC_STATUS_vbus_mask n) 0).setSeq n .idle
    if back then
      let t := (t.stageRun n true).modPol n fun p => { p with waitCaps := true }
      t.start .sinkWaitCap n.val (s.ms 465) |>.setPd n 1
    else t
  else s

def execSinkMaskClear (n : Port) (s : State) : Host.Outcome State Fault Refusal := .next ((s.policyBefore n 0).sinkMaskClear n)

def execErrorRecoveryEntry (n : Port) (s : State) : Host.Outcome State Fault Refusal := .next ((s.policyBefore n 0).errorRecovery n)

/-- tErrorRecovery has passed (R189): point 1 follows once VBUS is safe. -/
def State.recoveryExpiry (s : State) (n : Port) : State :=
  if s.running .errorRecovery n.val then
    let t := s.stop .errorRecovery n.val
    if (s.pol.get n).wait0V ∧ 800 < s.vbusMv n then t else t.reachPoint1 n
  else s

def execErrorRecoveryExpiry (n : Port) (s : State) : Host.Outcome State Fault Refusal := .next ((s.policyBefore n 2).recoveryExpiry n)

end Sys2Proof.Machine
end

