-- ==== Sys2Proof/Machine/Stage.lean ====
section
/-! DEFINITION. The stage interface and the Loop Engine (chapter 11), with the set-points and the plausibility model of chapter 12:
stage states, samples, evaluations, coefficient banks, the feasibility rule. -/

namespace Sys2Proof.Machine

/-! ### Stage states (R233, R234, R312) -/

/-- A run command of the hearth, in the direction that the policy has set. -/
def execStageRunCmd (n : Port) (s : State) : Host.Outcome State Fault Refusal :=
  .next (s.stageRun n (s.flag (F.STG_STATUS_dir n)))

/-- Pn_SEN has been high for 2 µs: Running, with both loops preset to zero duty (R247). -/
def State.senHigh (s : State) (n : Port) : State :=
  if s.get (F.STG_STATUS_state n) = 1 then
    let t := ((s.set (F.STG_STATUS_state n) 2).set (F.STG_STATUS_sen n) 1).stop .senTimeout n.val
    (t.presetZero n).modLp n fun l => { l with accInit := true, rails := 0, presetDue := false }
  else s

def execStageSenHigh (n : Port) (s : State) : Host.Outcome State Fault Refusal := .next (s.senHigh n)

/-- The stage enters Fault: legs at mid-level and Pn_SEN low at once, and what a lane holds for the port is discarded. -/
def State.stageFault (s : State) (n : Port) : State :=
  (((s.set (F.STG_STATUS_state n) 3).set (F.STG_STATUS_sen n) 0).loopsDrop n).modLp n fun l => { l with runStored := false }

/-- Pn_SEN is still low 100 µs after its release. -/
def execStageSenTimeout (n : Port) (s : State) : Host.Outcome State Fault Refusal :=
  .next (
    if s.get (F.STG_STATUS_state n) = 1 ∧ s.running .senTimeout n.val then
      ((s.stop .senTimeout n.val).stageFault n).event (F.STG_EVENT_sen_timeout n)
    else s)

def execStageStopCmd (n : Port) (s : State) : Host.Outcome State Fault Refusal := .next (s.stageOff n)

/-- Pn_SEN low for 200 ns while Running (R234); the loops are preset at the next sample instant. -/
def State.stageTrip (s : State) (n : Port) : State :=
  if s.get (F.STG_STATUS_state n) = 2 then
    ((s.stageFault n).modLp n fun l => { l with presetDue := true }).event (F.STG_EVENT_stage_fault n)
  else s

def execStageFault (n : Port) (s : State) : Host.Outcome State Fault Refusal := .next (s.stageTrip n)

/-! ### Banks (R244, R245, R248-R250) -/

/-- The hearths that run a port. -/
def State.portHearths (s : State) (n : Port) : List Hth := [Hth.A, Hth.B].filter fun h => s.runsPort h n

/-- The tick of a sample instant: s_off ticks after the period start, at most N - 1 (R237). -/
def State.sampleDue (s : State) (n : Port) : Bool :=
  match (s.tb.carriers.get n).lastStart with
  | some b => decide (s.since b = min (s.lp.get n).sOff (s.nInForce n - 1))
  | none => false

/-- The bank that the selection names for a sample on this tick: by region (R244), by Dv, or by bank_sel (R245). -/
def State.bankWanted (s : State) (n : Port) (volt : Bool) : Nat :=
  let c := s.stageCfg n
  if volt then
    if c.dvSplit = 0 then c.bankV else bn (c.dvSplit < (s.lp.get n).begun.dv)
  else if c.regionAuto then
    let u := (s.lp.get n).uPrev
    if 4160 < u then 1 else if u < 4032 then 0 else s.get (F.ILP_STATUS_bank n)
  else c.bankI

/-- A changed selection takes effect: the bank in force, the event and the page's SEQ (R245). -/
def State.bankSwap (s : State) (n : Port) (volt : Bool) : State :=
  let b := s.bankWanted n volt
  if volt then
    if b = s.get (F.STG_STATUS_vbank n) then s
    else ((s.set (F.STG_STATUS_vbank n) b).eventBy (F.STG_EVENT_vbank_swap n) 6).bump (F.STG_SEQ_vswaps n)
  else if b = s.get (F.ILP_STATUS_bank n) then s
  else ((s.set (F.ILP_STATUS_bank n) b).eventBy (F.ILP_EVENT_bank_swap n) 6).bump (F.ILP_SEQ_swaps n)

/-- A changed selection takes effect on the tick of a sample, and on no other. -/
def execBankSwap (n : Port) (volt : Bool) (s : State) : Host.Outcome State Fault Refusal :=
  .next (if s.sampleDue n then s.bankSwap n volt else s)

/-- The port's loops use their banks: Enabling or Running (R250). -/
def State.loopsOn (s : State) (n : Port) : Bool := s.get (F.STG_STATUS_state n) = 1 || s.get (F.STG_STATUS_state n) = 2

/-- A half-word of a bank: number 0 the format, 1 b0, 2 b1, 3 b2, 4 b3, 5 a1, 6 a2, 7 a3 (R249). -/
def bankHalf (l : List Word) (i : Nat) : Nat := bitsGet ((l[i / 2]?).getD 0) (16 * (i % 2)) 16

/-- A bank that R249 allows: no reserved format bit, and b3 and a3 zero in a 2P2Z bank. -/
def bankValid (l : List Word) : Bool :=
  let f := bankHalf l 0
  f / 256 = 0 && f / 8 % 16 = 0 && (bitOf f 7 || (bankHalf l 4 = 0 && bankHalf l 7 = 0))

/-- The register of a bank. -/
def bankField (n : Port) (volt bank1 : Bool) (k : Nat) : Field :=
  match volt, bank1 with
  | true, false => F.STG_VBANK0_half_words n k
  | true, true => F.STG_VBANK1_half_words n k
  | false, false => F.ILP_IBANK0_half_words n k
  | false, true => F.ILP_IBANK1_half_words n k

/-- A page's cfg_refused. -/
def stgRefused (n : Port) (ilp : Bool) : Field := if ilp then F.ILP_EVENT_cfg_refused n else F.STG_EVENT_cfg_refused n

/-- A write of a bank register (R249, R250): it goes to Ember SRAM unless the bank is in use or the bank would not be valid. -/
def State.bankWrite (s : State) (n : Port) (volt bank1 : Bool) (k : Fin 4) (w : Word) : State :=
  let inForce := if volt then s.get (F.STG_STATUS_vbank n) else s.get (F.ILP_STATUS_bank n)
  let l := (s.bankWords n volt (bn bank1)).set k.val w
  if (s.loopsOn n && inForce = bn bank1) || !bankValid l then s.eventHost (stgRefused n (!volt))
  else s.set (bankField n volt bank1 k.val) w.toNat

def execBankWrite (n : Port) (volt bank1 : Bool) (k : Fin 4) (value : Word) (s : State) : Host.Outcome State Fault Refusal :=
  .next (s.answered (portPage n (if volt then 4 else 5)) fun s => s.bankWrite n volt bank1 k value)

/-- The words an evaluation uses: the bank's, or the fallback set where it is empty or the port is the Kindling port (R248). -/
def State.coeffs (s : State) (n : Port) (volt : Bool) (bank : Nat) : List Word :=
  let l := s.bankWords n volt bank
  if bankEmpty l || s.ember.kindling = some n then s.fallbackWords volt else l

/-! ### Sample instants (R20, R21, R235-R238) -/

/-- Period number k = floor((t0 - A_n - phase) / N) (R238). -/
def State.periodNo (s : State) (n : Port) : Int :=
  let c := s.tb.carriers.get n
  ((c.lastStart.getD 0 : Int) - c.anchor - s.get (F.STG_CARRIER_phase_eff n)) / (max 1 c.nEff : Nat)

/-- The captured voltage-loop output. -/
def State.vOut (s : State) (n : Port) : Int := signed 16 (s.get (F.STG_VLOOP_STATUS_y n))

/-- The voltage-loop output that a sample on this tick takes as its reference: that of the last update instant before the tick (R20). -/
def State.vTaken (s : State) (n : Port) : Int :=
  let l := s.lp.get n
  if l.capAtV = some s.tbase.toNat then l.yOld else s.vOut n

/-- A tick some ticks from now. -/
def State.tickAhead (s : State) (k : Nat) : Nat := (s.tbase.toNat + k) % 2 ^ 48

/-- An evaluation waits for a lane. -/
def State.laneWait (s : State) (n : Port) (volt : Bool) (due : Nat) : State :=
  { s with lanes := { s.lanes with waiting := s.lanes.waiting ++ [{ port := n, volt := volt, due := due, late := false }] } }

/-- Place of an evaluation among those that wait: its update instant, its port, the current loop before the voltage loop (R21). -/
def State.lanePlace (s : State) (e : Evaluation) : Nat :=
  ((e.due + 2 ^ 48 + 2 ^ 47 - s.tbase.toNat) % 2 ^ 48 * 8 + e.port.val) * 2 + bn e.volt

/-- Place and index of the evaluation that a freed lane of the hearth takes. -/
def State.laneNext (s : State) (h : Hth) : Option (Nat × Nat) :=
  ((s.lanes.waiting.zipIdx.filter fun a => s.driver a.1.port = h).map fun a => (s.lanePlace a.1, a.2)).foldl lowerPlace none

/-- The free lanes of a hearth, of its four (Table 11.11), take what waits; at most `k` evaluations. -/
def State.lanesFill : Nat → Hth → State → State
  | 0, _, s => s
  | k + 1, h, s =>
    if 4 ≤ (s.lanes.busy.filter fun e => s.driver e.port = h).length then s
    else
      match s.laneNext h with
      | none => s
      | some a =>
        State.lanesFill k h
          { s with lanes := { waiting := s.lanes.waiting.eraseIdx a.2, busy := s.lanes.busy ++ s.lanes.waiting[a.2]?.toList } }

/-- What waits for a lane of the hearth that drives a port goes into the lanes that are free. -/
def State.lanesTake (s : State) (n : Port) : State := State.lanesFill s.lanes.waiting.length (s.driver n) s

/-- t_adc in ticks at a tick rate (R235): ceil(0.22 µs x rate). -/
def tAdcAt (khz : Nat) : Nat := ceilDiv (220 * khz) 1000000

/-- w_min in ticks at a tick rate (R237): ceil(0.32 µs x rate). -/
def wMinAt (khz : Nat) : Nat := ceilDiv (320 * khz) 1000000

/-- Least update offset at a tick rate (R237). -/
def minOffset (khz : Nat) : Nat := tAdcAt khz + 2 + wMinAt khz

/-- The update instants of a sample (R237), with an offset below t_adc + 2 + w_min taken as that (R75), and its evaluations, which wait for lanes; none while the stage is Off or in Fault. -/
def State.loopsDue (s : State) (n : Port) (volt : Bool) : State :=
  let l := s.lp.get n
  let least := minOffset s.tickKhz
  let dueI := s.tickAhead (min (max l.cfg.iUpd least) (s.nInForce n - 1))
  let dueV := s.tickAhead (min (max l.cfg.vUpd least) (l.dv * s.nInForce n - 1))
  if s.loopsOn n then
    let t := (s.modLp n fun x => { x with dueI := some dueI, dueV := if volt then some dueV else x.dueV }).laneWait n false dueI
    (if volt then t.laneWait n true dueV else t).lanesTake n
  else s

/-- The converters have sampled Pn_VBUS, Pn_IMON and the feed bus (R235): the codes reach the port and the hearths; the configuration, the
banks and the current reference of the sample are taken; a preset that is due applies; IMON at a rail four times running is reported
(R236). -/
def State.sampleTake (s : State) (n : Port) (vbus imon bus : Nat) : State :=
  let c := s.stageCfg n
  let t := (s.set (F.STG_ADC_LAST_vbus n) vbus).set (F.STG_ADC_LAST_imon n) imon
  let t := (t.bankSwap n false).bankSwap n true
  let volt : Bool := t.periodNo n % ((t.lp.get n).dv : Int) = 0
  let rev := (t.lp.get n).begun.rev
  let on : Bool := t.get (F.STG_STATUS_state n) = 2
  let rails := if on && (imon = 0 || imon = 4095) then min 5 ((t.lp.get n).rails + 1) else 0
  let y := t.vTaken n
  let q := imonQ c.zero imon
  let t := t.modLp n fun l => { l with
    cfg := c, sampled := some s.tbase.toNat, bus := bus, il := q, rails := rails, voltSample := volt,
    bankI := t.get (F.ILP_STATUS_bank n), iRef := if rev then sat16 (-y) else y,
    energy := l.energy + (if on then (vbus : Int) * q else 0), samples := l.samples + bn on }
  let t := if (t.lp.get n).presetDue then (t.presetZero n).modLp n fun l => { l with presetDue := false } else t
  let t := t.set (F.ILP_IMEAS_imeas n) (q16 q)
  let t := if volt then t.set (F.STG_VLOOP_STATUS_vmeas n) (q16 (if rev then t.vBus n else t.vPort n)) else t
  if rails = 4 then t.eventBy (F.STG_EVENT_imon_range n) 6 else t

/-! ### Target and rate (R257-R260) -/

/-- The manual set-point is requested. -/
def State.manualAsked (s : State) (n : Port) : Bool := s.flag (F.STG_SP_CFG_manual n) && s.get (F.STG_SP_MANUAL_v n) ≠ 0

/-- The row of Table 12.1 that applies; 9 stands for row 9, the manual set-point, where it is in force. The forward preset of R181 stands
until forward regulation starts. From the request of a Hard Reset until its descent VBUS stays where it is (R185, R191). -/
def State.targetRow (s : State) (n : Port) : Nat :=
  let q := s.seqOf n
  let l := s.lp.get n
  let x := s.thn.get n
  if s.get (F.STG_STATUS_state n) ≠ 2 then 1
  else if l.jump then 2
  else if q = .prDescent ∨ q = .hrDescent then 3
  else if s.flag (F.STG_STATUS_dir n) then 4
  else if q = .hrSend ∨ q = .hrHold then 5
  else if q = .hold ∨ l.held then (if x.returning.isSome then 8 else 5)
  else if q = .ramp ∨ q = .readySent then 6
  else if x.terms.isSome then 7
  else if x.returning.isSome then 8
  else if s.manualAsked n then 9
  else 10

/-- The contract's voltage in mV, 5.0 V with none. -/
def contractMv : Option Contract → Nat
  | some c => c.mv
  | none => 5000

/-- The manual window in 20 mV units (Table 12.2), rounded inwards. -/
def manualWindow : Option Contract → Nat × Nat
  | none => (238, 275)
  | some c =>
    let lo := ceilDiv (95 * c.mv) 2000
    let hi := 105 * c.mv / 2000
    if c.kind ≤ 1 then (lo, hi) else (max lo (ceilDiv c.lo 20), min hi (c.hi / 20))

/-- The contract that the set-point follows: none once the port has turned to forward regulation in a power-role swap, whose VBUS is 5.0 V
until the next contract (R178, R181). -/
def State.setContract (s : State) (n : Port) : Option Contract :=
  if s.seqOf n = .prRaise ∨ s.seqOf n = .prReadySent ∨ s.inFrSwap n then none else (s.pol.get n).cur

/-- Target in mV of a row; none keeps the reference as it stands. -/
def State.targetMv (s : State) (n : Port) (row : Nat) : Option Nat :=
  let p := s.pol.get n
  match row with
  | 1 => some 0
  | 2 | 3 => some 5000
  | 4 =>
    if s.ember.kindling = some n then some (100 * p.params.dbTarget)
    else if (s.lp.get n).busMv = 0 then none else some (s.lp.get n).busMv
  | 5 => none
  | 6 => some (contractMv p.new)
  | 7 =>
    match (s.thn.get n).terms with
    | some k =>
      let pub := s.get (F.RUN_TRK_TGT_published n.val)
      some (if pub = 0 then contractMv p.cur else min (100 * k.vhi) (max (100 * k.vlo) (100 * pub)))
    | none => none
  | 9 =>
    let w := manualWindow (s.setContract n)
    some (20 * max w.1 (min w.2 (s.get (F.STG_SP_MANUAL_v n))))
  | _ => some (contractMv (s.setContract n))

/-- Rate of a row in 0.1 mV/µs. -/
def State.targetRate (s : State) (n : Port) (row : Nat) : Nat :=
  let slew := s.get (F.STG_SP_CFG_slew n)
  let agreed := match (s.thn.get n).terms, (s.thn.get n).returning with
    | some k, _ => 2 * k.slew
    | none, some k => 2 * k.slew
    | none, none => slew
  match row with
  | 3 => max slew 5
  | 5 => 0
  | 7 | 8 => agreed
  | _ => slew

/-- One step of the ramp (R258). -/
def rampStep (acc goal step : Int) : Int := if acc < goal then min (acc + step) goal else max (acc - step) goal

/-- The step of a sample: floor(rate x Dv x N x 100 x 2^31 / (61440 x kHz)). -/
def State.rampSize (s : State) (n : Port) (rate : Nat) : Nat :=
  rate * (s.lp.get n).dv * s.nInForce n * 100 * 2 ^ 31 / (61440 * max 1 s.tickKhz)

/-- Transfer preset (R261): errors 0, outputs at the output applied last; a write-back still due for an earlier sample is superseded. -/
def State.transferPreset (s : State) (n : Port) : State :=
  let y := s.vOut n
  s.modLp n fun l => { l with hv := { Hist.zero with u1 := y, u2 := y, u3 := y }, sinceV := 0, runV := 0, capV := none, capAtV := none }

/-- What a sample on this tick takes, as it stands now. -/
def State.sampleView (s : State) (n : Port) : SampleView :=
  let row := s.targetRow n
  { cfg := s.stageRegs n, rev := s.flag (F.STG_STATUS_dir n), row := row, mv := s.targetMv n row, rate := s.targetRate n row,
    win := s.windowRegs n, valid := s.opctValid n, dv := s.dvOf n }

/-- What a voltage-loop sample does before its evaluation: the row and its target, the forward preset, the transfer preset, the ramp, and what page STG
shows of them (R257-R261, R181). -/
def State.rampTake (s : State) (n : Port) : State :=
  let l := s.lp.get n
  let row := l.begun.row
  let manual : Bool := row = 9
  let rev := l.begun.rev
  let t := if row = 2 then s.preset n (max (s.uMin n) (if s.vBus n * 15 < 8000 then 0 else sat16 (2667 * 4096 / s.vBus n))) else s
  let t := if manual ≠ s.flag (F.STG_STATUS_manual n) ∧ row ≠ 2 ∧ ¬ l.accInit then t.transferPreset n else t
  let t := t.setB (F.STG_STATUS_manual n) manual
  let start : Int := if l.accInit then (if rev then s.vBus n else s.vPort n) * 65536 else l.acc
  let tgt : Int := match l.begun.mv with | some mv => qOfMv mv | none => start / 65536
  let goal := tgt * 65536
  let acc : Int :=
    match row with
    | 1 => 0
    | 2 => goal
    | 5 => start
    | _ => if l.begun.mv.isNone then start else rampStep start goal (s.rampSize n l.begun.rate)
  let t := t.modLp n fun x => { x with acc := acc, accInit := l.accInit && row = 1, jump := l.jump && (row ≠ 2 || (s.pol.get n).frsDue) }
  let t := if row = 6 ∨ (row = 8 ∧ acc = goal) then t.modThn n fun x => { x with returning := none } else t
  (t.set (F.STG_SP_STATUS_vref n) (q16 (acc / 65536))).set (F.STG_SP_STATUS_target n) (q16 tgt)

/-- The voltage loop's evaluation takes its inputs from this sample, however long it waits for a lane (R239, R245, R253). -/
def State.voltTake (s : State) (n : Port) : State :=
  s.modLp n fun l => { l with vs := {
    e0 := sat16 (signed 16 (s.get (F.STG_SP_STATUS_vref n)) - if l.begun.rev then s.vBus n else s.vPort n)
    rev := l.begun.rev, il := l.il, bank := s.get (F.STG_STATUS_vbank n), cfg := l.cfg } }

/-! ### The effective current limit (R170, R210, R212, R242) -/

/-- A power in mW at eighths of mV, as a current in 10 mA units. -/
def amps10 (mw v8 : Nat) : Nat := mw * 800 / max 1 v8

/-- The reference in eighths of mV, never below 5.0 V. -/
def State.refV8 (s : State) (n : Port) : Nat := max 40000 (15 * s.get (F.STG_SP_STATUS_vref n))

/-- The terms of R242 that apply to the last sample of the voltage loop, with their codes, in 10 mA units. -/
def State.limitTerms (s : State) (n : Port) : List (Nat × Nat) :=
  let p := s.pol.get n
  let x := s.thn.get n
  let c := (s.lp.get n).vs.cfg
  let rev := (s.lp.get n).vs.rev
  let ref := s.refV8 n
  let v8 := if rev then max 40000 (8 * s.vbusMv n) else ref
  let moving := s.inTransition n
  let opMa := match p.cur with | some c => c.ma / 10 | none => 0
  let clampW := s.get (F.DRT_CLAMP_clamp n.val)
  [(0, 10 * c.ifs)] ++
  (if p.frsDue then [(1, 0)]
   else if (s.setContract n).isSome ∧ ¬ moving ∧ x.terms.isNone then [(1, opMa)] else []) ++
  (match moving, p.new with
    | true, some c =>
      let (ma, mw) := match p.cur with | some o => (max o.ma c.ma, max o.mw c.mw) | none => (c.ma, c.mw)
      [(2, min (ma / 10) (amps10 mw v8))]
    | _, _ => []) ++
  (match x.terms, x.returning with
    | some k, _ => [(3, min (if p.cableA = 5 then 500 else 300) (amps10 (1000 * k.ptrk) ref))]
    | none, some _ => [(3, min opMa (contractMv p.cur * 8 * opMa / ref))]
    | none, none => []) ++
  [(4, amps10 (100 * (s.get (F.DRT_GRANT_committed n.val) + s.get (F.DRT_GRANT_provisional n.val))) v8)] ++
  (if s.flag (F.DRT_CLAMP_clamp_on n.val) then [(5, amps10 (100 * clampW) v8)] else []) ++
  (if c.icap = 0 then [] else [(6, c.icap)])

/-- The least term and the lowest code that gives it. -/
def leastTerm : List (Nat × Nat) → Nat × Nat
  | [] => (0, 0xFFFF)
  | [x] => x
  | x :: t => let y := leastTerm t; if x.2 ≤ y.2 then x else y

/-! ### Evaluations (R239-R241, R262-R269) -/

/-- The compensator (R240): coefficients in the order of `bankHalf`, the error and the history. -/
def compensate (l : List Word) (e0 : Int) (h : Hist) : Int :=
  let c (i : Nat) : Int := signed 16 (bankHalf l i)
  let sh := bankHalf l 0 % 8
  let acc := c 1 * e0 + c 2 * h.e1 + c 3 * h.e2 + c 4 * h.e3 + c 5 * h.u1 + c 6 * h.u2 + c 7 * h.u3
  sat16 ((acc + 2 ^ (14 - sh)) / 2 ^ (15 - sh))

/-- The effective residual threshold of a loop (R269). -/
def State.thrEff (s : State) (n : Port) (volt : Bool) : Nat :=
  if volt then s.get (F.OPC_MODEL_V_thr n.val)
  else min 32767 (s.get (F.OPC_MODEL_I_thr n.val) + (match (s.lp.get n).opEntry with | some e => 16 * opctTadd e | none => 0))

/-- A loop is supervised: thr and cnt not 0. -/
def State.supervised (s : State) (n : Port) (volt : Bool) : Bool :=
  if volt then s.get (F.OPC_MODEL_V_thr n.val) ≠ 0 && s.get (F.OPC_MODEL_V_cnt n.val) ≠ 0
  else s.get (F.OPC_MODEL_I_thr n.val) ≠ 0 && s.get (F.OPC_MODEL_I_cnt n.val) ≠ 0

/-- A bit of a port in a field of the OPC page, in the hearths that run the port. -/
def opcBit (f : Field) (n : Port) : Field := { f with lo := f.lo + n.val, width := 1 }

/-- The excursion bit of a loop. -/
def State.excursion (s : State) (n : Port) (volt : Bool) : Bool :=
  s.get ((opcBit (if volt then F.OPC_STATUS_exc_v else F.OPC_STATUS_exc_i) n).inHearth (s.driver n)) = 1

/-- Show or end an excursion. -/
def State.setExcursion (s : State) (n : Port) (volt on : Bool) : State :=
  s.setIn (s.portHearths n) (opcBit (if volt then F.OPC_STATUS_exc_v else F.OPC_STATUS_exc_i) n) (bn on)

/-- The run count of a loop. -/
def State.setRun (s : State) (n : Port) (volt : Bool) (k : Nat) : State :=
  s.modLp n fun l => if volt then { l with runV := k } else { l with runI := k }

/-- An excursion begins: the event, one Soot count, and LOOP_RESIDUAL with the hearth as master (R269). -/
def State.excursionBegin (s : State) (n : Port) (volt : Bool) : State :=
  let t := (s.setExcursion n volt true).setIn (s.portHearths n) (opcBit (if volt then F.OPC_EVENT_resid_v else F.OPC_EVENT_resid_i) n) 1
  (t.soot 5 n).report 0x42 n.val 0 (2 + hthBit (s.driver n)) 6

/-- Supervision of one evaluation (R269). -/
def State.supervise (s : State) (n : Port) (volt : Bool) (r : LoopResult) (resid : Int) (thr : Nat) : State :=
  let l := s.lp.get n
  let since := if volt then l.sinceV else l.sinceI
  let run := if volt then l.runV else l.runI
  let cnt := if volt then s.get (F.OPC_MODEL_V_cnt n.val) else s.get (F.OPC_MODEL_I_cnt n.val)
  let t := s.modLp n fun x => if volt then { x with sinceV := min 64 (since + 1) } else { x with sinceI := min 64 (since + 1) }
  if ¬ s.supervised n volt then t
  else if r.y ≤ r.lo ∨ r.hi ≤ r.y ∨ since < 64 ∨ s.get (F.STG_STATUS_state n) ≠ 2 then t.setRun n volt 0
  else
    let excess : Bool := (thr : Int) < (resid.natAbs : Int)
    if excess = s.excursion n volt then t.setRun n volt 0
    else if run + 1 < cnt then t.setRun n volt (run + 1)
    else if excess then (t.setRun n volt 0).excursionBegin n volt
    else (t.setRun n volt 0).setExcursion n volt false

/-- The voltage loop's evaluation (R239-R242), of its last sample. -/
def State.evalVolt (s : State) (n : Port) : State :=
  let lim := leastTerm (s.limitTerms n)
  let s := (s.set (F.ILP_LIMIT_STATUS_ilim n) (min 0xFFFF lim.2)).set (F.ILP_LIMIT_STATUS_src n) lim.1
  let l := s.lp.get n
  let v := l.vs
  let lo := v.cfg.voltLo v.rev
  let hi := v.cfg.qOfLimit lim.2
  let y := clampInt lo hi (compensate (s.coeffs n true v.bank) v.e0 l.hv)
  let pred := sat16 ((if v.rev then -v.il else v.il) + (s.get (F.OPC_MODEL_V_g n.val) : Int) * v.e0 / 128)
  let r : LoopResult := { y := y, pred := pred, e0 := v.e0, ff := 0, lo := lo, hi := hi }
  let t := s.modLp n fun x => { x with resV := some r, lastV := (r, r) }
  let t := t.setIn (s.portHearths n) (F.OPC_RESID_r_v n.val) (q16 (sat16 (y - pred)))
  t.supervise n true r (sat16 (y - pred)) (s.thrEff n true)

/-- The current loop's evaluation. -/
def State.evalCurrent (s : State) (n : Port) : State :=
  let l := s.lp.get n
  let e0 := sat16 (l.iRef - s.iL n)
  let ff := s.ffI n
  let lo := s.uMin n
  let hi := s.uMax n
  let y := clampInt lo hi (sat16 (compensate (s.coeffs n false l.bankI) e0 l.hi + ff))
  let pred := sat16 (s.uRatio n + deltaOf l.opEntry + (s.get (F.OPC_MODEL_I_g n.val) : Int) * e0 / 128)
  let r : LoopResult := { y := y, pred := pred, e0 := e0, ff := ff, lo := lo, hi := hi }
  let t := s.modLp n fun x => { x with resI := some r, lastI := (r, r) }
  let used := l.opEntry.isSome && l.cfg.ffEn
  let hs := s.portHearths n
  let t := (t.setIn hs (F.OPC_LOOKUP_used n.val) (bn used)).setIn hs (F.OPC_LOOKUP_delta n.val)
    (if used then q16 (deltaOf l.opEntry) else 0)
  let t := t.setIn hs (F.OPC_LOOKUP_index n.val) l.opIndex
  let t := (t.setB (F.ILP_STATUS_ff_active n) l.cfg.ffEn).set (F.ILP_IMEAS_iref n) (q16 l.iRef)
  let t := t.setIn hs (F.OPC_RESID_r_i n.val) (q16 (sat16 (y - pred)))
  t.supervise n false r (sat16 (y - pred)) (s.thrEff n false)

/-- The table lookup of a sample (R263, R264). -/
def State.lookupTake (s : State) (n : Port) : State :=
  s.modLp n fun l => { l with opIndex := if l.begun.win.isOpen then s.opctIndex n else 0, opEntry := s.opctNow n }

/-- The sample instant of a port (R235-R237), with the step of the ramp at a sample of the voltage loop (R257, R258). A stage that is Off or
in Fault has no evaluations; its reference is 0 (Table 12.1 row 1). -/
def State.sampleInstant (s : State) (n : Port) (vbus imon bus : Nat) : State :=
  let t := s.sampleTake n vbus imon bus
  let volt := (t.lp.get n).voltSample
  let t := if volt then (t.rampTake n).voltTake n else t
  (t.lookupTake n).loopsDue n volt

/-- On a tick that is no sample instant of the port nothing is sampled. -/
def execSampleInstant (n : Port) (vbus imon bus : BitVec 12) (s : State) : Host.Outcome State Fault Refusal :=
  .next (if s.sampleDue n && (s.lp.get n).sampled ≠ some s.tbase.toNat then s.sampleInstant n vbus.toNat imon.toNat bus.toNat else s)

/-- A loop of the sample taken last is evaluated. -/
def State.evaluate (s : State) (n : Port) (volt : Bool) : State := if volt then s.evalVolt n else s.evalCurrent n

/-- The first evaluation of a loop that a lane has. -/
def State.inLane (s : State) (n : Port) (volt : Bool) : Option Evaluation := s.lanes.busy.find? fun e => e.port = n && e.volt = volt

/-- A lane completes an evaluation of a loop; a late one, or one of a stage that has stopped, is discarded (R234, R251). The lane that it
frees takes the next one (R21). -/
def State.loopEvaluation (s : State) (n : Port) (volt : Bool) : State :=
  match s.inLane n volt with
  | none => s
  | some e =>
    let t := if e.late || !s.loopsOn n then s else s.evaluate n volt
    let t := t.bumpIn (s.portHearths n) F.LEN_EVALS_count
    ({ t with lanes := { t.lanes with busy := t.lanes.busy.erase e } } : State).lanesTake n

/-- An evaluation that no lane has cannot complete. -/
def execLoopEvaluation (n : Port) (volt : Bool) (s : State) : Host.Outcome State Fault Refusal := .next (s.loopEvaluation n volt)

/-! ### Histories (R246) -/

/-- A history moved down by one sample. -/
def Hist.push (h : Hist) (e u : Int) : Hist := { e1 := e, e2 := h.e1, e3 := h.e2, u1 := u, u2 := h.u1, u3 := h.u2 }

/-- The tick on which the captured output returns to the loop's history: two ticks after the update instant. -/
def State.writebackDue (s : State) (n : Port) (volt : Bool) : Bool :=
  match (if volt then (s.lp.get n).capAtV else (s.lp.get n).capAtI) with
  | some b => decide (s.since b = 2)
  | none => false

/-- The captured output returns to the loop's history. -/
def State.writeback (s : State) (n : Port) (volt : Bool) : State :=
  s.modLp n fun l =>
    if volt then
      match l.capV with
      | some r => { l with hv := l.hv.push r.e0 (sat16 (r.y - r.ff)), capV := none }
      | none => l
    else
      match l.capI with
      | some r => { l with hi := l.hi.push r.e0 (sat16 (r.y - r.ff)), capI := none }
      | none => l

def execHistoryWriteback (n : Port) (volt : Bool) (s : State) : Host.Outcome State Fault Refusal := 
  .next (if s.writebackDue n volt then s.writeback n volt else s)

/-! ### Configuration writes (R237, R253, R260) -/

/-- An applied offset is clipped (R237, R75). -/
def State.updClipped (s : State) (n : Port) : Bool :=
  let nn := s.nInForce n
  nn ≤ s.get (F.STG_TIMING_s_off n) || nn ≤ s.get (F.STG_TIMING_i_upd n) || s.dvOf n * nn ≤ s.get (F.STG_TIMING_v_upd n) ||
    s.get (F.STG_TIMING_i_upd n) < minOffset s.tickKhz || s.get (F.STG_TIMING_v_upd n) < minOffset s.tickKhz

/-- A write of STG[n].TIMING: an update offset below t_adc + 2 + w_min refuses it whole; 0 leaves i_upd and v_upd as they are. -/
def State.timingWrite (s : State) (n : Port) (v : Word) : State :=
  let vu := bitsGet v 16 11
  let iu := bitsGet v 8 7
  let m := minOffset s.tickKhz
  if (vu ≠ 0 ∧ vu < m) ∨ (iu ≠ 0 ∧ iu < m) then s.eventHost (F.STG_EVENT_cfg_refused n)
  else
    ((s.set (F.STG_TIMING_v_upd n) (keep0 vu (s.get (F.STG_TIMING_v_upd n)))).set (F.STG_TIMING_i_upd n)
      (keep0 iu (s.get (F.STG_TIMING_i_upd n)))).set (F.STG_TIMING_s_off n) (bitsGet v 0 7)

def execTimingWrite (n : Port) (value : Word) (s : State) : Host.Outcome State Fault Refusal :=
  .next (s.answered (portPage n 4) fun s => s.timingWrite n value)

/-- Page of a port, 4 STG or 5 ILP, that holds a configuration register. -/
def stgRegPage : StgReg → Nat
  | .ilpCfg | .ilimits => 5
  | _ => 4

/-- A write of a configuration register of STG[n] or ILP[n] (Tables 11.9 and 11.10). -/
def State.stgConfigWrite (s : State) (n : Port) (reg : StgReg) (v : Word) : State :=
  let put (f : Field) (t : State) : State := t.set f (bitsGet v f.lo f.width)
  let put0 (f : Field) (t : State) : State := t.set f (keep0 (bitsGet v f.lo f.width) (t.get f))
  let no := s.eventHost (F.STG_EVENT_cfg_refused n)
  match reg with
  | .imonCfg =>
    if outside (bitsGet v 16 9) 1 400 || outside (bitsGet v 0 12) 1 4094 then no
    else put0 (F.STG_IMON_CFG_ifs_100ma n) (put0 (F.STG_IMON_CFG_zero n) s)
  | .pwmCfg =>
    if outside (bitsGet v 0 10) 32 640 || 8 * s.get (F.STG_CARRIER_n_div n) < bitsGet v 0 10 then no
    else put0 (F.STG_PWM_CFG_min_pulse n) s
  | .spCfg =>
    if outside (bitsGet v 0 9) 1 300 then no
    else put (F.STG_SP_CFG_manual n) (put0 (F.STG_SP_CFG_slew n) s)
  | .vloopCfg =>
    let base := keep0 (bitsGet v 8 5) (s.get (F.STG_VLOOP_CFG_dv_base n))
    let top := keep0 (bitsGet v 16 5) (s.get (F.STG_VLOOP_CFG_dv_max n))
    if 16 < base || top < base || 16 < top || 15 < bitsGet v 24 5 then no
    else
      put (F.STG_VLOOP_CFG_bank_sel n) (put (F.STG_VLOOP_CFG_dv_split n)
        ((s.set (F.STG_VLOOP_CFG_dv_base n) base).set (F.STG_VLOOP_CFG_dv_max n) top))
  | .ilpCfg => put (F.ILP_CFG_region_auto n) (put (F.ILP_CFG_ff_en n) (put (F.ILP_CFG_bank_sel n) s))
  | .ilimits => put (F.ILP_ILIMITS_icap n) (put (F.ILP_ILIMITS_ineg n) s)

def execStgConfigWrite (n : Port) (reg : StgReg) (value : Word) (s : State) : Host.Outcome State Fault Refusal :=
  .next (s.answered (portPage n (stgRegPage reg)) fun s => s.stgConfigWrite n reg value)

/-- A write of SP_MANUAL (R260, R429): a stale epoch and a v outside 1-2,400 are not acted on. -/
def State.spManualWrite (s : State) (n : Port) (v : Word) : State :=
  if bitsGet v 24 8 ≠ s.get (F.POL_SEQ_epoch n) then (s.eventHost (F.POL_EVENT_stale_cmd n)).soot 0 n
  else if bitsGet v 0 12 = 0 ∨ 2400 < bitsGet v 0 12 then s.eventHost (F.STG_EVENT_cfg_refused n)
  else s.set (F.STG_SP_MANUAL_v n) (bitsGet v 0 12)

def execSpManualWrite (n : Port) (value : Word) (s : State) : Host.Outcome State Fault Refusal :=
  .next (s.answered (portPage n 4) fun s => s.spManualWrite n value)

/-! ### Demand and feasibility (R252) -/

/-- A sum of fractions. -/
def fracSum (l : List (Nat × Nat)) : Nat × Nat := l.foldl (fun a b => (a.1 * b.2 + b.1 * a.2, a.2 * b.2)) (0, 1)

/-- D of R252 in Q8.8, rounded up: over pairs (N, Dv) of the ports whose stages run. -/
def demandOf (khz : Nat) (l : List (Nat × Nat)) : Nat :=
  let f := fracSum (l.map fun a => (256 * khz * (a.2 + 1), 1000 * max 1 a.1 * max 1 a.2))
  ceilDiv f.1 f.2

/-- The demand of a hearth over the ports it runs. -/
def State.hearthDemand (s : State) (h : Hth) : Nat :=
  demandOf s.tickKhz (((List.finRange 8).filter fun n => s.runsPort h n && s.loopsOn n).map fun n =>
    (s.get (F.STG_CARRIER_n_div n), s.dvOf n))

/-- One hearth's check at an epoch tick. -/
def State.feasibilityCheck (s : State) (h : Hth) : State :=
  let d := s.hearthDemand h
  let ok : Bool := d ≤ 4 * s.get (F.LEN_CAPACITY_cap_used.inHearth h)
  let t := (s.setIn [h] F.LEN_DEMAND_demand (min 0xFFFF d)).setIn [h] F.LEN_STATUS_feasible (bn ok)
  let t := if bn ok = s.get (F.LEN_STATUS_feasible.inHearth h) then t else t.bumpIn [h] F.LEN_SEQ_changes
  if ok then t else t.eventIn [h] F.LEN_EVENT_infeasible 7

def execFeasibilityCheck (s : State) : Host.Outcome State Fault Refusal :=
  .next (if s.atEpoch then [Hth.A, Hth.B].foldl (fun t h => if t.powered h then t.feasibilityCheck h else t) s else s)

end Sys2Proof.Machine
end

