-- ==== Sys2Proof/Machine/Opc.lean ====
section
/-! DEFINITION. The Operating-Point Correction Table (R262-R266, R275): its window, its validity, its configuration. -/

namespace Sys2Proof.Machine

/-- Entries of the table (R262). -/
def opctSize : Nat := 6144

/-- WIN_ADDR advances by 1 after each word, not beyond 8,191 (R265). -/
def State.opcAdvance (s : State) (i : Nat) : State := s.set F.OPC_WIN_ADDR_index (min 8191 (i + 1))

/-- A word written through the window (R265): refused while clearing, with bits [31:24] set, or beyond the table. -/
def State.opcWrite (s : State) (w : Word) : State :=
  let i := s.get F.OPC_WIN_ADDR_index
  let t :=
    if s.flag F.OPC_STATUS_clearing ∨ bitsGet w 24 8 ≠ 0 ∨ opctSize ≤ i then s.eventWindow F.OPC_EVENT_window_refused
    else s.modHearths s.devHearths fun x => { x with
      opct := sparseWrite (fun _ => 0) x.opct i (BitVec.ofNat 24 w.toNat), opctWas := (i, x.opctRead i) :: x.opctWas }
  t.opcAdvance i

def execOpcWindowWrite (word : Word) (s : State) : Host.Outcome State Fault Refusal :=
  .next (s.answered 0x12 fun s => s.opcWrite word)

/-- A window read: the entry at WIN_ADDR, or 0 with window_refused (R265). -/
def State.opcRead (s : State) : State :=
  let i := s.get F.OPC_WIN_ADDR_index
  let t :=
    if s.flag F.OPC_STATUS_clearing ∨ opctSize ≤ i then (s.eventWindow F.OPC_EVENT_window_refused).returnWord 0
    else s.returnWord (BitVec.ofNat 32 (sparseRead (fun _ => 0) (s.hearthOf s.devHearth).opct i).toNat)
  t.opcAdvance i

def execOpcWindowRead (s : State) : Host.Outcome State Fault Refusal := .next (s.answered 0x12 State.opcRead)

/-- A write of OPC.CONTROL (R265): clear_table acts first, clear_valid second, and set_valid only without them; set_valid and
clear_table need the key, which the write clears. -/
def State.opcControl (s : State) (v : Word) : State :=
  let key : Bool := s.get F.OPC_KEY_key = 0x4F
  let set := bitsGet v 0 1 = 1
  let clr := bitsGet v 1 1 = 1
  let tab := bitsGet v 2 1 = 1
  let t := s.set F.OPC_KEY_key 0
  let t := if (set ∨ tab) ∧ ¬ key then t.eventHost F.OPC_EVENT_cfg_refused else t
  let t :=
    if tab ∧ key then
      ((t.set F.OPC_STATUS_valid 0).set F.OPC_STATUS_clearing 1).start .opcClear 0 (t.us 100)
    else t
  let t := if clr then t.set F.OPC_STATUS_valid 0 else t
  if set ∧ key ∧ ¬ clr ∧ ¬ tab then (t.set F.OPC_STATUS_valid 1).bump F.OPC_SEQ_validations else t

def execOpcSetValid (s : State) : Host.Outcome State Fault Refusal :=
  .next (s.answered 0x12 fun s => s.opcControl 1)
def execOpcClearValid (s : State) : Host.Outcome State Fault Refusal :=
  .next (s.answered 0x12 fun s => s.opcControl 2)
def execOpcClearTable (s : State) : Host.Outcome State Fault Refusal :=
  .next (s.answered 0x12 fun s => s.opcControl 4)

/-- Every entry has been zeroed (R265). -/
def State.opcCleared (s : State) : State :=
  if s.flag F.OPC_STATUS_clearing then
    ((s.modHearths s.devHearths fun x => { x with opct := [] }).set F.OPC_STATUS_clearing 0).stop .opcClear 0
  else s

def execOpcClearComplete (s : State) : Host.Outcome State Fault Refusal := .next s.opcCleared

/-- A write of WIN_SHAPE or WIN_AXES of a port (R263): a window beyond the table, or a shift outside 4-12, refuses it whole. -/
def State.opcWindowCfg (s : State) (n : Port) (axes : Bool) (v : Word) : State :=
  if axes then
    let m := bitsGet v 28 4
    let i := bitsGet v 12 4
    if outside m 4 12 || outside i 4 12 then s.eventHost F.OPC_EVENT_cfg_refused
    else
      (((s.set (F.OPC_WIN_AXES_m_shift n.val) (keep0 m (s.get (F.OPC_WIN_AXES_m_shift n.val)))).set (F.OPC_WIN_AXES_i_shift n.val)
        (keep0 i (s.get (F.OPC_WIN_AXES_i_shift n.val)))).set (F.OPC_WIN_AXES_m_base n.val) (bitsGet v 16 12)).set
        (F.OPC_WIN_AXES_i_base n.val) (bitsGet v 0 12)
  else
    let b := bitsGet v 16 13
    let m := bitsGet v 8 6
    let i := bitsGet v 0 6
    if opctSize ≤ b ∨ opctSize < b + m * i then s.eventHost F.OPC_EVENT_cfg_refused
    else ((s.set (F.OPC_WIN_SHAPE_base n.val) b).set (F.OPC_WIN_SHAPE_n_m n.val) m).set (F.OPC_WIN_SHAPE_n_i n.val) i

def execOpcWindowCfgWrite (n : Port) (axes : Bool) (value : Word) (s : State) : Host.Outcome State Fault Refusal :=
  .next (s.answered 0x12 fun s => s.opcWindowCfg n axes value)

/-- A write of MODEL_I or MODEL_V of a port (R269): a thr or cnt of 0 ends a running excursion on this tick, and supervision that resumes
starts with a run count of 0. -/
def State.opcModel (s : State) (n : Port) (volt : Bool) (v : Word) : State :=
  let t := if volt then
      ((s.set (F.OPC_MODEL_V_g n.val) (bitsGet v 20 12)).set (F.OPC_MODEL_V_cnt n.val) (bitsGet v 16 4)).set
        (F.OPC_MODEL_V_thr n.val) (bitsGet v 0 15)
    else
      ((s.set (F.OPC_MODEL_I_g n.val) (bitsGet v 20 12)).set (F.OPC_MODEL_I_cnt n.val) (bitsGet v 16 4)).set
        (F.OPC_MODEL_I_thr n.val) (bitsGet v 0 15)
  if bitsGet v 16 4 = 0 ∨ bitsGet v 0 15 = 0 then (t.setExcursion n volt false).setRun n volt 0
  else if s.supervised n volt then t
  else t.setRun n volt 0

def execOpcModelWrite (n : Port) (volt : Bool) (value : Word) (s : State) : Host.Outcome State Fault Refusal :=
  .next (s.answered 0x12 fun s => s.opcModel n volt value)

end Sys2Proof.Machine
end

