-- ==== Sys2Proof/Machine/Trc.lean ====
section
/-! DEFINITION. The Trace Unit of each hearth (R270-R274, R277): strobes, nodes, captures, triggers and readout. -/

namespace Sys2Proof.Machine

/-! ### Nodes (Table 12.4) -/

/-- Two halves as a word. -/
def halves (hi lo : Nat) : Word := BitVec.ofNat 32 (hi % 65536 * 65536 + lo % 65536)

/-- Fn_VSNS lies in the feed's window. -/
def State.feedInWindow (s : State) (f : Nat) : Bool :=
  let v := 15 * s.adc (26 + f)
  100 * s.get (F.FED_FEED_WIN_uv f) ≤ v && v ≤ 100 * s.get (F.FED_FEED_WIN_ov f)

/-- Content of a node of a port, as hearth `h` sees it. -/
def State.traceNode (s : State) (h : Hth) (node : Nat) (n : Port) : Word :=
  let l := s.lp.get n
  let mine (r : LoopResult × LoopResult) : LoopResult := match h with | .A => r.1 | .B => r.2
  let v := mine l.lastV
  let i := mine l.lastI
  let own (f : Field) : Nat := s.get (f.inHearth h)
  if 2 ≤ node ∧ node ≤ 16 ∧ ¬ [13, 14, 15].contains node ∧ ¬ s.runsPort h n then 0
  else
    match node with
    | 1 => BitVec.ofNat 32 s.tbase.toNat
    | 2 => halves (s.get (F.STG_ADC_LAST_vbus n)) (s.get (F.STG_ADC_LAST_imon n))
    | 3 => halves (q16 (s.vPort n)) (q16 (s.iL n))
    | 4 => halves (q16 v.e0) (q16 v.y)
    | 5 => halves (q16 i.e0) (q16 i.y)
    | 6 => halves (q16 i.ff) (own (F.OPC_LOOKUP_delta n.val))
    | 7 => halves (own (F.OPC_RESID_r_v n.val)) (own (F.OPC_RESID_r_i n.val))
    | 8 => halves (q16 v.pred) (q16 i.pred)
    | 9 => halves (s.get (F.ILP_DUTY_dbl_sub n)) (s.get (F.ILP_DUTY_da_sub n))
    | 10 => halves (s.get (F.STG_SP_STATUS_vref n)) (s.get (F.STG_SP_STATUS_target n))
    | 11 => halves (s.get (F.ILP_LIMIT_STATUS_ilim n)) (s.get (F.ILP_LIMIT_STATUS_src n) * 4096)
    | 12 => s.word (0x12A4 + 4 * n.val) (hthCopy h)
    | 13 => BitVec.ofNat 32 (s.get (F.CMP_EVENT_latched 0))
    | 14 => BitVec.ofNat 32 (s.get (F.CMP_EVENT_latched 1))
    | 15 => halves (q16 (s.vBus n)) (16 * s.get F.FED_STATUS_selected +
        ((List.range 4).map fun f => bn (s.feedInWindow f) * 2 ^ f).sum)
    | 16 => halves (own (F.DRT_GRANT_committed n.val)) (own (F.DRT_GRANT_provisional n.val))
    | 17 => halves (own F.LEN_CAPACITY_cap) (s.railCode h)
    | 18 => BitVec.ofNat 32 (((List.range 4).map fun k =>
        own (F.POL_SEQ_epoch (Fin.ofNat 8 k)) * 256 ^ k).sum)
    | 19 => BitVec.ofNat 32 (((List.range 4).map fun k =>
        own (F.POL_SEQ_epoch (Fin.ofNat 8 (k + 4))) * 256 ^ k).sum)
    | _ => 0

/-! ### Captures (R272, R273) -/

/-- Armed or triggered. -/
def State.trcRuns (s : State) (h : Hth) : Bool := s.trcState h = 1 || s.trcState h = 2

/-- Replace a hearth's buffer, and count it. -/
def State.trcPut (s : State) (h : Hth) (l : List (Word × Word)) : State :=
  (s.putHearth h { s.hearthOf h with trace := l }).setIn [h] F.TRC_RESULT_count l.length

/-- The capture ends as done. -/
def State.trcDone (s : State) (h : Hth) : State :=
  ((s.setIn [h] F.TRC_STATUS_state 3).eventIn [h] F.TRC_EVENT_done 0).bumpIn [h] F.TRC_SEQ_captures

/-- One sample: an armed capture keeps the newest `pre`, the first one after a trigger becomes the trigger sample, and `post` further ones
end the capture. -/
def State.trcSample (s : State) (h : Hth) (x : Word × Word) : State :=
  let b := (s.hearthOf h).trace
  let post := s.get (F.TRC_CAPTURE_post.inHearth h)
  match s.trcState h with
  | 1 =>
    let cause := (s.hearthOf h).trigger
    if cause = 0 then
      let l := b ++ [x]
      s.trcPut h (l.drop (l.length - s.get (F.TRC_CAPTURE_pre.inHearth h)))
    else
      let t := s.trcPut h (b ++ [x])
      let t := t.putHearth h { t.hearthOf h with trigger := 0 }
      let t := ((t.setIn [h] F.TRC_STATUS_state 2).setIn [h] F.TRC_RESULT_cause cause).setIn [h] F.TRC_RESULT_trig_pos b.length
      let t := (t.setIn [h] F.TRC_TRIG_TIME_LO_tbase (s.tbase.toNat % 2 ^ 32)).setIn [h] F.TRC_TRIG_TIME_HI_tbase (s.tbase.toNat / 2 ^ 32)
      let t := t.eventIn [h] F.TRC_EVENT_triggered 0
      if post = 0 then t.trcDone h else t
  | 2 =>
    let t := s.trcPut h (b ++ [x])
    if post ≤ b.length - s.get (F.TRC_RESULT_trig_pos.inHearth h) then t.trcDone h else t
  | _ => s

/-- CONTROL.arm: the buffer is discarded and a capture starts (R272). -/
def State.trcArm (s : State) (h : Hth) : State :=
  let t := s.putHearth h { s.hearthOf h with trace := [], trigger := 0 }
  (((t.setIn [h] F.TRC_STATUS_state 1).setIn [h] F.TRC_RESULT_cause 0).setIn [h] F.TRC_RESULT_trig_pos 0).setIn [h] F.TRC_RESULT_count 0

/-- CONTROL.stop: an armed or triggered capture is done; still armed, its cause reads 0. -/
def State.trcStop (s : State) (h : Hth) : State :=
  if s.trcRuns h then (s.putHearth h { s.hearthOf h with trigger := 0 }).trcDone h else s

/-- CONTROL.force_trigger, where the host trigger is enabled. -/
def State.trcForce (s : State) (h : Hth) : State :=
  if s.get (F.TRC_TRIG_SRC_host.inHearth h) = 1 then s.trcTrigger h 1 else s

def execTrcArm (s : State) : Host.Outcome State Fault Refusal :=
  .next (s.answered 0x0F fun s => s.eachHearth State.trcArm)
def execTrcStop (s : State) : Host.Outcome State Fault Refusal :=
  .next (s.answered 0x0F fun s => s.eachHearth State.trcStop)
def execTrcForceTrigger (s : State) : Host.Outcome State Fault Refusal :=
  .next (s.answered 0x0F fun s => s.eachHearth State.trcForce)

def execTraceTrigger (c : TrcCause) (s : State) : Host.Outcome State Fault Refusal := .next (s.traceTrigger c)

/-- Level 3 entry stops a capture that runs (R273). -/
def State.trcFreeze (s : State) (h : Hth) : State :=
  if s.trcRuns h then
    let t := s.putHearth h { s.hearthOf h with trigger := 0 }
    ((t.setIn [h] F.TRC_STATUS_state 4).setIn [h] F.TRC_RESULT_cause 5).eventIn [h] F.TRC_EVENT_frozen 0
  else s

def State.traceFreeze (s : State) : State := s.eachHearth State.trcFreeze

/-! ### Strobes (R270) -/

/-- The first 16 bytes of a message's slot (Table 6.3). -/
def slotBytes (m : Msg) (transmit : Bool) : List Byte :=
  let b (v : Nat) : Byte := BitVec.ofNat 8 v
  let chunked := bitOf m.header 15    -- every extended message travels in chunks (R128)
  let ext : Nat := if chunked then m.data.length % 512 + 32768 else 0
  let head : List Byte :=
    [b (m.port.val + 16 * m.sop + 128 * bn transmit), b (bn m.critical + 2 * bn chunked), b m.epoch, b m.retries,
     b m.tbase, b (m.tbase / 256), b (m.tbase / 65536), b (m.tbase / 16777216), b m.header, b (m.header / 256), b ext, b (ext / 256)]
  head ++ ((m.data ++ List.replicate 4 0).take 4)

/-- The message a strobe of port `n` names: the one handed over last, or received last. -/
def State.strobeMsg (s : State) (n : Port) (received : Bool) : Option Msg :=
  if received then
    (s.inputs.filterMap fun i => match i.kind with | .message m => if m.port = n then some m else none | _ => none).getLast?
  else (s.msg.get n).queue.getLast?

/-- The samples that a strobe takes in a hearth: at the update instant of port_a, on a tick of the interval, on an epoch tick, or at a
message. -/
def State.strobeSamples (s : State) (h : Hth) (k : Strobe) : List (Word × Word) :=
  let own (f : Field) : Nat := s.get (f.inHearth h)
  let pa : Port := Fin.ofNat 8 (own F.TRC_CFG_port_a)
  let pb : Port := Fin.ofNat 8 (own F.TRC_CFG_port_b)
  let nodes := [(s.traceNode h (own F.TRC_CFG_node_a) pa, s.traceNode h (own F.TRC_CFG_node_b) pb)]
  let sel := own F.TRC_CFG_strobe
  match k with
  | .current n => if sel = 1 ∧ pa = n ∧ s.runsPort h n ∧ (s.lp.get n).capAtI = some s.tbase.toNat then nodes else []
  | .voltage n => if sel = 2 ∧ pa = n ∧ s.runsPort h n ∧ (s.lp.get n).capAtV = some s.tbase.toNat then nodes else []
  | .interval => if sel = 3 ∧ s.tbase.toNat % 2 ^ own F.TRC_CFG_k = 0 then nodes else []
  | .epoch => if sel = 4 ∧ s.atEpoch then nodes else []
  | .message n rx =>
    if sel = 5 ∧ bitOf (own F.TRC_CFG_msg_ports) n.val ∧ s.runsPort h n then
      match s.strobeMsg n rx with
      | some m =>
        match bytesWords (slotBytes m (!rx)) with
        | [a, b, c, d] => [(a, b), (c, d)]
        | _ => []
      | none => []
    else []

/-- A strobe: each running hearth whose CFG selects it takes its samples. -/
def State.traceStrobe (s : State) (k : Strobe) : State :=
  s.eachHearth fun t h => (t.strobeSamples h k).foldl (fun u x => u.trcSample h x) t

def execTraceStrobe (k : Strobe) (s : State) : Host.Outcome State Fault Refusal := .next (s.traceStrobe k)

/-! ### Readout and configuration (R274, R277, R358) -/

/-- A read of the trace window: through the alias, or of a hearth's own buffer through its debug page. Word 2s is node A of sample s. -/
def State.trcReadOf (s : State) (dbg : Option Hth) : State :=
  let h := match dbg with | some h => h | none => s.devHearth
  let f := match dbg with | some h => F.TRACE_WIN_ADDR h | none => F.TRC_WIN_ADDR_word
  let i := s.get f
  let t :=
    match s.trcRuns h, (s.hearthOf h).trace[i / 2]? with
    | false, some x => s.returnWord (if i % 2 = 0 then x.1 else x.2)
    | _, _ => (s.eventIn [h] F.TRC_EVENT_window_refused 3).returnWord 0
  t.set f (i + 1)

/-- The debug page of a hearth that is powered off reads 0 (R358). -/
def State.trcRead (s : State) (dbg : Option Hth) : State :=
  if dbg.any fun h => !s.powered h then s.returnWord 0 else s.trcReadOf dbg

def execTrcWindowRead (dbg : Option Hth) (s : State) : Host.Outcome State Fault Refusal :=
  .next (s.answered (match dbg with | some h => dbgPage h 3 | none => 0x0F) fun s => s.trcRead dbg)

/-- A TRC configuration value that a hearth accepts: CFG, CAPTURE, TRIG_SRC, TRIG_CMP, TRIG_FLUE, TRIG_LEX in order (R277). -/
def trcValid (k : Fin 6) (v : Word) : Bool :=
  match k.val with
  | 0 => bitsGet v 20 4 ≤ 5 && bitsGet v 8 5 < 20 && bitsGet v 0 5 < 20 && bitsGet v 16 4 ≠ 1
  | 1 => bitsGet v 16 14 + bitsGet v 0 14 ≤ 16383
  | _ => true

/-- Writable bits of those registers. -/
def trcMask (k : Fin 6) : Nat :=
  match k.val with
  | 0 => 0xFFFFFFFF
  | 1 => 0x3FFF3FFF
  | 2 => 0xF
  | 3 => 0x33F
  | 4 => 0xFF0003
  | _ => 0x1FFFF

/-- A TRC configuration write in one hearth: refused while its capture runs, or with a value out of range. -/
def State.trcConfig (s : State) (h : Hth) (k : Fin 6) (v : Word) : State :=
  if s.trcRuns h || !trcValid k v then s.eventIn [h] F.TRC_EVENT_cfg_refused 1
  else
    let old := s.get (F.TRC_CFG_k.inHearth h)
    let w := v &&& BitVec.ofNat 32 (trcMask k)
    let w := if k.val = 0 ∧ bitsGet v 16 4 = 0 then bitsSet w F.TRC_CFG_k.lo F.TRC_CFG_k.width old else w
    (s.putWord (0x0F20 + 4 * k.val) (hthCopy h) w).putWord (0x0F20 + 4 * k.val) emberCopy w

def execTrcConfigWrite (k : Fin 6) (value : Word) (s : State) : Host.Outcome State Fault Refusal :=
  .next (s.answered 0x0F fun s => s.eachHearth fun t h => t.trcConfig h k value)

end Sys2Proof.Machine
end

