-- ==== Sys2Proof/Machine/Drt.lean ====
section
/-! DEFINITION. The Draught Scheduler (chapter 13): demand records, pools, the committed allocation, admission, lane capacity, run-ahead,
and the emergency shed. Powers are in 100 mW; P_c and the shares of R283 are worked out in whole watts. -/

namespace Sys2Proof.Machine

/-! ### Demand records (R17, R280) -/

/-- The epoch that runs: TBASE in units of 2,048 ticks, numbered on when TBASE wraps. -/
def State.epochNo (s : State) : Nat := s.tb.laps * 2 ^ 37 + s.tbase.toNat / 2048

/-- A contract's power V x I, rounded up to 100 mW. -/
def contractPower : Option Contract → Nat
  | some c => ceilDiv (c.mv * c.ma) 100000
  | none => 0

/-- FR_Swap reserve by the partner's declared code (R288): 5 V at 0.9 A, 1.5 A or 3.0 A. -/
def frsReserve (code : Nat) : Nat := match code with | 0 => 0 | 1 => 45 | 2 => 75 | _ => 150

/-- Type-C current that a sink sees on its orientation pin, mA, or the one that NO_PD_MA names. -/
def State.typecMa (s : State) (n : Port) : Nat :=
  let p := (s.pol.get n).params.noPd
  if p ≠ 0 then p
  else match s.pinLvl n (s.flag (F.CC_STATUS_orient n)) with | 5 => 900 | 6 => 1500 | 7 => 3000 | _ => 0

/-- P_m: the mean of v_port x i_L over the current-loop samples of the epoch, 100 mW, exported positive. -/
def State.meanPower (s : State) (n : Port) : Int :=
  let l := s.lp.get n
  l.energy * 150 * s.ifs n / (3276800000 * max 1 l.samples : Nat)

/-- The demand record of a port as it stands. -/
def State.demandRecord (s : State) (n : Port) : Demand :=
  let p := s.pol.get n
  { running := s.loopsOn n, reverse := s.flag (F.STG_STATUS_dir n), nDiv := s.get (F.STG_CARRIER_n_div n), dv := s.dvOf n,
    dvBase := s.get (F.STG_VLOOP_CFG_dv_base n), dvMax := s.get (F.STG_VLOOP_CFG_dv_max n),
    attached := (s.cc.get n).attached && !s.draught.gone.getLsbD n.val, admitted := s.bit F.DRT_STATUS_admitted n.val,
    source := s.sourcing n, explicit := p.cur.isSome, power := contractPower p.cur, pdp := p.params.srcPdp, floor := s.portFloor n,
    fetT := s.get (F.THM_TEMP_fet_t n), trk := (s.thn.get n).terms, vreq := contractMv p.cur / 100,
    frs := if p.frsWanted && s.sinking n then frsReserve p.partnerFrs else 0, pm := s.meanPower n, rd := s.typecMa n }

/-- A hearth's own temperature and capacity figure. -/
def State.hearthFig (s : State) (h : Hth) : HearthFig := { tj := tjByte (s.adc 47), cap := s.get (F.LEN_CAPACITY_cap_used.inHearth h) }

/-- The figure latched for a hearth. -/
def Draught.fig (d : Draught) : Hth → HearthFig
  | .A => d.figA
  | .B => d.figB

/-- The figures of both hearths are latched, except those of a hearth in `keep`. -/
def State.figsLatch (s : State) (keepA keepB : Bool) : State :=
  { s with draught := { s.draught with
    figA := if keepA then s.draught.figA else s.hearthFig .A, figB := if keepB then s.draught.figB else s.hearthFig .B } }

/-- The epoch exchange latches the records published in the epoch just ended (R17, R18): a record not published is used again, and its
hearth has missed once more. The hearths' figures go with their records. Outside Split nothing is exchanged. -/
def State.exchangeLatch (s : State) (published : BitVec 8) : State :=
  if s.hearths.mode = .split then
    let d := s.draught
    let t : State := { s with draught := { d with
      records := Vector.ofFn fun n => if published.getLsbD n.val then s.demandRecord n else d.records.get n } }
    let missed (h : Hth) : Bool := (List.finRange 8).any fun n => s.driver n = h && !published.getLsbD n.val
    [Hth.A, Hth.B].foldl (fun t h =>
      let miss := missed h
      if s.role h ≠ .owner then t
      else
        let k := if h = .A then t.draught.exchA else t.draught.exchB
        let put (v : Nat) : State :=
          { t with draught := if h = .A then { t.draught with exchA := v } else { t.draught with exchB := v } }
        if miss then (put (k + 1)).report 0x5B (hthBit h) 0 (2 + hthBit h) 7 else put 0) (t.figsLatch (missed .A) (missed .B))
  else s

def execEpochExchangeLatch (published : BitVec 8) (s : State) : Host.Outcome State Fault Refusal :=
  .next (if s.atEpoch then s.exchangeLatch published else s)

/-- The records a run uses: the exchange's in Split, otherwise as they stand at the tick. -/
def State.recordsNow (s : State) : Vector Demand 8 :=
  if s.hearths.mode = .split then
    Vector.ofFn fun n => if s.draught.gone.getLsbD n.val then { s.draught.records.get n with attached := false } else s.draught.records.get n
  else Vector.ofFn fun n => s.demandRecord n

/-! ### Pools and shares (R281-R284) -/

/-- S and A of a feed, 100 mW; both 0 for none. -/
def State.feedCap (s : State) (f : Nat) : Nat × Nat :=
  if f < 4 then (10 * s.get (F.DRT_FEED_CAP_supply_w f), 10 * s.get (F.DRT_FEED_CAP_absorb_w f)) else (0, 0)

/-- h_n of a port (R282). -/
def State.heatCap (s : State) (n : Port) (fetT : Nat) : Nat :=
  let a := s.get F.DRT_THERMAL_t_start
  let b := s.get F.DRT_THERMAL_t_stop
  10 * s.get (F.DRT_PORT_CFG_pmax_w n.val) * min (b - a) (b - fetT) / max 1 (b - a)

/-- m_n in W (R283): for a source with a contract the larger of its floor and that power; otherwise the floor that its admission holds. -/
def mandatory (d : Demand) : Nat := if d.source ∧ d.explicit then max d.floor (ceilDiv d.power 10) else d.floor

/-- One pass of the share of a class: each open port takes its part of the spare that the pass begins with. -/
def sharePass (want weight : Port → Nat) (tot spare0 : Nat) : List Port → Vector Nat 8 × Nat → Vector Nat 8 × Nat
  | [], a => a
  | n :: t, (pc, spare) =>
    let g := min (want n - pc.get n) (spare0 * weight n / (10 * tot))
    sharePass want weight tot spare0 t (vmod pc n fun v => v + g, spare - 10 * g)

/-- 1 W to each open port while 1 W is left. -/
def shareOnes : List Port → Vector Nat 8 × Nat → Vector Nat 8 × Nat
  | [], a => a
  | n :: t, (pc, spare) => if 10 ≤ spare then shareOnes t (vmod pc n fun v => v + 1, spare - 10) else (pc, spare)

/-- The share of one class (R283): P_c in W, the spare in 100 mW. Every pass hands out 1 W at least, so the passes end with the spare. -/
def shareClass (want weight : Port → Nat) : Nat → List Port → Vector Nat 8 × Nat → Vector Nat 8 × Nat
  | 0, _, a => a
  | k + 1, ports, (pc, spare) =>
    let live := ports.filter fun n => pc.get n < want n
    if spare < 10 ∨ ports = [] then (pc, spare)
    else
      let a := sharePass want weight (max 1 (ports.map weight).sum) spare ports (pc, spare)
      let b := if a.2 = spare then shareOnes live a else a
      shareClass want weight k (ports.filter fun n => a.1.get n < want n) b

/-- P_c of the source ports in W (R283, R284), and whether there is a shortfall: `m` in W, pools in 100 mW. -/
def State.allocate (s : State) (src : List Port) (m floor want heat : Port → Nat) (mTot x sl : Nat) : Vector Nat 8 × Bool :=
  let start : Vector Nat 8 := Vector.ofFn fun n => if src.contains n then m n else 0
  if mTot ≤ x then
    let weight (n : Port) : Nat := s.get (F.DRT_PORT_CFG_weight n.val)
    let classes (c : Nat) : List Port := src.filter fun n => s.get (F.DRT_PORT_CFG_prio n.val) = c && m n < want n
    let a := (List.range 16).foldl (fun a c => shareClass want weight (a.2 + 16) (classes c) a) (start, x - mTot)
    (Vector.ofFn fun n => min (a.1.get n) (heat n), false)
  else if mTot ≤ sl then (start, false)
  else
    let f := (src.map floor).sum
    let e := (src.map fun n => m n - floor n).sum
    if sl < 10 * f then (Vector.ofFn fun n => if src.contains n then floor n * sl / (10 * f) else 0, true)
    else (Vector.ofFn fun n => if src.contains n then floor n + (sl - 10 * f) * (m n - floor n) / (10 * max 1 e) else 0, true)

/-! ### Admission (R287) -/

/-- An entry in the queue's order: attach tick, then port. -/
def admitInsert (a : Admit) : List Admit → List Admit
  | [] => [a]
  | b :: t => if tickBefore a.tick b.tick ∨ (a.tick = b.tick ∧ a.port < b.port) then a :: b :: t else b :: admitInsert a t

/-- A port holds an admission from now on; a close command that stands acts. -/
def State.admitPort (s : State) (n : Port) : State := ((s.setBit F.DRT_STATUS_admitted n.val true).dropAdmission n).showQueue.pathTry n

/-- An attach that would close a path asks for admission; the Kindling port has it without queueing. -/
def State.admissionRequest (s : State) (n : Port) : State :=
  if s.bit F.DRT_STATUS_admitted n.val ∨ ¬ (s.cc.get n).attached ∨ (s.pol.get n).safeHeld ∨ ¬ s.flag (F.FND_STATUS_close_cmd n) then s
  else if s.ember.kindling = some n then s.admitPort n
  else if s.draught.queue.any fun a => a.port = n then s
  else
    ({ s with draught := { s.draught with
      queue := admitInsert { tick := (s.cc.get n).attachTick, port := n, waited := false } s.draught.queue } } : State).showQueue

def execAdmissionRequest (n : Port) (s : State) : Host.Outcome State Fault Refusal := .next (s.admissionRequest n)

/-- The ports released from the head of the queue, with M as it grows (100 mW). -/
def releaseFrom (floor : Port → Nat) (x : Nat) : Nat → List Admit → Nat → List Port × Nat
  | 0, _, m => ([], m)
  | _, [], m => ([], m)
  | k + 1, a :: t, m =>
    let f := 10 * floor a.port
    if m + f ≤ x then let r := releaseFrom floor x k t (m + f); (a.port :: r.1, r.2) else ([], m)

/-! ### Lane capacity, rails and Dv (R289, R290) -/

/-- D of R252 over the ports `ps`, with the Dv values given. -/
def laneDemand (khz : Nat) (recs : Vector Demand 8) (ps : List Port) (dvs : Vector Nat 8) : Nat :=
  demandOf khz ((ps.filter fun n => (recs.get n).running).map fun n => ((recs.get n).nDiv, dvs.get n))

/-- The first port of the list with the greatest key. -/
def argMax (key : Port → Nat) : List Port → Option Port
  | [] => none
  | n :: t =>
    match argMax key t with
    | some m => if key n < key m then some m else some n
    | none => some n

/-- Raise Dv one step at a time while D x 100 exceeds the limit, each time on the port with the largest dv_max - dv_eff. -/
def raiseDv (khz : Nat) (recs : Vector Demand 8) (ps : List Port) (limit : Nat) : Nat → Vector Nat 8 → Vector Nat 8
  | 0, dvs => dvs
  | k + 1, dvs =>
    if 100 * laneDemand khz recs ps dvs ≤ limit then dvs
    else
      match argMax (fun n => (recs.get n).dvMax - dvs.get n) (ps.filter fun n => dvs.get n < (recs.get n).dvMax) with
      | some n => raiseDv khz recs ps limit k (vmod dvs n fun v => v + 1)
      | none => dvs

/-- Lower Dv on one port, the one with the smallest dv_max - dv_eff above its dv_base, if D x 100 stays within the limit. -/
def lowerDv (khz : Nat) (recs : Vector Demand 8) (ps : List Port) (limit : Nat) (dvs : Vector Nat 8) : Vector Nat 8 :=
  match argMax (fun n => 64 - ((recs.get n).dvMax - dvs.get n)) (ps.filter fun n => (recs.get n).dvBase < dvs.get n) with
  | some n =>
    let d := vmod dvs n fun v => v - 1
    if 100 * laneDemand khz recs ps d ≤ limit then d else dvs
  | none => dvs

/-- Dv of every port at dv_base, in ascending order, as far as D stays within the capacity (R293). -/
def baseDv (khz : Nat) (recs : Vector Demand 8) (ps : List Port) (limit : Nat) (dvs : Vector Nat 8) : Vector Nat 8 :=
  ps.foldl (fun d n =>
    let e := vmod d n fun _ => (recs.get n).dvBase
    if 100 * laneDemand khz recs ps e ≤ limit then e else d) dvs

/-- What the run-ahead asks of a hearth's rail and Dv (R293): a provisional grant is in force or placed, and one is in force at the next tick. -/
structure LaneNeed where
  placed : Bool
  provisional : Bool
deriving DecidableEq, Repr

/-- A hearth's next rail code and the Dv of its ports: `placed` while a provisional grant is in force or placed, `provisional` when one is
in force at the next tick (R289, R290, R293). During Kindling R60 fixes both. -/
def State.laneDecide (s : State) (recs : Vector Demand 8) (h : Hth) (placed provisional : Bool) (dvs : Vector Nat 8) : Nat × Vector Nat 8 :=
  let ps := (List.finRange 8).filter fun n => s.runsPort h n
  let khz := s.tickKhz
  let c4 := 4 * (s.draught.fig h).cap
  let code := s.railCode h
  let lo := s.get F.DRT_CAP_CFG_rail_min
  let hi := s.get F.DRT_CAP_CFG_rail_max
  let tj := (s.draught.fig h).tj
  let high := c4 * (100 - s.get F.DRT_CAP_CFG_raise_pct)
  let low := c4 * (100 - s.get F.DRT_CAP_CFG_lower_pct)
  let d := 100 * laneDemand khz recs ps dvs
  let down := if lo < code then code - 1 else code
  let up := if code < hi ∧ tj < s.get F.DRT_THERMAL_tj_rail then min hi (code + 2) else code
  if s.ember.kindling.isSome then (code, dvs)
  else
    let hot : Bool := s.get F.DRT_THERMAL_tj_hot ≤ tj
    let base : Bool := ps.all fun n => dvs.get n = (recs.get n).dvBase
    let next := if hot then down else if placed then up else if high < d ∧ up ≠ code then up else if d ≤ low ∧ base then down else code
    let start := if provisional then baseDv khz recs ps (100 * c4) dvs else dvs
    let limit := if hot ∧ next < code then high else 100 * c4
    let raised := raiseDv khz recs ps limit 128 start
    (next, if raised = start then lowerDv khz recs ps high start else raised)

/-- A rail's next code on its way to a target: in one epoch it rises by at most 2 codes and falls by at most 1 (R86). -/
def railToward (now goal : Nat) : Nat := if now ≤ goal then min goal (now + 2) else now - 1

/-- The hearths that decide rails: each owner in Split, otherwise the driving hearth. -/
def State.deciders (s : State) : List Hth :=
  if s.hearths.mode = .split then [Hth.A, Hth.B].filter fun h => s.role h = .owner else [s.devHearth]

/-- Before a handover into Mirror the rail that must rise to meet the coming Active hearth's code rises towards it, by at most 20 mV in an
epoch (R86, R346): the codes of A and B, given those that their own schedulers choose. -/
def State.railsMeet (s : State) (a b : Nat) : Nat × Nat :=
  let meet (now own goal : Nat) : Nat := if own < goal then max own (min goal (now + 2)) else own
  match s.hearths.goal with
  | some (.mode .mirror _) =>
    if s.hearths.mode = .split then (a, meet (s.railCode .B) b a)
    else if s.hearths.source = .A then (a, railToward (s.railCode .B) a)
    else (railToward (s.railCode .A) b, b)
  | _ => (a, b)

/-- Rail codes of both hearths and the Dv of all ports for the next tick, each Dv within its dv_base and dv_max (R238); in Mirror both hearths take the same code (R15). -/
def State.lanePlan (s : State) (recs : Vector Demand 8) (a b : LaneNeed) : Nat × Nat × Vector Nat 8 :=
  let now : Vector Nat 8 := Vector.ofFn fun n => min (recs.get n).dvMax (max (recs.get n).dvBase (recs.get n).dv)
  let need (h : Hth) : LaneNeed := match h with | .A => a | .B => b
  let l := s.deciders.foldl (fun a h =>
    let r := s.laneDecide recs h (need h).placed (need h).provisional a.2.2
    if s.hearths.mode = .mirror then (r.1, r.1, r.2) else if h = .A then (r.1, a.2.1, r.2) else (a.1, r.1, r.2))
    (s.railCode .A, s.railCode .B, now)
  let m := s.railsMeet l.1 l.2.1
  (m.1, m.2, l.2.2)

/-! ### Run-ahead (R291-R295) -/

/-- A channel is read in its mode (R291). -/
def State.chanMode (s : State) (c : Nat) : Nat := s.get (F.RUN_ENV_CFG_mode c)

/-- The level of an analogue channel from its peak code, and of a pulse channel from high ticks and period, or high ticks of a window. -/
def envLevel (mode code hi per : Nat) : Nat :=
  match mode with
  | 1 => min 65535 (code * 16)
  | 2 => if per = 0 then 0 else min 65535 (hi * 65536 / per)
  | 3 => min (hi * 256) 65535
  | _ => 0

/-- The predictions in a hearth's ring. -/
def predsOf (l : List Pred) (h : Hth) : List Pred := l.filter fun p => p.only.isNone || p.only = some h

/-- Predictions in force in an epoch for a consumer. -/
def predsIn (l : List Pred) (consumer e : Nat) : List Pred := l.filter fun p => p.consumer = consumer && p.start ≤ e && e ≤ p.target

/-- L_p in an epoch: the largest local prediction above L_c. -/
def localGrant (l : List Pred) (lc e : Nat) : Nat := ((predsIn l 8 e).map fun p => p.power - lc).foldl max 0

/-- The governing tracking prediction of a port in an epoch: the one of the largest power. -/
def trackPred (l : List Pred) (n : Port) (e : Nat) : Option Pred :=
  (predsIn l n.val e).foldl (fun a p => match a with | some q => if q.power < p.power then some p else a | none => some p) none

/-- A provisional grant is in force in an epoch: a local one above 0, or a tracking target. -/
def provisionalIn (l : List Pred) (lc e : Nat) : Bool :=
  0 < localGrant l lc e || (List.finRange 8).any fun n => (trackPred l n e).isSome

/-- A provisional grant is in force at epoch `e` or placed to come into force. -/
def provisionalFrom (l : List Pred) (lc e : Nat) : Bool :=
  l.any fun p => e ≤ p.target && (p.consumer ≠ 8 || lc < p.power)

/-- Notice of a squash: the event, the count, the cause and the epoch, and the backoff (R295); a hold and its pre-charge are released at
once (R299). -/
def State.squashNote (s : State) (e cause : Nat) : State :=
  let t := ((s.eventBy F.RUN_EVENT_squash (if cause = 4 then 1 else 0)).bump F.RUN_SEQ_squashes).set F.RUN_SQUASH_cause cause
  let t := (t.set F.RUN_SQUASH_epoch (e % 2 ^ 24)).set F.RUN_STATUS_backoff (s.get F.RUN_CONFIG_backoff)
  let t : State := { t with draught := { t.draught with holds := 0 }, feeds := { t.feeds with hold := false } }
  (t.set F.DRT_STATUS_hold 0).set F.RUN_STATUS_precharge 0

/-- Discard every prediction whose span reaches `e` or a later epoch. -/
def State.predsDrop (s : State) (e : Nat) : State :=
  { s with draught := { s.draught with preds := s.draught.preds.filter fun p => p.target < e } }

/-- A squash from the epoch that runs, once its run is over: what the plan holds of the next tick returns to the committed state. Cause 3
returns L_c to base_w. -/
def State.squashNow (s : State) (cause : Nat) : State :=
  let e := s.epochNo
  let t := (s.squashNote e cause).predsDrop e
  let base := 10 * t.get F.DRT_LOCAL_base_w
  let t := match t.draught.plan with
    | none => t
    | some p =>
      let l := t.lanePlan t.draught.records { placed := false, provisional := false } { placed := false, provisional := false }
      let q : Plan :=
        { p with
          ports := Vector.ofFn fun n =>
            { p.ports.get n with gp := 0, trkPublished := (p.ports.get n).trkCommitted, trkProv := false, dv := l.2.2.get n },
          railA := l.1, railB := l.2.1, railProv := false, dvProv := false, provLocal := 0, provTotal := 0, hold := false,
          lc := if cause = 3 then base else p.lc,
          h := if cause = 3 then p.s - (10 * (p.ports.toList.map (·.pc)).sum + (p.ports.toList.map (·.reserve)).sum + base) else p.h }
      { t with draught := { t.draught with plan := some q } }
  if cause = 3 then t.set F.DRT_LOCAL_STATUS_lc base else t

def execRunSquashCmd (s : State) : Host.Outcome State Fault Refusal :=
  .next (s.answered 9 fun s => s.squashNow 4)

/-- A pulse channel has shown no edge for 64 us (R291). -/
def State.envLost (s : State) (c : Fin 4) : State :=
  if 2 ≤ s.chanMode c.val then
    ((s.event F.RUN_EVENT_env_lost).setBit F.RUN_STATUS_chans c.val false).set (F.RUN_LEVEL_e c.val) 0
  else s

def execEnvLost (c : Fin 4) (s : State) : Host.Outcome State Fault Refusal := .next (s.envLost c)

/-- d of R292 in epochs. -/
def State.leadEpochs (s : State) : Nat := s.get F.RUN_CONFIG_lead * s.tickKhz / 20480

/-- The largest local grant already placed for the epochs `start` to `t`. -/
def grantOver (l : List Pred) (lc start t : Nat) : Nat := ((List.range (t + 1 - start)).map fun i => localGrant l lc (start + i)).foldl max 0

/-- A channel's forecast placed as a prediction (R292, R293): a local one at the part that fits in what the grants already placed for its
epochs leave of the headroom `h` (those of an epoch are its largest, which governs; DEDUCED, log 90), a tracking one for a port under an active
contract. -/
def State.placePred (s : State) (recs : Vector Demand 8) (k lc h c : Nat) : Option Pred :=
  let e := s.get (F.RUN_LEVEL_e c)
  let full := s.get (F.RUN_ENV_CFG_full_w c)
  let f := 10 * full * e / 65536
  let consumer := s.get (F.RUN_ENV_CFG_target c)
  let d := s.leadEpochs
  let t := k + d - 1
  let start := max (t - s.get F.RUN_CONFIG_act) (k + 2)
  if s.get F.RUN_CONFIG_lead = 0 ∨ s.get F.RUN_CONFIG_en = 0 ∨ s.chanMode c = 0 ∨ full = 0 ∨ t < start then none
  else if consumer = 8 then
    let p := min f (10 * s.get F.DRT_LOCAL_peak_w)
    let room := h - grantOver s.draught.preds lc start t
    some { chan := c, consumer := 8, target := t, start := start, power := min p (lc + room), volts := 0, fullW := full }
  else
    let r := recs.get (Fin.ofNat 8 consumer)
    match r.trk, r.attached with
    | some x, true =>
      some { chan := c, consumer := consumer, target := t, start := start, power := min f (10 * x.ptrk),
             volts := x.vlo + e * (x.vhi - x.vlo) / 65536, fullW := full }
    | _, _ => none

/-- The forecasts of the channels are placed, in ascending order. -/
def State.placePreds (s : State) (recs : Vector Demand 8) (k lc h : Nat) : State :=
  (List.range 4).foldl (fun t c =>
    ({ t with draught := { t.draught with preds := t.draught.preds ++ (t.placePred recs k lc h c).toList } } : State)) s

/-- A prediction is borne out by what was measured over its target epoch (R294). -/
def confirmed (tol : Nat) (measured : Int) (p : Pred) : Bool := 10 * (measured - p.power).natAbs ≤ tol * p.fullW

/-! ### Publication (R279, R285) -/

/-- P_c as published: falls at once, rises by step_w at least, and never above SRC_PDP_W; W. -/
def publishedPc (old new pdp step : Nat) : Nat :=
  let v := min new pdp
  if v < old ∨ old + step ≤ v then v else old

/-- The rail target of a hearth is captured at the boundary (R12), and its rail moves towards it by the step of R86. -/
def State.railOrder (s : State) (h : Hth) (code : Nat) : State :=
  let s : State := { s with boundary := match h with | .A => { s.boundary with railA := code } | .B => { s.boundary with railB := code } }
  if s.powered h then (s.setRail h (railToward (s.railCode h) code)).setIn [h] F.DRT_TJ_rail_tgt code else s

/-- A port's outputs take effect. -/
def State.publishPort (s : State) (p : Plan) (n : Port) : State :=
  let a := p.ports.get n
  let t := (s.set (F.DRT_GRANT_committed n.val) a.gc).set (F.DRT_GRANT_provisional n.val) a.gp
  let t := (t.set (F.DRT_CLAMP_heat_cap n.val) a.heat).modLp n fun l => { l with busMv := a.bus }
  let t := (t.set (F.RUN_TRK_TGT_committed n.val) a.trkCommitted).set (F.RUN_TRK_TGT_published n.val) a.trkPublished
  let t := t.setBit F.RUN_STATUS_trk_pub n.val a.trkProv
  let t := if s.ember.kindling.isSome then t else t.set (F.STG_STATUS_dv_eff n) a.dv
  let t : State := { t with draught := { t.draught with reserve := t.draught.reserve.set n.val a.reserve n.isLt } }
  let t := (t.setBit F.DRT_STATUS_frs_armed n.val (0 < a.reserve)).frsShow n
  let t := if a.admits ∧ t.ember.entry.isNone ∧ (t.draught.queue.any fun q => q.port = n) then t.admitPort n else t
  if 10 * a.pc = s.get (F.POL_BUDGET_pc n) then t else t.set (F.POL_BUDGET_pc n) (10 * a.pc)

/-- The outputs of the run that has ended take effect at this tick (Table 13.1). -/
def State.publish (s : State) : State :=
  match s.draught.plan with
  | none => s
  | some p =>
    let changed : Bool := (List.finRange 8).any fun n => 10 * (p.ports.get n).pc ≠ s.get (F.POL_BUDGET_pc n)
    let t := s.allPorts fun t n => t.publishPort p n
    let t := (t.railOrder .A p.railA).railOrder .B p.railB
    let t := ((t.set F.DRT_STATUS_feed p.feed).setB F.DRT_STATUS_over p.isOver).setB F.DRT_STATUS_hold p.hold
    let t := ((t.set F.DRT_POOL_s p.s).set F.DRT_POOL_x p.x).set F.DRT_COMMIT_m p.m
    let t := (t.set F.DRT_COMMIT_headroom p.h).set F.DRT_LOCAL_STATUS_lc p.lc
    let t := ((t.setB F.RUN_STATUS_rail_prov p.railProv).setB F.RUN_STATUS_dv_prov p.dvProv).setB F.RUN_STATUS_precharge p.hold
    let t := ((t.set F.RUN_PROV_local p.provLocal).set F.RUN_PROV_total p.provTotal).setB F.RUN_STATUS_prov
      (0 < p.provTotal || (List.finRange 8).any fun n => (p.ports.get n).trkProv)
    let t : State := { t with feeds := { t.feeds with hold := p.hold }, draught := { t.draught with plan := none } }
    if changed then (t.eventBy F.DRT_EVENT_budget 7).bump F.DRT_SEQ_changes else t

/-! ### The emergency shed (R300, R301) -/

/-- A sinking port imports: its path conducts. -/
def State.anyImport (s : State) : Bool := (List.finRange 8).any fun n => s.sinking n && !s.pathIsOpen n

/-- Σ G_c over the admitted source ports. -/
def State.sourceGrants (s : State) : Nat :=
  (((List.finRange 8).filter fun n => s.sourcing n && s.bit F.DRT_STATUS_admitted n.val).map fun n => s.get (F.DRT_GRANT_committed n.val)).sum

/-- Numerator of r over Σ G_c: what the feed in force supplies above base_w; 0 with no feed. -/
def State.shedPower (s : State) : Nat := (s.feedCap (s.get F.FED_STATUS_selected)).1 - 10 * s.get F.DRT_LOCAL_base_w

/-- r has reached 1 with the present S. -/
def State.shedOver (s : State) : Bool :=
  s.sourceGrants ≤ s.shedPower && (s.get F.FED_STATUS_selected < 4 || s.anyImport)

/-- The count of R301 runs while no feed is selected and no sinking port imports. -/
def State.noFeedWatch (s : State) : State :=
  if s.get F.FED_STATUS_selected = 4 ∧ ¬ s.anyImport then
    if s.draught.noFeedDone || s.running .nofeed 0 then s else s.start .nofeed 0 (s.ms (10 * s.get F.DRT_CONFIG_nofeed))
  else ({ s with draught := { s.draught with noFeedDone := false } } : State).stop .nofeed 0

/-- The shed: a squash with cause 3, then the clamp r x G_c on every source port. -/
def State.emergencyShed (s : State) : State :=
  let t := s.squashNow 3
  let g := t.sourceGrants
  let p := min g t.shedPower
  let t := t.allPorts fun t n =>
    if t.sourcing n ∧ t.bit F.DRT_STATUS_admitted n.val then
      (t.set (F.DRT_CLAMP_clamp n.val) (min 0x7FFF (t.get (F.DRT_GRANT_committed n.val) * p / max 1 g))).set (F.DRT_CLAMP_clamp_on n.val) 1
    else t
  let t := t.setB F.DRT_STATUS_shed ((List.finRange 8).any fun n => t.flag (F.DRT_CLAMP_clamp_on n.val))
  let t : State := { t with draught := { t.draught with feed := t.get F.FED_STATUS_selected, shedDue := false } }
  (t.event F.DRT_EVENT_shed).noFeedWatch

def execEmergencyShed (s : State) : Host.Outcome State Fault Refusal := .next s.emergencyShed

/-- The time of R301 is over: every source port goes to Error Recovery. -/
def State.noFeedRecovery (s : State) : State :=
  if s.running .nofeed 0 ∧ s.get F.FED_STATUS_selected = 4 ∧ ¬ s.anyImport then
    let t : State := ({ s with draught := { s.draught with noFeedDone := true } } : State).stop .nofeed 0
    (t.allPorts fun t n => if s.sourcing n then t.errorRecovery n else t).event F.DRT_EVENT_nofeed_recovery
  else s

def execNofeedRecovery (s : State) : Host.Outcome State Fault Refusal := .next s.noFeedRecovery

/-! ### The feed of an epoch (R297-R299, R327, R329) -/

/-- Selected or incoming feed; 4 none. -/
def State.fedSel (s : State) : Nat := s.get F.FED_STATUS_selected

/-- A gate is driven. -/
def State.fedGateOn (s : State) (f : Nat) : Bool := s.feeds.gate.getLsbD f

/-- The selected feed is connected. -/
def State.fedConnected (s : State) : Bool := s.fedSel < 4 && s.feeds.step = 0 && s.fedGateOn s.fedSel

/-- Feeds are selected: in Lit and from start-up step 7, outside Level 3 (R330). -/
def State.fedSelects (s : State) : Bool :=
  (s.ember.dev = .lit || (s.ember.dev = .startup && 7 ≤ s.ember.step)) && !s.flag F.FLU_STATUS_l3

/-- A planned switch of which an earlier epoch tick gave notice, and that is not held, runs at this one (R329). -/
def State.switchRuns (s : State) : Bool :=
  s.atEpoch && s.feeds.noticeTick ≠ some s.tbase.toNat && s.flag F.FED_STATUS_notice && s.fedConnected && s.fedSelects &&
    s.feeds.planned < 4 && !s.feeds.hold

/-- A planned switch has been held hold_max times in a row (R299). -/
def State.heldOut (s : State) : Bool := 0 < s.get F.DRT_CONFIG_hold_max && s.get F.DRT_CONFIG_hold_max ≤ s.draught.holds

/-! ### The epoch algorithm (R297) -/

/-- The inputs of an epoch are latched (R280): Tj, the channels' levels, the feed power and the local load; the sums of the epoch that
has ended start again. `hi0 per0 hi1 per1` are the readings of the pulse channels at their peak. -/
def State.latchInputs (s : State) (hi0 per0 hi1 per1 : Nat) : State :=
  let d := s.draught
  let recs := s.recordsNow
  let level (c code hi per : Nat) (t : State) : State :=
    let m := t.chanMode c
    let ok : Bool := m ≠ 0 && (m = 1 || 0 < hi)
    (t.set (F.RUN_LEVEL_e c) (envLevel m code hi per)).setBit F.RUN_STATUS_chans c ok
  let fp : Int := s.feeds.sumP / (100 * max 1 s.feeds.countP : Nat)
  let meas : Int := fp - ((List.finRange 8).map fun n => (recs.get n).pm).sum
  let t := level 3 0 hi1 per1 (level 2 0 hi0 per0 (level 1 d.peak1 0 0 (level 0 d.peak0 0 0 s)))
  let t := if t.hearths.mode = .split then t else t.figsLatch false false
  let t := (t.set F.DRT_TJ_tj (tjByte (t.adc 47))).set F.FED_BUS_p (unsigned 16 fp)
  let t := t.set F.DRT_LOCAL_STATUS_meas (clampInt 0 0xFFFF meas).toNat
  let t : State := { t with
    draught := { t.draught with peak0 := 0, peak1 := 0, records := recs }, feeds := { t.feeds with sumP := 0, countP := 0 } }
  t.allPorts fun t n => t.modLp n fun l => { l with energy := 0, samples := 0 }

/-- Predictions checked in an epoch and what they leave (R294): the state, L_c, the committed tracking targets, and whether some were
mispredicted. -/
def State.checkPreds (s : State) (recs : Vector Demand 8) (k : Nat) (meas : Int) : State × Nat × Vector Nat 8 × Bool :=
  let due := s.draught.preds.filter fun p => p.target + 1 = k
  let tol := s.get F.RUN_CONFIG_tol_pct
  let measured (p : Pred) : Int := if p.consumer = 8 then meas else (recs.get (Fin.ofNat 8 p.consumer)).pm
  let good := due.filter fun p => confirmed tol (measured p) p
  let t : State := { s with draught := { s.draught with preds := s.draught.preds.filter fun p => k ≤ p.target } }
  let t := (t.set F.RUN_PRED_COUNT_checked (t.get F.RUN_PRED_COUNT_checked + due.length)).set F.RUN_PRED_COUNT_confirmed
    (t.get F.RUN_PRED_COUNT_confirmed + good.length)
  let t := if good = [] then t else t.eventBy F.RUN_EVENT_confirmed 7
  let level := (good.filter fun p => p.consumer = 8).foldl (fun a p => max a p.power) 0
  let lc :=
    if due.any fun p => p.consumer = 8 then (if good.any fun p => p.consumer = 8 then level else s.get F.DRT_LOCAL_STATUS_lc)
    else 10 * s.get F.DRT_LOCAL_base_w
  let lc := min lc (10 * s.get F.DRT_LOCAL_peak_w)    -- R281
  let trk : Vector Nat 8 := Vector.ofFn fun n =>
    if (recs.get n).trk.isNone then 0
    else if due.any fun p => p.consumer = n.val then
      (match good.find? fun p => p.consumer = n.val with | some p => p.volts | none => s.get (F.RUN_TRK_TGT_committed n.val))
    else (recs.get n).vreq
  (t, lc, trk, good.length < due.length)

/-- Import grants in ascending port order (R286): the wants of the sinking ports against the room. -/
def importGrants (want : Port → Nat) : List Port → Nat → Vector Nat 8 → Vector Nat 8
  | [], _, v => v
  | n :: t, room, v => let g := min (want n) room; importGrants want t (room - g) (v.set n.val g n.isLt)

/-- The run of an epoch over the inputs latched at its tick (R297): what it decides takes effect at the next. -/
def State.runEpoch (s : State) : State :=
  let k := s.epochNo
  let recs := s.draught.records
  let kin := s.ember.kindling
  let runs := s.switchRuns
  let selected := if runs then s.feeds.planned else s.fedSel
  let noticed : Bool := s.flag F.FED_STATUS_notice && s.feeds.planned < 4 && !runs
  let feed := if noticed then s.feeds.planned else selected
  let (sCap, aCap) := s.feedCap feed
  let peak := 10 * s.get F.DRT_LOCAL_peak_w
  let x := sCap - peak
  -- a changed feed squashes; detached ports leave the queue and lose their predictions
  let c1 : Nat := if selected ≠ s.draught.feed ∧ ¬ runs then 3 else 0
  let t := if c1 = 3 then (s.predsDrop k).set F.DRT_LOCAL_STATUS_lc (10 * s.get F.DRT_LOCAL_base_w) else s
  let t : State := { t with draught := { t.draught with
    feed := if runs then t.draught.feed else selected,
    queue := t.draught.queue.filter fun a => (recs.get a.port).attached,
    preds := t.draught.preds.filter fun p => p.consumer = 8 || (recs.get (Fin.ofNat 8 p.consumer)).attached } }
  let t := t.showQueue
  -- checks and committed levels
  let meas : Int := t.get F.DRT_LOCAL_STATUS_meas
  let (t, lc, trk, bad) := t.checkPreds recs k meas
  let t := if bad then t.predsDrop k else t
  let c2 := if c1 = 0 ∧ bad then 1 else c1
  -- heat caps and wants
  let heat (n : Port) : Nat := t.heatCap n (recs.get n).fetT
  let derated (n : Port) : Bool := heat n < 10 * t.get (F.DRT_PORT_CFG_pmax_w n.val)
  let der : BitVec 8 := BitVec.ofNat 8 ((List.finRange 8).map fun n => bn (derated n) * 2 ^ n.val).sum
  let t := if (List.finRange 8).any fun n => derated n && !t.draught.derated.getLsbD n.val then t.eventBy F.DRT_EVENT_heat_derate 7 else t
  let want (n : Port) : Nat := min (min (t.get (F.DRT_PORT_CFG_pmax_w n.val)) (recs.get n).pdp) (heat n / 10)
  -- M, reserves and releases
  let held := (List.finRange 8).filter fun n => (recs.get n).attached && (recs.get n).admitted && (kin.isNone || kin = some n)
  let m0 := 10 * (held.map fun n => mandatory (recs.get n)).sum
  let kept : Vector Nat 8 := Vector.ofFn fun n => if 0 < t.draught.reserve.get n then (recs.get n).frs else 0
  let (res, m1) := (List.finRange 8).foldl (fun (a : Vector Nat 8 × Nat) n =>
    let f := (recs.get n).frs
    if f = 0 ∨ 0 < kept.get n ∨ x < a.2 + f ∨ ¬ held.contains n then a else (a.1.set n.val f n.isLt, a.2 + f)) (kept, m0 + kept.toList.sum)
  let (rel, m2) := releaseFrom (fun n => (recs.get n).floor) x
    (if t.ember.entry.isSome then 0 else t.get F.DRT_CONFIG_admit_max) t.draught.queue m1
  let newWait : Bool := t.draught.queue.any fun a => !rel.contains a.port && !a.waited
  let t : State := { t with draught := { t.draught with
    derated := der, queue := t.draught.queue.map fun a => { a with waited := a.waited || !rel.contains a.port } } }
  let t := if newWait then t.eventBy F.DRT_EVENT_admit_wait 7 else t
  -- P_c
  let inAll := (List.finRange 8).filter fun n => held.contains n || rel.contains n
  let src := inAll.filter fun n => (recs.get n).source
  let sl := sCap - lc
  let (pcs, isOver) := t.allocate src (fun n => mandatory (recs.get n)) (fun n => (recs.get n).floor) want (fun n => heat n / 10) m2 x sl
  let res := if isOver then Vector.replicate 8 0 else res
  let m3 := if isOver then m2 - res.toList.sum else m2
  let t := if isOver ∧ ¬ t.flag F.DRT_STATUS_over then t.eventBy F.DRT_EVENT_shortfall 7 else t
  let step := t.get F.DRT_CONFIG_step_w
  let pc : Vector Nat 8 := Vector.ofFn fun n => publishedPc (t.get (F.POL_BUDGET_pc n) / 10) (pcs.get n) (recs.get n).pdp step
  let used := 10 * pc.toList.sum + res.toList.sum + lc
  let h := sCap - used
  -- provisional grants against the headroom
  let over2 : Bool := sCap < used + localGrant t.draught.preds lc (k + 1)
  let short2 : Bool := 0 < localGrant t.draught.preds lc (k + 1) && over2
  let t := if short2 then t.predsDrop (k + 1) else t
  let c3 := if c2 = 0 ∧ short2 then 2 else c2
  let t := if c3 = 0 then t else t.squashNote (if c3 = 2 then k + 1 else k) c3
  -- grants and bus targets
  let sink := inAll.filter fun n => !(recs.get n).source
  let exported : Int := (src.map fun n => max 0 (recs.get n).pm).sum
  let impWant (n : Port) : Nat := if (recs.get n).explicit then (recs.get n).power else ceilDiv (5 * (recs.get n).rd) 100
  let impCap (n : Port) : Nat := min (impWant n) (if kin = some n then impWant n else 10 * t.get (F.DRT_PORT_CFG_imp_w n.val))
  let room := if kin.isSome then 0xFFFF else aCap + lc + exported.toNat
  let imports := importGrants impCap sink room (Vector.replicate 8 0)
  let gc (n : Port) : Nat :=
    let r := recs.get n
    if ¬ inAll.contains n then 0
    else if ¬ r.source then imports.get n
    else match r.trk with
      | some q => 10 * q.ptrk
      | none => if r.explicit then max (10 * pc.get n) r.power else 10 * r.floor
  let lp := localGrant t.draught.preds lc (k + 1)
  let gps (n : Port) : Nat :=
    (importGrants (fun n => impWant n - gc n) sink (localGrant (predsOf t.draught.preds (t.driver n)) lc (k + 1)) (Vector.replicate 8 0)).get n
  let busMv := if feed < 4 then 15 * t.adc (26 + feed) + 100 * t.get F.DRT_BUS_CFG_lift else 100 * t.get F.DRT_BUS_CFG_nofeed
  let inForce := provisionalIn t.draught.preds lc (k + 1)
  let trkOf (n : Port) : Nat × Bool := match trackPred t.draught.preds n (k + 1) with | some p => (p.volts, true) | none => (trk.get n, false)
  -- new predictions
  let back := t.get F.RUN_STATUS_backoff
  let t := if back = 0 ∧ kin.isNone then t.placePreds recs k lc h else t
  let t := t.set F.RUN_STATUS_backoff (back - 1)
  let placed := provisionalFrom t.draught.preds lc (k + 1)
  -- rail and Dv; the hold of a planned switch
  let need (h : Hth) : LaneNeed :=
    { placed := provisionalFrom (predsOf t.draught.preds h) lc (k + 1), provisional := provisionalIn (predsOf t.draught.preds h) lc (k + 1) }
  let (ra, rb, dvs) := t.lanePlan recs (need .A) (need .B)
  let maxHold := t.get F.DRT_CONFIG_hold_max
  let hold : Bool := noticed && inForce && t.draught.holds < maxHold
  let expired : Bool := noticed && inForce && t.heldOut
  let t := if expired then t.eventBy F.DRT_EVENT_hold_expired 7 else t
  let was := (List.finRange 8).map fun n => t.get (F.POL_BUDGET_pc n)
  let carried := was.sum + t.draught.reserve.toList.sum + s.get F.DRT_LOCAL_STATUS_lc
  let port (n : Port) : PortPlan :=
    { pc := pc.get n, gc := gc n, gp := if (recs.get n).source then 0 else gps n, bus := busMv, trkCommitted := trk.get n,
      trkPublished := (trkOf n).1, trkProv := (trkOf n).2, dv := dvs.get n, heat := heat n, reserve := res.get n, admits := rel.contains n }
  let plan : Plan :=
    { ports := Vector.ofFn port, feed := feed, s := sCap, x := x, m := m3, h := h, lc := lc, isOver := isOver, railA := ra, railB := rb,
      railProv := placed, dvProv := inForce, provLocal := lp, provTotal := lp, hold := hold }
  { t with draught := { t.draught with
      plan := some plan, holds := if hold then t.draught.holds + 1 else if expired || runs then t.draught.holds else 0,
      shedDue := if runs then t.draught.shedDue else noticed && sCap < carried } }

/-- An epoch tick: the last run's outputs take effect, clamps whose r has reached 1 go, the inputs are latched and the epoch's run is made.
In Banked the scheduler does not run (R302), and before step 6 no hearth runs one. -/
def State.epochAllocation (s : State) (hi0 per0 hi1 per1 : Nat) : State :=
  if s.ember.dev = .lit ∨ (s.ember.dev = .startup ∧ s.powered s.devHearth) then
    let t := s.publish
    let t := if t.flag F.DRT_STATUS_shed ∧ t.shedOver then t.allPorts fun t n => t.clampOff n else t
    (t.noFeedWatch.latchInputs hi0 per0 hi1 per1).runEpoch
  else s

def execEpochAllocation (hi0 per0 hi1 per1 : Nat) (s : State) : Host.Outcome State Fault Refusal :=
  .next (if s.atEpoch then s.epochAllocation hi0 per0 hi1 per1 else s)

/-! ### Configuration (R291, R303, Tables 13.5 and 13.6) -/

/-- A write of a DRT configuration register, by its offset. -/
def State.drtWrite (s : State) (off : Nat) (v : Word) : State :=
  let r := F.DRT_EVENT_cfg_refused
  match off with
  | 0x20 =>
    s.cfgWrite [⟨F.DRT_CONFIG_hold_max, 0, 255, true⟩, ⟨F.DRT_CONFIG_step_w, 1, 50, false⟩, ⟨F.DRT_CONFIG_admit_max, 1, 2, false⟩,
      ⟨F.DRT_CONFIG_nofeed, 1, 255, false⟩] r true v
  | 0x24 =>
    s.cfgWrite [⟨F.DRT_LOCAL_peak_w, 0, 4095, true⟩, ⟨F.DRT_LOCAL_base_w, 0, 4095, true⟩] r (decide (bitsGet v 0 12 ≤ bitsGet v 16 12)) v
  | 0x38 =>
    let stop := keep0 (bitsGet v 8 8) (s.get F.DRT_THERMAL_t_stop)
    let start := keep0 (bitsGet v 0 8) (s.get F.DRT_THERMAL_t_start)
    s.cfgWrite [⟨F.DRT_THERMAL_tj_hot, 40, 165, false⟩, ⟨F.DRT_THERMAL_tj_rail, 0, 255, false⟩, ⟨F.DRT_THERMAL_t_stop, 0, 255, false⟩,
      ⟨F.DRT_THERMAL_t_start, 0, 255, false⟩] r (decide (start < stop)) v
  | 0x3C =>
    let hi := keep0 (bitsGet v 24 5) (s.get F.DRT_CAP_CFG_rail_max)
    let lo := bitsGet v 16 5
    s.cfgWrite [⟨F.DRT_CAP_CFG_rail_max, 0, 18, false⟩, ⟨F.DRT_CAP_CFG_rail_min, 0, 18, true⟩, ⟨F.DRT_CAP_CFG_lower_pct, 1, 50, false⟩,
      ⟨F.DRT_CAP_CFG_raise_pct, 1, 50, false⟩] r (decide (lo ≤ hi)) v
  | 0x6C => s.cfgWrite [⟨F.DRT_BUS_CFG_nofeed, 90, 540, false⟩, ⟨F.DRT_BUS_CFG_lift, 0, 50, true⟩] r true v
  | _ =>
    if 0x28 ≤ off ∧ off ≤ 0x34 then
      let k := (off - 0x28) / 4
      s.cfgWrite [⟨F.DRT_FEED_CAP_supply_w k, 0, 4095, true⟩, ⟨F.DRT_FEED_CAP_absorb_w k, 0, 4095, true⟩] r true v
    else if 0x40 ≤ off ∧ off ≤ 0x5C then
      let k := (off - 0x40) / 4
      s.cfgWrite [⟨F.DRT_PORT_CFG_pmax_w k, 1, 240, false⟩, ⟨F.DRT_PORT_CFG_floor_w k, 0, 240, true⟩, ⟨F.DRT_PORT_CFG_imp_w k, 0, 240, true⟩,
        ⟨F.DRT_PORT_CFG_prio k, 0, 15, true⟩, ⟨F.DRT_PORT_CFG_weight k, 1, 15, false⟩] r true v
    else s

/-- A mode that R291 lists for a channel. -/
def modeFits (c mode : Nat) : Bool := mode = 0 || (if c < 2 then mode = 1 else mode = 2 || mode = 3)

/-- A write of a RUN configuration register, by its offset. -/
def State.runWrite (s : State) (off : Nat) (v : Word) : State :=
  let r := F.RUN_EVENT_cfg_refused
  if off = 0x20 then
    s.cfgWrite [⟨F.RUN_CONFIG_backoff, 1, 255, false⟩, ⟨F.RUN_CONFIG_tol_pct, 1, 100, false⟩, ⟨F.RUN_CONFIG_lead, 0, 240, true⟩,
      ⟨F.RUN_CONFIG_act, 0, 15, true⟩, ⟨F.RUN_CONFIG_en, 0, 1, true⟩] r true v
  else if 0x24 ≤ off ∧ off ≤ 0x30 then
    let k := (off - 0x24) / 4
    s.cfgWrite [⟨F.RUN_ENV_CFG_target k, 0, 8, true⟩, ⟨F.RUN_ENV_CFG_full_w k, 0, 4095, true⟩, ⟨F.RUN_ENV_CFG_mode k, 0, 3, true⟩] r
      (modeFits k (bitsGet v 12 2)) v
  else s

end Sys2Proof.Machine
end

