-- ==== Sys2Proof/Machine/Fnd.lean ====
section
/-! DEFINITION. The Fender path guard (chapter 14): path states, protection openings and retry, the FET thermal model, discharge. -/

namespace Sys2Proof.Machine

/-! ### FND and THM configuration (Tables 14.6 and 14.7) -/

/-- SENSE_CFG and LIMIT_CFG together satisfy R308. -/
def limitsOk (rsns fs ilim ins ratio : Nat) : Bool :=
  let k := ftRatio ratio
  ratio < 3 && [ilim, ins].all fun l => senseCode l rsns fs k.1 k.2 ≤ 1023 && 4000 ≤ l * rsns

/-- A write of an FND configuration register, by its offset. -/
def State.fndWrite (s : State) (n : Port) (off : Nat) (v : Word) : State :=
  let r := F.FND_EVENT_cfg_refused n
  match off with
  | 0x20 =>
    let rs := keep0 (bitsGet v 0 12) (s.get (F.FND_SENSE_CFG_rsns n))
    s.cfgWrite [⟨F.FND_SENSE_CFG_fs n, 0, 3, true⟩, ⟨F.FND_SENSE_CFG_rsns n, 50, 2000, false⟩] r
      (limitsOk rs (bitsGet v 16 2) (s.get (F.FND_LIMIT_CFG_ilim n)) (s.get (F.FND_LIMIT_CFG_ilim_ins n)) (s.get (F.FND_LIMIT_CFG_ft_ratio n))) v
  | 0x24 =>
    let a := keep0 (bitsGet v 0 9) (s.get (F.FND_LIMIT_CFG_ilim n))
    let b := keep0 (bitsGet v 16 9) (s.get (F.FND_LIMIT_CFG_ilim_ins n))
    s.cfgWrite [⟨F.FND_LIMIT_CFG_ft_ratio n, 0, 2, true⟩, ⟨F.FND_LIMIT_CFG_ilim_ins n, 40, 480, false⟩, ⟨F.FND_LIMIT_CFG_ilim n, 40, 480, false⟩] r
      (limitsOk (s.get (F.FND_SENSE_CFG_rsns n)) (s.get (F.FND_SENSE_CFG_fs n)) a b (bitsGet v 30 2)) v
  | 0x28 => s.cfgWrite [⟨F.FND_TIMER_CFG_t_lim n, 1, 1000, false⟩, ⟨F.FND_TIMER_CFG_t_inrush n, 1, 1000, false⟩] r true v
  | 0x2C =>
    s.cfgWrite [⟨F.FND_WIN_CFG_ins_ms n, 0, 255, true⟩, ⟨F.FND_WIN_CFG_snk_ov n, 45, 60, false⟩, ⟨F.FND_WIN_CFG_snk_uv n, 36, 50, false⟩,
      ⟨F.FND_WIN_CFG_src_max n, 50, 60, false⟩] r true v
  | 0x30 => s.cfgWrite [⟨F.FND_RETRY_CFG_count n, 0, 15, true⟩, ⟨F.FND_RETRY_CFG_toff_min n, 1, 6000, false⟩] r true v
  | 0x34 => s.cfgWrite [⟨F.FND_SOA_CFG_emax n, 1, 65535, false⟩, ⟨F.FND_SOA_CFG_pmax n, 1, 2000, false⟩] r true v
  | _ => s

/-! ### The path (R309-R313) -/

/-- Fender's part of the hearth that drives the port. -/
def State.pathState (s : State) (n : Port) : Nat := s.get (F.FND_STATUS_state n)

def execCloseCmd (n : Port) (s : State) : Host.Outcome State Fault Refusal := .next (s.closePath n (!s.flag (F.POL_STATUS_power_role n)))
def execOpenCmd (n : Port) (s : State) : Host.Outcome State Fault Refusal := .next (s.openPath n)

/-- A regulating episode starts: GATE_S regulates while current flows from the stage to the connector, GATE_B otherwise (R311); its energy
is counted from here (R322). -/
def State.regulate (s : State) (n : Port) (inward : Bool) : State :=
  ((s.set (F.FND_STATUS_reg n) (if inward then 2 else 1)).set (F.FND_SOA_STATUS_e n) 0).modFnd n fun f => { f with soaSum := 0 }

/-- The episode ends. -/
def State.regulateEnd (s : State) (n : Port) : State :=
  ((s.set (F.FND_STATUS_reg n) 0).set (F.FND_SOA_STATUS_e n) 0).modFnd n fun f => { f with soaSum := 0 }

/-- The windows have held for ins_ms and R50 still allows the closure: the gates are driven, one of them limiting at ilim_ins (R310,
R311). -/
def State.insertionDone (s : State) (n : Port) : State :=
  if s.pathState n = 1 ∧ s.running .insertion n.val ∧ s.closeAllowed n ∧ s.windowsMet n then
    let t := (((s.stop .insertion n.val).dschgOff n).set (F.FND_STATUS_win_ok n) 1).set (F.FND_STATUS_state n) 2
    let t := ((t.set (F.FND_STATUS_gate_s n) 1).set (F.FND_STATUS_gate_b n) 1).regulate n (s.flag (F.FND_STATUS_dir n))
    (t.modFnd n fun f => { f with onTick := s.tbase.toNat }).start .inrush n.val (ceilDiv ((s.fnd.get n).cfg.tInrush * s.tickKhz) 10)
  else s

def execInsertionComplete (n : Port) (s : State) : Host.Outcome State Fault Refusal := .next (s.insertionDone n)

/-- The path is Closed from now on: both gates fully on; 1 s of it gives the retries back (R317). -/
def State.closedNow (s : State) (n : Port) : State :=
  ((s.set (F.FND_STATUS_state n) 3).regulateEnd n).start .closedFor n.val (s.ms 1000)

/-- The pair has stayed within 100 mV for 10 us in Inrush: Closed, and a stored run command applies (R311, R312). -/
def State.inrushEnd (s : State) (n : Port) : State :=
  if s.pathState n = 2 then (((s.stop .inrush n.val).closedNow n).event (F.FND_EVENT_closed n)).stageStored n else s

def execInrushEnd (n : Port) (s : State) : Host.Outcome State Fault Refusal := .next (s.inrushEnd n)

/-- |I| has reached ilim (R313); `inward` while current flows from the connector to the stage. -/
def State.limitEntry (s : State) (n : Port) (inward : Bool) : State :=
  if s.pathState n = 3 then
    let t := ((s.set (F.FND_STATUS_state n) 4).stop .closedFor n.val).regulate n inward
    t.start .limit n.val (ceilDiv ((s.fnd.get n).cfg.tLim * s.tickKhz) 10)
  else s

def execLimitEntry (n : Port) (inward : Bool) (s : State) : Host.Outcome State Fault Refusal := .next (s.limitEntry n inward)

def execLimitExit (n : Port) (s : State) : Host.Outcome State Fault Refusal :=
  .next (if s.pathState n = 4 then (s.stop .limit n.val).closedNow n else s)

/-! ### Protection openings and retry (R314-R318) -/

/-- Gates off and stage stopped, DSCHG for a sourcing port; a run command that stood is applied again once the path is Closed. -/
def State.guardOpen (s : State) (n : Port) : State :=
  let ran := s.loopsOn n || (s.lp.get n).runStored
  let t := (((s.gatesOff n).pathTimersStop n).set (F.FND_STATUS_win_ok n) 0).event (F.FND_EVENT_opened n)
  let t := ((t.regulateEnd n).stageOff n).modLp n fun l => { l with runStored := ran }
  if s.sourcing n then t.dschgOn n else t

/-- t_off in ticks (R317). -/
def State.offTicks (s : State) (n : Port) : Nat :=
  let ton := s.since (s.fnd.get n).onTick
  let c := (s.fnd.get n).cfg
  let tcap := ceilDiv ((c.tInrush + c.tLim) * s.tickKhz) 10
  max (s.ms (10 * c.toffMin)) (49 * min ton tcap)

/-- A protection opening (R316): `ev` is its EVENT bit, which reports its Flue source. -/
def State.protectOpen (s : State) (n : Port) (ev : Field) : State :=
  let ton := s.since (s.fnd.get n).onTick
  let left := s.get (F.FND_STATUS_retries_left n)
  let off := s.offTicks n
  let t := ((s.guardOpen n).event ev).bump (F.FND_SEQ_openings n)
  let t := t.set (F.FND_RETRY_STATUS_t_on n) (min 0xFFFF (ton * 100 / s.tickKhz))
  if left = 0 then (t.set (F.FND_STATUS_state n) 6).event (F.FND_EVENT_lockout n)
  else
    let t := if left = 15 then t else t.set (F.FND_STATUS_retries_left n) (left - 1)
    (((t.set (F.FND_STATUS_state n) 5).set (F.FND_RETRY_STATUS_toff_left n) (min 0xFFFF (ceilDiv off (max 1 (10 * s.tickKhz)))))).start
      .offTime n.val off

/-- A path in Inrush, Closed or Limiting. -/
def State.conducts (s : State) (n : Port) : Bool := !s.pathIsOpen n

def execInrushTimeout (n : Port) (s : State) : Host.Outcome State Fault Refusal :=
  .next (if s.pathState n = 2 ∧ s.running .inrush n.val then s.protectOpen n (F.FND_EVENT_inrush_timeout n) else s)

def execLimitTimeout (n : Port) (s : State) : Host.Outcome State Fault Refusal :=
  .next (if s.pathState n = 4 ∧ s.running .limit n.val then s.protectOpen n (F.FND_EVENT_limit_timeout n) else s)

/-- The fast-trip comparator of the port fires while Fender owns it (R22, R314): Pn_SEN is low at once, and the trip holds the output. It
governs over an open command of the same tick; a detach of that tick abandons its off-time (R318). -/
def State.fastTrip (s : State) (n : Port) : State :=
  let now := s.tbase.toNat
  if (s.conducts n || (s.fnd.get n).openTick = some now) && s.bit (F.CMP_OWNER_fender 0) n.val then
    let t := (s.protectOpen n (F.FND_EVENT_fast_trip n)).set (F.STG_STATUS_sen n) 0
    let t := t.modFnd n fun f => { f with openTick := none, tripTick := some now }
    let t := t.modLp n fun l => { l with tripHold := true, senLow := false }
    if (s.cc.get n).detachTick = some now then t.detachPath n else t
  else s

/-- Pn_VBUS above v_ovp for 1 us, while Fender owns the window comparator and the path is Closed or Limiting (R315, R338). -/
def State.pathOvp (s : State) (n : Port) : State :=
  if (s.pathState n = 3 || s.pathState n = 4) && s.bit (F.CMP_OWNER_fender 0) (8 + n.val) then s.protectOpen n (F.FND_EVENT_ovp n) else s

/-- The off-time ends: insertion again if a close command stands (R317). -/
def State.offTimeEnd (s : State) (n : Port) : State :=
  if s.pathState n = 5 ∧ s.running .offTime n.val then
    let t := ((s.stop .offTime n.val).set (F.FND_STATUS_state n) 0).set (F.FND_RETRY_STATUS_toff_left n) 0
    let t := (t.modLp n fun l => { l with tripHold := false }).pathTry n
    let t := if t.pathState n = 1 then t.event (F.FND_EVENT_retry n) else t
    if t.flag (F.FND_STATUS_close_cmd n) then t else t.stageStored n
  else s

def execOfftimeExpiry (n : Port) (s : State) : Host.Outcome State Fault Refusal := .next (s.offTimeEnd n)

def execRetriesRestore (n : Port) (s : State) : Host.Outcome State Fault Refusal :=
  .next (
    if s.pathState n = 3 ∧ s.running .closedFor n.val then
      (s.stop .closedFor n.val).set (F.FND_STATUS_retries_left n) (s.fnd.get n).cfg.count
    else s)

/-- FND.CONTROL.rearm (R318, R429): a stale epoch is not acted on. -/
def State.rearm (s : State) (n : Port) (epoch : Nat) : State :=
  if epoch ≠ s.get (F.POL_SEQ_epoch n) then (s.eventHost (F.POL_EVENT_stale_cmd n)).soot 0 n
  else if s.pathState n = 6 then (s.leaveLockout n).pathTry n
  else s

def execFndRearm (n : Port) (epoch : BitVec 8) (s : State) : Host.Outcome State Fault Refusal :=
  .next (s.answered (portPage n 6) fun s => s.rearm n epoch.toNat)

/-! ### Thermistors (R320, R321) -/

/-- ln(p / q) in 2^-48 for q ≤ p < 2 q: twice the sum of z^(2k+1) / (2k+1) with z = (p - q) / (p + q). -/
def lnSeries (z2 : Nat) : Nat → Nat → Nat → Nat
  | 0, _, _ => 0
  | k + 1, term, j => term / j + lnSeries z2 k (term * z2 / 2 ^ 48) (j + 2)

def lnNear (p q : Nat) : Nat :=
  let z := (p - q) * 2 ^ 48 / (p + q)
  2 * lnSeries (z * z / 2 ^ 48) 24 z 1

/-- ln(p / q) in 2^-48 for q ≤ p: powers of 2 taken out, at most `k` of them. -/
def lnUp : Nat → Nat → Nat → Nat
  | 0, p, q => lnNear p q
  | k + 1, p, q => if 2 * q ≤ p then lnNear 2 1 + lnUp k p (2 * q) else lnNear p q

/-- ln(p / q) in 2^-48. -/
def lnRatio (p q : Nat) : Int := if q ≤ p then (lnUp 13 p q : Int) else -(lnUp 13 q p : Int)

/-- T_ntc in 2^-32 °C from the code of the thermistor's channel and B (R320). -/
def ntcTemp (code beta : Nat) : Int :=
  let c := max 1 (min 4094 code)
  let den : Int := 100 * beta * 2 ^ 48 + 29815 * lnRatio c (4096 - c)
  if den ≤ 0 then 65535 * 2 ^ 32 else 29815 * beta * 2 ^ 80 / den - 27315 * 2 ^ 32 / 100

/-- A thermistor's code lies within 0.02 V to 1.17 V. -/
def ntcInRange (code : Nat) : Bool := 69 ≤ code && code ≤ 3993

/-- A temperature in 2^-32 °C as the registers show it: °C + 40, held within a byte. -/
def tempByte (t : Int) : Nat := (clampInt 0 255 (t / 2 ^ 32 + 40)).toNat

/-- Code of the thermistor that a port names. -/
def State.ntcCode (s : State) (n : Port) : Nat := s.adc (35 + s.get (F.THM_CFG_ntc_sel n))

/-- STATUS of page THM[n] follows the thermistor that the port names. -/
def State.thmShow (s : State) (n : Port) : State :=
  let k := s.get (F.THM_CFG_ntc_sel n)
  let fit := s.ntcFitted.getLsbD k
  let bad := s.ntcFault.getLsbD k
  ((s.setB (F.THM_STATUS_fitted n) fit).setB (F.THM_STATUS_ntc_fault n) (fit && bad)).setB (F.THM_STATUS_ntc_used n)
    (fit && !bad && s.get (F.THM_CFG_w n) ≠ 0)

/-- Start-up step 7: a thermistor above 1.17 V is not fitted for the session. -/
def State.ntcFit (s : State) : State :=
  let b : BitVec 4 := BitVec.ofNat 4 ((List.range 4).map fun k => bn (s.adc (35 + k) ≤ 3993) * 2 ^ k).sum
  ({ s with ntcFitted := b, ntcFault := 0 } : State).allPorts State.thmShow

/-- A fitted thermistor reads out of range: every port that names it takes w as 0 and sets its event, and NTC_FAULT is reported once for
the thermistor (R321). -/
def State.ntcFaulted (s : State) (k : Fin 4) : State :=
  if s.ntcFitted.getLsbD k.val ∧ ¬ s.ntcFault.getLsbD k.val then
    let t : State := ({ s with ntcFault := s.ntcFault ||| BitVec.ofNat 4 (2 ^ k.val) } : State).stop .ntcRange k.val
    let names (n : Port) : Bool := t.get (F.THM_CFG_ntc_sel n) = k.val
    let t := t.allPorts fun t n => if names n then (t.thmShow n).set (F.THM_EVENT_ntc_fault n) 1 else t
    if (List.finRange 8).any names then t.report 0x50 k.val 0 4 0 else t
  else s

def execNtcFault (k : Fin 4) (s : State) : Host.Outcome State Fault Refusal := .next (s.ntcFaulted k)

/-- The thermistor's code: the second in range that ends a fault runs while it reads in range, and an excursion restarts it (R321). -/
def State.ntcWatch (s : State) (k : Fin 4) (c : Nat) : State :=
  if !s.ntcFault.getLsbD k.val || !ntcInRange c then s.stop .ntcRange k.val
  else if s.running .ntcRange k.val then s
  else s.start .ntcRange k.val (s.ms 1000)

/-- It has read in range for 1 s: its weight returns. -/
def State.ntcRecovered (s : State) (k : Fin 4) : State :=
  if !s.running .ntcRange k.val then s
  else (({ s with ntcFault := s.ntcFault &&& ~~~(BitVec.ofNat 4 (2 ^ k.val)) } : State).stop .ntcRange k.val).allPorts State.thmShow

def execNtcRecover (k : Fin 4) (s : State) : Host.Outcome State Fault Refusal := .next (s.ntcRecovered k)

/-- A write of a THM configuration register, by its offset (Table 14.7). -/
def State.thmWrite (s : State) (n : Port) (off : Nat) (v : Word) : State :=
  let r := F.THM_EVENT_cfg_refused n
  let foster (k : Nat) : State :=
    s.cfgWrite [⟨if k < 3 then F.THM_FOSTER_S_tau n k else F.THM_FOSTER_B_tau n (k - 3), 1, 65535, false⟩,
      ⟨if k < 3 then F.THM_FOSTER_S_rth n k else F.THM_FOSTER_B_rth n (k - 3), 0, 65535, true⟩] r true v
  let kap (a b : Field) : State := s.cfgWrite [⟨a, 8192, 65535, false⟩, ⟨b, 8192, 65535, false⟩] r true v
  match off with
  | 0x20 =>
    s.cfgWrite [⟨F.THM_CFG_t_trip n, 80, 215, false⟩, ⟨F.THM_CFG_t_hyst n, 1, 50, false⟩, ⟨F.THM_CFG_t_amb n, 0, 215, true⟩,
      ⟨F.THM_CFG_ntc_sel n, 0, 3, true⟩, ⟨F.THM_CFG_w n, 0, 16, true⟩] r true v
  | 0x24 => s.cfgWrite [⟨F.THM_NTC_CFG_beta n, 3000, 4500, false⟩] r true v
  | 0x28 => s.cfgWrite [⟨F.THM_RDS_rds_b n, 10, 10000, false⟩, ⟨F.THM_RDS_rds_s n, 10, 10000, false⟩] r true v
  | 0x2C => kap (F.THM_RDSK0_k50 n) (F.THM_RDSK0_k25 n)
  | 0x30 => kap (F.THM_RDSK1_k100 n) (F.THM_RDSK1_k75 n)
  | 0x34 => kap (F.THM_RDSK2_k150 n) (F.THM_RDSK2_k125 n)
  | _ => if 0x38 ≤ off ∧ off ≤ 0x4C then foster ((off - 0x38) / 4) else s

/-! ### The FET thermal model (R319-R322) -/

/-- exp(-num / den) in 2^-64, by its series. -/
def expSeries (num den : Nat) : Nat → Nat → Nat → Bool → Int → Int
  | 0, _, _, _, a => a
  | k + 1, term, j, neg, a => expSeries num den k (term * num / (den * j)) (j + 1) (!neg) (if neg then a - term else a + term)

/-- α = floor(2^24 (1 - exp(-T_e / τ))) for τ in 0.1 ms and T_e = 2,048 ticks (R319). -/
def fosterAlpha (khz tau : Nat) : Nat :=
  let e := expSeries 20480 (max 1 (khz * tau)) 40 (2 ^ 64) 1 false 0
  ((2 ^ 64 - e) / 2 ^ 40).toNat

/-- κ at a temperature in 2^-32 °C, in 2^-30: linear between the six points, held outside (R320). -/
def kappaAt (pts : List Nat) (t : Int) : Nat :=
  let u := clampInt 0 (125 * 2 ^ 32) (t - 25 * 2 ^ 32)
  let i : Nat := min 4 (u / (25 * 2 ^ 32)).toNat
  let a : Int := (pts[i]?).getD 16384
  let b : Int := (pts[i + 1]?).getD 16384
  (a * 2 ^ 16 + (b - a) * 2 ^ 16 * (u - (i : Int) * 25 * 2 ^ 32) / (25 * 2 ^ 32)).toNat

/-- The κ points of a port. -/
def State.kappaPts (s : State) (n : Port) : List Nat :=
  [s.get (F.THM_RDSK0_k25 n), s.get (F.THM_RDSK0_k50 n), s.get (F.THM_RDSK1_k75 n), s.get (F.THM_RDSK1_k100 n), s.get (F.THM_RDSK2_k125 n),
   s.get (F.THM_RDSK2_k150 n)]

/-- T_ref of a port in 2^-32 °C (R320). -/
def State.tRef (s : State) (n : Port) : Int :=
  let amb : Int := (s.get (F.THM_CFG_t_amb n) : Int) * 2 ^ 32 - 40 * 2 ^ 32
  if s.flag (F.THM_STATUS_ntc_used n) then
    amb + s.get (F.THM_CFG_w n) * (ntcTemp (s.ntcCode n) (s.get (F.THM_NTC_CFG_beta n)) - amb) / 16
  else amb

/-- One pole: θ moves by α of the way to P x Rth; P in nW, Rth in 0.01 K/W. An absent pole has Rth 0. -/
def poleStep (alpha rth : Nat) (p theta : Int) : Int :=
  if rth = 0 then 0 else theta + alpha * (p * rth * 2 ^ 32 / 100000000000 - theta) / 2 ^ 24

/-- α of a pole, FET S first (R319); page THM shows it in ALPHA_S and ALPHA_B. -/
def State.alphaOf (s : State) (n : Port) (k : Nat) : Nat :=
  fosterAlpha s.tickKhz (if k < 3 then s.get (F.THM_FOSTER_S_tau n k) else s.get (F.THM_FOSTER_B_tau n (k - 3)))

/-- The model of one port at an epoch tick: temperatures, P_lin and E, and the sums of the next epoch start again. -/
def State.thermalPort (s : State) (n : Port) : State :=
  let s := s.thmShow n
  let x := s.fnd.get n
  let cnt := max 1 x.count
  let tr := s.tRef n
  let pts := s.kappaPts n
  let power (rds lin : Nat) (t : Int) : Int :=
    (x.sumI2 * rds * kappaAt pts t / (cnt * 16384 * 2 ^ 16) : Nat) + (1000000 * lin / cnt : Nat)
  let pS := power (s.get (F.THM_RDS_rds_s n)) x.sumLinS x.tS
  let pB := power (s.get (F.THM_RDS_rds_b n)) x.sumLinB x.tB
  let rth (k : Nat) : Nat := if k < 3 then s.get (F.THM_FOSTER_S_rth n k) else s.get (F.THM_FOSTER_B_rth n (k - 3))
  let th : Vector Int 6 := Vector.ofFn fun k => poleStep (s.alphaOf n k.val) (rth k.val) (if k.val < 3 then pS else pB) (x.theta.get k)
  let tS := tr + th.get 0 + th.get 1 + th.get 2
  let tB := tr + th.get 3 + th.get 4 + th.get 5
  let lin := (x.sumLinS + x.sumLinB) / cnt
  let episode : Bool := s.get (F.FND_STATUS_reg n) ≠ 0
  let e := if episode then x.soaSum + lin else 0
  let t := s.modFnd n fun f => { f with
    theta := th, tS := tS, tB := tB, plin := lin, soaSum := e, sumI2 := 0, count := 0, sumLinS := 0, sumLinB := 0 }
  let t := ((t.set (F.THM_TEMP_t_s n) (tempByte tS)).set (F.THM_TEMP_t_b n) (tempByte tB)).set (F.THM_TEMP_t_ref n) (tempByte tr)
  let t := (t.set (F.THM_TEMP_fet_t n) (tempByte (max tS tB))).set (F.THM_NTC_STATUS_code n) (s.ntcCode n)
  let t := t.set (F.THM_NTC_STATUS_t_ntc n) (tempByte (ntcTemp (s.ntcCode n) (s.get (F.THM_NTC_CFG_beta n))))
  (t.set (F.FND_SOA_STATUS_p_lin n) (min 0xFFFF (lin / 100))).set (F.FND_SOA_STATUS_e n) (min 0xFFFF (e * 2048 / (1000 * s.tickKhz)))

/-- T in 2^-32 °C of a register value in °C + 40. -/
def degOf (b : Nat) : Int := ((b : Int) - 40) * 2 ^ 32

/-- A FET temperature has reached t_trip with the path conducting: the thermal opening, which uses no retry (R321). -/
def State.thermalTrip (s : State) (n : Port) : State :=
  let x := s.fnd.get n
  if s.conducts n && degOf (s.get (F.THM_CFG_t_trip n)) ≤ max x.tS x.tB then
    let t := ((s.guardOpen n).set (F.FND_STATUS_state n) 7).set (F.THM_STATUS_hold n) 1
    (t.event (F.THM_EVENT_thermal n)).bump (F.THM_SEQ_holds n)
  else s

/-- The thermal model runs for every port at an epoch tick in Lit. -/
def State.thermalModel (s : State) : State :=
  if s.ember.dev = .lit then s.allPorts fun t n => (t.thermalPort n).thermalTrip n else s

def execThermalModelUpdate (s : State) : Host.Outcome State Fault Refusal := .next (if s.atEpoch then s.thermalModel else s)

/-- Both temperatures are below t_trip - t_hyst: Thermal hold ends. -/
def State.thermalHoldEnd (s : State) (n : Port) : State :=
  let x := s.fnd.get n
  if s.pathState n = 7 ∧ max x.tS x.tB < degOf (s.get (F.THM_CFG_t_trip n)) - s.get (F.THM_CFG_t_hyst n) * 2 ^ 32 then
    let t := ((s.set (F.FND_STATUS_state n) 0).set (F.THM_STATUS_hold n) 0).pathTry n
    if t.flag (F.FND_STATUS_close_cmd n) then t else t.stageStored n
  else s

def execThermalHoldEnd (n : Port) (s : State) : Host.Outcome State Fault Refusal := .next (s.thermalHoldEnd n)

/-- P_lin above pmax, or E above emax, in Inrush or Limiting; checked at epoch ticks (R322). -/
def State.soaExceeded (s : State) (n : Port) : State :=
  let x := s.fnd.get n
  if (s.pathState n = 2 || s.pathState n = 4) &&
      (1000 * x.cfg.pmax < x.plin || 1000 * s.tickKhz * x.cfg.emax < x.soaSum * 2048) then
    s.protectOpen n (F.FND_EVENT_soa n)
  else s

def execSoaExceeded (n : Port) (s : State) : Host.Outcome State Fault Refusal := .next (if s.atEpoch then s.soaExceeded n else s)

/-! ### Discharge (R323) -/

def execDschgRequest (n : Port) (s : State) : Host.Outcome State Fault Refusal := .next (s.dschgOn n)

/-- 650 ms of DSCHG and Pn_VBUS still above 0.8 V: DSCHG stays on for 1 s more at most. -/
def State.dischargeSlow (s : State) (n : Port) : State :=
  if s.flag (F.FND_STATUS_dschg n) ∧ s.running .dschg n.val then
    let t := (s.stop .dschg n.val).modFnd n fun f => { f with dschgSlow := true }
    let t := (t.event (F.FND_EVENT_discharge_slow n)).start .dschgForce n.val (s.ms 1000)
    if s.seqOf n = .prDescent then t.errorRecovery n else t
  else s

def execDischargeSlow (n : Port) (s : State) : Host.Outcome State Fault Refusal := .next (s.dischargeSlow n)

/-- DSCHG goes off whatever Pn_VBUS reads; a port that detached while sourcing is unattached from now on. -/
def State.dschgForced (s : State) (n : Port) : State :=
  if s.running .dschgForce n.val then
    let t := s.dschgOff n
    if (s.fnd.get n).detaching then (t.modFnd n fun f => { f with detaching := false }).reachPoint1 n else t
  else s

def execDschgForcedOff (n : Port) (s : State) : Host.Outcome State Fault Refusal := .next (s.dschgForced n)

end Sys2Proof.Machine
end

