-- ==== Sys2Proof/Machine/Fed.lean ====
section
/-! DEFINITION. The Feed Selector (R325-R330, R334): qualification and loss, the steps of a switch, planned switches. Voltages are those of
the last conversions of the housekeeping ADC, in 15 mV codes. -/

namespace Sys2Proof.Machine

/-- A feed is qualified. -/
def State.fedQual (s : State) (f : Nat) : Bool := s.bit F.FED_STATUS_qualified f

/-- Windows are checked from start-up step 7, in Lit, Banked and Level 3 (R325). -/
def State.fedWatch (s : State) : Bool := s.ember.dev = .lit || s.ember.dev = .banked || (s.ember.dev = .startup && 7 ≤ s.ember.step)

/-- The better of two feeds by priority, the lower number on a tie. -/
def State.fedBetter (s : State) (a b : Nat) : Nat := if s.get (F.FED_FEED_CFG_prio b) < s.get (F.FED_FEED_CFG_prio a) then b else a

/-- The preferred feed (R327); 4 none. -/
def State.fedPreferred (s : State) : Nat :=
  (List.range 4).foldl (fun a f => if !s.fedQual f then a else if a = 4 then f else s.fedBetter a f) 4

/-- Change the selector's own state. -/
def State.modFed (s : State) (g : FeedSel → FeedSel) : State := { s with feeds := g s.feeds }

/-- Drive or release one gate. -/
def State.fedGate (s : State) (f : Nat) (on : Bool) : State :=
  s.modFed fun x => { x with gate := if on then x.gate ||| BitVec.ofNat 4 (2 ^ f) else x.gate &&& ~~~(BitVec.ofNat 4 (2 ^ f)) }

/-- Notice and pre-charge are withdrawn (R329), and with them the hold of the switch (R299) and what it was to shed (R298). -/
def State.noticeDrop (s : State) : State :=
  let t := ((s.modFed fun x => { x with planned := 4, plannedCause := 0, hold := false }).set F.FED_STATUS_notice 0).set F.FED_STATUS_precharge 0
  let t : State := { t with draught := { t.draught with
    holds := 0, shedDue := false, plan := t.draught.plan.map fun p => { p with hold := false } } }
  (t.set F.DRT_STATUS_hold 0).set F.RUN_STATUS_precharge 0

/-- No switch runs any more. -/
def State.switchStop (s : State) : State :=
  ((((s.modFed fun x => { x with step := 0 }).set F.FED_STATUS_switching 0).stop .feedDead 0).stop .feedMatch 0).stop .feedInsert 0

/-- Every gate off, nothing selected, nothing under way: Table 2.7 outside Lit and Banked. -/
def State.feedsOpen (s : State) : State :=
  ((s.noticeDrop.switchStop).modFed fun x => { x with gate := 0 }).set F.FED_STATUS_selected 4

/-! ### The steps of a switch (R328) -/

/-- Step 1: the outgoing gate opens and the incoming feed is named; with none, no feed is left. -/
def State.switchBegin (s : State) (dst cause : Nat) : State :=
  let from_ := s.fedSel
  let was : Bool := from_ < 4 && s.fedGateOn from_
  let pre := s.flag F.FED_STATUS_precharge && s.feeds.planned = dst
  let t := if from_ < 4 then s.fedGate from_ false else s
  let t := ((t.switchStop).noticeDrop).set F.FED_STATUS_selected dst
  if 4 ≤ dst then t.event F.FED_EVENT_no_feed
  else
    let t := (t.setB F.FED_STATUS_precharge pre).set F.FED_STATUS_switching 1
    let t := t.modFed fun x => { x with from_ := from_, cause := cause, manual := cause = 3, step := 1, gapStart := s.tbase.toNat }
    t.start .feedDead 0 (s.us (s.get F.FED_CONFIG_dt_us + bn was))

/-- The incoming gate is driven fully on; step 4 follows. -/
def State.switchEnhance (s : State) : State :=
  (((s.stop .feedMatch 0).stop .feedInsert 0).fedGate s.fedSel true).modFed fun x => { x with step := 4 }

/-- Step 3 for the incoming feed: within 1.0 V of the bus it closes, below it waits for the bus to fall, above it closes in limiting. -/
def State.switchClose (s : State) : State :=
  let f := s.fedSel
  let bus := 15 * s.adc 34
  let v := 15 * s.adc (26 + f)
  if bus ≤ v + 1000 ∧ v ≤ bus + 1000 then s.switchEnhance
  else if v + 1000 < bus then (s.modFed fun x => { x with step := 2 }).start .feedMatch 0 (s.ms (s.get F.FED_CONFIG_match_ms))
  else ((s.fedGate f true).modFed fun x => { x with step := 3 }).start .feedInsert 0 (s.ms (s.get F.FED_CONFIG_ins_ms))

/-- The incoming feed cannot be used: the next preferred feed takes its place, from step 3, or from the dead time that still runs. -/
def State.switchNext (s : State) : State :=
  let f := s.fedSel
  let t := ((s.fedGate f false).stop .feedMatch 0).stop .feedInsert 0
  let p := t.fedPreferred
  let t := ((t.set F.FED_STATUS_selected p).set F.FED_STATUS_precharge 0).set F.FED_STATUS_manual 0
  let t := t.modFed fun x => { x with manual := false }
  if 4 ≤ p then (t.switchStop).event F.FED_EVENT_no_feed
  else if s.feeds.step = 1 then t
  else t.switchClose

/-- The dead time is over (step 2): the gap began when it did. -/
def State.deadTimeEnd (s : State) : State :=
  if s.feeds.step = 1 ∧ s.running .feedDead 0 then
    ((s.stop .feedDead 0).modFed fun x => { x with gapStart := (s.tbase - BitVec.ofNat 48 (s.us (s.get F.FED_CONFIG_dt_us))).toNat }).switchClose
  else s

def execDeadTimeExpiry (s : State) : Host.Outcome State Fault Refusal := .next s.deadTimeEnd

def execBusMatchReached (s : State) : Host.Outcome State Fault Refusal := .next (if s.feeds.step = 2 then s.switchEnhance else s)

/-- A feed is lost: no longer qualified until its window has held again (R325). -/
def State.fedMarkLost (s : State) (f : Nat) : State :=
  ((s.setBit F.FED_STATUS_qualified f false).setBit F.FED_STATUS_lost f true).modFed fun x =>
    { x with held := x.held &&& ~~~(BitVec.ofNat 4 (2 ^ f)) }

/-- A match wait or an insertion has taken too long: the event, the loss, and the next preferred feed, with cause 7. -/
def State.switchFail (s : State) (ev : Field) (source : Nat) : State :=
  let f := s.fedSel
  (((s.eventAs ev source f 0).fedMarkLost f).modFed fun x => { x with cause := 7 }).switchNext

def execMatchTimeout (s : State) : Host.Outcome State Fault Refusal :=
  .next (if s.feeds.step = 2 ∧ s.running .feedMatch 0 then s.switchFail F.FED_EVENT_match_timeout 0x4B else s)

def execFeedInsertDone (s : State) : Host.Outcome State Fault Refusal := .next (if s.feeds.step = 3 then s.switchEnhance else s)

def execFeedInsTimeout (s : State) : Host.Outcome State Fault Refusal :=
  .next (if s.feeds.step = 3 ∧ s.running .feedInsert 0 then s.switchFail F.FED_EVENT_ins_timeout 0x48 else s)

/-- Step 4: the incoming gate is fully enhanced, and the switch is complete. -/
def State.switchDone (s : State) : State :=
  if s.feeds.step = 4 then
    let gap := s.since s.feeds.gapStart * 1000 / s.tickKhz
    let t := ((s.switchStop).set F.FED_STATUS_precharge 0).bump F.FED_SEQ_switches
    let t := ((t.set F.FED_LAST_SWITCH_cause s.feeds.cause).set F.FED_LAST_SWITCH_from s.feeds.from_).set F.FED_LAST_SWITCH_to s.fedSel
    let t := (t.set F.FED_LAST_SWITCH_gap_us (min 0xFFFF gap)).start .feedBlank 0 (s.us 200)
    if s.feeds.manual then (t.set F.FED_STATUS_manual 1).modFed fun x => { x with manual := false } else t
  else s

def execSwitchComplete (s : State) : Host.Outcome State Fault Refusal := .next s.switchDone

/-! ### Qualification and loss (R325, R326, R330) -/

/-- qual x 10 ms of a feed, in ticks. -/
def State.qualTicks (s : State) (f : Nat) : Nat := s.ms (10 * s.get (F.FED_FEED_CFG_qual f))

/-- A feed's window has held for qual x 10 ms. While Flue holds the feed it no longer reads lost, and is not qualified. -/
def State.feedQualified (s : State) (f : Feed) : State :=
  let from_ := s.tbase.toNat - s.qualTicks f.val
  let s := s.modFed fun x => { x with inFrom := x.inFrom.set f.val (some (match x.inFrom.get f with | some t => min t from_ | none => from_)) }
  if s.bit F.FED_STATUS_enabled f.val && s.fedWatch && !s.feeds.held.getLsbD f.val then
    let t := (s.modFed fun x => { x with held := x.held ||| BitVec.ofNat 4 (2 ^ f.val) }).setBit F.FED_STATUS_lost f.val false
    if s.feeds.dropped.getLsbD f.val then t else (t.setBit F.FED_STATUS_qualified f.val true).event F.FED_EVENT_qualified
  else s

def execFeedQualified (f : Feed) (s : State) : Host.Outcome State Fault Refusal := .next (s.feedQualified f)

/-- What the loss of a feed brings besides its mark: the notice of an incoming feed is withdrawn, an incoming feed is replaced, and where no
feed is selected (Banked, Level 3) the selected one opens. A selected feed that is connected is switched away from by UNPLANNED_SWITCH. -/
def State.feedGone (s : State) (f : Nat) (cause : Nat) : State :=
  let t := s.fedMarkLost f
  let t := if t.feeds.planned = f then t.noticeDrop else t
  if t.fedSel ≠ f then t
  else if !t.fedSelects then (((t.fedGate f false).switchStop.noticeDrop).set F.FED_STATUS_selected 4).set F.FED_STATUS_manual 0
  else
    let t := t.modFed fun x => { x with cause := cause }
    if t.feeds.step ≠ 0 then t.switchNext else t

/-- A qualified feed has been outside [uv, ov] for fail_us. -/
def State.feedLost (s : State) (f : Feed) : State :=
  if s.feeds.held.getLsbD f.val ∧ s.fedWatch then (s.eventAs F.FED_EVENT_lost 0x48 f.val 0).feedGone f.val 4 else s

def execFeedLost (f : Feed) (s : State) : Host.Outcome State Fault Refusal := .next (s.feedLost f)

def execFeedOvercurrent (s : State) : Host.Outcome State Fault Refusal :=
  .next (if s.fedConnected then (s.eventAs F.FED_EVENT_overcurrent 0x49 s.fedSel 0).feedGone s.fedSel 5 else s)

def execFeedReverse (s : State) : Host.Outcome State Fault Refusal :=
  .next (
    if s.fedConnected && s.left .feedBlank 0 = 0 then (s.eventAs F.FED_EVENT_reverse 0x4A s.fedSel 0).feedGone s.fedSel 6 else s)

/-! ### Selection (R327, R329) -/

def State.firstSelection (s : State) : State :=
  if s.fedSelects && s.fedSel = 4 && s.feeds.step = 0 && s.fedPreferred < 4 then s.switchBegin s.fedPreferred 1 else s

def execFirstSelection (s : State) : Host.Outcome State Fault Refusal := .next s.firstSelection

/-- The selected feed is lost: a switch to the preferred feed, or to none, runs at once; a manual selection ends. -/
def State.unplannedSwitch (s : State) (cause : Nat) : State :=
  if s.fedSel < 4 ∧ s.feeds.step = 0 then
    ((s.set F.FED_STATUS_manual 0).event F.FED_EVENT_unplanned).switchBegin s.fedPreferred cause
  else s

def execUnplannedSwitch (s : State) : Host.Outcome State Fault Refusal :=
  .next (if s.fedSelects && s.fedSel < 4 && !s.fedQual s.fedSel then s.unplannedSwitch s.feeds.cause else s)

/-- A planned switch that is due: the host's request, or the return to the preferred feed (R327); target and cause, 4 none. -/
def State.switchDue (s : State) : Nat × Nat :=
  if s.feeds.planned < 4 then (s.feeds.planned, s.feeds.plannedCause)
  else
    let p := s.fedPreferred
    if s.flag F.FED_CONFIG_revert && !s.flag F.FED_STATUS_manual && p < 4 && s.get (F.FED_FEED_CFG_prio p) < s.get (F.FED_FEED_CFG_prio s.fedSel) then
      (p, 2)
    else (4, 0)

/-- Notice of a planned switch at an epoch tick, and the pre-charge of the incoming gate. -/
def State.plannedNotice (s : State) : State :=
  let d := s.switchDue
  if s.fedSelects && s.fedConnected && d.1 < 4 && d.1 ≠ s.fedSel && s.fedQual d.1 then
    ((s.modFed fun x => { x with planned := d.1, plannedCause := d.2, noticeTick := if s.flag F.FED_STATUS_notice then x.noticeTick else some s.tbase.toNat }).set F.FED_STATUS_notice 1).set F.FED_STATUS_precharge 1
  else s

def execPlannedSwitchNotice (s : State) : Host.Outcome State Fault Refusal := .next (if s.atEpoch then s.plannedNotice else s)

/-- At the next epoch tick, once that tick's outputs are published, a planned switch that is not held runs. One that the incoming feed
cannot carry is an emergency shed; otherwise its only effect is on offers (R298), but for the squash of one that has been held as long as
hold_max allows (R295 cause 3, R299; DEDUCED, log 120). -/
def State.plannedRun (s : State) : State :=
  if s.switchRuns then
    let t := (s.event F.FED_EVENT_planned).switchBegin s.feeds.planned s.feeds.plannedCause
    if s.draught.shedDue then t.emergencyShed
    else
      let t : State := { t with draught := { t.draught with feed := s.feeds.planned } }
      if s.heldOut then t.squashNow 3 else t
  else s

def execPlannedSwitchRun (s : State) : Host.Outcome State Fault Refusal := .next s.plannedRun

/-- CONTROL.req 1-4: a qualified feed is asked for; one that is selected already only becomes manual. A switch to another feed that has been
given notice is withdrawn: the feed asked for gets notice of its own (R329). -/
def State.feedRequest (s : State) (f : Feed) : State :=
  if !s.fedQual f.val then s.eventHost F.FED_EVENT_cfg_refused
  else if s.fedSel = f.val ∧ s.feeds.step = 0 then s.set F.FED_STATUS_manual 1
  else
    let t := if s.feeds.planned = f.val then s else s.noticeDrop
    t.modFed fun x => { x with planned := f.val, plannedCause := 3 }

def execFedReqSelect (f : Feed) (s : State) : Host.Outcome State Fault Refusal :=
  .next (s.answered 0x0A fun s => s.feedRequest f)

/-- CONTROL.req 5 ends manual selection, that of a switch under way too (R327); a host request that still waits is dropped. -/
def State.feedAutomatic (s : State) : State :=
  let t := (s.set F.FED_STATUS_manual 0).modFed fun x => { x with manual := false }
  if s.feeds.plannedCause = 3 ∧ s.feeds.planned < 4 then t.noticeDrop else t

/-- A write of FED.CONTROL (Table 14.8): 1-4 name a feed, 5 is automatic, 6 and 7 are refused. -/
def State.fedControlWrite (s : State) (v : Word) : State :=
  match bitsGet v 0 3 with
  | 0 => s
  | 5 => s.feedAutomatic
  | 6 | 7 => s.eventHost F.FED_EVENT_cfg_refused
  | k => s.feedRequest (Fin.ofNat 4 (k - 1))

def execFedReqAutomatic (s : State) : Host.Outcome State Fault Refusal :=
  .next (s.answered 0x0A fun s => s.feedAutomatic)

/-! ### Flue's reactions on a feed (R368) -/

/-- A feed drop or fence: the feed is not qualified, and a switch away from it runs. -/
def State.feedDrop (s : State) (f : Nat) : State :=
  let t := (s.modFed fun x => { x with dropped := x.dropped ||| BitVec.ofNat 4 (2 ^ f) }).setBit F.FED_STATUS_qualified f false
  let t := if t.feeds.planned = f then t.noticeDrop else t
  if t.fedSel ≠ f ∨ f ≥ 4 then t
  else if !t.fedSelects then (((t.fedGate f false).switchStop.noticeDrop).set F.FED_STATUS_selected 4).set F.FED_STATUS_manual 0
  else
    let u : State := { t with fresh := t.fresh + 1 }
    if t.feeds.step ≠ 0 then (u.modFed fun x => { x with cause := Config.dropCause t.fresh }).switchNext
    else u.unplannedSwitch (Config.dropCause t.fresh)

/-- A feed's window has held without interruption for qual x 10 ms up to now. -/
def State.feedSteady (s : State) (f : Nat) : Bool :=
  match (s.feeds.inFrom[f]?).join with
  | some t => s.qualTicks f ≤ s.since t
  | none => false

/-- The drop or fence is released: a feed whose window has held without interruption is qualified at once, and any other once it has
(R325). -/
def State.feedRelease (s : State) (f : Nat) : State :=
  let t := s.modFed fun x => { x with dropped := x.dropped &&& ~~~(BitVec.ofNat 4 (2 ^ f)) }
  if !s.feeds.dropped.getLsbD f || !s.feeds.held.getLsbD f then t
  else if s.feedSteady f then (t.setBit F.FED_STATUS_qualified f true).event F.FED_EVENT_qualified
  else t.modFed fun x => { x with held := x.held &&& ~~~(BitVec.ofNat 4 (2 ^ f)) }

/-! ### Configuration (R326, R331, Table 14.8) -/

/-- A write of a FED configuration register, by its offset. -/
def State.fedWrite (s : State) (off : Nat) (v : Word) : State :=
  let r := F.FED_EVENT_cfg_refused
  if off = 0x20 then
    s.cfgWrite [⟨F.FED_CONFIG_dt_us, 2, 200, false⟩, ⟨F.FED_CONFIG_match_ms, 1, 255, false⟩, ⟨F.FED_CONFIG_ins_a, 1, 100, false⟩,
      ⟨F.FED_CONFIG_ins_ms, 1, 63, false⟩, ⟨F.FED_CONFIG_revert, 0, 1, true⟩] r true v
  else if 0x24 ≤ off ∧ off ≤ 0x30 then
    let k := (off - 0x24) / 4
    s.cfgWrite [⟨F.FED_FEED_CFG_prio k, 0, 7, true⟩, ⟨F.FED_FEED_CFG_qual k, 1, 255, false⟩, ⟨F.FED_FEED_CFG_fail_us k, 1, 255, false⟩] r true v
  else if 0x34 ≤ off ∧ off ≤ 0x40 then
    let k := (off - 0x34) / 4
    let ov := keep0 (bitsGet v 16 10) (s.get (F.FED_FEED_WIN_ov k))
    let uv := keep0 (bitsGet v 0 10) (s.get (F.FED_FEED_WIN_uv k))
    s.cfgWrite [⟨F.FED_FEED_WIN_ov k, 20, 580, false⟩, ⟨F.FED_FEED_WIN_uv k, 20, 570, false⟩] r (decide (uv + 10 ≤ ov)) v
  else if 0x44 ≤ off ∧ off ≤ 0x50 then
    let k := (off - 0x44) / 4
    let rs := keep0 (bitsGet v 16 12) (s.get (F.FED_FEED_SNS_rfsns k))
    let oc := keep0 (bitsGet v 8 8) (s.get (F.FED_FEED_SNS_ioc k))
    s.cfgWrite [⟨F.FED_FEED_SNS_rfsns k, 10, 2000, false⟩, ⟨F.FED_FEED_SNS_ioc k, 2, 200, false⟩, ⟨F.FED_FEED_SNS_irev k, 1, 200, false⟩] r
      (decide (oc * rs ≤ 12000)) v
  else s

end Sys2Proof.Machine
end

