-- ==== Sys2Proof/Machine/Cmp.lean ====
section
/-! DEFINITION. The Comparator Array (chapter 15): filtered violations, latches, clearing at period boundaries, configuration, forcing. -/

namespace Sys2Proof.Machine

/-- A field of comparator `k`, which is bit `k` mod 32 of page `k` / 32. -/
def cmpBit (f : Nat → Field) (k : Fin 64) : Field := { f (k.val / 32) with lo := k.val % 32, width := 1 }

/-- A configuration field of comparator `k`. -/
def cmpCfg (f : Nat → Nat → Field) (k : Fin 64) : Field := f (k.val / 32) (k.val % 32)

/-- Note what the comparators do on this tick (R339, R340). -/
def State.cmpMark (s : State) (g : CmpArray → CmpArray) : State :=
  let now := some s.tbase.toNat
  { s with array := g (if s.array.tick = now then s.array else { tick := now, fired := 0, rose := 0, fell := 0 }) }

/-- A latch clears; its falling edge reaches the Trace Units (R340). -/
def State.cmpFall (s : State) (k : Fin 64) : State :=
  if s.flag (cmpBit F.CMP_EVENT_latched k) then
    let t := s.set (cmpBit F.CMP_EVENT_latched k) 0
    (t.cmpMark fun a => { a with fell := a.fell ||| BitVec.ofNat 64 (2 ^ k.val) }).traceTrigger (.comparator k false)
  else s

/-- The latch is set with its side; on a rising edge SEQ advances, and a comparator with flue_en reports CMP_WINDOW for its number (R338,
R340). -/
def State.cmpLatch (s : State) (k : Fin 64) (upper : Bool) (access : Nat) : State :=
  let t := s.cmpMark fun a => { a with fired := a.fired ||| BitVec.ofNat 64 (2 ^ k.val) }
  let t := t.setB (cmpBit F.CMP_SIDE_side k) upper
  if s.flag (cmpBit F.CMP_EVENT_latched k) then t
  else
    let t := (t.set (cmpBit F.CMP_EVENT_latched k) 1).bump (F.CMP_SEQ_latches (k.val / 32))
    let t := (t.cmpMark fun a => { a with rose := a.rose ||| BitVec.ofNat 64 (2 ^ k.val) }).traceTrigger (.comparator k true)
    if s.flag (cmpCfg F.CMP_CFG_flue_en k) then t.report 0x68 k.val (bn upper) (if access = 0 then 0 else 1) access else t

/-- Comparator `k` fired on this tick (R339). -/
def State.cmpJust (s : State) (k : Nat) : Bool := s.array.tick = some s.tbase.toNat && s.array.fired.getLsbD k

/-- A violation has passed the filter: STATUS shows it and the latch is set (R338). -/
def State.cmpFired (s : State) (k : Fin 64) (upper : Bool) : State := (s.set (cmpBit F.CMP_STATUS_live k) 1).cmpLatch k upper 0

/-- A violation of one side has held for filt x 40 ns (R335, R338): only of a comparator that is enabled, has an input and has that side
enabled. The upper side of a comparator that Fender owns trips its port's path, or opens it for overvoltage. -/
def State.cmpViolation (s : State) (k : Fin 64) (upper : Bool) : State :=
  let on := s.flag (cmpCfg F.CMP_CFG_en k) && s.get (cmpCfg F.CMP_CFG_input k) ≠ 0
  let side := if upper then s.get (cmpCfg F.CMP_CFG_hi k) ≠ 255 else s.get (cmpCfg F.CMP_CFG_lo k) ≠ 0
  if on && side then
    let t := s.cmpFired k upper
    let n : Port := Fin.ofNat 8 k.val
    if !upper || 16 ≤ k.val then t else if k.val < 8 then t.fastTrip n else t.pathOvp n
  else s

/-- The fast-trip comparator of a port fires while Fender owns it (R314, R338). -/
def execFastTrip (n : Port) (s : State) : Host.Outcome State Fault Refusal :=
  .next (if s.bit (F.CMP_OWNER_fender 0) n.val then (s.cmpFired (Fin.ofNat 64 n.val) true).fastTrip n else s)

/-- The VBUS window comparator of a port fires while Fender owns it and its path is Closed or Limiting (R315, R338). -/
def execPathOvp (n : Port) (s : State) : Host.Outcome State Fault Refusal :=
  .next (
    if s.bit (F.CMP_OWNER_fender 0) (8 + n.val) && (s.pathState n = 3 || s.pathState n = 4) then
      (s.cmpFired (Fin.ofNat 64 (8 + n.val)) true).pathOvp n
    else s)

def execComparatorViolation (k : Fin 64) (upper : Bool) (s : State) : Host.Outcome State Fault Refusal := .next (s.cmpViolation k upper)

/-- The input has come back inside the window by the hysteresis. -/
def execComparatorViolationEnd (k : Fin 64) (s : State) : Host.Outcome State Fault Refusal := .next (s.set (cmpBit F.CMP_STATUS_live k) 0)

/-- Fender owns comparator `k`. -/
def State.cmpOwned (s : State) (k : Fin 64) : Bool := k.val < 16 && s.bit (F.CMP_OWNER_fender 0) k.val

/-- Bits of CFG that Fender owns: hi, filt, input, idx and en, and lo on comparators 0-7 (R336). -/
def ownedMask (k : Fin 64) : Nat := if k.val < 8 then 0xFFFFF9F9 else 0xFF00F9F9

/-- A write of a comparator's CFG (R335, R336): refused with lo above hi, or where it changes a field that Fender owns. Where the input or
a threshold changes, or the comparator is disabled, the violation it showed ends. -/
def State.cmpCfgWrite (s : State) (k : Fin 64) (v : Word) : State :=
  let a := (cmpCfg F.CMP_CFG_en k).addr
  let old := (s.word a 0).toNat
  let owned := s.cmpOwned k && (old &&& ownedMask k) ≠ (v.toNat &&& ownedMask k)
  if bitsGet v 24 8 < bitsGet v 16 8 || owned then s.set (cmpBit F.CMP_CFG_REFUSED_refused k) 1
  else
    let t := s.putWord a 0 (v &&& 0xFFFFFFFD)
    if (old &&& 0xFFFF01F9) ≠ (v.toNat &&& 0xFFFF01F9) then t.set (cmpBit F.CMP_STATUS_live k) 0 else t

def execCmpCfgWrite (k : Fin 64) (value : Word) (s : State) : Host.Outcome State Fault Refusal :=
  .next (s.answered (0x0B + k.val / 32) fun s => s.cmpCfgWrite k value)

/-- A write of FORCE: each bit sets its latch with SIDE 1 as a crossing would; STATUS and the fast trip are not touched (R341). -/
def State.cmpForce (s : State) (page : Fin 2) (v : Word) : State :=
  (List.range 32).foldl (fun t i => if bitOf v.toNat i then t.cmpLatch (Fin.ofNat 64 (32 * page.val + i)) true 4 else t) s

def execCmpForce (page : Fin 2) (value : Word) (s : State) : Host.Outcome State Fault Refusal :=
  .next (s.answered (0x0B + page.val) fun s => s.cmpForce page value)

def execFenderThresholdLoad (n : Port) (s : State) : Host.Outcome State Fault Refusal := .next (s.fenderLoad n)

end Sys2Proof.Machine
end

