-- ==== Sys2Proof/Machine/View.lean ====
section
/-! DEFINITION. What a read of a register shows (R4, R16, R424-R430, Table 16.7): the stored word under its read mask, and over it
the fields that mirror state held elsewhere. -/

namespace Sys2Proof.Machine

/-! ### The page directory (Table 20.2) -/

/-- Block code and instance of a page, for PAGE_ID; none outside the directory. -/
def pageCode (page : Nat) : Option (Nat × Nat) :=
  if 0x20 ≤ page ∧ page ≤ 0x5F then some (0x20 + page % 8, (page - 0x20) / 8)
  else if page ≤ 0x0B then some (page + 1, 0)
  else if page = 0x0C then some (0x0C, 1)
  else if page ≤ 0x14 then some (page, 0)
  else if 0x60 ≤ page ∧ page ≤ 0x64 then some (page - 0x30, 0)
  else if 0x66 ≤ page ∧ page ≤ 0x6A then some (page - 0x36, 1)
  else none

/-- PAGE_ID (R424, R426): block code, instance and the dialect in force. -/
def State.pageId (s : State) (page : Nat) : Word :=
  match pageCode page with
  | some (c, i) => BitVec.ofNat 32 (c * 2 ^ 24 + i * 2 ^ 16 + s.get F.DEV_DIALECT_major * 256 + s.get F.DEV_DIALECT_minor)
  | none => 0

/-- The port of a port page. -/
def pagePort (page : Nat) : Port := Fin.ofNat 8 ((page - 0x20) / 8)

/-- A hearth-held page, which VIEW_SEL may name (R16, R358); STG counts, since it is held in part. -/
def hearthHeldPage (p : Nat) : Bool :=
  (0x20 ≤ p && p ≤ 0x5F && p % 8 ≠ 0) || [0x07, 0x08, 0x09, 0x0E, 0x0F, 0x10, 0x11, 0x12, 0x13].contains p

/-- The hearth of a debug page, 0x60-0x64 and 0x66-0x6A. -/
def debugHearth (page : Nat) : Option Hth :=
  if 0x60 ≤ page ∧ page ≤ 0x64 then some .A else if 0x66 ≤ page ∧ page ≤ 0x6A then some .B else none

/-- The register at an offset of page ILP that is single: the current-loop bank windows. -/
def ilpSingle (off : Nat) : Bool := 0x34 ≤ off && off < 0x54

/-- The copy a read of a register's word goes to: the single one, the alias hearth's (R16), or that of the hearth `view` names. -/
def State.readCopy (s : State) (addr : Nat) (view : Option Hth) : Nat :=
  let page := pageOf addr
  match debugHearth page with
  | some h => hthCopy h
  | none =>
    if !hearthHeldPage page ∨ (0x20 ≤ page ∧ page ≤ 0x5F ∧ page % 8 = 5 ∧ ilpSingle (addr % 256)) then 0
    else match view with
      | some h => hthCopy h
      | none => hthCopy (if 0x20 ≤ page ∧ page ≤ 0x5F then s.driver (pagePort page) else s.devHearth)

/-- The stored word of a register: on the mixed page STG the hearth-held bits come from the hearth's copy and the others from the
single one. -/
def State.storedWord (s : State) (addr : Nat) (view : Option Hth) : Word :=
  let c := s.readCopy addr view
  match regRow addr with
  | some r =>
    if r.hearth = 0 ∧ 0x20 ≤ pageOf addr ∧ pageOf addr ≤ 0x5F ∧ pageOf addr % 8 = 4 then s.word addr 0
    else if r.hearth = 0 then s.word addr c
    else
      let m := BitVec.ofNat 32 r.hearth
      (s.word addr 0 &&& ~~~m) ||| (s.word addr c &&& m)
  | none => 0

/-! ### The alert summary (R430) -/

/-- EVENT AND EVENT_EN of a page, in the copy that a read of the page returns. -/
def State.alertBits (s : State) (page : Nat) : Word := s.storedWord (page * 256 + 8) none &&& s.storedWord (page * 256 + 12) none

def State.pageAlert (s : State) (page : Nat) : Bool := s.alertBits page ≠ 0

/-- ALERT_SUMMARYk: bit p mod 32 for page p. A page outside the directory contributes 0. -/
def State.alertSummary (s : State) (k : Nat) : Nat :=
  (List.range 32).foldl (fun m b => if s.pageAlert (32 * k + b) then m + 2 ^ b else m) 0

/-- The alert bits of a page that the device has set on this tick. -/
def State.alertNow (s : State) (page : Nat) : Word :=
  s.alertBits page &&& BitVec.ofNat 32 ((List.range 32).foldl (fun m b => if s.justSet page b then m + 2 ^ b else m) 0)

/-- An alert bit stands that no release has answered (R415, R416). -/
def State.alertFresh (s : State) : Bool :=
  (List.range 128).any fun p => (s.alertBits p &&& ~~~(sparseRead (fun _ => 0) s.pins.acked p)) ||| s.alertNow p ≠ 0

/-- The four summary registers are not all zero. -/
def State.anyAlert (s : State) : Bool := (List.range 4).any fun k => s.alertSummary k ≠ 0

/-! ### Flue and Ash (Tables 17.6, 17.8, 17.9) -/

/-- The open record of a group and unit. -/
def recordFind (l : List FlueRecord) (g u : Nat) : Option FlueRecord := l.find? fun r => r.group = g && r.unit = u

/-- Unit number of a record's timers. -/
def recUnit (g u : Nat) : Nat := g * 256 + u

/-- A record at Level 2 or fenced. -/
def FlueRecord.high (r : FlueRecord) : Bool := r.level = 2 || r.level = 4

/-- FAULT_N is asserted (R372, Table 2.7): in Lit and Banked while a record is at Level 2 or fenced or Level 3 is in force, in Fuse
Hold, and while the device is held at step 5 (R57). -/
def State.faultN (s : State) : Bool :=
  match s.ember.dev with
  | .lit | .banked => s.flue.records.any FlueRecord.high || s.flag F.FLU_STATUS_l3
  | .fuseHold | .held => true
  | _ => false

/-- A bit per group in which some record satisfies `p`. -/
def State.groupBits (s : State) (p : FlueRecord → Bool) : Nat :=
  (List.range 13).foldl (fun m g => if s.flue.records.any fun r => r.group = g && p r then m + 2 ^ g else m) 0

/-- A register of an Ash entry (Table 17.6): k = 0-3 for REC0-3. -/
def AshEntry.reg (e : AshEntry) (k : Nat) : Nat :=
  match k with
  | 0 => e.data.toNat
  | 1 => e.merges * 2 ^ 24 + e.master % 8 * 2 ^ 21 + e.level % 8 * 2 ^ 18 + e.access % 16 * 2 ^ 14 + e.group % 16 * 2 ^ 10 +
      e.kind % 8 * 2 ^ 7 + e.detail % 128
  | 2 => e.tbase.toNat % 2 ^ 16 * 2 ^ 16 + e.source % 256 * 2 ^ 8 + e.unit % 256
  | _ => e.tbase.toNat / 2 ^ 16

/-- Ticks as milliseconds, rounded up. -/
def State.leftMs (s : State) (t : Nat) : Nat := ceilDiv t s.tickKhz

/-- The record viewed by REC_SEL. -/
def State.recViewed (s : State) : Option FlueRecord :=
  recordFind s.flue.records (s.get F.FLU_REC_SEL_group) (s.get F.FLU_REC_SEL_unit)

/-- REC_TIMER (Table 17.8): which timer of the record viewed runs, and its time left; the quiet timer while it runs beside another
(Table 17.5 step 5). -/
def State.recTimer (s : State) : Nat × Nat :=
  let u := recUnit (s.get F.FLU_REC_SEL_group) (s.get F.FLU_REC_SEL_unit)
  match s.recViewed with
  | none => (0, 0)
  | some _ =>
    if s.running .quiet u then (3, s.leftMs (s.left .quiet u))
    else if s.running .grace u then (1, s.leftMs (s.left .grace u))
    else if s.running .persist u then (2, s.leftMs (s.left .persist u))
    else (0, 0)

/-! ### Fields that mirror other state -/

/-- Power state and start-up step as DEV.STATUS and EMB.STATUS show them (Tables 20.4, 20.5). -/
def State.pstateCode (s : State) : Nat := if s.ember.dev = .banked then 2 else 1
def State.bootStep (s : State) : Nat :=
  if s.ember.dev = .fuseHold then 0xE else if s.ember.kindling.isSome then 0xD else s.ember.step

/-- SMBALERT_N is asserted (R415): in mode 1 by the level of the summary; in mode 0 from an alert cause on, which is an alert bit set since
the last release or the latch that SMB.STATUS.alert holds, until the summary is all zero. It is driven in Lit and Banked only (Table 2.7). -/
def State.alertPin (s : State) : Bool :=
  (s.ember.dev = .lit || s.ember.dev = .banked) && s.anyAlert &&
    (s.flag F.SMB_CONFIG_alert_mode || s.flag F.SMB_STATUS_alert || s.alertFresh)

/-- POL.STATUS.typec: the Kindling port shows Kindling, an unattached port whose attach debounce runs AttachWait (Table 7.10). -/
def State.typecShown (s : State) (n : Port) : Nat :=
  let v := s.get (F.POL_STATUS_typec n)
  if s.ember.kindling = some n ∧ v ≠ 0 then 14
  else if (v = 1 ∨ v = 2) ∧ s.running .attach n.val then v + 2 else v

/-- The fields of a single page that show state held elsewhere, with the values they show. `live` is whether a record is live. -/
def State.mirrorSingle (s : State) (live : FlueRecord → Bool) (page : Nat) : List (Field × Nat) :=
  match page with
  | 0x00 =>
    [ (F.DEV_STATUS_degraded, bn s.degraded), (F.DEV_STATUS_l3, s.get F.FLU_STATUS_l3), (F.DEV_STATUS_pstate, s.pstateCode),
      (F.DEV_STATUS_boot_step, s.bootStep) ] ++
    (List.range 4).map fun k => (F.DEV_ALERT_SUMMARY_pages k, s.alertSummary k)
  | 0x01 => [(F.EMB_STATUS_pstate, s.pstateCode)]
  | 0x02 => [(F.TB_TBASE_LO_tbase, s.tbase.toNat)]
  | 0x03 =>
    [ (F.FLU_STATUS_fault_n, bn s.faultN), (F.FLU_STATUS_open, min 255 s.flue.records.length),
      (F.FLU_REC_TIMER_timer, s.recTimer.1), (F.FLU_REC_TIMER_left, s.recTimer.2),
      (F.FLU_GROUPS_l2, s.groupBits FlueRecord.high), (F.FLU_GROUPS_open, s.groupBits fun _ => true) ] ++
    (match s.recViewed with
     | some r =>
       [ (F.FLU_REC_STATUS_open, 1), (F.FLU_REC_STATUS_level, r.level), (F.FLU_REC_STATUS_live, bn (live r)),
         (F.FLU_REC_STATUS_merges, r.merges), (F.FLU_REC_STATUS_source, r.source),
         (F.FLU_REC_STATUS_last, r.merged.getLast?.getD 0) ]
     | none => [])
  | 0x04 =>
    [ (F.ASH_STATUS_newest, s.flue.newest), (F.ASH_STATUS_count, s.flue.ash.length),
      (F.ASH_STATUS_first_valid, bn s.flue.first.isSome) ] ++
    (match s.flue.ash[s.get F.ASH_INDEX_age]? with
     | some e => (List.range 4).map fun k => (F.ASH_REC_entry k, e.reg k)
     | none => []) ++
    (match s.flue.first with
     | some e => (List.range 4).map fun k => (F.ASH_FIRST_entry k, e.reg k)
     | none => [])
  | 0x05 =>
    [ (F.OTP_STATUS_cond_ok, bn (s.otpCondition = 0)), (F.OTP_COND_tj, tjByte (s.adc 47)), (F.OTP_COND_vsys, s.vsysMv / 100),
      (F.OTP_COND_paths_open, bn s.pathsOpen) ]
  | 0x06 => [(F.SMB_STATUS_alert, bn s.alertPin)]
  | 0x0D =>
    [ (F.HTH_STATUS_busy, bn s.hearths.goal.isSome), (F.HTH_STATUS_degraded, bn s.degraded),
      (F.HTH_STATUS_active, hthBit s.activeHearth), (F.HTH_STATUS_role_b, roleCode s.hearths.roleB),
      (F.HTH_STATUS_role_a, roleCode s.hearths.roleA), (F.HTH_STATUS_mode, modeCode s.hearths.mode) ]
  | 0x0E => [(F.LEN_STATUS_w_min, wMinAt s.tickKhz), (F.LEN_STATUS_t_adc, tAdcAt s.tickKhz)]
  | 0x13 =>
    (F.THN_STATUS_ref_seen, (List.finRange 8).foldl (fun a n => bitPut a n.val (s.refSeen n)) 0) ::
      (List.finRange 8).map fun n => (F.THN_PORT_STATUS_ref_drive n.val, bn (s.refDrive n))
  | 0x14 => [(F.ADC_STATUS_p, s.tickKhz / 1000)]
  | 0x64 => [(⟨.own .A, 0x6420, 0, 3⟩, roleCode s.hearths.roleA), (⟨.own .A, 0x6428, 0, 5⟩, s.railCode .A)]
  | 0x6A => [(⟨.own .B, 0x6A20, 0, 3⟩, roleCode s.hearths.roleB), (⟨.own .B, 0x6A28, 0, 5⟩, s.railCode .B)]
  | _ => []

/-- The fields of a port page that show state held elsewhere. MSG.STATUS.q_depth counts the queue, and not the message under way between two
tries or two chunks (DESIGN CHOICE, log 113). -/
def State.mirrorPort (s : State) (page : Nat) : List (Field × Nat) :=
  let n := pagePort page
  match page % 8 with
  | 0 => [(F.CC_SNK_DISC_vth_eff n, s.vthEff n)]
  | 1 =>
    [ (F.MSG_STATUS_shared_held n, s.heldShared n), (F.MSG_STATUS_q_depth n, (s.msg.get n).queue.length),
      (F.MSG_POOL_STATUS_pool_free n, s.poolFree n) ]
  | 2 => [(F.POL_STATUS_typec n, s.typecShown n)]
  | 4 => [(F.STG_STATUS_upd_clipped n, bn (s.updClipped n))]
  | 7 => (List.range 6).map fun k => (if k < 3 then F.THM_ALPHA_S_alpha n k else F.THM_ALPHA_B_alpha n (k - 3), s.alphaOf n k)
  | 6 => [(F.FND_RETRY_STATUS_toff_left n, ceilDiv (s.left .offTime n.val) (10 * s.tickKhz))]
  | _ => []

/-- The state as hearth `h` holds it, whichever hearth drives (R16, R358): its own copies of what the hearths hold, and its own logic where
that stands apart. -/
def State.seenBy (s : State) (h : Hth) : State :=
  let t : State := { s with hearths := { s.hearths with
    mode := .solo, roleA := (match h with | .A => .solo | .B => .off), roleB := (match h with | .A => .off | .B => .solo) } }
  match s.apart with
  | some l =>
    if s.role h = .fenced ∨ s.role h = .copying then
      { t with
        msg := l.msg, pol := l.pol, vdm := l.vdm, thn := l.thn, lp := l.lp, lanes := l.lanes, fnd := l.fnd, inputs := l.inputs,
        draught := l.draught, auth := l.auth, timers := t.timers.filter fun x => x.kind = .attach }
    else t
  | none => t

/-- A word with the mirrored fields that lie in its register. -/
def mirrorInto (addr : Nat) (l : List (Field × Nat)) (w : Word) : Word :=
  l.foldl (fun w p => if p.1.addr = addr then bitsSet w p.1.lo p.1.width p.2 else w) w

/-- A register as a hearth or the periphery holds it: read mask, stored word and mirrored fields. -/
def State.shown (s : State) (live : FlueRecord → Bool) (addr : Nat) (view : Option Hth) : Word :=
  let page := pageOf addr
  if addr % 256 = 0 then s.pageId page
  else match regRow addr with
    | none => 0
    | some r =>
      let v := match view with | some h => s.seenBy h | none => s
      let l := if 0x20 ≤ page ∧ page ≤ 0x5F then v.mirrorPort page else v.mirrorSingle live page
      mirrorInto addr l (s.storedWord addr view) &&& BitVec.ofNat 32 r.rd

/-! ### EVENT bits by page and bit -/

/-- The home of a page's event bits: single, the port's hearth, the device-wide hearth, or a debug page's own. -/
def pageHome (page : Nat) : Home :=
  match debugHearth page with
  | some h => .own h
  | none => if 0x20 ≤ page ∧ page ≤ 0x5F then (if page % 8 = 0 then .single else .port (pagePort page))
            else if hearthHeldPage page then .dev else .single

/-- Bit `bit` of a page's EVENT register, where it is held (on STG as R253 marks it). -/
def eventField (page bit : Nat) : Field :=
  let addr := page * 256 + 8
  let held : Bool := match regRow addr with | some r => bitOf r.hearth bit | none => false
  ⟨if 0x20 ≤ page ∧ page ≤ 0x5F ∧ page % 8 = 4 ∧ !held then .single else pageHome page, addr, bit, 1⟩

/-- The page's EVENT layout has this bit. -/
def hasEvent (page bit : Nat) : Bool :=
  match regRow (page * 256 + 8) with
  | some r => bitOf r.w1c bit
  | none => false

end Sys2Proof.Machine
end

