-- ==== Sys2Proof/Machine/Flue.lean ====
section
/-! DEFINITION. Flue's own work (chapter 17): the source table, Ash entries and Soot, records and their levels, the reactions, the
loss of a hearth (R351, R352) and Level 3 (R369, R370). -/

namespace Sys2Proof.Machine

/-! ### Sources (Tables 17.2 and 17.3) -/

/-- The group of a source. -/
def sourceGroup (c : Nat) : Nat :=
  if c < 0x10 then 0 else if c < 0x18 then 1 else if c < 0x20 then 2 else if c < 0x28 then 3 else if c < 0x30 then 4
  else if c < 0x38 then 5 else if c < 0x40 then 6 else if c < 0x48 then 7 else if c < 0x50 then 8 else if c < 0x58 then 9
  else if c < 0x60 then 10 else if c < 0x68 then 11 else 12

/-- The Level 2 reaction of a source; `level1` where its ceiling is Level 1. -/
def sourceReact (c : Nat) : React :=
  match c with
  | 0x01 | 0x02 | 0x03 => .level0
  | 0x10 | 0x11 => .level3
  | 0x20 | 0x21 | 0x30 | 0x31 | 0x3D | 0x3F | 0x42 => .portSafe
  | 0x48 | 0x49 | 0x4A => .feedDrop
  | 0x58 | 0x59 | 0x5A | 0x5B => .hearthFence
  | 0x18 | 0x28 | 0x29 | 0x38 | 0x39 | 0x3A | 0x3B | 0x3C | 0x3E | 0x40 | 0x41 | 0x4B | 0x50 | 0x60 | 0x68 => .level1
  | _ => .level0

/-- The hearth of a unit number. -/
def unitHearth (u : Nat) : Hth := hthOfBit u

/-- The port of a unit number. -/
def unitPort (u : Nat) : Port := Fin.ofNat 8 u

/-- A hearth is Fenced or Copying: the live cause of the HEARTH sources. -/
def State.hearthDown (s : State) (h : Hth) : Bool := s.role h = .fenced || s.role h = .copying

/-- The live cause of a source for a unit is present (Table 17.2), leaving out FLU.TEST. -/
def State.cause (s : State) (c u : Nat) : Bool :=
  let n := unitPort u
  match c with
  | 0x10 => !s.flag F.EMB_STATUS_vddio_ok
  | 0x11 => !s.flag F.EMB_STATUS_vdrv_ok
  | 0x18 => s.get F.TB_STATUS_ref_src = 2 && s.get F.TB_CONFIG_ref_sel ≠ 2
  | 0x20 => s.flag (F.CC_STATUS_cc_iso n)
  | 0x21 => s.flag (F.CC_SBU_STATUS_sbu1_ov n) || s.flag (F.CC_SBU_STATUS_sbu2_ov n)
  | 0x28 => s.flag (F.CC_STATUS_vconn_on n) &&
      s.get (F.CC_VCONN_CFG_ilim n) * 25 ≤ s.get (F.CC_VCONN_STATUS_imeas n) * 2
  | 0x29 => !s.flag F.EMB_STATUS_vconn_in_ok
  | 0x30 => s.get (F.STG_STATUS_state n) = 3
  | 0x31 => s.get (F.STG_ADC_LAST_imon n) = 0 || s.get (F.STG_ADC_LAST_imon n) = 4095
  | 0x38 | 0x39 | 0x3A | 0x3B | 0x3C => s.get (F.FND_STATUS_state n) = 5 || s.get (F.FND_STATUS_state n) = 6
  | 0x3D => s.get (F.FND_STATUS_state n) = 6
  | 0x3E => s.flag (F.THM_STATUS_hold n)
  | 0x3F => (800 < s.vbusMv n) && s.pathIsOpen n && !s.sinking n
  | 0x41 => (s.lp.get n).missEpoch ≠ 0 && s.epochNo ≤ (s.lp.get n).missEpoch
  | 0x42 => s.excursion n false || s.excursion n true
  | 0x48 | 0x49 | 0x4A | 0x4B => s.bit F.FED_STATUS_lost (u % 4)
  | 0x50 => (List.finRange 8).any fun p => s.get (F.THM_CFG_ntc_sel p) = u && s.flag (F.THM_STATUS_ntc_fault p)
  | 0x58 | 0x59 | 0x5A | 0x5B => s.hearthDown (unitHearth u)
  | 0x60 => (s.flue.broken.any fun b => b.1 = u) ||
      (match s.flue.testPair with | some (p, t) => p.1 = u && !tickBefore t s.tbase.toNat | none => false)
  | 0x68 => s.bit (F.CMP_STATUS_live (u / 32)) (u % 32)
  | _ => false

/-- The live cause of a source, with the one that FLU.TEST holds present (R363). -/
def State.live (s : State) (c u : Nat) : Bool :=
  s.cause c u ||
  (s.flag F.FLU_TEST_hold && s.get F.FLU_TEST_source = c && s.get F.FLU_TEST_unit = u)

/-- The live flag of a record: the live cause of any source merged into it (R364). -/
def State.recLive (s : State) (r : FlueRecord) : Bool := (r.source :: r.merged).any fun c => s.live c r.unit

/-- What a read of a register shows (R4): the word behind VIEW is that of the page viewed, as the hearth holds it (Table 16.7), and a
hearth that is powered off shows nothing but PAGE_IDs (R358). -/
def State.regView (s : State) (addr : Nat) : Word :=
  let page := pageOf addr
  match debugHearth page with
  | none => s.shown s.recLive addr none
  | some h =>
    if addr % 256 = 0 then s.pageId page
    else if !s.powered h then 0
    else if page = 0x61 ∨ page = 0x67 then s.shown s.recLive (s.get (F.DBG_VIEW_SEL h) * 256 + addr % 256) (some h)
    else s.shown s.recLive addr none

/-! ### Ash (R378, R379) -/

/-- The page whose STATUS register an entry carries as its data (Table 17.6), for a source and unit. -/
def sourcePage (c u : Nat) : Nat :=
  let n := unitPort u
  match c with
  | 0x02 | 0x03 => 0x01
  | 0x18 => 0x02
  | 0x20 | 0x21 | 0x28 | 0x29 => portPage n 0
  | 0x30 | 0x31 | 0x41 => portPage n 4
  | 0x40 => portPage n 2
  | 0x42 => 0x12
  | 0x38 | 0x39 | 0x3A | 0x3B | 0x3C | 0x3D | 0x3F => portPage n 6
  | 0x3E => portPage n 7
  | 0x48 | 0x49 | 0x4A | 0x4B => 0x0A
  | 0x50 => portPage 0 7
  | 0x58 | 0x59 | 0x5A | 0x5B => 0x0D
  | 0x68 => 0x0B + u / 32
  | _ => 0

/-- The data word of an entry (Table 17.6): the STATUS register of the page whose EVENT bit the report came with, or of the source's page. -/
def State.ashData (s : State) (r : Report) (kind : Nat) : Word :=
  let c := r.source
  if c = 0x01 then s.regView (r.unit * 256 + 0x08)
  else if kind = 2 ∨ kind = 3 ∨ c = 0x60 ∨ sourceGroup c = 1 then 0
  else s.regView ((match r.bit with | some b => b / 32 | none => sourcePage c r.unit) * 256 + 0x04)

/-- Write an Ash entry: the log keeps the 32 newest, and ASH.EVENT, SEQ and the first-error record follow (R378, R379). -/
def State.ashWrite (s : State) (r : Report) (level merges kind : Nat) : State :=
  let e : AshEntry :=
    { serial := s.flue.serial, tbase := s.tbase, source := r.source, unit := r.unit, merges := merges, master := r.master,
      level := level, access := r.access, group := sourceGroup r.source, kind := kind, detail := r.detail,
      data := s.ashData r kind }
  let full : Bool := s.flue.ash.length = 32
  let t : State := { s with flue := { s.flue with
    ash := (e :: s.flue.ash).take 32
    serial := s.flue.serial + 1
    newest := if s.flue.ash.isEmpty then s.flue.newest else (s.flue.newest + 1) % 32
    first := if kind = 0 ∧ s.flue.first = none then some e else s.flue.first } }
  let t := (t.set F.ASH_EVENT_recorded 1).bump F.ASH_SEQ_entries
  if full then t.set F.ASH_EVENT_wrapped 1 else t

/-! ### Level 3 (R369, R370) -/

/-- Entry to Level 3: every stage Off, every path Open with its gates, the Trace Units freeze, DSCHG switches on for the ports that were sourcing and off for the rest (R323), ALIVE freezes,
the state and its event are set and an Ash entry of kind 1 is written (R370, R372, Table 2.7). -/
def State.enterLevel3 (s : State) (r : Report) : State :=
  if s.flag F.FLU_STATUS_l3 then s
  else
    let t := (List.finRange 8).foldl (fun t p =>
      let u := ((t.stageOff p).set (F.STG_STATUS_state p) 0).openPath p
      let u := if s.sourcing p && 800 < s.vbusMv p then u.dschgStart p else u.dschgOff p
      (u.vconnOff p).presentNow p .rd) s
    let t := t.traceFreeze
    let t : State := { t with
      ember := { t.ember with aliveOn := false } }
    let t := ((t.set F.FLU_STATUS_l3 1).set F.FLU_EVENT_level3 1).ashWrite r 3 0 1
    (t.stop .l3Clear 0).start .l3Hold 0 (t.ms (t.get F.FLU_CONFIG_l3_hold * 10))

/-! ### Hearth losses (R350-R352) -/

/-- Give a hearth a role. -/
def State.setRole (s : State) (h : Hth) (r : Role) : State :=
  match h with
  | .A => { s with hearths := { s.hearths with roleA := r } }
  | .B => { s with hearths := { s.hearths with roleB := r } }

/-- The ports a hearth owns in Split. -/
def splitPorts : Hth → List Port
  | .A => [0, 1, 2, 3]
  | .B => [4, 5, 6, 7]

/-- Code of a loss cause in LAST_TAKEOVER (Table 16.8). -/
def causeCode : LossCause → Nat
  | .oneSidedMiss => 1 | .knownAnswer => 2 | .flueSource => 3 | .modelOne => 4 | .modelDistance => 5 | .unresolved => 6
  | .host => 7

/-- Record a loss: LAST_TAKEOVER, its time, and the saturating counts (Table 16.8). -/
def State.lossRecord (s : State) (h : Hth) (c : LossCause) (output port : Nat) : State :=
  let s : State := { s with hearths := match h with
    | .A => { s.hearths with lostA := some s.tbase.toNat }
    | .B => { s.hearths with lostB := some s.tbase.toNat } }
  let t := (((s.set F.HTH_LAST_TAKEOVER_output output).set F.HTH_LAST_TAKEOVER_port port).set F.HTH_LAST_TAKEOVER_loser
    (hthBit h)).set F.HTH_LAST_TAKEOVER_cause (causeCode c)
  ((t.set F.HTH_TAKEOVER_TIME_LO_tbase (s.tbase.toNat % 2 ^ 32)).set F.HTH_TAKEOVER_TIME_HI_tbase (s.tbase.toNat / 2 ^ 32)).bumpSat
    F.HTH_COUNTS_losses

/-- The tick of a hearth's last loss. -/
def State.lostAt (s : State) : Hth → Option Nat
  | .A => s.hearths.lostA
  | .B => s.hearths.lostB

/-- The loss of hearth `h` would leave some port with no hearth running it (R352, R369). -/
def State.lastHearth (s : State) (h : Hth) : Bool :=
  match s.hearths.mode with
  | .split => false
  | .solo => s.role h = .solo
  | .mirror => s.role h = .active && s.role h.other ≠ .shadow

/-- The port safe state (Table 17.4): tracking collapses for reason 6 (Table 9.6), and the port is held unattached and enters Error Recovery. One that is disabled stays disabled: it is
held, and its role epoch advances (R163; DEDUCED, log 55). -/
def State.portSafe (s : State) (n : Port) : State :=
  let hold (t : State) (b : Bool) : State := t.modPol n fun p => { p with safeHeld := b }
  if s.get (F.POL_STATUS_typec n) = 0 then (hold s true).advanceEpoch n
  else hold (((hold s false).collapse n 6).errorRecovery n) true

/-- Fence a hearth that holds a role in which it can lose: the role, HTH.SEQ, the event, and in Split the port safe state of
its ports (R351, R352). -/
def State.fenceRole (s : State) (h : Hth) : State :=
  let ev := match h with | .A => F.HTH_EVENT_fenced_a | .B => F.HTH_EVENT_fenced_b
  let t := ((s.setRole h .fenced).set ev 1).roleBump
  if s.hearths.mode = .split then
    let gone := (splitPorts h).foldl (fun m p => bitPut m p.val true) t.draught.gone.toNat
    let t : State := { t with draught := { t.draught with gone := BitVec.ofNat 8 gone } }
    (splitPorts h).foldl (fun t p => t.portSafe p) t
  else t

/-- A copy or mode change under way is abandoned by a loss (R357): the copying hearth returns to Fenced, and the mode before the request
stays in force. -/
def State.copyAbandon (s : State) : State :=
  if s.hearths.goal = none then s
  else
    let dst := s.hearths.source.other
    let t : State := { s with hearths := { s.hearths with goal := none, wait := .nothing } }
    let t := if s.get F.HTH_COPY_STATUS_phase = 0 ∨ s.get F.HTH_COPY_STATUS_phase = 5 then t
      else (t.set F.HTH_COPY_STATUS_phase 6).stop .trial 0
    if s.role dst = .copying then (t.setRole dst .fenced).roleBump else t

/-- The loss of a hearth (R350-R352): a copy is abandoned; the loss is recorded; the loss of the Active hearth with a Shadow is a takeover; a loss that
leaves a port with no hearth is Level 3 (R369); every other loss fences the hearth. HEARTH_LOSS reports it with the cause as
detail (Table 17.2), and with the access that brought it. A hearth that is Off, Fenced or Copying has nothing to lose here. -/
def State.hearthLossBy (s : State) (h : Hth) (c : LossCause) (output port access : Nat) : State :=
  match s.role h with
  | .off | .fenced | .copying => s
  | _ =>
    let m := if 1 ≤ access ∧ access ≤ 4 then 1 else 0
    let r : Report := { tick := s.tbase.toNat, source := 0x59, unit := hthBit h, detail := causeCode c, master := m, access := access }
    let t := (s.copyAbandon.lossRecord h c output port).report 0x59 (hthBit h) (causeCode c) m access
    if s.lastHearth h then t.enterLevel3 r
    else if s.hearths.mode = .mirror ∧ s.role h = .active then
      (((t.setRole h.other .active).fenceRole h).event F.HTH_EVENT_takeover).bumpSat F.HTH_COUNTS_takeovers
    else t.fenceRole h

/-- A loss that the boundary detects. -/
def State.hearthLoss (s : State) (h : Hth) (c : LossCause) (output port : Nat) : State := s.hearthLossBy h c output port 0

/-! ### Records (R364-R368) -/

/-- Replace the record of a group and unit. -/
def recordPut (l : List FlueRecord) (r : FlueRecord) : List FlueRecord :=
  r :: l.filter fun x => !(x.group = r.group && x.unit = r.unit)

/-- The record's Level 2 reaction: the most severe of its sources; for REPORT_PATH, that of the broken source (Table 17.2). -/
def recReact (r : FlueRecord) : React :=
  let of (c : Nat) : React := if c = 0x60 then sourceReact r.unit else sourceReact c
  (r.source :: r.merged).foldl (fun a c => match a, of c with
    | .level0, x => x
    | .level1, .level0 => .level1
    | .level1, x => x
    | a, _ => a) .level0

/-- Apply a Level 2 reaction to a unit (Table 17.4). -/
def State.react (s : State) (a : React) (u : Nat) (rep : Report) : State :=
  match a with
  | .portSafe => s.portSafe (unitPort u)
  | .feedDrop => s.feedDrop u
  | .hearthFence =>
    if rep.source = 0x59 ∨ s.lostAt (unitHearth u) = some rep.tick then s     -- it has been decided already
    else s.hearthLossBy (unitHearth u) (if rep.source = 0x58 then .knownAnswer else .flueSource) 10 0 rep.access
  | .level3 => s.enterLevel3 rep
  | _ => s

/-- The report that stands for a record in its later Ash entries. -/
def State.recReport (s : State) (r : FlueRecord) (master access : Nat) : Report :=
  { tick := s.tbase.toNat, source := r.source, unit := r.unit, detail := r.detail, master := master, access := access, bit := r.bit }

/-- Raise a record to Level 2: reaction, event, FAULT_N by the level itself, and the group's persist timer (Table 17.1). -/
def State.recLevel2 (s : State) (r : FlueRecord) (rep : Report) : State :=
  let r2 : FlueRecord := { r with level := 2 }
  let t : State := { s with flue := { s.flue with records := recordPut s.flue.records r2 } }
  let t := (t.set F.FLU_EVENT_level2 1).traceTrigger (.flue (BitVec.ofNat 8 rep.source) 2)
  let p := s.get (F.FLU_GRACE_persist r.group)
  let t := if p = 0 then t else t.start .persist (recUnit r.group r.unit) (ceilDiv (p * s.tickKhz) 10)
  r.units.foldl (fun t u => t.react (recReact r) u rep) t

/-- A source opens at Level 2: KNOWN_ANSWER, HEARTH_LOSS, HEARTH_RAIL, and EXCH_MISS at the second consecutive miss. -/
def State.opensAt2 (s : State) (c u : Nat) : Bool :=
  c = 0x58 || c = 0x59 || c = 0x5A || 
    (c = 0x5B && 2 ≤ (match unitHearth u with | .A => s.draught.exchA | .B => s.draught.exchB))

/-- Open a record for a report (R364, Table 17.1). -/
def State.recOpen (s : State) (rep : Report) : State :=
  let g := sourceGroup rep.source
  let r : FlueRecord :=
    { group := g, unit := rep.unit, source := rep.source, merged := [], level := 1, merges := 0, serial := s.flue.serial,
      units := [if rep.source = 0x60 then rep.detail else rep.unit], mergeTick := none, detail := rep.detail, bit := rep.bit }
  let at2 := s.opensAt2 rep.source rep.unit
  let t := s.ashWrite rep (if at2 then 2 else 1) 0 0
  let t : State := { t with flue := { t.flue with records := recordPut t.flue.records r } }
  let t := (t.set F.FLU_EVENT_level1 1).bump F.FLU_SEQ_opened
  let gr := s.get (F.FLU_GRACE_grace g)
  if sourceReact rep.source = .level3 then
    let t : State := { t with flue := { t.flue with records := recordPut t.flue.records { r with level := 3 } } }
    t.enterLevel3 rep
  else if at2 then t.recLevel2 r rep
  else if gr = 0 then t
  else t.start .grace (recUnit g rep.unit) (ceilDiv (gr * s.tickKhz) 10)

/-- Merge a report into an open record (R365): the merge count of the record and of its opening entry rise, the quiet time starts
again, and a source that opens higher raises the record at once. One that fences a hearth does so whatever the record's level (R350). -/
def State.recMerge (s : State) (r : FlueRecord) (rep : Report) : State :=
  let m := min 255 (r.merges + 1)
  let r2 : FlueRecord := { r with
    merges := m
    mergeTick := some s.tbase.toNat
    merged := (r.merged.filter fun c => c ≠ rep.source) ++ [rep.source]
    units := if rep.source ≠ 0x60 || r.units.contains rep.detail then r.units else r.units ++ [rep.detail] }
  let t : State := { s with flue := { s.flue with
    records := recordPut s.flue.records r2
    ash := s.flue.ash.map fun e => if e.serial = r.serial then { e with merges := m } else e } }
  let t := t.stop .quiet (recUnit r.group r.unit)
  if s.opensAt2 rep.source rep.unit && r.level < 2 then
    (t.ashWrite (s.recReport r2 rep.master rep.access) 2 m 1).recLevel2 r2 rep
  else if s.opensAt2 rep.source rep.unit then t.react .hearthFence rep.unit rep
  else if sourceReact rep.source = .level3 then t.enterLevel3 rep
  else t

/-- The report comes from a hearth that was Fenced when it made it (R352, R361). -/
def State.fencedMaster (s : State) (rep : Report) : Bool :=
  (rep.master = 2 && s.hearths.roleA = .fenced && s.lostAt .A ≠ some rep.tick) ||
    (rep.master = 3 && s.hearths.roleB = .fenced && s.lostAt .B ≠ some rep.tick)

/-- Take one report (R364-R367): a Level 0 source is logged as R378 kind 4 says; a report of a Fenced hearth is Level 0 only
(R361, R352); any other report opens a record or merges into one. -/
def State.takeReport (s : State) (rep : Report) : State :=
  if sourceReact rep.source = .level0 ∨ s.fencedMaster rep then
    let s := s.traceTrigger (.flue (BitVec.ofNat 8 rep.source) 0)
    if s.flag F.FLU_CONFIG_log_l0 ∨ rep.source = 2 ∨ rep.source = 3 then (s.ashWrite rep 0 0 4).set F.FLU_EVENT_level0 1 else s
  else
    match recordFind s.flue.records (sourceGroup rep.source) rep.unit with
    | some r => (s.traceTrigger (.flue (BitVec.ofNat 8 rep.source) (Fin.ofNat 4 (min 3 r.level)))).recMerge r rep
    | none => (s.traceTrigger (.flue (BitVec.ofNat 8 rep.source) 1)).recOpen rep

/-- The lesser of two reports in the order of R366: earlier tick, then lower source, then lower unit. -/
def reportLt (a b : Report) : Bool :=
  tickBefore a.due b.due || (a.due = b.due && (a.source < b.source || (a.source = b.source && a.unit < b.unit)))

/-- Insert a report behind every report that does not come after it. -/
def reportInsert (r : Report) : List Report → List Report
  | [] => [r]
  | a :: t => if reportLt r a then r :: a :: t else a :: reportInsert r t

/-- The reports that wait, in the order of R366. -/
def reportSort (l : List Report) : List Report := l.foldr reportInsert []

/-- The pair that made a report has changed to asserted by now. -/
def State.presented (s : State) (r : Report) : Bool := !tickBefore s.tbase.toNat r.due

/-- Every report presented by now is taken, in the order of R366: Flue samples every pair on every tick (R361). -/
def State.flueDrain (s : State) : State :=
  (reportSort (s.flue.rails.filter s.presented)).foldl State.takeReport
    { s with flue := { s.flue with rails := s.flue.rails.filter fun r => !s.presented r } }

/-- A device-wide source of Ember reports, and its report is taken on this tick with those that R366 puts before it. -/
def State.reportNow (s : State) (source : Nat) : State := (s.report source 0 0 0 0).flueDrain

/-- The hearth that owns a port in Split is Fenced: the port stays safe (R352). -/
def State.ownerFenced (s : State) (n : Port) : Bool := s.hearths.mode = .split && s.role (s.driver n) = .fenced

/-- Another record at Level 2 or fenced holds a unit by reaction `a`, or a Split fence holds a port safe (R352). -/
def State.heldBy (s : State) (a : React) (u : Nat) : Bool :=
  (s.flue.records.any fun r => r.high && recReact r = a && r.units.contains u) || (a = .portSafe && s.ownerFenced (unitPort u))

/-- Release a port from port safe or port fence: a fenced one is enabled as by command 13, one that Error Recovery has left reaches point
1; while Error Recovery runs it does so at its end. -/
def State.portRelease (s : State) (n : Port) (fenced : Bool) : State :=
  let t := (s.modPol n fun p => { p with safeHeld := false }).outputsRelease n
  if fenced then t.enablePort n
  else if s.get (F.POL_STATUS_typec n) = 0 ∨ s.seqOf n = .recovery then t
  else t.reachPoint1 n

/-- Release what a closed record held (Table 17.4), unless another record holds the same unit; a port whose fence ends while it stays safe
is enabled, and held. -/
def State.reactRelease (s : State) (r : FlueRecord) (u : Nat) : State :=
  if s.heldBy (recReact r) u then
    let fenced : Bool := s.flue.records.any fun x => x.level = 4 && recReact x = .portSafe && x.units.contains u
    if recReact r = .portSafe ∧ r.level = 4 ∧ ¬ fenced then s.enablePort (unitPort u) else s
  else match recReact r with
    | .portSafe => s.portRelease (unitPort u) (r.level = 4)
    | .feedDrop => s.feedRelease u
    | _ => s

/-- Close a record (R375, R376): its timers stop, the entry is written, and the reaction it held is released. -/
def State.recClose (s : State) (r : FlueRecord) (kind master access : Nat) : State :=
  let t := s.ashWrite (s.recReport r master access) r.level r.merges kind
  let t : State := { t with flue := { t.flue with
    records := t.flue.records.filter fun x => !(x.group = r.group && x.unit = r.unit) } }
  let u := recUnit r.group r.unit
  let t := ((t.stop .grace u).stop .persist u).stop .quiet u
  if r.high then r.units.foldl (fun t u => t.reactRelease r u) t else t

/-- Recovery counter of a source: bits [4j+3:4j] of RCVk, for source 8k + j (Table 17.8). -/
def rcvField (c : Nat) : Field := { F.FLU_RCV_counters (min c 111 / 8) with lo := 4 * (min c 111 % 8), width := 4 }

end Sys2Proof.Machine
end

