-- ==== Sys2Proof/Machine/Hearths.lean ====
section
/-! DEFINITION. Hearth modes, fencing, hearth resets and re-admission (chapter 16). -/

namespace Sys2Proof.Machine

/-! ### HTH access -/

/-- A copy or a mode change runs (HTH.STATUS.busy). -/
def State.hthBusy (s : State) : Bool := s.hearths.goal.isSome

/-- HTH command 4, a FORCE of fenced_x and a hearth bit of INJECT are accepted for hearth `h` (R352): in Mirror while the other
hearth is Active or Shadow, in Split, and never for a hearth that is Off, Fenced or Copying. -/
def State.fenceAllowed (s : State) (h : Hth) : Bool :=
  match s.role h with
  | .off | .fenced | .copying => false
  | _ =>
    match s.hearths.mode with
    | .split => true
    | .mirror => s.role h.other = .active || s.role h.other = .shadow
    | .solo => false

/-- A write of HTH.CONTROL: the key is cleared whether or not the write acts (R345, R425); a stale epoch is not acted on, sets
stale_cmd and counts in the Soot stale category of P0 (R344). `act` gets the state and whether the key was held. -/
def State.hthControl (s : State) (epoch : BitVec 8) (act : State → Bool → State) : State :=
  let key : Bool := s.get F.HTH_KEY_key = 0x48
  let t := s.set F.HTH_KEY_key 0
  if epoch.toNat = s.get F.HTH_SEQ_epoch then act t key
  else (t.eventHost F.HTH_EVENT_stale_cmd).soot 0 0

/-- A refused HTH command. -/
def State.hthRefuse (s : State) : State := s.eventHost F.HTH_EVENT_cmd_refused

/-! ### Copying one hearth's content to the other -/

/-- Erase the entries of a copy whose byte address satisfies `p`. -/
def regsDrop (c : Nat) (p : Nat → Bool) : List (Nat × Word) → List (Nat × Word)
  | [] => []
  | (k, w) :: t => if k % 4 = c ∧ p (k / 4) then regsDrop c p t else (k, w) :: regsDrop c p t

/-- Write the entries of copy `c` whose address satisfies `p` into copy `d` of `m`. -/
def regsPour (c d : Nat) (p : Nat → Bool) : List (Nat × Word) → List (Nat × Word) → List (Nat × Word)
  | [], m => m
  | (k, w) :: t, m =>
    regsPour c d p t (if k % 4 = c ∧ p (k / 4) then sparseWrite regDefault m (regKey (k / 4) d) w else m)

/-- Registers of copy `d` made equal to those of copy `c`, where `p` holds of the address. -/
def State.copyRegs (s : State) (c d : Nat) (p : Nat → Bool) : State :=
  { s with regs := regsPour c d p s.regs (regsDrop d p s.regs) }

/-- A register address that a copy carries: every hearth-held page but TRC and the debug pages (R355). -/
def copiedAddr (a : Nat) : Bool := pageOf a ≠ 0x0F && pageOf a < 0x60

/-- The registers of a port's pages. -/
def portAddr (n : Port) (a : Nat) : Bool := 0x20 + 8 * n.val ≤ pageOf a && pageOf a ≤ 0x27 + 8 * n.val

/-- Phase 2 of a copy (Table 16.5): the static tables and every hearth-held register. -/
def State.copyBulk (s : State) (src dst : Hth) : State :=
  let a := s.hearthOf src
  let t := s.putHearth dst { s.hearthOf dst with
    lex := a.lex, phb := a.phb, opct := a.opct, cert0 := a.cert0, cert1 := a.cert1, digest := a.digest }
  t.copyRegs (hthCopy src) (hthCopy dst) copiedAddr

/-- Phase 3 (Table 16.5): the dynamic state, less the trace, which each hearth keeps (R355). The policy, message, loop and scheduler
state that no register shows stands once for every hearth that runs a port. -/
def State.copyDynamic (s : State) (src dst : Hth) : State :=
  let a := s.hearthOf src
  let b := s.hearthOf dst
  let t := s.putHearth dst { a with trace := b.trace, trigger := b.trigger }
  t.copyRegs (hthCopy src) (hthCopy dst) copiedAddr

/-- The four ports that `src` owns, copied into `dst` (Table 16.2, Split to Solo and Split to Mirror). -/
def State.copyPorts (s : State) (src dst : Hth) : State :=
  (splitPorts src).foldl (fun t n => t.copyRegs (hthCopy src) (hthCopy dst) (portAddr n)) s

/-- The copy of the goal under way (Table 16.2): re-admission and bring-up copy all of the source; from Split the ports the other
hearth owns, crossed on the way to Mirror. -/
def State.copyRun (s : State) (f : State → Hth → Hth → State) : State :=
  let src := s.hearths.source
  match s.hearths.goal, s.hearths.mode with
  | none, _ => s
  | some (.mode .mirror _), .split => (s.copyPorts .A .B).copyPorts .B .A
  | some (.mode .solo x), .split => s.copyPorts x.other x
  | some _, _ => f s src src.other

/-! ### Hearth reset (R353) -/

/-- What a hearth reset leaves of a hearth's store (Table 3.8, note a): the OPCT and the trace; everything else at its reset condition,
the tables empty until the seed is loaded. -/
def hearthAfterReset (x : Hearth) : Hearth := { Hearth.empty with opct := x.opct, opctWas := x.opctWas, trace := x.trace }

/-- A register's word after a hearth reset: sticky bits and role epochs are presented again from the snapshot, OTP shadows and Trace Unit
state stay, all else is at reset, counters at 0 (note a). -/
def hearthResetWord (m : List (Nat × Word)) (addr c : Nat) : Word :=
  match regRow addr with
  | some r => restoredWord m (r.sticky ||| r.wake) (r.trace ||| r.otp) r addr c
  | none => sparseRead regDefault m (regKey addr c)

/-- A hearth fails its self-check at step 5 (R57): st_fail and KNOWN_ANSWER. -/
def State.selfcheckFail (s : State) (h : Hth) : State :=
  let t := match h with | .A => s.set F.HTH_STATUS_st_fail_a 1 | .B => s.set F.HTH_STATUS_st_fail_b 1
  t.report 0x58 (hthBit h) 0 (2 + hthBit h) 0

/-- No hearth passes (R57): the device is held at step 5, and a clock stretch ends (R413). -/
def State.heldEnter (s : State) : State := ({ s with ember := { s.ember with dev := .held } } : State).set F.SMB_STATUS_stretch 0

/-- One hearth's content back at its reset condition; where it passes its self-check of step 5, its key is checked and the seeds are loaded
as at its step 6 (R353). A capture that was armed or triggered reads frozen (R273). A Fenced or Copying hearth's logic stands apart from then on. -/
def State.resetHearthContent (s : State) (h : Hth) (pass : Bool) : State :=
  let t := s.putHearth h (hearthAfterReset (s.hearthOf h))
  let t : State := if s.role h = .fenced ∨ s.role h = .copying then { t with apart := some Logic.empty } else t
  let t : State := { t with regs := regsRestore t.regs [hthCopy h] (hearthResetWord t.regs) t.regs }
  let t := if s.trcRuns h then t.setIn [h] F.TRC_STATUS_state 4 else t
  if pass then (t.keyCheckIn [h]).loadSeeds [h] else t.selfcheckFail h

/-- What a port's hearth holds beside its registers, back at its reset condition (note a). -/
def State.resetPortHidden (s : State) (n : Port) : State :=
  let t := ((s.txSilence n).rxStop n).policyTimersStop n
  let t := ((t.stop .errorRecovery n.val).stop .signal n.val).stop .offTime n.val
  { t with
    msg := vmod t.msg n fun _ => MsgPort.empty
    pol := vmod t.pol n fun p => { PolPort.empty with safeHeld := p.safeHeld }
    vdm := vmod t.vdm n fun _ => VdmPort.empty
    thn := vmod t.thn n fun _ => ThnPort.empty
    lp := vmod t.lp n fun l => { LoopPort.empty with
      senLow := l.senLow, uPrev := l.uPrev, capAtI := l.capAtI, uOld := l.uOld,
      cfg := l.cfg, begun := l.begun, sOff := l.sOff, sampled := l.sampled, il := l.il, dv := l.dv }
    fnd := vmod t.fnd n fun _ => FndPort.empty
    inputs := t.inputs.filter fun i => i.port ≠ n
    auth := t.auth.filter fun c => c.port ≠ n
    draught := { t.draught with queue := t.draught.queue.filter fun a => a.port ≠ n } }

/-- Step 5 of a hearth that is reset brings its rail to 0.90 V, one that was switched off too (R86, R353). -/
def State.railStart (s : State) (h : Hth) : State :=
  let t : State := match h with
    | .A => { s with hearths := { s.hearths with offA := false } }
    | .B => { s with hearths := { s.hearths with offB := false } }
  t.setRail h 18

/-- The ports that only hearth `h` runs. -/
def State.onlyRuns (s : State) (h : Hth) (n : Port) : Bool := s.driver n = h && !(s.runsPort h.other n)

/-- A port that the reset of its only hearth has cleared starts again at that hearth's step 6: point 1 as after an enable, and the
activation steps of R154. -/
def State.restartPort (s : State) (n : Port) : State :=
  ((s.modPol n fun p => { p with safeHeld := s.heldBy .portSafe n.val }).enablePort n).lexActivatePort n

/-- What a hearth's reset leaves of the scheduler's ring, committed levels and queue (R302): nothing where it runs every port, and in Split
nothing of its own ports; a local prediction stays in the other hearth's ring. -/
def Draught.afterReset (d : Draught) (mode : HMode) (h : Hth) (own : List Port) : Draught :=
  if own.isEmpty then d
  else if mode = .split then
    { d with preds := (d.preds.filter fun p => !(own.any fun n => p.consumer = n.val) && p.only ≠ some h).map fun p => { p with only := some h.other } }
  else Draught.empty

/-- The ports of a reset hearth where its self-check has failed (R57): in Split they stay disabled, in Solo the other hearth is tried, and
where none passes the device is held. -/
def State.resetFailed (s : State) (h : Hth) (own enabled : List Port) (passOther : Bool) : State :=
  if own.isEmpty then s
  else match s.hearths.mode with
    | .split => ({ s.setRole h .fenced with hearths := { (s.setRole h .fenced).hearths with startFence := true } } : State).roleBump
    | .mirror => s.heldEnter
    | .solo =>
      if passOther then
        let t := ((((s.setRole h .off).setRole h.other .solo).setRail h 0).setRail h.other 18).roleBump
        let t : State := { t with hearths := { t.hearths with startFence := true } }
        enabled.foldl State.restartPort (t.resetHearthContent h.other true)
      else (s.selfcheckFail h.other).heldEnter

/-- The reset of a hearth whose ports, if it has any, no other runs (R353): they first take the port safe state; then what it holds is
reset, and where it passes its self-check its ports start again. -/
def State.soleReset (s : State) (h : Hth) (pass passOther : Bool) : State :=
  let own := (List.finRange 8).filter fun n => s.onlyRuns h n && s.role h ≠ .fenced
  let enabled := own.filter fun n => s.get (F.POL_STATUS_typec n) ≠ 0
  let t := own.foldl State.portSafe s
  let t := t.resetHearthContent h pass
  let t := own.foldl State.resetPortHidden t
  let t : State := { t with draught := t.draught.afterReset s.hearths.mode h own }
  if pass then enabled.foldl State.restartPort t else t.resetFailed h own enabled passOther

/-- A hearth runs every port. -/
def State.runsAll (s : State) (h : Hth) : Bool := (List.finRange 8).all (s.driver · = h) && [Role.solo, .active].contains (s.role h)

/-- ALIVE where no other hearth runs every port (Table 3.7): held at its last level until the hearth that is reset completes step 6, in at
most the 440 µs that Table 3.5 gives steps 5 and 6, and for good where it does not complete it. -/
def State.aliveHold (s : State) (done : Bool) : State :=
  if done then
    { s with
      fresh := s.fresh + 1
      ember := { s.ember with aliveHeld := min (Config.resetTicks s.fresh) (s.us 440) } }
  else { s with ember := { s.ember with aliveOn := false } }

/-- A hearth reset (R353): in Mirror with the other hearth able to carry the ports it is first fenced, by takeover where it is the
Active one; where it alone runs ports they are made safe. Then its content is reset. `pass` and `passOther` are the outcomes of the
self-checks of step 5, the latter where the other hearth is tried (R57). -/
def State.hearthReset (s : State) (h : Hth) (pass passOther : Bool) : State :=
  if s.role h = .off then s
  else
    let t := s.set F.DEV_RESET_CAUSE_cause 4
    if s.hearths.mode = .mirror ∧ s.fenceAllowed h then ((t.hearthLossBy h .host 10 0 1).resetHearthContent h pass).railStart h
    else
      let u := (t.railStart h).soleReset h pass passOther
      if s.runsAll h.other then u else u.aliveHold (pass || passOther && s.hearths.mode = .solo)

/-- HTH reset_a or reset_b (R353): without the key not acted on, with cmd_refused. -/
def State.hearthResetCmd (s : State) (key : Bool) (h : Hth) (pass passOther : Bool) : State :=
  if key then s.hearthReset h pass passOther else s.hthRefuse

/-- A reset bit in a register write, whose self-checks come out as they may. -/
def State.hearthResetBit (s : State) (key : Bool) (h : Hth) : State :=
  ({ s with fresh := s.fresh + 1 } : State).hearthResetCmd key h (Config.selfCheck s.fresh false) (Config.selfCheck s.fresh true)

def execHearthReset (epoch : BitVec 8) (check : HearthCheck) (s : State) : Host.Outcome State Fault Refusal :=
  .next (s.answered 0x0D fun s => s.hthControl epoch fun t key => t.hearthResetCmd key check.hearth check.pass check.passOther)

/-! ### A failed attempt (R356) -/

/-- Roles return to those held before the copy (R356): a re-admitted hearth to Fenced, a mode change to what it found. -/
def State.copyRevert (s : State) : State :=
  match s.hearths.goal with
  | some .readmit => (s.setRole s.hearths.source.other .fenced).roleBump
  | some (.mode _ _) =>
    let changed : Bool := s.hearths.roleA ≠ s.hearths.prevA || s.hearths.roleB ≠ s.hearths.prevB
    let t := (s.setRole .A s.hearths.prevA).setRole .B s.hearths.prevB
    let u := if s.hearths.prevA = .off then t.setRail .A 0 else t
    let u := if s.hearths.prevB = .off then u.setRail .B 0 else u
    if changed then u.roleBump else t
  | none => s

/-- A failed attempt advances attempts and sets copy_restart; it restarts at phase 3 on the next epoch tick. The third gives up: phase 6,
readmit_failed, and the roles return (R356). -/
def State.copyFail (s : State) : State :=
  if s.hearths.goal.isSome ∧ 1 ≤ s.get F.HTH_COPY_STATUS_phase ∧ s.get F.HTH_COPY_STATUS_phase ≤ 4 then
    let a := s.get F.HTH_COPY_STATUS_attempts + 1
    let t := ((s.set F.HTH_COPY_STATUS_attempts a).event F.HTH_EVENT_copy_restart).stop .trial 0
    if 3 ≤ a then
      let t := ((t.set F.HTH_COPY_STATUS_phase 6).event F.HTH_EVENT_readmit_failed).copyRevert
      { t with hearths := { t.hearths with goal := none, wait := .nothing } }
    else { t with hearths := { t.hearths with wait := .restart } }
  else s

/-! ### Known-answer check, fence and power (R350, R352) -/

/-- The known-answer check of a lane of hearth `h` (R350): skipped where the epoch has no idle lane time; a failed one makes the
hearth lose with cause 2, or fails the attempt of a copying hearth (R356). -/
def execKnownAnswerCheck (h : Hth) (idle good : Bool) (s : State) : Host.Outcome State Fault Refusal :=
  .next (
    if !s.powered h then s
    else if !idle then s.bumpSat (F.SELF_kat_skipped h)
    else if good then s
    else
      let t := (s.bumpSat (F.SELF_kat_fail h)).report 0x58 (hthBit h) 0 (2 + hthBit h) 0
      if s.role h = .copying then t.copyFail else t.hearthLoss h .knownAnswer 10 0)

/-! ### The vote on outputs other than those of the loops (R347, R349) -/

/-- Code of a presentation as a hearth commands it. -/
def presCode : Pres → Nat
  | .opened => 0 | .rd => 1 | .rp l => 2 + l.val | .toggle l => 5 + l.val | .ra c => 8 + bn c

/-- The presentation of a code. -/
def presOf (v : Nat) : Pres :=
  if v = 1 then .rd else if 2 ≤ v ∧ v ≤ 4 then .rp (Fin.ofNat 3 (v - 2)) else if 5 ≤ v ∧ v ≤ 7 then .toggle (Fin.ofNat 3 (v - 5))
  else if v = 8 then .ra false else if v = 9 then .ra true else .opened

/-- The value of an output as a sound hearth drives it (R12), by its number in LAST_TAKEOVER: the path-gate, DSCHG, CC and VCONN commands
captured last, the BMC transmitter and the SBU reference, the feed request, the rail target, and the report of this tick. -/
def State.outputValue (s : State) (o : Fin 11) (n : Port) : Nat :=
  let c := s.boundary.ports.get n
  match o.val with
  | 2 => bn c.close
  | 3 => bn c.dschg
  | 4 => presCode c.pres + 16 * bn c.vconn
  | 5 => bn c.bmc
  | 6 => bn (s.refDrive n)
  | 7 => s.feeds.planned
  | 8 => match s.driver n with | .A => s.boundary.railA | .B => s.boundary.railB
  | 9 => match (s.flue.rails.filter fun r => r.tick = s.tbase.toNat && r.master = 2 + hthBit (s.driver n)).getLast? with
    | some r => r.source + 256 * r.unit
    | none => 0
  | _ => 0

/-- A value of the Active hearth that differs is captured as any other: the command it stands for takes effect (R349). What is on the BMC and
SBU lines on a tick no register holds. -/
def State.outputApply (s : State) (o : Fin 11) (n : Port) (v : Nat) : State :=
  match o.val with
  | 2 => if bitOf v 0 then s.closePath n (!s.flag (F.POL_STATUS_power_role n)) else s.openPath n
  | 3 => if bitOf v 0 then s.dschgOn n else s.dschgOff n
  | 4 =>
    let t := s.present n (presOf (v % 16))
    if bitOf v 4 then t.vconnOn n else t.vconnOff n
  | 7 => if v < 4 then s.feedRequest (Fin.ofNat 4 v) else s.noticeDrop
  | 8 => s.railOrder (s.driver n) (min 18 v)
  | 9 => if v = 0 then s else s.report (v % 256) (v / 256 % 256) 0 (2 + hthBit (s.driver n)) 0
  | _ => s

/-- A copied hearth is on trial with a port (R355, R356): the hearth that computes the port's outputs beside the one that drives it. -/
def State.trialHearth (s : State) (n : Port) : Option Hth :=
  if s.get F.HTH_COPY_STATUS_phase = 4 ∧ s.hearths.wait = .nothing then
    match s.hearths.goal, s.hearths.mode with
    | none, _ => none
    | some (.mode .mirror _), .split => some (s.driver n).other
    | some (.mode .solo x), .split => if s.driver n = x then none else some x
    | some _, _ => some s.hearths.source.other
  else none

/-- The voter's decision on an output that hearth `h` drives with value `v` on this tick, every bit compared (R347, R349): in Mirror with an
Active and a Shadow the Shadow loses with cause 6 and the Active's value is applied. A hearth that has already lost on this tick is Fenced by
now, and its value reaches nothing: it is the loser, and no other. A hearth on trial with the port fails the attempt (R356). The same holds of
what the boundary writes into Ember SRAM: it is written once, as the winner has it. -/
def State.outputVote (s : State) (h : Hth) (o : Fin 11) (n : Port) (v : Nat) : State :=
  if v = s.outputValue o n then s
  else if s.trialHearth n = some h then s.copyFail
  else if s.hearths.mode = .mirror ∧ s.role h = .shadow then s.hearthLoss h .unresolved o.val n.val
  else if s.hearths.mode = .mirror ∧ s.role h = .active ∧ s.role h.other = .shadow then
    (s.hearthLoss h.other .unresolved o.val n.val).outputApply o n v
  else s

/-- A hearth is fenced as a loss of the cause given (R351, R352). For an output other than a loop's, cause 6 is the voter's decision on the
value that the hearth drives (R349). -/
def execHearthFence (h : Hth) (cause : LossCause) (output : LostOutput) (port : Port) (s : State) :
    Host.Outcome State Fault Refusal :=
  .next (
    if cause = .unresolved ∧ 2 ≤ output.output.val ∧ output.output.val ≤ 9 then s.outputVote h output.output port output.value.toNat
    else s.hearthLoss h cause output.output.val port.val)

/-- HTH command 4 with the key: the loss of the hearth that arg names, cause 7, or refused (R352). -/
def State.cmdFence (s : State) (key : Bool) (arg : Nat) : State :=
  if arg < 2 ∧ key ∧ s.fenceAllowed (hthOfBit arg) then s.hearthLossBy (hthOfBit arg) .host 10 0 1 else s.hthRefuse

def execHthCmdFence (epoch : BitVec 8) (arg : BitVec 16) (s : State) : Host.Outcome State Fault Refusal :=
  .next (s.answered 0x0D fun s => s.hthControl epoch fun t key => t.cmdFence key arg.toNat)

/-- Switch off the rail of a Fenced hearth; its role stays Fenced (R352). -/
def State.fencePower (s : State) (h : Hth) : State :=
  if s.role h = .fenced ∧ !s.railOff h then
    match h with
    | .A => ({ s with apart := some Logic.empty, hearths := { s.hearths with offA := true } }).set F.HTH_RAIL_code_a 0
    | .B => ({ s with apart := some Logic.empty, hearths := { s.hearths with offB := true } }).set F.HTH_RAIL_code_b 0
  else s

/-- HTH command 3: the Fenced hearth's power goes off at the next epoch tick (R352); refused where none is Fenced. -/
def State.cmdPowerOff (s : State) : State :=
  if s.hearths.roleA = .fenced ∨ s.hearths.roleB = .fenced then
    { s with hearths := { s.hearths with offDue := true, orderTick := some s.tbase.toNat } }
  else s.hthRefuse

def execHthCmdPowerOff (epoch : BitVec 8) (s : State) : Host.Outcome State Fault Refusal :=
  .next (s.answered 0x0D fun s => s.hthControl epoch fun t _ => t.cmdPowerOff)

/-- With VOTE_CFG.fence_off set, or after command 3, a fenced hearth's rail is switched off at the epoch tick (R352). -/
def execFencePowerOff (s : State) : Host.Outcome State Fault Refusal :=
  .next (
    if s.atEpoch ∧ (s.flag F.HTH_VOTE_CFG_fence_off ∨ (s.hearths.offDue ∧ s.hearths.orderTick ≠ some s.tbase.toNat)) then
      let t := (s.fencePower .A).fencePower .B
      { t with hearths := { t.hearths with offDue := false } }
    else s)

/-- HTH command 2: Active and Shadow exchange at the next epoch tick, when neither is degraded (Table 16.8). -/
def State.cmdExchange (s : State) : State :=
  if s.hearths.mode = .mirror ∧ ¬ s.degraded then { s with hearths := { s.hearths with exchange := true } }
  else s.hthRefuse

def execHthCmdExchange (epoch : BitVec 8) (s : State) : Host.Outcome State Fault Refusal :=
  .next (s.answered 0x0D fun s => s.hthControl epoch fun t _ => t.cmdExchange)

/-- The exchange itself, at an epoch tick: the roles change places and HTH.SEQ advances once (R344). -/
def State.exchangeRoles (s : State) : State :=
  if s.hearths.exchange then
    let t : State := { s with hearths := { s.hearths with
      exchange := false, roleA := s.hearths.roleB, roleB := s.hearths.roleA } }
    if s.degraded then { s with hearths := { s.hearths with exchange := false } } else t.roleBump
  else s

/-! ### Re-admission (R354-R357) -/

/-- Bring a hearth up to be copied into: its rail at the source's code, its role Copying (Table 16.5 phase 1). -/
def State.copyBegin (s : State) (goal : CopyGoal) (src : Hth) (phase : Nat) (copying : Bool) : State :=
  let dst := src.other
  let t : State := { s with hearths := { s.hearths with
    goal := some goal, source := src, prevA := s.hearths.roleA, prevB := s.hearths.roleB, wait := .nothing } }
  let t := (t.set F.HTH_COPY_STATUS_phase phase).set F.HTH_COPY_STATUS_attempts 0
  let t := t.set F.HTH_COPY_STATUS_progress 0
  if copying then
    let t : State := match dst with
      | .A => { t with hearths := { t.hearths with offA := false } }
      | .B => { t with hearths := { t.hearths with offB := false } }
    let code := s.railCode src
    ((t.setRole dst .copying).setRail dst code).roleBump
  else t

/-- HTH command 1 (R354): accepted only in Mirror with exactly one hearth Fenced, not busy, outside Kindling and with the key. -/
def State.cmdReadmit (s : State) (key : Bool) : State :=
  let one : Bool := (s.hearths.roleA = .fenced) != (s.hearths.roleB = .fenced)
  if s.hearths.mode = .mirror ∧ one ∧ ¬ s.hthBusy ∧ s.ember.kindling = none ∧ key then s.copyBegin .readmit s.activeHearth 1 true
  else s.hthRefuse

def execHthCmdReadmit (epoch : BitVec 8) (s : State) : Host.Outcome State Fault Refusal :=
  .next (s.answered 0x0D fun s => s.hthControl epoch fun t key => t.cmdReadmit key)

/-- A host write of HTH.CONTROL (Table 16.8): the command, then the reset bits. -/
def State.hthControlWrite (s : State) (v : Word) : State :=
  s.hthControl (BitVec.ofNat 8 (bitsGet v 24 8)) fun t key =>
    let t := match bitsGet v 0 4 with
      | 0 => t
      | 1 => t.cmdReadmit key
      | 2 => t.cmdExchange
      | 3 => t.cmdPowerOff
      | 4 => t.cmdFence key (bitsGet v 8 16)
      | _ => t.hthRefuse
    let t := if bitOf v.toNat 4 then t.hearthResetBit key .A else t
    if bitOf v.toNat 5 then t.hearthResetBit key .B else t

/-- Phase 1 ends (Table 16.5): the copying hearth has run steps 5 and 6 with its self-check and seed load, and the bulk copy
starts; a failed self-check fails the attempt (R356). -/
def execCopyBringupDone (pass : Bool) (s : State) : Host.Outcome State Fault Refusal :=
  .next (
    if s.get F.HTH_COPY_STATUS_phase = 1 ∧ s.hearths.wait = .nothing then
      if pass then (s.resetHearthContent s.hearths.source.other true).set F.HTH_COPY_STATUS_phase 2
      else (s.selfcheckFail s.hearths.source.other).copyFail
    else s)

/-- What the copy under way waits for. -/
def State.copyWait (s : State) (w : CopyWait) : State := { s with hearths := { s.hearths with wait := w } }

/-- Phase 2 ends: the static state has moved, and the hearth waits for the epoch tick (Table 16.5). The words copied, which progress counts
in units of 64, are at most 15,360; how many they are the spec leaves to what the hearth holds. -/
def execCopyBulkDone (s : State) : Host.Outcome State Fault Refusal :=
  .next (
    if s.get F.HTH_COPY_STATUS_phase = 2 ∧ s.hearths.wait = .nothing then
      (({ s with fresh := s.fresh + 1 } : State).copyRun State.copyBulk).set F.HTH_COPY_STATUS_progress (min 240 (Config.bulkUnits s.fresh))
        |>.copyWait .snapshot
    else s)

/-- Phase 3 starts at the first epoch tick after the bulk phase or a failed attempt: the source's dynamic state is captured and loaded,
and the copying hearth's logic stands as the source's does (Table 16.5, R356). -/
def execCopySnapshot (s : State) : Host.Outcome State Fault Refusal :=
  .next (
    if s.atEpoch ∧ (s.hearths.wait = .snapshot ∨ s.hearths.wait = .restart) then
      let t : State := { s with apart := none, hearths := { s.hearths with snapTick := some s.tbase.toNat } }
      (t.copyRun State.copyDynamic).set F.HTH_COPY_STATUS_phase 3 |>.copyWait .nothing
    else s)

/-- The replay buffer, which holds 4 epochs of inputs, has overflowed: replay has not reached the live tick (R356). -/
def State.replayLate (s : State) : Bool :=
  s.get F.HTH_COPY_STATUS_phase = 3 && s.hearths.wait = .nothing && (match s.hearths.snapTick with | some t => 4 * 2048 < s.since t | none => false)

/-- An overflow of the replay buffer fails the attempt (R356). -/
def State.replayWatch (s : State) : State := if s.replayLate then s.copyFail else s

/-- Replay has reached the live tick, and the trial waits for the next epoch tick (Table 16.5), unless the replay buffer has overflowed. -/
def execCopyLiveReached (s : State) : Host.Outcome State Fault Refusal :=
  .next (
    if s.replayLate then s.copyFail
    else if s.get F.HTH_COPY_STATUS_phase = 3 ∧ s.hearths.wait = .nothing then s.copyWait .trial
    else s)

/-- The trial starts at the epoch tick (Table 16.5); it has seen no result yet. -/
def State.trialStart (s : State) : State :=
  if s.hearths.wait = .trial then
    let t : State := { s with hearths := { s.hearths with trialSeen := Vector.replicate 16 0 } }
    ((t.set F.HTH_COPY_STATUS_phase 4).copyWait .nothing).start .trial 0 (s.get F.HTH_VOTE_CFG_trial * 16 * 2048)
  else s

/-- A trial that no inequality and no miss has failed runs to its end, and this is an epoch tick (R356). -/
def State.trialOver (s : State) : Bool :=
  s.atEpoch && s.get F.HTH_COPY_STATUS_phase = 4 && s.hearths.wait = .nothing && s.running .trial 0

/-- What the trial of a copied hearth makes of one loop's latches at its update instant (R355, R356): a miss of the hearth on trial, or a pair
that differs from that of the hearth that drives the port, fails the attempt; each loop's first three results are not compared. -/
def State.trialCheck (s : State) (k : Fin 16) (mine theirs : Option (Int × Int)) : State :=
  let seen := s.hearths.trialSeen.get k
  let t : State := { s with hearths := { s.hearths with trialSeen := s.hearths.trialSeen.set k.val (min 3 (seen + 1)) } }
  match mine, theirs with
  | none, _ => t.copyFail
  | some a, some b => if seen < 3 ∨ a = b then t else t.copyFail
  | some _, none => t

/-- The end of Split ends what a Split fence held: the surviving scheduler takes the records of those ports again, and each port leaves its
port safe state unless a record still holds it (DEDUCED, log 121). -/
def State.splitLeave (s : State) : State :=
  let t : State := { s with draught := { s.draught with gone := 0 } }
  t.allPorts fun t n => if (t.pol.get n).safeHeld ∧ ¬ t.heldBy .portSafe n.val then t.portRelease n false else t

/-- The roles and the mode that a finished goal gives (R356, Table 16.2). Into Mirror the other rail follows the Active's code at the step of
R86, up to which it has risen before (R346). -/
def State.takeRoles (s : State) (m : HMode) (x : Hth) : State :=
  match m with
  | .solo =>
    let t := (s.setRole x .solo).setRole x.other .off
    (({ t with hearths := { t.hearths with mode := .solo } }).setRail x.other 0)
  | .split =>
    let t := (s.setRole .A .owner).setRole .B .owner
    { t with hearths := { t.hearths with mode := .split } }
  | .mirror =>
    let a : Hth := if s.hearths.mode = .split then .A else s.hearths.source
    let t := (s.setRole a .active).setRole a.other .shadow
    { t with hearths := { t.hearths with mode := .mirror } }

/-- The handover of a mode change (R346): the roles, the mode in force, HTH.SEQ, mode_changed; the request is carried out. -/
def State.modeHandover (s : State) : State :=
  match s.hearths.goal with
  | some (.mode m x) =>
    let was := s.hearths.mode
    let t := s.takeRoles m x
    let t : State := { t with hearths := { t.hearths with goal := none } }
    let t := if was = .split then t.splitLeave else t
    (t.roleBump.event F.HTH_EVENT_mode_changed)
  | _ => s

/-- A mode change that copies nothing: Mirror to Solo, and Mirror to Split (Table 16.2). -/
def State.noCopy (s : State) : Bool := s.hearths.mode = .mirror

/-- At the epoch tick after a passing trial, or at the next epoch tick where nothing is copied, ownership moves (R346). -/
def execModeHandover (s : State) : Host.Outcome State Fault Refusal :=
  .next (
    match s.hearths.goal with
    | some (.mode _ _) =>
      if s.noCopy then (if s.atEpoch ∧ s.hearths.orderTick ≠ some s.tbase.toNat then s.modeHandover else s)
      else if s.trialOver then
        ((s.modeHandover.stop .trial 0).event F.HTH_EVENT_readmitted).set F.HTH_COPY_STATUS_phase 5
      else s
    | _ => s)

/-- A record of group HEARTH closes when re-admission completes (Table 17.4). -/
def State.closeHearthRecord (s : State) (h : Hth) : State :=
  match recordFind s.flue.records 10 (hthBit h) with
  | some r => s.recClose r 3 0 0
  | none => s

/-- The end of a passing trial (R356): the copying hearth becomes Shadow, or takes its role of Table 16.2; SEQ advances,
readmitted is set, busy and degraded read 0 and the phase reads 5. -/
def execTrialEnd (s : State) : Host.Outcome State Fault Refusal :=
  .next (
    if s.trialOver then
      match s.hearths.goal with
      | some .readmit =>
        let dst := s.hearths.source.other
        let t := (s.setRole dst .shadow).stop .trial 0
        let t : State := { t with hearths := { t.hearths with goal := none, startFence := false } }
        let t := (t.roleBump.event F.HTH_EVENT_readmitted).set F.HTH_COPY_STATUS_phase 5
        t.closeHearthRecord dst
      | some (.mode _ _) => ((s.modeHandover.stop .trial 0).event F.HTH_EVENT_readmitted).set F.HTH_COPY_STATUS_phase 5
      | none => s
    else s)

/-- An attempt fails (R356). -/
def execCopyAttemptFail (s : State) : Host.Outcome State Fault Refusal := .next s.copyFail

/-- The source loses during a copy (R357): the loss abandons the copy. -/
def execCopySourceLost (cause : LossCause) (s : State) : Host.Outcome State Fault Refusal :=
  .next (if s.hearths.goal = none then s else s.hearthLoss s.hearths.source cause 10 0)

/-! ### Mode requests (R345) -/

/-- A refused mode request: HTH.MODE stays. -/
def State.modeRefuse (s : State) (code : Nat) : State := (s.eventHost F.HTH_EVENT_mode_refused).set F.HTH_STATUS_refuse code

/-- The mode of a request code. -/
def modeOfCode (c : Nat) : HMode := if c = 0 then .solo else if c = 1 then .split else .mirror

/-- The hearths that a mode needs are not available (R345 case 4): Fenced, or failed at their self-check since the last reset. -/
def State.modeLacks (s : State) (m : HMode) (x : Hth) : Bool :=
  let bad (h : Hth) : Bool := s.role h = .fenced ||
    (match h with | .A => s.flag F.HTH_STATUS_st_fail_a | .B => s.flag F.HTH_STATUS_st_fail_b)
  match m with
  | .solo => bad x
  | _ => bad .A || bad .B

/-- The request equals the mode in force (R345). -/
def State.modeSame (s : State) (m : HMode) (x : Hth) : Bool :=
  s.hearths.mode = m && (m ≠ .solo || s.activeHearth = x)

/-- Start an accepted mode change (Table 16.2). -/
def State.modeStart (s : State) (m : HMode) (x : Hth) : State :=
  match s.hearths.mode with
  | .solo => s.copyBegin (.mode m x) s.activeHearth 1 true
  | .split => s.copyBegin (.mode m x) (if m = .solo then x.other else .A) 2 false
  | .mirror => { s with hearths := { s.hearths with goal := some (.mode m x), wait := .nothing, orderTick := some s.tbase.toNat } }

/-- A write of HTH.MODE (R345): the key is cleared; the first case of the table that holds refuses the request; an equal request is
a no-op; otherwise MODE holds the request and the change starts. -/
def State.modeWrite (s : State) (v : Word) : State :=
  let key : Bool := s.get F.HTH_KEY_key = 0x48
  let t := s.set F.HTH_KEY_key 0
  let c := bitsGet v 0 2
  let x := hthOfBit (bitsGet v 4 1)
  if !key then t.modeRefuse 1
  else if t.ember.kindling.isSome then t.modeRefuse 2
  else if t.hthBusy then t.modeRefuse 3
  else if c = 3 then t.modeRefuse 5
  else if t.modeSame (modeOfCode c) x then t
  else if t.modeLacks (modeOfCode c) x then t.modeRefuse 4
  else ((t.set F.HTH_MODE_mode c).set F.HTH_MODE_solo_hearth (hthBit x)).modeStart (modeOfCode c) x

def execHthModeWrite (value : Word) (s : State) : Host.Outcome State Fault Refusal :=
  .next (s.answered 0x0D fun s => s.modeWrite value)

/-- VIEW_SEL (R358): the page to view, or refused with DBG.EVENT.cfg_refused. A hearth that is powered off takes no write. -/
def State.viewSelWrite (s : State) (h : Hth) (v : Word) : State :=
  if !s.powered h then s
  else if hearthHeldPage (bitsGet v 0 8) then s.set (F.DBG_VIEW_SEL h) (bitsGet v 0 8)
  else s.eventHost (F.DBG_EVENT_cfg_refused h)

def execDbgViewSelWrite (h : Hth) (value : Word) (s : State) : Host.Outcome State Fault Refusal :=
  .next (s.answered (dbgPage h 0) fun s => s.viewSelWrite h value)

end Sys2Proof.Machine
end

