-- ==== Sys2Proof/Machine/Vote.lean ====
section
/-! DEFINITION. The update instant of a loop (R19, R20, R84, R243, R251) and the Takeover Voter's decision on it (R347, R348). -/

namespace Sys2Proof.Machine

/-- What a hearth's holding latch holds: nothing where the evaluation is late or was never made, the pair of the evaluation, or the pair a
faulty lane has delivered. -/
def latchPair (r : Option LoopResult) : Latch → Option (Int × Int)
  | .late => none
  | .computed => r.map fun x => (x.y, x.pred)
  | .faulty y p => some (y.toInt, p.toInt)

/-- A hearth evaluates the loops of a port: it is powered and runs the port (Table 16.1), or is on trial with it (Table 16.5 phase 4). -/
def State.evaluates (s : State) (h : Hth) (n : Port) : Bool := s.powered h && (s.runsPort h n || s.trialHearth n = some h)

/-- Number of a loop on the LATCH page: 2n the current loop, 2n + 1 the voltage loop (Table 16.7). -/
def loopNo (n : Port) (volt : Bool) : Nat := 2 * n.val + bn volt

/-- A hearth's LATCH page after an update instant. -/
def State.latchShow (s : State) (h : Hth) (k : Nat) : Option (Int × Int) → State
  | some (y, p) =>
    ((s.set (F.LATCH_LOOP_y h k) (q16 y)).set (F.LATCH_LOOP_y_pred h k) (q16 p)).setBit (F.LATCH_LATE h) k false
  | none => s.setBit (F.LATCH_LATE h) k true

/-- A deadline miss of a hearth (R251): the port's and LEN's event in that hearth, LEN's with its own report (R256),
the Soot count, LEN.MISSES, LOOP_DEADLINE. -/
def State.deadlineMiss (s : State) (h : Hth) (n : Port) (volt : Bool) : State :=
  let ev := if volt then F.STG_EVENT_vl_deadline n else F.ILP_EVENT_deadline n
  let t := ((s.set (ev.inHearth h) 1).eventIn [h] F.LEN_EVENT_deadline 6).bumpSat (F.LEN_MISSES_count.inHearth h)
  let t := (t.soot 4 n).modLp n fun l => { l with missEpoch := s.epochNo + 1 }
  t.report 0x41 n.val 0 (2 + hthBit h) 6 (some (32 * pageOf ev.addr + ev.lo))

/-- A one-sided miss counts for the hearth in the present epoch and on its LATCH page (R348). -/
def State.oneSided (s : State) (h : Hth) : State :=
  let fresh : Bool := s.hearths.missEpoch ≠ s.epochNo
  let a := if fresh then 0 else s.hearths.missA
  let b := if fresh then 0 else s.hearths.missB
  let t : State := { s with hearths := { s.hearths with
    missEpoch := s.epochNo
    missA := (match h with | .A => a + 1 | .B => a)
    missB := (match h with | .A => b | .B => b + 1) } }
  t.bumpSat (F.LATCH_ONE_SIDED h)

/-- One-sided misses of a hearth in the present epoch. -/
def State.oneSidedCount (s : State) (h : Hth) : Nat :=
  match h with | .A => s.hearths.missA | .B => s.hearths.missB

/-- Table 16.3 for two latches that hold pairs: the pair applied is that of `true` for the Active hearth; the loser and cause, if any. -/
def voteBoth (thr : Int) (a b : Int × Int) : Bool × Option (Bool × LossCause) :=
  let d (p : Int × Int) (agreed : Int) : Int := ((p.1 - agreed).natAbs : Int)
  if a = b then (true, none)
  else if a.1 = b.1 then
    if d b b.2 < d a a.2 then (false, some (true, .modelDistance)) else (true, some (false, .modelDistance))
  else if a.2 = b.2 then
    let da := d a a.2
    let db := d b b.2
    if (thr < da) ≠ (thr < db) then
      if thr < da then (false, some (true, .modelOne)) else (true, some (false, .modelOne))
    else if db < da then (false, some (true, .modelDistance))
    else (true, some (false, .modelDistance))
  else (true, some (false, .unresolved))

/-- The voter's decision between the Active hearth `x` and the Shadow (R347, R348): the value applied, and the state with what a loser
loses. -/
def State.vote (s : State) (n : Port) (volt : Bool) (x : Hth) (la lb : Option (Int × Int)) : Option Int × State :=
  let out := bn volt
  match la, lb with
  | none, none => (none, s)
  | some p, none =>
    let t := s.oneSided x.other
    (some p.1, if s.get F.HTH_VOTE_CFG_miss_tol < t.oneSidedCount x.other then t.hearthLoss x.other .oneSidedMiss out n.val else t)
  | none, some p =>
    let t := s.oneSided x
    (some p.1, if s.get F.HTH_VOTE_CFG_miss_tol < t.oneSidedCount x then t.hearthLoss x .oneSidedMiss out n.val else t)
  | some p, some q =>
    let (act, lost) := voteBoth (s.thrEff n volt) p q
    (some (if act then p.1 else q.1),
      match lost with
      | some (active, c) => s.hearthLoss (if active then x else x.other) c out n.val
      | none => s)

/-- The result whose error and feed-forward the write-back uses (R246): that of the last evaluation of this sample, or what the sample gives
where no evaluation was made. -/
def State.sampleResult (s : State) (n : Port) (volt : Bool) : LoopResult :=
  let l := s.lp.get n
  if volt then
    match l.resV with
    | some r => r
    | none =>
      { LoopResult.zero with
        e0 := l.vs.e0, lo := l.vs.cfg.voltLo l.vs.rev, hi := l.vs.cfg.qOfLimit (s.get (F.ILP_LIMIT_STATUS_ilim n)) }
  else
    match l.resI with
    | some r => r
    | none => { LoopResult.zero with e0 := sat16 (l.iRef - s.iL n), ff := s.ffI n, lo := s.uMin n, hi := s.uMax n }

/-- A voltage-loop output captured (R20): the reference of the inner loop and its clamp bits. -/
def State.captureVolt (s : State) (n : Port) (r : LoopResult) (y : Int) : State :=
  let t := (s.modLp n fun l => { l with capV := some { r with y := y }, resV := none, yOld := s.vOut n, capAtV := some s.tbase.toNat }).set (F.STG_VLOOP_STATUS_y n) (q16 y)
  (t.setB (F.STG_STATUS_vclamp_lo n) (y ≤ r.lo)).setB (F.STG_STATUS_vclamp_hi n) (r.hi ≤ y)

/-- A current-loop output captured (R243): the ratio command, whose duty pair the next period start takes, and its clamp bits. -/
def State.captureCurrent (s : State) (n : Port) (r : LoopResult) (y : Int) : State :=
  let t := s.modLp n fun l => { l with
    capI := some { r with y := y }, resI := none, uPrev := y, uOld := l.uPrev, capAtI := some s.tbase.toNat }
  ((t.set (F.ILP_STATUS_u n) (q16 y)).setB (F.ILP_STATUS_clamp_lo n) (y ≤ r.lo)).setB (F.ILP_STATUS_clamp_hi n) (r.hi ≤ y)

/-- A hearth whose lane is faulty has a result of its own, which its residual and its trace nodes show (R267, R271). -/
def State.ownResult (s : State) (h : Hth) (n : Port) (volt : Bool) (latch : Latch) : State :=
  match latch with
  | .faulty y p =>
    let put (r : LoopResult) : LoopResult := { r with y := y.toInt, pred := p.toInt }
    let both (a : LoopResult × LoopResult) : LoopResult × LoopResult := match h with | .A => (put a.1, a.2) | .B => (a.1, put a.2)
    let t := s.modLp n fun l => if volt then { l with lastV := both l.lastV } else { l with lastI := both l.lastI }
    t.setIn [h] (if volt then F.OPC_RESID_r_v n.val else F.OPC_RESID_r_i n.val) (q16 (sat16 (y.toInt - p.toInt)))
  | _ => s

/-- A loop's output stays as it was (R19); the write-back returns it (R246). -/
def State.keepOutput (s : State) (n : Port) (volt : Bool) (r : LoopResult) : State :=
  let now := some s.tbase.toNat
  if volt then s.modLp n fun l => { l with capV := some { r with y := s.vOut n }, resV := none, yOld := s.vOut n, capAtV := now }
  else s.modLp n fun l =>
    { l with capI := some { r with y := l.uPrev }, resI := none, uOld := l.uPrev, capAtI := now }

/-- The update instant of a loop: each hearth that runs the port shows what its latch holds and reports a miss; in Mirror with Active and
Shadow the voter decides, otherwise the driving hearth's result is captured; without one the previous output stays. A hearth on trial with the port
is compared (R356). The result of a stage
that has stopped or faulted is discarded (R234). -/
def State.updateInstant (s : State) (n : Port) (volt : Bool) (a b : Latch) : State :=
  let s := (s.lanesPass n volt).modLp n fun l => if volt then { l with dueV := none } else { l with dueI := none }
  if ¬ s.loopsOn n then s.modLp n fun l => if volt then { l with resV := none } else { l with resI := none }
  else
    let r := s.sampleResult n volt
    let res := if volt then (s.lp.get n).resV else (s.lp.get n).resI
    let latch (h : Hth) : Option (Int × Int) := latchPair res (match h with | .A => a | .B => b)
    let t := [Hth.A, Hth.B].foldl (fun t h =>
      if s.evaluates h n then
        let u := (t.latchShow h (loopNo n volt) (latch h)).ownResult h n volt (match h with | .A => a | .B => b)
        if (latch h).isNone then u.deadlineMiss h n volt else u
      else t) s
    let x := s.driver n
    let (y, t) :=
      if s.hearths.mode = .mirror ∧ s.role x = .active ∧ s.role x.other = .shadow then t.vote n volt x (latch x) (latch x.other)
      else ((latch x).map (·.1), t)
    let t := match s.trialHearth n with
      | some h => t.trialCheck (Fin.ofNat 16 (loopNo n volt)) (latch h) (latch x)
      | none => t
    match y with
    | some y => if volt then t.captureVolt n r y else t.captureCurrent n r y
    | none => t.keepOutput n volt r

/-- The tick of a loop's update instant (R84, R237). -/
def State.updateDue (s : State) (n : Port) (volt : Bool) : Bool :=
  (if volt then (s.lp.get n).dueV else (s.lp.get n).dueI) = some s.tbase.toNat

/-- On a tick that is no update instant of the loop nothing is captured. -/
def execUpdateInstant (n : Port) (volt : Bool) (a b : Latch) (s : State) : Host.Outcome State Fault Refusal :=
  .next (if s.updateDue n volt then s.updateInstant n volt a b else s)

end Sys2Proof.Machine
end

