-- ==== Sys2Proof/Machine/TimeBase.lean ====
section
/-! DEFINITION. The common time base (chapter 4): reference changeovers, the coarse calibration, carriers, phases, frame lock, and
the capacity figures of the hearths. -/

namespace Sys2Proof.Machine

/-! ### Reference sources (R68-R71) -/

/-- A change of the source that supplies the ticks: ref_src, ref_change, SEQ, and every running timer rescaled (R69-R71). -/
def State.changeSource (s : State) (src : Nat) : State :=
  let old := s.tickKhz
  let t := s.set F.TB_STATUS_ref_src src
  let t := (t.event F.TB_EVENT_ref_change).bump F.TB_SEQ_changes
  t.rescale old t.tickKhz

/-- A measured frequency lies within 2 % of the declared one (R69). -/
def State.inRefWindow (s : State) (khz : Nat) : Bool :=
  let d := s.get F.TB_CONFIG_ref_khz
  98 * d ≤ 100 * khz && 100 * khz ≤ 102 * d

/-- An epoch tick, at which a qualified source takes over from the internal oscillator (R69). -/
def State.refTake (s : State) : State :=
  if s.atEpoch ∧ s.get F.TB_STATUS_ref_src = 2 ∧ s.flag F.TB_STATUS_qualified then
    s.changeSource (s.get F.TB_CONFIG_ref_sel)
  else s

/-- The selected source has qualified at `khz`; at the next epoch tick the ticks change over to it (R69). -/
def execRefChangeover (khz : Nat) (s : State) : Host.Outcome State Fault Refusal :=
  .next (
    if s.get F.TB_STATUS_ref_src = 2 ∧ s.inRefWindow khz then ((s.set F.TB_REF_MEAS_khz khz).set F.TB_STATUS_qualified 1).refTake
    else s)

/-- The selected reference is lost: the internal oscillator takes over at once and REFCLK_LOST is reported (R70). A source that only waits
for the epoch tick has to qualify again. -/
def execRefLost (s : State) : Host.Outcome State Fault Refusal :=
  .next (
    if s.get F.TB_STATUS_ref_src ≠ 2 then
      ((s.set F.TB_STATUS_qualified 0).event F.TB_EVENT_ref_lost).changeSource 2
    else s.set F.TB_STATUS_qualified 0)

/-- N of port `n`. -/
def State.nDiv (s : State) (n : Port) : Nat := s.get (F.STG_CARRIER_n_div n)

/-- f_sw = khz / N above 1.25 MHz (R74). -/
def tooFast (khz n : Nat) : Bool := 1250 * n < khz

/-- Some port's carrier or update offset does not fit a declared frequency (R75). -/
def State.khzUnfit (s : State) (khz : Nat) : Bool :=
  (List.finRange 8).any fun n =>
    tooFast khz (s.nDiv n) || s.get (F.STG_TIMING_i_upd n) < minOffset khz || s.get (F.STG_TIMING_v_upd n) < minOffset khz

/-- A write of TB.CONFIG (R75, R434): refused whole where a field is out of range or a changed ref_khz does not fit; a ref_khz of 0 is
left unchanged. A new selection gives the ticks back to the internal oscillator until it has qualified (R70). -/
def State.tbConfigWrite (s : State) (v : Word) : State :=
  let khz := bitsGet v 16 16
  let port := bitsGet v 8 3
  let sel := bitsGet v 0 2
  let newKhz := if khz = 0 then s.get F.TB_CONFIG_ref_khz else khz
  if (khz ≠ 0 ∧ (khz < 12000 ∨ 50000 < khz)) ∨ 2 ≤ sel ∨ (newKhz ≠ s.get F.TB_CONFIG_ref_khz ∧ s.khzUnfit newKhz) then
    s.eventHost F.TB_EVENT_cfg_refused
  else
    let other : Bool := sel ≠ s.get F.TB_CONFIG_ref_sel || (sel = 1 && port ≠ s.get F.TB_CONFIG_ref_port)
    let t := if other ∧ s.get F.TB_STATUS_ref_src ≠ 2 then (s.set F.TB_STATUS_qualified 0).changeSource 2
      else if other then s.set F.TB_STATUS_qualified 0 else s
    ((t.set F.TB_CONFIG_ref_khz newKhz).set F.TB_CONFIG_ref_port port).set F.TB_CONFIG_ref_sel sel

def execTbConfigWrite (value : Word) (s : State) : Host.Outcome State Fault Refusal :=
  .next (s.answered 2 fun s => s.tbConfigWrite value)

/-- What port `n` keeps beside its CARRIER register, changed by `f`. -/
def State.modCarrier (s : State) (n : Port) (f : Carrier → Carrier) : State :=
  { s with tb := { s.tb with carriers := s.tb.carriers.set n.val (f (s.tb.carriers.get n)) n.isLt } }

/-- The phase that a port's next period is to have (R77). Between a change of CARRIER and the next epoch tick it is the automatic phase found
last (DESIGN CHOICE, log 114). -/
def State.phaseDue (s : State) (n : Port) : Nat :=
  if s.flag (F.STG_CARRIER_auto n) then (s.tb.carriers.get n).auto else s.get (F.STG_CARRIER_phase n)

/-- N and the phase take effect. -/
def State.carrierNow (s : State) (n : Port) : State :=
  (s.modCarrier n fun c => { c with nEff := s.nDiv n }).set (F.STG_CARRIER_phase_eff n) (s.phaseDue n)

/-- A change of N or of the phase: at once on a port that is not switching, otherwise at its next period start (R78). -/
def State.carrierTake (s : State) (n : Port) : State := if (s.lp.get n).switching then s else s.carrierNow n

/-- At step 6 each port that the declared frequency does not fit, by its carrier or by an offset, takes the smallest N that R74 accepts, with
cfg_refused; the offset is applied at its least value (R75). -/
def State.fitCarriers (s : State) : State :=
  let khz := s.get F.TB_CONFIG_ref_khz
  s.allPorts fun t n =>
    let slow : Bool := t.get (F.STG_TIMING_i_upd n) < minOffset khz || t.get (F.STG_TIMING_v_upd n) < minOffset khz
    let t := if tooFast khz (t.nDiv n) || slow then
        (t.set (F.STG_CARRIER_n_div n) (max 20 (ceilDiv khz 1250))).event (F.STG_EVENT_cfg_refused n)
      else t
    t.carrierNow n

/-! ### TBASE and the coarse counter (R72, R73) -/

/-- A read of TB.TBASE_LO (R72): TBASE[31:0] is returned and TBASE[47:32] latched into TBASE_HI. -/
def State.tbaseLoRead (s : State) : State :=
  (s.set F.TB_TBASE_HI_tbase (s.tbase.toNat / 2 ^ 32)).returnWord (BitVec.ofNat 32 s.tbase.toNat)

def execTbaseLoRead (s : State) : Host.Outcome State Fault Refusal := .next (s.answered 2 State.tbaseLoRead)

/-- The coarse counter is calibrated in Lit while a qualified reference supplies the ticks (R73): `ticks` reference ticks in 32,768
coarse ticks, as Q16.16 ticks per coarse tick. -/
def execCoarseCalibration (ticks : Nat) (s : State) : Host.Outcome State Fault Refusal :=
  .next (
    if s.ember.dev = .lit ∧ s.get F.TB_STATUS_ref_src ≠ 2 ∧ s.flag F.TB_STATUS_qualified then
      (s.set F.TB_COARSE_CAL_ratio (2 * ticks)).set F.TB_STATUS_cal_valid 1
    else s)

/-! ### Carriers and phases (R74-R78) -/

/-- The lock period L (R80). -/
def State.lockPeriod (s : State) : Nat := s.get F.TB_SYNC_CFG_frame_ticks * s.get F.TB_SYNC_CFG_frames

/-- Port `n` asks to take part in the frame lock and cannot, since N does not divide L (R80). -/
def State.lockRefused (s : State) (n : Port) : Bool :=
  s.flag (F.STG_CARRIER_lock n) && s.get F.TB_SYNC_CFG_frame_ticks ≠ 0 && s.lockPeriod % s.nDiv n ≠ 0

/-- Every port's lock_refused as R80 gives it. -/
def State.lockChecks (s : State) : State :=
  (List.finRange 8).foldl (fun t n => t.setB (F.STG_STATUS_lock_refused n) (t.lockRefused n)) s

/-- A write of STG[n].CARRIER (R74, R253): N outside 20-98, f_sw above 1.25 MHz, or a fixed phase at or above N refuses it whole. An N of
0 is left unchanged. A running port takes the change at a period start (R78). -/
def State.carrierWrite (s : State) (n : Port) (v : Word) : State :=
  let nd := bitsGet v 0 7
  let newN := if nd = 0 then s.nDiv n else nd
  let phase := bitsGet v 8 7
  let auto := bitsGet v 24 1
  let lock := bitsGet v 25 1
  if newN < 20 ∨ 98 < newN ∨ tooFast (s.get F.TB_CONFIG_ref_khz) newN ∨ (auto = 0 ∧ newN ≤ phase) then
    s.eventHost (F.STG_EVENT_cfg_refused n)
  else
    let t := (((s.set (F.STG_CARRIER_n_div n) newN).set (F.STG_CARRIER_phase n) phase).set (F.STG_CARRIER_auto n) auto).set
      (F.STG_CARRIER_lock n) lock
    (t.carrierTake n).lockChecks

def execCarrierWrite (n : Port) (value : Word) (s : State) : Host.Outcome State Fault Refusal :=
  .next (s.answered (portPage n 4) fun s => s.carrierWrite n value)

/-- A port of the group of ports whose phases are automatic and whose N is `nd` (R77). -/
def State.inGroup (s : State) (nd : Nat) (n : Port) : Bool :=
  s.flag (F.STG_CARRIER_auto n) && s.nDiv n = nd && s.get (F.POL_STATUS_typec n) ≠ 0

/-- Automatic phases (R77): rank r of m ports of equal N gets floor(r x N / m), at an epoch tick. -/
def State.autoPhases (s : State) : State :=
  s.allPorts fun t n =>
    let g := (List.finRange 8).filter fun p => s.inGroup (s.nDiv n) p
    let r := (g.filter fun p => p.val < n.val).length
    if s.inGroup (s.nDiv n) n then (t.modCarrier n fun c => { c with auto := r * s.nDiv n / g.length }).carrierTake n else t

def execAutoPhaseRecompute (s : State) : Host.Outcome State Fault Refusal := .next (if s.atEpoch then s.autoPhases else s)

/-- Port `n` takes part in the frame lock that is held (R80). -/
def State.inLock (s : State) (n : Port) : Bool :=
  s.flag F.TB_STATUS_lock && s.flag (F.STG_CARRIER_lock n) && s.lockPeriod % s.nDiv n = 0

/-- One tick of an effective anchor towards its target (R81): A for a port in the lock, 0 for any other, by the nearer way round modulo
N; no move while no lock is held. Where both ways are equally long, it moves up: the spec names no way (DESIGN CHOICE, log entry 67). -/
def State.anchorStep (s : State) (n : Port) : Int :=
  let c := s.tb.carriers.get n
  if !s.flag F.TB_STATUS_lock then c.anchor
  else
    let target : Int := if s.inLock n then s.tb.anchor else 0
    let d := (target - c.anchor) % (max 1 (s.nDiv n) : Nat)     -- distance upwards, modulo N
    if d = 0 then c.anchor else if 2 * d ≤ s.nDiv n then c.anchor + 1 else c.anchor - 1

/-- N or the phase changes with the next period (R78). -/
def State.carrierChanges (s : State) (n : Port) : Bool :=
  (s.tb.carriers.get n).nEff ≠ s.nDiv n || s.get (F.STG_CARRIER_phase_eff n) ≠ s.phaseDue n

/-- The relation of R76 holds on tick `t` for the next period, with the anchor as it then stands. -/
def State.startAligned (s : State) (n : Port) (t : Int) : Bool :=
  (t - s.anchorStep n - s.phaseDue n) % (max 1 (s.nDiv n) : Nat) = 0

/-- The shortest length that the period under way may have: one tick less than N while the anchor moves (R81), and not less than either N
where N or the phase changes (R78). -/
def State.periodLeast (s : State) (n : Port) : Nat :=
  if s.carrierChanges n then max (s.tb.carriers.get n).nEff (s.nDiv n) else s.nDiv n - 1

/-- A period of the carrier starts on this tick (R76, R78, R81). -/
def State.periodDue (s : State) (n : Port) : Bool :=
  s.startAligned n s.tbase.toNat &&
    (match (s.tb.carriers.get n).lastStart with
     | some b => decide (s.periodLeast n ≤ s.since b)
     | none => true)

/-- The length of the period under way, stretched where N or the phase changes with the next one (R78). -/
def State.periodTicks (s : State) (n : Port) : Nat :=
  let c := s.tb.carriers.get n
  match c.lastStart with
  | some b =>
    if s.carrierChanges n then
      let m := max c.nEff (s.nDiv n)
      let x : Int := (b : Int) + m
      m + ((s.anchorStep n + s.phaseDue n - x) % (max 1 (s.nDiv n) : Nat)).toNat
    else c.nEff
  | none => c.nEff

/-- A carrier's period start (R76, R78, R81): the effective anchor moves one tick, N takes effect, Pn_SEN goes low behind a
stop (R233), Dv is that of the period (R238), and a stage that runs switches with the duty pair of the ratio command of the last update instant before this
tick (R20, R243), which the Stage Interface holds within the duty range of the period's own N (R232, R351). -/
def State.periodStart (s : State) (n : Port) : State :=
  let t := (s.modCarrier n fun c => { c with anchor := s.anchorStep n, lastStart := some s.tbase.toNat }).carrierNow n
  let t := t.modLp n fun l => { l with dv := s.dvOf n, sOff := l.begun.cfg.sOff }
  let t := if (t.lp.get n).senLow then (t.set (F.STG_STATUS_sen n) 0).modLp n fun l => { l with senLow := false } else t
  if t.get (F.STG_STATUS_state n) = 2 ∧ ¬ (t.lp.get n).tripHold then
    let l := t.lp.get n
    let t := t.modLp n fun l => { l with switching := true }
    let y := if l.capAtI = some s.tbase.toNat then l.uOld else l.uPrev
    let u := clampInt (t.uMin n) (t.uMax n) y
    let t := (t.set (F.ILP_DUTY_da_sub n) (dutyA (t.periodSub n) l.cfg.minPulse u)).set (F.ILP_DUTY_dbl_sub n) (dutyB (t.periodSub n) l.cfg.minPulse u)
    t.setB (F.STG_STATUS_region n) (4096 < y)
  else t

/-- On a tick on which no period of the port starts, nothing happens. -/
def execSwitchingPeriodStart (n : Port) (s : State) : Host.Outcome State Fault Refusal :=
  .next (if s.periodDue n then s.periodStart n else s)

/-- A boundary of the period that CFG names for comparator `k` falls on this tick (R339): a period start or a voltage-loop sample instant of
the port that idx names, P0 for the inputs of no port, or an epoch tick. -/
def State.cmpPeriod (s : State) (k : Fin 64) : Bool :=
  let n : Port := if 4 ≤ s.get (cmpCfg F.CMP_CFG_input k) then 0 else Fin.ofNat 8 (s.get (cmpCfg F.CMP_CFG_idx k))
  match s.get (cmpCfg F.CMP_CFG_period k) with
  | 1 => s.periodDue n || (s.tb.carriers.get n).lastStart = some s.tbase.toNat
  | 2 => s.sampleDue n && decide (s.periodNo n % ((s.lp.get n).dv : Int) = 0)
  | 3 => s.atEpoch
  | _ => false

/-- At such a boundary the latch clears where STATUS shows no violation and none has passed the filter on this tick (R339). -/
def State.cmpBoundary (s : State) (k : Fin 64) : State :=
  if s.cmpPeriod k ∧ ¬ s.flag (cmpBit F.CMP_STATUS_live k) ∧ ¬ s.cmpJust k.val then s.cmpFall k else s

def execComparatorLatchClear (k : Fin 64) (s : State) : Host.Outcome State Fault Refusal := .next (s.cmpBoundary k)

/-! ### Frame lock (R79-R81) -/

/-- The whole frames between the edge counted last and tick `e`, to the nearest, half a frame not counting (R80): an edge between two frame
edges ends no frame. -/
def State.framesTo (s : State) (e : Nat) : Nat :=
  let ft := s.get F.TB_SYNC_CFG_frame_ticks
  match s.tb.frameEdge with
  | some b => ((BitVec.ofNat 48 e - BitVec.ofNat 48 b : Tick).toNat + (ft - 1) / 2) / max 1 ft
  | none => 1

/-- The frame edges up to tick `e` are counted (R80): `frames` is then the place of `e` in the lock period, 0 a whole number of lock periods
after the last anchor. -/
def State.frameCount (s : State) (e : Nat) : State :=
  let k := s.framesTo e
  if k = 0 then s
  else { s with tb := { s.tb with
    frameEdge := some e, frames := (s.tb.frames + k) % max 1 (s.get F.TB_SYNC_CFG_frames) } }

/-- A frame that was not good (R79): the fourth in a row loses the lock, which leaves every anchor where it stands (R81). -/
def State.frameBad (s : State) : State :=
  let t : State := { s with tb := { s.tb with bad := s.tb.bad + 1 } }
  let t := t.set F.TB_FRAME_MEAS_good 0
  if s.flag F.TB_STATUS_lock ∧ 4 ≤ s.tb.bad + 1 then (t.set F.TB_STATUS_lock 0).event F.TB_EVENT_sync_lost else t

/-- A good frame (R79, R80): the eighth in a row declares the lock with A at its edge; while locked, an edge
a whole number of lock periods after the last anchor re-anchors A. -/
def State.frameGood (s : State) : State :=
  let g := s.get F.TB_FRAME_MEAS_good
  let t : State := { s with tb := { s.tb with bad := 0 } }
  let t := t.set F.TB_FRAME_MEAS_good (min 255 (g + 1))
  let anchored (t : State) : State :=
    ({ t with tb := { t.tb with anchor := s.tbase.toNat, frameEdge := some s.tbase.toNat, frames := 0 } }).set F.TB_ANCHOR_a (s.tbase.toNat % 2 ^ 32)
  if ¬ s.flag F.TB_STATUS_lock then
    if 8 ≤ g + 1 then ((anchored t).set F.TB_STATUS_lock 1).event F.TB_EVENT_sync_lock else t
  else if s.tb.frames = 0 ∧ s.tb.frameEdge = some s.tbase.toNat then anchored t
  else t

/-- A rising SYNC_IN edge is timestamped and its frame judged within one tick of frame_ticks (R79); a frame_ticks of 0 disables
locking. -/
def State.syncEdge (s : State) : State :=
  let t : State := { s with tb := { s.tb with lastEdge := some s.tbase.toNat } }
  match s.tb.lastEdge with
  | none => t
  | some e =>
    let len := (s.tbase - BitVec.ofNat 48 e).toNat
    let t := t.set F.TB_FRAME_MEAS_len (min 0xFFFF len)
    let ft := s.get F.TB_SYNC_CFG_frame_ticks
    if ft = 0 then t
    else if len ≤ ft + 1 ∧ ft ≤ len + 1 then (t.frameCount s.tbase.toNat).frameGood
    else (t.frameCount s.tbase.toNat).frameBad

def execSyncInEdge (s : State) : Host.Outcome State Fault Refusal := .next s.syncEdge

/-- An expected edge does not arrive: a frame that is not good (R79). The next frame is measured from where the edge was due. -/
def execSyncFrameMissing (s : State) : Host.Outcome State Fault Refusal :=
  .next (
    match s.tb.lastEdge with
    | some e =>
      if s.get F.TB_SYNC_CFG_frame_ticks = 0 then s
      else
        let due := (e + s.get F.TB_SYNC_CFG_frame_ticks) % 2 ^ 48
        (({ s with tb := { s.tb with lastEdge := some due } } : State).frameCount due).frameBad
    | none => s)

/-! ### Capacity (R85, R14, R460) -/

/-- Evaluations per microsecond per lane in Q8.8, rounded down, for the slowest evaluation time in ns; at most 260 ns (R85, R460). -/
def capOf (ns : Nat) : Nat := min 0xFFFF (256000 / max 1 (min 260 ns))

/-- The capacity figure that a hearth's scheduler uses (R14): in Mirror with a Shadow the lower of the two, otherwise its own. -/
def State.capUsed (s : State) (h : Hth) : Nat :=
  let a := s.get (F.LEN_CAPACITY_cap.inHearth .A)
  let b := s.get (F.LEN_CAPACITY_cap.inHearth .B)
  if (s.hearths.roleA = .active ∧ s.hearths.roleB = .shadow) ∨ (s.hearths.roleA = .shadow ∧ s.hearths.roleB = .active) then
    min a b
  else match h with | .A => a | .B => b

/-- At an epoch tick each powered hearth writes its slowest evaluation rate, and the figures are exchanged (R85, R14). -/
def execCapacityMeasure (nsA nsB : Nat) (s : State) : Host.Outcome State Fault Refusal :=
  .next (if !s.atEpoch then s else
    let put (t : State) (h : Hth) (ns : Nat) : State :=
      if s.powered h then (t.set (F.LEN_CAPACITY_cap.inHearth h) (capOf ns)).set (F.SELF_cap h) (capOf ns) else t
    let t := put (put s .A nsA) .B nsB
    let use (u : State) (h : Hth) : State :=
      if s.powered h then u.set (F.LEN_CAPACITY_cap_used.inHearth h) (t.capUsed h) else u
    use (use t .A) .B)

end Sys2Proof.Machine
end

