-- ==== Sys2Proof/Machine/Power.lean ====
section
/-! DEFINITION. Supplies, power states, start-up, Kindling and the reset kinds (chapter 3). -/

namespace Sys2Proof.Machine

/-! ### Persistence (Table 3.8) -/

/-- A register's word in a copy after a reset: what Ember holds is presented again from the snapshot, to a hearth that did not run as well
as to one that did (R53, Table 3.5 step 6). -/
def resetWordOf (kind : ResetKind) (m : List (Nat × Word)) (addr c : Nat) : Word :=
  match regRow addr with
  | some r => restoredWord m (keepMask kind r &&& (r.sticky ||| r.wake)) (keepMask kind r) r addr c
  | none => 0

/-- Every register after a reset, in canonical form. -/
def regsReset (kind : ResetKind) (m : List (Nat × Word)) : List (Nat × Word) := regsRestore m [0, 1, 2, 3] (resetWordOf kind m) []

/-- The registers with counter-class bits (R26): byte address, home and mask. -/
def counterRegs : List (Nat × Home × Nat) :=
  [ (0x0738, .dev, 0xFFFFFFFF), (0x0E2C, .dev, 0xFFFFFFFF), (0x0E30, .dev, 0xFFFFFFFF), (0x0D38, .single, 0xFFFFFFFF),
    (0x0534, .single, 0xFFFFFFFF), (0x0628, .single, 0xFFFFFFFF), (0x0304, .single, 0xF000),
    (0x6264, .own .A, 0xFFFFFFFF), (0x6864, .own .B, 0xFFFFFFFF), (0x642C, .own .A, 0xFFFFFF), (0x6A2C, .own .B, 0xFFFFFF) ]

/-- The counter save (R26): what a read of each counter-class register returns at the reset; a debug page of a hearth that is powered off
reads 0 (R358). -/
def State.counterSave (s : State) : List (Nat × Word) :=
  counterRegs.map fun c =>
    let w : Word := match c.2.1 with
      | .own h => if s.powered h then s.word c.1 (hthCopy h) else 0
      | home => s.word c.1 (s.copyOf home)
    (c.1, w &&& BitVec.ofNat 32 c.2.2)

/-- At step 6 the saved counters are presented again, in every copy (R26). -/
def State.presentCounters (s : State) : State :=
  s.ember.counterSave.foldl (fun t c =>
    match counterRegs.find? fun x => x.1 = c.1 with
    | some x => (s.copies x.2.1).foldl (fun t cp =>
        t.putWord c.1 cp ((t.word c.1 cp &&& ~~~(BitVec.ofNat 32 x.2.2)) ||| c.2)) t
    | none => t) s

/-- The role epochs kept in the Ember wake state, advanced by 1 (Table 3.8), in the snapshot and in both hearths. -/
def State.epochsAdvanced (s : State) (before : State) : State :=
  (List.finRange 8).foldl (fun t n =>
    let e := bitsSet 0 0 8 (before.kept (F.POL_SEQ_epoch n) + 1)
    [1, 2, emberCopy].foldl (fun t c => t.putWord (F.POL_SEQ_epoch n).addr c e) t) s

/-- RESET_CAUSE of a reset kind (R64, Table 3.7). -/
def causeOfKind : ResetKind → Nat
  | .powerOn => 1 | .resetN => 2 | .soft => 3 | .level3 => 6 | .smoulderWake => 7 | .coldWake => 8

/-- The step at which a reset kind enters start-up (Table 3.7). -/
def entryStep : ResetKind → Nat
  | .powerOn | .coldWake => 1
  | .soft => 5
  | _ => 2

/-- A reset keeps the OPCT (Table 3.8). -/
def keepsOpct : ResetKind → Bool
  | .resetN | .soft | .level3 => true
  | _ => false

/-- A reset clears the Ash log and the first-error record. -/
def clearsAsh : ResetKind → Bool
  | .powerOn | .coldWake => true
  | _ => false

/-- The hearths' stores after a reset: empty but for the OPCT and the trace where they are kept. -/
def hearthReset0 (kind : ResetKind) (x : Hearth) : Hearth :=
  if keepsOpct kind then { Hearth.empty with opct := x.opct, trace := x.trace } else Hearth.empty

/-- A capture that was armed or triggered reads frozen after a reset that keeps the trace (R273). -/
def State.traceKept (s : State) (before : State) : State :=
  [Hth.A, Hth.B].foldl (fun t h => if before.trcRuns h then t.setIn [h] F.TRC_STATUS_state 4 else t) s

/-- TBASE rebuilt after Smoulder: its value at entry plus the elapsed coarse ticks times TB.COARSE_CAL, or times the nominal 750.0
where no calibration is valid (R67, R73). -/
def State.tbaseRebuilt (s : State) : Tick :=
  let cal := if s.flag F.TB_STATUS_cal_valid then s.get F.TB_COARSE_CAL_ratio else 0x02EE0000
  s.ember.tbaseAtEntry + BitVec.ofNat 48 (s.get F.EMB_COARSE_count * cal / 65536)

/-- What decides on persistence: a RESET_N taken in Smoulder finds the periphery and the hearths unpowered (Table 1.5), so they keep no more
than through a wake from Smoulder. -/
def State.persistKind (s : State) (kind : ResetKind) : ResetKind :=
  if s.ember.dev = .smoulder ∧ kind = .resetN then .smoulderWake else kind

/-- Kindling goes on through RESET_N, a soft reset and a Level 3 reset, whose start-up is then the reduced one of Table 3.6 (DESIGN CHOICE,
log entry 102: chapter 3 names no reset during Kindling). -/
def State.kindlingKept (s : State) (kind : ResetKind) : Option Port :=
  match kind with
  | .resetN | .soft | .level3 => s.ember.kindling
  | _ => none

/-- The Kindling port shows the Dv of 16 at which its loops run (R60, R238). -/
def State.kindlingDv (s : State) : State :=
  match s.ember.kindling with
  | some n => s.set (F.STG_STATUS_dv_eff n) 16
  | none => s

/-- EMB.STATUS[6:0]: what the Ember supervisors find of the sources and the supplies. -/
def suppliesField : Field := { F.EMB_STATUS_src_vstby with width := 7 }

/-- Take a reset of the periphery and the hearths (R62, R65): counters are saved, every class of state is kept or cleared as
Table 3.8 says, and start-up enters at the step of Table 3.7. -/
def State.deviceReset (s : State) (kind : ResetKind) : State :=
  let stays := s.persistKind kind
  let saved := if keepsOpct stays then s.counterSave else []
  let t : State := { State.reset with
    pending := s.pending
    tbase := if clearsAsh kind then 0 else if s.ember.dev = .smoulder then s.tbaseRebuilt else s.tbase
    fresh := s.fresh
    regs := regsReset stays s.regs
    otp := s.otpCut
    hA := hearthReset0 stays s.hA
    hB := hearthReset0 stays s.hB
    flue := { State.reset.flue with
      ash := if clearsAsh kind then [] else s.flue.ash
      serial := if clearsAsh kind then 0 else s.flue.serial
      newest := if clearsAsh kind then 0 else s.flue.newest
      first := if clearsAsh kind then none else s.flue.first }
    pins := { s.pins with wakeAddr := none, held := none, acked := [] }
    fallbackV := if kind = .soft then s.fallbackV else State.reset.fallbackV
    fallbackI := if kind = .soft then s.fallbackI else State.reset.fallbackI
    opctLost := stays = .smoulderWake ∨ stays = .coldWake
    ember := { State.reset.ember with
      dev := .startup, kind := kind, step := entryStep kind, counterSave := saved, vsysArmed := false, kindling := s.kindlingKept kind,
      coldEntered := s.ember.coldEntered, coldSource := s.ember.coldSource, resetHeld := s.ember.resetHeld } }
  let t := if clearsAsh kind then t else t.epochsAdvanced s
  -- the Ember supervisors go on through every reset that finds Ember powered (Table 3.1)
  let t := if kind = .powerOn then t else t.set suppliesField (s.get suppliesField)
  let t := if keepsOpct stays then t.traceKept s else t
  let t := if s.ember.dev = .smoulder ∧ ¬ s.flag F.TB_STATUS_cal_valid then t.event F.TB_EVENT_coarse_uncal else t
  t.kindlingDv.set F.DEV_RESET_CAUSE_cause (causeOfKind kind)

/-! ### Wakes (R47, R52, R458) -/

/-- Source code of EMB.WAKE_SRC (Table 20.5). -/
def wakeCode : Wake → Nat
  | .cc _ => 1 | .vbus _ => 2 | .wakeN => 3 | .smbus => 4 | .alarm => 5 | .vsys => 6 | .attach _ => 7 | .req1 => 8
  | .hearthAccess => 9 | .flue => 10 | .resetN => 11

/-- The port of a wake source, 0 where it has none. -/
def wakePort : Wake → Nat
  | .cc n | .vbus n | .attach n => n.val
  | _ => 0

/-- Record an exit in WAKE_SRC, set woken and count the change of power state (R64, Table 20.5). -/
def State.recordWake (s : State) (w : Wake) (origin : Nat) (inEntry : Bool) : State :=
  let t := (((s.set F.EMB_WAKE_SRC_from origin).setB F.EMB_WAKE_SRC_in_entry inEntry).set F.EMB_WAKE_SRC_port (wakePort w)).set
    F.EMB_WAKE_SRC_source (wakeCode w)
  (t.event F.EMB_EVENT_woken).bump F.EMB_SEQ_transitions

/-- What ends Banked (Table 3.2). -/
def bankedWake : Wake → Bool
  | .req1 | .attach _ | .vbus _ | .wakeN | .hearthAccess | .flue => true
  | _ => false

/-- What ends Smoulder: each source enabled in EMB.WAKE_EN, and VSYS return after a VSYS loss (Table 3.2). -/
def State.smoulderWakes (s : State) (w : Wake) : Bool :=
  match w with
  | .cc n => s.bit F.EMB_WAKE_EN_cc n.val
  | .vbus n => s.bit F.EMB_WAKE_EN_vbus n.val
  | .wakeN => s.flag F.EMB_WAKE_EN_wake_n
  | .smbus => s.flag F.EMB_WAKE_EN_smbus
  | .alarm => s.flag F.EMB_WAKE_EN_alarm
  | .vsys => s.ember.vsysArmed || s.ember.latched.isSome
  | _ => false

/-- What ends Cold (Table 3.2). -/
def coldWakes : Wake → Bool
  | .vbus _ | .wakeN | .resetN => true
  | _ => false

/-- Back from Banked to Lit: the register fabric resumes, and the OTP re-sense starts (R66). -/
def State.wakeBanked (s : State) (w : Wake) (inEntry : Bool) : State :=
  let t : State := { s with ember := { s.ember with dev := .lit, latched := none, resensePending := true } }
  let t := (t.stop .edram 0).stop .tjSample 0
  let t := t.recordWake w 1 inEntry
  if t.flag F.FLU_STATUS_l3 then t else t.start .l3Clear 0 (t.ms 60000)

/-- A wake from Smoulder (R47, R458): start-up enters at step 2 with TBASE rebuilt; without a valid calibration coarse_uncal is set.
A source latched while VSYS was missing is the one recorded. -/
def State.wakeSmoulder (s : State) (w : Wake) (inEntry : Bool) : State :=
  let src := s.ember.latched.getD w
  ((s.deviceReset .smoulderWake).recordWake src 2 inEntry).setB F.EMB_STATUS_vsys_ok true

/-- The Cold latch read at start-up step 1 (R64): a recorded Cold entry gives RESET_CAUSE 8 and WAKE_SRC from 3; the latch is then
cleared. A clear latch gives cause 1. -/
def State.coldLatchRead (s : State) : State :=
  if s.ember.coldEntered then
    let src := s.ember.coldSource
    let t := ((s.set F.DEV_RESET_CAUSE_cause 8).set F.EMB_WAKE_SRC_from 3).set F.EMB_WAKE_SRC_source src
    let t := (t.event F.EMB_EVENT_woken).bump F.EMB_SEQ_transitions
    { t with ember := { t.ember with coldEntered := false, coldSource := 0 } }
  else s.set F.DEV_RESET_CAUSE_cause 1

/-- A wake from Cold: as a power-on, with the latch recording the source (R47, R64, R458). -/
def State.wakeCold (s : State) (w : Wake) (inEntry : Bool) : State :=
  let src := s.ember.latched.getD w
  let t := (s.deviceReset .coldWake).coldLatchRead
  let t := (t.set F.EMB_WAKE_SRC_source (wakeCode src)).set F.EMB_WAKE_SRC_port (wakePort src)
  t.setB F.EMB_WAKE_SRC_in_entry inEntry

def execWakeFromBanked (w : Wake) (s : State) : Host.Outcome State Fault Refusal :=
  .next (if s.ember.dev = .banked ∧ s.ember.entry = none ∧ bankedWake w then s.wakeBanked w false else s)

/-- A wake source other than the address match fires while VSYS is below VSYS_OK: it is latched, for Cold in the Cold latch (R458).
The first source latched stays. -/
def State.wakeLatch (s : State) (w : Wake) : State :=
  if w = .smbus ∨ s.ember.latched.isSome then s
  else if s.ember.dev = .smoulder ∧ s.smoulderWakes w ∧ ¬ s.flag F.EMB_STATUS_vsys_ok then
    { s with ember := { s.ember with latched := some w } }
  else if s.ember.dev = .cold ∧ coldWakes w ∧ ¬ s.flag F.EMB_STATUS_vsys_ok then
    { s with ember := { s.ember with latched := some w, coldSource := wakeCode w } }
  else s

/-- VSYS rises above 2.85 V in Smoulder or Cold: it wakes the device where it is armed or a source is latched; otherwise the supervisor
shows it (R46, R458). -/
def State.vsysRise (s : State) : State :=
  let t := s.setB F.EMB_STATUS_vsys_ok true
  match s.ember.dev with
  | .smoulder => if s.smoulderWakes .vsys then s.wakeSmoulder .vsys false else t
  | .cold => if s.ember.latched.isSome then s.wakeCold .vsys false else t
  | _ => s

/-- A wake source fires in Smoulder; below VSYS_OK it is latched (R458). -/
def execWakeFromSmoulder (w : Wake) (s : State) : Host.Outcome State Fault Refusal :=
  .next (
    if s.ember.dev ≠ .smoulder then s
    else if w = .vsys then s.vsysRise
    else if s.smoulderWakes w ∧ s.flag F.EMB_STATUS_vsys_ok then s.wakeSmoulder w false
    else s.wakeLatch w)

/-- A wake source fires in Cold; below VSYS_OK it is latched (R458). -/
def execWakeFromCold (w : Wake) (s : State) : Host.Outcome State Fault Refusal :=
  .next (
    if s.ember.dev ≠ .cold then s
    else if w = .vsys then s.vsysRise
    else if coldWakes w ∧ s.flag F.EMB_STATUS_vsys_ok then s.wakeCold w false
    else s.wakeLatch w)

def execWakeLatchedNoVsys (w : Wake) (s : State) : Host.Outcome State Fault Refusal := .next (s.wakeLatch w)

/-- A wake source fires between acceptance and the end of entry: it is latched, and the entry completes (R52); an attach counts in every
entry (R100), and req 1 is refused while one is under way (R48). RESET_N instead abandons the entry (RESET_N_ASSERTED). -/
def execWakeDuringEntry (w : Wake) (s : State) : Host.Outcome State Fault Refusal :=
  .next (
    let armed : Bool := match s.ember.entry with
      | some .banked => bankedWake w && w ≠ .req1
      | some .smoulder => s.smoulderWakes w || (match w with | .attach _ => true | _ => false)
      | some .cold => (coldWakes w && w ≠ .resetN) || (match w with | .attach _ => true | _ => false)
      | _ => false
    if armed ∧ s.ember.latched = none then { s with ember := { s.ember with latched := some w } } else s)

/-! ### Requesting a state (R48-R52) -/

/-- Refusal codes of Table 3.4 in ascending order; during Kindling a request for Banked, Smoulder or Cold is refused with code 6 (R60). -/
def State.pstateRefusal (s : State) (target : DevState) (needKey : Bool) : Nat :=
  if s.ember.kindling.isSome then 6
  else if (List.finRange 8).any fun n => !s.pathIsOpen n then 1
  else if (List.finRange 8).any fun n => s.flag (F.CC_STATUS_vconn_on n) then 2
  else if s.flag F.OTP_STATUS_busy then 3
  else if needKey ∧ s.get F.EMB_KEY_key ≠ 0xC5 then 4
  else if s.ember.entry.isSome ∨ ¬ (s.ember.dev = .lit ∨ (s.ember.dev = .banked ∧ target ≠ .banked)) then 5
  else 0

/-- A refused request: the event and the reason (R48). -/
def State.pstateRefuse (s : State) (code : Nat) : State :=
  (s.eventHost F.EMB_EVENT_pstate_refused).set F.EMB_STATUS_refuse code

/-- Time in which an entry completes (R51), in µs. -/
def entryUs : DevState → Nat
  | .banked => 20
  | _ => 100

/-- A request for Banked, Smoulder or Cold: refused with the lowest code that applies, or accepted, and its entry begins. Any write
of PSTATE_CMD clears the key (R49). -/
def State.pstateRequest (s : State) (target : DevState) (needKey : Bool) : State :=
  let code := s.pstateRefusal target needKey
  let t := s.set F.EMB_KEY_key 0
  if code ≠ 0 then t.pstateRefuse code
  else ({ t with ember := { t.ember with entry := some target } }).start .stateEntry 0 (t.us (entryUs target))

/-- req 1 (R48): from Banked back to Lit, from Lit a no-op, otherwise or during an entry refused with code 5. -/
def State.pstateLit (s : State) : State :=
  let t := s.set F.EMB_KEY_key 0
  if s.ember.entry.isSome then t.pstateRefuse 5
  else match s.ember.dev with
    | .lit => t
    | .banked => t.wakeBanked .req1 false
    | _ => t.pstateRefuse 5

/-- A reserved request code: refused with code 7, or with code 5 while an entry is under way (R48, Table 3.3). -/
def State.pstateReserved (s : State) : State := (s.set F.EMB_KEY_key 0).pstateRefuse (if s.ember.entry.isSome then 5 else 7)

def execReqLit (s : State) : Host.Outcome State Fault Refusal := .next (s.answered 1 State.pstateLit)

def execReqBanked (s : State) : Host.Outcome State Fault Refusal := .next (s.answered 1 fun s => s.pstateRequest .banked false)

def execReqSmoulder (s : State) : Host.Outcome State Fault Refusal := .next (s.answered 1 fun s => s.pstateRequest .smoulder true)

def execReqCold (s : State) : Host.Outcome State Fault Refusal := .next (s.answered 1 fun s => s.pstateRequest .cold true)

/-- Every feed opens (R51, R46). -/
def State.openFeeds (s : State) : State := s.feedsOpen

/-- k of R54 for a Tj code of 0.125 K steps: 0 up to 45 °C, above it ceil((Tj - 45 °C) / 10 °C). Code 2545.2 is 45 °C. -/
def refreshExponent (code : Nat) : Nat :=
  let mk := code * 125            -- Tj + 273.15 °C in m°C
  if mk ≤ 318150 then 0 else ceilDiv (mk - 318150) 10000

/-- t_ref of R54 in ticks: 2.0 ms / 2^k. -/
def State.refreshTicks (s : State) : Nat := ceilDiv (2 * s.tickKhz) (2 ^ s.ember.refreshK)

/-- The hearths and the periphery lose their supply (Table 1.5): the stores they hold are gone. -/
def State.unpowered (s : State) : State :=
  { s with hA := Hearth.empty, hB := Hearth.empty, inputs := [], auth := [], hearths := { s.hearths with roleA := .off, roleB := .off } }

/-- What entry into a state does (R51, Table 2.7): Smoulder and Cold open every feed and unpower the hearths; Banked starts the
refresh, at the interval of the die temperature last sampled, and the Tj samples (R54), and leaves the scheduler with its ring empty (R302); Smoulder restarts the coarse counter and starts the CC poll of 100 ms, 3,277 coarse ticks; Cold sets the Cold latch. -/
def State.enterState (s : State) (d : DevState) : State :=
  let t : State := { s with ember := { s.ember with dev := d, entry := none } }
  let t := (t.stop .stateEntry 0).bump F.EMB_SEQ_transitions
  match d with
  | .banked =>
    let t : State := { t with
      ember := { t.ember with refreshK := refreshExponent (t.adc 47) }, draught := { t.draught with preds := [], plan := none } }
    ((t.stop .l3Clear 0).start .edram 0 (t.refreshTicks)).start .tjSample 0 (t.ms 1)
  | .smoulder =>
    let t := t.openFeeds
    let t : State := { t with
      timers := []
      ember := { t.ember with tbaseAtEntry := t.tbase, aliveOn := false, alive := false, ccPolled := 0 } }
    (t.unpowered.set F.EMB_COARSE_count 0).start .ccPoll 0 3277
  | .cold =>
    let t := t.openFeeds
    { t.unpowered with
      timers := []
      ember := { t.ember with coldEntered := true, coldSource := 0, aliveOn := false, alive := false } }
  | _ => t

/-- Entry completes (R51); a wake latched during it is taken at once, with in_entry (R52). -/
def execStateEntryComplete (s : State) : Host.Outcome State Fault Refusal :=
  .next (
    match s.ember.entry with
    | none => s
    | some d =>
      let w := s.ember.latched
      let t := ({ s with ember := { s.ember with latched := none } }).enterState d
      match w, d with
      | some w, .banked => t.wakeBanked w true
      | some w, .smoulder => t.wakeSmoulder w true
      | some w, .cold => t.wakeCold w true
      | _, _ => t)

/-! ### Supplies (R44-R46) -/

/-- An Ember source falls while another stays (R44): its bit clears and the loss is recorded, nothing else. -/
def execEmberSourceLost (src : Fin 3) (s : State) : Host.Outcome State Fault Refusal :=
  .next ((s.set { F.EMB_STATUS_src_vstby with lo := src.val } 0).event F.EMB_EVENT_source_lost)

/-- The Ember supply falls below 1.50 V: everything stops (Table 3.1). Only the OTP array and the pins outlast it; the Cold latch,
held in the Ember supervisors, is lost too. -/
def execEmberSupplyLost (s : State) : Host.Outcome State Fault Refusal :=
  .next { State.reset with
    pending := s.pending, fresh := s.fresh, otp := s.otpCut, pins := s.pins
    ember := { State.reset.ember with dev := .unpowered, step := 0 } }

/-- The Ember supply rises through 1.60 V (R62): start-up step 1, where the Cold latch is read. -/
def execPowerOnReset (s : State) : Host.Outcome State Fault Refusal :=
  .next ((s.deviceReset .powerOn).coldLatchRead)

/-- Every path and every feed opens and every stage stops (R46). -/
def State.allOff (s : State) : State :=
  let t := (List.finRange 8).foldl (fun t n => (t.openPath n).stageOff n) s
  t.feedsOpen

/-- VSYS falls below 2.70 V (R46): outside Kindling, in Lit, Banked, start-up, Fuse Hold or held at step 5, every path, feed and
stage goes off, VSYS_LOST is logged, and Smoulder is entered with VSYS return armed. During an entry the entry ends too, and a wake latched
in it stays latched, as one that fires while VSYS is missing (DESIGN CHOICE, log entry 103). In Smoulder the return is armed (Table 3.2). -/
def execVsysLoss (s : State) : Host.Outcome State Fault Refusal :=
  .next (
    let u := s.setB F.EMB_STATUS_vsys_ok false
    match s.ember.dev with
    | .lit | .banked | .startup | .fuseHold | .held =>
      if s.ember.kindling.isSome then u
      else
        let t := u.allOff
        let t := t.reportNow 2
        let t := ({ t with ember := { t.ember with vsysArmed := true } }).enterState .smoulder
        { t with ember := { t.ember with vsysArmed := true } }
    | .smoulder => { u with ember := { u.ember with vsysArmed := true } }
    | _ => u)

/-- VDDIO falls below its level (Table 3.1): in Lit Flue takes VDDIO_UV, with the Level 3 reaction. -/
def execVddioUndervoltage (s : State) : Host.Outcome State Fault Refusal :=
  .next (
    let t := s.setB F.EMB_STATUS_vddio_ok false
    if s.ember.dev = .lit then
      t.reportNow 0x10
    else t)

/-- VDRV falls below its level (Table 3.1): in Lit, except during Kindling, Flue takes VDRV_UV, with the Level 3 reaction. -/
def execVdrvUndervoltage (s : State) : Host.Outcome State Fault Refusal :=
  .next (
    let t := s.setB F.EMB_STATUS_vdrv_ok false
    if s.ember.dev = .lit ∧ s.ember.kindling = none then
      t.reportNow 0x11
    else t)

/-! ### Smoulder and Banked (R47, R54, R66) -/

/-- The CC-change comparator poll of Smoulder (R47): changes are seen, and the next poll is timed. -/
def execSmoulderCcPoll (changed : BitVec 8) (s : State) : Host.Outcome State Fault Refusal :=
  .next (
    if s.ember.dev = .smoulder then
      ({ s with ember := { s.ember with ccPolled := changed } }).start .ccPoll 0 3277
    else s)

/-- The coarse counter reaches ALARM in Smoulder (R433): it wakes the device when WAKE_EN.alarm is set; an ALARM of 0 is none. -/
def execCoarseAlarm (s : State) : Host.Outcome State Fault Refusal :=
  .next (
    if s.ember.dev = .smoulder ∧ s.get F.EMB_ALARM_ticks ≠ 0 then
      let t := s.set F.EMB_COARSE_count (s.get F.EMB_ALARM_ticks)
      if s.flag F.EMB_WAKE_EN_alarm then
        if s.flag F.EMB_STATUS_vsys_ok then t.wakeSmoulder .alarm false
        else if s.ember.latched = none then { t with ember := { t.ember with latched := some .alarm } }
        else t
      else t
    else s)

/-- A refresh of the eDRAM of each powered hearth in Banked (R54): its content stays, and the next is due after t_ref. -/
def execEdramRefresh (s : State) : Host.Outcome State Fault Refusal :=
  .next (
    if s.ember.dev = .banked then s.start .edram 0 s.refreshTicks else s)

/-- Tj sampled in Banked every 1 ms, and t_ref computed again (R54): the refresh that is due moves with it. -/
def execBankedTjSample (code : BitVec 12) (s : State) : Host.Outcome State Fault Refusal :=
  .next (
    if s.ember.dev = .banked then
      let gone := s.refreshTicks - s.left .edram 0
      let t : State := { s with ember := { s.ember with refreshK := refreshExponent code.toNat } }
      ((t.set (F.ADC_CODE_odd 23) code.toNat).start .tjSample 0 (s.ms 1)).start .edram 0 (t.refreshTicks - gone)
    else s)

/-- Fuse Hold (R58): the hearths are unpowered, OTP.STATUS shows it, boot_step reads 0xE, and a clock stretch ends. Level 3 ends with it: Fuse
Hold is left in three ways only. An entry under way ends. -/
def State.fuseHoldEnter (s : State) : State :=
  let t := s.unpowered
  let t : State := { t with ember := { t.ember with dev := .fuseHold, entry := none, latched := none, aliveOn := false, alive := false } }
  ((((t.stop .stateEntry 0).set F.OTP_STATUS_fuse_hold 1).set F.SMB_STATUS_stretch 0).set F.FLU_STATUS_l3 0).stop .l3Hold 0

/-- The re-sense of Banked exit completes (R66): single-bit differences are corrected and counted; an uncorrectable difference in a
finalised region fails its digest and enters Fuse Hold. Otherwise a close command that has been held for it acts. -/
def execBankedExitResense (flips : List OtpFlip) (s : State) : Host.Outcome State Fault Refusal :=
  .next (
    if s.ember.resensePending then
      let t := ({ s with ember := { s.ember with resensePending := false } }).otpResense flips
      if t.otpDigestFails then t.fuseHoldEnter else t.allPorts State.pathTry
    else s)

/-! ### Start-up (R55-R57) -/

/-- Start-up stands at a step. -/
def State.atStep (s : State) (k : Nat) : Bool := s.ember.dev = .startup && s.ember.step = k

/-- Move start-up to a step. -/
def State.toStep (s : State) (k : Nat) : State := { s with ember := { s.ember with step := k } }

/-- Occasion code of OTP.MARG_LOG for a start (Table 18.5). -/
def senseOccasion : ResetKind → Nat
  | .powerOn => 1 | .resetN => 2 | .level3 => 3 | .smoulderWake => 4 | .coldWake => 5 | .soft => 0

/-- Step 2 (Table 3.5): the regulators are in range, the supervisors show the supplies, and every OTP word is sensed at both
margins. -/
def execStartupRegulatorsInRange (supplies : BitVec 7) (tj : BitVec 8) (flips : List OtpFlip) (s : State) :
    Host.Outcome State Fault Refusal :=
  .next (
    if (s.atStep 1 ∨ s.atStep 2) ∧ ¬ s.ember.resetHeld ∧ (bitOf supplies.toNat 3 ∨ s.ember.kindling.isSome) then
      ((s.set suppliesField supplies.toNat).otpSense flips (senseOccasion s.ember.kind) tj.toNat).toStep 2
    else s)

/-- The level of the ADDR[2:0] balls. -/
def State.pinsAre (s : State) (pins : BitVec 3) : State := { s with pins := { s.pins with addrPins := pins } }

/-- Sample ADDR[2:0] (R38): the address in force is 0x60 + ADDR unless the OTP override replaces it. -/
def State.sampleAddr (s : State) (pins : BitVec 3) : State :=
  let ovr := s.otpAddrOvr
  let t := (s.set F.SMB_STATUS_pins pins.toNat).setB F.SMB_STATUS_ovr (ovr ≠ 0)
  t.set F.SMB_STATUS_addr (if ovr ≠ 0 then ovr else 0x60 + pins.toNat)

/-- Step 3 (Table 3.5): trims, defaults, the address override, the key and the dead-battery policy are delivered, and ADDR[2:0] is
sampled. The device acknowledges its address from here (R56). A transaction held since Smoulder is taken over: SCL stays low, and its address
stays in force until the next START (R38, R413). -/
def execStartupSensingComplete (pins : BitVec 3) (s : State) : Host.Outcome State Fault Refusal :=
  .next (
    if s.atStep 2 then
      let t := (s.pinsAre pins).otpDeliver.sampleAddr pins
      let t := match s.pins.wakeAddr with
        | some a =>
          let u : State := { t with ember := { t.ember with addrNext := some pins } }
          (u.set F.SMB_STATUS_addr a).set F.SMB_STATUS_stretch 1
        | none => t
      t.toStep 3
    else s)

/-- The mode applied at step 5 (Table 3.5, R60): that of HTH.MODE, and Solo during Kindling. -/
def State.bootMode (s : State) : HMode :=
  if s.ember.kindling.isSome then .solo else modeOfCode (s.get F.HTH_MODE_mode)

/-- The Solo hearth: that of HTH.MODE, and during Kindling the one that OTP names (R60). -/
def State.bootSolo (s : State) : Hth :=
  hthOfBit (if s.ember.kindling.isSome then bitsGet (s.otpWord 320) 2 1 else s.get F.HTH_MODE_solo_hearth)

/-- Power the hearths with the roles given, each powered rail at the boot code (R86: 0.90 V; R60: 0.72 V during Kindling). -/
def State.bootRoles (s : State) (m : HMode) (a b : Role) (fenced : Bool) : State :=
  let code := if s.ember.kindling.isSome then 0 else 18
  let t : State := { s with apart := if fenced then some Logic.empty else none, hearths := { s.hearths with
    mode := m, roleA := a, roleB := b, startFence := fenced, offA := false, offB := false, goal := none, wait := .nothing, offDue := false } }
  let t := (t.setRail .A (if a = .off then 0 else code)).setRail .B (if b = .off then 0 else code)
  t.roleBump

/-- A port is run by no hearth (R57: the ports of a hearth that failed at start-up in Split). -/
def State.unrun (s : State) (n : Port) : Bool := s.role (s.driver n) = .fenced || s.role (s.driver n) = .off

/-- A port that is not enabled: Open on both pins. -/
def State.portUnused (s : State) (n : Port) : State := s.present n .opened

/-- Step 7's work: ports and feeds enabled as OTP says, the thermistors judged, the dead-battery clamp handed over (Table 3.5, R34, R37, R101,
R321). A Kindling port that is attached stays so. -/
def State.enablePorts (s : State) : State :=
  let t := (s.set F.FED_STATUS_enabled (15 - s.otpFeedOff % 16)).ntcFit
  (List.finRange 8).foldl (fun t n =>
    let t := if bitOf t.otpPortOff n.val || t.unrun n then t.portUnused n
      else if (t.cc.get n).attached then (t.present n (t.cc.get n).cmd).ownTake n
      else t.enablePort n
    t.set (F.CC_STATUS_db_clamp n) 0) t

def execStartupTablesLoaded (s : State) : Host.Outcome State Fault Refusal :=
  .next (if s.atStep 6 ∧ s.ember.kindling = none then s.enablePorts.toStep 7 else s)

/-- Step 8's work: ALIVE starts toggling, booted is set, boots advances, and the device is Lit (Table 3.5). -/
def State.bootDone (s : State) : State :=
  let t : State := { s with ember := { s.ember with dev := .lit, step := 8, aliveOn := true, alive := false, aliveCount := 0 } }
  let t := (t.event F.DEV_EVENT_booted).bump F.DEV_SEQ_boots
  (t.start .l3Clear 0 (t.ms 60000)).allPorts State.pathTry

def execStartupPortsEnabled (s : State) : Host.Outcome State Fault Refusal :=
  .next (if s.atStep 7 then s.bootDone else s)

/-! ### Resets (R62, R63) -/

/-- RESET_N low (R62): in Cold it wakes the device (R64), once VSYS is there (R458); elsewhere, with Ember powered, the RESET_N reset is taken and an entry is
abandoned (R52). The device stays in reset until the rising edge. -/
def execResetNAsserted (s : State) : Host.Outcome State Fault Refusal :=
  .next (
    match s.ember.dev with
    | .unpowered => s
    | .cold =>
      let t := if s.flag F.EMB_STATUS_vsys_ok then s.wakeCold .resetN false else s.wakeLatch .resetN
      { t with ember := { t.ember with resetHeld := true } }
    | _ =>
      let t := s.deviceReset .resetN
      { t with ember := { t.ember with resetHeld := true, vsysArmed := false } })

/-- The rising edge of RESET_N releases the reset: start-up enters at step 2, or at step 1 where the pin woke the device from Cold
(Table 3.7). -/
def execResetNReleased (s : State) : Host.Outcome State Fault Refusal :=
  .next (if s.ember.resetHeld then { s with ember := { s.ember with resetHeld := false } } else s)

/-- The device soft reset (R62, R432): not acted on in Fuse Hold (hold_refused) or without the key (key_refused); any write of
DEV.CONTROL clears the key. -/
def State.softReset (s : State) : State :=
  let key : Bool := s.get F.DEV_KEY_key = 0xA5
  let t := s.set F.DEV_KEY_key 0
  if s.ember.dev = .fuseHold then t.eventHost F.DEV_EVENT_hold_refused
  else if !key then t.eventHost F.DEV_EVENT_key_refused
  else (t.deviceReset .soft).sampleAddr t.pins.addrPins

/-- The write of DEV.CONTROL.soft_reset, with the level of ADDR[2:0] at it. -/
def execSoftReset (pins : BitVec 3) (s : State) : Host.Outcome State Fault Refusal :=
  .next (s.answered 0 fun s => (s.pinsAre pins).softReset)

/-! ### Kindling (R59-R61) -/

/-- The Kindling port: the lowest-numbered port at or above 4.0 V that is not source-only nor denied by the dead-battery policy
(R59, Table 18.2). -/
def State.kindlePort (s : State) (vbus : BitVec 8) : Option Port :=
  (List.finRange 8).find? fun n =>
    bitOf vbus.toNat n.val && !bitOf s.otpSrcOnly n.val && !bitOf s.otpKindleDeny n.val

/-- Kindling enable (Table 3.6 steps 1 and 2): with VSYS low and the policy allowing it, the Kindling LDO powers Ember and a reduced
start-up runs. With Ember already powered in Smoulder it starts as a Smoulder wake; a start-up that waits for VSYS at step 1 or 2 goes on;
otherwise it is a power-on. -/
def execKindlingEnable (vbus : BitVec 8) (s : State) : Host.Outcome State Fault Refusal :=
  .next (
    let ready : Bool := match s.ember.dev with
      | .unpowered => true
      | .cold | .smoulder => !s.flag F.EMB_STATUS_vsys_ok
      | .startup => s.ember.step ≤ 2 && s.ember.kindling = none && !s.flag F.EMB_STATUS_vsys_ok
      | _ => false
    match s.kindlePort vbus with
    | some n =>
      if ready ∧ ¬ s.otpKindleOff then
        let t := match s.ember.dev with
          | .smoulder => s.wakeSmoulder (.vbus n) false
          | .cold => s.wakeCold (.vbus n) false
          | .startup => s
          | _ => (s.deviceReset .powerOn).coldLatchRead
        let t : State := { t with ember := { t.ember with kindling := some n, kindleClosed := false } }
        ((t.set F.EMB_STATUS_src_kindle 1).set F.EMB_STATUS_vsys_ok 0).kindlingDv
      else s
    | none => s)

/-- Step 3 and 4 of Table 3.6: with the seed loaded and VBUS at vSafe5V, Fender closes the path as sink, the stage runs in reverse
and the 5 s of R61 start. -/
def execKindlePathClose (s : State) : Host.Outcome State Fault Refusal :=
  .next (
    match s.ember.kindling with
    | some n =>
      if s.atStep 6 ∧ ¬ s.ember.kindleClosed then
        let t : State := { s with ember := { s.ember with kindleClosed := true } }
        let t := (t.closePath n true).stageRun n true
        t.start .kindleStall 0 (t.ms 5000)
      else s
    | none => s)

/-- VSYS reaches 2.85 V during Kindling (Table 3.6 step 6): Ember and the hearth move to VSYS, the LDO turns off, steps 7 and 8
complete, and an OTP mode default other than Solo is entered by its path from Solo (R346). -/
def execKindleHandover (s : State) : Host.Outcome State Fault Refusal :=
  .next (
    match s.ember.kindling with
    | some _ =>
      if s.atStep 6 then
        let t : State := { s with ember := { s.ember with kindling := none } }
        let t := ((t.set F.EMB_STATUS_src_kindle 0).set F.EMB_STATUS_vsys_ok 1).set F.EMB_STATUS_kindled 1
        let t := (t.stop .kindleStall 0).enablePorts.bootDone
        let m := modeOfCode (t.bootValue Sys2Proof.Machine.bootMode)
        if m = .solo then t else t.modeStart m t.activeHearth
      else s
    | none => s)

/-- VSYS has not come within 5 s (R61): the stage stops, the path stays closed and KINDLE_STALL is logged. -/
def execKindleStall (s : State) : Host.Outcome State Fault Refusal :=
  .next (
    match s.ember.kindling with
    | some n =>
      if s.running .kindleStall 0 then
        let t := (s.stop .kindleStall 0).stageOff n
        t.reportNow 3
      else s
    | none => s)

/-- Pn_VBUS falls below 3.6 V (Table 3.1): Kindling stops. With VSTBY present Ember stays powered, in Smoulder with VSYS return
armed; without it the Ember supply is lost. -/
def execKindlingStop (s : State) : Host.Outcome State Fault Refusal :=
  .next (
    match s.ember.kindling with
    | some n =>
      let t := (s.openPath n).stageOff n
      if s.flag F.EMB_STATUS_src_vstby then
        let t := (t.set F.EMB_STATUS_src_kindle 0).enterState .smoulder
        { t with ember := { t.ember with kindling := none, kindleClosed := false, vsysArmed := true } }
      else
        { State.reset with
          pending := s.pending, fresh := s.fresh, otp := s.otpCut, pins := s.pins
          ember := { State.reset.ember with dev := .unpowered, step := 0 } }
    | none => s)

end Sys2Proof.Machine
end

