-- ==== Sys2Proof/Machine/FlueCmd.lean ====
section
/-! DEFINITION. The commands that Flue and the Ash page take (chapter 17): reports, the ends of grace, persist and quiet times,
Level 3, the FLU and ASH command registers, FORCE and INJECT. -/

namespace Sys2Proof.Machine

/-- Who reports a source that no EVENT bit names (Table 17.6): the hearth that a HEARTH source names, the hearth that drives the port of a LOOP
source, Fender for PATH and THERMAL, otherwise the timed periphery. -/
def State.sourceMaster (s : State) (c u : Nat) : Nat :=
  if c = 0x58 ∨ c = 0x5A ∨ c = 0x5B then 2 + hthBit (unitHearth u)
  else match sourceGroup c with
    | 7 => 2 + hthBit (s.driver (unitPort u))
    | 6 | 9 => 4
    | _ => 0

/-- Take reports in order until the one of (`c`, `u`) has been taken; answers what is left. -/
def flueTake (c u : Nat) : List Report → State → State × List Report
  | [], s => (s, [])
  | r :: t, s => if r.source = c ∧ r.unit = u then (s.takeReport r, t) else flueTake c u t (s.takeReport r)

/-- A rail pair changes from idle to asserted (R361). The report is the one an event has put on the pair; where none has, the
operands are the occurrence. A pair that was broken is whole again. Reports that R366 puts before it are taken first. -/
def State.flueReport (s : State) (c u d : Nat) : State :=
  let s : State := { s with flue := { s.flue with broken := s.flue.broken.filter fun b => b ≠ (c, u) } }
  let s1 := if s.flue.rails.any fun r => r.source = c && r.unit = u then s else s.report c u d (s.sourceMaster c u) 0
  let later := s1.flue.rails.filter fun r => !s1.presented r
  let (t, rest) := flueTake c u (reportSort (s1.flue.rails.filter s1.presented)) { s1 with flue := { s1.flue with rails := [] } }
  { t with flue := { t.flue with rails := rest ++ later ++ t.flue.rails } }

def execFlueReport (source unit detail : BitVec 8) (s : State) : Host.Outcome State Fault Refusal :=
  .next (s.flueReport source.toNat unit.toNat detail.toNat)

/-- REPORT_PATH is taken (R361), with the broken source's code as its unit and the broken unit as its detail. -/
def State.reportPath (s : State) (c u access : Nat) : State :=
  (s.set F.FLU_EVENT_report_path 1).report 0x60 c u (if access = 4 then 1 else 0) access

/-- A pair that reads equal on two consecutive ticks (R361): it gives no report while it stays so. One already known is not taken again. -/
def State.reportPathBroken (s : State) (c u access : Nat) : State :=
  if s.flue.broken.contains (c, u) then s
  else ({ s with flue := { s.flue with broken := s.flue.broken ++ [(c, u)] } } : State).reportPath c u access

def execReportPathBroken (source unit : BitVec 8) (s : State) : Host.Outcome State Fault Refusal :=
  .next (s.reportPathBroken source.toNat unit.toNat 0)

/-- The grace time ends (Table 17.1), once this tick's reports have been taken (R367): a live record whose ceiling is above Level 1 reaches Level 2, or Level 3 where its source is
a broken SUPPLY pair (R369). -/
def State.graceExpiry (s : State) (g u : Nat) : State :=
  let s := s.flueDrain
  match recordFind s.flue.records g u with
  | none => s
  | some r =>
    if s.running .grace (recUnit g u) && r.level = 1 then
      let t := s.stop .grace (recUnit g u)
      if !s.recLive r then t
      else
        let rep := s.recReport r 0 0
        match recReact r with
        | .level0 | .level1 => t
        | .level3 =>
          let t : State := { t with flue := { t.flue with records := recordPut t.flue.records { r with level := 3 } } }
          t.enterLevel3 rep
        | _ => (t.ashWrite rep 2 r.merges 1).recLevel2 r rep
    else s

def execGraceExpiry (group : Fin 13) (unit : BitVec 8) (s : State) : Host.Outcome State Fault Refusal :=
  .next (s.graceExpiry group.val unit.toNat)

/-- The port fence (Table 17.4): in addition to the port safe that holds, the port is disabled, which outranks what a hearth commands (R23), and
its role epoch advances once more. -/
def State.portFence (s : State) (n : Port) : State :=
  let t := (s.modPol n fun p => { p with safeHeld := false }).disablePort n
  (t.modPol n fun p => { p with safeHeld := true }).advanceEpoch n

/-- The persist time ends (Table 17.1): a live record at Level 2 is fenced, a port by port fence, a feed by feed fence. -/
def State.persistExpiry (s : State) (g u : Nat) : State :=
  let s := s.flueDrain
  match recordFind s.flue.records g u with
  | none => s
  | some r =>
    if s.running .persist (recUnit g u) && r.level = 2 then
      let t := s.stop .persist (recUnit g u)
      if !s.recLive r then t
      else
        let rep := s.recReport r 0 0
        let t : State := { t with flue := { t.flue with records := recordPut t.flue.records { r with level := 4 } } }
        let t := (t.set F.FLU_EVENT_level2 1).ashWrite rep 4 r.merges 1
        if recReact r = .portSafe then
          r.units.foldl (fun t u => t.portFence (unitPort u)) t
        else t
    else s

def execPersistExpiry (group : Fin 13) (unit : BitVec 8) (s : State) : Host.Outcome State Fault Refusal :=
  .next (s.persistExpiry group.val unit.toNat)

/-- A source can bring Level 3 about (R369): one of group SUPPLY, the loss of a hearth, or a broken SUPPLY pair. -/
def level3Cause (c u : Nat) : Bool :=
  sourceReact c = .level3 || sourceReact c = .hearthFence || (c = 0x60 && sourceReact u = .level3)

/-- Level 3 is entered for a source and unit of R369. -/
def execLevel3Entry (source unit : BitVec 8) (s : State) : Host.Outcome State Fault Refusal :=
  .next (
    if level3Cause source.toNat unit.toNat then
      s.enterLevel3 { tick := s.tbase.toNat, source := source.toNat, unit := unit.toNat, detail := 0, master := 0, access := 0 }
    else s)

/-- The Level 3 hold ends (R371): with l3_auto set and fewer than l3_limit resets counted, Flue counts one more and issues the
Level 3 device reset. -/
def execLevel3AutoReset (s : State) : Host.Outcome State Fault Refusal :=
  .next (
    if s.running .l3Hold 0 ∧ s.flag F.FLU_STATUS_l3 ∧ (s.ember.dev = .lit ∨ s.ember.dev = .banked) ∧ s.flag F.FLU_CONFIG_l3_auto ∧
        s.get F.FLU_STATUS_l3_resets ≠ s.get F.FLU_CONFIG_l3_limit then
      (s.bumpSat F.FLU_STATUS_l3_resets).deviceReset .level3
    else s)

/-- 60 s Lit without Level 3: l3_resets returns to 0 (R371). -/
def execL3ResetsClear (s : State) : Host.Outcome State Fault Refusal :=
  .next (if s.running .l3Clear 0 ∧ s.ember.dev = .lit ∧ ¬ s.flag F.FLU_STATUS_l3 then (s.stop .l3Clear 0).set F.FLU_STATUS_l3_resets 0 else s)

/-- No record closes by itself at Level 3, fenced, of group HEARTH, or while the device is at Level 3 (R370, R376). -/
def State.quietBarred (s : State) (r : FlueRecord) : Bool := 2 < r.level || r.group = 10 || s.flag F.FLU_STATUS_l3

/-- The quiet time of a record (R376): it stops while the record is live or may not close by itself, and starts otherwise. -/
def State.quietWatch (s : State) (r : FlueRecord) : State :=
  let u := recUnit r.group r.unit
  if s.quietBarred r || s.recLive r then s.stop .quiet u
  else if s.running .quiet u then s
  else s.start .quiet u (s.ms (s.get F.FLU_CONFIG_quiet_s * 1000))

/-- A record's quiet time ends (R376), unless a report of this tick restarts it (R377): it closes by itself unless it is live, fenced, at Level 3, of group HEARTH, or its opening
source's recovery counter stands at 15, and in Level 3 none does (R370); the counter advances, and reaching 15 sets recover_stop. -/
def State.quietExpiry (s : State) (g u : Nat) : State :=
  let s := s.flueDrain
  match recordFind s.flue.records g u with
  | none => s
  | some r =>
    let c := s.get (rcvField r.source)
    if !s.running .quiet (recUnit g u) ∨ s.recLive r ∨ s.quietBarred r ∨ c = 15 then s
    else
      let t := ((s.recClose r 3 0 0).set (rcvField r.source) (c + 1)).set F.FLU_EVENT_recovered 1
      if c + 1 = 15 then t.set F.FLU_EVENT_recover_stop 1 else t

def execQuietExpiry (group : Fin 13) (unit : BitVec 8) (s : State) : Host.Outcome State Fault Refusal :=
  .next (s.quietExpiry group.val unit.toNat)

/-- A close is refused: the record is live, or a report has merged into it on this tick (R375, R377). -/
def State.closeBarred (s : State) (r : FlueRecord) : Bool := s.recLive r || r.mergeTick = some s.tbase.toNat

/-- Close one record by host command (R375, R377), once this tick's reports have been taken; no effect where none is open. -/
def State.hostClose (s : State) (g u : Nat) : State :=
  let s := s.flueDrain
  match recordFind s.flue.records g u with
  | none => s
  | some r => if s.closeBarred r then s.set F.FLU_EVENT_clear_refused 1 else s.recClose r 2 1 1

/-- A write of FLU.CONTROL clears FLU.KEY (R362). -/
def State.fluKeyClear (s : State) : State := s.set F.FLU_KEY_key 0

def execFluCloseRecord (group : Fin 16) (unit : BitVec 8) (s : State) : Host.Outcome State Fault Refusal :=
  .next (s.answered 3 fun s => s.fluKeyClear.hostClose group.val unit.toNat)

/-- Zero the recovery counters of a group's sources (R376). -/
def State.zeroRecovery (s : State) (g : Nat) : State :=
  (List.range 112).foldl (fun t c => if sourceGroup c = g then t.set (rcvField c) 0 else t) s

def execFluZeroRecovery (group : Fin 16) (s : State) : Host.Outcome State Fault Refusal :=
  .next (s.answered 3 fun s => s.fluKeyClear.zeroRecovery group.val)

/-- Command 3 (R375). -/
def State.closeAll (s : State) : State :=
  let s := s.flueDrain
  s.flue.records.foldl (fun t r =>
    if t.recLive r then t else if t.closeBarred r then t.set F.FLU_EVENT_clear_refused 1 else t.recClose r 2 1 1) s

/-- Command 4 (R371). -/
def State.l3Command (s : State) (key : Bool) : State :=
  if s.flag F.FLU_STATUS_l3 ∧ key then s.deviceReset .level3 else s.set F.FLU_EVENT_cfg_refused 1

def execFluCloseAll (s : State) : Host.Outcome State Fault Refusal :=
  .next (s.answered 3 fun s => s.fluKeyClear.closeAll)

def execFluL3DeviceReset (s : State) : Host.Outcome State Fault Refusal :=
  .next (s.answered 3 fun s => s.fluKeyClear.l3Command (s.get F.FLU_KEY_key = 0x46))

/-- A hearth bit of INJECT (R362): not acted on where HTH command 4 would be refused. -/
def State.injectHearth (s : State) (c : Nat) (h : Hth) : State :=
  if s.fenceAllowed h then s.report c (hthBit h) 0 1 4 else s.set F.FLU_EVENT_cfg_refused 1

/-- The pair that FLU.TEST names is held equal on this tick and the next (R362): it gives no report, and REPORT_PATH is presented on the
second of them (R361). One that reads equal already stays so. -/
def State.testHold (s : State) : State :=
  let c := s.get F.FLU_TEST_source
  let u := s.get F.FLU_TEST_unit
  if s.pairEqual c u then s
  else
    let t := s.reportPath c u 4
    { t with flue := { t.flue with
        testPair := some ((c, u), s.nextTick)
        rails := t.flue.rails.map fun r => if r.source = 0x60 ∧ r.unit = c ∧ r.tick = s.tbase.toNat then { r with due := s.nextTick } else r } }

/-- FLU.INJECT (R362): each bit drives its source's pair for one tick, bits [1:0] only under the key; the key is cleared. -/
def State.inject (s : State) (v : Nat) : State :=
  let key : Bool := s.get F.FLU_KEY_key = 0x46
  let t := s.fluKeyClear
  let t := if bitOf v 0 && key then t.report 0x10 0 0 1 4 else t
  let t := if bitOf v 1 && key then t.report 0x11 0 0 1 4 else t
  let t := if bitOf v 2 then t.report 0x18 0 0 1 4 else t
  let t := if bitOf v 3 then t.injectHearth 0x58 .A else t
  let t := if bitOf v 4 then t.injectHearth 0x58 .B else t
  let t := if bitOf v 5 then t.injectHearth 0x5A .A else t
  let t := if bitOf v 6 then t.injectHearth 0x5A .B else t
  let t := if bitOf v 7 then t.injectHearth 0x5B .A else t
  let t := if bitOf v 8 then t.injectHearth 0x5B .B else t
  let t := if bitOf v 9 then t.testHold else t
  let t := if bitOf v 10 then t.report 0x02 0 0 1 4 else t
  if bitOf v 11 then t.report 0x03 0 0 1 4 else t

def execFluInject (value : Word) (s : State) : Host.Outcome State Fault Refusal :=
  .next (s.answered 3 fun s => s.inject value.toNat)

/-- One FORCE bit (R362): the EVENT bit is set and its source's pair asserts, as a forced report of the SMBus host. FLU and ASH set
the bit only; fenced_a and fenced_b fence the hearth as command 4 would, or are refused (R360). The spec does not say for which
feed a forced FED event reports: a free value. -/
def State.forceBit (s : State) (page bit : Nat) : State :=
  let f : Field := eventField page bit
  if page = 0x0D ∧ (bit = 1 ∨ bit = 2) then
    let h := hthOfBit (bit - 1)
    if s.fenceAllowed h then s.hearthLossBy h .host 10 0 4 else s.eventHost F.HTH_EVENT_cfg_refused
  else if page = 3 ∨ page = 4 then s.set f 1
  else if page = 0x0A ∧ eventSource page bit ≠ 1 then
    let t := s.eventAs f (eventSource page bit) (Config.feedUnit s.fresh % 4) 4
    { t with fresh := t.fresh + 1 }
  else s.eventBy f 4

/-- A write of a page's FORCE register: its bits in ascending order. The debug pages take no write (R358). -/
def State.forceWrite (s : State) (page v : Nat) : State :=
  if page = 0x0B then s.cmpForce 0 (BitVec.ofNat 32 v)
  else if page = 0x0C then s.cmpForce 1 (BitVec.ofNat 32 v)
  else if 0x60 ≤ page then s
  else (List.range 32).foldl (fun t b => if bitOf v b && hasEvent page b then t.forceBit page b else t) s

def execForceWrite (page : BitVec 8) (value : Word) (s : State) : Host.Outcome State Fault Refusal :=
  .next (s.answered page.toNat fun s => s.forceWrite page.toNat value.toNat)

/-- Soot counters zeroed under the key (R380); the write clears the key (R383). -/
def State.sootClear (s : State) (key : Bool) : State :=
  if key then (List.range 28).foldl (fun t k => (t.set (F.ASH_SOOT_odd k) 0).set (F.ASH_SOOT_even k) 0) s else s

/-- ASH.KEY holds its code. -/
def State.ashKey (s : State) : Bool := s.get F.ASH_KEY_key = 0x41

def execAshSootClear (s : State) : Host.Outcome State Fault Refusal :=
  .next (s.answered 4 fun s => (s.set F.ASH_KEY_key 0).sootClear s.ashKey)

/-- The first-error record cleared (R379). -/
def State.firstClear (s : State) : State := { s with flue := { s.flue with first := none } }

def execAshFirstClear (s : State) : Host.Outcome State Fault Refusal :=
  .next (s.answered 4 fun s => (s.set F.ASH_KEY_key 0).firstClear)

/-- The Ash log emptied under the key (R383). -/
def State.ashClear (s : State) (key : Bool) : State :=
  if key then { s with flue := { s.flue with ash := [], newest := 0 } } else s

def execAshClear (s : State) : Host.Outcome State Fault Refusal :=
  .next (s.answered 4 fun s => (s.set F.ASH_KEY_key 0).ashClear s.ashKey)

/-- A host write of ASH.CONTROL: each bit set acts, and the key is cleared (R383). -/
def State.ashControlWrite (s : State) (v : Nat) : State :=
  let t := s.set F.ASH_KEY_key 0
  let t := if bitOf v 2 then t.sootClear s.ashKey else t
  let t := if bitOf v 1 then t.firstClear else t
  if bitOf v 0 then t.ashClear s.ashKey else t

/-- A host write of FLU.CONTROL (Table 17.8): codes 5-255 are refused. -/
def State.fluControlWrite (s : State) (v : Word) : State :=
  let t := s.fluKeyClear
  match bitsGet v 0 8 with
  | 0 => t
  | 1 => t.hostClose (bitsGet v 20 4) (bitsGet v 12 8)
  | 2 => t.zeroRecovery (bitsGet v 20 4)
  | 3 => t.closeAll
  | 4 => t.l3Command (s.get F.FLU_KEY_key = 0x46)
  | _ => t.set F.FLU_EVENT_cfg_refused 1

end Sys2Proof.Machine
end

