-- ==== Sys2Proof/Machine/VdmCmd.lean ====
section
/-! DEFINITION. The Phrasebook's inputs: VDMs received, its timers and the host's commands (chapter 9), behind the inputs that come before
them (R139, R140). -/

namespace Sys2Proof.Machine

/-! ### VDMs received (R195, R197, R198) -/

def execVdmReceived (n : Port) (s : State) : Host.Outcome State Fault Refusal := .next (s.takeNext n fun m => m.isRequest && m.sop = 0)

def execDiscoveryStep (n : Port) (s : State) : Host.Outcome State Fault Refusal :=
  .next (s.takeNext n fun m => m.isSvdm && !m.isRequest && m.sop = 0)

/-- Discover Identity on SOP' is sent again 45 ms after it went unanswered; three timeouts clear both variables (R198). -/
def State.cableResend (s : State) (n : Port) (a : VdmAsk) : State :=
  if s.running .cableIdentity n.val then
    let t := s.stop .cableIdentity n.val
    if 3 ≤ (s.vdm.get n).cableTries then (t.cableSet n 0 false).vdmAskEnd n
    else if s.phbBusy then t.askWaits n a
    else t.vdmSend n a
  else s

/-- Discover Identity on SOP' (R198): it starts, or its answer is taken, or it is sent again. -/
def State.cableDiscover (s : State) (n : Port) : State :=
  match (s.vdm.get n).ask with
  | some a =>
    if a.what = 9 then
      if s.inputs.any fun i => i.port = n && (match i.kind with | .message m => m.isSvdm && m.sop = 1 | _ => false) then
        s.takeNext n fun m => m.isSvdm && m.sop = 1
      else (s.policyBefore n 2).cableResend n a
    else s.cableIdentify n
  | none => s.cableIdentify n

def execCableDiscoverIdentity (n : Port) (s : State) : Host.Outcome State Fault Refusal := .next (s.cableDiscover n)

/-- A Security_Request is taken (R223). -/
def execSecurityRequestReceived (n : Port) (s : State) : Host.Outcome State Fault Refusal :=
  .next (s.takeNext n fun m => m.ty = pdSecurityRequest && m.sop = 0)

/-! ### Timers (R194, R195, R202) -/

/-- The wait for an answer expires. -/
def State.vdmResponseExpiry (s : State) (n : Port) : State := if s.running .vdmResponse n.val then s.vdmTimeout n else s

def execVdmResponseTimeout (n : Port) (s : State) : Host.Outcome State Fault Refusal := .next ((s.policyBefore n 2).vdmResponseExpiry n)

def execVdmBusyRetry (n : Port) (s : State) : Host.Outcome State Fault Refusal := .next ((s.policyBefore n 2).vdmBusyRetry n)

def execHostVdmResponseTimeout (n : Port) (s : State) : Host.Outcome State Fault Refusal := .next ((s.policyBefore n 2).hostVdmTimeout n)

/-! ### Host commands of VDM.CONTROL (R7, R202, R204, R209, R212, R214) -/

/-- A write of VDM.CONTROL, where the page answers (R57); with a stale epoch it is not acted on. -/
def State.vdmCommand (s : State) (n : Port) (epoch : BitVec 8) (f : State → State) : State :=
  s.answered (portPage n 3) fun s =>
    let t := s.policyBefore n 4
    if epoch.toNat = t.get (F.POL_SEQ_epoch n) then f t else (t.eventHost (F.VDM_EVENT_stale_cmd n)).soot 0 n

def execVdmCmdDiscovery (n : Port) (epoch : BitVec 8) (s : State) : Host.Outcome State Fault Refusal :=
  .next (s.vdmCommand n epoch fun t => t.vdmDiscover n)

def execVdmCmdEnterHostMode (n : Port) (epoch : BitVec 8) (arg : BitVec 16) (s : State) : Host.Outcome State Fault Refusal :=
  .next (s.vdmCommand n epoch fun t => t.hostModeCmd n arg 4)

def execVdmCmdExitHostMode (n : Port) (epoch : BitVec 8) (arg : BitVec 16) (s : State) : Host.Outcome State Fault Refusal :=
  .next (s.vdmCommand n epoch fun t => t.hostModeCmd n arg 5)

def execVdmCmdSendTx (n : Port) (epoch : BitVec 8) (arg : BitVec 16) (s : State) : Host.Outcome State Fault Refusal :=
  .next (s.vdmCommand n epoch fun t => t.hostSend n arg)

def execVdmCmdEnterThatin (n : Port) (epoch : BitVec 8) (s : State) : Host.Outcome State Fault Refusal :=
  .next (s.vdmCommand n epoch fun t => t.thatinCmd n)

def execVdmCmdExitThatin (n : Port) (epoch : BitVec 8) (s : State) : Host.Outcome State Fault Refusal :=
  .next (s.vdmCommand n epoch fun t => t.thatinExitCmd n)

def execVdmCmdProposeTracking (n : Port) (epoch : BitVec 8) (s : State) : Host.Outcome State Fault Refusal :=
  .next (s.vdmCommand n epoch fun t => t.proposeTracking n)

def execVdmCmdEndTracking (n : Port) (epoch : BitVec 8) (s : State) : Host.Outcome State Fault Refusal :=
  .next (s.vdmCommand n epoch fun t => t.endTracking n)

end Sys2Proof.Machine
end

