-- ==== Sys2Proof/Machine/Access.lean ====
section
/-! DEFINITION. Host access to registers and tables (R4, R5, R10, R16, R412, R424-R431): what a committed write of a register does,
what an orderly read leaves behind, and the windows behind TABLE_PORT (R408). -/

namespace Sys2Proof.Machine

/-! ### SMBALERT_N (R415, R430, R431) -/

/-- An alert cause asserts the alert of mode 0. -/
def State.alertCause (s : State) : State :=
  if s.flag F.SMB_CONFIG_alert_mode then s else s.set F.SMB_STATUS_alert 1

/-- The tick on which all four summary registers are 0 releases the alert of mode 0. -/
def State.alertSettle (s : State) : State := if s.anyAlert then s else s.set F.SMB_STATUS_alert 0

/-! ### The header (R424, R425) -/

/-- Pages with a KEY of their own. -/
def hasKey (page : Nat) : Bool := [0x00, 0x01, 0x03, 0x04, 0x05, 0x07, 0x0D, 0x10, 0x11, 0x12].contains page

/-- The KEY of a page. -/
def keyField (page : Nat) : Field := ⟨pageHome page, page * 256 + 0x18, 0, 32⟩

/-- A W1C write of EVENT (R4): the bits written 1 clear in every copy a write reaches, but for those that the device sets on the same tick
(R410). Clearing EMB.EVENT.pstate_refused clears the
reason it recorded (Table 3.4). The debug pages take no such write (R358). -/
def State.eventClear (s : State) (page v : Nat) : State :=
  if 0x60 ≤ page then s
  else
    let t := (List.range 32).foldl (fun t b =>
      if bitOf v b && hasEvent page b && !s.justSet page b then
        if page = 0x0B || page = 0x0C then
          let k := 32 * (page - 0x0B) + b
          if s.cmpJust k then t else t.cmpFall (Fin.ofNat 64 k)
        else t.set (eventField page b) 0
      else t) s
    let t := if page = 1 ∧ bitOf v 0 then t.set F.EMB_STATUS_refuse 0 else t
    t.alertSettle

/-- A write of EVENT_EN (R424, R425, R431): only bits of the page's EVENT layout are stored; enabling a bit already set in EVENT is an
alert cause. -/
def State.eventEnable (s : State) (page v : Nat) : State :=
  match regRow (page * 256 + 0x08) with
  | none => s
  | some r =>
    if 0x60 ≤ page then s
    else
      let f : Field := ⟨if 0x20 ≤ page ∧ page ≤ 0x5F ∧ page % 8 = 4 then .single else pageHome page, page * 256 + 0x0C, 0, 32⟩
      let new := Nat.land v r.w1c
      let fresh := Nat.land new ((s.get f).xor 0xFFFFFFFF)
      let t := s.set f new
      let t := if Nat.land fresh (t.storedWord (page * 256 + 0x08) none).toNat ≠ 0 then t.alertCause else t
      t.alertSettle

/-! ### Command registers -/

/-- CC.CONTROL.ov_release (R109): each isolated pin that stands below 5.50 V is connected again. -/
def State.ccControlWrite (s : State) (n : Port) (v : Word) : State :=
  let t := s.set (F.CC_CONTROL_cc_ov_auto n) (bitsGet v 0 1)
  if bitsGet v 1 1 = 1 then t.ovRelease n else t

/-- A write of VDM.CONTROL (Table 9.8): command codes 1-8, 9 and above refused. -/
def State.vdmControlWrite (s : State) (n : Port) (v : Word) : State :=
  let arg : BitVec 16 := BitVec.ofNat 16 (bitsGet v 8 16)
  s.vdmCommand n (BitVec.ofNat 8 (bitsGet v 24 8)) fun t =>
    match bitsGet v 0 8 with
    | 0 => t
    | 1 => t.vdmDiscover n
    | 2 => t.hostModeCmd n arg 4
    | 3 => t.hostModeCmd n arg 5
    | 4 => t.hostSend n arg
    | 5 => t.thatinCmd n
    | 6 => t.thatinExitCmd n
    | 7 => t.proposeTracking n
    | 8 => t.endTracking n
    | _ => t.vdmRefuse n

/-- A write of LEX.CONTROL or PHB.CONTROL: each bit set acts, in ascending order. -/
def State.tabControlWrite (s : State) (phb : Bool) (v : Nat) : State :=
  s.tabKeyed phb fun t key =>
    let t := if bitOf v 0 then t.tabBegin phb key else t
    let t := if bitOf v 1 then (if phb then t.phbCommitNow else t.tabCommit false) else t
    let t := if bitOf v 2 then t.tabAbort phb else t
    if bitOf v 3 then t.tabRevert phb key else t

/-- A write of IDN.CONTROL. -/
def State.idnControlWrite (s : State) (v : Nat) : State :=
  s.idnKeyed fun t key =>
    let t := if bitOf v 0 then t.idnLoadBegin key else t
    let t := if bitOf v 1 then t.idnCommit else t
    if bitOf v 2 then t.idnAbort else t

/-- A write of TRC.CONTROL. -/
def State.trcControlWrite (s : State) (v : Nat) : State :=
  let t := if bitOf v 0 then s.eachHearth State.trcArm else s
  let t := if bitOf v 1 then t.eachHearth State.trcStop else t
  if bitOf v 2 then t.eachHearth State.trcForce else t

/-- A write of EMB.PSTATE_CMD (Table 3.3): a reserved request is refused with code 7; 0 clears the key only (R10, R49). -/
def State.pstateWrite (s : State) (v : Word) : State :=
  match bitsGet v 0 4 with
  | 0 => s.set F.EMB_KEY_key 0
  | 1 => s.pstateLit
  | 2 => s.pstateRequest .banked false
  | 3 => s.pstateRequest .smoulder true
  | 4 => s.pstateRequest .cold true
  | _ => s.pstateReserved

/-- SMB.CONTROL.realert (R415). -/
def State.realert (s : State) : State := if s.anyAlert then s.alertCause else s

/-- A write of SMB.CONFIG (R421): rd_len 4-252 in fours, pec 0-2; a change of alert_mode starts from the level of the summary. -/
def State.smbConfigWrite (s : State) (v : Word) : State :=
  (s.cfgWrite [⟨F.SMB_CONFIG_rd_len, 4, 252, false⟩, ⟨F.SMB_CONFIG_alert_mode, 0, 1, true⟩, ⟨F.SMB_CONFIG_pec, 0, 2, true⟩]
    F.SMB_EVENT_cfg_refused (decide (bitsGet v 16 8 % 4 = 0)) v)

/-- The command register of a page (+0x14). Pages whose chapter gives none take no write. -/
def State.controlWrite (s : State) (page : Nat) (v : Word) : State :=
  if 0x20 ≤ page ∧ page ≤ 0x5F then
    let n := pagePort page
    match page % 8 with
    | 0 => s.ccControlWrite n v
    | 1 => if bitsGet v 0 1 = 1 ∨ bitsGet v 24 8 ≠ s.get (F.POL_SEQ_epoch n) then s.msgFlush n (bitsGet v 24 8) else s
    | 2 => s.polHost n (BitVec.ofNat 8 (bitsGet v 24 8)) (bitsGet v 0 8) (bitsGet v 8 16)
    | 3 => s.vdmControlWrite n v
    | 6 => if bitsGet v 0 1 = 1 ∨ bitsGet v 24 8 ≠ s.get (F.POL_SEQ_epoch n) then s.rearm n (bitsGet v 24 8) else s
    | _ => s
  else
    match page with
    | 0x00 =>
      if bitsGet v 0 1 = 1 then s.softReset else s.set F.DEV_KEY_key 0
    | 0x03 => s.fluControlWrite v
    | 0x04 => s.ashControlWrite v.toNat
    | 0x06 => if bitsGet v 0 1 = 1 then s.realert else s
    | 0x07 => s.idnControlWrite v.toNat
    | 0x09 => if bitsGet v 0 1 = 1 then s.squashNow 4 else s
    | 0x0A => s.fedControlWrite v
    | 0x0D => s.hthControlWrite v
    | 0x0F => s.trcControlWrite v.toNat
    | 0x10 => s.tabControlWrite false v.toNat
    | 0x11 => s.tabControlWrite true v.toNat
    | 0x12 => s.opcControl v
    | _ => s

/-! ### Configuration registers that no command row names -/

/-- A register that only stores (R4, R5): its writable bits in every copy a write reaches. -/
def State.plainWrite (s : State) (addr : Nat) (home : Home) (v : Word) : State :=
  match regRow addr with
  | none => s
  | some r =>
    if r.wr = 0 then s
    else (s.copies home).foldl (fun t c => t.putWord addr c (v &&& BitVec.ofNat 32 r.wr)) s

/-- A write of THN.CONFIG, TRK_SNK or TRK_REQ0-7 (R215). -/
def State.thnWrite (s : State) (off : Nat) (v : Word) : State :=
  let r := F.THN_EVENT_cfg_refused
  if off = 0x24 then
    s.cfgWrite [⟨F.THN_CONFIG_ports, 0, 255, true⟩, ⟨F.THN_CONFIG_poll_ms, 1, 100, false⟩, ⟨F.THN_CONFIG_slew_max, 5, 150, false⟩,
      ⟨F.THN_CONFIG_v10_only, 0, 1, true⟩, ⟨F.THN_CONFIG_auto_enter, 0, 1, true⟩, ⟨F.THN_CONFIG_trk_snk_en, 0, 1, true⟩,
      ⟨F.THN_CONFIG_trk_src_en, 0, 1, true⟩] r true v
  else if off = 0x28 then
    s.cfgWrite [⟨F.THN_TRK_SNK_vmax, 150, 480, false⟩, ⟨F.THN_TRK_SNK_vmin, 150, 480, false⟩] r true v
  else if 0xA0 ≤ off ∧ off ≤ 0xBC then
    let k := (off - 0xA0) / 4
    s.cfgWrite [⟨F.THN_TRK_REQ_vhi k, 1, 511, false⟩, ⟨F.THN_TRK_REQ_vlo k, 1, 511, false⟩, ⟨F.THN_TRK_REQ_slew k, 5, 150, false⟩] r true v
  else s

/-- A frame_ticks of 0 disables locking (R79): a lock that is held ends, and every anchor stays where it stands. The rule names no event for
it (DESIGN CHOICE, log entry 68). -/
def State.lockDisable (s : State) : State :=
  if s.get F.TB_SYNC_CFG_frame_ticks = 0 then
    ({ s with tb := { s.tb with bad := 0, frames := 0 } } : State).set F.TB_STATUS_lock 0 |>.set F.TB_FRAME_MEAS_good 0
  else s

/-- A write of TB.SYNC_CFG or SYNC_OUT (R80, R82, R434). -/
def State.syncWrite (s : State) (off : Nat) (v : Word) : State :=
  if off = 0x30 then
    (s.cfgWrite [⟨F.TB_SYNC_CFG_frames, 1, 256, false⟩, ⟨F.TB_SYNC_CFG_frame_ticks, 0, 65535, true⟩] F.TB_EVENT_cfg_refused true v).lockDisable.lockChecks
  else
    s.cfgWrite [⟨F.TB_SYNC_OUT_out_delay, 0, 65535, true⟩, ⟨F.TB_SYNC_OUT_out_ticks, 0, 65535, true⟩] F.TB_EVENT_cfg_refused true v

/-- A write of HTH.VOTE_CFG (R359). -/
def State.voteCfgWrite (s : State) (v : Word) : State :=
  s.cfgWrite [⟨F.HTH_VOTE_CFG_fence_off, 0, 1, true⟩, ⟨F.HTH_VOTE_CFG_trial, 1, 255, false⟩, ⟨F.HTH_VOTE_CFG_miss_tol, 0, 15, true⟩]
    F.HTH_EVENT_cfg_refused true v

/-- A GRACE register that Table 17.3 gives a value for a half: the other half reads 0 and takes no write. -/
def State.graceWrite (s : State) (g : Nat) (v : Word) : State :=
  let half (f : Field) : List CfgField := if s.get f = 0 then [] else [⟨f, 1, 10000, false⟩]
  let l := half (F.FLU_GRACE_persist g) ++ half (F.FLU_GRACE_grace g)
  if cfgFits v l then l.foldl (fun t c => t.set c.f (s.cfgValue v c)) s else s.set F.FLU_EVENT_cfg_refused 1

/-- A write of an FLU configuration register (R382). -/
def State.fluWrite (s : State) (off : Nat) (v : Word) : State :=
  if off = 0x20 then
    let l : List CfgField :=
      [⟨F.FLU_CONFIG_l3_auto, 0, 1, true⟩, ⟨F.FLU_CONFIG_log_l0, 0, 1, true⟩, ⟨F.FLU_CONFIG_l3_hold, 1, 100, false⟩,
       ⟨F.FLU_CONFIG_l3_limit, 1, 15, false⟩, ⟨F.FLU_CONFIG_quiet_s, 1, 60, false⟩]
    if cfgFits v l then l.foldl (fun t c => t.set c.f (s.cfgValue v c)) s else s.set F.FLU_EVENT_cfg_refused 1
  else if 0x24 ≤ off ∧ off ≤ 0x54 then s.graceWrite ((off - 0x24) / 4) v
  else if off = 0xA0 then s.inject v.toNat
  else s.plainWrite (0x0300 + off) .single v

/-- A register of a port page beyond its header. -/
def State.portRegWrite (s : State) (page off : Nat) (v : Word) : State :=
  let n := pagePort page
  let addr := page * 256 + off
  match page % 8 with
  | 0 =>
    match off with
    | 0x20 => s.ccConfigWrite n false v
    | 0x24 => s.ccConfigWrite n true v
    | 0x28 => s.vconnCfgWrite n v
    | 0x34 => s.set (F.CC_SNK_DISC_vth n) (keep0 (bitsGet v 0 9) (s.get (F.CC_SNK_DISC_vth n)))
    | _ => s
  | 1 => if off = 0x20 then s.msgConfigWrite n false v else if off = 0x24 then s.msgConfigWrite n true v else s
  | 2 => if off = 0x30 then s.capsCfgWrite n v else s.plainWrite addr (.port n) v
  | 4 =>
    match off with
    | 0x20 => s.carrierWrite n v
    | 0x24 => s.timingWrite n v
    | 0x28 => s.stgConfigWrite n .imonCfg v
    | 0x2C => s.stgConfigWrite n .pwmCfg v
    | 0x30 => s.stgConfigWrite n .spCfg v
    | 0x34 => s.spManualWrite n v
    | 0x3C => s.stgConfigWrite n .vloopCfg v
    | _ =>
      if 0x44 ≤ off ∧ off < 0x54 then s.bankWrite n true false (Fin.ofNat 4 ((off - 0x44) / 4)) v
      else if 0x54 ≤ off ∧ off < 0x64 then s.bankWrite n true true (Fin.ofNat 4 ((off - 0x54) / 4)) v
      else s
  | 5 =>
    match off with
    | 0x20 => s.stgConfigWrite n .ilpCfg v
    | 0x24 => s.stgConfigWrite n .ilimits v
    | _ =>
      if 0x34 ≤ off ∧ off < 0x44 then s.bankWrite n false false (Fin.ofNat 4 ((off - 0x34) / 4)) v
      else if 0x44 ≤ off ∧ off < 0x54 then s.bankWrite n false true (Fin.ofNat 4 ((off - 0x44) / 4)) v
      else s
  | 6 => s.fndWrite n off v
  | 7 => s.thmWrite n off v
  | _ => s.plainWrite addr (.port n) v

/-- A register of a device page beyond its header. -/
def State.devRegWrite (s : State) (page off : Nat) (v : Word) : State :=
  let plain := s.plainWrite (page * 256 + off) (pageHome page) v
  match page with
  | 0x01 => if off = 0x20 then s.pstateWrite v else plain
  | 0x02 => if off = 0x20 then s.tbConfigWrite v else if off = 0x30 ∨ off = 0x34 then s.syncWrite off v else s
  | 0x03 => s.fluWrite off v
  | 0x05 => if off = 0x20 then s.otpCmdWrite v else plain
  | 0x06 => if off = 0x20 then s.smbConfigWrite v else s
  | 0x07 => if off = 0x24 ∨ off = 0x28 then s.certLenWrite (Fin.ofNat 2 ((off - 0x24) / 4)) v else plain
  | 0x08 => s.drtWrite off v
  | 0x09 => s.runWrite off v
  | 0x0A => s.fedWrite off v
  | 0x0B | 0x0C =>
    if off = 0x28 then
      let f := F.CMP_CFG_REFUSED_refused (page - 0x0B)
      s.set f (Nat.land (s.get f) (v.toNat.xor 0xFFFFFFFF))
    else if 0x2C ≤ off ∧ off ≤ 0xA8 then s.cmpCfgWrite (Fin.ofNat 64 (32 * (page - 0x0B) + (off - 0x2C) / 4)) v
    else s
  | 0x0D => if off = 0x20 then s.modeWrite v else if off = 0x24 then s.voteCfgWrite v else s
  | 0x0F => if 0x20 ≤ off ∧ off ≤ 0x34 then s.eachHearth fun t h => t.trcConfig h (Fin.ofNat 6 ((off - 0x20) / 4)) v else plain
  | 0x12 =>
    if 0x20 ≤ off ∧ off ≤ 0x3C then s.opcWindowCfg (Fin.ofNat 8 ((off - 0x20) / 4)) false v
    else if 0x40 ≤ off ∧ off ≤ 0x5C then s.opcWindowCfg (Fin.ofNat 8 ((off - 0x40) / 4)) true v
    else if 0x60 ≤ off ∧ off ≤ 0x7C then s.opcModel (Fin.ofNat 8 ((off - 0x60) / 4)) false v
    else if 0x80 ≤ off ∧ off ≤ 0x9C then s.opcModel (Fin.ofNat 8 ((off - 0x80) / 4)) true v
    else plain
  | 0x13 => s.thnWrite off v
  | 0x60 => if off = 0x20 then s.viewSelWrite .A v else s
  | 0x66 => if off = 0x20 then s.viewSelWrite .B v else s
  | 0x63 => if off = 0x20 ∧ s.powered .A then s.set (F.TRACE_WIN_ADDR .A) (bitsGet v 0 15) else s
  | 0x69 => if off = 0x20 ∧ s.powered .B then s.set (F.TRACE_WIN_ADDR .B) (bitsGet v 0 15) else s
  | _ => plain

/-- A committed write of the register at a byte address (R4, R410, R412, R424): on a page that does not answer it is not acted on. -/
def State.hostWrite (s : State) (addr : Nat) (v : Word) : State :=
  let page := pageOf addr
  let off := addr % 256 / 4 * 4
  if !s.pageAnswers page then s
  else
    match off with
    | 0x00 | 0x04 | 0x1C => s
    | 0x08 => s.eventClear page v.toNat
    | 0x0C => s.eventEnable page v.toNat
    | 0x10 => s.forceWrite page v.toNat
    | 0x14 => s.controlWrite page v
    | 0x18 => if hasKey page then s.set (keyField page) v.toNat else s
    | _ => if 0x20 ≤ page ∧ page ≤ 0x5F then s.portRegWrite page off v else s.devRegWrite page off v

def execRegisterWrite (addr : Nat) (value : Word) (s : State) : Host.Outcome State Fault Refusal := .next (s.hostWrite (addr % 65536) value)

def execEventW1cWrite (page : BitVec 8) (value : Word) (s : State) : Host.Outcome State Fault Refusal :=
  .next (s.answered page.toNat fun s => s.eventClear page.toNat value.toNat)

def execEventEnWrite (page : BitVec 8) (value : Word) (s : State) : Host.Outcome State Fault Refusal :=
  .next (s.answered page.toNat fun s => s.eventEnable page.toNat value.toNat)

def execSmbRealert (s : State) : Host.Outcome State Fault Refusal :=
  .next (s.answered 6 fun s => s.realert)

def execSmbConfigWrite (value : Word) (s : State) : Host.Outcome State Fault Refusal :=
  .next (s.answered 6 fun s => s.smbConfigWrite value)

/-- An EVENT bit that EVENT_EN enables is set: an alert cause (R415). -/
def execAlertCause (page : BitVec 8) (bit : Fin 32) (s : State) : Host.Outcome State Fault Refusal :=
  .next (
    if hasEvent page.toNat bit.val ∧ bitOf (s.storedWord (page.toNat * 256 + 0x08) none).toNat bit.val ∧
        bitOf (s.storedWord (page.toNat * 256 + 0x0C) none).toNat bit.val then s.alertCause
    else s)

/-! ### Reads (R4, R72, R411, R412) -/

/-- What a sampled register returns. -/
def State.hostRead (s : State) (addr : Nat) : Word := if s.pageAnswers (pageOf addr) then s.regView addr else 0

/-- Sampling a TBASE_LO latches TBASE_HI (R72, R411). -/
def State.tbaseSample (s : State) (addr : Nat) : State :=
  if addr = 0x0224 ∧ s.pageAnswers 2 then s.set F.TB_TBASE_HI_tbase (s.tbase.toNat / 2 ^ 32) else s

/-- What an orderly read of a register leaves behind: RC fields clear; low_water starts again from pool_free (Tables 6.7, 20.4). -/
def State.readEffect (s : State) (addr : Nat) : State :=
  if !s.pageAnswers (pageOf addr) then s
  else if addr = 0x0028 then s.set F.DEV_RESET_CAUSE_cause 0
  else if 0x2000 ≤ addr ∧ addr < 0x6000 ∧ pageOf addr % 8 = 1 ∧ addr % 256 = 0x28 then
    let n := pagePort (pageOf addr)
    s.set (F.MSG_POOL_STATUS_low_water n) (s.poolFree n)
  else s

def execResetCauseRead (s : State) : Host.Outcome State Fault Refusal := .next ((s.returnWord (s.hostRead 0x0028)).readEffect 0x0028)

def execLowWaterRead (n : Port) (s : State) : Host.Outcome State Fault Refusal :=
  let a := portPage n 1 * 256 + 0x28
  .next ((s.returnWord (s.hostRead a)).readEffect a)

/-! ### Table windows (R408, Table 19.5) -/

/-- Bytes of a unit of a page's window; none where the page has no window. -/
def windowUnit (page : Nat) : Option Nat :=
  match page with
  | 0x07 | 0x0F | 0x12 | 0x63 | 0x69 => some 4
  | 0x10 | 0x11 => some 8
  | _ => none

/-- A word of the certificate window: staged bytes while loading, otherwise the slot's. -/
def State.idnRead (s : State) : State :=
  let x := s.hearthOf s.devHearth
  let slot := s.get F.IDN_WIN_ADDR_slot
  let k := s.get F.IDN_WIN_ADDR_word
  let active := if slot = 0 then x.cert0 else x.cert1
  let byte (i : Nat) : Byte :=
    if s.get F.IDN_STATUS_state = 1 then sparseRead (fun _ => 0) x.certStage (2048 * slot + 4 * k + i) else active[4 * k + i]?.getD 0
  (s.returnBytes ((List.range 4).map byte)).set F.IDN_WIN_ADDR_word (k + 1)

/-- A unit written through a page's window. The trace buffers take no write (R274). -/
def State.windowWrite (s : State) (page : Nat) (l : List Byte) : State :=
  let w := (bytesWords l)[0]?.getD 0
  let e : Entry64 := BitVec.ofNat 64 (w.toNat + ((bytesWords l)[1]?.getD 0).toNat * 2 ^ 32)
  match page with
  | 0x07 => s.idnWindowWrite w
  | 0x10 => s.tabWrite false e
  | 0x11 => s.tabWrite true e
  | 0x12 => s.opcWrite w
  | 0x0F => s.eventIn s.devHearths F.TRC_EVENT_window_refused 3
  | 0x63 => if s.powered .A then s.eventIn [.A] F.TRC_EVENT_window_refused 3 else s
  | 0x69 => if s.powered .B then s.eventIn [.B] F.TRC_EVENT_window_refused 3 else s
  | _ => s

/-- A unit read through a page's window: its bytes are put on the bus and the index advances. -/
def State.windowRead (s : State) (page : Nat) : State :=
  match page with
  | 0x07 => s.idnRead
  | 0x10 => s.tabRead false
  | 0x11 => s.tabRead true
  | 0x12 => s.opcRead
  | 0x0F => s.trcRead none
  | 0x63 => s.trcRead (some .A)
  | 0x69 => s.trcRead (some .B)
  | _ => s

/-- Units taken one after the other from bytes. -/
def State.windowWrites (s : State) (page unit : Nat) : Nat → List Byte → State
  | 0, _ => s
  | k + 1, l => (s.windowWrite page (l.take unit)).windowWrites page unit k (l.drop unit)

/-- The bytes of `k` units, and the state after them. -/
def State.windowReads (s : State) (page : Nat) : Nat → List Byte × State
  | 0 => ([], s)
  | k + 1 =>
    let t := s.windowRead page
    let r := t.windowReads page k
    (t.pins.out ++ r.1, r.2)

end Sys2Proof.Machine
end

