-- ==== Sys2Proof/Machine/Adc.lean ====
section
/-! DEFINITION. The housekeeping converter (R435-R437): its slots, its channels, and what is made of their codes. -/

namespace Sys2Proof.Machine

/-- The channel of a slot (R435). -/
def slotChannel (s : Nat) : Nat :=
  if s % 8 = 0 then 8
  else if s % 8 = 4 then 9
  else if s % 4 = 2 then (s - 2) / 4 % 8
  else 10 + (s - 1) / 2 % 38

/-- The slot that ends on this tick (R435): slot s covers the ticks s x p to (s + 1) x p. -/
def State.slotNow (s : State) : Nat := (s.tbase - 1).toNat / (s.tickKhz / 1000)

/-- A path current in 10 mA (Table 20.7): (c - 2,048) x V_fs / (2,048 x Rsns), with V_fs 15 mV x (fs + 1) and rsns in 0.01 mΩ. -/
def State.pathCurrent (s : State) (n : Port) (c : Nat) : Int :=
  ((c : Int) - 2048) * (150000 * (s.get (F.FND_SENSE_CFG_fs n) + 1)) / (2048 * s.get (F.FND_SENSE_CFG_rsns n))

/-- |V(Pn_ISNS_N) - V(Pn_VBUS)| in 15 mV steps, from the last codes. -/
def State.pairCodes (s : State) (n : Port) : Nat := ((s.adc (18 + n.val) : Int) - s.adc (10 + n.val)).natAbs

/-- A path-current sample (R319): the gate that regulates follows the current's direction (R311), its square and the linear power of the FET that regulates enter the sums of the epoch, and FND.MEAS
shows it. -/
def State.pathSample (s : State) (n : Port) (c : Nat) : State :=
  let i := s.pathCurrent n c
  let mw := 3 * s.pairCodes n * i.natAbs / 20
  let reg := if s.get (F.FND_STATUS_reg n) = 0 ∨ i = 0 then s.get (F.FND_STATUS_reg n) else if i < 0 then 2 else 1
  let t := (s.set (F.FND_STATUS_reg n) reg).modFnd n fun f => { f with
    sumI2 := f.sumI2 + i.natAbs * i.natAbs
    count := f.count + 1
    sumLinS := f.sumLinS + (if reg = 1 then mw else 0)
    sumLinB := f.sumLinB + (if reg = 2 then mw else 0) }
  t.set (F.FND_MEAS_i n) (unsigned 16 i)

/-- FND.MEAS.vpair, in 10 mV. -/
def State.pairShow (s : State) (n : Port) : State := s.set (F.FND_MEAS_vpair n) (3 * s.pairCodes n / 2)

/-- A feed current in mA: (c - 2,048) x 60 mV / (2,048 x rfsns), rfsns in 0.01 mΩ. -/
def State.feedCurrent (s : State) (f c : Nat) : Int := ((c : Int) - 2048) * 6000000 / (2048 * s.get (F.FED_FEED_SNS_rfsns f))

/-- A feed-current sample: FED.MEAS shows it, and for the selected feed V x I enters the sum of the epoch (R326). -/
def State.feedSample (s : State) (f c : Nat) : State :=
  let i := s.feedCurrent f c
  let t := s.set (F.FED_MEAS_i f) (unsigned 16 (i / 100))
  if s.get F.FED_STATUS_selected = f then
    { t with feeds := { t.feeds with sumP := t.feeds.sumP + 15 * (s.adc (26 + f) : Int) * i / 1000, countP := t.feeds.countP + 1 } }
  else t

/-- A supply's code: its supervisor shows it in range again at the rising threshold (Tables 3.1 and 20.5), 1.55 V for VDDIO, 4.30 V for VDRV
and 4.55 V for VCONN_IN. Falls come as commands of their own. -/
def State.supplySample (s : State) (ch c : Nat) : State :=
  let mv := 3 * c / 2
  if ch = 41 ∧ 1550 ≤ mv then s.set F.EMB_STATUS_vddio_ok 1
  else if ch = 42 ∧ 4300 ≤ mv then s.set F.EMB_STATUS_vdrv_ok 1
  else if ch = 43 then (if 4550 ≤ mv then s.set F.EMB_STATUS_vconn_in_ok 1 else s).allPorts State.vconnRevShow
  else s

/-- Pn_VBUS at or below vSafe0V ends the DSCHG that Level 3 keeps on (Table 2.7). -/
def State.l3Discharged (s : State) (n : Port) : State :=
  if s.flag F.FLU_STATUS_l3 then s.dschgOff n else s

/-- A feed's voltage against its window of qualification, [uv + 0.3 V, ov - 0.3 V]: the tick from which it has held, while the windows are
checked (R325). -/
def State.feedWindow (s : State) (f : Feed) (mv : Nat) : State :=
  let ok : Bool := s.fedWatch && 100 * s.get (F.FED_FEED_WIN_uv f.val) + 300 ≤ mv && mv + 300 ≤ 100 * s.get (F.FED_FEED_WIN_ov f.val)
  s.modFed fun x => { x with inFrom := x.inFrom.set f.val (if !ok then none else some (match x.inFrom.get f with | some t => t | none => s.tbase.toNat)) }

/-- What a channel's new code is used for. -/
def State.slotUse (s : State) (ch c : Nat) : State :=
  if ch < 8 then s.pathSample (Fin.ofNat 8 ch) c
  else if ch = 8 then { s with draught := { s.draught with peak0 := max s.draught.peak0 c } }
  else if ch = 9 then { s with draught := { s.draught with peak1 := max s.draught.peak1 c } }
  else if ch < 18 then
    let n : Port := Fin.ofNat 8 (ch - 10)
    (((if 15 * c ≤ 800 then s.l3Discharged n else s).sinkDetachTimer n (15 * c)).windowsFollow n).pairShow n
  else if ch < 26 then (s.windowsFollow (Fin.ofNat 8 (ch - 18))).pairShow (Fin.ofNat 8 (ch - 18))
  else if ch < 30 then (s.set (F.FED_MEAS_v (ch - 26)) (3 * c / 2)).feedWindow (Fin.ofNat 4 (ch - 26)) (15 * c)
  else if ch < 34 then s.feedSample (ch - 30) c
  else if ch = 34 then s.set F.FED_BUS_v_bus (3 * c / 2)
  else if ch < 39 then s.ntcWatch (Fin.ofNat 4 (ch - 35)) c
  else s.supplySample ch c

/-- The end of a slot (R435-R437): the channel's code, STATUS.last, the rail event of a slow channel, and SEQ at the end of its cycle. -/
def State.slotEnd (s : State) (c : Nat) : State :=
  let ch := slotChannel s.slotNow
  let t := (s.set (adcField ch) c).set F.ADC_STATUS_last ch
  let t := if 10 ≤ ch ∧ (c = 0 ∨ c = 4095) then t.event F.ADC_EVENT_rail else t
  let t := if ch = 47 then t.bump F.ADC_SEQ_cycles else t
  t.slotUse ch c

def execHousekeepingSlot (code : BitVec 12) (s : State) : Host.Outcome State Fault Refusal := .next (s.slotEnd code.toNat)

end Sys2Proof.Machine
end

