-- ==== Sys2Proof/Machine/Smb.lean ====
section
/-! DEFINITION. The SMBus target (chapter 19): transactions with their PEC, commit, counts and errors, the table port, alerts, timeouts, and
the two accesses that wake the device. -/

namespace Sys2Proof.Machine

/-! ### PEC (R403, R409) -/

/-- `k` steps of the CRC-8 with polynomial x^8 + x^2 + x + 1. -/
def crc8Steps : Nat → Nat → Nat
  | 0, c => c
  | k + 1, c => crc8Steps k (if 128 ≤ c then (2 * c - 256).xor 7 else 2 * c)

/-- CRC-8 over bytes, initial value 0. -/
def crc8 (l : List Byte) : Byte := BitVec.ofNat 8 (l.foldl (fun c b => crc8Steps 8 (c.xor b.toNat)) 0)

/-- The address byte of a write, or of a read. -/
def State.addrByte (s : State) (read : Bool) : Byte := BitVec.ofNat 8 (2 * s.get F.SMB_STATUS_addr + bn read)

/-! ### When the target takes a transaction (Table 19.1, R56, R413, R414) -/

/-- A transaction runs: in Lit, Banked, Fuse Hold, while held at step 5, and from step 6. -/
def State.targetAnswers (s : State) : Bool :=
  match s.ember.dev with
  | .lit | .banked | .fuseHold | .held => true
  | .startup => 6 ≤ s.ember.step
  | _ => false

/-- A START: the transaction held since Smoulder keeps the address it matched; the one after it takes the address re-sampled at the wake
(R38, R413). -/
def State.txnStart (s : State) : State :=
  match s.pins.wakeAddr with
  | some _ => { s with pins := { s.pins with wakeAddr := none } }
  | none =>
    match s.ember.addrNext with
    | some p => ({ s with ember := { s.ember with addrNext := none } } : State).sampleAddr p
    | none => s

/-- A command code that reaches a hearth-held page in Banked ends Banked; the transaction proceeds in Lit (R414). -/
def State.codeTaken (s : State) (code : Nat) : State :=
  if s.ember.dev = .banked ∧ s.ember.entry = none ∧ (code < 0x80 ∨ code = 0xE3) ∧ hearthHeldPage (s.get F.SMB_STATUS_page) then
    s.wakeBanked .hearthAccess false
  else s

/-- The target acknowledges its address and holds SCL: from start-up step 3 until step 6 is complete (R56, R414). -/
def State.targetHolds (s : State) : Bool := s.ember.dev = .startup && 3 ≤ s.ember.step && s.ember.step < 6

/-- A transaction to the own address: it runs where the target answers, and is held where the target stretches SCL; while one is held the
controller can begin no other. -/
def State.onBus (s : State) (i : Instr) (f : State → State) : State :=
  if s.targetAnswers then f s.txnStart
  else if s.targetHolds ∧ s.pins.held = none then
    ({ s with pins := { s.pins with held := some i } } : State).set F.SMB_STATUS_stretch 1
  else s

/-- A transaction with a command code. -/
def State.txn (s : State) (i : Instr) (code : Nat) (f : State → State) : State := s.onBus i fun t => f (t.codeTaken code)

/-- What a register sampled by a read returns (R411): SMB.STATUS shows the transaction that reads it. -/
def State.busRead (s : State) (addr : Nat) : Word := if addr = 0x0604 ∧ s.pageAnswers 6 then s.hostRead addr ||| 0x200 else s.hostRead addr

/-! ### Errors and commits (R410, R420, Table 19.9) -/

/-- The event of a reason. -/
def errEvent (reason : Nat) : Field :=
  match reason with
  | 1 | 2 => F.SMB_EVENT_pec_fail
  | 3 => F.SMB_EVENT_bad_cmd
  | 4 => F.SMB_EVENT_bad_count
  | 6 | 11 => F.SMB_EVENT_abandoned
  | 8 => F.SMB_EVENT_scl_timeout
  | 9 => F.SMB_EVENT_sda_stuck
  | _ => F.SMB_EVENT_protocol

/-- A transaction that does not commit, a refusal, or a read that does not end in order. -/
def State.smbErr (s : State) (reason code bytes : Nat) : State :=
  let t := s.eventHost (errEvent reason)
  let t := if reason = 1 ∨ reason = 2 then t.soot 6 0 else t
  let t := ((t.set F.SMB_LAST_ERR_reason reason).set F.SMB_LAST_ERR_cmd code).set F.SMB_LAST_ERR_page (s.get F.SMB_STATUS_page)
  (t.set F.SMB_LAST_ERR_bytes (min 255 bytes)).bumpSat F.SMB_COUNTS_failed

/-- A write reaches its commit point. -/
def State.smbCommit (s : State) (act : State → State) : State := act ((s.bump F.SMB_SEQ_commits).bumpSat F.SMB_COUNTS_committed)

/-- The end of a write of `len` data bytes (Table 19.6, R410, R411): `wire` is what precedes the data, `stream` what the controller sends from
the first data byte to its STOP. A commit that resets the target ends its part in the transaction. -/
def State.smbWrite (s : State) (code len : Nat) (wire stream : List Byte) (act : List Byte → State → State) : State :=
  if stream.length < len then s.smbErr 6 code stream.length
  else
    let got := stream.take len
    let surplus (t : State) (rest : List Byte) : State := if rest.isEmpty ∨ ¬ t.targetAnswers then t else t.smbErr 7 code len
    match s.get F.SMB_CONFIG_pec, stream.drop len with
    | 0, rest => surplus (s.smbCommit (act got)) rest
    | m, [] => if m = 2 then s.smbErr 2 code len else s.smbCommit (act got)
    | _, b :: rest => if b = crc8 (s.addrByte false :: wire ++ got) then surplus (s.smbCommit (act got)) rest else s.smbErr 1 code len

/-- Words written to registers in ascending offset (R410). -/
def State.writeWords (s : State) (addr : Nat) : List Word → State
  | [] => s
  | w :: l => (s.hostWrite addr w).writeWords (addr + 4) l

/-- The byte address of register `n` of the selected page. -/
def State.regAddr (s : State) (n : Nat) : Nat := s.get F.SMB_STATUS_page * 256 + 4 * n

/-- Write 32 (R404, R410): `tail` is what the controller sends after the four bytes. -/
def execRegWrite32 (reg : Fin 64) (value : Word) (tail : List Byte) (s : State) : Host.Outcome State Fault Refusal :=
  .next (s.txn (.regWrite32 reg value tail) reg.val fun t =>
    t.smbWrite reg.val 4 [BitVec.ofNat 8 reg.val] (wordBytes value ++ tail) fun l u => u.writeWords (u.regAddr reg.val) (bytesWords l))

/-- Block Write (R406): `stream` is what the controller sends after the count. -/
def execBlockWrite (reg : Fin 64) (count : BitVec 8) (stream : List Byte) (s : State) : Host.Outcome State Fault Refusal :=
  let code := 0x40 + reg.val
  .next (s.txn (.blockWrite reg count stream) code fun t =>
    if 252 < count.toNat ∨ count.toNat % 4 ≠ 0 ∨ 4 * (64 - reg.val) < count.toNat then t.smbErr 4 code count.toNat
    else if count = 0 then t
    else t.smbWrite code count.toNat [BitVec.ofNat 8 code, count] stream fun l u => u.writeWords (u.regAddr reg.val) (bytesWords l))

/-- PAGE_SELECT (R404, R407): a second byte that is not 0 is refused. -/
def execPageSelect (page byte1 : BitVec 8) (tail : List Byte) (s : State) : Host.Outcome State Fault Refusal :=
  .next (s.txn (.pageSelect page byte1 tail) 0xE0 fun t =>
    if byte1 ≠ 0 then t.smbErr 12 0xE0 1
    else t.smbWrite 0xE0 2 [0xE0] (page :: byte1 :: tail) fun _ u => u.set F.SMB_STATUS_page page.toNat)

/-- The dialect in force after a request of a major above 0 (R427). -/
def State.dialectWrite (s : State) (major : Nat) : State :=
  if major = 0 then s
  else
    let t := (s.set F.DEV_DIALECT_requested major).set F.DEV_DIALECT_major 1
    if 1 < major then t.eventHost F.DEV_EVENT_dialect_down else t

def execDialectWrite (major : BitVec 8) (tail : List Byte) (s : State) : Host.Outcome State Fault Refusal :=
  .next (s.txn (.dialectWrite major tail) 0xE1 fun t => t.smbWrite 0xE1 1 [0xE1] (major :: tail) fun _ u => u.dialectWrite major.toNat)

/-! ### Reads that end in order (R405, R409, R411) -/

/-- The first `take` bytes of a read: its payload, then PEC, or 0xFF with PEC off. -/
def State.readBytes (s : State) (code take : Nat) (payload : List Byte) : State :=
  let pec : Byte := if s.get F.SMB_CONFIG_pec = 0 then 0xFF else crc8 ([s.addrByte false, BitVec.ofNat 8 code, s.addrByte true] ++ payload)
  s.returnBytes ((payload ++ [pec]).take take)

/-- Read 32, of which the controller takes `take` bytes. -/
def execRegRead32 (reg : Fin 64) (take : Nat) (s : State) : Host.Outcome State Fault Refusal :=
  .next (s.txn (.regRead32 reg take) reg.val fun t =>
    let a := t.regAddr reg.val
    let t := t.tbaseSample a
    let u := t.readBytes reg.val take (wordBytes (t.busRead a))
    if 4 ≤ take then u.readEffect a else u)

/-- Effects of the `k` registers from `a` on that were sent whole. -/
def State.readEffects (s : State) (a : Nat) : Nat → State
  | 0 => s
  | k + 1 => (s.readEffect a).readEffects (a + 4) k

/-- Block Read (R406): count = min(rd_len, 4 x (64 - n)), then the registers. -/
def execBlockRead (reg : Fin 64) (take : Nat) (s : State) : Host.Outcome State Fault Refusal :=
  let code := 0x40 + reg.val
  .next (s.txn (.blockRead reg take) code fun t =>
    let a := t.regAddr reg.val
    let k := min (t.get F.SMB_CONFIG_rd_len) (4 * (64 - reg.val)) / 4
    let t := (List.range k).foldl (fun t i => t.tbaseSample (a + 4 * i)) t
    let data := (List.range k).flatMap fun i => wordBytes (t.busRead (a + 4 * i))
    (t.readBytes code take (BitVec.ofNat 8 (4 * k) :: data)).readEffects a (min k ((take - 1) / 4)))

def execPageSelectRead (take : Nat) (s : State) : Host.Outcome State Fault Refusal :=
  .next (s.txn (.pageSelectRead take) 0xE0 fun t => t.readBytes 0xE0 take [BitVec.ofNat 8 (t.get F.SMB_STATUS_page), 0])

def execDialectRead (take : Nat) (s : State) : Host.Outcome State Fault Refusal :=
  .next (s.txn (.dialectRead take) 0xE1 fun t =>
    t.readBytes 0xE1 take [BitVec.ofNat 8 (t.get F.DEV_DIALECT_major), BitVec.ofNat 8 (t.get F.DEV_DIALECT_minor)])

/-- The alert of mode 0 is released: every alert bit that stands is answered, but for those set on this very tick (R416). -/
def State.alertRelease (s : State) : State :=
  if s.flag F.SMB_CONFIG_alert_mode then s
  else
    let l := (List.range 128).foldl (fun m p => sparseWrite (fun _ => 0) m p (s.alertBits p &&& ~~~s.alertNow p)) []
    ({ s with pins := { s.pins with acked := l } } : State).set F.SMB_STATUS_alert 0

/-- ALERT_SOURCE (R404, R416): the four summary registers; sent whole, the read releases the alert in mode 0. -/
def execAlertSourceRead (take : Nat) (s : State) : Host.Outcome State Fault Refusal :=
  .next (s.txn (.alertSourceRead take) 0xE2 fun t =>
    let data := (List.range 4).flatMap fun k => wordBytes (BitVec.ofNat 32 (t.alertSummary k))
    let u := t.readBytes 0xE2 take (16 :: data)
    if 17 ≤ take then u.alertRelease else u)

/-! ### The table port (R408) -/

/-- A Block Write of TABLE_PORT: whole units to the selected page's window; a page with none refuses the code. -/
def execTablePortWrite (count : BitVec 8) (stream : List Byte) (s : State) : Host.Outcome State Fault Refusal :=
  .next (s.txn (.tablePortWrite count stream) 0xE3 fun t =>
    let page := t.get F.SMB_STATUS_page
    match windowUnit page with
    | none => t.smbErr 3 0xE3 0
    | some unit =>
      if 252 < count.toNat ∨ count.toNat % unit ≠ 0 then t.smbErr 4 0xE3 count.toNat
      else if count = 0 then t
      else t.smbWrite 0xE3 count.toNat [0xE3, count] stream fun l u =>
        if u.pageAnswers page then u.windowWrites page unit (count.toNat / unit) l else u)

/-- A Block Read of TABLE_PORT: as many whole units as rd_len holds; the index advances over those sent whole. -/
def execTablePortRead (take : Nat) (s : State) : Host.Outcome State Fault Refusal :=
  .next (s.txn (.tablePortRead take) 0xE3 fun t =>
    let page := t.get F.SMB_STATUS_page
    match windowUnit page with
    | none => t.smbErr 3 0xE3 0
    | some unit =>
      let k := min (t.get F.SMB_CONFIG_rd_len) 252 / unit
      let head : Byte := BitVec.ofNat 8 (k * unit)
      if t.pageAnswers page then
        ((t.windowReads page (min k ((take - 1) / unit))).2).readBytes 0xE3 take (head :: (t.windowReads page k).1)
      else t.readBytes 0xE3 take (head :: List.replicate (k * unit) 0))

/-! ### Other protocols, alerts and errors (R403, R405, R415-R419) -/

/-- A Quick Command is acknowledged and has no effect. -/
def execQuickCommand (s : State) : Host.Outcome State Fault Refusal := .next (s.onBus .quickCommand fun t => t)

/-- A read whose first address byte carries R/W = 1 returns 0xFF in every byte (R405). -/
def execReadWithoutCommand (len : Nat) (s : State) : Host.Outcome State Fault Refusal :=
  .next (s.onBus (.readWithoutCommand len) fun t => (t.returnBytes (List.replicate len 0xFF)).smbErr 10 0 0)

/-- An alert response (R416): against a rival's byte the lower one wins; a byte sent whole releases the alert in mode 0. -/
def execAlertResponse (rival : Option Byte) (take : Nat) (s : State) : Host.Outcome State Fault Refusal :=
  .next (
    if s.alertPin then
      let t := s.txnStart
      let own := t.addrByte false
      let lost : Bool := match rival with | some r => r.toNat < own.toNat | none => false
      if lost then t.event F.SMB_EVENT_ara_lost
      else
        let pec : Byte := if t.get F.SMB_CONFIG_pec = 0 then 0xFF else crc8 [0x19, own]
        let u := t.returnBytes ([own, pec].take take)
        if 1 ≤ take then u.alertRelease else u
    else s)

/-- The reason code of an end (Table 19.9). -/
def endReason : TxnEnd → Nat
  | .startMid => 5 | .early => 6 | .nineClock => 11 | .badCode => 3

/-- A transaction ends without reaching its commit point, or a read without its N (R404, R410, R418, R419): nothing commits and no read side
effect takes place. `code` is none where no command code had been received. -/
def execTransactionAbandoned (how : TxnEnd) (code : Option Byte) (bytes : Nat) (s : State) : Host.Outcome State Fault Refusal :=
  .next (if s.targetAnswers then s.txnStart.smbErr (endReason how) (code.getD 0).toNat bytes else s)

/-- SCL low for more than 25 ms (R417). -/
def execSclTimeout (code : Option Byte) (bytes : Nat) (s : State) : Host.Outcome State Fault Refusal :=
  .next (if s.targetAnswers then s.txnStart.smbErr 8 (code.getD 0).toNat bytes else s)

/-- SDA low for more than 35 ms (R418): stuck_self records whether the target was driving it. -/
def execSdaStuck (self : Bool) (code : Option Byte) (bytes : Nat) (s : State) : Host.Outcome State Fault Refusal :=
  .next (if s.targetAnswers then (s.txnStart.setB F.SMB_STATUS_stuck_self self).smbErr 9 (code.getD 0).toNat bytes else s)

/-! ### Accesses that wake the device (R413, R414) -/

/-- A transaction that was held runs as it would have (R56, R413). -/
def State.txnRun (s : State) (i : Instr) : State :=
  let out : Host.Outcome State Fault Refusal :=
    match i with
    | .regWrite32 reg value tail => execRegWrite32 reg value tail s
    | .blockWrite reg count stream => execBlockWrite reg count stream s
    | .pageSelect page byte1 tail => execPageSelect page byte1 tail s
    | .dialectWrite major tail => execDialectWrite major tail s
    | .regRead32 reg take => execRegRead32 reg take s
    | .blockRead reg take => execBlockRead reg take s
    | .pageSelectRead take => execPageSelectRead take s
    | .dialectRead take => execDialectRead take s
    | .alertSourceRead take => execAlertSourceRead take s
    | .tablePortWrite count stream => execTablePortWrite count stream s
    | .tablePortRead take => execTablePortRead take s
    | .quickCommand => execQuickCommand s
    | .readWithoutCommand len => execReadWithoutCommand len s
    | _ => .next s
  match out with
  | .next t => t
  | _ => s

/-- An address match in Smoulder: only with VSYS_OK and WAKE_EN.smbus, at the address in force. It shows that VDDIO is present, whose
supervisor then reads so (Tables 3.1 and 3.2). -/
def execAddressMatchWake (addr : BitVec 7) (s : State) : Host.Outcome State Fault Refusal :=
  .next (
    if s.ember.dev = .smoulder ∧ s.flag F.EMB_WAKE_EN_smbus ∧ s.flag F.EMB_STATUS_vsys_ok ∧
        addr.toNat = s.get F.SMB_STATUS_addr then
      let t := (s.wakeSmoulder .smbus false).set F.EMB_STATUS_vddio_ok 1
      { t with pins := { t.pins with wakeAddr := some addr.toNat } }
    else s)

/-- A command code for a hearth-held page in Banked (R414). -/
def execBankedHearthAccess (code : BitVec 8) (s : State) : Host.Outcome State Fault Refusal := .next (s.codeTaken code.toNat)

end Sys2Proof.Machine
end

