-- ==== Sys2Proof/Machine/Startup.lean ====
section
/-! DEFINITION. Start-up steps 4 to 6 (Table 3.5), at whose ends the transaction that the target holds is released (R56, R413). -/

namespace Sys2Proof.Machine

/-- The transaction held since the address acknowledge is acted on (R56, R413). -/
def State.heldRun (s : State) : State :=
  match s.pins.held with
  | some i => ({ s with pins := { s.pins with held := none } } : State).txnRun i
  | none => s

/-- Step 4 (Table 3.5): every finalised region's digest is checked; a failure is Fuse Hold (R390, R58), and a held transaction proceeds
under its rules (R56). -/
def execStartupDeliveryComplete (s : State) : Host.Outcome State Fault Refusal :=
  .next (
    if s.atStep 3 then
      let t := s.otpCheckRegions.toStep 4
      if t.otpDigestFails then t.fuseHoldEnter.heldRun else t
    else s)

/-- Step 5 (Table 3.5, R57): the mode is read, the rails rise, the hearths check themselves and the boundary is enabled. A failed
hearth is fenced in Mirror, replaced by the other in Solo, and leaves its ports disabled in Split; where none passes the device is
held with FAULT_N asserted, and a held transaction proceeds (R413). -/
def execStartupDigestsGood (passA passB : Bool) (s : State) : Host.Outcome State Fault Refusal :=
  .next (
    if s.atStep 4 ∨ s.atStep 5 then
      let t := s.toStep 5
      let pass (h : Hth) : Bool := match h with | .A => passA | .B => passB
      match s.bootMode with
      | .solo =>
        let x := s.bootSolo
        let solo (t : State) (x : Hth) : State :=
          t.bootRoles .solo (if x = .A then .solo else .off) (if x = .B then .solo else .off) false
        if pass x then (solo t x).keyCheck
        else
          let t := t.selfcheckFail x
          if pass x.other then (solo t x.other).keyCheck
          else
            let t := t.selfcheckFail x.other
            t.heldEnter.heldRun
      | .mirror =>
        match passA, passB with
        | true, true => (t.bootRoles .mirror .active .shadow false).keyCheck
        | true, false => ((t.selfcheckFail .B).bootRoles .mirror .active .fenced true).keyCheck
        | false, true => ((t.selfcheckFail .A).bootRoles .mirror .fenced .active true).keyCheck
        | false, false =>
          let t := (t.selfcheckFail .A).selfcheckFail .B
          t.heldEnter.heldRun
      | .split =>
        match passA, passB with
        | true, true => (t.bootRoles .split .owner .owner false).keyCheck
        | true, false => ((t.selfcheckFail .B).bootRoles .split .owner .fenced true).keyCheck
        | false, true => ((t.selfcheckFail .A).bootRoles .split .fenced .owner true).keyCheck
        | false, false =>
          let t := (t.selfcheckFail .A).selfcheckFail .B
          t.heldEnter.heldRun
    else s)

/-- Step 6 (Table 3.5): the OTP defaults presented, seeds loaded into each running hearth, saved counters presented, the carriers fitted to
ref_khz (R75), the lost OPCT reported (R266), the clock stretch ended (R56, R413)
and the held transaction acted on. The Kindling port starts as one (Table 7.10). -/
def execStartupHearthsReady (s : State) : Host.Outcome State Fault Refusal :=
  .next (
    if s.atStep 5 ∧ (s.powered .A ∨ s.powered .B) then
      let t := s.otpDefaults.loadSeeds ([Hth.A, Hth.B].filter fun h => s.powered h)
      let t := t.presentCounters.fitCarriers.lockChecks
      let t := if t.opctLost then ({ t with opctLost := false } : State).event F.OPC_EVENT_lost else t
      let t := t.set F.SMB_STATUS_stretch 0
      let t := if t.pins.wakeAddr.isSome then t.event F.SMB_EVENT_wake else t
      let t := match t.ember.kindling with | some n => (t.point0 n).setTypec n 14 | none => t
      (t.toStep 6).heldRun
    else s)

end Sys2Proof.Machine
end

