-- ==== Sys2Proof/Machine/Thatin.lean ====
section
/-! DEFINITION. Thatin's SBU2 channel and tracking contracts (R205-R214). -/

namespace Sys2Proof.Machine

/-- One step of the CRC-16 of R207 on a bit. -/
def crc16Bit (c : BitVec 16) (b : Bool) : BitVec 16 := if c.msb ≠ b then (c <<< 1) ^^^ 0x1021 else c <<< 1

/-- The CRC-16 over a byte, most significant bit first. -/
def crc16Byte (c : BitVec 16) (b : Byte) : BitVec 16 :=
  [7, 6, 5, 4, 3, 2, 1, 0].foldl (fun c i => crc16Bit c (b.getLsbD i)) c

/-- The CRC-16 of R207: polynomial 0x1021, initial value 0xFFFF, no final inversion. -/
def crc16 (l : List Byte) : BitVec 16 := l.foldl crc16Byte 0xFFFF

/-- The low two bytes of a number, least significant first: the order on SBU2 of two-byte fields and of the CRC (DESIGN CHOICE, log 86: R207
gives the order of the bits in a byte only). -/
def bytes2 (v : Nat) : List Byte := [BitVec.ofNat 8 v, BitVec.ofNat 8 (v / 256)]

/-- An SBU2 frame is sent (R206, R207): preamble, start delimiter, header, length, payload and CRC; the sequence number advances. A reply
begins 4 µs after the frame it answers (DESIGN CHOICE, log 82: R206 allows 4-20 µs). -/
def State.sbuSend (s : State) (n : Port) (type : Nat) (payload : List Byte) : State :=
  let seq := (s.thn.get n).seqNo
  let body := BitVec.ofNat 8 (type * 16 + seq % 16) :: BitVec.ofNat 8 payload.length :: payload
  let start := s.tbase.toNat + (if s.flag (F.THN_PORT_STATUS_master n.val) then 0 else s.us 4)
  s.modThn n fun x => { x with
    seqNo := (seq + 1) % 16, out := [0x55, 0x55, 0xD5] ++ body ++ bytes2 (crc16 body).toNat, outTick := start % 2 ^ 48 }

/-- Ticks of a bit on SBU2 (R206). -/
def State.sbuBit (s : State) : Nat := (s.tickKhz + 500) / 1000

/-- The port follows the reference of its partner (R205). -/
def State.following (s : State) (n : Port) : Bool :=
  s.get F.TB_CONFIG_ref_sel = 1 && s.get F.TB_CONFIG_ref_port = n.val

/-- Payload of TELEM (Table 9.4). -/
def State.telem (s : State) (n : Port) : List Byte :=
  let i := unsigned 16 (s.iL n * s.ifs n / 32768)
  let flags := bn (s.refDrive n) + 2 * bn (s.following n) + 4 * bn (s.tracking n) + 8 * bn s.degraded
  bytes2 (s.vbusMv n / 20) ++ bytes2 i ++ [BitVec.ofNat 8 (s.get F.DRT_TJ_tj), BitVec.ofNat 8 flags] ++ bytes2 (s.get F.TB_CONFIG_ref_khz)

/-- TRK_PROPOSE is sent with terms, p_trk as of now and a new id (R209). -/
def State.sbuPropose (s : State) (n : Port) (k : TrkTerms) : State :=
  let x := s.thn.get n
  let k := { k with id := x.nextId, ptrk := (s.trkReq n).ptrk }
  let t := (s.modThn n fun x => { x with armed := none, sent := some k, broken := false, nextId := (x.nextId + 1) % 256 }).set
    (F.THN_PORT_STATUS_id n.val) k.id
  t.sbuSend n 2 (bytes2 k.vlo ++ bytes2 k.vhi ++ [BitVec.ofNat 8 k.slew, BitVec.ofNat 8 k.id, BitVec.ofNat 8 k.ptrk, 0])

/-- What an end has to send: TRK_END when one is due, a proposal that is armed and still passes R209, otherwise TELEM. -/
def State.sbuTurn (s : State) (n : Port) : State :=
  let x := s.thn.get n
  match x.ending, x.armed with
  | some r, _ =>
    (s.modThn n fun x => { x with ending := none }).sbuSend n 5 [BitVec.ofNat 8 (s.get (F.THN_PORT_STATUS_id n.val)), BitVec.ofNat 8 r]
  | none, some k =>
    if s.trkFits n k then s.sbuPropose n k
    else (s.modThn n fun x => { x with armed := none }).sbuSend n 1 (s.telem n)
  | none, none => s.sbuSend n 1 (s.telem n)

/-- A poll period ends (R206, R208): the periods without a valid frame count, and the master sends one frame. -/
def State.thatinPoll (s : State) (n : Port) : State :=
  if s.bit F.THN_STATUS_entered n.val then
    let t := (s.modThn n fun x => { x with missed := if x.heard then 0 else x.missed + 1, heard := false }).start .thatinPoll n.val (s.ms (s.get F.THN_CONFIG_poll_ms))
    if s.flag (F.THN_PORT_STATUS_master n.val) then t.sbuTurn n else t
  else s

def execThatinPoll (n : Port) (s : State) : Host.Outcome State Fault Refusal := .next (s.thatinPoll n)

/-- Tracking becomes active (R210). -/
def State.trackingActive (s : State) (n : Port) (k : TrkTerms) : State :=
  let t := s.modThn n fun x => { x with terms := some k, sent := none, broken := false, returning := none }
  let t := (t.setBit F.THN_STATUS_tracking n.val true).set (F.THN_TRK_vhi n.val) k.vhi
  let t := ((t.set (F.THN_TRK_vlo n.val) k.vlo).set (F.THN_TRK_slew n.val) k.slew).set (F.THN_TRKP_p_trk n.val) k.ptrk
  (t.stop .vthRestore n.val).event F.THN_EVENT_trk_active

/-- A slave's TRK_ACCEPT has ended on the line: tracking becomes active unless it has been broken since (R210). -/
def State.trkAccepted (s : State) (n : Port) : State :=
  match (s.thn.get n).sent with
  | some k => if (s.thn.get n).broken ∨ s.flag (F.THN_PORT_STATUS_master n.val) then s.modThn n fun x => { x with sent := none } else s.trackingActive n k
  | none => s

/-- A slave accepts a proposal: tracking waits for the end of the accepting frame, 64 bits on the line. -/
def State.sbuAccept (s : State) (n : Port) (k : TrkTerms) : State :=
  let t := (s.modThn n fun x => { x with sent := some k, broken := false }).sbuSend n 3 [BitVec.ofNat 8 k.id]
  t.start .trkAccept n.val (s.us 4 + 64 * s.sbuBit)

/-- Number in two bytes of a payload. -/
def pay2 (l : List Byte) (i : Nat) : Nat := (l[i]?.getD 0).toNat + 256 * (l[i + 1]?.getD 0).toNat
def pay1 (l : List Byte) (i : Nat) : Nat := (l[i]?.getD 0).toNat

/-- Terms of a proposal. -/
def trkOfPayload (l : List Byte) : TrkTerms :=
  { vlo := pay2 l 0, vhi := pay2 l 2, slew := pay1 l 4, id := pay1 l 5, ptrk := pay1 l 6 }

/-- Why a sink rejects a proposal (R210, Table 9.4): 0 for none. -/
def State.trkReason (s : State) (n : Port) (k : TrkTerms) : Nat :=
  if ¬ s.flag F.THN_CONFIG_trk_snk_en then 5
  else
    match (s.pol.get n).cur with
    | some c =>
      if s.sourcing n ∨ c.kind ≠ 3 ∨ ¬ c.epr then 4
      else if k.vlo < s.get F.THN_TRK_SNK_vmin ∨ s.get F.THN_TRK_SNK_vmax < k.vhi then 1
      else if s.get F.THN_CONFIG_slew_max < k.slew then 2
      else 0
    | none => 4

/-- Payload lengths of Table 9.4; none for an unknown type. -/
def sbuLength (type : Nat) : Option Nat :=
  match type with
  | 1 => some 8 | 2 => some 8 | 3 => some 1 | 4 => some 2 | 5 => some 2
  | _ => none

/-- A frame's rate lies within what the receiver accepts (R206). -/
def State.sbuRate (s : State) (f : SbuFrame) : Bool :=
  let kbps := (32 * s.tickKhz + f.ticks) / (2 * max 1 f.ticks)
  900 ≤ kbps && kbps ≤ 1100

/-- A frame is good (R207). -/
def sbuGood (f : SbuFrame) : Bool :=
  crc16 (f.header :: f.len :: f.payload) = f.crc && f.len.toNat = f.payload.length && f.len.toNat ≤ 40 &&
    sbuLength (f.header.toNat / 16) = some f.len.toNat

/-- A valid frame brings the link up (R208). -/
def State.linkUp (s : State) (n : Port) : State :=
  let t := s.modThn n fun x => { x with missed := 0, heard := true }
  if s.bit F.THN_STATUS_link n.val then t else (t.setBit F.THN_STATUS_link n.val true).event F.THN_EVENT_link_up

/-- A slave's reply to a proposal. -/
def State.sbuAnswer (s : State) (n : Port) (k : TrkTerms) : State :=
  let t := s.set (F.THN_PORT_STATUS_id n.val) k.id
  match s.trkReason n k with
  | 0 => t.sbuAccept n k
  | r => t.sbuSend n 4 [BitVec.ofNat 8 k.id, BitVec.ofNat 8 r]

/-- What the partner's TELEM, TRK_ACCEPT, TRK_REJECT or TRK_END brings about (R207, R209, R210, R212). -/
def State.sbuTold (s : State) (n : Port) (type : Nat) (l : List Byte) : State :=
  match type, (s.thn.get n).sent with
  | 1, _ =>
    let t := (s.set (F.THN_TEL_vbus n.val) (pay2 l 0)).set (F.THN_TEL_i n.val) (pay2 l 2)
    ((t.set (F.THN_TELX_temp n.val) (pay1 l 4)).set (F.THN_TELX_flags n.val) (pay1 l 5)).set (F.THN_TELX_ref_khz n.val) (pay2 l 6)
  | 3, some k =>
    if k.id ≠ pay1 l 0 ∨ ¬ s.flag (F.THN_PORT_STATUS_master n.val) then s
    else if (s.thn.get n).broken then s.modThn n fun x => { x with sent := none, ending := some 1 }
    else s.trackingActive n k
  | 4, some k =>
    if k.id ≠ pay1 l 0 ∨ ¬ s.flag (F.THN_PORT_STATUS_master n.val) then s
    else (s.modThn n fun x => { x with sent := none }).event F.THN_EVENT_trk_rejected
  | 5, _ => s.collapse n 7
  | _, _ => s

/-- The content of a valid frame is acted on; a slave sends exactly one frame in reply (R206). -/
def State.sbuAct (s : State) (n : Port) (type : Nat) (l : List Byte) : State :=
  if s.flag (F.THN_PORT_STATUS_master n.val) then s.sbuTold n type l
  else if type = 2 ∧ s.get (F.THN_PORT_STATUS_version n.val) = 2 then s.sbuAnswer n (trkOfPayload l)
  else (s.sbuTold n type l).sbuTurn n

/-- An SBU2 frame is received (R206, R207): a bad one is dropped and counted. -/
def State.sbuReceived (s : State) (n : Port) (f : SbuFrame) : State :=
  if s.bit F.THN_STATUS_entered n.val ∧ s.flag (F.CC_SBU_STATUS_sbu2_conn n) ∧ s.sbuRate f then
    if sbuGood f then (s.linkUp n).sbuAct n (f.header.toNat / 16) f.payload
    else (s.event F.THN_EVENT_frame_crc).soot 1 n
  else s

def execSbu2FrameReceived (n : Port) (f : SbuFrame) (s : State) : Host.Outcome State Fault Refusal := .next (s.sbuReceived n f)

/-- Three poll periods without a valid frame (R208). -/
def State.linkLost (s : State) (n : Port) : State :=
  if s.bit F.THN_STATUS_link n.val ∧ 3 ≤ (s.thn.get n).missed then
    ((s.setBit F.THN_STATUS_link n.val false).collapse n 4).event F.THN_EVENT_link_lost
  else s

def execThatinLinkLost (n : Port) (s : State) : Host.Outcome State Fault Refusal := .next (s.linkLost n)

/-- A trigger of Table 9.6 (reason 1-7) ends tracking. -/
def execTrackingCollapse (n : Port) (reason : Fin 7) (s : State) : Host.Outcome State Fault Refusal := .next (s.collapse n (reason.val + 1))

/-- 50 ms after a collapse the sink's threshold is that of R162 again (R211). -/
def execVthRestoreAfterCollapse (n : Port) (s : State) : Host.Outcome State Fault Refusal := .next (s.stop .vthRestore n.val)

def execThatinExit (n : Port) (s : State) : Host.Outcome State Fault Refusal := .next (s.thatinExit n)

end Sys2Proof.Machine
end

