-- ==== Sys2Proof/Machine/Dispatch.lean ====
section
/-! DEFINITION. What each command does: one arm per row of spec/opcode_table.json, each one call of that command's meaning. -/

namespace Sys2Proof.Machine

def exec (i : Instr) (s : State) : Host.Outcome State Fault Refusal :=
  match i with
  | .registerWrite addr value => Sys2Proof.Machine.execRegisterWrite addr value s
  | .emberSourceLost src => Sys2Proof.Machine.execEmberSourceLost src s
  | .wakeDuringEntry w => Sys2Proof.Machine.execWakeDuringEntry w s
  | .wakeFromBanked w => Sys2Proof.Machine.execWakeFromBanked w s
  | .wakeFromSmoulder w => Sys2Proof.Machine.execWakeFromSmoulder w s
  | .wakeFromCold w => Sys2Proof.Machine.execWakeFromCold w s
  | .wakeLatchedNoVsys w => Sys2Proof.Machine.execWakeLatchedNoVsys w s
  | .smoulderCcPoll changed => Sys2Proof.Machine.execSmoulderCcPoll changed s
  | .bankedTjSample code => Sys2Proof.Machine.execBankedTjSample code s
  | .bankedExitResense flips => Sys2Proof.Machine.execBankedExitResense flips s
  | .startupRegulatorsInRange supplies tj flips => Sys2Proof.Machine.execStartupRegulatorsInRange supplies tj flips s
  | .startupSensingComplete pins => Sys2Proof.Machine.execStartupSensingComplete pins s
  | .startupDigestsGood passA passB => Sys2Proof.Machine.execStartupDigestsGood passA passB s
  | .softReset pins => Sys2Proof.Machine.execSoftReset pins s
  | .kindlingEnable vbus => Sys2Proof.Machine.execKindlingEnable vbus s
  | .refChangeover khz => Sys2Proof.Machine.execRefChangeover khz s
  | .tbConfigWrite value => Sys2Proof.Machine.execTbConfigWrite value s
  | .coarseCalibration ticks => Sys2Proof.Machine.execCoarseCalibration ticks s
  | .carrierWrite n value => Sys2Proof.Machine.execCarrierWrite n value s
  | .switchingPeriodStart n => Sys2Proof.Machine.execSwitchingPeriodStart n s
  | .capacityMeasure nsA nsB => Sys2Proof.Machine.execCapacityMeasure nsA nsB s
  | .epochExchangeLatch published => Sys2Proof.Machine.execEpochExchangeLatch published s
  | .ccLevelChange n cc2 mv => Sys2Proof.Machine.execCcLevelChange n cc2 mv s
  | .attachDebounceExpiry n => Sys2Proof.Machine.execAttachDebounceExpiry n s
  | .detachDebounceExpiry n => Sys2Proof.Machine.execDetachDebounceExpiry n s
  | .ccOpenFast n => Sys2Proof.Machine.execCcOpenFast n s
  | .vbusNoCc n => Sys2Proof.Machine.execVbusNoCc n s
  | .otherPinChange n mv => Sys2Proof.Machine.execOtherPinChange n mv s
  | .presentationCmd n p => Sys2Proof.Machine.execPresentationCmd n p s
  | .drpTogglePhase n => Sys2Proof.Machine.execDrpTogglePhase n s
  | .ccConfigWrite n debounce value => Sys2Proof.Machine.execCcConfigWrite n debounce value s
  | .vconnEnable n => Sys2Proof.Machine.execVconnEnable n s
  | .vconnDisable n => Sys2Proof.Machine.execVconnDisable n s
  | .vconnOc hold => Sys2Proof.Machine.execVconnOc hold s
  | .vconnCfgWrite n value => Sys2Proof.Machine.execVconnCfgWrite n value s
  | .rpLevelDebounced n => Sys2Proof.Machine.execRpLevelDebounced n s
  | .ccOv n cc2 mv => Sys2Proof.Machine.execCcOv n cc2 mv s
  | .ccOvAutoRelease n cc2 mv => Sys2Proof.Machine.execCcOvAutoRelease n cc2 mv s
  | .ovRelease n => Sys2Proof.Machine.execOvRelease n s
  | .sbuOv n sbu2 => Sys2Proof.Machine.execSbuOv n sbu2 s
  | .sbuOvRelease n sbu2 => Sys2Proof.Machine.execSbuOvRelease n sbu2 s
  | .frameReceived n frame => Sys2Proof.Machine.execFrameReceived n frame s
  | .goodcrcTransmit n => Sys2Proof.Machine.execGoodcrcTransmit n s
  | .messageHandover n sop ty data => Sys2Proof.Machine.execMessageHandover n sop ty data s
  | .transmitTurn n line => Sys2Proof.Machine.execTransmitTurn n line s
  | .messageWithdraw which => Sys2Proof.Machine.execMessageWithdraw which s
  | .treceiveExpiry n => Sys2Proof.Machine.execTreceiveExpiry n s
  | .epochChangeAbandon n => Sys2Proof.Machine.execEpochChangeAbandon n s
  | .hardResetRequest n => Sys2Proof.Machine.execHardResetRequest n s
  | .cableResetRequest n => Sys2Proof.Machine.execCableResetRequest n s
  | .vconnRestoreAfterCableReset n => Sys2Proof.Machine.execVconnRestoreAfterCableReset n s
  | .hardResetReceived n => Sys2Proof.Machine.execHardResetReceived n s
  | .sinktxWaitExpiry n => Sys2Proof.Machine.execSinktxWaitExpiry n s
  | .chunkSenderTimeout n => Sys2Proof.Machine.execChunkSenderTimeout n s
  | .chunkReceiverTimeout n => Sys2Proof.Machine.execChunkReceiverTimeout n s
  | .msgFlush n epoch => Sys2Proof.Machine.execMsgFlush n epoch s
  | .msgConfigWrite n pool value => Sys2Proof.Machine.execMsgConfigWrite n pool value s
  | .policyInputTaken h => Sys2Proof.Machine.execPolicyInputTaken h s
  | .sourceCapTimer n => Sys2Proof.Machine.execSourceCapTimer n s
  | .senderResponseTimeout n => Sys2Proof.Machine.execSenderResponseTimeout n s
  | .noResponseTimeout n => Sys2Proof.Machine.execNoResponseTimeout n s
  | .sinkWaitCapTimeout n => Sys2Proof.Machine.execSinkWaitCapTimeout n s
  | .eprKeepaliveTimer n => Sys2Proof.Machine.execEprKeepaliveTimer n s
  | .sinkRerequestTimer n => Sys2Proof.Machine.execSinkRerequestTimer n s
  | .ppsTimeout n => Sys2Proof.Machine.execPpsTimeout n s
  | .budgetChange n => Sys2Proof.Machine.execBudgetChange n s
  | .draftGapExpiry n => Sys2Proof.Machine.execDraftGapExpiry n s
  | .requestReceived n => Sys2Proof.Machine.execRequestReceived n s
  | .sourceCapsReceived n => Sys2Proof.Machine.execSourceCapsReceived n s
  | .eprEnterReceived n => Sys2Proof.Machine.execEprEnterReceived n s
  | .prSwapReceived n => Sys2Proof.Machine.execPrSwapReceived n s
  | .drSwapReceived n => Sys2Proof.Machine.execDrSwapReceived n s
  | .vconnSwapReceived n => Sys2Proof.Machine.execVconnSwapReceived n s
  | .unsupportedReceived n => Sys2Proof.Machine.execUnsupportedReceived n s
  | .cmdSendCaps n epoch => Sys2Proof.Machine.execCmdSendCaps n epoch s
  | .cmdPrSwap n epoch => Sys2Proof.Machine.execCmdPrSwap n epoch s
  | .cmdDrSwap n epoch => Sys2Proof.Machine.execCmdDrSwap n epoch s
  | .cmdVconnSwap n epoch => Sys2Proof.Machine.execCmdVconnSwap n epoch s
  | .cmdGetSinkCap n epoch => Sys2Proof.Machine.execCmdGetSinkCap n epoch s
  | .cmdGetSourceCap n epoch => Sys2Proof.Machine.execCmdGetSourceCap n epoch s
  | .cmdEprEntry n epoch => Sys2Proof.Machine.execCmdEprEntry n epoch s
  | .cmdEprExit n epoch => Sys2Proof.Machine.execCmdEprExit n epoch s
  | .cmdSoftReset n epoch => Sys2Proof.Machine.execCmdSoftReset n epoch s
  | .cmdHardReset n epoch => Sys2Proof.Machine.execCmdHardReset n epoch s
  | .cmdErrorRecovery n epoch => Sys2Proof.Machine.execCmdErrorRecovery n epoch s
  | .cmdDisablePort n epoch => Sys2Proof.Machine.execCmdDisablePort n epoch s
  | .cmdEnablePort n epoch => Sys2Proof.Machine.execCmdEnablePort n epoch s
  | .cmdProductionTest n epoch arg => Sys2Proof.Machine.execCmdProductionTest n epoch arg s
  | .heldCommandTaken n => Sys2Proof.Machine.execHeldCommandTaken n s
  | .capsCfgWrite n value => Sys2Proof.Machine.execCapsCfgWrite n value s
  | .lexWindowWrite clause => Sys2Proof.Machine.execLexWindowWrite clause s
  | .transitionHoldExpiry n => Sys2Proof.Machine.execTransitionHoldExpiry n s
  | .transitionSettled n => Sys2Proof.Machine.execTransitionSettled n s
  | .transitionTimeout n => Sys2Proof.Machine.execTransitionTimeout n s
  | .descentReaches5v n => Sys2Proof.Machine.execDescentReaches5v n s
  | .vbusReachesVsafe0v n => Sys2Proof.Machine.execVbusReachesVsafe0v n s
  | .transitionAbort n => Sys2Proof.Machine.execTransitionAbort n s
  | .abortNoDetach n => Sys2Proof.Machine.execAbortNoDetach n s
  | .swapTimeout n => Sys2Proof.Machine.execSwapTimeout n s
  | .sinkSwapToSource n => Sys2Proof.Machine.execSinkSwapToSource n s
  | .swapSourceStart n => Sys2Proof.Machine.execSwapSourceStart n s
  | .frsArm n => Sys2Proof.Machine.execFrsArm n s
  | .frsSignal n => Sys2Proof.Machine.execFrsSignal n s
  | .frsVbusLow n => Sys2Proof.Machine.execFrsVbusLow n s
  | .frsInitTimer n => Sys2Proof.Machine.execFrsInitTimer n s
  | .vconnSwapTimeout n => Sys2Proof.Machine.execVconnSwapTimeout n s
  | .vconnSwapReady n => Sys2Proof.Machine.execVconnSwapReady n s
  | .hardResetSourceDescent n => Sys2Proof.Machine.execHardResetSourceDescent n s
  | .srcRecoverExpiry n => Sys2Proof.Machine.execSrcRecoverExpiry n s
  | .hardResetVsafe5v n => Sys2Proof.Machine.execHardResetVsafe5v n s
  | .sinkMaskClear n => Sys2Proof.Machine.execSinkMaskClear n s
  | .errorRecoveryEntry n => Sys2Proof.Machine.execErrorRecoveryEntry n s
  | .errorRecoveryExpiry n => Sys2Proof.Machine.execErrorRecoveryExpiry n s
  | .vdmReceived n => Sys2Proof.Machine.execVdmReceived n s
  | .vdmResponseTimeout n => Sys2Proof.Machine.execVdmResponseTimeout n s
  | .vdmBusyRetry n => Sys2Proof.Machine.execVdmBusyRetry n s
  | .discoveryStep n => Sys2Proof.Machine.execDiscoveryStep n s
  | .cableDiscoverIdentity n => Sys2Proof.Machine.execCableDiscoverIdentity n s
  | .hostVdmResponseTimeout n => Sys2Proof.Machine.execHostVdmResponseTimeout n s
  | .vdmCmdDiscovery n epoch => Sys2Proof.Machine.execVdmCmdDiscovery n epoch s
  | .vdmCmdEnterHostMode n epoch arg => Sys2Proof.Machine.execVdmCmdEnterHostMode n epoch arg s
  | .vdmCmdExitHostMode n epoch arg => Sys2Proof.Machine.execVdmCmdExitHostMode n epoch arg s
  | .vdmCmdSendTx n epoch arg => Sys2Proof.Machine.execVdmCmdSendTx n epoch arg s
  | .vdmCmdEnterThatin n epoch => Sys2Proof.Machine.execVdmCmdEnterThatin n epoch s
  | .vdmCmdExitThatin n epoch => Sys2Proof.Machine.execVdmCmdExitThatin n epoch s
  | .vdmCmdProposeTracking n epoch => Sys2Proof.Machine.execVdmCmdProposeTracking n epoch s
  | .vdmCmdEndTracking n epoch => Sys2Proof.Machine.execVdmCmdEndTracking n epoch s
  | .phbWindowWrite entry => Sys2Proof.Machine.execPhbWindowWrite entry s
  | .thatinPoll n => Sys2Proof.Machine.execThatinPoll n s
  | .sbu2FrameReceived n f => Sys2Proof.Machine.execSbu2FrameReceived n f s
  | .thatinLinkLost n => Sys2Proof.Machine.execThatinLinkLost n s
  | .trackingCollapse n reason => Sys2Proof.Machine.execTrackingCollapse n reason s
  | .vthRestoreAfterCollapse n => Sys2Proof.Machine.execVthRestoreAfterCollapse n s
  | .thatinExit n => Sys2Proof.Machine.execThatinExit n s
  | .securityRequestReceived n => Sys2Proof.Machine.execSecurityRequestReceived n s
  | .challengeSigned h => Sys2Proof.Machine.execChallengeSigned h s
  | .idnWindowWrite word => Sys2Proof.Machine.execIdnWindowWrite word s
  | .stageRunCmd n => Sys2Proof.Machine.execStageRunCmd n s
  | .stageSenHigh n => Sys2Proof.Machine.execStageSenHigh n s
  | .stageSenTimeout n => Sys2Proof.Machine.execStageSenTimeout n s
  | .stageStopCmd n => Sys2Proof.Machine.execStageStopCmd n s
  | .stageFault n => Sys2Proof.Machine.execStageFault n s
  | .sampleInstant n vbus imon bus => Sys2Proof.Machine.execSampleInstant n vbus imon bus s
  | .loopEvaluation n volt => Sys2Proof.Machine.execLoopEvaluation n volt s
  | .updateInstant n volt a b => Sys2Proof.Machine.execUpdateInstant n volt a b s
  | .historyWriteback n volt => Sys2Proof.Machine.execHistoryWriteback n volt s
  | .bankSwap n volt => Sys2Proof.Machine.execBankSwap n volt s
  | .bankWrite n volt bank1 k value => Sys2Proof.Machine.execBankWrite n volt bank1 k value s
  | .timingWrite n value => Sys2Proof.Machine.execTimingWrite n value s
  | .stgConfigWrite n reg value => Sys2Proof.Machine.execStgConfigWrite n reg value s
  | .spManualWrite n value => Sys2Proof.Machine.execSpManualWrite n value s
  | .opcWindowWrite word => Sys2Proof.Machine.execOpcWindowWrite word s
  | .opcWindowCfgWrite n axes value => Sys2Proof.Machine.execOpcWindowCfgWrite n axes value s
  | .opcModelWrite n volt value => Sys2Proof.Machine.execOpcModelWrite n volt value s
  | .traceTrigger c => Sys2Proof.Machine.execTraceTrigger c s
  | .traceStrobe k => Sys2Proof.Machine.execTraceStrobe k s
  | .trcWindowRead dbg => Sys2Proof.Machine.execTrcWindowRead dbg s
  | .trcConfigWrite k value => Sys2Proof.Machine.execTrcConfigWrite k value s
  | .epochAllocation hi0 per0 hi1 per1 => Sys2Proof.Machine.execEpochAllocation hi0 per0 hi1 per1 s
  | .admissionRequest n => Sys2Proof.Machine.execAdmissionRequest n s
  | .envLost c => Sys2Proof.Machine.execEnvLost c s
  | .closeCmd n => Sys2Proof.Machine.execCloseCmd n s
  | .openCmd n => Sys2Proof.Machine.execOpenCmd n s
  | .insertionComplete n => Sys2Proof.Machine.execInsertionComplete n s
  | .inrushEnd n => Sys2Proof.Machine.execInrushEnd n s
  | .inrushTimeout n => Sys2Proof.Machine.execInrushTimeout n s
  | .limitEntry n inward => Sys2Proof.Machine.execLimitEntry n inward s
  | .limitExit n => Sys2Proof.Machine.execLimitExit n s
  | .limitTimeout n => Sys2Proof.Machine.execLimitTimeout n s
  | .fastTrip n => Sys2Proof.Machine.execFastTrip n s
  | .pathOvp n => Sys2Proof.Machine.execPathOvp n s
  | .offtimeExpiry n => Sys2Proof.Machine.execOfftimeExpiry n s
  | .retriesRestore n => Sys2Proof.Machine.execRetriesRestore n s
  | .fndRearm n epoch => Sys2Proof.Machine.execFndRearm n epoch s
  | .thermalHoldEnd n => Sys2Proof.Machine.execThermalHoldEnd n s
  | .soaExceeded n => Sys2Proof.Machine.execSoaExceeded n s
  | .ntcFault k => Sys2Proof.Machine.execNtcFault k s
  | .ntcRecover k => Sys2Proof.Machine.execNtcRecover k s
  | .dschgRequest n => Sys2Proof.Machine.execDschgRequest n s
  | .dischargeSlow n => Sys2Proof.Machine.execDischargeSlow n s
  | .dschgForcedOff n => Sys2Proof.Machine.execDschgForcedOff n s
  | .feedQualified f => Sys2Proof.Machine.execFeedQualified f s
  | .feedLost f => Sys2Proof.Machine.execFeedLost f s
  | .fedReqSelect f => Sys2Proof.Machine.execFedReqSelect f s
  | .comparatorViolation k upper => Sys2Proof.Machine.execComparatorViolation k upper s
  | .comparatorLatchClear k => Sys2Proof.Machine.execComparatorLatchClear k s
  | .cmpCfgWrite k value => Sys2Proof.Machine.execCmpCfgWrite k value s
  | .cmpForce page value => Sys2Proof.Machine.execCmpForce page value s
  | .fenderThresholdLoad n => Sys2Proof.Machine.execFenderThresholdLoad n s
  | .hthModeWrite value => Sys2Proof.Machine.execHthModeWrite value s
  | .knownAnswerCheck h idle good => Sys2Proof.Machine.execKnownAnswerCheck h idle good s
  | .hearthFence h cause output port => Sys2Proof.Machine.execHearthFence h cause output port s
  | .hthCmdReadmit epoch => Sys2Proof.Machine.execHthCmdReadmit epoch s
  | .hthCmdExchange epoch => Sys2Proof.Machine.execHthCmdExchange epoch s
  | .hthCmdPowerOff epoch => Sys2Proof.Machine.execHthCmdPowerOff epoch s
  | .hthCmdFence epoch arg => Sys2Proof.Machine.execHthCmdFence epoch arg s
  | .hearthReset epoch check => Sys2Proof.Machine.execHearthReset epoch check s
  | .copyBringupDone pass => Sys2Proof.Machine.execCopyBringupDone pass s
  | .copySourceLost cause => Sys2Proof.Machine.execCopySourceLost cause s
  | .dbgViewSelWrite h value => Sys2Proof.Machine.execDbgViewSelWrite h value s
  | .flueReport source unit detail => Sys2Proof.Machine.execFlueReport source unit detail s
  | .reportPathBroken source unit => Sys2Proof.Machine.execReportPathBroken source unit s
  | .graceExpiry group unit => Sys2Proof.Machine.execGraceExpiry group unit s
  | .persistExpiry group unit => Sys2Proof.Machine.execPersistExpiry group unit s
  | .level3Entry source unit => Sys2Proof.Machine.execLevel3Entry source unit s
  | .quietExpiry group unit => Sys2Proof.Machine.execQuietExpiry group unit s
  | .fluCloseRecord group unit => Sys2Proof.Machine.execFluCloseRecord group unit s
  | .fluZeroRecovery group => Sys2Proof.Machine.execFluZeroRecovery group s
  | .fluInject value => Sys2Proof.Machine.execFluInject value s
  | .forceWrite page value => Sys2Proof.Machine.execForceWrite page value s
  | .otpRead word margin flips => Sys2Proof.Machine.execOtpRead word margin flips s
  | .otpProgram word => Sys2Proof.Machine.execOtpProgram word s
  | .otpFinalise region flips => Sys2Proof.Machine.execOtpFinalise region flips s
  | .otpLockWrite region => Sys2Proof.Machine.execOtpLockWrite region s
  | .otpLockRead region => Sys2Proof.Machine.execOtpLockRead region s
  | .otpReblow word => Sys2Proof.Machine.execOtpReblow word s
  | .otpCommandComplete tries => Sys2Proof.Machine.execOtpCommandComplete tries s
  | .otpCommandAbort reason tries => Sys2Proof.Machine.execOtpCommandAbort reason tries s
  | .regWrite32 reg value tail => Sys2Proof.Machine.execRegWrite32 reg value tail s
  | .regRead32 reg take => Sys2Proof.Machine.execRegRead32 reg take s
  | .blockWrite reg count stream => Sys2Proof.Machine.execBlockWrite reg count stream s
  | .blockRead reg take => Sys2Proof.Machine.execBlockRead reg take s
  | .pageSelect page byte1 tail => Sys2Proof.Machine.execPageSelect page byte1 tail s
  | .pageSelectRead take => Sys2Proof.Machine.execPageSelectRead take s
  | .dialectWrite major tail => Sys2Proof.Machine.execDialectWrite major tail s
  | .dialectRead take => Sys2Proof.Machine.execDialectRead take s
  | .alertSourceRead take => Sys2Proof.Machine.execAlertSourceRead take s
  | .tablePortWrite count stream => Sys2Proof.Machine.execTablePortWrite count stream s
  | .tablePortRead take => Sys2Proof.Machine.execTablePortRead take s
  | .readWithoutCommand len => Sys2Proof.Machine.execReadWithoutCommand len s
  | .alertResponse rival take => Sys2Proof.Machine.execAlertResponse rival take s
  | .alertCause page bit => Sys2Proof.Machine.execAlertCause page bit s
  | .smbConfigWrite value => Sys2Proof.Machine.execSmbConfigWrite value s
  | .transactionAbandoned how code bytes => Sys2Proof.Machine.execTransactionAbandoned how code bytes s
  | .sclTimeout code bytes => Sys2Proof.Machine.execSclTimeout code bytes s
  | .sdaStuck self code bytes => Sys2Proof.Machine.execSdaStuck self code bytes s
  | .addressMatchWake addr => Sys2Proof.Machine.execAddressMatchWake addr s
  | .bankedHearthAccess code => Sys2Proof.Machine.execBankedHearthAccess code s
  | .lowWaterRead n => Sys2Proof.Machine.execLowWaterRead n s
  | .eventW1cWrite page value => Sys2Proof.Machine.execEventW1cWrite page value s
  | .eventEnWrite page value => Sys2Proof.Machine.execEventEnWrite page value s
  | .eopSent n => Sys2Proof.Machine.execEopSent n s
  | .vbusPresentChange n present => Sys2Proof.Machine.execVbusPresentChange n present s
  | .housekeepingSlot code => Sys2Proof.Machine.execHousekeepingSlot code s
  | .comparatorViolationEnd k => Sys2Proof.Machine.execComparatorViolationEnd k s
  | .emberSupplyLost => Sys2Proof.Machine.execEmberSupplyLost s
  | .powerOnReset => Sys2Proof.Machine.execPowerOnReset s
  | .vsysLoss => Sys2Proof.Machine.execVsysLoss s
  | .vddioUndervoltage => Sys2Proof.Machine.execVddioUndervoltage s
  | .vdrvUndervoltage => Sys2Proof.Machine.execVdrvUndervoltage s
  | .reqLit => Sys2Proof.Machine.execReqLit s
  | .reqBanked => Sys2Proof.Machine.execReqBanked s
  | .reqSmoulder => Sys2Proof.Machine.execReqSmoulder s
  | .reqCold => Sys2Proof.Machine.execReqCold s
  | .stateEntryComplete => Sys2Proof.Machine.execStateEntryComplete s
  | .coarseAlarm => Sys2Proof.Machine.execCoarseAlarm s
  | .edramRefresh => Sys2Proof.Machine.execEdramRefresh s
  | .startupDeliveryComplete => Sys2Proof.Machine.execStartupDeliveryComplete s
  | .startupHearthsReady => Sys2Proof.Machine.execStartupHearthsReady s
  | .startupTablesLoaded => Sys2Proof.Machine.execStartupTablesLoaded s
  | .startupPortsEnabled => Sys2Proof.Machine.execStartupPortsEnabled s
  | .resetNAsserted => Sys2Proof.Machine.execResetNAsserted s
  | .resetNReleased => Sys2Proof.Machine.execResetNReleased s
  | .kindlePathClose => Sys2Proof.Machine.execKindlePathClose s
  | .kindleHandover => Sys2Proof.Machine.execKindleHandover s
  | .kindleStall => Sys2Proof.Machine.execKindleStall s
  | .kindlingStop => Sys2Proof.Machine.execKindlingStop s
  | .refLost => Sys2Proof.Machine.execRefLost s
  | .tbaseLoRead => Sys2Proof.Machine.execTbaseLoRead s
  | .autoPhaseRecompute => Sys2Proof.Machine.execAutoPhaseRecompute s
  | .syncInEdge => Sys2Proof.Machine.execSyncInEdge s
  | .syncFrameMissing => Sys2Proof.Machine.execSyncFrameMissing s
  | .vconnUv => Sys2Proof.Machine.execVconnUv s
  | .poolSlotGrant => Sys2Proof.Machine.execPoolSlotGrant s
  | .lexLoadBegin => Sys2Proof.Machine.execLexLoadBegin s
  | .lexWindowRead => Sys2Proof.Machine.execLexWindowRead s
  | .lexCommit => Sys2Proof.Machine.execLexCommit s
  | .lexCheckComplete => Sys2Proof.Machine.execLexCheckComplete s
  | .lexAbort => Sys2Proof.Machine.execLexAbort s
  | .lexRevertSeed => Sys2Proof.Machine.execLexRevertSeed s
  | .phbLoadBegin => Sys2Proof.Machine.execPhbLoadBegin s
  | .phbCommit => Sys2Proof.Machine.execPhbCommit s
  | .phbAbort => Sys2Proof.Machine.execPhbAbort s
  | .phbRevertSeed => Sys2Proof.Machine.execPhbRevertSeed s
  | .digestComplete => Sys2Proof.Machine.execDigestComplete s
  | .idnLoadBegin => Sys2Proof.Machine.execIdnLoadBegin s
  | .idnCommit => Sys2Proof.Machine.execIdnCommit s
  | .idnAbort => Sys2Proof.Machine.execIdnAbort s
  | .feasibilityCheck => Sys2Proof.Machine.execFeasibilityCheck s
  | .opcWindowRead => Sys2Proof.Machine.execOpcWindowRead s
  | .opcSetValid => Sys2Proof.Machine.execOpcSetValid s
  | .opcClearValid => Sys2Proof.Machine.execOpcClearValid s
  | .opcClearTable => Sys2Proof.Machine.execOpcClearTable s
  | .opcClearComplete => Sys2Proof.Machine.execOpcClearComplete s
  | .trcArm => Sys2Proof.Machine.execTrcArm s
  | .trcStop => Sys2Proof.Machine.execTrcStop s
  | .trcForceTrigger => Sys2Proof.Machine.execTrcForceTrigger s
  | .runSquashCmd => Sys2Proof.Machine.execRunSquashCmd s
  | .emergencyShed => Sys2Proof.Machine.execEmergencyShed s
  | .nofeedRecovery => Sys2Proof.Machine.execNofeedRecovery s
  | .thermalModelUpdate => Sys2Proof.Machine.execThermalModelUpdate s
  | .feedOvercurrent => Sys2Proof.Machine.execFeedOvercurrent s
  | .feedReverse => Sys2Proof.Machine.execFeedReverse s
  | .firstSelection => Sys2Proof.Machine.execFirstSelection s
  | .unplannedSwitch => Sys2Proof.Machine.execUnplannedSwitch s
  | .plannedSwitchNotice => Sys2Proof.Machine.execPlannedSwitchNotice s
  | .plannedSwitchRun => Sys2Proof.Machine.execPlannedSwitchRun s
  | .deadTimeExpiry => Sys2Proof.Machine.execDeadTimeExpiry s
  | .busMatchReached => Sys2Proof.Machine.execBusMatchReached s
  | .matchTimeout => Sys2Proof.Machine.execMatchTimeout s
  | .feedInsertDone => Sys2Proof.Machine.execFeedInsertDone s
  | .feedInsTimeout => Sys2Proof.Machine.execFeedInsTimeout s
  | .switchComplete => Sys2Proof.Machine.execSwitchComplete s
  | .fedReqAutomatic => Sys2Proof.Machine.execFedReqAutomatic s
  | .modeHandover => Sys2Proof.Machine.execModeHandover s
  | .fencePowerOff => Sys2Proof.Machine.execFencePowerOff s
  | .copyBulkDone => Sys2Proof.Machine.execCopyBulkDone s
  | .copySnapshot => Sys2Proof.Machine.execCopySnapshot s
  | .copyLiveReached => Sys2Proof.Machine.execCopyLiveReached s
  | .trialEnd => Sys2Proof.Machine.execTrialEnd s
  | .copyAttemptFail => Sys2Proof.Machine.execCopyAttemptFail s
  | .level3AutoReset => Sys2Proof.Machine.execLevel3AutoReset s
  | .l3ResetsClear => Sys2Proof.Machine.execL3ResetsClear s
  | .fluCloseAll => Sys2Proof.Machine.execFluCloseAll s
  | .fluL3DeviceReset => Sys2Proof.Machine.execFluL3DeviceReset s
  | .ashSootClear => Sys2Proof.Machine.execAshSootClear s
  | .ashFirstClear => Sys2Proof.Machine.execAshFirstClear s
  | .ashClear => Sys2Proof.Machine.execAshClear s
  | .quickCommand => Sys2Proof.Machine.execQuickCommand s
  | .smbRealert => Sys2Proof.Machine.execSmbRealert s
  | .resetCauseRead => Sys2Proof.Machine.execResetCauseRead s

end Sys2Proof.Machine
end

