-- ==== Sys2Proof/Machine/Flags.lean ====
section
/-! DEFINITION. The conditions that several rules read from the state of the device: which output column of Table 2.7 applies, and
whether the outputs of a port are held (R23, R39). -/

namespace Sys2Proof.Machine

/-- The columns of Table 2.7; a device without Ember supply has none of them and shows the "Unpowered" column of Table 2.6. -/
inductive OutCol where
  | unpowered
  | cold
  | smoulder
  | banked
  | startup
  | fuseHold
  | level3
  | lit
deriving DecidableEq, Repr

/-- The column that applies (R39): Level 3 comes before Lit and Banked; a device held at step 5 (R57) stays in the Start-up column. -/
def State.outCol (s : State) : OutCol :=
  match s.ember.dev with
  | .unpowered => .unpowered
  | .cold => .cold
  | .smoulder => .smoulder
  | .startup | .held => .startup
  | .fuseHold => .fuseHold
  | .banked => if s.flag F.FLU_STATUS_l3 then .level3 else .banked
  | .lit => if s.flag F.FLU_STATUS_l3 then .level3 else .lit

/-- The Kindling port of a start-up, which Table 2.7 excepts. -/
def State.isKindling (s : State) (n : Port) : Bool := s.ember.kindling = some n

/-- The outputs of a port's stage and path follow the port: in Lit, and for the Kindling port during start-up (Table 2.7). -/
def State.portDrives (s : State) (n : Port) : Bool :=
  match s.outCol with
  | .lit => true
  | .startup => s.isKindling n
  | _ => false

end Sys2Proof.Machine
end

