-- ==== Sys2Proof/Machine/Pins.lean ====
section
/-! DEFINITION. The output balls as functions of the state (R39, Table 2.7), with the precedence of R23. -/

namespace Sys2Proof.Machine

/-! ### CC and SBU -/

/-- What a CC pin presents. -/
inductive CcDrive where
  | opened
  | rd
  | ra
  | rp (code : Nat)
  | vconn
  | dbClamp
deriving DecidableEq, Repr

/-- The presentation that a code of CC.STATUS.pres1 and pres2 names (Table 5.1). -/
def ccDrive (code : Nat) : CcDrive :=
  match code with
  | 0 => .opened
  | 1 => .rd
  | 2 => .ra
  | 6 => .vconn
  | 7 => .dbClamp
  | c => .rp c

/-- The dead-battery clamp, or Open on a source-only port (R101). -/
def State.clampDrive (s : State) (n : Port) : CcDrive := if s.fuseSrcOnly n then .opened else .dbClamp

/-- Start-up has completed step 7, at which ports and feeds are enabled (Table 3.5). -/
def State.portsOn (s : State) : Bool := s.ember.dev = .startup && 7 ≤ s.ember.step

/-- What a CC pin presents (Table 2.7, R100, R101), with VSTBY in mV, which the passive Rp of Smoulder needs at 2.5 V or above. R100 names no
port that presented Open at entry: it stays Open (DESIGN CHOICE, log 70). It names none that presented Ra either, which presents Rd, and for a
port in a Try state that presents Rp it gives both Rd and Rp: Rp it is (DESIGN CHOICE, log 115). -/
def State.ccPin (s : State) (n : Port) (cc2 : Bool) (vstbyMv : Nat) : CcDrive :=
  match s.outCol with
  | .unpowered | .cold | .fuseHold => s.clampDrive n
  | .startup => if s.portsOn || s.isKindling n && !s.flag (F.CC_STATUS_db_clamp n) then ccDrive (s.pinPres n cc2) else s.clampDrive n
  | .level3 => .rd
  | .smoulder =>
    if s.flag (F.CC_STATUS_toggling n) || !(s.cc.get n).attached && (match (s.cc.get n).cmd with | .toggle _ => true | _ => false) then .rd
    else if s.presentsRp n then (if 2500 ≤ vstbyMv then .rp 3 else .opened)
    else if (s.cc.get n).cmd = .opened then .opened
    else .rd
  | .banked | .lit => ccDrive (s.pinPres n cc2)

/-- An SBU switch is closed (R111): in Lit only. -/
def State.sbuClosed (s : State) (n : Port) (sbu2 : Bool) : Bool :=
  s.outCol = .lit && (if sbu2 then s.flag (F.CC_SBU_STATUS_sbu2_conn n) else s.flag (F.CC_SBU_STATUS_sbu1_conn n))

/-- Pn_SBU1 (R205): a master's square wave of 8 ticks, 4 high and 4 low, its cycles counted from TBASE 0 (DESIGN CHOICE, log 87); not driven
otherwise. -/
def State.sbu1Level (s : State) (n : Port) : Option Bool :=
  if s.sbuClosed n false && s.refDrive n then some (s.tbase.toNat % 8 < 4) else none

/-- The bits of a frame in the order sent: bytes least significant bit first (R207). -/
def lineBits (l : List Byte) : List Bool := l.flatMap fun b => (List.range 8).map fun i => b.getLsbD i

/-- Pn_SBU2 (R206): the Manchester line of the frame sent last, a 0 falling and a 1 rising at mid-bit; released while no frame runs. -/
def State.sbu2Level (s : State) (n : Port) : Option Bool :=
  let x := s.thn.get n
  let k := s.since x.outTick
  let p := max 1 s.sbuBit
  if s.sbuClosed n true && s.bit F.THN_STATUS_entered n.val then
    match (lineBits x.out)[k / p]? with
    | some b => some (if 2 * (k % p) < p then !b else b)
    | none => none
  else none

/-! ### Stage and path -/

/-- What a leg's PWM ball does: while switching, from sub-tick `first` of each period and for `width` sub-ticks it is at level `high`, and at the
other level for the rest of the period. -/
inductive PwmDrive where
  | hiZ
  | mid
  | switching (first width : Nat) (high : Bool)
deriving DecidableEq, Repr

/-- Pn_PWM_A and Pn_PWM_B (Table 2.7, R232): leg A is high and leg B low about the middle of the period; through a stretched period the duty pair is held as a fraction of it (R78); switching only while the port drives its stage, is Running, and no fast trip holds it. -/
def State.pwm (s : State) (n : Port) (legB : Bool) : PwmDrive :=
  match s.outCol with
  | .unpowered | .cold | .smoulder => .hiZ
  | _ =>
    if s.portDrives n && s.get (F.STG_STATUS_state n) = 2 && (s.lp.get n).switching && !(s.lp.get n).tripHold then
      let w := (if legB then s.get (F.ILP_DUTY_dbl_sub n) else s.get (F.ILP_DUTY_da_sub n)) * s.periodTicks n / max 1 (s.nInForce n)
      .switching (32 * s.periodTicks n - w / 2) w (!legB)
    else .mid

/-- What the device does at Pn_SEN. -/
inductive SenDrive where
  | passiveLow
  | drivenLow
  | released
deriving DecidableEq, Repr

/-- Pn_SEN (Table 2.7, R233): released while the stage is Enabling or Running, and until the period start that follows a stop. -/
def State.sen (s : State) (n : Port) : SenDrive :=
  match s.outCol with
  | .unpowered | .cold | .smoulder => .passiveLow
  | _ =>
    if s.portDrives n && (s.get (F.STG_STATUS_state n) = 1 || s.get (F.STG_STATUS_state n) = 2 || (s.lp.get n).senLow) then .released
    else .drivenLow

/-- Pn_GATE_S and Pn_GATE_B are on (Table 2.7). -/
def State.gateSOn (s : State) (n : Port) : Bool := s.portDrives n && s.flag (F.FND_STATUS_gate_s n)
def State.gateBOn (s : State) (n : Port) : Bool := s.portDrives n && s.flag (F.FND_STATUS_gate_b n)

/-- Pn_DSCHG is on (Table 2.7, R323). -/
def State.dschgPin (s : State) (n : Port) : Bool :=
  match s.outCol with
  | .lit | .level3 => s.flag (F.FND_STATUS_dschg n)
  | _ => false

/-- Fn_GATE is on (Table 2.7); in start-up from step 7 on. -/
def State.feedGate (s : State) (f : Feed) : Bool :=
  match s.outCol with
  | .lit | .banked | .level3 => s.feeds.gate.getLsbD f.val
  | .startup => s.portsOn && s.feeds.gate.getLsbD f.val
  | _ => false

/-! ### Device outputs -/

/-- ALIVE is high (Table 2.7): toggling in Lit and Banked, frozen in Level 3, low otherwise. -/
def State.alivePin (s : State) : Bool :=
  match s.outCol with
  | .lit | .banked | .level3 => s.ember.alive
  | _ => false

/-- FAULT_N is pulled low (Table 2.7, R372). -/
def State.faultPinLow (s : State) : Bool := s.faultN

/-- SMBALERT_N is pulled low (Table 2.7, R415). -/
def State.alertPinLow (s : State) : Bool := s.alertPin

/-- What SYNC_OUT does. -/
inductive SyncDrive where
  | hiZ
  | low
  | high
deriving DecidableEq, Repr

/-- SYNC_OUT (R82, Table 2.7): high for the first floor(P / 2) ticks of each period of P = out_ticks; periods start where TBASE mod P
is 0, or out_delay ticks after an anchor edge while the lock is held. -/
def State.syncOut (s : State) : SyncDrive :=
  match s.outCol with
  | .unpowered | .cold | .smoulder => .hiZ
  | .startup | .fuseHold => .low
  | _ =>
    let p := s.get F.TB_SYNC_OUT_out_ticks
    if p = 0 then .low
    else
      let origin := if s.flag F.TB_STATUS_lock then s.tb.anchor + s.get F.TB_SYNC_OUT_out_delay else 0
      if (s.tbase.toNat + p * (origin / p + 1) - origin) % p < p / 2 then .high else .low

end Sys2Proof.Machine
end

