-- ==== Sys2Proof/Machine/Tick.lean ====
section
/-! DEFINITION. One tick of TBASE (R72) as the block passes it while no command waits: what the time base alone brings about. Every
happening that has a row in the table comes as its own command instead. -/

namespace Sys2Proof.Machine

/-- A timer with one tick less; it stays at 0 until the command of its expiry takes it. -/
def Timer.tick (t : Timer) : Timer := { t with left := t.left - 1 }

/-- The timers whose expiry has no row in the table, and that would expire on this tick. -/
def Timer.due (t : Timer) : Bool :=
  t.left ≤ 1 && (match t.kind with | .rpSecond | .tryTimer | .tryTimeout | .sinkRequest | .enterEpr | .trkAccept => true | _ => false)

/-- What such an expiry does: the second half of an Rp change (R89), the start of tracking at a slave (R210), or an input to the Policy Sequencer (R140, R148, R156, R184). -/
def State.timerDue (s : State) (t : Timer) : State :=
  let n := unitPort t.unit
  let u := s.stop t.kind t.unit
  match t.kind with
  | .rpSecond => u.rpSecond n
  | .tryTimer => u.policyInput n (.timer 1)
  | .tryTimeout => u.policyInput n (.timer 2)
  | .sinkRequest => u.policyInput n (.timer 3)
  | .enterEpr => u.policyInput n (.timer 4)
  | .trkAccept => u.trkAccepted n
  | _ => u

/-- Every running timer loses a tick, and those that are due expire. -/
def State.timersTick (s : State) : State :=
  let due := s.timers.filter Timer.due
  due.foldl State.timerDue { s with timers := s.timers.map Timer.tick }

/-- ALIVE changes level once every 12,000 ticks while it toggles (R39); a hearth reset holds its level (Table 3.7). -/
def State.aliveTick (s : State) : State :=
  if s.ember.aliveHeld ≠ 0 then { s with ember := { s.ember with aliveHeld := s.ember.aliveHeld - 1 } }
  else if !s.ember.aliveOn then s
  else if s.ember.aliveCount + 1 < 12000 then { s with ember := { s.ember with aliveCount := s.ember.aliveCount + 1 } }
  else { s with ember := { s.ember with aliveCount := 0, alive := !s.ember.alive } }

/-- The coarse counter beside TBASE: it runs at 32.768 kHz whatever the tick rate (R9, R73). -/
def State.coarseTick (s : State) : State :=
  let a := s.ember.coarseAcc + 32768
  let r := max 1 (1000 * s.tickKhz)
  if a < r then { s with ember := { s.ember with coarseAcc := a } }
  else ({ s with ember := { s.ember with coarseAcc := a - r } } : State).bump F.EMB_COARSE_count

/-- The epoch tick, at which TBASE[10:0] is 0: a qualified source takes over the ticks (R69), an exchange of Active and Shadow that waits
takes place (R344), the trial of a copy that has reached the live tick starts (R355), and the VCONN currents are measured (R113). -/
def State.epochTick (s : State) : State := if s.atEpoch then s.refTake.exchangeRoles.trialStart.vconnMeasure else s

/-- An alert bit that has cleared since the last release, or that the tick that ends has set again, is answered no longer (R415). -/
def State.alertPrune (s : State) : State :=
  let still (a : Nat × Word) : Word := a.2 &&& s.alertBits a.1 &&& ~~~s.alertNow a.1
  { s with pins := { s.pins with acked := (s.pins.acked.filter fun a => still a ≠ 0).map fun a => (a.1, still a) } }

/-- The offset of the sample instant of the period under way, on the tick that comes (R237): a changed s_off moves an instant that is still to
come, and to a tick that is still to come. -/
def State.offsetNext (s : State) (n : Port) : Nat :=
  let old := (s.lp.get n).sOff
  let new := s.get (F.STG_TIMING_s_off n)
  match (s.tb.carriers.get n).lastStart with
  | some b => if s.since b + 1 ≤ min old (s.nInForce n - 1) ∧ s.since b + 1 ≤ min new (s.nInForce n - 1) then new else old
  | none => new

/-- The tick that comes begins: what its samples take is what stands now (R245, R253, R257, R264). -/
def State.viewsTake (s : State) : State :=
  let t := s.allPorts fun t n => t.modLp n fun l => { l with begun := s.sampleView n, sOff := s.offsetNext n }
  { t with hA := { t.hA with opctWas := [] }, hB := { t.hB with opctWas := [] } }

/-- One tick of TBASE: Flue has taken every report of the tick that ends (R361). -/
def State.tbaseTick (s : State) : State :=
  let s := s.alertPrune.flueDrain.viewsTake
  let t : State := { s with tbase := s.tbase + 1, tb := { s.tb with laps := s.tb.laps + bn (s.tbase + 1 = 0) } }
  let t := (t.timersTick).epochTick.replayWatch
  let t := t.flue.records.foldl State.quietWatch t
  (t.aliveTick).coarseTick

/-- One coarse tick in Smoulder (R47, R73): TBASE stands still, the coarse counter and the poll's timer run. -/
def State.smoulderTick (s : State) : State := ({ s with timers := s.timers.map Timer.tick } : State).bump F.EMB_COARSE_count

/-- What passes while no command waits: nothing in Cold or without supply, one coarse tick in Smoulder, one tick of TBASE otherwise. -/
def State.idleTick (s : State) : State :=
  match s.ember.dev with
  | .unpowered | .cold => s
  | .smoulder => s.smoulderTick
  | .banked | .startup | .fuseHold | .held | .lit => s.tbaseTick

end Sys2Proof.Machine
end

