-- ==== Sys2Proof/Safety.lean ====
section
/-! DEFINITION. The terms that the statements use: a command that completes with a given result, and the parts of the state that a command
leaves alone. -/

namespace Sys2Proof.Machine

/-- The command `c` completes on `s`: it answers a next state, and that state satisfies `p`. -/
def Completes (c : Instr) (s : State) (p : State → Prop) : Prop := ∃ t, exec c s = .next t ∧ p t

/-- Nothing but registers differs between two states. -/
abbrev OnlyRegs (s t : State) : Prop := t = { s with regs := t.regs }

/-- A field of the fabric reads alike in two states. -/
abbrev Keeps (s t : State) (f : Field) : Prop := t.get f = s.get f

/-- The register that a field belongs to reads alike, bit by bit, in every copy, the snapshot's too. -/
abbrev KeepsReg (s t : State) (addr : Nat) : Prop := ∀ c < 4, t.word addr c = s.word addr c

/-- Nothing of Table 3.4's codes 1-3, 5 and 6 stands against leaving Lit. -/
abbrev State.mayLeaveLit (s : State) : Prop :=
  s.ember.dev = .lit ∧ s.ember.entry = none ∧ s.ember.kindling = none ∧ s.flag F.OTP_STATUS_busy = false ∧
  ∀ n : Port, s.pathIsOpen n = true ∧ s.flag (F.CC_STATUS_vconn_on n) = false

/-- The only waiting input is this message, received on SOP for port `n` in the present role epoch and acknowledged as far as R175 asks, outside
a Hard Reset or abort and not one that ends a power-role swap. -/
abbrev State.onlyMsg (s : State) (n : Port) (m : Msg) : Prop :=
  s.inputs = [{ tick := s.tbase.toNat, port := n, kind := .message m }] ∧ m.epoch = s.get (F.POL_SEQ_epoch n) ∧ m.sop = 0 ∧
  m.unacked = false ∧ s.resetting n = false ∧ s.breaksPrSwap n m = false

/-- No Lexicon is being loaded, and the active one has at a decision point just one clause: unconditional, for the port, with op `op`. -/
abbrev State.soleClause (s : State) (n : Port) (point op : Nat) : Prop :=
  s.loadPolicy n = false ∧ (s.clausesAt n point).map (fun c => (clauseOp c, clauseVar c, bitOf (clausePorts c) n.val)) = [(op, 0, true)]

/-- No Lexicon is being loaded, and the active one has no clause at a decision point. -/
abbrev State.noClause (s : State) (n : Port) (point : Nat) : Prop := s.loadPolicy n = false ∧ s.clausesAt n point = []

/-- No pending input of the hearth that drives port `n` comes before one of class `rank` on that port on this tick (R139, R140). -/
abbrev State.inputFirst (s : State) (n : Port) (rank : Nat) : Prop :=
  ((s.nextInput (s.driver n) fun _ => true).all fun a => decide (s.place s.tbase.toNat n rank ≤ a.1)) = true

/-- A host command of page POL is current and nothing holds it back: the page answers, no input comes before it, its epoch is the port's, no
command is held, and no sequence, Hard Reset or abort runs (R57, R140, R164). -/
abbrev State.cmdFree (s : State) (n : Port) (epoch : BitVec 8) : Prop :=
  s.pageAnswers (portPage n 2) = true ∧ s.inputFirst n 4 ∧ epoch.toNat = s.get (F.POL_SEQ_epoch n) ∧
  s.flag (F.POL_STATUS_cmd_held n) = false ∧ s.flag (F.POL_STATUS_ams n) = false ∧ s.resetting n = false

/-- The message handed over last for port `n`: its header and what it is for. -/
def State.lastSent (s : State) (n : Port) : Option (Nat × Purpose) := (s.msg.get n).queue.getLast?.map fun m => (m.header, m.purpose)

/-- The payload of the message handed over last for port `n`. -/
def State.lastData (s : State) (n : Port) : Option (List Byte) := (s.msg.get n).queue.getLast?.map fun m => m.data

/-- Port `n` may send a VDM of its own at once: no sequence runs, no draft waits, the Phrasebook is not being loaded and no initiation awaits
an answer (R195, R201). -/
abbrev State.vdmFree (s : State) (n : Port) : Prop :=
  s.flag (F.POL_STATUS_ams n) = false ∧ (s.pol.get n).draft = none ∧ s.phbBusy = false ∧ (s.vdm.get n).ask = none

/-- Nothing waits for the end of a sequence of port `n`. -/
abbrev State.noWaiters (s : State) (n : Port) : Prop :=
  (s.vdm.get n).waiting = [] ∧ (s.pol.get n).todo = [] ∧ (s.pol.get n).draft = none

/-- The target takes the next transaction in Lit, and no address waits to be taken over. -/
abbrev State.busReady (s : State) : Prop := s.ember.dev = .lit ∧ s.pins.wakeAddr = none ∧ s.ember.addrNext = none

/-- A transaction failed: the reason, the command code and the number of bytes are recorded, and nothing was committed (R410, R420). -/
abbrev SmbFailed (s t : State) (reason code bytes : Nat) : Prop :=
  t.get F.SMB_LAST_ERR_reason = reason ∧ t.get F.SMB_LAST_ERR_cmd = code ∧ t.get F.SMB_LAST_ERR_bytes = bytes ∧
  t.get F.SMB_COUNTS_failed = min 65535 (s.get F.SMB_COUNTS_failed + 1) ∧ t.get F.SMB_SEQ_commits = s.get F.SMB_SEQ_commits ∧
  t.get F.SMB_STATUS_page = s.get F.SMB_STATUS_page

/-- One more write has committed, and none failed. -/
abbrev SmbCommitted (s t : State) : Prop :=
  t.get F.SMB_SEQ_commits = (s.get F.SMB_SEQ_commits + 1) % 256 ∧
  t.get F.SMB_COUNTS_committed = min 65535 (s.get F.SMB_COUNTS_committed + 1) ∧ t.get F.SMB_COUNTS_failed = s.get F.SMB_COUNTS_failed

/-- An open record of source IMON_RANGE for a port, at a level (group STAGE). -/
abbrev aRecordOf (n : Port) (level : Nat) : FlueRecord :=
  { group := 5, unit := n.val, source := 0x31, merged := [], level := level, merges := 0, serial := 0, units := [n.val], mergeTick := none, detail := 0, bit := none }

/-! ### What a command leaves alone -/

/-- The parts of the state beside the register fabric and the queue. -/
inductive Part where
  | tbase
  | fresh
  | timers
  | ember
  | tb
  | flue
  | hearths
  | cc
  | msg
  | pol
  | vdm
  | thn
  | lp
  | lanes
  | fnd
  | inputs
  | ntcFitted
  | ntcFault
  | draught
  | feeds
  | hA
  | hB
  | fallbackV
  | fallbackI
  | otp
  | auth
  | pins
  | boundary
  | array
  | opctLost
  | apart
deriving DecidableEq, Repr

/-- A part is the same in two states. -/
def Part.same (s t : State) : Part → Prop
  | .tbase => t.tbase = s.tbase
  | .fresh => t.fresh = s.fresh
  | .timers => t.timers = s.timers
  | .ember => t.ember = s.ember
  | .tb => t.tb = s.tb
  | .flue => t.flue = s.flue
  | .hearths => t.hearths = s.hearths
  | .cc => t.cc = s.cc
  | .msg => t.msg = s.msg
  | .pol => t.pol = s.pol
  | .vdm => t.vdm = s.vdm
  | .thn => t.thn = s.thn
  | .lp => t.lp = s.lp
  | .lanes => t.lanes = s.lanes
  | .fnd => t.fnd = s.fnd
  | .inputs => t.inputs = s.inputs
  | .ntcFitted => t.ntcFitted = s.ntcFitted
  | .ntcFault => t.ntcFault = s.ntcFault
  | .draught => t.draught = s.draught
  | .feeds => t.feeds = s.feeds
  | .hA => t.hA = s.hA
  | .hB => t.hB = s.hB
  | .fallbackV => t.fallbackV = s.fallbackV
  | .fallbackI => t.fallbackI = s.fallbackI
  | .otp => t.otp = s.otp
  | .auth => t.auth = s.auth
  | .pins => t.pins = s.pins
  | .boundary => t.boundary = s.boundary
  | .array => t.array = s.array
  | .opctLost => t.opctLost = s.opctLost
  | .apart => t.apart = s.apart

/-- The kind of a page: the port pages of one kind count as one, under the page of port 0 (Table 20.2). -/
def pageKind (p : Nat) : Nat := if 0x20 ≤ p ∧ p ≤ 0x5F then 0x20 + p % 8 else p

/-- Where the command answers a next state, it has changed no register outside these kinds of page, in any copy or the snapshot, and no part of the
state but these. -/
abbrev ChangesOnly (c : Instr) (pages : List Nat) (parts : List Part) : Prop :=
  ∀ s t, exec c s = .next t → (∀ a k, k < 4 → pageKind (pageOf a) ∉ pages → t.word a k = s.word a k) ∧ ∀ p, p ∉ parts → p.same s t

/-- The same for the parts of the state alone. -/
abbrev KeepsParts (c : Instr) (parts : List Part) : Prop := ∀ s t, exec c s = .next t → ∀ p, p ∈ parts → p.same s t

/-- `ChangesOnly` and `KeepsParts` from the states in which the bus holds no transaction (R56). -/
abbrev ChangesOnlyUnheld (c : Instr) (pages : List Nat) (parts : List Part) : Prop :=
  ∀ s t, s.pins.held = none → exec c s = .next t →
    (∀ a k, k < 4 → pageKind (pageOf a) ∉ pages → t.word a k = s.word a k) ∧ ∀ p, p ∉ parts → p.same s t

abbrev KeepsPartsUnheld (c : Instr) (parts : List Part) : Prop :=
  ∀ s t, s.pins.held = none → exec c s = .next t → ∀ p, p ∈ parts → p.same s t

/-- The commands that may move TBASE: the resets and wakes, and the bus writes that may carry one, those that start-up releases
among them (Table 3.7, R56, R73). -/
def setsTime : Instr → Bool
  | .kindlingEnable _
  | .resetNAsserted
  | .kindlingStop
  | .stateEntryComplete
  | .softReset _
  | .wakeFromSmoulder _
  | .emberSupplyLost
  | .coarseAlarm
  | .wakeFromCold _
  | .powerOnReset
  | .level3AutoReset
  | .fluL3DeviceReset
  | .startupHearthsReady
  | .startupDigestsGood _ _
  | .startupDeliveryComplete
  | .registerWrite _ _
  | .blockWrite _ _ _
  | .regWrite32 _ _ _
  | .addressMatchWake _ => true
  | _ => false

end Sys2Proof.Machine
end

