-- ==== Sys2Proof/Certificates/Slice0/Obligations.lean ====
section
/-! DEFINITION. The statements for the provers. -/

open Sys2Proof Sys2Proof.Machine

/-- A command at the front of the queue is run on the queue's rest. -/
def Obligations.StepRunsFront : Prop :=
  ∀ (c : Instr) (rest : List Instr) (s : State), step { s with pending := c :: rest } = exec c { s with pending := rest }


/-! ### Chapter 3: supplies, power states, start-up, resets, Kindling -/

/-- The supply events (R44, R46, R62, Table 3.1). -/
def Obligations.SupplyEvents : Prop :=
  (∀ (s : State) (src : Fin 3), Completes (.emberSourceLost src) s fun t =>
    t.get { F.EMB_STATUS_src_vstby with lo := src.val } = 0 ∧ t.get F.EMB_EVENT_source_lost = 1 ∧ t.ember = s.ember) ∧
  (∀ s : State, Completes .emberSupplyLost s fun t =>
    t.ember.dev = .unpowered ∧ t.regs = [] ∧ t.timers = [] ∧ (s.otp.run = none → t.otp.cells = s.otp.cells)) ∧
  (∀ s : State, Completes .powerOnReset s fun t =>
    t.ember.dev = .startup ∧ t.ember.step = 1 ∧ t.tbase = 0 ∧ (s.otp.run = none → t.otp.cells = s.otp.cells) ∧ t.ember.coldEntered = false ∧
    t.get F.DEV_RESET_CAUSE_cause = (if s.ember.coldEntered then 8 else 1)) ∧
  (∀ s : State, (s.ember.dev = .lit ∨ s.ember.dev = .banked ∨ s.ember.dev = .startup) → s.ember.kindling = none →
    Completes .vsysLoss s fun t =>
      t.ember.dev = .smoulder ∧ t.ember.vsysArmed = true ∧ t.ember.entry = none ∧
      t.hearths.roleA = .off ∧ t.hearths.roleB = .off ∧ t.feeds.gate = 0) ∧
  (∀ s : State, s.ember.dev = .lit → s.pairEqual 0x10 0 = false → s.pairDue (0x10, 0, 0) = s.tbase.toNat →
    Completes .vddioUndervoltage s fun t => t.get F.FLU_STATUS_l3 = 1) ∧
  (∀ s : State, s.ember.dev = .lit → s.ember.kindling = none → s.pairEqual 0x11 0 = false → s.pairDue (0x11, 0, 0) = s.tbase.toNat →
    Completes .vdrvUndervoltage s fun t => t.get F.FLU_STATUS_l3 = 1)

/-- Requests for a power state, their refusal for an open path, and the entry they begin (R48-R52). -/
def Obligations.PowerRequests : Prop :=
  (∀ s : State, s.mayLeaveLit → Completes .reqBanked s fun t =>
    t.ember.entry = some .banked ∧ t.ember.dev = .lit ∧ t.running .stateEntry 0 = true ∧ t.get F.EMB_KEY_key = 0) ∧
  (∀ s : State, s.mayLeaveLit → s.get F.EMB_KEY_key = 0xC5 → Completes .reqSmoulder s fun t =>
    t.ember.entry = some .smoulder ∧ t.ember.dev = .lit ∧ t.running .stateEntry 0 = true ∧ t.get F.EMB_KEY_key = 0) ∧
  (∀ s : State, s.mayLeaveLit → s.get F.EMB_KEY_key = 0xC5 → Completes .reqCold s fun t =>
    t.ember.entry = some .cold ∧ t.ember.dev = .lit ∧ t.running .stateEntry 0 = true ∧ t.get F.EMB_KEY_key = 0) ∧
  (∀ s : State, s.ember.dev = .banked → s.ember.entry = none → Completes .reqLit s fun t =>
    t.ember.dev = .lit ∧ t.get F.EMB_WAKE_SRC_source = 8 ∧ t.get F.EMB_WAKE_SRC_from = 1 ∧ t.running .edram 0 = false) ∧
  (∀ (s : State) (n : Port) (c : Instr), s.pageAnswers 1 = true → s.ember.kindling = none → s.pathIsOpen n = false → c ∈ [Instr.reqBanked, .reqSmoulder, .reqCold] → Completes c s fun t =>
    t.get F.EMB_STATUS_refuse = 1 ∧ t.get F.EMB_EVENT_pstate_refused = 1 ∧ t.get F.EMB_KEY_key = 0 ∧ t.ember = s.ember ∧
    t.timers = s.timers) ∧
  (∀ (s : State) (d : DevState), (d = .banked ∨ d = .smoulder ∨ d = .cold) → s.ember.entry = some d → s.ember.latched = none →
    Completes .stateEntryComplete s fun t => t.ember.dev = d ∧ t.ember.entry = none) ∧
  (∀ (s : State) (w : Wake), s.ember.entry = some .banked → bankedWake w = true → s.ember.latched = none →
    Completes (.wakeDuringEntry w) s fun t => t = { s with ember := { s.ember with latched := some w } })

/-- Wakes from Banked, Smoulder and Cold, the sources latched while VSYS is missing, and the work of the Ember domain in the low states
(R47, R54, R64, R67, R433, R458, Table 3.2). -/
def Obligations.PowerWakes : Prop :=
  (∀ (s : State) (w : Wake), s.ember.dev = .banked → s.ember.entry = none → bankedWake w = true →
    Completes (.wakeFromBanked w) s fun t =>
      t.ember.dev = .lit ∧ t.get F.EMB_WAKE_SRC_source = wakeCode w ∧ t.ember.resensePending = true) ∧
  (∀ (s : State) (w : Wake), s.ember.dev = .smoulder → s.smoulderWakes w = true → s.flag F.EMB_STATUS_vsys_ok = true →
    Completes (.wakeFromSmoulder w) s fun t =>
      t.ember.dev = .startup ∧ t.ember.step = 2 ∧ t.tbase = s.tbaseRebuilt ∧ (s.otp.run = none → t.otp.cells = s.otp.cells)) ∧
  (∀ (s : State) (w : Wake), s.ember.dev = .cold → coldWakes w = true → s.flag F.EMB_STATUS_vsys_ok = true → Completes (.wakeFromCold w) s fun t =>
    t.ember.dev = .startup ∧ t.ember.step = 1 ∧ t.tbase = 0 ∧
    t.get F.EMB_WAKE_SRC_source = wakeCode (s.ember.latched.getD w)) ∧
  (∀ (s : State) (w : Wake), s.ember.dev = .smoulder → s.smoulderWakes w = true → s.flag F.EMB_STATUS_vsys_ok = false →
    w ≠ .smbus → s.ember.latched = none → Completes (.wakeLatchedNoVsys w) s fun t =>
      t = { s with ember := { s.ember with latched := some w } }) ∧
  (∀ (s : State) (changed : BitVec 8), s.ember.dev = .smoulder → Completes (.smoulderCcPoll changed) s fun t =>
    t.ember.ccPolled = changed ∧ t.left .ccPoll 0 = 3277) ∧
  (∀ s : State, s.ember.dev = .smoulder → s.get F.EMB_ALARM_ticks ≠ 0 → s.flag F.EMB_WAKE_EN_alarm = true →
    s.flag F.EMB_STATUS_vsys_ok = true → Completes .coarseAlarm s fun t => t.ember.dev = .startup ∧ t.ember.step = 2) ∧
  (∀ s : State, s.ember.dev = .banked → Completes .edramRefresh s fun t =>
    t.left .edram 0 = ceilDiv (2 * s.tickKhz) (2 ^ s.ember.refreshK) ∧ t.regs = s.regs) ∧
  (∀ (s : State) (code : BitVec 12), s.ember.dev = .banked → Completes (.bankedTjSample code) s fun t =>
    t.ember.refreshK = (if code.toNat * 125 ≤ 318150 then 0 else ceilDiv (code.toNat * 125 - 318150) 10000) ∧
    t.adc 47 = code.toNat ∧ t.left .tjSample 0 = s.ms 1)

/-- The steps of start-up in their order (R55-R57, Table 3.5), and the re-sense of Banked exit (R66). -/
def Obligations.StartUpSteps : Prop :=
  (∀ (s : State) (supplies : BitVec 7) (tj : BitVec 8) (flips : List OtpFlip), s.ember.dev = .startup → s.ember.step = 1 →
    s.ember.resetHeld = false → supplies.getLsbD 3 = true → Completes (.startupRegulatorsInRange supplies tj flips) s fun t =>
      t.ember.step = 2 ∧ t.ember.dev = .startup) ∧
  (∀ (s : State) (pins : BitVec 3), s.ember.dev = .startup → s.ember.step = 2 → s.pins.wakeAddr = none →
    Completes (.startupSensingComplete pins) s fun t => t.ember.step = 3 ∧ t.get F.SMB_STATUS_pins = pins.toNat) ∧
  (∀ s : State, s.ember.dev = .startup → s.ember.step = 3 → s.pins.held = none → Completes .startupDeliveryComplete s fun t =>
    t.ember.step = 4 ∧ (t.ember.dev = .startup ∨ (t.ember.dev = .fuseHold ∧ t.hearths.roleA = .off ∧ t.hearths.roleB = .off))) ∧
  (∀ (s : State) (passA passB : Bool), s.ember.dev = .startup → s.ember.step = 4 → s.pins.held = none → s.bootMode = .mirror →
    Completes (.startupDigestsGood passA passB) s fun t =>
      t.ember.step = 5 ∧ (t.ember.dev = .held ↔ passA = false ∧ passB = false) ∧
      ((passA = true ∨ passB = true) → t.hearths.mode = .mirror ∧
        t.hearths.roleA = (if passA then .active else .fenced) ∧
        t.hearths.roleB = (if passB then (if passA then .shadow else .active) else .fenced))) ∧
  (∀ s : State, s.ember.dev = .startup → s.ember.step = 5 → s.powered .A = true → s.pins.held = none → Completes .startupHearthsReady s fun t =>
    t.ember.step = 6) ∧
  (∀ s : State, s.ember.dev = .startup → s.ember.step = 6 → s.ember.kindling = none →
    Completes .startupTablesLoaded s fun t => t.ember.step = 7) ∧
  (∀ s : State, s.ember.dev = .startup → s.ember.step = 7 → Completes .startupPortsEnabled s fun t =>
    t.ember.dev = .lit ∧ t.ember.step = 8 ∧ t.ember.aliveOn = true ∧ t.get F.DEV_EVENT_booted = 1 ∧
    t.get F.DEV_SEQ_boots = (s.get F.DEV_SEQ_boots + 1) % 256) ∧
  (∀ (s : State) (flips : List OtpFlip), s.ember.resensePending = true → Completes (.bankedExitResense flips) s fun t =>
    t.ember.resensePending = false)

/-- The device resets and Kindling (R59-R62, R64, R432, Tables 3.6 and 3.7). -/
def Obligations.ResetsAndKindling : Prop :=
  (∀ s : State, s.ember.dev ≠ .unpowered → s.ember.dev ≠ .cold → s.ember.dev ≠ .smoulder → Completes .resetNAsserted s fun t =>
    t.ember.dev = .startup ∧ t.ember.step = 2 ∧ t.ember.resetHeld = true ∧ t.ember.entry = none ∧
    t.get F.DEV_RESET_CAUSE_cause = 2 ∧ t.tbase = s.tbase) ∧
  (∀ s : State, s.ember.resetHeld = true → Completes .resetNReleased s fun t =>
    t = { s with ember := { s.ember with resetHeld := false } }) ∧
  (∀ (s : State) (pins : BitVec 3), s.pageAnswers 0 = true → s.ember.dev ≠ .fuseHold → s.get F.DEV_KEY_key = 0xA5 → Completes (.softReset pins) s fun t =>
    t.ember.dev = .startup ∧ t.ember.step = 5 ∧ t.get F.DEV_RESET_CAUSE_cause = 3 ∧ t.get F.SMB_STATUS_pins = pins.toNat) ∧
  (∀ (s : State) (pins : BitVec 3), s.pageAnswers 0 = true → s.ember.dev ≠ .fuseHold → s.get F.DEV_KEY_key ≠ 0xA5 → Completes (.softReset pins) s fun t =>
    t.get F.DEV_EVENT_key_refused = 1 ∧ t.get F.DEV_KEY_key = 0 ∧ t.ember = s.ember) ∧
  (∀ (s : State) (vbus : BitVec 8) (n : Port), s.ember.dev = .unpowered → s.kindlePort vbus = some n → s.otpKindleOff = false →
    Completes (.kindlingEnable vbus) s fun t =>
      t.ember.kindling = some n ∧ t.ember.dev = .startup ∧ t.get F.EMB_STATUS_src_kindle = 1) ∧
  (∀ (s : State) (n : Port), s.ember.kindling = some n → s.ember.dev = .startup → s.ember.step = 6 → s.ember.kindleClosed = false →
    Completes .kindlePathClose s fun t => t.ember.kindleClosed = true ∧ t.running .kindleStall 0 = true) ∧
  (∀ (s : State) (n : Port), s.ember.kindling = some n → s.ember.dev = .startup → s.ember.step = 6 →
    Completes .kindleHandover s fun t => t.ember.dev = .lit ∧ t.ember.step = 8) ∧
  (∀ (s : State) (n : Port), s.ember.kindling = some n → s.running .kindleStall 0 = true → s.pairEqual 3 0 = false →
    s.pairDue (3, 0, 0) = s.tbase.toNat → Completes .kindleStall s fun t => t.get F.FLU_EVENT_level0 = 1 ∧ t.running .kindleStall 0 = false) ∧
  (∀ (s : State) (n : Port), s.ember.kindling = some n → s.flag F.EMB_STATUS_src_vstby = true → Completes .kindlingStop s fun t =>
    t.ember.dev = .smoulder ∧ t.ember.kindling = none ∧ t.ember.vsysArmed = true)

/-! ### Chapter 4: the time base -/

/-- The reference sources, TBASE, the coarse counter and the capacity figures (R69-R73, R75, R85, R460). -/
def Obligations.ReferenceCommands : Prop :=
  (∀ (s : State) (khz : Nat), s.get F.TB_STATUS_ref_src = 2 → 98 * s.get F.TB_CONFIG_ref_khz ≤ 100 * khz →
    100 * khz ≤ 102 * s.get F.TB_CONFIG_ref_khz → khz < 65536 → s.atEpoch = true → Completes (.refChangeover khz) s fun t =>
      t.get F.TB_STATUS_ref_src = s.get F.TB_CONFIG_ref_sel ∧ t.flag F.TB_STATUS_qualified = true ∧ t.get F.TB_REF_MEAS_khz = khz ∧
      t.flag F.TB_EVENT_ref_change = true ∧ t.get F.TB_SEQ_changes = (s.get F.TB_SEQ_changes + 1) % 256 ∧ t.tbase = s.tbase ∧
      t.timers = s.timers.map fun x => { x with left := ceilDiv (x.left * t.tickKhz) 24576 }) ∧
  (∀ (s : State) (khz : Nat), s.get F.TB_STATUS_ref_src = 2 → 98 * s.get F.TB_CONFIG_ref_khz ≤ 100 * khz →
    100 * khz ≤ 102 * s.get F.TB_CONFIG_ref_khz → khz < 65536 → s.atEpoch = false → Completes (.refChangeover khz) s fun t =>
      t.get F.TB_STATUS_ref_src = 2 ∧ t.flag F.TB_STATUS_qualified = true ∧ t.get F.TB_REF_MEAS_khz = khz ∧ t.timers = s.timers) ∧
  (∀ s : State, s.get F.TB_STATUS_ref_src ≠ 2 → Completes .refLost s fun t =>
    t.get F.TB_STATUS_ref_src = 2 ∧ t.flag F.TB_STATUS_qualified = false ∧ t.flag F.TB_EVENT_ref_lost = true ∧
    t.flag F.TB_EVENT_ref_change = true ∧ t.get F.TB_SEQ_changes = (s.get F.TB_SEQ_changes + 1) % 256 ∧ t.tbase = s.tbase ∧
    t.timers = s.timers.map fun x => { x with left := ceilDiv (x.left * 24576) (s.get F.TB_CONFIG_ref_khz) }) ∧
  (∀ (s : State) (v : Word), (bitsGet v 16 16 = 0 ∨ bitsGet v 16 16 = s.get F.TB_CONFIG_ref_khz) →
    (12000 ≤ s.get F.TB_CONFIG_ref_khz ∧ s.get F.TB_CONFIG_ref_khz ≤ 50000) → bitsGet v 0 2 = s.get F.TB_CONFIG_ref_sel →
    bitsGet v 0 2 < 2 → (bitsGet v 0 2 = 0 ∨ bitsGet v 8 3 = s.get F.TB_CONFIG_ref_port) → s.pageAnswers 2 = true → Completes (.tbConfigWrite v) s fun t =>
      t.get F.TB_CONFIG_ref_port = bitsGet v 8 3 ∧ t.get F.TB_CONFIG_ref_sel = bitsGet v 0 2 ∧
      t.get F.TB_CONFIG_ref_khz = s.get F.TB_CONFIG_ref_khz ∧ t.timers = s.timers ∧ t.flue = s.flue) ∧
  (∀ (s : State) (v : Word), bitsGet v 16 16 ≠ 0 → (bitsGet v 16 16 < 12000 ∨ 50000 < bitsGet v 16 16 ∨
      (bitsGet v 16 16 ≠ s.get F.TB_CONFIG_ref_khz ∧ ∃ n : Port, 1250 * s.get (F.STG_CARRIER_n_div n) < bitsGet v 16 16)) →
    s.pageAnswers 2 = true → Completes (.tbConfigWrite v) s fun t => t.flag F.TB_EVENT_cfg_refused = true ∧ Keeps s t F.TB_CONFIG_ref_khz ∧
      Keeps s t F.TB_CONFIG_ref_sel ∧ Keeps s t F.TB_CONFIG_ref_port ∧ t.timers = s.timers) ∧
  (∀ s : State, s.pageAnswers 2 = true → Completes .tbaseLoRead s fun t =>
    t.pins.out = wordBytes (s.tbase.setWidth 32) ∧ t.get F.TB_TBASE_HI_tbase = s.tbase.toNat / 2 ^ 32 ∧ t.tbase = s.tbase) ∧
  (∀ (s : State) (ticks : Nat), s.ember.dev = .lit → s.get F.TB_STATUS_ref_src ≠ 2 → s.flag F.TB_STATUS_qualified = true →
    2 * ticks < 2 ^ 32 → Completes (.coarseCalibration ticks) s fun t =>
      t.get F.TB_COARSE_CAL_ratio = ticks * 65536 / 32768 ∧ t.flag F.TB_STATUS_cal_valid = true ∧ OnlyRegs s t) ∧
  (∀ (s : State) (nsA nsB : Nat), 1 ≤ nsA → nsA ≤ 260 → 4 ≤ nsA → 4 ≤ nsB → nsB ≤ 260 →
    s.atEpoch = true → Completes (.capacityMeasure nsA nsB) s fun t =>
    (s.powered .A = true → t.get (F.SELF_cap .A) = 256 * 1000 / nsA ∧ 984 ≤ t.get (F.SELF_cap .A)) ∧
    (s.powered .B = true → t.get (F.SELF_cap .B) = 256 * 1000 / nsB ∧ 984 ≤ t.get (F.SELF_cap .B)) ∧ OnlyRegs s t)

/-- Carriers, phases and the lock to an audio frame (R74, R76-R81, R17). -/
def Obligations.CarrierCommands : Prop :=
  (∀ (s : State) (n : Port) (v : Word), 20 ≤ bitsGet v 0 7 → bitsGet v 0 7 ≤ 98 →
    s.get F.TB_CONFIG_ref_khz ≤ 1250 * bitsGet v 0 7 → (bitsGet v 24 1 = 1 ∨ bitsGet v 8 7 < bitsGet v 0 7) →
    s.pageAnswers (portPage n 4) = true → Completes (.carrierWrite n v) s fun t =>
      t.get (F.STG_CARRIER_n_div n) = bitsGet v 0 7 ∧ t.get (F.STG_CARRIER_phase n) = bitsGet v 8 7 ∧
      t.get (F.STG_CARRIER_auto n) = bitsGet v 24 1 ∧ t.get (F.STG_CARRIER_lock n) = bitsGet v 25 1 ∧
      (bitsGet v 24 1 = 0 → (s.lp.get n).switching = false → t.get (F.STG_CARRIER_phase_eff n) = bitsGet v 8 7) ∧
      (∀ m : Port, m ≠ n → t.tb.carriers.get m = s.tb.carriers.get m)) ∧
  (∀ (s : State) (n : Port) (v : Word), bitsGet v 0 7 ≠ 0 →
    (bitsGet v 0 7 < 20 ∨ 98 < bitsGet v 0 7 ∨ 1250 * bitsGet v 0 7 < s.get F.TB_CONFIG_ref_khz) →
    s.pageAnswers (portPage n 4) = true → Completes (.carrierWrite n v) s fun t => t.flag (F.STG_EVENT_cfg_refused n) = true ∧ Keeps s t (F.STG_CARRIER_n_div n) ∧
      Keeps s t (F.STG_CARRIER_phase n) ∧ Keeps s t (F.STG_CARRIER_auto n) ∧ Keeps s t (F.STG_CARRIER_lock n)) ∧
  (∀ (s : State) (n : Port), s.flag (F.STG_CARRIER_auto n) = true → s.get (F.POL_STATUS_typec n) ≠ 0 →
    (∀ m : Port, m ≠ n → s.flag (F.STG_CARRIER_auto m) = false ∨ s.get (F.POL_STATUS_typec m) = 0 ∨
      s.get (F.STG_CARRIER_n_div m) ≠ s.get (F.STG_CARRIER_n_div n)) →
    s.atEpoch = true → (s.lp.get n).switching = false →
    Completes .autoPhaseRecompute s fun t => t.get (F.STG_CARRIER_phase_eff n) = 0 ∧ t = { s with regs := t.regs, tb := t.tb }) ∧
  (∀ (s : State) (n : Port), s.periodDue n = true → Completes (.switchingPeriodStart n) s fun t =>
    (t.tb.carriers.get n).lastStart = some s.tbase.toNat ∧ (t.tb.carriers.get n).nEff = s.get (F.STG_CARRIER_n_div n) ∧
    (s.flag F.TB_STATUS_lock = false → (t.tb.carriers.get n).anchor = (s.tb.carriers.get n).anchor) ∧
    ((s.lp.get n).senLow = true → t.flag (F.STG_STATUS_sen n) = false)) ∧
  (∀ (s : State) (n : Port), s.periodDue n = false → Completes (.switchingPeriodStart n) s fun t => t = s) ∧
  (∀ (s : State) (n : Port) (b : Nat), (s.tb.carriers.get n).lastStart = some b → s.since b + 1 < s.get (F.STG_CARRIER_n_div n) →
    Completes (.switchingPeriodStart n) s fun t => t = s) ∧
  (∀ (s : State) (e : Nat), s.tb.lastEdge = some e → s.get F.TB_SYNC_CFG_frame_ticks ≠ 0 → s.flag F.TB_STATUS_lock = false →
    (s.tbase - BitVec.ofNat 48 e).toNat = s.get F.TB_SYNC_CFG_frame_ticks → s.get F.TB_FRAME_MEAS_good = 7 →
    Completes .syncInEdge s fun t => t.flag F.TB_STATUS_lock = true ∧ t.tb.anchor = s.tbase.toNat ∧
      t.get F.TB_FRAME_MEAS_good = 8 ∧ t.flag F.TB_EVENT_sync_lock = true ∧ t.tb.lastEdge = some s.tbase.toNat ∧
      t.tb.carriers = s.tb.carriers) ∧
  (∀ (s : State) (e : Nat), s.tb.lastEdge = some e → s.get F.TB_SYNC_CFG_frame_ticks ≠ 0 → Completes .syncFrameMissing s fun t =>
    t.get F.TB_FRAME_MEAS_good = 0 ∧ t.tb.bad = s.tb.bad + 1 ∧ t.tb.anchor = s.tb.anchor ∧ t.tb.carriers = s.tb.carriers ∧
    (s.flag F.TB_STATUS_lock = true → 3 ≤ s.tb.bad → t.flag F.TB_STATUS_lock = false ∧ t.flag F.TB_EVENT_sync_lost = true) ∧
    (s.tb.bad < 3 → t.flag F.TB_STATUS_lock = s.flag F.TB_STATUS_lock)) ∧
  (∀ (s : State) (published : BitVec 8), s.hearths.mode = .split → s.hearths.roleA = .owner → s.hearths.roleB = .owner → published = 0xFF → s.atEpoch = true →
    Completes (.epochExchangeLatch published) s fun t =>
      (∀ n, t.draught.records.get n = s.demandRecord n) ∧ t.draught.exchA = 0 ∧ t.draught.exchB = 0 ∧ t.regs = s.regs ∧ t.flue = s.flue)

/-! ### Chapter 5: the CC Front End -/

/-- Level codes, attach, detach and what the pins report (R91-R94, R97, R99, R107, R163). -/
def Obligations.AttachAndDetach : Prop :=
  (∀ (s : State) (n : Port) (mv : Nat), (s.cc.get n).attached = false → (s.cc.get n).iso2 = false → (s.cc.get n).busy = false →
    (s.pol.get n).trying = 0 → s.get (F.CC_STATUS_pres2 n) = 1 → s.get (F.CC_STATUS_pres1 n) = 1 → s.get (F.CC_STATUS_lvl1 n) = 4 →
    s.get (F.CC_STATUS_lvl2 n) = 4 → s.flag (F.CC_STATUS_vbus_present n) = true → 200 ≤ mv → mv < 660 →
    Completes (.ccLevelChange n true mv) s fun t =>
      t.get (F.CC_STATUS_lvl2 n) = 5 ∧ t.get (F.CC_STATUS_lvl1 n) = 4 ∧ t.get (F.CC_STATUS_attach n) = 6 ∧
      t.left .attach n.val = s.get (F.CC_DEBOUNCE_attach_ms n) * s.tickKhz ∧ (t.cc.get n).attached = false ∧ t.inputs = s.inputs) ∧
  (∀ (s : State) (n : Port), s.running .attach n.val = true → (s.cc.get n).attached = false → s.get (F.CC_STATUS_pres1 n) = 1 →
    s.get (F.CC_STATUS_pres2 n) = 1 → s.get (F.CC_STATUS_lvl1 n) = 4 → s.get (F.CC_STATUS_lvl2 n) = 5 →
    s.flag (F.CC_STATUS_vbus_present n) = true → Completes (.attachDebounceExpiry n) s fun t =>
      (t.cc.get n).attached = true ∧ t.get (F.CC_STATUS_attach n) = 6 ∧ t.flag (F.CC_STATUS_orient n) = true ∧
      t.flag (F.CC_EVENT_attach n) = true ∧ t.get (F.CC_SEQ_changes n) = (s.get (F.CC_SEQ_changes n) + 1) % 256 ∧
      t.inputs = s.inputs ++ [{ tick := s.tbase.toNat, port := n, kind := .attach 6 }] ∧ t.running .attach n.val = false ∧
      t.get (F.POL_SEQ_epoch n) = (s.get (F.POL_SEQ_epoch n) + 1) % 256) ∧
  (∀ (s : State) (n : Port), (s.cc.get n).attached = true → s.get (F.CC_STATUS_attach n) = 1 → s.flag (F.CC_STATUS_orient n) = false →
    s.get (F.CC_STATUS_lvl1 n) = 3 → s.running .detach n.val = true → Completes (.detachDebounceExpiry n) s fun t =>
      (t.cc.get n).attached = false ∧ t.get (F.CC_STATUS_attach n) = 0 ∧ t.flag (F.CC_EVENT_detach n) = true ∧
      t.flag (F.CC_STATUS_vconn_on n) = false ∧ t.seqOf n = .idle ∧
      t.inputs = s.inputs ++ [{ tick := s.tbase.toNat, port := n, kind := .detach }]) ∧
  (∀ (s : State) (n : Port), (s.cc.get n).attached = true → s.get (F.CC_STATUS_attach n) = 1 → s.flag (F.CC_STATUS_orient n) = false →
    s.get (F.CC_STATUS_lvl1 n) = 3 → (s.cc.get n).busy = false → Completes (.ccOpenFast n) s fun t =>
      t.flag (F.CC_EVENT_cc_open_fast n) = true ∧ t.inputs = s.inputs ++ [{ tick := s.tbase.toNat, port := n, kind := .openFast }] ∧
      t.cc = s.cc ∧ t.lp = s.lp) ∧
  (∀ (s : State) (n : Port), (s.cc.get n).attached = false → s.flag (F.CC_STATUS_vbus_present n) = true →
    s.get (F.CC_STATUS_lvl1 n) = 4 → s.get (F.CC_STATUS_lvl2 n) = 4 → Completes (.vbusNoCc n) s fun t =>
      t.flag (F.CC_EVENT_vbus_no_cc n) = true ∧ t.cc = s.cc ∧ t.timers = s.timers ∧ Keeps s t (F.CC_STATUS_attach n)) ∧
  (∀ (s : State) (n : Port) (mv : Nat), (s.cc.get n).attached = true → s.get (F.CC_STATUS_attach n) = 1 →
    s.flag (F.CC_STATUS_orient n) = false → (s.cc.get n).iso2 = false → (s.cc.get n).busy = false → s.get (F.CC_STATUS_pres2 n) = 3 →
    (s.cc.get n).thr = 3 → s.get (F.CC_STATUS_lvl2 n) = 3 → mv < 200 → Completes (.otherPinChange n mv) s fun t =>
      t.get (F.CC_STATUS_lvl2 n) = 1 ∧ t.flag (F.CC_EVENT_other_pin n) = true ∧ Keeps s t (F.CC_STATUS_attach n) ∧
      Keeps s t (F.CC_STATUS_orient n) ∧ (t.cc.get n).attached = true ∧ t.inputs = s.inputs) ∧
  (∀ (s : State) (n : Port), (s.cc.get n).attached = true → s.get (F.CC_STATUS_attach n) = 6 → s.flag (F.CC_STATUS_orient n) = false →
    s.get (F.CC_STATUS_lvl1 n) = 7 → s.get (F.CC_STATUS_rp_level n) ≠ 3 → s.running .rpLevel n.val = true →
    Completes (.rpLevelDebounced n) s fun t =>
      t.get (F.CC_STATUS_rp_level n) = 3 ∧ t.flag (F.CC_EVENT_rp_change n) = true ∧ t.flag (F.MSG_STATUS_sinktx_ng n) = false ∧
      t.running .rpLevel n.val = false) ∧
  (∀ (s : State) (n : Port), (s.cc.get n).attached = true → s.get (F.CC_STATUS_attach n) = 6 → s.flag (F.CC_STATUS_orient n) = false →
    s.get (F.CC_STATUS_lvl1 n) = 6 → s.get (F.CC_STATUS_rp_level n) = 3 → s.running .rpLevel n.val = true →
    Completes (.rpLevelDebounced n) s fun t =>
      t.get (F.CC_STATUS_rp_level n) = 2 ∧ t.flag (F.CC_EVENT_rp_change n) = true ∧ t.flag (F.MSG_STATUS_sinktx_ng n) = true) ∧
  (∀ (s : State) (n : Port) (on : Bool), (s.cc.get n).attached = true → Completes (.vbusPresentChange n on) s fun t =>
    t.flag (F.CC_STATUS_vbus_present n) = on ∧ OnlyRegs s t)

/-- Presentations, toggling, configuration and the VCONN switch (R89, R90, R96, R102-R104). -/
def Obligations.PresentationAndVconn : Prop :=
  (∀ (s : State) (n : Port), s.higherHeld n = false → (s.cc.get n).iso1 = false → (s.cc.get n).iso2 = false →
    s.flag (F.CC_STATUS_vconn_on n) = false → Completes (.presentationCmd n .rd) s fun t =>
      t.get (F.CC_STATUS_pres1 n) = 1 ∧ t.get (F.CC_STATUS_pres2 n) = 1 ∧ (t.cc.get n).cmd = .rd ∧
      t.flag (F.CC_STATUS_toggling n) = false ∧ t.flag (F.CC_STATUS_db_clamp n) = false ∧ t.inputs = s.inputs) ∧
  (∀ (s : State) (n : Port), s.higherHeld n = false → (s.cc.get n).iso1 = false → (s.cc.get n).iso2 = false →
    s.flag (F.CC_STATUS_vconn_on n) = false → Completes (.presentationCmd n .opened) s fun t =>
      t.get (F.CC_STATUS_pres1 n) = 0 ∧ t.get (F.CC_STATUS_pres2 n) = 0 ∧ t.get (F.CC_STATUS_lvl1 n) = 0 ∧
      t.get (F.CC_STATUS_lvl2 n) = 0 ∧ (t.cc.get n).cmd = .opened ∧ t.running .drp n.val = false) ∧
  (∀ (s : State) (n : Port) (l : Fin 3), (s.cc.get n).cmd = .toggle l → s.flag (F.CC_STATUS_toggling n) = true →
    (s.cc.get n).iso1 = false → (s.cc.get n).iso2 = false → s.flag (F.CC_STATUS_vconn_on n) = false →
    s.get (F.CC_STATUS_pres1 n) = 3 + l.val → s.get (F.CC_STATUS_pres2 n) = 3 + l.val → Completes (.drpTogglePhase n) s fun t =>
      t.get (F.CC_STATUS_pres1 n) = 1 ∧ t.get (F.CC_STATUS_pres2 n) = 1 ∧ t.running .drp n.val = true ∧
      t.flag (F.CC_STATUS_toggling n) = true) ∧
  (∀ (s : State) (n : Port) (l : Fin 3), (s.cc.get n).cmd = .toggle l → s.flag (F.CC_STATUS_toggling n) = true →
    (s.cc.get n).iso1 = false → (s.cc.get n).iso2 = false → s.flag (F.CC_STATUS_vconn_on n) = false →
    s.get (F.CC_STATUS_pres1 n) = 1 → s.get (F.CC_STATUS_pres2 n) = 1 → Completes (.drpTogglePhase n) s fun t =>
      t.get (F.CC_STATUS_pres1 n) = 3 + l.val ∧ t.get (F.CC_STATUS_pres2 n) = 3 + l.val ∧
      t.left .drp n.val = s.get (F.CC_CONFIG_drp_period_ms n) * s.tickKhz * s.get (F.CC_CONFIG_drp_src_pct n) / 100 ∧
      t.flag (F.CC_STATUS_toggling n) = true) ∧
  (∀ (s : State) (n : Port) (v : Word), 100 ≤ bitsGet v 0 8 → bitsGet v 0 8 ≤ 200 → 10 ≤ bitsGet v 8 8 → bitsGet v 8 8 ≤ 20 →
    4 ≤ bitsGet v 16 8 → bitsGet v 16 8 ≤ 24 → s.pageAnswers (portPage n 0) = true → Completes (.ccConfigWrite n true v) s fun t =>
      t.get (F.CC_DEBOUNCE_attach_ms n) = bitsGet v 0 8 ∧ t.get (F.CC_DEBOUNCE_detach_ms n) = bitsGet v 8 8 ∧
      t.get (F.CC_DEBOUNCE_open_fast n) = bitsGet v 16 8 ∧ OnlyRegs s t) ∧
  (∀ (s : State) (n : Port) (v : Word), bitsGet v 0 8 ≠ 0 → (bitsGet v 0 8 < 100 ∨ 200 < bitsGet v 0 8) →
    s.pageAnswers (portPage n 0) = true → Completes (.ccConfigWrite n true v) s fun t => t.flag (F.CC_EVENT_cfg_refused n) = true ∧ Keeps s t (F.CC_DEBOUNCE_attach_ms n) ∧
      Keeps s t (F.CC_DEBOUNCE_detach_ms n) ∧ Keeps s t (F.CC_DEBOUNCE_open_fast n)) ∧
  (∀ (s : State) (n : Port), s.flag F.FLU_STATUS_l3 = false → s.flag (F.CC_STATUS_vconn_on n) = false → (s.cc.get n).attached = true →
    s.get (F.CC_STATUS_attach n) = 2 → s.flag (F.CC_STATUS_orient n) = false → s.flag F.EMB_STATUS_vconn_in_ok = true →
    (s.pol.get n).safeHeld = false → (s.cc.get n).detachTick ≠ some s.tbase.toNat →
    25 * s.vconnSum n (s.get (F.CC_VCONN_CFG_ilim n)) ≤ 1200 → (s.cc.get n).iso2 = false →
    Completes (.vconnEnable n) s fun t =>
      t.flag (F.CC_STATUS_vconn_on n) = true ∧ t.flag (F.CC_VCONN_STATUS_pin n) = true ∧ t.get (F.CC_STATUS_pres2 n) = 6 ∧
      t = { s with regs := t.regs, cc := t.cc, boundary := t.boundary }) ∧
  (∀ (s : State) (n : Port), s.flag F.FLU_STATUS_l3 = false → s.flag (F.CC_STATUS_vconn_on n) = false → s.flag F.EMB_STATUS_vconn_in_ok = false →
    (s.pol.get n).safeHeld = false → (s.cc.get n).detachTick ≠ some s.tbase.toNat → Completes (.vconnEnable n) s fun t => t.flag (F.CC_EVENT_vconn_refused n) = true ∧ t.flag (F.CC_STATUS_vconn_on n) = false) ∧
  (∀ (s : State) (n : Port), s.flag (F.CC_STATUS_vconn_on n) = true → Completes (.vconnDisable n) s fun t =>
    t.flag (F.CC_STATUS_vconn_on n) = false ∧ t.flag (F.CC_VCONN_STATUS_on n) = false ∧
    t.cc = s.cc ∧ t.flue = s.flue) ∧
  (∀ (s : State) (n : Port) (held : Nat), s.flag (F.CC_STATUS_vconn_on n) = true → s.vconnOcTicks n ≤ held → Completes (.vconnOc ⟨n, held⟩) s fun t =>
    t.flag (F.CC_STATUS_vconn_on n) = false ∧ t.flag (F.CC_EVENT_vconn_oc n) = true ∧ t.cc = s.cc) ∧
  (∀ (s : State) (n : Port), s.flag (F.CC_STATUS_vconn_on n) = true → Completes .vconnUv s fun t =>
    t.flag (F.CC_STATUS_vconn_on n) = false ∧ t.flag (F.CC_EVENT_vconn_uv n) = true ∧ t.flag F.EMB_STATUS_vconn_in_ok = false) ∧
  (∀ (s : State) (n : Port) (v : Word), 1 ≤ bitsGet v 0 4 → bitsGet v 0 4 ≤ 12 → 1 ≤ bitsGet v 8 8 → bitsGet v 8 8 ≤ 100 →
    s.flag (F.CC_STATUS_vconn_on n) = false → s.pageAnswers (portPage n 0) = true → Completes (.vconnCfgWrite n v) s fun t =>
      t.get (F.CC_VCONN_CFG_ilim n) = bitsGet v 0 4 ∧ t.get (F.CC_VCONN_CFG_oc_100us n) = bitsGet v 8 8 ∧ OnlyRegs s t) ∧
  (∀ (s : State) (n : Port) (v : Word), s.flag (F.CC_STATUS_vconn_on n) = true → s.get (F.CC_VCONN_CFG_ilim n) < bitsGet v 0 4 →
    1200 < 25 * s.vconnSum n (bitsGet v 0 4) → s.pageAnswers (portPage n 0) = true → Completes (.vconnCfgWrite n v) s fun t =>
      t.flag (F.CC_EVENT_cfg_refused n) = true ∧ Keeps s t (F.CC_VCONN_CFG_ilim n) ∧ Keeps s t (F.CC_VCONN_CFG_oc_100us n))

/-- Isolation of a CC or SBU pin and its release (R108-R110). -/
def Obligations.CcOvervoltage : Prop :=
  (∀ (s : State) (n : Port) (cc2 : Bool) (mv : Nat), Completes (.ccOv n cc2 mv) s fun t =>
    t.pinIso n cc2 = true ∧ t.pinLvl n cc2 = 8 ∧ t.flag (F.CC_STATUS_cc_iso n) = true ∧ t.flag (F.CC_EVENT_cc_ov n) = true ∧
    t.pinIso n (!cc2) = s.pinIso n (!cc2) ∧ (s.isVconnPin n cc2 = true → t.flag (F.CC_STATUS_vconn_on n) = false)) ∧
  (∀ (s : State) (n : Port) (cc2 : Bool) (mv : Nat), s.pinIso n cc2 = true → s.flag (F.CC_CONTROL_cc_ov_auto n) = true → mv < 5500 →
    s.pinIso n (!cc2) = false → Completes (.ccOvAutoRelease n cc2 mv) s fun t =>
      t.pinIso n cc2 = false ∧ t.flag (F.CC_STATUS_cc_iso n) = false ∧ t.pol = s.pol ∧ t.inputs = s.inputs) ∧
  (∀ (s : State) (n : Port), s.pinIso n true = true → s.pinIso n false = false → (s.cc.get n).mv2 < 5500 →
    s.pageAnswers (portPage n 0) = true → Completes (.ovRelease n) s fun t => t.pinIso n true = false ∧ t.pinIso n false = false ∧ t.flag (F.CC_STATUS_cc_iso n) = false) ∧
  (∀ (s : State) (n : Port), s.pinIso n true = true → 5500 ≤ (s.cc.get n).mv2 → Completes (.ovRelease n) s fun t => t.pinIso n true = true) ∧
  (∀ (s : State) (n : Port), Completes (.sbuOv n true) s fun t => t.flag (F.CC_SBU_STATUS_sbu2_conn n) = false ∧
    t.flag (F.CC_SBU_STATUS_sbu2_ov n) = true ∧ t.flag (F.CC_EVENT_sbu_ov n) = true ∧ Keeps s t (F.CC_SBU_STATUS_sbu1_conn n)) ∧
  (∀ (s : State) (n : Port), Completes (.sbuOv n false) s fun t => t.flag (F.CC_SBU_STATUS_sbu1_conn n) = false ∧
    t.flag (F.CC_SBU_STATUS_sbu1_ov n) = true ∧ t.flag (F.CC_EVENT_sbu_ov n) = true ∧ Keeps s t (F.CC_SBU_STATUS_sbu2_conn n)) ∧
  (∀ (s : State) (n : Port), Completes (.sbuOvRelease n true) s fun t => t.flag (F.CC_SBU_STATUS_sbu2_ov n) = false ∧
    t.flag (F.CC_SBU_STATUS_sbu2_conn n) = s.bit F.THN_STATUS_entered n.val ∧ Keeps s t (F.CC_SBU_STATUS_sbu1_conn n) ∧ OnlyRegs s t)

/-! ### Chapter 6: the Message Layer -/

/-- Messages handed over, given a slot, sent in their turn, withdrawn or flushed (R119-R122, R126, R127, R132, R136); the first message of a swap opens
its window (R176). -/
def Obligations.MessageSending : Prop :=
  (∀ (s : State) (n : Port) (sop : Fin 3) (ty : BitVec 7) (data : List Byte), ty.toNat < 32 →
    Completes (.messageHandover n sop ty data) s fun t =>
      (t.msg.get n).queue = (s.msg.get n).queue ++
      [{ port := n, sop := sop.val, critical := isCritical ty.toNat,
         epoch := s.get (F.POL_SEQ_epoch n), retries := 0, tbase := s.tbase.toNat % 2 ^ 32, header := ty.toNat, data := data, chunk := 0,
         purpose := .plain, slot := .waiting, waited := false, granted := 0, rev := s.revOf n sop.val, heldNg := false, unacked := false }] ∧
      (∀ m : Port, m ≠ n → t.msg.get m = s.msg.get m) ∧ t = { s with msg := t.msg }) ∧
  (∀ (s : State) (n : Port) (m : Msg), (s.msg.get n).queue = [m] → m.slot = .waiting → s.sharedOk n = true →
    (∀ k : Port, k ≠ n → (s.msg.get k).queue = []) → Completes .poolSlotGrant s fun t =>
      (t.msg.get n).queue = [{ m with slot := .shared, granted := s.tbase.toNat }] ∧ t.inputs = s.inputs ∧ t.flue = s.flue) ∧
  (∀ (s : State) (n : Port) (m : Msg), (s.msg.get n).sigOn = false → (s.msg.get n).phase = .idle → (s.msg.get n).signal = .empty →
    (s.msg.get n).current = none → (s.msg.get n).queue = [m] → m.slot = .shared → s.sinkTxHeld n m = false →
    m.heldNg = false → (s.startsAms n m = false ∨ s.sinking n = false) → s.sopOpen n m.sop = true → m.extended = false →
    s.pinIso n (s.bmcPin n) = false → m.epoch = s.get (F.POL_SEQ_epoch n) → (s.msg.get n).aside = none → s.higherHeld n = false →
    Completes (.transmitTurn n .idle) s fun t =>
      (t.msg.get n).current = some { m with rev := s.revOf n m.sop } ∧ (t.msg.get n).queue = [] ∧ (t.msg.get n).phase = .frame ∧ (t.cc.get n).busy = true ∧
      t.flag (F.MSG_STATUS_tx_active n) = true) ∧
  (∀ (s : State) (n : Port) (m : Msg), (s.msg.get n).sigOn = false → (s.msg.get n).phase = .idle → (s.msg.get n).signal = .empty →
    (s.msg.get n).current = some m → m.purpose = .ask → m.sop = 0 → m.extended = false → m.epoch = s.get (F.POL_SEQ_epoch n) →
    s.seqOf n = .asked → (s.pol.get n).asking = pdPrSwap → s.pinIso n (s.bmcPin n) = false → s.higherHeld n = false →
    Completes (.transmitTurn n .idle) s fun t =>
      (t.msg.get n).phase = .frame ∧ t.get (F.POL_STATUS_pd n) = 5 ∧ (t.pol.get n).begun = true ∧ (t.cc.get n).busy = true) ∧
  (∀ (s : State) (n : Port) (m : Msg), (s.msg.get n).sigOn = false → (s.msg.get n).phase = .idle → (s.msg.get n).signal = .empty →
    (s.msg.get n).current = none → (s.msg.get n).queue = [m] → m.slot = .shared → m.purpose = .plain →
    m.initiates = false → m.heldNg = false → s.sopOpen n m.sop = true →
    m.epoch ≠ s.get (F.POL_SEQ_epoch n) → (s.msg.get n).aside = none → Completes (.transmitTurn n .idle) s fun t =>
      (t.msg.get n).current = none ∧ (t.msg.get n).queue = [] ∧ (t.msg.get n).phase = .idle ∧ t.flag (F.MSG_EVENT_stale_tx n) = true ∧
      t.cc = s.cc) ∧
  (∀ (s : State) (n : Port) (i : Nat) (m : Msg), (s.msg.get n).queue[i]? = some m → m.purpose = .plain → Completes (.messageWithdraw ⟨n, i⟩) s fun t =>
    (t.msg.get n).queue = (s.msg.get n).queue.eraseIdx i ∧ (∀ k : Port, k ≠ n → t.msg.get k = s.msg.get k) ∧ t = { s with msg := t.msg }) ∧
  (∀ (s : State) (n : Port) (epoch : BitVec 8), epoch.toNat = s.get (F.POL_SEQ_epoch n) → s.pageAnswers (portPage n 1) = true → Completes (.msgFlush n epoch) s fun t =>
    (t.msg.get n).queue = [] ∧ (t.msg.get n).current = (s.msg.get n).current ∧ (∀ k : Port, k ≠ n → t.msg.get k = s.msg.get k) ∧
    ((s.msg.get n).queue ≠ [] → t.flag (F.MSG_EVENT_stale_tx n) = true)) ∧
  (∀ (s : State) (n : Port) (epoch : BitVec 8), epoch.toNat ≠ s.get (F.POL_SEQ_epoch n) → s.pageAnswers (portPage n 1) = true → Completes (.msgFlush n epoch) s fun t =>
    t.flag (F.POL_EVENT_stale_cmd n) = true ∧ t.msg = s.msg) ∧
  (∀ (s : State) (n : Port) (sop id : Nat), (s.msg.get n).signal = .goodcrc sop id → (s.msg.get n).sigOn = false →
    s.pinIso n (s.bmcPin n) = false → s.higherHeld n = false → Completes (.goodcrcTransmit n) s fun t => (t.msg.get n).sigOn = true ∧ (t.cc.get n).busy = true ∧
      t.flag (F.MSG_STATUS_tx_active n) = true ∧ t.running .signal n.val = false ∧ (t.msg.get n).queue = (s.msg.get n).queue) ∧
  (∀ (s : State) (n : Port) (m : Msg), (s.msg.get n).sigOn = false → (s.msg.get n).phase = .frame → (s.msg.get n).current = some m →
    Completes (.eopSent n) s fun t => (t.msg.get n).phase = .awaiting ∧ (t.msg.get n).current = some m ∧ (t.cc.get n).busy = false ∧
      t.flag (F.MSG_STATUS_awaiting_goodcrc n) = true ∧ t.flag (F.MSG_STATUS_tx_active n) = false ∧
      t.left .tReceive n.val = s.tickKhz) ∧
  (∀ (s : State) (n : Port), Completes (.sinktxWaitExpiry n) s fun t =>
    t.running .sinkTx n.val = false ∧ t = { s with timers := t.timers }) ∧
  (∀ (s : State) (n : Port) (v : Word), 25 ≤ bitsGet v 8 8 → bitsGet v 8 8 ≤ 40 → bitsGet v 2 2 = 2 →
    s.pageAnswers (portPage n 1) = true → Completes (.msgConfigWrite n false v) s fun t => t.get (F.MSG_CONFIG_ifg_us n) = bitsGet v 8 8 ∧ t.get (F.MSG_CONFIG_rev_max n) = 2 ∧
      t.get (F.MSG_CONFIG_sop1_en n) = bitsGet v 0 1 ∧ t.get (F.MSG_CONFIG_sop2_en n) = bitsGet v 1 1 ∧ OnlyRegs s t) ∧
  (∀ (s : State) (n : Port) (v : Word), bitsGet v 0 5 ≠ 0 → 16 < bitsGet v 0 5 → s.pageAnswers (portPage n 1) = true → Completes (.msgConfigWrite n true v) s fun t =>
    t.flag (F.MSG_EVENT_cfg_refused n) = true ∧ Keeps s t (F.MSG_POOL_CFG_max_shared n) ∧ t.msg = s.msg)

/-- Waits that end, messages abandoned, and the resets (R117, R123-R125, R128, R129, R188). -/
def Obligations.MessageLosses : Prop :=
  (∀ (s : State) (n : Port) (m : Msg), (s.msg.get n).phase = .awaiting → (s.msg.get n).current = some m → m.retries < m.retryCount →
    Completes (.treceiveExpiry n) s fun t => (t.msg.get n).current = some { m with retries := m.retries + 1 } ∧
      (t.msg.get n).phase = .idle ∧ t.flag (F.MSG_STATUS_awaiting_goodcrc n) = false ∧ t.running .tReceive n.val = false) ∧
  (∀ (s : State) (n : Port) (m : Msg), (s.msg.get n).phase = .awaiting → (s.msg.get n).current = some m → m.retries = m.retryCount →
    m.purpose = .chunkRequest → m.sop = 0 → Completes (.treceiveExpiry n) s fun t => (t.msg.get n).current = none ∧
      (t.msg.get n).phase = .idle ∧ t.flag (F.MSG_EVENT_retry_exhausted n) = true ∧ t.running .tReceive n.val = false) ∧
  (∀ (s : State) (n : Port) (m : Msg), (s.msg.get n).phase = .awaiting → (s.msg.get n).current = some m → m.purpose = .plain →
    m.epoch ≠ s.get (F.POL_SEQ_epoch n) → Completes (.epochChangeAbandon n) s fun t => (t.msg.get n).current = none ∧
      (t.msg.get n).phase = .idle ∧ t.flag (F.MSG_EVENT_stale_tx n) = true ∧ t.running .tReceive n.val = false) ∧
  (∀ (s : State) (n : Port), Completes (.hardResetRequest n) s fun t => (t.msg.get n).signal = .hardReset ∧ (t.msg.get n).phase = .idle ∧
    ((s.msg.get n).phase = .frame → (t.msg.get n).current = none) ∧ (t.msg.get n).assembly = none ∧ t.seqOf n = .hrSend ∧ t.flag (F.MSG_STATUS_tx_active n) = false ∧
    t.left .signal n.val = s.us (s.get (F.MSG_CONFIG_ifg_us n)) ∧ (t.cc.get n).busy = false) ∧
  (∀ (s : State) (n : Port), 2 ≤ (s.pol.get n).cableFails → (s.pol.get n).cableSeen = true → s.flag (F.POL_STATUS_vconn_src n) = true →
    (s.msg.get n).signal ≠ .hardReset → (s.msg.get n).phase ≠ .frame → Completes (.cableResetRequest n) s fun t =>
      (t.msg.get n).signal = .cableReset ∧ (t.msg.get n).current = (s.msg.get n).current ∧ (t.msg.get n).phase = (s.msg.get n).phase ∧
      (t.pol.get n).cableFails = 0 ∧ t.left .signal n.val = s.us (s.get (F.MSG_CONFIG_ifg_us n))) ∧
  (∀ (s : State) (n : Port) (m : Msg), 2 ≤ (s.pol.get n).cableFails → (s.pol.get n).cableSeen = true → s.flag (F.POL_STATUS_vconn_src n) = true →
    (s.msg.get n).signal ≠ .hardReset → (s.msg.get n).phase = .frame → (s.msg.get n).current = some m → m.purpose = .chunkRequest →
    Completes (.cableResetRequest n) s fun t => (t.msg.get n).signal = .cableReset ∧ (t.msg.get n).current = none ∧
      (t.msg.get n).phase = .idle ∧ (t.pol.get n).cableFails = 0 ∧ t.flag (F.MSG_STATUS_tx_active n) = false ∧ t.running .signal n.val = true) ∧
  (∀ (s : State) (n : Port), s.running .cableReset n.val = true → s.flag (F.CC_STATUS_vconn_on n) = false → s.vconnAllowed n = true →
    s.higherHeld n = false → (s.cc.get n).detachTick ≠ some s.tbase.toNat → s.pinIso n (!s.bmcPin n) = false → s.inputFirst n 2 →
    Completes (.vconnRestoreAfterCableReset n) s fun t => t.flag (F.CC_STATUS_vconn_on n) = true ∧ t.running .cableReset n.val = false) ∧
  (∀ (s : State) (n : Port), (s.cc.get n).attached = true → s.inputFirst n 1 → s.running .noResponse n.val = false →
    Completes (.hardResetReceived n) s fun t =>
    (t.msg.get n).queue = [] ∧ (t.msg.get n).current = none ∧ (t.msg.get n).signal = .empty ∧ t.get (F.POL_STATUS_pd n) = 6 ∧
    t.flag (F.POL_EVENT_hard_reset n) = true ∧ (t.seqOf n = .hrHold ∨ t.seqOf n = .hrSink) ∧
    t.flag (F.CC_STATUS_vconn_on n) = false ∧ t.running .noResponse n.val = true) ∧
  (∀ (s : State) (n : Port), (s.cc.get n).attached = true → s.inputFirst n 1 → s.running .noResponse n.val = true →
    s.seqOf n = .hrSink → (s.pol.get n).hrKind = 1 → Completes (.hardResetReceived n) s fun t =>
    t.seqOf n = .hrSink ∧ (t.pol.get n).hrKind = 3 ∧ t.regs = s.regs ∧ t.timers = s.timers) ∧
  (∀ (s : State) (n : Port) (m : Msg), (s.msg.get n).phase = .chunkWait → (s.msg.get n).current = some m → m.purpose = .chunkRequest → m.sop = 0 →
    Completes (.chunkSenderTimeout n) s fun t => (t.msg.get n).current = none ∧ (t.msg.get n).phase = .idle ∧
      t.flag (F.MSG_EVENT_chunk_timeout n) = true ∧ t.running .chunkSend n.val = false) ∧
  (∀ (s : State) (n : Port), (s.msg.get n).assembly ≠ none → Completes (.chunkReceiverTimeout n) s fun t =>
    (t.msg.get n).assembly = none ∧ t.flag (F.MSG_EVENT_chunk_timeout n) = true ∧ t.flag (F.MSG_STATUS_rx_active n) = false ∧
    t.running .chunkRecv n.val = false ∧ (t.msg.get n).current = (if (s.msg.get n).phase = .idle then
      (s.msg.get n).current.filter fun m => decide (m.purpose ≠ .chunkRequest) else (s.msg.get n).current))

/-- A received frame is measured, checked, acknowledged, and stored or discarded (R105, R115-R118, R123, R127, R134). -/
def Obligations.FrameReception : Prop :=
  (∀ (s : State) (n : Port) (f : Frame), (s.cc.get n).attached = true → s.pinIso n (s.bmcPin n) = false → f.ticks * 2 * 300 = 126 * s.tickKhz → f.good = false → 0 < f.ticks →
    (s.msg.get n).signal = .empty → Completes (.frameReceived n f) s fun t =>
      t.flag (F.MSG_EVENT_crc_fail n) = true ∧ t.msg = s.msg ∧ t.inputs = s.inputs ∧ t.get (F.CC_BMC_STATUS_rx_kbps n) = 300) ∧
  (∀ (s : State) (n : Port) (f : Frame), (s.cc.get n).attached = true → s.pinIso n (s.bmcPin n) = false → f.ticks * 2 * 300 = 126 * s.tickKhz → f.good = true → 0 < f.ticks →
    3 ≤ f.sop.val → (s.msg.get n).signal = .empty → Completes (.frameReceived n f) s fun t =>
      t.flag (F.MSG_EVENT_debug_sop_ignored n) = true ∧ t.msg = s.msg ∧ t.inputs = s.inputs) ∧
  (∀ (s : State) (n : Port) (f : Frame), (s.cc.get n).attached = true → s.pinIso n (s.bmcPin n) = false → f.ticks * 2 * 300 = 126 * s.tickKhz → f.good = true → 0 < f.ticks →
    f.sop = 0 → f.header = 0x0183#16 → (s.msg.get n).signal = .empty → (s.msg.get n).phase = .idle → (s.msg.get n).rxId.get 0 ≠ 0 →
    s.sharedOk n = true → Completes (.frameReceived n f) s fun t =>
      t.inputs = s.inputs ++
      [{ tick := s.tbase.toNat, port := n,
         kind := .message
           { port := n, sop := 0, critical := true,
             epoch := s.get (F.POL_SEQ_epoch n), retries := 0, tbase := s.tbase.toNat % 2 ^ 32, header := f.header.toNat, data := f.data,
             chunk := 0, purpose := .plain, slot := .shared, waited := false, granted := s.tbase.toNat, rev := 2, heldNg := false,
             unacked := true } }] ∧
      (t.msg.get n).signal = .goodcrc 0 0 ∧ (t.msg.get n).rxId.get 0 = 0 ∧ t.get (F.MSG_LAST_RX_HDR_header n) = 0x0183 ∧
      t.left .signal n.val = s.us (s.get (F.MSG_CONFIG_ifg_us n))) ∧
  (∀ (s : State) (n : Port) (f : Frame), (s.cc.get n).attached = true → s.pinIso n (s.bmcPin n) = false → f.ticks * 2 * 300 = 126 * s.tickKhz → f.good = true → 0 < f.ticks →
    f.sop = 0 → f.header = 0x0183#16 → (s.msg.get n).signal = .empty → (s.msg.get n).rxId.get 0 = 0 →
    Completes (.frameReceived n f) s fun t => t.inputs = s.inputs ∧ (t.msg.get n).signal = .goodcrc 0 0 ∧
      (t.msg.get n).queue = (s.msg.get n).queue ∧ t.running .signal n.val = true) ∧
  (∀ (s : State) (n : Port) (f : Frame) (m : Msg), (s.cc.get n).attached = true → s.pinIso n (s.bmcPin n) = false → f.ticks * 2 * 300 = 126 * s.tickKhz → f.good = true →
    0 < f.ticks → f.sop = 0 → f.header = 0x0181#16 → (s.msg.get n).signal = .empty → (s.msg.get n).phase = .awaiting →
    (s.msg.get n).current = some m → m.sop = 0 → m.purpose = .plain → m.header < 32768 → (s.msg.get n).txId.get 0 = 0 →
    Completes (.frameReceived n f) s fun t => (t.msg.get n).current = none ∧ (t.msg.get n).phase = .idle ∧
      (t.msg.get n).txId.get 0 = 1 ∧ t.get (F.MSG_LAST_TX_HDR_sop n) = 0 ∧ t.get (F.MSG_LAST_TX_HDR_epoch n) = m.epoch % 256 ∧
      t.running .tReceive n.val = false)

/-! ### Chapter 7: the Policy Sequencer -/

/-- Inputs and messages that the Policy Sequencer takes (R139, R144, R160, R161, R176, R177); layouts of messages are the model's (PRESUMED). -/
def Obligations.PolicyInputs : Prop :=
  (∀ (s : State) (h : Hth) (n : Port), s.inputs = [{ tick := s.tbase.toNat, port := n, kind := .detach }] → s.driver n = h →
    s.get (F.POL_STATUS_typec n) ≠ 0 → s.flag (F.FND_STATUS_dschg n) = false → Completes (.policyInputTaken h) s fun t =>
      t.inputs = [] ∧ t.seqOf n = .idle ∧ (t.get (F.POL_STATUS_typec n) = 1 ∨ t.get (F.POL_STATUS_typec n) = 2 ∨
        t.get (F.POL_STATUS_typec n) = 13) ∧ t.flag (F.POL_STATUS_pd_partner n) = false ∧ (t.fnd.get n).detaching = false) ∧
  (∀ (s : State) (n : Port) (m : Msg) (c : Contract), s.onlyMsg n m → m.header = 0x1082 → (s.pol.get n).offered = true →
    checkRequest (s.offerRegs n) (m.words.head?.getD 0) = some c → c.mw ≤ s.get (F.POL_BUDGET_pc n) * 100 → s.tracking n = false →
    s.inSwap n = false → s.noClause n 5 → Completes (.requestReceived n) s fun t =>
      t.inputs = [] ∧ t.seqOf n = .accepting ∧ (t.pol.get n).new = some c ∧ (t.pol.get n).cur = (s.pol.get n).cur ∧
      t.get (F.POL_LAST_RDO_rdo n) = (m.words.head?.getD 0).toNat ∧ t.flag (F.POL_STATUS_ams n) = true ∧
      t.lastSent n = some (pdAccept, .acceptRequest)) ∧
  (∀ (s : State) (n : Port) (m : Msg), s.onlyMsg n m → m.header = 0x1082 → (s.pol.get n).offered = true →
    checkRequest (s.offerRegs n) (m.words.head?.getD 0) = none → s.loadPolicy n = false → s.inSwap n = false → Completes (.requestReceived n) s fun t =>
      t.inputs = [] ∧ t.flag (F.POL_EVENT_request_rejected n) = true ∧ t.lastSent n = some (pdReject, .plain) ∧
      (t.pol.get n).cur = (s.pol.get n).cur) ∧
  (∀ (s : State) (n : Port) (m : Msg) (w : Word), s.onlyMsg n m → m.header = 0x1081 → m.words = [w] → s.sourcing n = false →
    s.inEpr n = false → Completes (.sourceCapsReceived n) s fun t =>
      t.inputs = [] ∧ t.get (F.POL_PARTNER_pdo n 0) = w.toNat ∧ t.get (F.POL_PARTNER_pdo n 1) = 0 ∧ (t.pol.get n).partnerCaps = true ∧
      (t.pol.get n).new ≠ none ∧ (t.pol.get n).asking = pdRequest ∧ t.seqOf n = .asked ∧
      t.lastSent n = some (0x1002, .request) ∧ t.running .sinkWaitCap n.val = false) ∧
  (∀ (s : State) (n : Port) (m : Msg), s.onlyMsg n m → m.header = 0x108A → m.words = [0x01000000] → s.sourcing n = true →
    (s.pol.get n).cableEpr = true → (s.pol.get n).partnerEpr = true → s.flag (F.POL_STATUS_vconn_src n) = true →
    s.soleClause n 4 0x10 → ((s.clausesAt n 4).all fun c => (templateOf (clauseOperand c)).kind = 1) = true → s.soleClause n 11 0x18 →
    Completes (.eprEnterReceived n) s fun t =>
      t.inputs = [] ∧ t.seqOf n = .eprSource ∧ t.get (F.POL_STATUS_pd n) = 7 ∧ t.lastSent n = some (0x100A, .eprAck) ∧
      t.flag (F.POL_STATUS_ams n) = true) ∧
  (∀ (s : State) (n : Port) (m : Msg), s.onlyMsg n m → m.header = 0x0082 + 8 → s.inEpr n = false → s.sourcing n = true →
    s.flag (F.CC_CONFIG_src_only n) = false → s.soleClause n 8 0x18 → Completes (.prSwapReceived n) s fun t =>
      t.inputs = [] ∧ t.seqOf n = .accepting ∧ (t.pol.get n).asking = pdPrSwap ∧ t.get (F.POL_STATUS_pd n) = 5 ∧
      t.lastSent n = some (pdAccept, .acceptSwap) ∧ Keeps s t (F.POL_STATUS_power_role n)) ∧
  (∀ (s : State) (n : Port) (m : Msg), s.onlyMsg n m → m.header = 0x008A → s.inEpr n = false → s.sourcing n = true →
    s.flag (F.CC_CONFIG_src_only n) = false → s.noClause n 8 → Completes (.prSwapReceived n) s fun t =>
      t.inputs = [] ∧ t.seqOf n = s.seqOf n ∧ t.lastSent n = some (pdReject, .plain)) ∧
  (∀ (s : State) (n : Port) (m : Msg), s.onlyMsg n m → m.header = 0x0089 → s.modeEntered n = false → s.soleClause n 9 0x18 →
    Completes (.drSwapReceived n) s fun t =>
      t.inputs = [] ∧ t.seqOf n = .accepting ∧ (t.pol.get n).asking = pdDrSwap ∧ t.get (F.POL_STATUS_pd n) = 5 ∧
      t.lastSent n = some (pdAccept, .acceptSwap) ∧ Keeps s t (F.POL_STATUS_data_role n)) ∧
  (∀ (s : State) (n : Port) (m : Msg), s.onlyMsg n m → m.header = 0x0089 → s.modeEntered n = true →
    Completes (.drSwapReceived n) s fun t => t.inputs = [] ∧ (t.msg.get n).signal = .hardReset ∧ t.seqOf n = .hrSend) ∧
  (∀ (s : State) (n : Port) (m : Msg), s.onlyMsg n m → m.header = 0x008B → s.flag (F.POL_STATUS_vconn_src n) = true → s.soleClause n 10 0x18 →
    Completes (.vconnSwapReceived n) s fun t =>
      t.inputs = [] ∧ t.seqOf n = .accepting ∧ (t.pol.get n).asking = pdVconnSwap ∧ t.get (F.POL_STATUS_pd n) = 5 ∧
      t.lastSent n = some (pdAccept, .acceptSwap) ∧ Keeps s t (F.POL_STATUS_vconn_src n)) ∧
  (∀ (s : State) (n : Port) (m : Msg), s.onlyMsg n m → m.header = 0x009F → s.pd2 n = false → s.noClause n 15 →
    Completes (.unsupportedReceived n) s fun t => t.inputs = [] ∧ t.lastSent n = some (pdNotSupported, .plain) ∧ t.pol = s.pol)

/-- Timers of the Policy Sequencer and the drafts that a published budget brings about (R138, R144, R159, R165, R186, R213). -/
def Obligations.PolicyTimers : Prop :=
  (∀ (s : State) (n : Port), s.running .sourceCap n.val = true → s.sourcing n = true → s.inputFirst n 2 → Completes (.sourceCapTimer n) s fun t =>
    t.get (F.POL_STATUS_pd n) = 2 ∧ t.flag (F.POL_STATUS_ams n) = true ∧ t.lastSent n = some (33 % 32 + 4096 * (s.buildDraft n).1.length, .caps) ∧
    t.running .sourceCap n.val = false) ∧
  (∀ (s : State) (n : Port), s.running .senderResponse n.val = true → s.seqOf n = .asked → s.noClause n 13 → (s.pol.get n).hardResets < 2 →
    s.inputFirst n 2 → Completes (.senderResponseTimeout n) s fun t => t.flag (F.POL_EVENT_no_response n) = true ∧ (t.msg.get n).signal = .hardReset ∧
      t.seqOf n = .hrSend ∧ t.running .senderResponse n.val = false) ∧
  (∀ (s : State) (n : Port), s.running .noResponse n.val = true → s.soleClause n 13 0x2A →
    s.inputFirst n 2 → Completes (.noResponseTimeout n) s fun t => t.flag (F.POL_EVENT_no_response n) = true ∧ t.flag (F.POL_EVENT_error_recovery n) = true ∧
      t.seqOf n = .recovery ∧ t.left .errorRecovery n.val = 30 * s.tickKhz) ∧
  (∀ (s : State) (n : Port), s.running .sinkWaitCap n.val = true → s.noClause n 13 → (s.pol.get n).hardResets < 2 →
    s.inputFirst n 2 → Completes (.sinkWaitCapTimeout n) s fun t => t.flag (F.POL_EVENT_no_response n) = true ∧ (t.msg.get n).signal = .hardReset ∧
      t.seqOf n = .hrSend ∧ t.running .sinkWaitCap n.val = false) ∧
  (∀ (s : State) (n : Port), s.running .keepAlive n.val = true → s.sourcing n = false → s.inEpr n = true →
    s.flag (F.POL_STATUS_ams n) = false → s.inputFirst n 2 → Completes (.eprKeepaliveTimer n) s fun t =>
      t.lastSent n = some (32768 + 16, .keepAlive) ∧ t.flag (F.POL_STATUS_ams n) = true ∧ t.left .keepAlive n.val = 375 * s.tickKhz ∧ t.pol = s.pol) ∧
  (∀ (s : State) (n : Port) (c : Contract), s.running .reRequest n.val = true → s.flag (F.POL_STATUS_ams n) = false → s.sourcing n = false →
    s.inEpr n = false → (s.pol.get n).cur = some c → s.inputFirst n 2 → Completes (.sinkRerequestTimer n) s fun t =>
      t.lastSent n = some (0x1002, .ask) ∧ (t.pol.get n).new = some c ∧ t.seqOf n = .asked ∧ t.left .reRequest n.val = 8000 * s.tickKhz) ∧
  (∀ (s : State) (n : Port), s.running .pps n.val = true → s.inputFirst n 2 → Completes (.ppsTimeout n) s fun t =>
    (t.msg.get n).signal = .hardReset ∧ t.seqOf n = .hrSend ∧ t.running .pps n.val = false) ∧
  (∀ (s : State) (n : Port), s.sourcing n = true → (s.pol.get n).offered = true → s.loadPolicy n = false → (s.pol.get n).draft = none →
    (s.pol.get n).cur = none → s.sameOffer n (s.buildDraft n).1 = false → (s.thn.get n).terms = none →
    s.running .draftGap n.val = true → s.inputFirst n 3 → Completes (.budgetChange n) s fun t =>
      (t.pol.get n).draft = some { objs := (s.buildDraft n).1, epoch := s.get (F.POL_SEQ_epoch n), epr := s.inEpr n, urgent := false, handed := false } ∧ t.msg = s.msg) ∧
  (∀ (s : State) (n : Port) (d : Draft), (s.pol.get n).draft = some d → d.handed = false → s.flag (F.POL_STATUS_ams n) = false → d.epr = false →
    (d.urgent = true ∨ (s.pol.get n).offered = true) → s.seqOf n = .idle →
    s.inputFirst n 2 → Completes (.draftGapExpiry n) s fun t => (t.pol.get n).draft = some { d with handed := true } ∧ t.flag (F.POL_STATUS_ams n) = true ∧
      (t.lastSent n).map (·.2) = some .caps ∧ t.running .draftGap n.val = false) ∧
  (∀ (s : State) (n : Port) (v : Word), 50 ≤ bitsGet v 0 16 → bitsGet v 0 16 ≤ 10000 → s.pageAnswers (portPage n 2) = true → Completes (.capsCfgWrite n v) s fun t =>
    t.get (F.POL_CAPS_CFG_min_gap_ms n) = bitsGet v 0 16 ∧ OnlyRegs s t) ∧
  (∀ (s : State) (n : Port) (v : Word), (bitsGet v 0 16 < 50 ∧ bitsGet v 0 16 ≠ 0) ∨ 10000 < bitsGet v 0 16 →
    s.pageAnswers (portPage n 2) = true → Completes (.capsCfgWrite n v) s fun t => t.flag (F.POL_EVENT_cfg_refused n) = true ∧ Keeps s t (F.POL_CAPS_CFG_min_gap_ms n))

/-- The host commands of page POL (R164, Table 7.12): what each starts when it is current, allowed and not held back; a stale one is discarded. -/
def Obligations.PolicyCommands : Prop :=
  (∀ (s : State) (n : Port) (e : BitVec 8), s.cmdFree n e → s.sourcing n = true → s.seqOf n = .idle → (s.pol.get n).draft = none →
    s.sameOffer n (s.buildDraft n).1 = false → Completes (.cmdSendCaps n e) s fun t =>
      (t.pol.get n).draft = some { objs := (s.buildDraft n).1, epoch := s.get (F.POL_SEQ_epoch n), epr := s.inEpr n, urgent := true, handed := true } ∧
      t.flag (F.POL_STATUS_ams n) = true ∧ (t.lastSent n).map (·.2) = some .caps) ∧
  (∀ (s : State) (n : Port) (e : BitVec 8), s.cmdFree n e → s.flag (F.POL_STATUS_explicit n) = true → s.inEpr n = false →
    s.flag (F.CC_CONFIG_src_only n) = false → Completes (.cmdPrSwap n e) s fun t => t.lastSent n = some (pdPrSwap, .ask) ∧
      (t.pol.get n).asking = pdPrSwap ∧ t.seqOf n = .asked ∧ Keeps s t (F.POL_STATUS_pd n) ∧ t.flag (F.POL_STATUS_ams n) = true) ∧
  (∀ (s : State) (n : Port) (e : BitVec 8), s.cmdFree n e → s.flag (F.POL_STATUS_explicit n) = true →
    Completes (.cmdDrSwap n e) s fun t => t.lastSent n = some (pdDrSwap, .ask) ∧
      (t.pol.get n).asking = pdDrSwap ∧ t.seqOf n = .asked ∧ Keeps s t (F.POL_STATUS_pd n) ∧ t.flag (F.POL_STATUS_ams n) = true) ∧
  (∀ (s : State) (n : Port) (e : BitVec 8), s.cmdFree n e → s.flag (F.POL_STATUS_explicit n) = true →
    Completes (.cmdVconnSwap n e) s fun t => t.lastSent n = some (pdVconnSwap, .ask) ∧
      (t.pol.get n).asking = pdVconnSwap ∧ t.seqOf n = .asked ∧ Keeps s t (F.POL_STATUS_pd n) ∧ t.flag (F.POL_STATUS_ams n) = true) ∧
  (∀ (s : State) (n : Port) (e : BitVec 8), s.cmdFree n e → (s.cc.get n).attached = true → (s.pol.get n).safeHeld = false →
    s.flag (F.POL_STATUS_pd_partner n) = true → Completes (.cmdGetSinkCap n e) s fun t => t.lastSent n = some (pdGetSinkCap, .ask) ∧
      (t.pol.get n).asking = pdGetSinkCap ∧ t.seqOf n = .asked ∧ t.flag (F.POL_STATUS_ams n) = true) ∧
  (∀ (s : State) (n : Port) (e : BitVec 8), s.cmdFree n e → (s.cc.get n).attached = true → (s.pol.get n).safeHeld = false →
    s.flag (F.POL_STATUS_pd_partner n) = true → Completes (.cmdGetSourceCap n e) s fun t => t.lastSent n = some (pdGetSourceCap, .ask) ∧
      (t.pol.get n).asking = pdGetSourceCap ∧ t.seqOf n = .asked ∧ t.flag (F.POL_STATUS_ams n) = true) ∧
  (∀ (s : State) (n : Port) (e : BitVec 8), s.cmdFree n e → s.flag (F.POL_STATUS_explicit n) = true → s.sourcing n = false → s.inEpr n = false →
    Completes (.cmdEprEntry n e) s fun t => t.lastSent n = some (0x100A, .eprEnter) ∧ t.seqOf n = .eprAsked ∧ t.get (F.POL_STATUS_pd n) = 7 ∧
      t.left .enterEpr n.val = 500 * s.tickKhz) ∧
  (∀ (s : State) (n : Port) (e : BitVec 8), s.cmdFree n e → s.inEpr n = true → Completes (.cmdEprExit n e) s fun t =>
    t.lastSent n = some (0x100A, .eprExit) ∧ t.seqOf n = .asked ∧ t.flag (F.POL_STATUS_ams n) = true) ∧
  (∀ (s : State) (n : Port) (e : BitVec 8), s.cmdFree n e → (s.cc.get n).attached = true → (s.pol.get n).safeHeld = false →
    s.flag (F.POL_STATUS_pd_partner n) = true → s.inTransition n = false → Completes (.cmdSoftReset n e) s fun t =>
      t.lastSent n = some (pdSoftReset, .softReset) ∧ t.seqOf n = .softReset ∧ t.flag (F.POL_STATUS_ams n) = true) ∧
  (∀ (s : State) (n : Port) (e : BitVec 8), s.cmdFree n e → (s.cc.get n).attached = true → (s.pol.get n).safeHeld = false →
    Completes (.cmdHardReset n e) s fun t => (t.msg.get n).signal = .hardReset ∧ t.seqOf n = .hrSend) ∧
  (∀ (s : State) (n : Port) (e : BitVec 8), s.cmdFree n e → (s.cc.get n).attached = true → (s.pol.get n).safeHeld = false →
    Completes (.cmdErrorRecovery n e) s fun t => t.seqOf n = .recovery ∧ t.get (F.POL_STATUS_typec n) = 13 ∧
      t.flag (F.POL_EVENT_error_recovery n) = true ∧ (t.cc.get n).attached = false ∧ t.left .errorRecovery n.val = 30 * s.tickKhz) ∧
  (∀ (s : State) (n : Port) (e : BitVec 8), s.pageAnswers (portPage n 2) = true → s.inputFirst n 4 → e.toNat = s.get (F.POL_SEQ_epoch n) →
    s.flag (F.POL_STATUS_cmd_held n) = false → Completes (.cmdDisablePort n e) s fun t => t.get (F.POL_STATUS_typec n) = 0 ∧ t.get (F.CC_STATUS_attach n) = 0 ∧
      (t.cc.get n).attached = false ∧ (s.higherHeld n = false → (t.cc.get n).cmd = .opened) ∧ t.flag (F.CC_STATUS_vconn_on n) = false ∧ (t.msg.get n).queue = []) ∧
  (∀ (s : State) (n : Port) (e : BitVec 8), s.cmdFree n e → s.get (F.POL_STATUS_typec n) = 0 → s.portFenced n = false →
    (s.pol.get n).safeHeld = false → Completes (.cmdEnablePort n e) s fun t =>
      (t.get (F.POL_STATUS_typec n) = 1 ∨ t.get (F.POL_STATUS_typec n) = 2) ∧ t.seqOf n = .idle) ∧
  (∀ (s : State) (n : Port) (e : BitVec 8) (arg : BitVec 16), s.cmdFree n e → s.get (F.POL_STATUS_typec n) = 0 → s.portFenced n = false →
    s.higherHeld n = false → Completes (.cmdProductionTest n e arg) s fun t => (t.cc.get n).cmd = .ra (bitOf arg.toNat 0) ∧ Keeps s t (F.POL_STATUS_typec n)) ∧
  (∀ (s : State) (n : Port), s.flag (F.POL_STATUS_cmd_held n) = true → s.flag (F.POL_STATUS_ams n) = false → s.get (F.POL_CMD_STATUS_cmd n) = 10 →
    s.get (F.POL_CMD_STATUS_epoch n) = s.get (F.POL_SEQ_epoch n) → (s.cc.get n).attached = true → (s.pol.get n).safeHeld = false →
    s.resetting n = false → s.inputFirst n 4 → Completes (.heldCommandTaken n) s fun t => t.flag (F.POL_STATUS_cmd_held n) = false ∧ t.get (F.POL_CMD_STATUS_cmd n) = 0 ∧
      (t.msg.get n).signal = .hardReset ∧ t.seqOf n = .hrSend) ∧
  (∀ (s : State) (n : Port) (e : BitVec 8) (c : Instr), e.toNat ≠ s.get (F.POL_SEQ_epoch n) → c ∈ [Instr.cmdSendCaps n e, .cmdPrSwap n e,
      .cmdDrSwap n e, .cmdVconnSwap n e, .cmdGetSinkCap n e, .cmdGetSourceCap n e, .cmdEprEntry n e, .cmdEprExit n e, .cmdSoftReset n e,
      .cmdHardReset n e, .cmdErrorRecovery n e, .cmdDisablePort n e, .cmdEnablePort n e, .cmdProductionTest n e 0] →
    s.pageAnswers (portPage n 2) = true → s.inputFirst n 4 → Completes c s fun t =>
    t.flag (F.POL_EVENT_stale_cmd n) = true ∧ t.pol = s.pol ∧ t.msg = s.msg ∧ t.cc = s.cc ∧ t.timers = s.timers)

/-! ### Tables: the Lexicon and the Phrasebook (chapters 7 and 9) -/

/-- Loading the Lexicon through its window, the check, and the return to the seed (R151-R155). -/
def Obligations.LexiconLoads : Prop :=
  (∀ s : State, s.get F.LEX_KEY_key = 0x4C → s.get F.LEX_STATUS_state = 0 → s.pageAnswers 0x10 = true → Completes .lexLoadBegin s fun t =>
    t.get F.LEX_STATUS_state = 1 ∧ t.get F.LEX_KEY_key = 0 ∧ t.get F.LEX_STATUS_fail_reason = 0 ∧ t.get F.LEX_STATUS_fail_index = 0 ∧ t.hA = s.hA ∧ t.hB = s.hB) ∧
  (∀ s : State, s.get F.LEX_KEY_key ≠ 0x4C → s.pageAnswers 0x10 = true → Completes .lexLoadBegin s fun t =>
    t.flag F.LEX_EVENT_window_refused = true ∧ t.get F.LEX_KEY_key = 0 ∧ Keeps s t F.LEX_STATUS_state ∧ t.hA = s.hA ∧ t.hB = s.hB) ∧
  (∀ (s : State) (e : Entry64), s.get F.LEX_STATUS_state = 1 → s.pageAnswers 0x10 = true → Completes (.lexWindowWrite e) s fun t =>
    sparseRead (fun _ => 0) (t.hearthOf t.devHearth).lex (s.get F.LEX_WIN_ADDR_index) = e ∧
    t.get F.LEX_WIN_ADDR_index = (s.get F.LEX_WIN_ADDR_index + 1) % 2 ^ F.LEX_WIN_ADDR_index.width ∧ Keeps s t F.LEX_STATUS_state ∧ t.flue = s.flue) ∧
  (∀ (s : State) (e : Entry64), s.get F.LEX_STATUS_state ≠ 1 → s.pageAnswers 0x10 = true → Completes (.lexWindowWrite e) s fun t =>
    t.flag F.LEX_EVENT_window_refused = true ∧ t.hA = s.hA ∧ t.hB = s.hB ∧ Keeps s t F.LEX_WIN_ADDR_index) ∧
  (∀ s : State, s.pageAnswers 0x10 = true → Completes .lexWindowRead s fun t =>
    t.pins.out = entryBytes [sparseRead (fun _ => 0) (s.hearthOf s.devHearth).lex (s.get F.LEX_WIN_ADDR_index)] ∧
    t.get F.LEX_WIN_ADDR_index = (s.get F.LEX_WIN_ADDR_index + 1) % 2 ^ F.LEX_WIN_ADDR_index.width ∧ t.hA = s.hA ∧ t.hB = s.hB) ∧
  (∀ s : State, s.get F.LEX_STATUS_state = 1 → s.pageAnswers 0x10 = true → Completes .lexCommit s fun t =>
    t.get F.LEX_STATUS_state = 2 ∧ t.get F.LEX_KEY_key = 0 ∧ OnlyRegs s t) ∧
  (∀ s : State, s.get F.LEX_STATUS_state = 2 →
    imageCheck false (s.get F.THN_SVID_svid) (s.tabHeader false) (sparseRead (fun _ => 0) (s.hearthOf s.devHearth).lex) = .passed →
    Completes .lexCheckComplete s fun t => t.get F.LEX_STATUS_state = 0 ∧ t.get F.LEX_STATUS_src = 2 ∧
      t.get F.LEX_STATUS_active_count = headerCount false (s.tabHeader false) ∧ t.flag F.LEX_EVENT_loaded = true ∧
      t.get F.LEX_SEQ_activations = (s.get F.LEX_SEQ_activations + 1) % 256) ∧
  (∀ (s : State) (reason index : Nat), s.get F.LEX_STATUS_state = 2 → imageCheck false (s.get F.THN_SVID_svid) (s.tabHeader false)
      (sparseRead (fun _ => 0) (s.hearthOf s.devHearth).lex) = .refused reason index → Completes .lexCheckComplete s fun t =>
    t.get F.LEX_STATUS_state = 0 ∧ t.flag F.LEX_EVENT_image_refused = true ∧ t.get F.LEX_STATUS_fail_reason = reason % 2 ^ F.LEX_STATUS_fail_reason.width ∧
    t.get F.LEX_STATUS_fail_index = index % 2 ^ F.LEX_STATUS_fail_index.width) ∧
  (∀ s : State, s.get F.LEX_STATUS_state ≠ 0 → s.lexSeedCount = 0 → s.pageAnswers 0x10 = true → Completes .lexAbort s fun t =>
    t.get F.LEX_STATUS_state = 0 ∧ t.get F.LEX_STATUS_src = 0 ∧ t.get F.LEX_STATUS_active_count = 0 ∧ t.flag F.LEX_EVENT_seed_absent = true ∧
    t.get F.LEX_KEY_key = 0 ∧ (t.hearthOf t.devHearth).lex = []) ∧
  (∀ s : State, s.get F.LEX_KEY_key = 0x4C → s.lexSeedCount = 0 → s.pageAnswers 0x10 = true → Completes .lexRevertSeed s fun t =>
    t.get F.LEX_STATUS_state = 0 ∧ t.get F.LEX_STATUS_src = 0 ∧ t.get F.LEX_STATUS_active_count = 0 ∧ t.flag F.LEX_EVENT_seed_absent = true ∧
    t.get F.LEX_KEY_key = 0 ∧ (t.hearthOf t.devHearth).lex = [])

/-- Loading the Phrasebook through its window, its check, and the return to the seed (R199-R201). -/
def Obligations.PhrasebookLoads : Prop :=
  (∀ s : State, s.get F.PHB_KEY_key = 0x50 → s.get F.PHB_STATUS_state = 0 → s.pageAnswers 0x11 = true → Completes .phbLoadBegin s fun t =>
    t.get F.PHB_STATUS_state = 1 ∧ t.get F.PHB_KEY_key = 0 ∧ t.get F.PHB_STATUS_fail_reason = 0 ∧ t.get F.PHB_STATUS_fail_index = 0 ∧ t.hA = s.hA ∧ t.hB = s.hB) ∧
  (∀ s : State, s.get F.PHB_KEY_key ≠ 0x50 → s.pageAnswers 0x11 = true → Completes .phbLoadBegin s fun t =>
    t.flag F.PHB_EVENT_window_refused = true ∧ t.get F.PHB_KEY_key = 0 ∧ Keeps s t F.PHB_STATUS_state ∧ t.hA = s.hA ∧ t.hB = s.hB) ∧
  (∀ (s : State) (e : Entry64), s.get F.PHB_STATUS_state = 1 → s.pageAnswers 0x11 = true → Completes (.phbWindowWrite e) s fun t =>
    sparseRead (fun _ => 0) (t.hearthOf t.devHearth).phb (s.get F.PHB_WIN_ADDR_index) = e ∧
    t.get F.PHB_WIN_ADDR_index = (s.get F.PHB_WIN_ADDR_index + 1) % 2 ^ F.PHB_WIN_ADDR_index.width ∧ Keeps s t F.PHB_STATUS_state ∧ t.flue = s.flue) ∧
  (∀ (s : State) (e : Entry64), s.get F.PHB_STATUS_state ≠ 1 → s.pageAnswers 0x11 = true → Completes (.phbWindowWrite e) s fun t =>
    t.flag F.PHB_EVENT_window_refused = true ∧ t.hA = s.hA ∧ t.hB = s.hB ∧ Keeps s t F.PHB_WIN_ADDR_index) ∧
  (∀ s : State, s.get F.PHB_STATUS_state = 1 →
    imageCheck true (s.get F.THN_SVID_svid) (s.tabHeader true) (sparseRead (fun _ => 0) (s.hearthOf s.devHearth).phb) = .passed →
    s.pageAnswers 0x11 = true → Completes .phbCommit s fun t => t.get F.PHB_STATUS_state = 0 ∧ t.get F.PHB_STATUS_src = 2 ∧ t.get F.PHB_KEY_key = 0 ∧
      t.get F.PHB_STATUS_active_count = headerCount true (s.tabHeader true) ∧ t.flag F.PHB_EVENT_loaded = true) ∧
  (∀ s : State, s.get F.PHB_STATUS_state ≠ 0 → s.phbSeedCount = 0 → s.pageAnswers 0x11 = true → Completes .phbAbort s fun t =>
    t.get F.PHB_STATUS_state = 0 ∧ t.get F.PHB_STATUS_src = 0 ∧ t.get F.PHB_STATUS_active_count = 0 ∧ t.flag F.PHB_EVENT_seed_absent = true ∧
    t.get F.PHB_KEY_key = 0 ∧ (t.hearthOf t.devHearth).phb = []) ∧
  (∀ s : State, s.get F.PHB_KEY_key = 0x50 → s.phbSeedCount = 0 → s.pageAnswers 0x11 = true → Completes .phbRevertSeed s fun t =>
    t.get F.PHB_STATUS_state = 0 ∧ t.get F.PHB_STATUS_src = 0 ∧ t.get F.PHB_STATUS_active_count = 0 ∧ t.flag F.PHB_EVENT_seed_absent = true ∧
    t.get F.PHB_KEY_key = 0 ∧ (t.hearthOf t.devHearth).phb = [])

/-! ### Chapter 8: transitions, swaps and resets -/

/-- Transitions, descents, their timers and their abort (R169-R174). -/
def Obligations.Transitions : Prop :=
  (∀ (s : State) (n : Port), s.running .srcTransition n.val = true → s.seqOf n = .hold → s.inputFirst n 2 → Completes (.transitionHoldExpiry n) s fun t =>
    t.seqOf n = .ramp ∧ t.running .srcTransition n.val = false ∧ t.regs = s.regs ∧ t.msg = s.msg ∧ t.lp = s.lp) ∧
  (∀ (s : State) (n : Port), s.seqOf n = .ramp → s.inputFirst n 0 → Completes (.transitionSettled n) s fun t =>
    t.seqOf n = .readySent ∧ t.lastSent n = some (pdPsRdy, .readyTransition) ∧ t.running .psTransition n.val = false ∧ t.regs = s.regs) ∧
  (∀ (s : State) (n : Port), s.running .psTransition n.val = true → s.seqOf n = .ramp → s.flue.broken = [] →
    s.inputFirst n 2 → Completes (.transitionTimeout n) s fun t => (t.lp.get n).held = true ∧ (t.msg.get n).signal = .hardReset ∧ t.seqOf n = .hrSend ∧
      (t.flue.rails.getLast?.map fun r => (r.source, r.unit)) = some (0x40, n.val) ∧ t.running .psTransition n.val = false) ∧
  (∀ (s : State) (n : Port), s.seqOf n = .prDescent ∨ s.seqOf n = .hrDescent → (s.get (F.STG_STATUS_state n) = 2 ∧ s.get (F.FND_STATUS_state n) = 3) →
    s.inputFirst n 0 → Completes (.descentReaches5v n) s fun t => t.get (F.STG_STATUS_state n) = 0 ∧ t.get (F.FND_STATUS_state n) = 0 ∧
      (s.higherHeld n = false → t.flag (F.FND_STATUS_dschg n) = true) ∧ (t.pol.get n).wait0V = true ∧ t.seqOf n = s.seqOf n) ∧
  (∀ (s : State) (n : Port), s.seqOf n = .prDescent → s.inputFirst n 0 → Completes (.vbusReachesVsafe0v n) s fun t =>
    t.flag (F.FND_STATUS_dschg n) = false ∧ t.seqOf n = .prReady ∧ t.lastSent n = some (pdPsRdy, .readySwap) ∧
    t.flag (F.CC_STATUS_vbus_mask n) = true ∧ (t.cc.get n).cmd = .rd ∧ (t.pol.get n).wait0V = false) ∧
  (∀ (s : State) (n : Port), s.seqOf n = .hrDescent → s.inputFirst n 0 → Completes (.vbusReachesVsafe0v n) s fun t =>
    t.flag (F.FND_STATUS_dschg n) = false ∧ t.seqOf n = .hrRecover ∧ t.left .srcRecover n.val = 830 * s.tickKhz ∧ t.msg = s.msg) ∧
  (∀ (s : State) (n : Port), s.sourcing n = true → s.seqOf n = .ramp → s.inputFirst n 0 → Completes (.transitionAbort n) s fun t =>
    t.seqOf n = .aborted ∧ (t.pol.get n).new = none ∧ t.pathIsOpen n = true ∧ (t.msg.get n).current = none ∧
    t.get (F.POL_SEQ_epoch n) = (s.get (F.POL_SEQ_epoch n) + 1) % 256 ∧ t.left .abortWait n.val = (s.get (F.CC_DEBOUNCE_detach_ms n) + 1) * s.tickKhz ∧
    ((s.get (F.STG_STATUS_state n) = 1 ∨ s.get (F.STG_STATUS_state n) = 2) → t.get (F.STG_STATUS_state n) = 0)) ∧
  (∀ (s : State) (n : Port), s.running .abortWait n.val = true → s.seqOf n = .aborted → s.inputFirst n 2 → Completes (.abortNoDetach n) s fun t =>
    t.seqOf n = .recovery ∧ t.flag (F.POL_EVENT_error_recovery n) = true ∧ t.left .errorRecovery n.val = 30 * s.tickKhz)

/-- Swaps of the power role and of VCONN, and Fast Role Swap (R175-R182). -/
def Obligations.Swaps : Prop :=
  (∀ (s : State) (n : Port), s.running .swapPs n.val = true → s.inputFirst n 2 → Completes (.swapTimeout n) s fun t =>
    t.seqOf n = .recovery ∧ t.flag (F.POL_EVENT_error_recovery n) = true ∧ t.running .swapPs n.val = false) ∧
  (∀ (s : State) (n : Port), s.seqOf n = .prWaitOff → (s.pol.get n).wait0V = true → s.inputFirst n 0 → Completes (.sinkSwapToSource n) s fun t =>
    t.seqOf n = .prRaise ∧ (t.pol.get n).wait0V = false ∧ t.running .swapPs n.val = false ∧ t.flag (F.STG_STATUS_dir n) = false ∧
    t.get (F.STG_VLOOP_STATUS_y n) = 0 ∧ 
    (s.higherHeld n = false → (t.cc.get n).cmd = .rp (if (s.pol.get n).role = 0 then 0 else (s.pol.get n).level))) ∧
  (∀ (s : State) (n : Port), s.running .swapStart n.val = true → s.noClause n 3 → s.inputFirst n 2 → Completes (.swapSourceStart n) s fun t =>
    t.get (F.POL_STATUS_pd n) = 2 ∧ t.flag (F.POL_STATUS_ams n) = true ∧ (t.lastSent n).map (·.2) = some .caps ∧
    t.running .swapStart n.val = false) ∧
  (∀ (s : State) (n : Port), (s.pol.get n).frsWanted = true → s.sinking n = true → s.get F.FED_STATUS_selected < 4 →
    0 < s.draught.reserve.get n → s.inputFirst n 0 → Completes (.frsArm n) s fun t => (t.pol.get n).frsArmed = true ∧ t = { s with pol := t.pol }) ∧
  (∀ (s : State) (n : Port), s.get F.FED_STATUS_selected = 4 ∨ s.draught.reserve.get n = 0 → s.inputFirst n 0 → Completes (.frsArm n) s fun t =>
    (t.pol.get n).frsArmed = false ∧ t = { s with pol := t.pol }) ∧
  (∀ (s : State) (n : Port), (s.pol.get n).frsArmed = true → s.inputFirst n 0 → Completes (.frsSignal n) s fun t =>
    t.seqOf n = .frSignal ∧ t.flag (F.CC_STATUS_vbus_mask n) = true ∧ t.get (F.POL_STATUS_pd n) = 5 ∧ (t.lp.get n).jump = true ∧
    t.left .frsInit n.val = 15 * s.tickKhz ∧ t.flag (F.POL_STATUS_ams n) = true ∧ (t.thn.get n).terms = none) ∧
  (∀ (s : State) (n : Port), s.seqOf n = .frSignal → (s.pol.get n).frsDue = true → s.get (F.STG_STATUS_state n) = 2 → s.inputFirst n 0 → Completes (.frsVbusLow n) s fun t =>
    t.seqOf n = .frSource ∧ (t.pol.get n).settledSource = true ∧ t.flag (F.STG_STATUS_dir n) = false ∧ t.timers = s.timers ∧ t.msg = s.msg) ∧
  (∀ (s : State) (n : Port), s.running .frsInit n.val = true → s.inputFirst n 2 → Completes (.frsInitTimer n) s fun t =>
    t.lastSent n = some (pdFrSwap, .frSwap) ∧ t.running .frsInit n.val = false ∧ t.regs = s.regs ∧ t.pol = s.pol) ∧
  (∀ (s : State) (n : Port), s.running .vconnSwap n.val = true → s.inputFirst n 2 → Completes (.vconnSwapTimeout n) s fun t =>
    (t.msg.get n).signal = .hardReset ∧ t.seqOf n = .hrSend ∧ t.running .vconnSwap n.val = false) ∧
  (∀ (s : State) (n : Port), s.seqOf n = .vcnClose → s.inputFirst n 0 → Completes (.vconnSwapReady n) s fun t =>
    t.seqOf n = .vcnReadySent ∧ t.lastSent n = some (pdPsRdy, .readySwap) ∧ t.regs = s.regs ∧ t.timers = s.timers)

/-- The steps of a Hard Reset and of Error Recovery (R185, R186, R189). -/
def Obligations.HardResetAndRecovery : Prop :=
  (∀ (s : State) (n : Port), s.running .hardReset n.val = true → s.seqOf n = .hrHold → 800 < s.vbusMv n → s.inputFirst n 2 → Completes (.hardResetSourceDescent n) s fun t =>
    t.seqOf n = .hrDescent ∧ t.running .hardReset n.val = false ∧ t.regs = s.regs) ∧
  (∀ (s : State) (n : Port), s.running .hardReset n.val = true → s.seqOf n = .hrHold → s.vbusMv n ≤ 800 → s.inputFirst n 2 → Completes (.hardResetSourceDescent n) s fun t =>
    t.seqOf n = .hrRecover ∧ t.running .hardReset n.val = false ∧ t.flag (F.FND_STATUS_dschg n) = false ∧
    t.left .srcRecover n.val = 830 * s.tickKhz) ∧
  (∀ (s : State) (n : Port), s.running .srcRecover n.val = true → s.seqOf n = .hrRecover → s.inputFirst n 2 → Completes (.srcRecoverExpiry n) s fun t =>
    t.seqOf n = .hrRaise ∧ t.running .srcRecover n.val = false ∧ t.flag (F.FND_STATUS_close_cmd n) = true ∧
    t.flag (F.FND_STATUS_dir n) = false ∧ t.flag (F.STG_STATUS_dir n) = false ∧ t.get (F.STG_VLOOP_STATUS_y n) = 0) ∧
  (∀ (s : State) (n : Port), s.seqOf n = .hrRaise → s.noClause n 3 → s.inputFirst n 0 → Completes (.hardResetVsafe5v n) s fun t =>
    t.seqOf n = .idle ∧ t.get (F.POL_STATUS_pd n) = 1 ∧ t.left .sourceCap n.val = 150 * s.tickKhz ∧ t.msg = s.msg) ∧
  (∀ (s : State) (n : Port), s.flag (F.CC_STATUS_vbus_mask n) = true → s.seqOf n = .hrSink → (s.pol.get n).fell0V = true →
    s.flag (F.CC_STATUS_vbus_present n) = true → s.inputFirst n 0 → Completes (.sinkMaskClear n) s fun t =>
      t.flag (F.CC_STATUS_vbus_mask n) = false ∧ t.seqOf n = .idle ∧ (t.pol.get n).waitCaps = true ∧
      t.left .sinkWaitCap n.val = 465 * s.tickKhz ∧ t.get (F.POL_STATUS_pd n) = 1 ∧ t.flag (F.STG_STATUS_dir n) = true) ∧
  (∀ (s : State) (n : Port), s.inputFirst n 0 → Completes (.errorRecoveryEntry n) s fun t =>
    t.seqOf n = .recovery ∧ t.get (F.POL_STATUS_typec n) = 13 ∧ t.get (F.POL_STATUS_pd n) = 0 ∧ t.flag (F.POL_EVENT_error_recovery n) = true ∧
    (t.cc.get n).attached = false ∧ (s.higherHeld n = false → (t.cc.get n).cmd = .opened) ∧ (t.msg.get n).queue = [] ∧ (t.msg.get n).signal = .empty ∧
    (t.pol.get n).cur = none ∧ t.flag (F.CC_STATUS_vconn_on n) = false ∧ t.left .errorRecovery n.val = 30 * s.tickKhz) ∧
  (∀ (s : State) (n : Port), s.running .errorRecovery n.val = true → (s.pol.get n).wait0V = false → (s.pol.get n).safeHeld = false →
    s.inputFirst n 2 → Completes (.errorRecoveryExpiry n) s fun t => (t.get (F.POL_STATUS_typec n) = 1 ∨ t.get (F.POL_STATUS_typec n) = 2) ∧ t.seqOf n = .idle ∧
      t.running .errorRecovery n.val = false)

/-! ### Chapter 9: the Phrasebook and Thatin -/

/-- Structured VDMs received, and the waits for an answer (R194-R198, R201, R202). -/
def Obligations.VdmAnswers : Prop :=
  (∀ (s : State) (n : Port) (m : Msg), s.onlyMsg n m → m.isRequest = true → vdmCmd m.vdm ≠ 6 → s.phbBusy = true →
    Completes (.vdmReceived n) s fun t => t.inputs = [] ∧ t.lastSent n = some (0x100F, .plain) ∧
      t.lastData n = some (wordsBytes [BitVec.ofNat 32 (vdmSvid m.vdm * 65536 + 32768 + s.answerVer n m.vdm * 2048 + m.vdm / 256 % 8 * 256 +
        192 + vdmCmd m.vdm)]) ∧ t.vdm = s.vdm) ∧
  (∀ (s : State) (n : Port) (m : Msg), s.onlyMsg n m → m.isRequest = true → vdmCmd m.vdm = 1 → s.phbBusy = false → s.phbOf n = [] →
    Completes (.vdmReceived n) s fun t => t.inputs = [] ∧
      t.lastData n = some (wordsBytes [BitVec.ofNat 32 (vdmSvid m.vdm * 65536 + 32768 + s.answerVer n m.vdm * 2048 + m.vdm / 256 % 8 * 256 +
        128 + 1)]) ∧ t.vdm = s.vdm) ∧
  (∀ (s : State) (n : Port) (m : Msg), s.onlyMsg n m → m.isRequest = true → vdmCmd m.vdm = 2 → s.phbBusy = false → s.svidsOf n ≠ [] →
    Completes (.vdmReceived n) s fun t => t.inputs = [] ∧
      t.lastData n = some (wordsBytes (BitVec.ofNat 32 (vdmSvid m.vdm * 65536 + 32768 + s.answerVer n m.vdm * 2048 + m.vdm / 256 % 8 * 256 +
        64 + 2) :: packSvids (s.svidsOf n))) ∧ t.vdm = s.vdm) ∧
  (∀ (s : State) (n : Port) (m : Msg), s.onlyMsg n m → m.isRequest = true → 16 ≤ vdmCmd m.vdm → s.phbBusy = false →
    (s.hostSvids n).contains (vdmSvid m.vdm) = true → (s.modeEntry n (vdmSvid m.vdm) (vdmPos m.vdm)).isSome = true →
    Completes (.vdmReceived n) s fun t => t.inputs = [] ∧ t.get (F.VDM_RX_HDR_hdr n) = m.vdm ∧ t.flag (F.VDM_EVENT_host_vdm_rx n) = true ∧
      (t.vdm.get n).hostRequest = some (BitVec.ofNat 32 m.vdm) ∧ t.left .hostVdm n.val = 10 * s.tickKhz ∧ t.msg = s.msg) ∧
  (∀ (s : State) (n : Port) (h : Word), (s.vdm.get n).hostRequest = some h → s.inputFirst n 2 → Completes (.hostVdmResponseTimeout n) s fun t =>
    (t.vdm.get n).hostRequest = none ∧ t.running .hostVdm n.val = false ∧ t.lastSent n = some (0x100F, .plain) ∧
    t.lastData n = some (wordsBytes [BitVec.ofNat 32 (vdmSvid h.toNat * 65536 + 32768 + s.answerVer n h.toNat * 2048 +
      h.toNat / 256 % 8 * 256 + 128 + vdmCmd h.toNat)])) ∧
  (∀ (s : State) (n : Port) (a : VdmAsk), (s.vdm.get n).ask = some a → 1 ≤ a.what → a.what ≤ 3 → s.noWaiters n → s.running .vdmResponse n.val = true →
    s.inputFirst n 2 → Completes (.vdmResponseTimeout n) s fun t => t.get (F.VDM_STATUS_disc n) = 5 ∧ t.flag (F.VDM_EVENT_disc_failed n) = true ∧
      (t.vdm.get n).ask = none ∧ t.running .vdmResponse n.val = false ∧ t.flag (F.POL_STATUS_ams n) = false) ∧
  (∀ (s : State) (n : Port) (a : VdmAsk), (s.vdm.get n).ask = some a → a.what = 8 → s.noWaiters n → s.running .vdmResponse n.val = true →
    s.inputFirst n 2 → Completes (.vdmResponseTimeout n) s fun t => t.flag (F.VDM_EVENT_tx_failed n) = true ∧ (t.vdm.get n).ask = none ∧
      Keeps s t (F.VDM_STATUS_disc n) ∧ t.running .vdmResponse n.val = false ∧ t.flag (F.POL_STATUS_ams n) = false) ∧
  (∀ (s : State) (n : Port) (a : VdmAsk), (s.vdm.get n).ask = some a → s.running .vdmBusy n.val = true →
    s.phbBusy = false → s.inputFirst n 2 → Completes (.vdmBusyRetry n) s fun t => (t.vdm.get n).retried = true ∧ t.running .vdmBusy n.val = false ∧
      t.lastData n = some (wordsBytes (s.vdmWords n a)) ∧ (t.lastSent n).map (·.2) = some (if a.what = 8 then .hostTx else .vdmAsk) ∧
      t.regs = s.regs) ∧
  (∀ (s : State) (n : Port) (m : Msg), s.onlyMsg n m → m.isSvdm = true → vdmType m.vdm = 1 → s.phbBusy = false →
    (s.pol.get n).draft = none → (s.pol.get n).todo = [] → (s.vdm.get n).ask = some { what := 1, svid := 0xFF00, pos := 0 } →
    Completes (.discoveryStep n) s fun t => t.inputs = [] ∧
      (t.vdm.get n).ask = some { what := 2, svid := 0xFF00, pos := 0 } ∧ t.get (F.VDM_STATUS_disc n) = 2 ∧
      t.flag (F.VDM_EVENT_identity_done n) = true ∧ t.get (F.VDM_PARTNER_ID_vdo n 0) = ((m.words[1]?).getD 0).toNat ∧
      t.lastSent n = some (0x100F, .vdmAsk)) ∧
  (∀ (s : State) (n : Port) (m : Msg), s.onlyMsg n m → m.isSvdm = true → vdmType m.vdm = 2 → s.noWaiters n →
    (s.vdm.get n).ask = some { what := 1, svid := 0xFF00, pos := 0 } → Completes (.discoveryStep n) s fun t => t.inputs = [] ∧
      (t.vdm.get n).ask = none ∧ t.get (F.VDM_STATUS_disc n) = 5 ∧ t.flag (F.VDM_EVENT_disc_failed n) = true) ∧
  (∀ (s : State) (n : Port), s.vdmFree n → s.flag (F.POL_STATUS_vconn_src n) = true → Completes (.cableDiscoverIdentity n) s fun t =>
    (t.vdm.get n).ask = some { what := 9, svid := 0xFF00, pos := 0 } ∧ (t.vdm.get n).cableTries = 1 ∧
    t.lastSent n = some (0x100F, .vdmAsk) ∧ ((t.msg.get n).queue.getLast?.map fun m => m.sop) = some 1 ∧ t.flag (F.POL_STATUS_ams n) = true) ∧
  (∀ (s : State) (n : Port), (s.vdm.get n).ask = none → s.flag (F.POL_STATUS_vconn_src n) = false →
    Completes (.cableDiscoverIdentity n) s fun t => t = s)

/-- The host commands of page VDM (R164, R197, R202, R204, R209, R212, R214): what each starts, and a stale or refused one. -/
def Obligations.VdmCommands : Prop :=
  (∀ (s : State) (n : Port) (e : BitVec 8), e.toNat = s.get (F.POL_SEQ_epoch n) → s.vdmInitiator n = true → s.vdmFree n →
    s.pageAnswers (portPage n 3) = true → s.inputFirst n 4 → Completes (.vdmCmdDiscovery n e) s fun t => (t.vdm.get n).ask = some { what := 1, svid := 0xFF00, pos := 0 } ∧
      t.get (F.VDM_STATUS_disc n) = 1 ∧ t.flag (F.POL_STATUS_ams n) = true ∧ t.lastSent n = some (0x100F, .vdmAsk)) ∧
  (∀ (s : State) (n : Port) (e : BitVec 8), e.toNat = s.get (F.POL_SEQ_epoch n) → s.vdmInitiator n = false →
    s.pageAnswers (portPage n 3) = true → s.inputFirst n 4 → Completes (.vdmCmdDiscovery n e) s fun t => t.flag (F.VDM_EVENT_cmd_refused n) = true ∧ t.vdm = s.vdm ∧ t.msg = s.msg) ∧
  (∀ (s : State) (n : Port) (e : BitVec 8), e.toNat ≠ s.get (F.POL_SEQ_epoch n) → s.pageAnswers (portPage n 3) = true → s.inputFirst n 4 → Completes (.vdmCmdDiscovery n e) s fun t =>
    t.flag (F.VDM_EVENT_stale_cmd n) = true ∧ t.vdm = s.vdm ∧ t.msg = s.msg) ∧
  (∀ (s : State) (n : Port) (e : BitVec 8) (arg : BitVec 16) (v : Nat), e.toNat = s.get (F.POL_SEQ_epoch n) → s.vdmInitiator n = true →
    s.vdmFree n → (s.hostSvids n)[arg.toNat % 16]? = some v → arg.toNat / 16 % 16 ≠ 0 → s.pageAnswers (portPage n 3) = true → s.inputFirst n 4 → Completes (.vdmCmdEnterHostMode n e arg) s fun t =>
      (t.vdm.get n).ask = some { what := 4, svid := v, pos := arg.toNat / 16 % 16 } ∧ t.flag (F.POL_STATUS_ams n) = true ∧
      t.lastSent n = some (0x100F, .vdmAsk)) ∧
  (∀ (s : State) (n : Port) (e : BitVec 8) (arg : BitVec 16) (v : Nat), e.toNat = s.get (F.POL_SEQ_epoch n) → s.vdmInitiator n = true →
    s.vdmFree n → (s.hostSvids n)[arg.toNat % 16]? = some v → arg.toNat / 16 % 16 ≠ 0 → s.pageAnswers (portPage n 3) = true → s.inputFirst n 4 → Completes (.vdmCmdExitHostMode n e arg) s fun t =>
      (t.vdm.get n).ask = some { what := 5, svid := v, pos := arg.toNat / 16 % 16 } ∧ t.flag (F.POL_STATUS_ams n) = true ∧
      t.lastSent n = some (0x100F, .vdmAsk)) ∧
  (∀ (s : State) (n : Port) (e : BitVec 8) (arg : BitVec 16), e.toNat = s.get (F.POL_SEQ_epoch n) → s.flag (F.POL_STATUS_data_role n) = true →
    s.vdmFree n → (s.hostSvids n).contains (vdmSvid (s.get (F.VDM_TX_HDR_hdr n))) = true → vdmType (s.get (F.VDM_TX_HDR_hdr n)) = 0 →
    vdmCmd (s.get (F.VDM_TX_HDR_hdr n)) ≠ 6 → s.pageAnswers (portPage n 3) = true → s.inputFirst n 4 → Completes (.vdmCmdSendTx n e arg) s fun t =>
      (t.vdm.get n).ask = some { what := 8, svid := vdmSvid (s.get (F.VDM_TX_HDR_hdr n)), pos := min 6 (arg.toNat % 8), words := (
        BitVec.ofNat 32 (s.get (F.VDM_TX_HDR_hdr n)) :: (List.range (min 6 (arg.toNat % 8))).map fun k => BitVec.ofNat 32 (s.get (F.VDM_TX_VDO_vdo n k))) } ∧
      (t.lastSent n).map (·.2) = some .hostTx) ∧
  (∀ (s : State) (n : Port) (e : BitVec 8), e.toNat = s.get (F.POL_SEQ_epoch n) → s.vdmInitiator n = true → s.vdmFree n →
    s.bit F.THN_CONFIG_ports n.val = true → bitsGet (s.vdm.get n).foundVdo 28 4 = 1 → s.bit F.THN_STATUS_entered n.val = false →
    s.pageAnswers (portPage n 3) = true → s.inputFirst n 4 → Completes (.vdmCmdEnterThatin n e) s fun t =>
      (t.vdm.get n).ask = some { what := 6, svid := s.get F.THN_SVID_svid, pos := 1 } ∧ t.lastSent n = some (0x200F, .vdmAsk)) ∧
  (∀ (s : State) (n : Port) (e : BitVec 8), e.toNat = s.get (F.POL_SEQ_epoch n) → s.vdmInitiator n = true → s.vdmFree n →
    s.bit F.THN_STATUS_entered n.val = true → s.pageAnswers (portPage n 3) = true → s.inputFirst n 4 → Completes (.vdmCmdExitThatin n e) s fun t =>
      (t.vdm.get n).ask = some { what := 7, svid := s.get F.THN_SVID_svid, pos := 1 } ∧ t.lastSent n = some (0x100F, .vdmAsk)) ∧
  (∀ (s : State) (n : Port) (e : BitVec 8), e.toNat = s.get (F.POL_SEQ_epoch n) → s.trkFits n (s.trkReq n) = true →
    s.pageAnswers (portPage n 3) = true → s.inputFirst n 4 → Completes (.vdmCmdProposeTracking n e) s fun t => (t.thn.get n).armed = some (s.trkReq n) ∧ (t.thn.get n).broken = false ∧ t = { s with thn := t.thn }) ∧
  (∀ (s : State) (n : Port) (e : BitVec 8), e.toNat = s.get (F.POL_SEQ_epoch n) → s.trkFits n (s.trkReq n) = false →
    s.pageAnswers (portPage n 3) = true → s.inputFirst n 4 → Completes (.vdmCmdProposeTracking n e) s fun t => t.flag (F.VDM_EVENT_cmd_refused n) = true ∧ t.thn = s.thn) ∧
  (∀ (s : State) (n : Port) (e : BitVec 8) (k : TrkTerms), e.toNat = s.get (F.POL_SEQ_epoch n) → (s.thn.get n).terms = some k →
    s.bit F.THN_STATUS_link n.val = true → s.pageAnswers (portPage n 3) = true → s.inputFirst n 4 → Completes (.vdmCmdEndTracking n e) s fun t => (t.thn.get n).terms = none ∧
      (t.thn.get n).ending = some 7 ∧ t.get (F.THN_PORT_STATUS_reason n.val) = 7 ∧ t.flag F.THN_EVENT_trk_collapse = true ∧
      t.bit F.THN_STATUS_tracking n.val = false)

/-- Thatin's SBU2 channel and the end of tracking (R206-R208, R211, R212, R214). -/
def Obligations.ThatinLink : Prop :=
  (∀ (s : State) (n : Port), s.bit F.THN_STATUS_entered n.val = true → s.flag (F.THN_PORT_STATUS_master n.val) = true →
    (s.thn.get n).ending = none → (s.thn.get n).armed = none → (s.thn.get n).heard = false → Completes (.thatinPoll n) s fun t =>
      (t.thn.get n).missed = (s.thn.get n).missed + 1 ∧ (t.thn.get n).seqNo = ((s.thn.get n).seqNo + 1) % 16 ∧
      (t.thn.get n).out.take 3 = [0x55, 0x55, 0xD5] ∧ (t.thn.get n).out[3]? = some (BitVec.ofNat 8 (16 + (s.thn.get n).seqNo % 16)) ∧
      t.left .thatinPoll n.val = s.get F.THN_CONFIG_poll_ms * s.tickKhz ∧ t.regs = s.regs) ∧
  (∀ (s : State) (n : Port), s.bit F.THN_STATUS_entered n.val = true → s.flag (F.THN_PORT_STATUS_master n.val) = false →
    Completes (.thatinPoll n) s fun t => (t.thn.get n).missed = (if (s.thn.get n).heard then 0 else (s.thn.get n).missed + 1) ∧
      (t.thn.get n).out = (s.thn.get n).out ∧
      t.left .thatinPoll n.val = s.get F.THN_CONFIG_poll_ms * s.tickKhz ∧ t.regs = s.regs) ∧
  (∀ (s : State) (n : Port) (f : SbuFrame), s.bit F.THN_STATUS_entered n.val = true → s.flag (F.CC_SBU_STATUS_sbu2_conn n) = true →
    s.flag (F.THN_PORT_STATUS_master n.val) = true → sbuGood f = true → f.header.toNat / 16 = 1 → Completes (.sbu2FrameReceived n f) s fun t =>
      t.bit F.THN_STATUS_link n.val = true ∧ (t.thn.get n).missed = 0 ∧ t.get (F.THN_TEL_vbus n.val) = pay2 f.payload 0 ∧
      t.get (F.THN_TEL_i n.val) = pay2 f.payload 2 ∧ (t.thn.get n).out = (s.thn.get n).out) ∧
  (∀ (s : State) (n : Port) (f : SbuFrame), s.bit F.THN_STATUS_entered n.val = true → s.flag (F.CC_SBU_STATUS_sbu2_conn n) = true →
    sbuGood f = false → Completes (.sbu2FrameReceived n f) s fun t => t.flag F.THN_EVENT_frame_crc = true ∧ t.thn = s.thn ∧
      Keeps s t F.THN_STATUS_link) ∧
  (∀ (s : State) (n : Port), s.bit F.THN_STATUS_link n.val = true → (s.thn.get n).terms = none → 3 ≤ (s.thn.get n).missed →
    Completes (.thatinLinkLost n) s fun t =>
    t.bit F.THN_STATUS_link n.val = false ∧ t.flag F.THN_EVENT_link_lost = true ∧
    (∀ m : Port, m ≠ n → t.bit F.THN_STATUS_link m.val = s.bit F.THN_STATUS_link m.val)) ∧
  (∀ (s : State) (n : Port) (k : TrkTerms), s.bit F.THN_STATUS_link n.val = true → (s.thn.get n).terms = some k → 3 ≤ (s.thn.get n).missed →
    Completes (.thatinLinkLost n) s fun t => t.bit F.THN_STATUS_link n.val = false ∧ (t.thn.get n).terms = none ∧
      t.get (F.THN_PORT_STATUS_reason n.val) = 4 ∧ t.flag F.THN_EVENT_trk_collapse = true) ∧
  (∀ (s : State) (n : Port) (r : Fin 7) (k : TrkTerms), (s.thn.get n).terms = some k → s.flag (F.POL_STATUS_power_role n) = true →
    Completes (.trackingCollapse n r) s fun t => (t.thn.get n).terms = none ∧ (t.thn.get n).returning = some k ∧
      t.get (F.THN_PORT_STATUS_reason n.val) = r.val + 1 ∧ t.bit F.THN_STATUS_tracking n.val = false ∧
      t.flag F.THN_EVENT_trk_collapse = true ∧ t.timers = s.timers ∧ (∀ p ∈ t.draught.preds, p.consumer ≠ n.val)) ∧
  (∀ (s : State) (n : Port) (r : Fin 7) (k : TrkTerms), (s.thn.get n).terms = some k → s.flag (F.POL_STATUS_power_role n) = false →
    Completes (.trackingCollapse n r) s fun t => (t.thn.get n).terms = none ∧ (t.thn.get n).returning = none ∧
      t.get (F.THN_PORT_STATUS_reason n.val) = r.val + 1 ∧ t.left .vthRestore n.val = 50 * s.tickKhz) ∧
  (∀ (s : State) (n : Port), s.running .vthRestore n.val = true → (s.thn.get n).terms = none → (s.pol.get n).cur = none →
    Completes (.vthRestoreAfterCollapse n) s fun t => t.running .vthRestore n.val = false ∧
      t.vthEff n = s.get (F.CC_SNK_DISC_vth n) ∧ t = { s with regs := t.regs, timers := t.timers }) ∧
  (∀ (s : State) (n : Port), s.bit F.THN_STATUS_entered n.val = true → Completes (.thatinExit n) s fun t =>
    t.bit F.THN_STATUS_entered n.val = false ∧ t.bit F.THN_STATUS_link n.val = false ∧ t.get (F.CC_SBU_STATUS_sbu1_conn n) = 0 ∧
    t.get (F.CC_SBU_STATUS_sbu2_conn n) = 0 ∧ t.get (F.THN_PORT_STATUS_version n.val) = 0 ∧ (t.thn.get n).terms = none ∧
    t.flag F.THN_EVENT_exited = true ∧ t.running .thatinPoll n.val = false ∧
    (∀ m : Port, m ≠ n → t.bit F.THN_STATUS_entered m.val = s.bit F.THN_STATUS_entered m.val)) ∧
  (∀ (s : State) (n : Port), s.bit F.THN_STATUS_entered n.val = false → Completes (.thatinExit n) s fun t => t = s)

/-! ### Chapter 10: identity and authentication -/

/-- Requests, signatures and the digest (R222-R229), and the loading of host certificates (R230). -/
def Obligations.Authentication : Prop :=
  (∀ (s : State) (n : Port) (m : Msg), s.onlyMsg n m → m.ty = pdSecurityRequest → s.get (F.IDN_STATUS_key_ok.inHearth (s.driver n)) = 0 →
    s.bit F.IDN_STATUS_pending n.val = false → Completes (.securityRequestReceived n) s fun t => t.inputs = [] ∧
      t.get F.IDN_LAST_ERR_port = n.val ∧ t.get F.IDN_LAST_ERR_code = 4 ∧ t.flag F.IDN_EVENT_request_error = true ∧
      t.lastData n = some [1, 0x7F, 4, 0] ∧ t.auth = s.auth) ∧
  (∀ (s : State) (n : Port) (m : Msg), s.onlyMsg n m → m.ty = pdSecurityRequest → m.data.take 2 = [1, 0x81] → 4 ≤ m.data.length →
    s.get (F.IDN_STATUS_key_ok.inHearth (s.driver n)) = 1 → s.get (F.IDN_STATUS_state.inHearth (s.driver n)) = 0 →
    s.get (F.IDN_STATUS_digest_busy.inHearth (s.driver n)) = 0 → (s.hearthOf (s.driver n)).digest.isSome = true →
    s.bit F.IDN_STATUS_pending n.val = false → Completes (.securityRequestReceived n) s fun t => t.inputs = [] ∧
      t.lastData n = some ([1, 1, 1, 1] ++ (s.hearthOf (s.driver n)).digest.getD []) ∧ t.auth = s.auth ∧ t.flue = s.flue) ∧
  (∀ (s : State) (n : Port) (m : Msg), s.onlyMsg n m → m.ty = pdSecurityRequest →
    m.data.take 3 = [1, 0x83, 0] → 36 ≤ m.data.length →
    s.get (F.IDN_STATUS_key_ok.inHearth (s.driver n)) = 1 → s.get (F.IDN_STATUS_state.inHearth (s.driver n)) = 0 →
    s.get (F.IDN_STATUS_digest_busy.inHearth (s.driver n)) = 0 → (s.hearthOf (s.driver n)).digest.isSome = true →
    s.bit F.IDN_STATUS_pending n.val = false → s.auth = [] → Completes (.securityRequestReceived n) s fun t => t.inputs = [] ∧
      t.bit F.IDN_STATUS_pending n.val = true ∧ t.msg = s.msg ∧ t.fresh = s.fresh + 32 ∧
      t.auth = [{ port := n, epoch := m.epoch, request := m.data, salt := s.saltBytes,
                  chain := (s.hearthOf (s.driver n)).digest.getD [] }]) ∧
  (∀ (s : State) (n : Port) (m : Msg) (c : Challenge), s.onlyMsg n m → m.ty = pdSecurityRequest →
    m.data.take 3 = [1, 0x83, 0] → 36 ≤ m.data.length →
    s.get (F.IDN_STATUS_key_ok.inHearth (s.driver n)) = 1 → s.get (F.IDN_STATUS_state.inHearth (s.driver n)) = 0 →
    s.get (F.IDN_STATUS_digest_busy.inHearth (s.driver n)) = 0 → (s.hearthOf (s.driver n)).digest.isSome = true →
    s.bit F.IDN_STATUS_pending n.val = false → s.auth = [c] → c.port ≠ n → s.driver c.port = s.driver n → c.salt.isEmpty = false →
    Completes (.securityRequestReceived n) s fun t => t.bit F.IDN_STATUS_pending n.val = true ∧ t.fresh = s.fresh ∧
      t.auth = [c, { port := n, epoch := m.epoch, request := m.data, salt := [], chain := (s.hearthOf (s.driver n)).digest.getD [] }]) ∧
  (∀ (s : State) (h : Hth) (c : Challenge), s.auth = [c] → s.driver c.port = h → c.salt.isEmpty = false → s.bit F.IDN_STATUS_pending c.port.val = true →
    Completes (.challengeSigned h) s fun t => t.auth = [] ∧ t.bit F.IDN_STATUS_pending c.port.val = false ∧
      t.lastData c.port = some (c.body ++ ecdsaSign s.privateKey (sha256 (c.request ++ c.body))) ∧
      t.flag F.IDN_EVENT_challenge_signed = true ∧ (∀ k : Port, k ≠ c.port → t.msg.get k = s.msg.get k)) ∧
  (∀ (s : State), (∀ h ∈ s.devHearths, s.get (F.IDN_STATUS_digest_busy.inHearth h) = 1) → Completes .digestComplete s fun t =>
    (t.hearthOf s.devHearth).digest = some (sha256 (s.chainOf (s.hearthOf s.devHearth))) ∧
    t.get F.IDN_CHAIN_LEN_len = (s.chainOf (s.hearthOf s.devHearth)).length % 65536 ∧ t.get F.IDN_STATUS_digest_busy = 0 ∧
    t.flag F.IDN_EVENT_chain_changed = true) ∧
  (∀ (s : State), s.get F.IDN_KEY_key = 0x49 → s.get F.IDN_STATUS_state = 0 → s.pageAnswers 7 = true → Completes .idnLoadBegin s fun t =>
    t.get F.IDN_STATUS_state = 1 ∧ t.get F.IDN_KEY_key = 0 ∧ (t.hearthOf s.devHearth).certStage = [] ∧ t.flue = s.flue) ∧
  (∀ (s : State), s.get F.IDN_KEY_key ≠ 0x49 → s.pageAnswers 7 = true → Completes .idnLoadBegin s fun t => t.flag F.IDN_EVENT_window_refused = true ∧
    Keeps s t F.IDN_STATUS_state ∧ t.get F.IDN_KEY_key = 0 ∧ t.hA = s.hA ∧ t.hB = s.hB) ∧
  (∀ (s : State) (w : Word), s.get F.IDN_STATUS_state = 1 → sparseWf (fun _ => 0) (s.hearthOf s.devHearth).certStage = true →
    s.pageAnswers 7 = true → Completes (.idnWindowWrite w) s fun t =>
      (∀ i : Fin 4, sparseRead (fun _ => 0) (t.hearthOf s.devHearth).certStage
        (2048 * s.get F.IDN_WIN_ADDR_slot + 4 * s.get F.IDN_WIN_ADDR_word + i.val) = ((wordBytes w)[i.val]?).getD 0) ∧
      t.get F.IDN_WIN_ADDR_word = (s.get F.IDN_WIN_ADDR_word + 1) % 2 ^ F.IDN_WIN_ADDR_word.width ∧ t.flue = s.flue) ∧
  (∀ (s : State), s.get F.IDN_STATUS_state = 1 → s.get (F.IDN_CERT_LEN_len 0) ≤ 2048 → s.get (F.IDN_CERT_LEN_len 1) = 0 →
    certGood (s.hearthOf s.devHearth).certStage 0 (s.get (F.IDN_CERT_LEN_len 0)) = true → s.pageAnswers 7 = true → Completes .idnCommit s fun t =>
      t.get F.IDN_STATUS_state = 0 ∧ t.get F.IDN_KEY_key = 0 ∧ t.get F.IDN_STATUS_digest_busy = 1 ∧ (t.hearthOf s.devHearth).cert1 = [] ∧
      (t.hearthOf s.devHearth).cert0 = certBytes (s.hearthOf s.devHearth).certStage 0 (s.get (F.IDN_CERT_LEN_len 0)) ∧
      (t.hearthOf s.devHearth).certStage = [] ∧ t.flue = s.flue) ∧
  (∀ (s : State), s.get F.IDN_STATUS_state = 1 → 2048 < s.get (F.IDN_CERT_LEN_len 0) → s.pageAnswers 7 = true → Completes .idnCommit s fun t =>
    t.get F.IDN_STATUS_state = 0 ∧ t.flag F.IDN_EVENT_load_refused = true ∧ (t.hearthOf s.devHearth).cert0 = [] ∧
    (t.hearthOf s.devHearth).cert1 = []) ∧
  (∀ (s : State), s.get F.IDN_STATUS_state ≠ 0 → s.pageAnswers 7 = true → Completes .idnAbort s fun t => t.get F.IDN_STATUS_state = 0 ∧ t.get F.IDN_KEY_key = 0 ∧
    (t.hearthOf s.devHearth).cert0 = [] ∧ (t.hearthOf s.devHearth).cert1 = [] ∧ (t.hearthOf s.devHearth).certStage = [] ∧ t.flue = s.flue)

/-! ### Chapters 11 and 12: the stage, the Loop Engine, set-points, correction and trace -/

/-- The states of a stage (R233, R234, R247, R312) and its configuration (R237, R245, R250, R253, R260). -/
def Obligations.StageStates : Prop :=
  (∀ (s : State) (n : Port), s.pathReady n = true → s.outputHeld n = false → s.get (F.STG_STATUS_state n) = 0 → s.ember.kindling ≠ some n →
    bankEmpty (s.bankWords n true (s.get (F.STG_STATUS_vbank n))) = false →
    bankEmpty (s.bankWords n false (s.get (F.ILP_STATUS_bank n))) = false → Completes (.stageRunCmd n) s fun t =>
      t.get (F.STG_STATUS_state n) = 1 ∧ (t.lp.get n).runStored = false ∧ (t.lp.get n).senLow = false ∧
      t.left .senTimeout n.val = ceilDiv (100 * s.tickKhz) 1000 ∧ Keeps s t (F.STG_STATUS_dir n)) ∧
  (∀ (s : State) (n : Port), s.pathReady n = true → s.outputHeld n = false → s.get (F.STG_STATUS_state n) = 0 →
    bankEmpty (s.bankWords n true (s.get (F.STG_STATUS_vbank n))) = true → bankEmpty (s.fallbackWords true) = true →
    Completes (.stageRunCmd n) s fun t => t.get (F.STG_STATUS_state n) = 0 ∧ t.flag (F.STG_EVENT_no_coeffs n) = true ∧ t.timers = s.timers) ∧
  (∀ (s : State) (n : Port), s.outputHeld n = true → Completes (.stageRunCmd n) s fun t => (t.lp.get n).runStored = true ∧
    Keeps s t (F.STG_STATUS_state n) ∧ t.timers = s.timers ∧ t.flue = s.flue) ∧
  (∀ (s : State) (n : Port), s.get (F.STG_STATUS_state n) = 1 → Completes (.stageSenHigh n) s fun t => t.get (F.STG_STATUS_state n) = 2 ∧
    t.get (F.STG_STATUS_sen n) = 1 ∧ t.get (F.STG_VLOOP_STATUS_y n) = 0 ∧ t.running .senTimeout n.val = false ∧
    (t.lp.get n).hv = Hist.zero ∧ (t.lp.get n).accInit = true) ∧
  (∀ (s : State) (n : Port), s.get (F.STG_STATUS_state n) = 1 → s.running .senTimeout n.val = true → Completes (.stageSenTimeout n) s fun t =>
    t.get (F.STG_STATUS_state n) = 3 ∧ t.get (F.STG_STATUS_sen n) = 0 ∧ t.flag (F.STG_EVENT_sen_timeout n) = true ∧
    (t.lp.get n).switching = false ∧ t.running .senTimeout n.val = false) ∧
  (∀ (s : State) (n : Port), s.get (F.STG_STATUS_state n) = 2 → Completes (.stageFault n) s fun t =>
    t.get (F.STG_STATUS_state n) = 3 ∧ t.get (F.STG_STATUS_sen n) = 0 ∧ t.flag (F.STG_EVENT_stage_fault n) = true ∧
    (t.lp.get n).switching = false ∧ (t.lp.get n).presetDue = true ∧ (t.lp.get n).resV = none ∧ (t.lp.get n).resI = none) ∧
  (∀ (s : State) (n : Port), (s.get (F.STG_STATUS_state n) = 1 ∨ s.get (F.STG_STATUS_state n) = 2) → Completes (.stageStopCmd n) s fun t =>
    t.get (F.STG_STATUS_state n) = 0 ∧ (t.lp.get n).runStored = false ∧ (t.lp.get n).switching = false ∧ (t.lp.get n).senLow = true ∧
    t.running .senTimeout n.val = false) ∧
  (∀ (s : State) (n : Port) (v : Word), (bitsGet v 16 11 = 0 ∨ minOffset s.tickKhz ≤ bitsGet v 16 11) → minOffset s.tickKhz ≤ bitsGet v 8 7 →
    s.pageAnswers (portPage n 4) = true → Completes (.timingWrite n v) s fun t => t.get (F.STG_TIMING_i_upd n) = bitsGet v 8 7 ∧ t.get (F.STG_TIMING_s_off n) = bitsGet v 0 7 ∧
      t.get (F.STG_TIMING_v_upd n) = (if bitsGet v 16 11 = 0 then s.get (F.STG_TIMING_v_upd n) else bitsGet v 16 11) ∧
      (∀ m : Port, m ≠ n → t.lp.get m = s.lp.get m) ∧ t = { s with regs := t.regs, lp := t.lp }) ∧
  (∀ (s : State) (n : Port) (v : Word), bitsGet v 8 7 ≠ 0 → bitsGet v 8 7 < minOffset s.tickKhz → s.pageAnswers (portPage n 4) = true → Completes (.timingWrite n v) s fun t =>
    t.flag (F.STG_EVENT_cfg_refused n) = true ∧ KeepsReg s t (F.STG_TIMING_i_upd n).addr) ∧
  (∀ (s : State) (n : Port) (v : Word), s.pageAnswers (portPage n (stgRegPage .ilimits)) = true → Completes (.stgConfigWrite n .ilimits v) s fun t =>
    t.get (F.ILP_ILIMITS_icap n) = bitsGet v (F.ILP_ILIMITS_icap n).lo (F.ILP_ILIMITS_icap n).width ∧
    t.get (F.ILP_ILIMITS_ineg n) = bitsGet v (F.ILP_ILIMITS_ineg n).lo (F.ILP_ILIMITS_ineg n).width ∧
    (∀ m : Port, m ≠ n → t.lp.get m = s.lp.get m) ∧ t = { s with regs := t.regs, lp := t.lp }) ∧
  (∀ (s : State) (n : Port) (v : Word), bitsGet v 24 8 = s.get (F.POL_SEQ_epoch n) → 1 ≤ bitsGet v 0 12 → bitsGet v 0 12 ≤ 2400 →
    s.pageAnswers (portPage n 4) = true → Completes (.spManualWrite n v) s fun t => t.get (F.STG_SP_MANUAL_v n) = bitsGet v 0 12 ∧ OnlyRegs s t) ∧
  (∀ (s : State) (n : Port) (v : Word), bitsGet v 24 8 ≠ s.get (F.POL_SEQ_epoch n) → s.pageAnswers (portPage n 4) = true → Completes (.spManualWrite n v) s fun t =>
    t.flag (F.POL_EVENT_stale_cmd n) = true ∧ Keeps s t (F.STG_SP_MANUAL_v n))

/-- A sample, the evaluation of a loop, its update instant and its write-back (R235, R240, R241, R243, R246, R251), the banks (R245, R249, R250) and
the feasibility check (R252). -/
def Obligations.LoopSamples : Prop :=
  (∀ (s : State) (n : Port) (vbus imon bus : BitVec 12), s.sampleDue n = true → (s.lp.get n).sampled ≠ some s.tbase.toNat →
    Completes (.sampleInstant n vbus imon bus) s fun t =>
    t.get (F.STG_ADC_LAST_vbus n) = vbus.toNat ∧ t.get (F.STG_ADC_LAST_imon n) = imon.toNat ∧ (t.lp.get n).bus = bus.toNat ∧
    t.get (F.ILP_IMEAS_imeas n) = q16 (t.iL n) ∧ (t.lp.get n).cfg = s.stageCfg n ∧ (∀ m : Port, m ≠ n → t.lp.get m = s.lp.get m)) ∧
  (∀ (s : State) (n : Port) (vbus imon bus : BitVec 12), (s.sampleDue n = false ∨ (s.lp.get n).sampled = some s.tbase.toNat) →
    Completes (.sampleInstant n vbus imon bus) s fun t => t = s) ∧
  (∀ (s : State) (n : Port) (volt : Bool), s.inLane n volt = none → Completes (.loopEvaluation n volt) s fun t => t = s) ∧
  (∀ (s : State) (n : Port) (e : Evaluation), s.loopsOn n = true → s.inLane n false = some e → e.late = false →
    Completes (.loopEvaluation n false) s fun t =>
    ((t.lp.get n).resI.map fun r => (r.e0, r.ff, r.y)) = some (sat16 ((s.lp.get n).iRef - s.iL n), s.ffI n,
      clampInt (s.uMin n) (s.uMax n) (sat16 (compensate (s.coeffs n false (s.lp.get n).bankI) (sat16 ((s.lp.get n).iRef - s.iL n))
        (s.lp.get n).hi + s.ffI n))) ∧
    t.get (F.ILP_IMEAS_iref n) = q16 (s.lp.get n).iRef ∧ (t.lp.get n).resV = (s.lp.get n).resV) ∧
  (∀ (s : State) (n : Port) (volt : Bool), (s.get (F.STG_STATUS_state n) = 0 ∨ s.get (F.STG_STATUS_state n) = 3) →
    Completes (.loopEvaluation n volt) s fun t => t.lp = s.lp ∧ t.timers = s.timers ∧ t.flue = s.flue ∧ t.hearths = s.hearths ∧
      (s.inLane n volt = none → t = s)) ∧
  (∀ (s : State) (n : Port) (r : LoopResult), s.loopsOn n = true → s.hearths.mode ≠ .mirror → s.powered (s.driver n) = true →
    (s.lp.get n).resI = some r → s.updateDue n false = true → Completes (.updateInstant n false .computed .computed) s fun t =>
      t.get (F.ILP_STATUS_u n) = q16 r.y ∧ (t.lp.get n).uPrev = r.y ∧ (t.lp.get n).resI = none ∧ (t.lp.get n).capI = some r ∧
      (t.lp.get n).uOld = (s.lp.get n).uPrev ∧ (t.lp.get n).capAtI = some s.tbase.toNat ∧
      t.flue = s.flue ∧ t.hearths = s.hearths) ∧
  (∀ (s : State) (n : Port), s.loopsOn n = true → s.hearths.mode ≠ .mirror → s.powered (s.driver n) = true → s.updateDue n false = true →
    Completes (.updateInstant n false .late .late) s fun t => (t.lp.get n).uPrev = (s.lp.get n).uPrev ∧
      Keeps s t (F.ILP_STATUS_u n) ∧
      t.flag (F.ILP_EVENT_deadline n) = true ∧ (t.lp.get n).missEpoch = s.epochNo + 1) ∧
  (∀ (s : State) (n : Port) (r : LoopResult), (s.lp.get n).capV = some r → s.writebackDue n true = true → Completes (.historyWriteback n true) s fun t =>
    (t.lp.get n).hv =
    { e1 := r.e0, e2 := (s.lp.get n).hv.e1, e3 := (s.lp.get n).hv.e2, u1 := sat16 (r.y - r.ff),
      u2 := (s.lp.get n).hv.u1, u3 := (s.lp.get n).hv.u2 } ∧ (t.lp.get n).capV = none ∧ (t.lp.get n).hi = (s.lp.get n).hi ∧
    t = { s with lp := t.lp } ∧ (∀ m : Port, m ≠ n → t.lp.get m = s.lp.get m)) ∧
  (∀ (s : State) (n : Port), s.bankWanted n true ≠ s.get (F.STG_STATUS_vbank n) → s.bankWanted n true < 2 →
    s.sampleDue n = true → Completes (.bankSwap n true) s fun t =>
    t.get (F.STG_STATUS_vbank n) = s.bankWanted n true ∧ t.flag (F.STG_EVENT_vbank_swap n) = true ∧
    t.get (F.STG_SEQ_vswaps n) = (s.get (F.STG_SEQ_vswaps n) + 1) % 256 ∧ t.lp = s.lp) ∧
  (∀ (s : State) (n : Port), s.bankWanted n false = s.get (F.ILP_STATUS_bank n) → Completes (.bankSwap n false) s fun t => t = s) ∧
  (∀ (s : State) (n : Port) (volt bank1 : Bool) (k : Fin 4) (w : Word), s.loopsOn n = false →
    bankValid ((s.bankWords n volt (bn bank1)).set k.val w) = true → s.pageAnswers (portPage n (if volt then 4 else 5)) = true → Completes (.bankWrite n volt bank1 k w) s fun t =>
      t.bankWords n volt (bn bank1) = (s.bankWords n volt (bn bank1)).set k.val w ∧
      (∀ c : Bool, c ≠ bank1 → t.bankWords n volt (bn c) = s.bankWords n volt (bn c)) ∧ OnlyRegs s t) ∧
  (∀ (s : State) (n : Port) (volt bank1 : Bool) (k : Fin 4) (w : Word), bankValid ((s.bankWords n volt (bn bank1)).set k.val w) = false →
    s.pageAnswers (portPage n (if volt then 4 else 5)) = true → Completes (.bankWrite n volt bank1 k w) s fun t => t.bankWords n volt (bn bank1) = s.bankWords n volt (bn bank1) ∧
      t.flag (if volt then F.STG_EVENT_cfg_refused n else F.ILP_EVENT_cfg_refused n) = true) ∧
  (∀ (s : State) (h : Hth), s.powered h = true → s.atEpoch = true → Completes .feasibilityCheck s fun t =>
    t.get (F.LEN_DEMAND_demand.inHearth h) = min 0xFFFF (s.hearthDemand h) ∧
    t.get (F.LEN_STATUS_feasible.inHearth h) = bn (s.hearthDemand h ≤ 4 * s.get (F.LEN_CAPACITY_cap_used.inHearth h)) ∧
    t.lp = s.lp ∧ t.timers = s.timers)

/-- The Operating-Point Correction Table: its window, its validity and its configuration (R263, R265, R269, R275). -/
def Obligations.CorrectionTable : Prop :=
  (∀ (s : State) (w : Word), s.flag F.OPC_STATUS_clearing = false → bitsGet w 24 8 = 0 → s.get F.OPC_WIN_ADDR_index < 6144 →
    sparseWf (fun _ => 0) (s.hearthOf s.devHearth).opct = true → s.pageAnswers 0x12 = true → Completes (.opcWindowWrite w) s fun t =>
      sparseRead (fun _ => 0) (t.hearthOf s.devHearth).opct (s.get F.OPC_WIN_ADDR_index) = BitVec.ofNat 24 w.toNat ∧
      (∀ i : Fin 6144, i.val ≠ s.get F.OPC_WIN_ADDR_index → sparseRead (fun _ => 0) (t.hearthOf s.devHearth).opct i.val =
        sparseRead (fun _ => 0) (s.hearthOf s.devHearth).opct i.val) ∧
      t.get F.OPC_WIN_ADDR_index = s.get F.OPC_WIN_ADDR_index + 1 ∧ t.flue = s.flue) ∧
  (∀ (s : State) (w : Word), (s.flag F.OPC_STATUS_clearing = true ∨ bitsGet w 24 8 ≠ 0 ∨ 6144 ≤ s.get F.OPC_WIN_ADDR_index) →
    s.pageAnswers 0x12 = true → Completes (.opcWindowWrite w) s fun t => t.flag F.OPC_EVENT_window_refused = true ∧ t.hA = s.hA ∧ t.hB = s.hB ∧
      t.get F.OPC_WIN_ADDR_index = min 8191 (s.get F.OPC_WIN_ADDR_index + 1)) ∧
  (∀ (s : State), s.flag F.OPC_STATUS_clearing = false → s.get F.OPC_WIN_ADDR_index < 6144 → s.pageAnswers 0x12 = true → Completes .opcWindowRead s fun t =>
    t.pins.out = wordBytes (BitVec.ofNat 32 (sparseRead (fun _ => 0) (s.hearthOf s.devHearth).opct (s.get F.OPC_WIN_ADDR_index)).toNat) ∧
    t.get F.OPC_WIN_ADDR_index = s.get F.OPC_WIN_ADDR_index + 1 ∧ t.hA = s.hA ∧ t.hB = s.hB ∧ t.flue = s.flue) ∧
  (∀ (s : State), s.get F.OPC_KEY_key = 0x4F → s.pageAnswers 0x12 = true → Completes .opcSetValid s fun t => t.flag F.OPC_STATUS_valid = true ∧ t.get F.OPC_KEY_key = 0 ∧
    t.get F.OPC_SEQ_validations = (s.get F.OPC_SEQ_validations + 1) % 256 ∧ OnlyRegs s t) ∧
  (∀ (s : State), s.get F.OPC_KEY_key ≠ 0x4F → s.pageAnswers 0x12 = true → Completes .opcSetValid s fun t => Keeps s t F.OPC_STATUS_valid ∧ t.get F.OPC_KEY_key = 0 ∧
    t.flag F.OPC_EVENT_cfg_refused = true) ∧
  (∀ (s : State), s.pageAnswers 0x12 = true → Completes .opcClearValid s fun t => t.flag F.OPC_STATUS_valid = false ∧ t.get F.OPC_KEY_key = 0 ∧ t.hA = s.hA ∧
    t.hB = s.hB ∧ OnlyRegs s t) ∧
  (∀ (s : State), s.get F.OPC_KEY_key = 0x4F → s.pageAnswers 0x12 = true → Completes .opcClearTable s fun t => t.flag F.OPC_STATUS_valid = false ∧
    t.flag F.OPC_STATUS_clearing = true ∧ t.left .opcClear 0 = ceilDiv (100 * s.tickKhz) 1000 ∧ t.get F.OPC_KEY_key = 0) ∧
  (∀ (s : State), s.flag F.OPC_STATUS_clearing = true → Completes .opcClearComplete s fun t => t.flag F.OPC_STATUS_clearing = false ∧
    (t.hearthOf s.devHearth).opct = [] ∧ t.running .opcClear 0 = false ∧ Keeps s t F.OPC_STATUS_valid) ∧
  (∀ (s : State) (n : Port) (v : Word), bitsGet v 16 13 < 6144 → bitsGet v 16 13 + bitsGet v 8 6 * bitsGet v 0 6 ≤ 6144 →
    s.pageAnswers 0x12 = true → Completes (.opcWindowCfgWrite n false v) s fun t => t.get (F.OPC_WIN_SHAPE_base n.val) = bitsGet v 16 13 ∧
      t.get (F.OPC_WIN_SHAPE_n_m n.val) = bitsGet v 8 6 ∧ t.get (F.OPC_WIN_SHAPE_n_i n.val) = bitsGet v 0 6 ∧ OnlyRegs s t) ∧
  (∀ (s : State) (n : Port) (v : Word), bitsGet v 28 4 < 4 → bitsGet v 28 4 ≠ 0 → s.pageAnswers 0x12 = true → Completes (.opcWindowCfgWrite n true v) s fun t =>
    t.flag F.OPC_EVENT_cfg_refused = true ∧ KeepsReg s t (F.OPC_WIN_AXES_m_base n.val).addr) ∧
  (∀ (s : State) (n : Port) (v : Word), s.pageAnswers 0x12 = true → Completes (.opcModelWrite n false v) s fun t => t.get (F.OPC_MODEL_I_g n.val) = bitsGet v 20 12 ∧
    t.get (F.OPC_MODEL_I_cnt n.val) = bitsGet v 16 4 ∧ t.get (F.OPC_MODEL_I_thr n.val) = bitsGet v 0 15 ∧
    (bitsGet v 16 4 = 0 → t.excursion n false = false ∧ (t.lp.get n).runI = 0))

/-- Captures of the Trace Unit: arming, triggers, strobes, readout and configuration (R270-R274, R277). -/
def Obligations.TraceCaptures : Prop :=
  (∀ (s : State) (h : Hth), h ∈ s.devHearths → s.pageAnswers 0x0F = true → Completes .trcArm s fun t => t.trcState h = 1 ∧ (t.hearthOf h).trace = [] ∧
    (t.hearthOf h).trigger = 0 ∧ t.get (F.TRC_RESULT_count.inHearth h) = 0 ∧ t.get (F.TRC_RESULT_cause.inHearth h) = 0) ∧
  (∀ (s : State) (h : Hth), h ∈ s.devHearths → s.trcRuns h = true → s.pageAnswers 0x0F = true → Completes .trcStop s fun t => t.trcState h = 3 ∧
    t.get (F.TRC_EVENT_done.inHearth h) = 1 ∧ (t.hearthOf h).trace = (s.hearthOf h).trace) ∧
  (∀ (s : State) (h : Hth), h ∈ s.devHearths → s.trcRuns h = false → Completes .trcStop s fun t => t.trcState h = s.trcState h ∧
    t.hearthOf h = s.hearthOf h) ∧
  (∀ (s : State) (h : Hth), h ∈ s.devHearths → s.trcState h = 1 → (s.hearthOf h).trigger = 0 → s.get (F.TRC_TRIG_SRC_host.inHearth h) = 1 →
    s.pageAnswers 0x0F = true → Completes .trcForceTrigger s fun t => (t.hearthOf h).trigger = 1 ∧ t.regs = s.regs) ∧
  (∀ (s : State) (h : Hth) (k : Fin 64) (rising : Bool), h ∈ s.devHearths → s.trcState h = 1 → (s.hearthOf h).trigger = 0 →
    s.trcMatch h (.comparator k rising) = some 2 → Completes (.traceTrigger (.comparator k rising)) s fun t =>
      (t.hearthOf h).trigger = 2 ∧ t.regs = s.regs) ∧
  (∀ (s : State) (h : Hth) (k : Fin 64), h ∈ s.devHearths → s.trcState h = 1 → (s.hearthOf h).trigger = 0 →
    s.get (F.TRC_TRIG_SRC_cmp.inHearth h) = 1 → s.get (F.TRC_TRIG_CMP_cmp.inHearth h) = k.val → s.get (F.TRC_TRIG_CMP_edge.inHearth h) % 2 = 1 →
    s.flag (cmpCfg F.CMP_CFG_en k) = true → s.get (cmpCfg F.CMP_CFG_input k) ≠ 0 → s.get (cmpCfg F.CMP_CFG_hi k) ≠ 255 →
    s.flag (cmpBit F.CMP_EVENT_latched k) = false → Completes (.comparatorViolation k true) s fun t => (t.hearthOf h).trigger = 2) ∧
  (∀ (s : State) (h : Hth), h ∈ s.devHearths → s.trcState h = 1 → (s.hearthOf h).trigger = 0 → s.get (F.TRC_CFG_strobe.inHearth h) = 3 →
    s.tbase.toNat % 2 ^ s.get (F.TRC_CFG_k.inHearth h) = 0 → (s.hearthOf h).trace.length < s.get (F.TRC_CAPTURE_pre.inHearth h) → Completes (.traceStrobe .interval) s fun t =>
      (t.hearthOf h).trace = (s.hearthOf h).trace ++ [(s.traceNode h (s.get (F.TRC_CFG_node_a.inHearth h)) (Fin.ofNat 8 (s.get (F.TRC_CFG_port_a.inHearth h))),
        s.traceNode h (s.get (F.TRC_CFG_node_b.inHearth h)) (Fin.ofNat 8 (s.get (F.TRC_CFG_port_b.inHearth h))))] ∧
      t.get (F.TRC_RESULT_count.inHearth h) = (s.hearthOf h).trace.length + 1 ∧ t.trcState h = 1) ∧
  (∀ (s : State) (h : Hth), h ∈ s.devHearths → s.trcState h = 1 → (s.hearthOf h).trigger ≠ 0 → s.get (F.TRC_CFG_strobe.inHearth h) = 3 →
    s.get (F.TRC_CAPTURE_post.inHearth h) ≠ 0 → (s.hearthOf h).trigger < 8 →
    s.tbase.toNat % 2 ^ s.get (F.TRC_CFG_k.inHearth h) = 0 → Completes (.traceStrobe .interval) s fun t =>
      t.trcState h = 2 ∧ (t.hearthOf h).trace.length = (s.hearthOf h).trace.length + 1 ∧ (t.hearthOf h).trigger = 0 ∧
      t.get (F.TRC_RESULT_cause.inHearth h) = (s.hearthOf h).trigger ∧ t.get (F.TRC_EVENT_triggered.inHearth h) = 1) ∧
  (∀ (s : State), s.trcRuns s.devHearth = false → s.get F.TRC_WIN_ADDR_word / 2 < (s.hearthOf s.devHearth).trace.length →
    s.pageAnswers 0x0F = true → Completes (.trcWindowRead none) s fun t =>
      t.pins.out = wordBytes (if s.get F.TRC_WIN_ADDR_word % 2 = 0 then
        (((s.hearthOf s.devHearth).trace[s.get F.TRC_WIN_ADDR_word / 2]?).getD (0, 0)).1 else
        (((s.hearthOf s.devHearth).trace[s.get F.TRC_WIN_ADDR_word / 2]?).getD (0, 0)).2) ∧
      t.get F.TRC_WIN_ADDR_word = (s.get F.TRC_WIN_ADDR_word + 1) % 2 ^ F.TRC_WIN_ADDR_word.width ∧ t.flue = s.flue) ∧
  (∀ (s : State) (h : Hth), s.trcRuns h = true → s.powered h = true → s.pageAnswers (dbgPage h 3) = true → Completes (.trcWindowRead (some h)) s fun t =>
    t.pins.out = wordBytes 0 ∧ t.get (F.TRC_EVENT_window_refused.inHearth h) = 1) ∧
  (∀ (s : State) (h : Hth) (v : Word), h ∈ s.devHearths → s.trcRuns h = false → s.pageAnswers 0x0F = true → Completes (.trcConfigWrite 2 v) s fun t =>
    t.get (F.TRC_TRIG_SRC_host.inHearth h) = bitsGet v 0 1 ∧ t.get (F.TRC_TRIG_SRC_cmp.inHearth h) = bitsGet v 1 1 ∧
    t.get (F.TRC_TRIG_SRC_flue.inHearth h) = bitsGet v 2 1 ∧ t.get (F.TRC_TRIG_SRC_lex.inHearth h) = bitsGet v 3 1) ∧
  (∀ (s : State) (h : Hth) (k : Fin 6) (v : Word), h ∈ s.devHearths → (s.trcRuns h = true ∨ trcValid k v = false) →
    s.pageAnswers 0x0F = true → Completes (.trcConfigWrite k v) s fun t => t.get (F.TRC_EVENT_cfg_refused.inHearth h) = 1 ∧
      t.word (0x0F20 + 4 * k.val) (hthCopy h) = s.word (0x0F20 + 4 * k.val) (hthCopy h))

/-! ### Chapter 13: the Draught Scheduler -/

/-- The epoch's run, admission, run-ahead and the emergency shed (R279-R303). -/
def Obligations.EpochAllocation : Prop :=
  (∀ (s : State) (a b c d : Nat), (s.ember.dev ≠ .lit ∧ s.ember.dev ≠ .startup) → Completes (.epochAllocation a b c d) s fun t => t = s) ∧
  (∀ (s : State) (a b c d : Nat) (p : Plan) (n : Port), s.ember.dev = .lit → s.draught.plan = some p → p.s < 65536 → p.x < 65536 →
    (p.ports.get n).gc < 65536 → (p.ports.get n).pc < 6553 → s.atEpoch = true → Completes (.epochAllocation a b c d) s fun t =>
      t.get F.DRT_POOL_s = p.s ∧ t.get F.DRT_POOL_x = p.x ∧ t.get (F.DRT_GRANT_committed n.val) = (p.ports.get n).gc ∧
      t.get (F.POL_BUDGET_pc n) = 10 * (p.ports.get n).pc ∧ (t.lp.get n).busMv = (p.ports.get n).bus ∧ t.draught.plan.isSome = true) ∧
  (∀ (s : State) (a b c d : Nat), s.ember.dev = .lit → s.flag F.FED_STATUS_notice = false → s.atEpoch = true → Completes (.epochAllocation a b c d) s fun t =>
    (t.draught.plan.map fun q => (q.feed, q.s)) = some (s.get F.FED_STATUS_selected, (s.feedCap (s.get F.FED_STATUS_selected)).1) ∧
    t.draught.feed = s.get F.FED_STATUS_selected ∧ t.get F.DRT_TJ_tj = tjByte (s.adc 47) ∧
    (t.draught.plan.map fun q => (List.finRange 8).all fun n => (s.recordsNow.get n).attached || (q.ports.get n).gc = 0) = some true) ∧
  (∀ (s : State) (n : Port), s.bit F.DRT_STATUS_admitted n.val = false → (s.cc.get n).attached = true → (s.pol.get n).safeHeld = false →
    s.flag (F.FND_STATUS_close_cmd n) = true → s.ember.kindling = none → s.draught.queue = [] → Completes (.admissionRequest n) s fun t =>
      t.draught.queue = [{ tick := (s.cc.get n).attachTick, port := n, waited := false }] ∧ t.get F.DRT_STATUS_queue = 1 ∧
      t.get F.DRT_ADMIT_order = n.val ∧ Keeps s t F.DRT_STATUS_admitted ∧ t.timers = s.timers) ∧
  (∀ (s : State) (n : Port), s.bit F.DRT_STATUS_admitted n.val = true → Completes (.admissionRequest n) s fun t => t = s) ∧
  (∀ (s : State), s.pageAnswers 9 = true → Completes .runSquashCmd s fun t => t.get F.RUN_SQUASH_cause = 4 ∧ t.get F.RUN_SQUASH_epoch = s.epochNo % 2 ^ 24 ∧
    t.flag F.RUN_EVENT_squash = true ∧ t.get F.RUN_SEQ_squashes = (s.get F.RUN_SEQ_squashes + 1) % 256 ∧
    t.get F.RUN_STATUS_backoff = s.get F.RUN_CONFIG_backoff ∧ (∀ p ∈ t.draught.preds, p.target < s.epochNo) ∧ t.draught.holds = 0 ∧
    t.get F.DRT_STATUS_hold = 0 ∧ t.get F.RUN_STATUS_precharge = 0 ∧ (∀ n : Port, t.get (F.DRT_GRANT_committed n.val) = s.get (F.DRT_GRANT_committed n.val))) ∧
  (∀ (s : State) (c : Fin 4), 2 ≤ s.chanMode c.val → Completes (.envLost c) s fun t => t.get (F.RUN_LEVEL_e c.val) = 0 ∧
    t.bit F.RUN_STATUS_chans c.val = false ∧ t.flag F.RUN_EVENT_env_lost = true ∧ t.draught = s.draught) ∧
  (∀ (s : State) (c : Fin 4), s.chanMode c.val < 2 → Completes (.envLost c) s fun t => t = s) ∧
  (∀ (s : State), Completes .emergencyShed s fun t => t.get F.RUN_SQUASH_cause = 3 ∧ t.flag F.DRT_EVENT_shed = true ∧
    t.get F.DRT_LOCAL_STATUS_lc = 10 * s.get F.DRT_LOCAL_base_w % 65536 ∧ t.draught.shedDue = false ∧
    t.draught.feed = s.get F.FED_STATUS_selected ∧
    (∀ n : Port, s.sourcing n = true ∧ s.bit F.DRT_STATUS_admitted n.val = true → t.flag (F.DRT_CLAMP_clamp_on n.val) = true ∧
      t.get (F.DRT_CLAMP_clamp n.val) ≤ s.get (F.DRT_GRANT_committed n.val))) ∧
  (∀ (s : State), s.running .nofeed 0 = true → s.get F.FED_STATUS_selected = 4 → s.anyImport = false → Completes .nofeedRecovery s fun t =>
    t.flag F.DRT_EVENT_nofeed_recovery = true ∧ t.draught.noFeedDone = true ∧ t.running .nofeed 0 = false ∧
    (∀ n : Port, s.sourcing n = true → t.seqOf n = .recovery ∧ t.left .errorRecovery n.val = 30 * s.tickKhz) ∧
    (∀ n : Port, s.sourcing n = false → t.seqOf n = s.seqOf n))

/-! ### Chapter 14: Fender -/

/-- A path from its close command to Closed, Limiting and Open, and its discharge (R309-R313, R317, R318, R323). -/
def Obligations.PathCycle : Prop :=
  (∀ (s : State) (n : Port), s.get (F.FND_STATUS_state n) = 0 → s.closeAllowed n = true → s.running .insertion n.val = false →
    Completes (.closeCmd n) s fun t =>
    t.get (F.FND_STATUS_state n) = 1 ∧ t.flag (F.FND_STATUS_close_cmd n) = true ∧
    t.flag (F.FND_STATUS_dir n) = (!s.flag (F.POL_STATUS_power_role n)) ∧
    t.get (F.FND_STATUS_retries_left n) = s.get (F.FND_RETRY_CFG_count n) ∧
    t.flag (F.FND_STATUS_win_ok n) = t.windowsMet n ∧
    (t.windowsMet n = true → t.left .insertion n.val = s.get (F.FND_WIN_CFG_ins_ms n) * s.tickKhz)) ∧
  (∀ (s : State) (n : Port), s.get (F.FND_STATUS_state n) = 0 → s.closeAllowed n = false → Completes (.closeCmd n) s fun t =>
    t.get (F.FND_STATUS_state n) = 0 ∧ t.flag (F.FND_STATUS_close_cmd n) = true ∧
    t = { s with regs := t.regs, boundary := t.boundary }) ∧
  (∀ (s : State) (n : Port), 2 ≤ s.get (F.FND_STATUS_state n) → s.get (F.FND_STATUS_state n) ≤ 4 → (s.fnd.get n).dschgWait = false →
    Completes (.openCmd n) s fun t => t.get (F.FND_STATUS_state n) = 0 ∧ t.flag (F.FND_STATUS_close_cmd n) = false ∧
      t.flag (F.FND_STATUS_gate_s n) = false ∧ t.flag (F.FND_STATUS_gate_b n) = false ∧ t.get (F.FND_STATUS_reg n) = 0 ∧
      t.flag (F.FND_EVENT_opened n) = true ∧ t.running .inrush n.val = false ∧ t.running .limit n.val = false) ∧
  (∀ (s : State) (n : Port), s.get (F.FND_STATUS_state n) = 6 → Completes (.openCmd n) s fun t => t.get (F.FND_STATUS_state n) = 6 ∧
    t.flag (F.FND_STATUS_close_cmd n) = false ∧ t.timers = s.timers ∧ t.flue = s.flue) ∧
  (∀ (s : State) (n : Port), s.get (F.FND_STATUS_state n) = 1 → s.running .insertion n.val = true → s.closeAllowed n = true →
    s.windowsMet n = true → Completes (.insertionComplete n) s fun t =>
    t.get (F.FND_STATUS_state n) = 2 ∧ t.flag (F.FND_STATUS_gate_s n) = true ∧ t.flag (F.FND_STATUS_gate_b n) = true ∧
    t.flag (F.FND_STATUS_dschg n) = false ∧ t.flag (F.FND_STATUS_win_ok n) = true ∧
    t.get (F.FND_STATUS_reg n) = (if s.flag (F.FND_STATUS_dir n) then 2 else 1) ∧ (t.fnd.get n).onTick = s.tbase.toNat ∧
    t.left .inrush n.val = ceilDiv ((s.fnd.get n).cfg.tInrush * s.tickKhz) 10 ∧ t.running .insertion n.val = false) ∧
  (∀ (s : State) (n : Port), s.windowsMet n = false → Completes (.insertionComplete n) s fun t => t = s) ∧
  (∀ (s : State) (n : Port), s.get (F.FND_STATUS_state n) = 2 → Completes (.inrushEnd n) s fun t => t.get (F.FND_STATUS_state n) = 3 ∧
    t.get (F.FND_STATUS_reg n) = 0 ∧ t.flag (F.FND_EVENT_closed n) = true ∧ t.left .closedFor n.val = 1000 * s.tickKhz ∧
    t.running .inrush n.val = false ∧ Keeps s t (F.FND_STATUS_gate_s n)) ∧
  (∀ (s : State) (n : Port) (inward : Bool), s.get (F.FND_STATUS_state n) = 3 → Completes (.limitEntry n inward) s fun t =>
    t.get (F.FND_STATUS_state n) = 4 ∧ t.get (F.FND_STATUS_reg n) = (if inward then 2 else 1) ∧ t.get (F.FND_SOA_STATUS_e n) = 0 ∧
    t.running .closedFor n.val = false ∧ t.left .limit n.val = ceilDiv ((s.fnd.get n).cfg.tLim * s.tickKhz) 10) ∧
  (∀ (s : State) (n : Port), s.get (F.FND_STATUS_state n) = 4 → Completes (.limitExit n) s fun t => t.get (F.FND_STATUS_state n) = 3 ∧
    t.get (F.FND_STATUS_reg n) = 0 ∧ t.running .limit n.val = false ∧ t.left .closedFor n.val = 1000 * s.tickKhz) ∧
  (∀ (s : State) (n : Port), s.get (F.FND_STATUS_state n) = 3 → s.running .closedFor n.val = true → Completes (.retriesRestore n) s fun t =>
    t.get (F.FND_STATUS_retries_left n) = (s.fnd.get n).cfg.count % 16 ∧ t.running .closedFor n.val = false ∧
    t.get (F.FND_STATUS_state n) = 3) ∧
  (∀ (s : State) (n : Port), s.flag (F.FND_STATUS_dschg n) = false → s.gateOn n = false → s.higherHeld n = false → Completes (.dschgRequest n) s fun t =>
    t.flag (F.FND_STATUS_dschg n) = true ∧ t.left .dschg n.val = 650 * s.tickKhz ∧ (t.fnd.get n).dschgWait = false) ∧
  (∀ (s : State) (n : Port), s.flag (F.FND_STATUS_dschg n) = false → s.gateOn n = true → s.higherHeld n = false → Completes (.dschgRequest n) s fun t =>
    t.flag (F.FND_STATUS_dschg n) = false ∧ (t.fnd.get n).dschgWait = true ∧ t.regs = s.regs ∧ t.timers = s.timers) ∧
  (∀ (s : State) (n : Port), s.flag (F.FND_STATUS_dschg n) = true → s.running .dschg n.val = true → Completes (.dischargeSlow n) s fun t =>
    t.flag (F.FND_EVENT_discharge_slow n) = true ∧ t.flag (F.FND_STATUS_dschg n) = true ∧ (t.fnd.get n).dschgSlow = true ∧
    t.left .dschgForce n.val = 1000 * s.tickKhz ∧ t.running .dschg n.val = false) ∧
  (∀ (s : State) (n : Port), s.running .dschgForce n.val = true → (s.fnd.get n).detaching = false → Completes (.dschgForcedOff n) s fun t =>
    t.flag (F.FND_STATUS_dschg n) = false ∧ t.running .dschgForce n.val = false ∧ (t.fnd.get n).dschgSlow = false ∧ t.pol = s.pol)

/-- Protection openings, retry and Lockout, the thermal model and the thermistors (R314-R322), and the thresholds of Fender's comparators (R337). -/
def Obligations.PathProtection : Prop :=
  (∀ (s : State) (n : Port), s.get (F.FND_STATUS_state n) = 2 → s.running .inrush n.val = true → s.get (F.FND_STATUS_retries_left n) = 0 →
    Completes (.inrushTimeout n) s fun t => t.get (F.FND_STATUS_state n) = 6 ∧ t.flag (F.FND_EVENT_inrush_timeout n) = true ∧
      t.flag (F.FND_EVENT_lockout n) = true ∧ t.get (F.FND_SEQ_openings n) = (s.get (F.FND_SEQ_openings n) + 1) % 256) ∧
  (∀ (s : State) (n : Port), s.get (F.FND_STATUS_state n) = 4 → s.running .limit n.val = true → 0 < s.get (F.FND_STATUS_retries_left n) →
    s.get (F.FND_STATUS_retries_left n) < 15 → (s.fnd.get n).dschgWait = false → Completes (.limitTimeout n) s fun t =>
      t.get (F.FND_STATUS_state n) = 5 ∧ t.flag (F.FND_EVENT_limit_timeout n) = true ∧
      t.get (F.FND_STATUS_retries_left n) = s.get (F.FND_STATUS_retries_left n) - 1 ∧ t.left .offTime n.val = s.offTicks n ∧
      t.flag (F.FND_STATUS_gate_s n) = false ∧ t.flag (F.FND_STATUS_gate_b n) = false) ∧
  (∀ (s : State) (n : Port), s.conducts n = true → s.bit (F.CMP_OWNER_fender 0) n.val = true → s.get (F.FND_STATUS_retries_left n) = 15 →
    (s.cc.get n).detachTick ≠ some s.tbase.toNat → Completes (.fastTrip n) s fun t => t.get (F.FND_STATUS_state n) = 5 ∧ t.flag (F.FND_EVENT_fast_trip n) = true ∧
      t.get (F.STG_STATUS_sen n) = 0 ∧ (t.lp.get n).tripHold = true ∧ t.get (F.FND_STATUS_retries_left n) = 15) ∧
  (∀ (s : State) (n : Port), s.conducts n = true → s.bit (F.CMP_OWNER_fender 0) n.val = true → 0 < s.get (F.FND_STATUS_retries_left n) →
    (s.cc.get n).detachTick = some s.tbase.toNat → Completes (.fastTrip n) s fun t => t.get (F.FND_STATUS_state n) = 0 ∧
      t.flag (F.FND_EVENT_fast_trip n) = true ∧ t.running .offTime n.val = false ∧ t.get (F.FND_RETRY_STATUS_toff_left n) = 0) ∧
  (∀ (s : State) (n : Port), s.bit (F.CMP_OWNER_fender 0) n.val = false → Completes (.fastTrip n) s fun t => t = s) ∧
  (∀ (s : State) (n : Port), s.get (F.FND_STATUS_state n) = 3 → s.bit (F.CMP_OWNER_fender 0) (8 + n.val) = true →
    0 < s.get (F.FND_STATUS_retries_left n) → Completes (.pathOvp n) s fun t => t.get (F.FND_STATUS_state n) = 5 ∧
      t.flag (F.FND_EVENT_ovp n) = true ∧ t.left .offTime n.val = s.offTicks n) ∧
  (∀ (s : State) (n : Port), s.get (F.FND_STATUS_state n) = 5 → s.running .offTime n.val = true → s.flag (F.FND_STATUS_close_cmd n) = true →
    s.closeAllowed n = true → s.running .insertion n.val = false → Completes (.offtimeExpiry n) s fun t => t.get (F.FND_STATUS_state n) = 1 ∧
      t.flag (F.FND_EVENT_retry n) = true ∧ t.get (F.FND_RETRY_STATUS_toff_left n) = 0 ∧ (t.lp.get n).tripHold = false ∧
      t.running .offTime n.val = false ∧
      (t.windowsMet n = true → t.left .insertion n.val = s.get (F.FND_WIN_CFG_ins_ms n) * s.tickKhz)) ∧
  (∀ (s : State) (n : Port) (e : BitVec 8), e.toNat = s.get (F.POL_SEQ_epoch n) → s.get (F.FND_STATUS_state n) = 6 →
    s.flag (F.FND_STATUS_close_cmd n) = false → s.pageAnswers (portPage n 6) = true → Completes (.fndRearm n e) s fun t => t.get (F.FND_STATUS_state n) = 0 ∧
      t.get (F.FND_STATUS_retries_left n) = s.get (F.FND_RETRY_CFG_count n) ∧ (t.lp.get n).tripHold = false ∧ ((s.lp.get n).runStored = false → t.timers = s.timers)) ∧
  (∀ (s : State) (n : Port) (e : BitVec 8), e.toNat ≠ s.get (F.POL_SEQ_epoch n) → s.pageAnswers (portPage n 6) = true → Completes (.fndRearm n e) s fun t =>
    t.flag (F.POL_EVENT_stale_cmd n) = true ∧ Keeps s t (F.FND_STATUS_state n) ∧ Keeps s t (F.FND_STATUS_retries_left n)) ∧
  (∀ (s : State) (n : Port), s.get (F.FND_STATUS_state n) = 7 → s.flag (F.FND_STATUS_close_cmd n) = false → (s.lp.get n).runStored = false →
    (s.fnd.get n).tS ≤ (s.fnd.get n).tB → (s.fnd.get n).tB < degOf (s.get (F.THM_CFG_t_trip n)) - s.get (F.THM_CFG_t_hyst n) * 2 ^ 32 →
    Completes (.thermalHoldEnd n) s fun t => t.get (F.FND_STATUS_state n) = 0 ∧ t.get (F.THM_STATUS_hold n) = 0 ∧ OnlyRegs s t) ∧
  (∀ (s : State) (n : Port), s.ember.dev = .lit → s.get (F.FND_STATUS_state n) = 0 → s.atEpoch = true → Completes .thermalModelUpdate s fun t =>
    (t.fnd.get n).count = 0 ∧ (t.fnd.get n).sumI2 = 0 ∧ t.get (F.FND_STATUS_state n) = 0 ∧
    t.get (F.THM_TEMP_t_s n) = tempByte (t.fnd.get n).tS ∧ t.get (F.THM_TEMP_t_b n) = tempByte (t.fnd.get n).tB ∧
    t.get (F.THM_TEMP_fet_t n) = tempByte (max (t.fnd.get n).tS (t.fnd.get n).tB)) ∧
  (∀ (s : State) (n : Port), s.get (F.FND_STATUS_state n) = 4 → 1000 * (s.fnd.get n).cfg.pmax < (s.fnd.get n).plin → s.atEpoch = true →
    0 < s.get (F.FND_STATUS_retries_left n) → Completes (.soaExceeded n) s fun t => t.get (F.FND_STATUS_state n) = 5 ∧
      t.flag (F.FND_EVENT_soa n) = true ∧ t.left .offTime n.val = s.offTicks n) ∧
  (∀ (s : State) (k : Fin 4), s.ntcFitted.getLsbD k.val = true → s.ntcFault.getLsbD k.val = false → Completes (.ntcFault k) s fun t =>
    t.ntcFault = s.ntcFault ||| BitVec.ofNat 4 (2 ^ k.val) ∧ t.running .ntcRange k.val = false ∧
    (∀ n : Port, s.get (F.THM_CFG_ntc_sel n) = k.val → t.flag (F.THM_EVENT_ntc_fault n) = true ∧ t.flag (F.THM_STATUS_ntc_fault n) = true ∧
      t.flag (F.THM_STATUS_ntc_used n) = false)) ∧
  (∀ (s : State) (k : Fin 4), s.ntcFitted.getLsbD k.val = true → s.running .ntcRange k.val = true → Completes (.ntcRecover k) s fun t =>
    t.ntcFault.getLsbD k.val = false ∧ t.running .ntcRange k.val = false ∧
    (∀ n : Port, s.get (F.THM_CFG_ntc_sel n) = k.val → t.flag (F.THM_STATUS_ntc_fault n) = false ∧
      t.flag (F.THM_STATUS_ntc_used n) = (s.get (F.THM_CFG_w n) ≠ 0))) ∧
  (∀ (s : State) (n : Port), s.get (F.FND_STATUS_state n) = 3 → s.bit (F.CMP_OWNER_fender 0) (8 + n.val) = true →
    Completes (.fenderThresholdLoad n) s fun t => t.get (F.FND_OVP_STATUS_v_ovp n) = ovpShown (s.vOvp n) ∧
      t.get (F.CMP_CFG_hi 0 (8 + n.val)) = ceilDiv (100 * s.vOvp n) 240 ∧ OnlyRegs s t)

/-! ### Chapter 14: the Feed Selector -/

/-- Qualification and loss of feeds, the steps of a switch, planned switches and host requests (R325-R330), and a slot of the housekeeping converter
(R435-R437). -/
def Obligations.FeedSwitches : Prop :=
  (∀ (s : State) (f : Feed), s.bit F.FED_STATUS_enabled f.val = true → s.fedWatch = true → s.feeds.held.getLsbD f.val = false →
    s.feeds.dropped.getLsbD f.val = false → Completes (.feedQualified f) s fun t => t.fedQual f.val = true ∧
      t.bit F.FED_STATUS_lost f.val = false ∧ t.feeds.held.getLsbD f.val = true ∧ t.flag F.FED_EVENT_qualified = true ∧
      (∀ g : Feed, g ≠ f → t.fedQual g.val = s.fedQual g.val)) ∧
  (∀ (s : State) (f : Feed), s.feeds.held.getLsbD f.val = true → s.fedWatch = true → s.fedSel ≠ f.val → s.feeds.planned ≠ f.val →
    Completes (.feedLost f) s fun t => t.fedQual f.val = false ∧ t.bit F.FED_STATUS_lost f.val = true ∧ t.feeds.held.getLsbD f.val = false ∧
      t.flag F.FED_EVENT_lost = true ∧ t.fedSel = s.fedSel ∧ t.feeds.gate = s.feeds.gate ∧ t.timers = s.timers) ∧
  (∀ (s : State), s.fedConnected = true → s.fedSelects = true → s.feeds.planned = 4 → Completes .feedOvercurrent s fun t =>
    t.fedQual s.fedSel = false ∧ t.bit F.FED_STATUS_lost s.fedSel = true ∧ t.flag F.FED_EVENT_overcurrent = true ∧ t.feeds.cause = 5 ∧
    t.fedSel = s.fedSel) ∧
  (∀ (s : State), s.fedConnected = true → s.fedSelects = true → s.feeds.planned = 4 → s.running .feedBlank 0 = false →
    Completes .feedReverse s fun t => t.fedQual s.fedSel = false ∧ t.flag F.FED_EVENT_reverse = true ∧ t.feeds.cause = 6) ∧
  (∀ (s : State), 0 < s.left .feedBlank 0 → Completes .feedReverse s fun t => t = s) ∧
  (∀ (s : State), s.fedSelects = true → s.fedSel = 4 → s.feeds.step = 0 → s.fedPreferred < 4 → Completes .firstSelection s fun t =>
    t.fedSel = s.fedPreferred ∧ t.feeds.step = 1 ∧ t.feeds.cause = 1 ∧ t.feeds.from_ = 4 ∧ t.flag F.FED_STATUS_switching = true ∧
    t.left .feedDead 0 = ceilDiv (s.get F.FED_CONFIG_dt_us * s.tickKhz) 1000) ∧
  (∀ (s : State), s.fedSelects = true → s.fedSel < 4 → s.fedQual s.fedSel = false → s.feeds.step = 0 → s.fedPreferred < 4 →
    Completes .unplannedSwitch s fun t => t.fedSel = s.fedPreferred ∧ t.feeds.step = 1 ∧ t.feeds.cause = s.feeds.cause ∧
      t.feeds.from_ = s.fedSel ∧ t.fedGateOn s.fedSel = false ∧ t.flag F.FED_EVENT_unplanned = true ∧ t.flag F.FED_STATUS_manual = false) ∧
  (∀ (s : State), s.fedSelects = true → s.fedSel < 4 → s.fedQual s.fedSel = false → s.feeds.step = 0 → s.fedPreferred = 4 →
    Completes .unplannedSwitch s fun t => t.fedSel = 4 ∧ t.feeds.step = 0 ∧ t.flag F.FED_EVENT_no_feed = true ∧ t.fedGateOn s.fedSel = false) ∧
  (∀ (s : State), s.fedSelects = true → s.fedConnected = true → s.feeds.planned < 4 → s.feeds.planned ≠ s.fedSel →
    s.fedQual s.feeds.planned = true → s.atEpoch = true → Completes .plannedSwitchNotice s fun t => t.flag F.FED_STATUS_notice = true ∧
      t.flag F.FED_STATUS_precharge = true ∧ t.feeds.planned = s.feeds.planned ∧ t.fedSel = s.fedSel ∧ t.feeds.gate = s.feeds.gate) ∧
  (∀ (s : State), s.flag F.FED_STATUS_notice = true → s.fedConnected = true → s.fedSelects = true → s.feeds.planned < 4 →
    s.feeds.planned ≠ s.fedSel → s.feeds.hold = false → s.draught.shedDue = false → s.atEpoch = true → Completes .plannedSwitchRun s fun t =>
      t.fedSel = s.feeds.planned ∧ t.feeds.step = 1 ∧ t.feeds.cause = s.feeds.plannedCause ∧ t.feeds.from_ = s.fedSel ∧
      t.flag F.FED_EVENT_planned = true ∧ t.flag F.FED_STATUS_notice = false ∧ t.feeds.planned = 4 ∧
      t.left .feedDead 0 = ceilDiv ((s.get F.FED_CONFIG_dt_us + 1) * s.tickKhz) 1000) ∧
  (∀ (s : State), s.feeds.hold = true → Completes .plannedSwitchRun s fun t => t = s) ∧
  (∀ (s : State), s.feeds.step = 1 → s.running .feedDead 0 = true → 15 * s.adc 34 ≤ 15 * s.adc (26 + s.fedSel) + 1000 →
    15 * s.adc (26 + s.fedSel) ≤ 15 * s.adc 34 + 1000 → s.fedSel < 4 → Completes .deadTimeExpiry s fun t => t.feeds.step = 4 ∧
      t.fedGateOn s.fedSel = true ∧ t.running .feedDead 0 = false) ∧
  (∀ (s : State), s.feeds.step = 2 → s.fedSel < 4 → Completes .busMatchReached s fun t => t.feeds.step = 4 ∧ t.fedGateOn s.fedSel = true ∧
    t.running .feedMatch 0 = false ∧ t.regs = s.regs) ∧
  (∀ (s : State), s.feeds.step = 2 → s.running .feedMatch 0 = true → s.fedSel < 4 → (s.fedMarkLost s.fedSel).fedPreferred = 4 →
    Completes .matchTimeout s fun t => t.flag F.FED_EVENT_match_timeout = true ∧ t.fedQual s.fedSel = false ∧
      t.bit F.FED_STATUS_lost s.fedSel = true ∧ t.fedSel = 4 ∧ t.flag F.FED_EVENT_no_feed = true ∧ t.feeds.step = 0 ∧ t.feeds.cause = 7) ∧
  (∀ (s : State), s.feeds.step = 3 → s.fedSel < 4 → Completes .feedInsertDone s fun t => t.feeds.step = 4 ∧ t.fedGateOn s.fedSel = true ∧
    t.running .feedInsert 0 = false ∧ t.regs = s.regs) ∧
  (∀ (s : State), s.feeds.step = 3 → s.running .feedInsert 0 = true → s.fedSel < 4 → (s.fedMarkLost s.fedSel).fedPreferred = 4 →
    Completes .feedInsTimeout s fun t => t.flag F.FED_EVENT_ins_timeout = true ∧ t.fedQual s.fedSel = false ∧
      t.fedGateOn s.fedSel = false ∧ t.fedSel = 4 ∧ t.flag F.FED_EVENT_no_feed = true ∧ t.feeds.cause = 7) ∧
  (∀ (s : State), s.feeds.step = 4 → s.feeds.cause < 8 → s.feeds.from_ < 8 → Completes .switchComplete s fun t => t.feeds.step = 0 ∧
    t.flag F.FED_STATUS_switching = false ∧ t.get F.FED_LAST_SWITCH_cause = s.feeds.cause ∧
    t.get F.FED_LAST_SWITCH_from = s.feeds.from_ ∧ t.get F.FED_LAST_SWITCH_to = s.fedSel ∧
    t.get F.FED_SEQ_switches = (s.get F.FED_SEQ_switches + 1) % 256 ∧ t.left .feedBlank 0 = ceilDiv (200 * s.tickKhz) 1000 ∧
    t.flag F.FED_STATUS_manual = (s.feeds.manual || s.flag F.FED_STATUS_manual)) ∧
  (∀ (s : State) (f : Feed), s.fedQual f.val = false → s.pageAnswers 0x0A = true → Completes (.fedReqSelect f) s fun t => t.flag F.FED_EVENT_cfg_refused = true ∧
    t.feeds = s.feeds) ∧
  (∀ (s : State) (f : Feed), s.fedQual f.val = true → s.fedSel ≠ f.val → s.pageAnswers 0x0A = true → Completes (.fedReqSelect f) s fun t =>
    t.feeds.planned = f.val ∧ t.feeds.plannedCause = 3 ∧ t.feeds.gate = s.feeds.gate ∧ t.fedSel = s.fedSel ∧ t.timers = s.timers ∧
    (s.feeds.planned ≠ f.val → t.flag F.FED_STATUS_notice = false ∧ t.flag F.FED_STATUS_precharge = false ∧ t.feeds.hold = false)) ∧
  (∀ (s : State), s.feeds.planned = 4 → s.pageAnswers 0x0A = true → Completes .fedReqAutomatic s fun t => t.flag F.FED_STATUS_manual = false ∧
    t = { s with regs := t.regs, feeds := { s.feeds with manual := false } }) ∧
  (∀ (s : State) (c : BitVec 12), slotChannel s.slotNow = 34 → Completes (.housekeepingSlot c) s fun t => t.adc 34 = c.toNat ∧
    t.get F.ADC_STATUS_last = 34 ∧ t.get F.FED_BUS_v_bus = 3 * c.toNat / 2 ∧ (c.toNat = 4095 → t.flag F.ADC_EVENT_rail = true) ∧
    t.draught = s.draught ∧ t.feeds = s.feeds ∧ t.fnd = s.fnd)

/-! ### Chapters 15 and 16: the Comparator Array and the hearths -/

/-- Violations, latches, boundaries, configuration and forcing of the Comparator Array (R335-R341). -/
def Obligations.Comparators : Prop :=
  (∀ (s : State) (k : Fin 64), s.flag (cmpCfg F.CMP_CFG_en k) = true → s.get (cmpCfg F.CMP_CFG_input k) ≠ 0 → s.get (cmpCfg F.CMP_CFG_hi k) ≠ 255 →
    s.flag (cmpBit F.CMP_EVENT_latched k) = false → Completes (.comparatorViolation k true) s fun t =>
      t.flag (cmpBit F.CMP_STATUS_live k) = true ∧ t.flag (cmpBit F.CMP_EVENT_latched k) = true ∧ t.flag (cmpBit F.CMP_SIDE_side k) = true ∧
      t.get (F.CMP_SEQ_latches (k.val / 32)) = (s.get (F.CMP_SEQ_latches (k.val / 32)) + 1) % 256 ∧
      (s.flag (cmpCfg F.CMP_CFG_flue_en k) = false → s.cmpOwned k = false → t.flue = s.flue)) ∧
  (∀ (s : State) (k : Fin 64), s.flag (cmpCfg F.CMP_CFG_en k) = true → s.get (cmpCfg F.CMP_CFG_input k) ≠ 0 → s.get (cmpCfg F.CMP_CFG_lo k) ≠ 0 →
    s.flag (cmpBit F.CMP_EVENT_latched k) = false → s.flag (cmpCfg F.CMP_CFG_flue_en k) = true → s.flue.broken = [] →
    Completes (.comparatorViolation k false) s fun t => t.flag (cmpBit F.CMP_SIDE_side k) = false ∧
      (t.flue.rails.getLast?.map fun r => (r.source, r.unit, r.detail)) = some (0x68, k.val, 0)) ∧
  (∀ (s : State) (k : Fin 64) (u : Bool), s.flag (cmpCfg F.CMP_CFG_en k) = false → Completes (.comparatorViolation k u) s fun t => t = s) ∧
  (∀ (s : State) (k : Fin 64), Completes (.comparatorViolationEnd k) s fun t => t.flag (cmpBit F.CMP_STATUS_live k) = false ∧
    t.get (F.CMP_EVENT_latched (k.val / 32)) = s.get (F.CMP_EVENT_latched (k.val / 32)) ∧ OnlyRegs s t) ∧
  (∀ (s : State) (k : Fin 64), s.cmpPeriod k = true → s.flag (cmpBit F.CMP_STATUS_live k) = false → s.cmpJust k.val = false →
    Completes (.comparatorLatchClear k) s fun t => t.flag (cmpBit F.CMP_EVENT_latched k) = false ∧
      (∀ j : Fin 64, j ≠ k → t.flag (cmpBit F.CMP_EVENT_latched j) = s.flag (cmpBit F.CMP_EVENT_latched j)) ∧
      (s.flag (cmpBit F.CMP_EVENT_latched k) = true → t.cmpEdge k false = true) ∧ t.lp = s.lp ∧ t.flue = s.flue) ∧
  (∀ (s : State) (k : Fin 64), (s.cmpPeriod k = false ∨ s.cmpJust k.val = true) → Completes (.comparatorLatchClear k) s fun t => t = s) ∧
  (∀ (s : State) (k : Fin 64), s.flag (cmpBit F.CMP_STATUS_live k) = true → Completes (.comparatorLatchClear k) s fun t => t = s) ∧
  (∀ (s : State) (k : Fin 64) (v : Word), bitsGet v 16 8 ≤ bitsGet v 24 8 → s.cmpOwned k = false → s.pageAnswers (0x0B + k.val / 32) = true → Completes (.cmpCfgWrite k v) s fun t =>
    t.word (cmpCfg F.CMP_CFG_en k).addr 0 = v &&& 0xFFFFFFFD ∧ OnlyRegs s t ∧
    (bitsGet v 24 8 ≠ s.get (cmpCfg F.CMP_CFG_hi k) → t.flag (cmpBit F.CMP_STATUS_live k) = false)) ∧
  (∀ (s : State) (k : Fin 64) (v : Word), bitsGet v 24 8 < bitsGet v 16 8 → s.pageAnswers (0x0B + k.val / 32) = true → Completes (.cmpCfgWrite k v) s fun t =>
    t.flag (cmpBit F.CMP_CFG_REFUSED_refused k) = true ∧ KeepsReg s t (cmpCfg F.CMP_CFG_en k).addr ∧ OnlyRegs s t) ∧
  (∀ (s : State) (page : Fin 2) (v : Word), s.pageAnswers (0x0B + page.val) = true → Completes (.cmpForce page v) s fun t =>
    t.get (F.CMP_EVENT_latched page.val) = s.get (F.CMP_EVENT_latched page.val) ||| v.toNat ∧
    t.get (F.CMP_SIDE_side page.val) = s.get (F.CMP_SIDE_side page.val) ||| v.toNat ∧ Keeps s t (F.CMP_STATUS_live page.val))

/-- The commands of page HTH, mode requests and what fencing does (R344-R346, R350-R353, R358). -/
def Obligations.HearthCommands : Prop :=
  (∀ (s : State) (e : BitVec 8), e.toNat = s.get F.HTH_SEQ_epoch → s.get F.HTH_KEY_key = 0x48 → s.hearths.mode = .mirror →
    s.role .A = .active → s.role .B = .fenced → s.hearths.goal = none → s.ember.kindling = none → s.pageAnswers 0x0D = true → Completes (.hthCmdReadmit e) s fun t =>
      t.role .B = .copying ∧ t.role .A = .active ∧ t.hearths.goal = some .readmit ∧ t.hearths.source = .A ∧ t.get F.HTH_COPY_STATUS_phase = 1 ∧
      t.get F.HTH_COPY_STATUS_attempts = 0 ∧ t.railOff .B = false ∧ t.railCode .B = s.railCode .A ∧ t.get F.HTH_KEY_key = 0 ∧
      (s.hearths.seqTick ≠ some s.tbase.toNat → t.get F.HTH_SEQ_epoch = (s.get F.HTH_SEQ_epoch + 1) % 256)) ∧
  (∀ (s : State) (e : BitVec 8), e.toNat = s.get F.HTH_SEQ_epoch → s.get F.HTH_KEY_key ≠ 0x48 → s.pageAnswers 0x0D = true → Completes (.hthCmdReadmit e) s fun t =>
    t.flag F.HTH_EVENT_cmd_refused = true ∧ t.hearths = s.hearths ∧ t.get F.HTH_KEY_key = 0) ∧
  (∀ (s : State) (e : BitVec 8), e.toNat ≠ s.get F.HTH_SEQ_epoch → s.pageAnswers 0x0D = true → Completes (.hthCmdReadmit e) s fun t =>
    t.flag F.HTH_EVENT_stale_cmd = true ∧ t.hearths = s.hearths ∧ t.get F.HTH_KEY_key = 0) ∧
  (∀ (s : State) (e : BitVec 8), e.toNat = s.get F.HTH_SEQ_epoch → s.hearths.mode = .mirror → s.degraded = false → s.hearths.goal = none →
    s.pageAnswers 0x0D = true → Completes (.hthCmdExchange e) s fun t => t.hearths.exchange = true ∧ t.role .A = s.role .A ∧ t.role .B = s.role .B ∧
      t.get F.HTH_KEY_key = 0 ∧ t.flue = s.flue) ∧
  (∀ (s : State) (e : BitVec 8), e.toNat = s.get F.HTH_SEQ_epoch → s.role .B = .fenced → s.role .A = .active → s.railOff .B = false →
    s.pageAnswers 0x0D = true → Completes (.hthCmdPowerOff e) s fun t => t.hearths.offDue = true ∧ t.hearths.orderTick = some s.tbase.toNat ∧ t.railOff .B = false ∧
      t.role .B = .fenced ∧ t.railOff .A = s.railOff .A ∧ t.get F.HTH_KEY_key = 0) ∧
  (∀ (s : State) (e : BitVec 8), e.toNat = s.get F.HTH_SEQ_epoch → s.role .A ≠ .fenced → s.role .B ≠ .fenced → s.pageAnswers 0x0D = true → Completes (.hthCmdPowerOff e) s fun t =>
    t.flag F.HTH_EVENT_cmd_refused = true ∧ t.hearths = s.hearths) ∧
  (∀ (s : State) (e : BitVec 8), e.toNat = s.get F.HTH_SEQ_epoch → s.get F.HTH_KEY_key = 0x48 → s.hearths.mode = .mirror →
    s.role .A = .active → s.role .B = .shadow → s.hearths.goal = none → s.pageAnswers 0x0D = true → Completes (.hthCmdFence e 0) s fun t => t.role .A = .fenced ∧
      t.role .B = .active ∧ t.flag F.HTH_EVENT_takeover = true ∧ t.flag F.HTH_EVENT_fenced_a = true ∧
      t.get F.HTH_LAST_TAKEOVER_cause = 7 ∧ t.get F.HTH_LAST_TAKEOVER_loser = 0 ∧ (s.hearths.seqTick ≠ some s.tbase.toNat → t.get F.HTH_SEQ_epoch = (s.get F.HTH_SEQ_epoch + 1) % 256)) ∧
  (∀ (s : State) (c : LossCause) (o : LostOutput) (n : Port), c ≠ .unresolved → s.hearths.mode = .mirror → s.role .B = .shadow →
    s.hearths.goal = none → Completes (.hearthFence .B c o n) s fun t => t.role .B = .fenced ∧ t.role .A = s.role .A ∧
      t.flag F.HTH_EVENT_fenced_b = true ∧ t.get F.HTH_LAST_TAKEOVER_cause = causeCode c ∧ t.get F.HTH_LAST_TAKEOVER_output = o.output.val ∧
      t.get F.HTH_LAST_TAKEOVER_port = n.val ∧ t.get F.HTH_LAST_TAKEOVER_loser = 1 ∧ t.pol = s.pol) ∧
  (∀ (s : State) (o : LostOutput) (n : Port), 2 ≤ o.output.val → o.output.val ≤ 9 → o.value.toNat ≠ s.outputValue o.output n →
    s.hearths.mode = .mirror → s.role .B = .shadow → s.hearths.goal = none → Completes (.hearthFence .B .unresolved o n) s fun t =>
      t.role .B = .fenced ∧ t.role .A = s.role .A ∧ t.get F.HTH_LAST_TAKEOVER_cause = 6 ∧
      t.get F.HTH_LAST_TAKEOVER_output = o.output.val ∧ t.get F.HTH_LAST_TAKEOVER_loser = 1 ∧ t.boundary = s.boundary) ∧
  (∀ (s : State) (h : Hth) (o : LostOutput) (n : Port), 2 ≤ o.output.val → o.output.val ≤ 9 → o.value.toNat = s.outputValue o.output n →
    Completes (.hearthFence h .unresolved o n) s fun t => t = s) ∧
  (∀ (s : State) (h : Hth) (c : LossCause) (o : LostOutput) (n : Port), c ≠ .unresolved → (s.role h = .off ∨ s.role h = .fenced ∨ s.role h = .copying) →
    Completes (.hearthFence h c o n) s fun t => t = s) ∧
  (∀ (s : State) (e : BitVec 8) (pass passOther : Bool), e.toNat = s.get F.HTH_SEQ_epoch → s.get F.HTH_KEY_key = 0x48 → s.hearths.mode = .mirror →
    s.role .A = .active → s.role .B = .shadow → s.pageAnswers 0x0D = true → Completes (.hearthReset e ⟨.B, pass, passOther⟩) s fun t => t.role .B = .fenced ∧ t.role .A = .active ∧
      t.get F.DEV_RESET_CAUSE_cause = 4 ∧ t.hB.opct = s.hB.opct ∧ t.hB.trace = s.hB.trace ∧ t.hB.cert0 = [] ∧ t.hB.digest = none ∧ t.hA = s.hA) ∧
  (∀ (s : State), (s.flag F.HTH_VOTE_CFG_fence_off = true ∨ (s.hearths.offDue = true ∧ s.hearths.orderTick ≠ some s.tbase.toNat)) →
    s.role .B = .fenced → s.railOff .B = false → s.atEpoch = true → Completes .fencePowerOff s fun t =>
    t.railOff .B = true ∧ t.railCode .B = 0 ∧ t.role .B = .fenced) ∧
  (∀ (s : State), ((s.flag F.HTH_VOTE_CFG_fence_off = false ∧ s.hearths.offDue = false) ∨ s.atEpoch = false) →
    Completes .fencePowerOff s fun t => t = s) ∧
  (∀ (s : State) (h : Hth), s.powered h = true → s.get (F.SELF_kat_skipped h) < 65535 → Completes (.knownAnswerCheck h false true) s fun t =>
    t.get (F.SELF_kat_skipped h) = s.get (F.SELF_kat_skipped h) + 1 ∧ t.hearths = s.hearths ∧ OnlyRegs s t) ∧
  (∀ (s : State), s.hearths.mode = .mirror → s.role .A = .active → s.role .B = .shadow → s.railOff .B = false →
    Completes (.knownAnswerCheck .B true false) s fun t => t.role .B = .fenced ∧ t.get F.HTH_LAST_TAKEOVER_cause = 2 ∧
      (s.get (F.SELF_kat_fail .B) < 255 → t.get (F.SELF_kat_fail .B) = s.get (F.SELF_kat_fail .B) + 1)) ∧
  (∀ (s : State) (v : Word), s.get F.HTH_KEY_key ≠ 0x48 → s.pageAnswers 0x0D = true → Completes (.hthModeWrite v) s fun t => t.flag F.HTH_EVENT_mode_refused = true ∧
    t.get F.HTH_STATUS_refuse = 1 ∧ Keeps s t F.HTH_MODE_mode ∧ t.hearths = s.hearths ∧ t.get F.HTH_KEY_key = 0) ∧
  (∀ (s : State) (v : Word), s.get F.HTH_KEY_key = 0x48 → s.ember.kindling = none → s.hearths.goal = none → bitsGet v 0 2 = 3 →
    s.pageAnswers 0x0D = true → Completes (.hthModeWrite v) s fun t => t.flag F.HTH_EVENT_mode_refused = true ∧ t.get F.HTH_STATUS_refuse = 5 ∧
      Keeps s t F.HTH_MODE_mode ∧ t.hearths = s.hearths) ∧
  (∀ (s : State) (v : Word), s.get F.HTH_KEY_key = 0x48 → s.ember.kindling = none → s.hearths.goal = none → bitsGet v 0 2 = 1 →
    s.hearths.mode = .mirror → s.modeLacks .split .A = false → bitsGet v 4 1 = 0 → s.pageAnswers 0x0D = true → Completes (.hthModeWrite v) s fun t =>
      t.get F.HTH_MODE_mode = 1 ∧ t.hearths.goal = some (.mode .split .A) ∧ t.hearths.mode = .mirror ∧ t.get F.HTH_KEY_key = 0) ∧
  (∀ (s : State), s.hearths.mode = .mirror → s.hearths.goal = some (.mode .split .A) → s.atEpoch = true →
    s.hearths.orderTick ≠ some s.tbase.toNat → Completes .modeHandover s fun t => t.hearths.mode = .split ∧
    t.role .A = .owner ∧ t.role .B = .owner ∧ t.hearths.goal = none ∧ t.flag F.HTH_EVENT_mode_changed = true ∧
    (s.hearths.seqTick ≠ some s.tbase.toNat → t.get F.HTH_SEQ_epoch = (s.get F.HTH_SEQ_epoch + 1) % 256)) ∧
  (∀ (s : State) (h : Hth) (v : Word), s.powered h = true → hearthHeldPage (bitsGet v 0 8) = true → s.pageAnswers (dbgPage h 0) = true → Completes (.dbgViewSelWrite h v) s fun t =>
    t.get (F.DBG_VIEW_SEL h) = bitsGet v 0 8 ∧ OnlyRegs s t) ∧
  (∀ (s : State) (h : Hth) (v : Word), s.powered h = false → Completes (.dbgViewSelWrite h v) s fun t => t = s)

/-- The phases of a copy: bring-up, bulk, snapshot, replay, trial, and their failures (R354-R357). -/
def Obligations.Readmission : Prop :=
  (∀ (s : State), s.get F.HTH_COPY_STATUS_phase = 1 → s.hearths.source = .A → s.hearths.wait = .nothing → Completes (.copyBringupDone true) s fun t =>
    t.get F.HTH_COPY_STATUS_phase = 2 ∧ t.hB.opct = s.hB.opct ∧ t.hB.digest = none ∧ t.hA = s.hA ∧ t.hearths = s.hearths) ∧
  (∀ (s : State), s.get F.HTH_COPY_STATUS_phase = 1 → s.hearths.goal = some .readmit → s.get F.HTH_COPY_STATUS_attempts < 2 → s.hearths.wait = .nothing →
    Completes (.copyBringupDone false) s fun t => t.get F.HTH_COPY_STATUS_phase = 1 ∧
      t.get F.HTH_COPY_STATUS_attempts = s.get F.HTH_COPY_STATUS_attempts + 1 ∧ t.flag F.HTH_EVENT_copy_restart = true ∧
      t.hearths = { s.hearths with wait := .restart }) ∧
  (∀ (s : State), s.get F.HTH_COPY_STATUS_phase = 2 → s.hearths.goal = some .readmit → s.hearths.source = .A → s.hearths.wait = .nothing →
    Completes .copyBulkDone s fun t =>
    t.hB.lex = s.hA.lex ∧ t.hB.phb = s.hA.phb ∧ t.hB.opct = s.hA.opct ∧ t.hB.cert0 = s.hA.cert0 ∧ t.hB.cert1 = s.hA.cert1 ∧
    t.hB.digest = s.hA.digest ∧ t.hB.trace = s.hB.trace ∧ t.hA = s.hA ∧ t.get F.HTH_COPY_STATUS_phase = 2 ∧
    t.get F.HTH_COPY_STATUS_progress ≤ 240 ∧ t.hearths = { s.hearths with wait := .snapshot }) ∧
  (∀ (s : State), s.atEpoch = true → (s.hearths.wait = .snapshot ∨ s.hearths.wait = .restart) → s.hearths.goal = some .readmit →
    s.hearths.source = .A → Completes .copySnapshot s fun t => t.hB.lex = s.hA.lex ∧ t.hB.certStage = s.hA.certStage ∧ t.hB.trace = s.hB.trace ∧
      t.hB.trigger = s.hB.trigger ∧ t.hA = s.hA ∧ t.get F.HTH_COPY_STATUS_phase = 3) ∧
  (∀ (s : State), s.get F.HTH_COPY_STATUS_phase = 3 → s.hearths.wait = .nothing → s.replayLate = false → Completes .copyLiveReached s fun t =>
    t.hearths = { s.hearths with wait := .trial } ∧ t.regs = s.regs ∧ t.timers = s.timers) ∧
  (∀ (s : State), s.replayLate = true → s.hearths.goal.isSome = true → s.get F.HTH_COPY_STATUS_attempts < 2 → Completes .copyLiveReached s fun t =>
    t.hearths = { s.hearths with wait := .restart } ∧ t.flag F.HTH_EVENT_copy_restart = true ∧ t.get F.HTH_COPY_STATUS_phase = 3 ∧
    t.get F.HTH_COPY_STATUS_attempts = s.get F.HTH_COPY_STATUS_attempts + 1) ∧
  (∀ (s : State), s.hearths.wait = .trial → s.trialStart.get F.HTH_COPY_STATUS_phase = 4 ∧
    s.trialStart.left .trial 0 = s.get F.HTH_VOTE_CFG_trial * 16 * 2048 ∧ s.trialStart.hearths = { s.hearths with wait := .nothing, trialSeen := Vector.replicate 16 0 }) ∧
  (∀ (s : State), s.get F.HTH_COPY_STATUS_phase = 4 → s.hearths.goal = some .readmit → s.hearths.source = .A → s.flue.records = [] → s.atEpoch = true →
    s.hearths.wait = .nothing → s.running .trial 0 = true → Completes .trialEnd s fun t => t.role .B = .shadow ∧ t.role .A = s.role .A ∧ t.hearths.goal = none ∧ t.hearths.startFence = false ∧
      t.get F.HTH_COPY_STATUS_phase = 5 ∧ t.flag F.HTH_EVENT_readmitted = true ∧ t.running .trial 0 = false ∧
      (s.hearths.seqTick ≠ some s.tbase.toNat → t.get F.HTH_SEQ_epoch = (s.get F.HTH_SEQ_epoch + 1) % 256)) ∧
  (∀ (s : State), s.trialOver = false → Completes .trialEnd s fun t => t = s) ∧
  (∀ (s : State), (s.get F.HTH_COPY_STATUS_phase = 2 ∨ s.get F.HTH_COPY_STATUS_phase = 3 ∨ s.get F.HTH_COPY_STATUS_phase = 4) →
    s.hearths.goal = some .readmit → s.get F.HTH_COPY_STATUS_attempts < 2 → Completes .copyAttemptFail s fun t =>
      Keeps s t F.HTH_COPY_STATUS_phase ∧ t.get F.HTH_COPY_STATUS_attempts = s.get F.HTH_COPY_STATUS_attempts + 1 ∧
      t.flag F.HTH_EVENT_copy_restart = true ∧ t.hearths = { s.hearths with wait := .restart }) ∧
  (∀ (s : State), s.get F.HTH_COPY_STATUS_phase = 4 → s.hearths.goal = some .readmit → s.hearths.source = .A → s.get F.HTH_COPY_STATUS_attempts = 2 →
    Completes .copyAttemptFail s fun t => t.get F.HTH_COPY_STATUS_phase = 6 ∧ t.get F.HTH_COPY_STATUS_attempts = 3 ∧
      t.flag F.HTH_EVENT_readmit_failed = true ∧ t.role .B = .fenced ∧ t.role .A = s.role .A ∧ t.hearths.goal = none) ∧
  (∀ (s : State) (c : LossCause), s.hearths.mode = .mirror → s.hearths.goal = some .readmit → s.hearths.source = .A → s.role .A = .active →
    s.role .B = .copying → 1 ≤ s.get F.HTH_COPY_STATUS_phase → s.get F.HTH_COPY_STATUS_phase ≤ 4 → s.flag F.FLU_STATUS_l3 = false →
    Completes (.copySourceLost c) s fun t => t.hearths.goal = none ∧ t.get F.HTH_COPY_STATUS_phase = 6 ∧ t.role .B = .fenced ∧
      t.flag F.FLU_STATUS_l3 = true ∧ t.get F.HTH_LAST_TAKEOVER_cause = causeCode c) ∧
  (∀ (s : State) (c : LossCause), s.hearths.goal = none → Completes (.copySourceLost c) s fun t => t = s) ∧
  (∀ (s : State) (x : Hth) (pass : Bool), s.get F.HTH_COPY_STATUS_phase = 1 → s.hearths.wait = .nothing → s.hearths.source = x →
    Completes (.copyBringupDone pass) s fun t => t.hearthOf x = s.hearthOf x ∧ (t.hearthOf x.other).opct = (s.hearthOf x.other).opct ∧
      (t.hearthOf x.other).trace = (s.hearthOf x.other).trace ∧ (pass = true → t.get F.HTH_COPY_STATUS_phase = 2 ∧ t.hearths = s.hearths) ∧
      (pass = false → s.hearths.goal.isSome = true → t.get F.HTH_COPY_STATUS_attempts = (s.get F.HTH_COPY_STATUS_attempts + 1) % 16)) ∧
  (∀ (s : State) (pass : Bool), s.get F.HTH_COPY_STATUS_phase ≠ 1 → Completes (.copyBringupDone pass) s fun t => t = s) ∧
  (∀ (s : State), s.get F.HTH_COPY_STATUS_phase = 2 → s.hearths.wait = .nothing → Completes .copyBulkDone s fun t =>
    t.hearths = { s.hearths with wait := .snapshot } ∧ t.get F.HTH_COPY_STATUS_progress ≤ 240 ∧ t.hA.trace = s.hA.trace ∧
    t.hB.trace = s.hB.trace ∧ t.timers = s.timers ∧ t.tbase = s.tbase) ∧
  (∀ (s : State), s.atEpoch = true → (s.hearths.wait = .snapshot ∨ s.hearths.wait = .restart) → Completes .copySnapshot s fun t =>
    t.get F.HTH_COPY_STATUS_phase = 3 ∧ t.hearths = { s.hearths with wait := .nothing, snapTick := some s.tbase.toNat } ∧ t.apart = none ∧ t.hA.trace = s.hA.trace ∧
    t.hB.trace = s.hB.trace ∧ t.timers = s.timers ∧ t.tbase = s.tbase) ∧
  (∀ (s : State) (c : LossCause), s.hearths.goal ≠ none → s.role s.hearths.source ≠ .off → s.role s.hearths.source ≠ .fenced →
    s.role s.hearths.source ≠ .copying → Completes (.copySourceLost c) s fun t => t.hearths.goal = none ∧ t.tbase = s.tbase)

/-! ### Chapter 17: Flue and Ash -/

/-- Reports, records and their grace, persist and quiet times (R361, R364-R367, R375, R376). -/
def Obligations.FlueRecords : Prop :=
  (∀ (s : State) (c u d : BitVec 8), s.flue.rails = [] → s.flue.records = [] → s.flue.broken = [] → sourceReact c.toNat = .portSafe →
    s.flag F.FLU_STATUS_l3 = false → Completes (.flueReport c u d) s fun t => t.flue.records =
    [{ group := sourceGroup c.toNat, unit := u.toNat,
       source := c.toNat, merged := [], level := 1, merges := 0, serial := s.flue.serial, units := [u.toNat], mergeTick := none, detail := d.toNat, bit := none }] ∧
      t.flag F.FLU_EVENT_level1 = true ∧ t.get F.FLU_SEQ_opened = (s.get F.FLU_SEQ_opened + 1) % 256 ∧ t.flue.serial = s.flue.serial + 1 ∧
      (t.flue.ash.head?.map fun e => (e.source, e.unit, e.level, e.kind)) = some (c.toNat, u.toNat, 1, 0) ∧ t.flue.rails = []) ∧
  (∀ (s : State) (c u d : BitVec 8) (r : FlueRecord), s.flue.rails = [] → s.flue.records = [r] → s.flue.broken = [] →
    sourceReact c.toNat = .portSafe → r.group = sourceGroup c.toNat → r.unit = u.toNat → r.merges < 255 →
    Completes (.flueReport c u d) s fun t =>
      t.flue.records =
        [{ r with merges := r.merges + 1, mergeTick := some s.tbase.toNat, merged := (r.merged.filter fun x => x ≠ c.toNat) ++ [c.toNat] }] ∧
      t.flue.serial = s.flue.serial ∧ t.running .quiet (recUnit r.group r.unit) = false) ∧
  (∀ (s : State) (c u d : BitVec 8), s.flue.rails = [] → s.flue.broken = [] → c.toNat = 2 → Completes (.flueReport c u d) s fun t =>
    t.flue.records = s.flue.records ∧ t.flag F.FLU_EVENT_level0 = true ∧ t.flue.serial = s.flue.serial + 1 ∧
    (t.flue.ash.head?.map fun e => (e.source, e.unit, e.level, e.kind)) = some (2, u.toNat, 0, 4)) ∧
  (∀ (s : State) (c u : BitVec 8), s.flue.broken = [] → Completes (.reportPathBroken c u) s fun t => t.flue.broken = [(c.toNat, u.toNat)] ∧
    t.flag F.FLU_EVENT_report_path = true ∧
    (c ≠ 0x60 → (t.flue.rails.getLast?.map fun r => (r.source, r.unit, r.detail)) = some (0x60, c.toNat, u.toNat))) ∧
  (∀ (s : State) (c u : BitVec 8), (c.toNat, u.toNat) ∈ s.flue.broken → Completes (.reportPathBroken c u) s fun t => t = s) ∧
  (∀ (s : State) (n : Port), s.flue.records = [aRecordOf n 1] → s.running .grace (recUnit 5 n.val) = true →
    s.live 0x31 n.val = true → s.get (F.POL_STATUS_typec n) = 0 → s.get (F.FLU_GRACE_persist 5) = 100 →
    s.flue.rails = [] → Completes (.graceExpiry 5 (BitVec.ofNat 8 n.val)) s fun t => t.flue.records = [aRecordOf n 2] ∧ (t.pol.get n).safeHeld = true ∧
      t.flag F.FLU_EVENT_level2 = true ∧ t.left .persist (recUnit 5 n.val) = ceilDiv (100 * s.tickKhz) 10 ∧
      t.running .grace (recUnit 5 n.val) = false) ∧
  (∀ (s : State) (n : Port), s.flue.records = [aRecordOf n 1] → s.running .grace (recUnit 5 n.val) = true →
    s.live 0x31 n.val = false → s.flue.rails = [] → Completes (.graceExpiry 5 (BitVec.ofNat 8 n.val)) s fun t => t.flue = s.flue ∧ t.regs = s.regs ∧
      t.pol = s.pol ∧ t.running .grace (recUnit 5 n.val) = false) ∧
  (∀ (s : State) (n : Port), s.flue.records = [aRecordOf n 2] → s.running .persist (recUnit 5 n.val) = true → s.live 0x31 n.val = true →
    s.flue.rails = [] → Completes (.persistExpiry 5 (BitVec.ofNat 8 n.val)) s fun t => t.flue.records = [aRecordOf n 4] ∧ t.get (F.POL_STATUS_typec n) = 0 ∧
      (t.flue.ash.head?.map fun e => (e.level, e.kind)) = some (4, 1) ∧ t.running .persist (recUnit 5 n.val) = false) ∧
  (∀ (s : State) (n : Port), s.flue.records = [aRecordOf n 1] → s.live 0x31 n.val = false → s.get (rcvField 0x31) < 14 →
    s.flag F.FLU_STATUS_l3 = false → s.flue.rails = [] → s.running .quiet (recUnit 5 n.val) = true → Completes (.quietExpiry 5 (BitVec.ofNat 8 n.val)) s fun t => t.flue.records = [] ∧ t.get (rcvField 0x31) = s.get (rcvField 0x31) + 1 ∧
      t.flag F.FLU_EVENT_recovered = true ∧ (t.flue.ash.head?.map fun e => (e.source, e.kind)) = some (0x31, 3)) ∧
  (∀ (s : State) (n : Port), s.flue.records = [aRecordOf n 1] → s.live 0x31 n.val = true → s.flue.rails = [] → Completes (.quietExpiry 5 (BitVec.ofNat 8 n.val)) s fun t =>
    t = s)

/-- Level 3, the commands of page FLU, injection and FORCE, and the commands of page ASH (R362, R369-R371, R375-R383). -/
def Obligations.FlueControl : Prop :=
  (∀ (s : State) (c u : BitVec 8), level3Cause c.toNat u.toNat = true → s.flag F.FLU_STATUS_l3 = false → Completes (.level3Entry c u) s fun t =>
    t.flag F.FLU_STATUS_l3 = true ∧ t.flag F.FLU_EVENT_level3 = true ∧ t.ember.aliveOn = false ∧
    t.left .l3Hold 0 = s.get F.FLU_CONFIG_l3_hold * 10 * s.tickKhz ∧ t.running .l3Clear 0 = false ∧
    (∀ n : Port, s.get (F.STG_STATUS_state n) < 3 → t.get (F.STG_STATUS_state n) = 0) ∧
    (t.flue.ash.head?.map fun e => (e.source, e.unit, e.level, e.kind)) = some (c.toNat, u.toNat, 3, 1)) ∧
  (∀ (s : State) (c u : BitVec 8), s.flag F.FLU_STATUS_l3 = true → Completes (.level3Entry c u) s fun t => t = s) ∧
  (∀ (s : State), s.running .l3Hold 0 = true → s.flag F.FLU_STATUS_l3 = true → s.flag F.FLU_CONFIG_l3_auto = true →
    s.get F.FLU_STATUS_l3_resets < s.get F.FLU_CONFIG_l3_limit →
    (s.ember.dev = .lit ∨ s.ember.dev = .banked) → Completes .level3AutoReset s fun t => t.ember.dev = .startup ∧
      t.ember.step = 2 ∧ t.flag F.FLU_STATUS_l3 = false ∧ t.get F.DEV_RESET_CAUSE_cause = 6 ∧ t.flue.ash = s.flue.ash ∧ t.tbase = s.tbase ∧
      t.pending = s.pending) ∧
  (∀ (s : State), s.running .l3Clear 0 = true → s.ember.dev = .lit → s.flag F.FLU_STATUS_l3 = false → Completes .l3ResetsClear s fun t =>
    t.get F.FLU_STATUS_l3_resets = 0 ∧ t.running .l3Clear 0 = false ∧ t.flue = s.flue) ∧
  (∀ (s : State) (n : Port), s.flue.records = [aRecordOf n 1] → s.live 0x31 n.val = false → s.pageAnswers 3 = true → s.flue.rails = [] → Completes (.fluCloseRecord 5 (BitVec.ofNat 8 n.val)) s fun t =>
    t.flue.records = [] ∧ t.get F.FLU_KEY_key = 0 ∧ (t.flue.ash.head?.map fun e => (e.source, e.kind, e.master, e.access)) = some (0x31, 2, 1, 1)) ∧
  (∀ (s : State) (n : Port), s.flue.records = [aRecordOf n 1] → s.live 0x31 n.val = true → s.pageAnswers 3 = true → s.flue.rails = [] → Completes (.fluCloseRecord 5 (BitVec.ofNat 8 n.val)) s fun t =>
    t.flue = s.flue ∧ t.flag F.FLU_EVENT_clear_refused = true ∧ t.get F.FLU_KEY_key = 0) ∧
  (∀ (s : State) (gr : Fin 16), s.pageAnswers 3 = true → Completes (.fluZeroRecovery gr) s fun t => t.get F.FLU_KEY_key = 0 ∧
    (∀ c : Fin 112, t.get (rcvField c.val) = if sourceGroup c.val = gr.val then 0 else s.get (rcvField c.val)) ∧ OnlyRegs s t) ∧
  (∀ (s : State) (n : Port), s.flue.records = [aRecordOf n 1] → s.live 0x31 n.val = false → s.pageAnswers 3 = true → s.flue.rails = [] → Completes .fluCloseAll s fun t => t.flue.records = [] ∧
    t.get F.FLU_KEY_key = 0) ∧
  (∀ (s : State), s.flag F.FLU_STATUS_l3 = true → s.get F.FLU_KEY_key = 0x46 → s.pageAnswers 3 = true → Completes .fluL3DeviceReset s fun t => t.ember.dev = .startup ∧
    t.ember.step = 2 ∧ t.flag F.FLU_STATUS_l3 = false ∧ t.get F.DEV_RESET_CAUSE_cause = 6 ∧ t.pending = s.pending) ∧
  (∀ (s : State), (s.flag F.FLU_STATUS_l3 = false ∨ s.get F.FLU_KEY_key ≠ 0x46) → s.pageAnswers 3 = true → Completes .fluL3DeviceReset s fun t => t.ember = s.ember ∧
    t.flag F.FLU_EVENT_cfg_refused = true ∧ t.get F.FLU_KEY_key = 0) ∧
  (∀ (s : State), s.flue.broken = [] → s.get F.FLU_KEY_key = 0x46 → s.pageAnswers 3 = true → Completes (.fluInject 0x1#32) s fun t =>
    (t.flue.rails.getLast?.map fun r => (r.source, r.unit, r.master, r.access)) = some (0x10, 0, 1, 4) ∧ t.get F.FLU_KEY_key = 0 ∧
    t.flue.records = s.flue.records) ∧
  (∀ (s : State), s.get F.FLU_KEY_key ≠ 0x46 → s.pageAnswers 3 = true → Completes (.fluInject 0x3#32) s fun t => t.flue = s.flue ∧ t.get F.FLU_KEY_key = 0 ∧ OnlyRegs s t) ∧
  (∀ (s : State) (v : Word), s.pageAnswers (6) = true → Completes (.forceWrite 0x06 v) s fun t =>
    (∀ b : Fin 32, v.getLsbD b.val = true ∧ hasEvent 0x06 b.val = true → t.flag (eventField 0x06 b.val) = true) ∧
    t = { s with regs := t.regs, flue := t.flue } ∧ t.flue.records = s.flue.records) ∧
  (∀ (s : State), s.get F.ASH_KEY_key = 0x41 → s.pageAnswers 4 = true → Completes .ashSootClear s fun t => t.get F.ASH_KEY_key = 0 ∧
    (∀ k : Fin 28, t.get (F.ASH_SOOT_even k.val) = 0 ∧ t.get (F.ASH_SOOT_odd k.val) = 0) ∧ OnlyRegs s t) ∧
  (∀ (s : State), s.get F.ASH_KEY_key ≠ 0x41 → s.pageAnswers 4 = true → Completes .ashSootClear s fun t => t.get F.ASH_KEY_key = 0 ∧
    (∀ k : Fin 28, t.get (F.ASH_SOOT_even k.val) = s.get (F.ASH_SOOT_even k.val)) ∧ OnlyRegs s t) ∧
  (∀ (s : State), s.pageAnswers 4 = true → Completes .ashFirstClear s fun t => t.flue.first = none ∧ t.flue.ash = s.flue.ash ∧ t.get F.ASH_KEY_key = 0) ∧
  (∀ (s : State), s.get F.ASH_KEY_key = 0x41 → s.pageAnswers 4 = true → Completes .ashClear s fun t => t.flue.ash = [] ∧ t.flue.first = s.flue.first ∧
    t.flue.serial = s.flue.serial ∧ t.get F.ASH_KEY_key = 0) ∧
  (∀ (s : State), s.get F.ASH_KEY_key ≠ 0x41 → s.pageAnswers 4 = true → Completes .ashClear s fun t => t.flue = s.flue ∧ t.get F.ASH_KEY_key = 0)

/-! ### Chapter 18: the OTP Store -/

/-- READ, PROGRAM, FINALISE, LOCK_WRITE, LOCK_READ and REBLOW: their start, their refusal, their completion and their abort (R391, R395-R400). -/
def Obligations.OtpCommands : Prop :=
  (∀ (s : State) (w : BitVec 10) (m : BitVec 2) (fl : List OtpFlip), s.flag F.OTP_STATUS_busy = false → s.ember.resensePending = false → s.otpLocked w.toNat = false →
    bitOf m.toNat 1 = true → s.pageAnswers 5 = true → Completes (.otpRead w m fl) s fun t =>
      t.get F.OTP_RDATA_data = (otpData (s.otpCell fl (bitOf m.toNat 0) (s.otpCellOf [] w.toNat))).toNat ∧ t.flag F.OTP_STATUS_busy = true ∧
      t.get F.OTP_KEY_key = 0 ∧ t.left .otpCommand 0 = ceilDiv (5 * s.tickKhz) 1000 ∧ t.otp.cells = s.otp.cells) ∧
  (∀ (s : State) (w : BitVec 10) (m : BitVec 2) (fl : List OtpFlip), s.flag F.OTP_STATUS_busy = true → s.pageAnswers 5 = true → Completes (.otpRead w m fl) s fun t =>
    t.flag F.OTP_EVENT_refused = true ∧ t.get F.OTP_RESULT_outcome = 4 ∧ t.get F.OTP_RESULT_reason = 2 ∧ t.otp = s.otp ∧
    Keeps s t F.OTP_RDATA_data) ∧
  (∀ (s : State) (w : BitVec 10), s.get F.OTP_KEY_key = 0xB5 → s.flag F.OTP_STATUS_busy = false → s.ember.resensePending = false → s.otpCondition = 0 → 320 ≤ w.toNat →
    s.otp.fin.getLsbD (otpRegionOf w.toNat) = false → s.otp.wlock.getLsbD (otpRegionOf w.toNat) = false →
    s.otpCell [] false (s.otpCellOf [] w.toNat) = 0 → s.pageAnswers 5 = true → Completes (.otpProgram w) s fun t =>
      (t.otp.run.map fun r => (r.cmd, r.word, r.data)) = some (2, w.toNat, BitVec.ofNat 32 (s.get F.OTP_WDATA_data)) ∧
      t.flag F.OTP_STATUS_busy = true ∧ t.get F.OTP_KEY_key = 0 ∧ t.left .otpCommand 0 = ceilDiv (1000 * s.tickKhz) 1000 ∧
      t.otp.cells = s.otp.cells) ∧
  (∀ (s : State) (w : BitVec 10), s.get F.OTP_KEY_key ≠ 0xB5 → s.pageAnswers 5 = true → Completes (.otpProgram w) s fun t => t.get F.OTP_RESULT_reason = 1 ∧
    t.get F.OTP_RESULT_outcome = 4 ∧ t.flag F.OTP_EVENT_refused = true ∧ t.otp = s.otp ∧ t.get F.OTP_KEY_key = 0) ∧
  (∀ (s : State) (w : BitVec 10), s.get F.OTP_KEY_key = 0xB5 → s.flag F.OTP_STATUS_busy = false → s.ember.resensePending = false → s.otpCondition = 0 → w.toNat < 320 →
    s.pageAnswers 5 = true → Completes (.otpProgram w) s fun t => t.get F.OTP_RESULT_reason = 6 ∧ t.flag F.OTP_EVENT_refused = true ∧ t.otp = s.otp) ∧
  (∀ (s : State) (r : BitVec 3) (fl : List OtpFlip), s.get F.OTP_KEY_key = 0xB5 → s.flag F.OTP_STATUS_busy = false → s.ember.resensePending = false → s.otpCondition = 0 →
    2 ≤ r.toNat → r.toNat ≤ 4 → s.otp.fin.getLsbD r.toNat = false → s.otpUnfit fl r.toNat = none → s.pageAnswers 5 = true → Completes (.otpFinalise r fl) s fun t =>
      (t.otp.run.map fun x => (x.cmd, x.region)) = some (3, r.toNat) ∧ t.flag F.OTP_STATUS_busy = true ∧ t.otp.cells = s.otp.cells ∧
      t.left .otpCommand 0 = ceilDiv (2000 * s.tickKhz) 1000) ∧
  (∀ (s : State) (r : BitVec 3), s.get F.OTP_KEY_key = 0xB5 → s.flag F.OTP_STATUS_busy = false → s.ember.resensePending = false → s.otpCondition = 0 → 2 ≤ r.toNat → r.toNat ≤ 4 →
    s.otp.wlock.getLsbD r.toNat = false → s.pageAnswers 5 = true → Completes (.otpLockWrite r) s fun t =>
      (t.otp.run.map fun x => (x.cmd, x.region)) = some (4, r.toNat) ∧ t.flag F.OTP_STATUS_busy = true ∧ t.otp.cells = s.otp.cells ∧
      t.left .otpCommand 0 = ceilDiv (500 * s.tickKhz) 1000) ∧
  (∀ (s : State) (r : BitVec 3), s.get F.OTP_KEY_key = 0xB5 → s.flag F.OTP_STATUS_busy = false → s.ember.resensePending = false → s.otpCondition = 0 → 2 ≤ r.toNat → r.toNat ≤ 4 →
    s.otp.rlock.getLsbD r.toNat = false → s.pageAnswers 5 = true → Completes (.otpLockRead r) s fun t =>
      (t.otp.run.map fun x => (x.cmd, x.region)) = some (5, r.toNat) ∧ t.flag F.OTP_STATUS_busy = true ∧ t.otp.cells = s.otp.cells) ∧
  (∀ (s : State) (w : BitVec 10), s.get F.OTP_KEY_key = 0xB5 → s.flag F.OTP_STATUS_busy = false → s.ember.resensePending = false → s.otpCondition = 0 →
    s.pageAnswers 5 = true → Completes (.otpReblow w) s fun t => (t.otp.run.map fun x => (x.cmd, x.word)) = some (6, w.toNat) ∧ t.flag F.OTP_STATUS_busy = true ∧
      t.otp.cells = s.otp.cells ∧ t.left .otpCommand 0 = ceilDiv (300 * s.tickKhz) 1000) ∧
  (∀ (s : State) (r : OtpRun), s.otp.run = some r → r.cmd = 1 → r.word < 1024 → Completes (.otpCommandComplete []) s fun t => t.otp.run = none ∧
    t.flag F.OTP_STATUS_busy = false ∧ t.get F.OTP_RESULT_outcome = 0 ∧ t.get F.OTP_RESULT_word = r.word ∧ t.flag F.OTP_EVENT_done = true ∧
    t.running .otpCommand 0 = false) ∧
  (∀ (s : State) (r : OtpRun), s.otp.run = some r → r.cmd = 2 → r.word < 1024 → r.data ≠ 0 → s.otpCellOf [] r.word = r.word →
    sparseRead (fun _ => 0) s.otp.cells r.word = 0 → sparseWf (fun _ => 0) s.otp.cells = true → sparseWf (fun _ => 0) s.otp.weak = true →
    Completes (.otpCommandComplete []) s fun t => sparseRead (fun _ => 0) t.otp.cells r.word = otpCodeword r.data ∧
      t.flag F.OTP_STATUS_busy = false ∧ t.get F.OTP_RESULT_outcome = 0 ∧ t.get F.OTP_RESULT_word = r.word ∧ t.flag F.OTP_EVENT_done = true ∧
      (∀ c : Fin 1113, c.val ≠ r.word → sparseRead (fun _ => 0) t.otp.cells c.val = sparseRead (fun _ => 0) s.otp.cells c.val)) ∧
  (∀ (s : State) (r : OtpRun), s.otp.run = some r → r.cmd = 4 → r.region < 5 → sparseWf (fun _ => 0) s.otp.cells = true →
    sparseWf (fun _ => 0) s.otp.weak = true → Completes (.otpCommandComplete []) s fun t => t.otp.wlock.getLsbD r.region = true ∧
      t.flag F.OTP_STATUS_busy = false ∧ t.get F.OTP_RESULT_outcome = 0 ∧ t.otp.run = none) ∧
  (∀ (s : State) (tries : List OtpTry), s.otp.run = none → Completes (.otpCommandComplete tries) s fun t => t = s) ∧
  (∀ (s : State) (r : OtpRun) (k : Fin 3) (tries : List OtpTry), s.otp.run = some r → 2 ≤ r.cmd → Completes (.otpCommandAbort k tries) s fun t =>
    t.otp.run = none ∧ t.flag F.OTP_STATUS_busy = false ∧ t.get F.OTP_RESULT_outcome = 5 ∧ t.get F.OTP_RESULT_reason = k.val + 3 ∧
    t.flag F.OTP_EVENT_failed = true ∧ t.running .otpCommand 0 = false)

/-! ### Chapters 19 and 20: the SMBus target and the registers -/

/-- The writes of Table 19.1 and their commit point (R403, R404, R406, R409, R410): PEC, missing and surplus bytes, counts, and the value that a register or the page takes. -/
def Obligations.BusWrites : Prop :=
  (∀ (s : State) (v : Word), s.busReady → s.get F.SMB_CONFIG_pec = 0 → hasKey (s.get F.SMB_STATUS_page) = true →
    Completes (.regWrite32 6 v []) s fun t => SmbCommitted s t ∧ t.get (keyField (s.get F.SMB_STATUS_page)) = v.toNat ∧
      Keeps s t F.SMB_STATUS_page) ∧
  (∀ (s : State) (r : Fin 64) (v : Word), s.busReady → s.get F.SMB_CONFIG_pec = 2 → Completes (.regWrite32 r v []) s fun t =>
    SmbFailed s t 2 r.val 4) ∧
  (∀ (s : State) (r : Fin 64) (v : Word) (b : Byte), s.busReady → s.get F.SMB_CONFIG_pec ≠ 0 →
    b ≠ crc8 (s.addrByte false :: BitVec.ofNat 8 r.val :: wordBytes v) → Completes (.regWrite32 r v [b]) s fun t => SmbFailed s t 1 r.val 4 ∧
      t.flag F.SMB_EVENT_pec_fail = true) ∧
  (∀ (s : State) (page b : Byte), s.busReady → s.get F.SMB_CONFIG_pec ≠ 0 → b = crc8 [s.addrByte false, 0xE0, page, 0] →
    Completes (.pageSelect page 0 [b]) s fun t => SmbCommitted s t ∧ t.get F.SMB_STATUS_page = page.toNat ∧
      (∀ n : Port, KeepsReg s t (portPage n 0 * 256 + 0x20))) ∧
  (∀ (s : State) (page b1 : Byte) (tail : List Byte), s.busReady → b1 ≠ 0 → Completes (.pageSelect page b1 tail) s fun t => SmbFailed s t 12 0xE0 1 ∧
    t.flag F.SMB_EVENT_protocol = true) ∧
  (∀ (s : State) (page x : Byte) (tail : List Byte), s.busReady → s.get F.SMB_CONFIG_pec = 0 → Completes (.pageSelect page 0 (x :: tail)) s fun t =>
    t.get F.SMB_STATUS_page = page.toNat ∧ t.get F.SMB_SEQ_commits = (s.get F.SMB_SEQ_commits + 1) % 256 ∧
    t.get F.SMB_LAST_ERR_reason = 7 ∧ t.get F.SMB_COUNTS_failed = min 65535 (s.get F.SMB_COUNTS_failed + 1)) ∧
  (∀ (s : State) (r : Fin 64) (c : Byte) (l : List Byte), s.busReady → (252 < c.toNat ∨ c.toNat % 4 ≠ 0 ∨ 4 * (64 - r.val) < c.toNat) →
    Completes (.blockWrite r c l) s fun t => SmbFailed s t 4 (0x40 + r.val) c.toNat ∧ t.flag F.SMB_EVENT_bad_count = true) ∧
  (∀ (s : State) (r : Fin 64) (c : Byte) (l : List Byte), s.busReady → c.toNat ≤ 252 → c.toNat % 4 = 0 → c.toNat ≤ 4 * (64 - r.val) →
    l.length < c.toNat → Completes (.blockWrite r c l) s fun t => SmbFailed s t 6 (0x40 + r.val) l.length ∧ t.flag F.SMB_EVENT_abandoned = true) ∧
  (∀ (s : State) (v : Word), s.busReady → s.get F.SMB_CONFIG_pec = 0 → hasKey (s.get F.SMB_STATUS_page) = true →
    Completes (.blockWrite 6 4 (wordBytes v)) s fun t => SmbCommitted s t ∧ t.get (keyField (s.get F.SMB_STATUS_page)) = v.toNat) ∧
  (∀ (s : State) (m : Byte), s.busReady → s.get F.SMB_CONFIG_pec = 0 → m ≠ 0 → Completes (.dialectWrite m []) s fun t => SmbCommitted s t ∧
    t.get F.DEV_DIALECT_requested = m.toNat ∧ t.get F.DEV_DIALECT_major = 1 ∧ (1 < m.toNat → t.flag F.DEV_EVENT_dialect_down = true)) ∧
  (∀ (s : State), s.busReady → s.get F.SMB_CONFIG_pec = 0 → Completes (.dialectWrite 0 []) s fun t => SmbCommitted s t ∧ KeepsReg s t 0x0024) ∧
  (∀ (s : State) (c : Byte) (l : List Byte), s.busReady → windowUnit (s.get F.SMB_STATUS_page) = none → Completes (.tablePortWrite c l) s fun t =>
    SmbFailed s t 3 0xE3 0 ∧ t.flag F.SMB_EVENT_bad_cmd = true) ∧
  (∀ (s : State) (c : Byte) (l : List Byte) (u : Nat), s.busReady → windowUnit (s.get F.SMB_STATUS_page) = some u →
    c.toNat % u ≠ 0 → Completes (.tablePortWrite c l) s fun t => SmbFailed s t 4 0xE3 c.toNat) ∧
  (∀ (s : State) (w : Word), s.busReady → s.get F.SMB_STATUS_page = 0x10 → s.get F.SMB_CONFIG_pec = 0 → s.get F.LEX_STATUS_state ≠ 1 →
    Completes (.tablePortWrite 8 (wordBytes w ++ wordBytes w)) s fun t => SmbCommitted s t ∧ t.flag F.LEX_EVENT_window_refused = true ∧
      t.hA.lex = s.hA.lex ∧ t.hB.lex = s.hB.lex) ∧
  (∀ (s : State) (a b : Word), s.busReady → s.get F.SMB_STATUS_page = 0x10 → s.get F.SMB_CONFIG_pec = 0 → s.get F.LEX_STATUS_state = 1 →
    Completes (.tablePortWrite 8 (wordBytes a ++ wordBytes b)) s fun t => SmbCommitted s t ∧
      sparseRead (fun _ => 0) (t.hearthOf t.devHearth).lex (s.get F.LEX_WIN_ADDR_index) = BitVec.ofNat 64 (a.toNat + b.toNat * 2 ^ 32) ∧
      t.get F.LEX_WIN_ADDR_index = (s.get F.LEX_WIN_ADDR_index + 1) % 2 ^ F.LEX_WIN_ADDR_index.width) ∧
  (∀ (s : State), s.busReady → Completes .quickCommand s fun t => t = s)

/-- The reads of Table 19.1 (R405, R408, R409, R411): what the target sends, and what a read leaves behind. -/
def Obligations.BusReads : Prop :=
  (∀ (s : State) (r : Fin 64), s.busReady → s.get F.SMB_STATUS_page = 6 → s.get F.SMB_CONFIG_pec ≠ 0 → 2 ≤ r.val →
    Completes (.regRead32 r 5) s fun t =>
    t.pins.out = wordBytes (s.hostRead (0x600 + 4 * r.val)) ++
      [crc8 ([s.addrByte false, BitVec.ofNat 8 r.val, s.addrByte true] ++ wordBytes (s.hostRead (0x600 + 4 * r.val)))] ∧
    t.regs = s.regs ∧ t.tbase = s.tbase) ∧
  (∀ (s : State), s.busReady → s.get F.SMB_STATUS_page = 2 → s.get F.SMB_CONFIG_pec = 0 → Completes (.regRead32 9 5) s fun t =>
    t.pins.out = wordBytes (BitVec.ofNat 32 s.tbase.toNat) ++ [0xFF] ∧ t.get F.TB_TBASE_HI_tbase = s.tbase.toNat / 2 ^ 32) ∧
  (∀ (s : State), s.busReady → s.get F.SMB_STATUS_page = 0 → s.get F.SMB_CONFIG_pec = 0 → Completes (.regRead32 10 4) s fun t =>
    t.pins.out = wordBytes (BitVec.ofNat 32 (s.get F.DEV_RESET_CAUSE_cause)) ∧ t.get F.DEV_RESET_CAUSE_cause = 0) ∧
  (∀ (s : State) (k : Fin 4), s.busReady → s.get F.SMB_STATUS_page = 0 → Completes (.regRead32 10 k.val) s fun t => Keeps s t F.DEV_RESET_CAUSE_cause) ∧
  (∀ (s : State) (r : Fin 64), s.busReady → s.get F.SMB_STATUS_page = 6 → s.get F.SMB_CONFIG_pec = 0 → s.get F.SMB_CONFIG_rd_len = 8 → 2 ≤ r.val → r.val < 63 →
    Completes (.blockRead r 9) s fun t =>
      t.pins.out = 8 :: (wordBytes (s.hostRead (0x600 + 4 * r.val)) ++ wordBytes (s.hostRead (0x600 + 4 * r.val + 4))) ∧ t.regs = s.regs) ∧
  (∀ (s : State), s.busReady → Completes (.pageSelectRead 2) s fun t => t.pins.out = [BitVec.ofNat 8 (s.get F.SMB_STATUS_page), 0] ∧ t.regs = s.regs) ∧
  (∀ (s : State), s.busReady → Completes (.dialectRead 2) s fun t => t.regs = s.regs ∧
    t.pins.out = [BitVec.ofNat 8 (s.get F.DEV_DIALECT_major), BitVec.ofNat 8 (s.get F.DEV_DIALECT_minor)]) ∧
  (∀ (s : State), s.busReady → s.flag F.SMB_CONFIG_alert_mode = false → Completes (.alertSourceRead 17) s fun t =>
    t.pins.out = 16 :: ((List.range 4).flatMap fun k => wordBytes (BitVec.ofNat 32 (s.alertSummary k))) ∧ t.get F.SMB_STATUS_alert = 0) ∧
  (∀ (s : State) (k : Fin 17), s.busReady → Completes (.alertSourceRead k.val) s fun t => t.regs = s.regs) ∧
  (∀ (s : State) (k : Nat), s.busReady → windowUnit (s.get F.SMB_STATUS_page) = none → Completes (.tablePortRead k) s fun t => SmbFailed s t 3 0xE3 0) ∧
  (∀ (s : State), s.busReady → s.get F.SMB_STATUS_page = 7 → s.get F.SMB_CONFIG_rd_len = 4 → s.get F.SMB_CONFIG_pec = 0 → Completes (.tablePortRead 5) s fun t =>
    t.pins.out.head? = some 4 ∧ t.pins.out.length = 5 ∧ t.hA.cert0 = s.hA.cert0 ∧
    t.get F.IDN_WIN_ADDR_word = (s.get F.IDN_WIN_ADDR_word + 1) % 512) ∧
  (∀ (s : State) (k : Nat), s.busReady → Completes (.readWithoutCommand k) s fun t => t.pins.out = List.replicate k 0xFF ∧ SmbFailed s t 10 0 0) ∧
  (∀ (s : State), Completes .resetCauseRead s fun t => t.pins.out = wordBytes (s.hostRead 0x0028) ∧
    (s.ember.dev = .lit → t.get F.DEV_RESET_CAUSE_cause = 0)) ∧
  (∀ (s : State) (n : Port), s.ember.dev = .lit → Completes (.lowWaterRead n) s fun t =>
    t.pins.out = wordBytes (s.hostRead (portPage n 1 * 256 + 0x28)) ∧ t.get (F.MSG_POOL_STATUS_low_water n) = s.poolFree n ∧ t.msg = s.msg)

/-- Alerts, broken transactions and the accesses that wake the device (R413-R419, R431). -/
def Obligations.BusAlertsAndErrors : Prop :=
  (∀ (s : State) (k : Nat), s.busReady → s.alertPin = true → s.flag F.SMB_CONFIG_alert_mode = false → 1 ≤ k →
    Completes (.alertResponse none k) s fun t => t.pins.out.head? = some (s.addrByte false) ∧ t.get F.SMB_STATUS_alert = 0) ∧
  (∀ (s : State) (r : Byte) (k : Nat), s.busReady → s.alertPin = true → r.toNat < (s.addrByte false).toNat →
    Completes (.alertResponse (some r) k) s fun t => t.flag F.SMB_EVENT_ara_lost = true ∧ Keeps s t F.SMB_STATUS_alert ∧
      t.pins.out = s.pins.out ∧ KeepsReg s t 0x0624) ∧
  (∀ (s : State) (r : Option Byte) (k : Nat), s.alertPin = false → Completes (.alertResponse r k) s fun t => t = s) ∧
  (∀ (s : State) (b : Fin 32), s.flag F.SMB_CONFIG_alert_mode = false → hasEvent 6 b.val = true → s.get (eventField 6 b.val) = 1 →
    s.get ⟨.single, 0x060C, b.val, 1⟩ = 1 → Completes (.alertCause 6 b) s fun t => t.get F.SMB_STATUS_alert = 1 ∧ OnlyRegs s t) ∧
  (∀ (s : State), s.pageAnswers 6 = true → s.anyAlert = true → s.flag F.SMB_CONFIG_alert_mode = false → Completes .smbRealert s fun t => t.get F.SMB_STATUS_alert = 1) ∧
  (∀ (s : State), s.anyAlert = false → Completes .smbRealert s fun t => t = s) ∧
  (∀ (s : State) (v : Word), 4 ≤ bitsGet v 16 8 → bitsGet v 16 8 ≤ 252 → bitsGet v 16 8 % 4 = 0 → bitsGet v 0 2 ≤ 2 → s.pageAnswers 6 = true → Completes (.smbConfigWrite v) s fun t =>
    t.get F.SMB_CONFIG_rd_len = bitsGet v 16 8 ∧ t.get F.SMB_CONFIG_pec = bitsGet v 0 2 ∧
    t.get F.SMB_CONFIG_alert_mode = bitsGet v 4 1 ∧ OnlyRegs s t) ∧
  (∀ (s : State) (v : Word), bitsGet v 16 8 % 4 ≠ 0 → s.pageAnswers 6 = true → Completes (.smbConfigWrite v) s fun t => t.flag F.SMB_EVENT_cfg_refused = true ∧
    KeepsReg s t 0x0620) ∧
  (∀ (s : State) (how : TxnEnd) (c : Byte) (k : Fin 256), s.busReady → Completes (.transactionAbandoned how (some c) k.val) s fun t =>
    SmbFailed s t (match how with | .startMid => 5 | .early => 6 | .nineClock => 11 | .badCode => 3) c.toNat k.val) ∧
  (∀ (s : State) (c : Option Byte) (k : Fin 256), s.busReady → Completes (.sclTimeout c k.val) s fun t => SmbFailed s t 8 (c.getD 0).toNat k.val ∧
    t.flag F.SMB_EVENT_scl_timeout = true) ∧
  (∀ (s : State) (self : Bool) (c : Option Byte) (k : Fin 256), s.busReady → Completes (.sdaStuck self c k.val) s fun t =>
    SmbFailed s t 9 (c.getD 0).toNat k.val ∧ t.flag F.SMB_EVENT_sda_stuck = true ∧ t.flag F.SMB_STATUS_stuck_self = self) ∧
  (∀ (s : State) (a : BitVec 7), s.ember.dev = .smoulder → s.flag F.EMB_WAKE_EN_smbus = true → s.flag F.EMB_STATUS_vsys_ok = true →
    s.flag F.EMB_STATUS_vddio_ok = true → a.toNat = s.get F.SMB_STATUS_addr → s.ember.latched = none → Completes (.addressMatchWake a) s fun t =>
      t.ember.dev = .startup ∧ t.ember.step = 2 ∧ t.pins.wakeAddr = some a.toNat ∧ t.get F.DEV_RESET_CAUSE_cause = 7 ∧
      t.get F.EMB_WAKE_SRC_source = 4 ∧ t.get F.EMB_WAKE_SRC_from = 2 ∧ t.flag F.EMB_EVENT_woken = true) ∧
  (∀ (s : State) (a : BitVec 7), (s.ember.dev ≠ .smoulder ∨ s.flag F.EMB_WAKE_EN_smbus = false ∨ a.toNat ≠ s.get F.SMB_STATUS_addr) →
    Completes (.addressMatchWake a) s fun t => t = s) ∧
  (∀ (s : State) (c : Byte), s.ember.dev = .banked → s.ember.entry = none → c.toNat < 0x80 → hearthHeldPage (s.get F.SMB_STATUS_page) = true →
    Completes (.bankedHearthAccess c) s fun t => t.ember.dev = .lit ∧ t.ember.resensePending = true ∧ t.get F.EMB_WAKE_SRC_source = 9 ∧
      t.get F.EMB_WAKE_SRC_from = 1 ∧ t.running .edram 0 = false) ∧
  (∀ (s : State) (c : Byte), (s.ember.dev ≠ .banked ∨ hearthHeldPage (s.get F.SMB_STATUS_page) = false) →
    Completes (.bankedHearthAccess c) s fun t => t = s)

/-- Committed writes of single registers (R4, R5, R10, R412, R424, R425, R431): read-only offsets, KEY, EVENT and EVENT_EN, and pages that do not answer. -/
def Obligations.RegisterAccess : Prop :=
  (∀ (s : State) (page : Byte) (v : Word), s.ember.dev = .lit → hasKey page.toNat = true → Completes (.registerWrite (page.toNat * 256 + 0x18) v) s fun t =>
    t.get (keyField page.toNat) = v.toNat ∧ OnlyRegs s t) ∧
  (∀ (s : State) (page : Byte) (k : Fin 3) (v : Word), Completes (.registerWrite (page.toNat * 256 + (if k.val = 2 then 0x1C else 4 * k.val)) v) s fun t => t = s) ∧
  (∀ (s : State) (a : Fin 65536) (v : Word), (s.ember.dev = .smoulder ∨ s.ember.dev = .cold) → Completes (.registerWrite a.val v) s fun t => t = s) ∧
  (∀ (s : State) (page : Byte) (v : Word) (b : Fin 32), page.toNat < 0x60 → hasEvent page.toNat b.val = true → v.getLsbD b.val = true →
    s.pageAnswers page.toNat = true → s.justSet page.toNat b.val = false →
    ((page.toNat = 0x0B ∨ page.toNat = 0x0C) → s.cmpJust (32 * (page.toNat - 0x0B) + b.val) = false) →
    Completes (.eventW1cWrite page v) s fun t => t.get (eventField page.toNat b.val) = 0 ∧ OnlyRegs s t) ∧
  (∀ (s : State) (page : Byte) (v : Word), s.pageAnswers page.toNat = false → Completes (.eventW1cWrite page v) s fun t => t = s) ∧
  (∀ (s : State) (page : Byte) (v : Word), Completes (.eventW1cWrite page v) s fun t => OnlyRegs s t) ∧
  (∀ (s : State) (page : Byte) (v : Word) (b : Fin 32), page.toNat ≠ 1 → hasEvent page.toNat b.val = true → v.getLsbD b.val = false →
    Completes (.eventW1cWrite page v) s fun t => Keeps s t (eventField page.toNat b.val)) ∧
  (∀ (s : State) (v : Word), s.pageAnswers 6 = true → Completes (.eventEnWrite 6 v) s fun t => t.get ⟨.single, 0x060C, 0, 32⟩ = v.toNat % 1024 ∧ OnlyRegs s t) ∧
  (∀ (s : State) (v : Word) (b : Fin 10), s.flag F.SMB_CONFIG_alert_mode = false → v.getLsbD b.val = true → s.get ⟨.single, 0x060C, b.val, 1⟩ = 0 →
    s.get (eventField 6 b.val) = 1 → s.pageAnswers 6 = true → Completes (.eventEnWrite 6 v) s fun t => t.get F.SMB_STATUS_alert = 1) ∧
  (∀ (s : State) (page : Byte) (v : Word), s.pageAnswers page.toNat = false → Completes (.eventEnWrite page v) s fun t => t = s) ∧
  (∀ (s : State) (page : Byte) (v : Word) (r : RegRow), regRow (page.toNat * 256 + 8) = some r → page.toNat < 0x20 → s.pageAnswers page.toNat = true →
    Completes (.eventEnWrite page v) s fun t =>
      t.get ⟨pageHome page.toNat, page.toNat * 256 + 0x0C, 0, 32⟩ = Nat.land v.toNat r.w1c ∧ t.flue = s.flue ∧ t.timers = s.timers) ∧
  (∀ (s : State) (page : Byte) (v : Word), 0x60 ≤ page.toNat → Completes (.eventEnWrite page v) s fun t => t = s)

/-! ### Rules stated whole, and rules of the whole block -/

/-- R341, whole: a FORCE bit sets its latch with SIDE 1 and reports CMP_WINDOW (source 0x68) for its comparator where flue_en = 1, as a crossing does; the fast trip and STATUS are not touched. A latch that is set already reports nothing more, as with a crossing. -/
def Obligations.ForceBits : Prop :=
  ∀ (s : State) (k : Fin 64) (v : Word), v.getLsbD (k.val % 32) = true → s.pageAnswers (0x0B + (Fin.ofNat 2 (k.val / 32)).val) = true → Completes (.cmpForce (Fin.ofNat 2 (k.val / 32)) v) s fun t =>
    t.flag (cmpBit F.CMP_EVENT_latched k) = true ∧ t.flag (cmpBit F.CMP_SIDE_side k) = true ∧
    (s.flag (cmpCfg F.CMP_CFG_flue_en k) = true → s.flag (cmpBit F.CMP_EVENT_latched k) = false → s.flue.broken = [] →
      (t.flue.rails.any fun r => r.source = 0x68 && r.unit = k.val && r.detail = 1) = true) ∧
    (∀ j : Fin 64, Keeps s t (cmpBit F.CMP_STATUS_live j)) ∧ t.fnd = s.fnd ∧ (∀ n : Port, Keeps s t (F.FND_STATUS_state n))

/-- R379, whole: the first entry of kind 0 written while first_valid = 0 is copied and sets first_valid; the copy stays as written through later entries and merges; first_clear clears first_valid and the record. -/
def Obligations.FirstErrorRecord : Prop :=
  (∀ (s : State) (r : Report) (level merges : Nat), merges < 256 → s.flue.first = none → (s.ashWrite r level merges 0).flue.first = (s.ashWrite r level merges 0).flue.ash.head? ∧
    (s.ashWrite r level merges 0).flue.first.isSome = true ∧ bitsGet ((s.ashWrite r level merges 0).regView 0x0404) 0 1 = 1 ∧
    (∀ k : Fin 4, some ((s.ashWrite r level merges 0).regView (0x0434 + 4 * k.val)).toNat = (s.ashWrite r level merges 0).flue.ash.head?.map fun e => e.reg k.val)) ∧
  (∀ (s : State) (r : Report) (level merges kind : Nat), (s.flue.first.isSome = true ∨ kind ≠ 0) → (s.ashWrite r level merges kind).flue.first = s.flue.first) ∧
  (∀ (s : State) (r : FlueRecord) (p : Report), (s.recMerge r p).flue.first = s.flue.first) ∧
  (∀ (s : State), (∀ k : Fin 4, s.word (0x0434 + 4 * k.val) 0 = 0) → s.get F.ASH_STATUS_first_valid = 0 → s.pageAnswers 4 = true →
    Completes .ashFirstClear s fun t => t.flue.first = none ∧
    bitsGet (t.regView 0x0404) 0 1 = 0 ∧ (∀ k : Fin 4, t.regView (0x0434 + 4 * k.val) = 0) ∧ t.flue.ash = s.flue.ash)

/-- R27, whole: pages 0x15 to 0x1F are reserved; a read returns 0 in every byte, and a write is acknowledged on SMBus and not acted on. -/
def Obligations.ReservedPages : Prop :=
  (∀ (s : State) (page : Byte) (off : Byte), 0x15 ≤ page.toNat → page.toNat ≤ 0x1F → s.regView (page.toNat * 256 + off.toNat) = 0) ∧
  (∀ (s : State) (page : Byte) (off : Byte) (v : Word), 0x15 ≤ page.toNat → page.toNat ≤ 0x1F → Completes (.registerWrite (page.toNat * 256 + off.toNat) v) s fun t => t = s) ∧
  (∀ (s : State) (r : Fin 64) (v : Word), s.busReady → s.get F.SMB_CONFIG_pec = 0 → 0x15 ≤ s.get F.SMB_STATUS_page → s.get F.SMB_STATUS_page ≤ 0x1F →
    Completes (.regWrite32 r v []) s fun t => SmbCommitted s t ∧ (∀ r : Fin 64, ∀ p : Byte, p.toNat ≠ 6 → KeepsReg s t (p.toNat * 256 + 4 * r.val))) ∧
  (∀ (s : State) (r : Fin 64), s.busReady → s.get F.SMB_CONFIG_pec = 0 → 0x15 ≤ s.get F.SMB_STATUS_page → s.get F.SMB_STATUS_page ≤ 0x1F →
    Completes (.regRead32 r 4) s fun t => t.pins.out = [0, 0, 0, 0] ∧ t.regs = s.regs)

/-- R49, whole: any write to EMB.PSTATE_CMD clears EMB.KEY to 0, whether the request is accepted or refused (so that the key must be written before each Smoulder or Cold request). -/
def Obligations.PowerKeySpent : Prop :=
  (∀ (s : State) (v : Word), s.pageAnswers 1 = true → Completes (.registerWrite 0x0120 v) s fun t => t.get F.EMB_KEY_key = 0) ∧
  (∀ (s : State) (v : Word), s.pageAnswers 1 = true → s.ember.dev = .lit → (bitsGet v 0 4 = 3 ∨ bitsGet v 0 4 = 4) → s.get F.EMB_KEY_key ≠ 0xC5 →
    Completes (.registerWrite 0x0120 v) s fun t => t.ember.entry = s.ember.entry ∧ t.ember.dev = .lit)

/-- The values that the register tables give for reset, and TBASE 0 with an empty queue (R62, R72, Tables 3.7 and 20.4 onwards). -/
def Obligations.ResetValues : Prop :=
  (∀ p ∈ ([(F.THN_CONFIG_poll_ms, 10), (F.THN_CONFIG_slew_max, 50), (F.THN_CONFIG_auto_enter, 1), (F.THN_TRK_SNK_vmax, 480), (F.THN_TRK_SNK_vmin, 150),
      (F.LEN_STATUS_feasible, 1), (F.LEN_STATUS_lanes, 4), (F.LEN_RAIL_code, 18), (F.OPC_WIN_AXES_m_shift 0, 9), (F.OPC_WIN_AXES_i_shift 0,
      11), (F.OPC_MODEL_I_g 0, 128), (F.OPC_MODEL_I_cnt 0, 8), (F.OPC_MODEL_I_thr 0, 8192), (F.OPC_MODEL_V_g 0, 128), (F.OPC_MODEL_V_cnt 0,
      8), (F.OPC_MODEL_V_thr 0, 8192), (F.TRC_CFG_k, 4), (F.TRC_CAPTURE_post, 8192), (F.TRC_CAPTURE_pre, 8191), (F.TRC_TRIG_SRC_host, 1),
      (F.TRC_TRIG_CMP_edge, 1), (F.DRT_STATUS_feed, 4), (F.DRT_CONFIG_hold_max, 24), (F.DRT_CONFIG_step_w, 5), (F.DRT_CONFIG_admit_max, 2),
      (F.DRT_CONFIG_nofeed, 10), (F.DRT_THERMAL_tj_hot, 155), (F.DRT_THERMAL_tj_rail, 145), (F.DRT_THERMAL_t_stop, 165),
      (F.DRT_THERMAL_t_start, 140), (F.DRT_CAP_CFG_rail_max, 18), (F.DRT_CAP_CFG_lower_pct, 25), (F.DRT_CAP_CFG_raise_pct, 10),
      (F.DRT_PORT_CFG_pmax_w 0, 240), (F.DRT_PORT_CFG_imp_w 0, 240), (F.DRT_PORT_CFG_weight 0, 1), (F.DRT_BUS_CFG_nofeed, 120),
      (F.DRT_BUS_CFG_lift, 5), (F.DRT_TJ_rail_tgt, 18), (F.RUN_CONFIG_backoff, 12), (F.RUN_CONFIG_tol_pct, 10), (F.RUN_CONFIG_act, 2),
      (F.RUN_ENV_CFG_target 0, 8), (F.FED_STATUS_selected, 4), (F.FED_CONFIG_dt_us, 20), (F.FED_CONFIG_match_ms, 20), (F.FED_CONFIG_ins_a,
      20), (F.FED_CONFIG_ins_ms, 20), (F.FED_CONFIG_revert, 1), (F.FED_FEED_CFG_qual 0, 10), (F.FED_FEED_CFG_fail_us 0, 10),
      (F.FED_FEED_SNS_ioc 0, 100), (F.FED_FEED_SNS_irev 0, 2), (F.FED_LAST_SWITCH_from, 4), (F.FED_LAST_SWITCH_to, 4),
      (F.HTH_VOTE_CFG_trial, 16), (F.HTH_RAIL_code_b, 18), (F.HTH_RAIL_code_a, 18), (F.FLU_EVENT_EN_en, 30), (F.FLU_CONFIG_l3_auto, 1),
      (F.FLU_CONFIG_l3_hold, 10), (F.FLU_CONFIG_l3_limit, 3), (F.FLU_CONFIG_quiet_s, 5), (F.SMB_CONFIG_rd_len, 252), (F.DEV_STATUS_pstate,
      1), (F.DEV_STATUS_boot_step, 1), (F.DEV_DEVICE_ID_part, 18440), (F.DEV_DEVICE_ID_step_major, 1), (F.DEV_DIALECT_requested, 1),
      (F.DEV_DIALECT_highest, 1), (F.DEV_DIALECT_major, 1), (F.DEV_RESET_CAUSE_cause, 1), (F.EMB_STATUS_pstate, 1), (F.EMB_WAKE_EN_smbus,
      1), (F.EMB_WAKE_EN_wake_n, 1), (F.EMB_WAKE_EN_vbus, 255), (F.EMB_WAKE_EN_cc, 255), (F.TB_STATUS_ref_src, 2), (F.TB_COARSE_CAL_ratio,
      49152000), (F.TB_SYNC_CFG_frames, 1)] : List (Field × Nat)), State.reset.get p.1 = p.2) ∧
  (∀ n : Port, ∀ p ∈ ([(F.CC_STATUS_db_clamp n, 1), (F.CC_STATUS_pres2 n, 7), (F.CC_STATUS_pres1 n, 7), (F.CC_CONFIG_drp_src_pct n, 50), (F.CC_CONFIG_drp_period_ms
      n, 75), (F.CC_DEBOUNCE_open_fast n, 12), (F.CC_DEBOUNCE_detach_ms n, 15), (F.CC_DEBOUNCE_attach_ms n, 150), (F.CC_VCONN_CFG_oc_100us
      n, 10), (F.CC_VCONN_CFG_ilim n, 12), (F.CC_SNK_DISC_vth_eff n, 36), (F.CC_SNK_DISC_vth n, 36), (F.CC_CONTROL_cc_ov_auto n, 1),
      (F.MSG_CONFIG_ifg_us n, 26), (F.MSG_CONFIG_rev_max n, 2), (F.MSG_CONFIG_sop2_en n, 1), (F.MSG_CONFIG_sop1_en n, 1),
      (F.MSG_POOL_CFG_max_shared n, 8), (F.MSG_POOL_STATUS_pool_free n, 32), (F.MSG_POOL_STATUS_low_water n, 32), (F.POL_CAPS_CFG_min_gap_ms
      n, 500), (F.STG_STATUS_dv_eff n, 1), (F.STG_CARRIER_auto n, 1), (F.STG_TIMING_v_upd n, 2047), (F.STG_TIMING_i_upd n, 127),
      (F.STG_IMON_CFG_ifs_100ma n, 200), (F.STG_IMON_CFG_zero n, 2048), (F.STG_PWM_CFG_min_pulse n, 64), (F.STG_SP_CFG_slew n, 10),
      (F.STG_VLOOP_CFG_dv_max n, 4), (F.STG_VLOOP_CFG_dv_base n, 1), (F.ILP_CFG_ff_en n, 1), (F.ILP_ILIMITS_ineg n, 100),
      (F.FND_STATUS_retries_left n, 3), (F.FND_LIMIT_CFG_ft_ratio n, 1), (F.FND_TIMER_CFG_t_lim n, 100), (F.FND_TIMER_CFG_t_inrush n, 100),
      (F.FND_WIN_CFG_ins_ms n, 1), (F.FND_WIN_CFG_snk_ov n, 60), (F.FND_WIN_CFG_snk_uv n, 40), (F.FND_WIN_CFG_src_max n, 55),
      (F.FND_RETRY_CFG_count n, 3), (F.FND_RETRY_CFG_toff_min n, 50), (F.FND_SOA_CFG_emax n, 200), (F.FND_SOA_CFG_pmax n, 60),
      (F.FND_OVP_STATUS_v_ovp n, 60), (F.THM_CFG_t_trip n, 175), (F.THM_CFG_t_hyst n, 15), (F.THM_CFG_t_amb n, 125), (F.THM_NTC_CFG_beta n,
      3435), (F.THM_RDS_rds_b n, 300), (F.THM_RDS_rds_s n, 300), (F.THM_RDSK0_k50 n, 18842), (F.THM_RDSK0_k25 n, 16384), (F.THM_RDSK1_k100
      n, 24576), (F.THM_RDSK1_k75 n, 21627), (F.THM_RDSK2_k150 n, 31130), (F.THM_RDSK2_k125 n, 27853)] : List (Field × Nat)), State.reset.get p.1 = p.2) ∧
  (State.reset.tbase = 0 ∧ State.reset.pending = [] ∧ State.reset.ember.dev = .startup ∧ State.reset.ember.step = 1)

/-- The model's choice (DESIGN CHOICE, log entry 2): a step on an empty queue is one tick: nothing without supply and in Cold, one coarse tick in Smoulder, one tick of TBASE otherwise (R47, R72, R73). -/
def Obligations.IdleTick : Prop :=
  (∀ s : State, s.pending = [] → (s.ember.dev = .unpowered ∨ s.ember.dev = .cold) → step s = .next s) ∧
  (∀ s : State, s.pending = [] → s.ember.dev = .smoulder → ∃ t, step s = .next t ∧ t.tbase = s.tbase ∧ t.get F.EMB_COARSE_count = (s.get F.EMB_COARSE_count + 1) % 2 ^ 32) ∧
  (∀ s : State, s.pending = [] → (s.ember.dev = .lit ∨ s.ember.dev = .banked ∨ s.ember.dev = .startup ∨ s.ember.dev = .fuseHold ∨ s.ember.dev = .held) →
    ∃ t, step s = .next t ∧ t.tbase = s.tbase + 1 ∧ t.pending = [])

/-- Every command completes in every state, and its next state leaves the queue of waiting commands as it was: a command's effect is on everything but the queue. -/
def Obligations.QueueKept : Prop :=
  ∀ (c : Instr) (s : State), ∃ t, exec c s = .next t ∧ t.pending = s.pending

/-- Every step keeps the register store in its canonical form: addresses strictly rising and no entry equal to its reset value, so that equal contents are equal data (log entry 5). -/
def Obligations.StoreStaysCanonical : Prop :=
  ∀ s t : State, s.Wf → step s = .next t → t.Wf

/-- The register store after reset is in its canonical form. -/
def Obligations.ResetStoreCanonical : Prop :=
  State.reset.Wf

/-- A bit of the antifuse array once blown stays blown: no step clears a bit of any cell (R384, R397). A step on an empty queue counts too. -/
def Obligations.OtpOneWay : Prop :=
  ∀ s t : State, step s = .next t → ∀ c : Nat, ∀ b : Fin 39,
    (sparseRead (fun _ => 0) s.otp.cells c).getLsbD b.val = true → (sparseRead (fun _ => 0) t.otp.cells c).getLsbD b.val = true

/-- TBASE is a count of ticks (R72): no command moves it but the resets, wakes and losses of supply that restart or rebuild it, and the bus writes that may carry such a reset, the start-up steps that release one among them (setsTime) (Table 3.7, R73). -/
def Obligations.TimeMovesByTicks : Prop :=
  ∀ (c : Instr) (s t : State), setsTime c = false → exec c s = .next t → t.tbase = s.tbase

/-! ### Frames: what each command leaves alone -/

/-- For each command listed (of chapters 3 to 5), where it answers a next state: no register outside the kinds of page listed, in any copy, and no part of the state beside the parts listed (or none of the parts listed, for KeepsParts) is changed. Of start-up steps 4 to 6 this is said where no transaction is held. -/
def Obligations.SupplyAndCcFrames : Prop :=
  (∀ (src : Fin 3), ChangesOnly (.emberSourceLost src) [0x01] [.flue]) ∧
  (∀ (w : Wake), ChangesOnly (.wakeDuringEntry w) [] [.ember]) ∧
  (∀ (w : Wake), ChangesOnly (.wakeFromBanked w) [0x01] [.ember, .flue, .timers]) ∧
  (∀ (w : Wake), ChangesOnly (.wakeLatchedNoVsys w) [] [.ember]) ∧
  (∀ (changed : BitVec 8), ChangesOnly (.smoulderCcPoll changed) [] [.ember, .timers]) ∧
  (∀ (code : BitVec 12), ChangesOnly (.bankedTjSample code) [0x14] [.ember, .timers]) ∧
  (∀ (flips : List OtpFlip), ChangesOnly (.bankedExitResense flips) [0x03, 0x05, 0x06, 0x26] [.auth, .ember, .flue, .fnd, .hA, .hB, .hearths,
    .inputs, .otp, .timers]) ∧
  (∀ (supplies : BitVec 7) (tj : BitVec 8) (flips : List OtpFlip), ChangesOnly (.startupRegulatorsInRange supplies tj flips) [0x01, 0x05] [.ember,
    .flue, .otp]) ∧
  (∀ (pins : BitVec 3), ChangesOnly (.startupSensingComplete pins) [0x02, 0x05, 0x06, 0x08, 0x0A, 0x0D, 0x20, 0x24, 0x26] [.ember, .fallbackI,
    .fallbackV, .flue, .otp, .pins]) ∧
  (∀ (passA passB : Bool), ChangesOnlyUnheld (.startupDigestsGood passA passB) [0x06, 0x07, 0x0D, 0x0E] [.apart, .ember, .flue, .hearths, .otp]) ∧
  (∀ (khz : Nat), ChangesOnly (.refChangeover khz) [0x02] [.ember, .flue, .timers]) ∧
  (∀ (value : Word), ChangesOnly (.tbConfigWrite value) [0x02] [.ember, .flue, .timers]) ∧
  (∀ (ticks : Nat), ChangesOnly (.coarseCalibration ticks) [0x02] []) ∧
  (∀ (n : Port) (value : Word), ChangesOnly (.carrierWrite n value) [0x24] [.flue, .tb]) ∧
  (∀ (n : Port), ChangesOnly (.switchingPeriodStart n) [0x24, 0x25] [.lp, .tb]) ∧
  (∀ (nsA nsB : Nat), ChangesOnly (.capacityMeasure nsA nsB) [0x0E, 0x64, 0x6A] []) ∧
  (∀ (n : Port) (cc2 : Bool) (mv : Nat), ChangesOnly (.ccLevelChange n cc2 mv) [0x20] [.cc, .flue, .timers]) ∧
  (∀ (n : Port), ChangesOnly (.attachDebounceExpiry n) [0x08, 0x20, 0x21, 0x22] [.cc, .draught, .flue, .inputs, .msg, .timers]) ∧
  (∀ (n : Port), ChangesOnly (.detachDebounceExpiry n) [0x04, 0x07, 0x08, 0x09, 0x13, 0x20, 0x21, 0x22, 0x23, 0x24, 0x26, 0x27] [.auth, .boundary,
    .cc, .draught, .flue, .fnd, .fresh, .inputs, .lanes, .lp, .msg, .pol, .thn, .timers, .vdm]) ∧
  (∀ (n : Port), ChangesOnly (.ccOpenFast n) [0x09, 0x13, 0x20] [.draught, .flue, .inputs, .thn, .timers]) ∧
  (∀ (n : Port), ChangesOnly (.vbusNoCc n) [0x20] [.flue]) ∧
  (∀ (n : Port) (mv : Nat), ChangesOnly (.otherPinChange n mv) [0x20] [.cc, .flue, .timers]) ∧
  (∀ (n : Port) (p : Pres), ChangesOnly (.presentationCmd n p) [0x20] [.boundary, .cc, .timers]) ∧
  (∀ (n : Port), ChangesOnly (.drpTogglePhase n) [0x20] [.cc, .timers]) ∧
  (∀ (n : Port) (debounce : Bool) (value : Word), ChangesOnly (.ccConfigWrite n debounce value) [0x20] [.flue]) ∧
  (∀ (n : Port), ChangesOnly (.vconnEnable n) [0x20, 0x22] [.boundary, .cc, .flue]) ∧
  (∀ (n : Port), ChangesOnly (.vconnDisable n) [0x20, 0x22] [.boundary]) ∧
  (∀ (hold : OcHold), ChangesOnly (.vconnOc hold) [0x20, 0x22] [.boundary, .flue]) ∧
  (∀ (n : Port) (value : Word), ChangesOnly (.vconnCfgWrite n value) [0x20] [.flue]) ∧
  (∀ (n : Port), ChangesOnly (.rpLevelDebounced n) [0x20, 0x21] [.flue, .msg, .timers]) ∧
  (∀ (n : Port) (cc2 : Bool) (mv : Nat), ChangesOnly (.ccOv n cc2 mv) [0x20, 0x22] [.cc, .flue, .timers]) ∧
  (∀ (n : Port) (cc2 : Bool) (mv : Nat), ChangesOnly (.ccOvAutoRelease n cc2 mv) [0x20, 0x22] [.boundary, .cc, .flue, .timers]) ∧
  (∀ (n : Port), ChangesOnly (.ovRelease n) [0x20, 0x22] [.boundary, .cc, .flue, .timers]) ∧
  (∀ (n : Port) (sbu2 : Bool), ChangesOnly (.sbuOv n sbu2) [0x20] [.flue]) ∧
  (∀ (n : Port) (sbu2 : Bool), ChangesOnly (.sbuOvRelease n sbu2) [0x20] []) ∧
  (∀ (k : Fin 64), ChangesOnly (.comparatorLatchClear k) [0x0B, 0x0C, 0x0F] [.array, .hA, .hB]) ∧
  (∀ (n : Port) (present : Bool), ChangesOnly (.vbusPresentChange n present) [0x20] [.cc, .flue, .timers]) ∧
  (ChangesOnly .vsysLoss [0x00, 0x01, 0x03, 0x04, 0x07, 0x08, 0x09, 0x0A, 0x0D, 0x0F, 0x13, 0x20, 0x21, 0x22, 0x23, 0x24, 0x26, 0x27] [.auth,
    .boundary, .cc, .draught, .ember, .feeds, .flue, .fnd, .fresh, .hA, .hB, .hearths, .inputs, .lanes, .lp, .msg, .pol, .thn, .timers, .vdm]) ∧
  (ChangesOnly .vddioUndervoltage [0x00, 0x01, 0x03, 0x04, 0x07, 0x08, 0x09, 0x0A, 0x0D, 0x0F, 0x13, 0x20, 0x21, 0x22, 0x23, 0x24, 0x26, 0x27]
    [.auth, .boundary, .cc, .draught, .ember, .feeds, .flue, .fnd, .fresh, .hA, .hB, .hearths, .inputs, .lanes, .lp, .msg, .pol, .thn, .timers,
    .vdm]) ∧
  (ChangesOnly .vdrvUndervoltage [0x00, 0x01, 0x03, 0x04, 0x07, 0x08, 0x09, 0x0A, 0x0D, 0x0F, 0x13, 0x20, 0x21, 0x22, 0x23, 0x24, 0x26, 0x27] [.auth,
    .boundary, .cc, .draught, .ember, .feeds, .flue, .fnd, .fresh, .hA, .hB, .hearths, .inputs, .lanes, .lp, .msg, .pol, .thn, .timers, .vdm]) ∧
  (ChangesOnly .reqLit [0x01] [.ember, .flue, .timers]) ∧
  (ChangesOnly .reqBanked [0x01] [.ember, .flue, .timers]) ∧
  (ChangesOnly .reqSmoulder [0x01] [.ember, .flue, .timers]) ∧
  (ChangesOnly .reqCold [0x01] [.ember, .flue, .timers]) ∧
  (ChangesOnly .edramRefresh [] [.timers]) ∧
  (ChangesOnlyUnheld .startupDeliveryComplete [0x03, 0x05, 0x06] [.auth, .ember, .hA, .hB, .hearths, .inputs, .timers]) ∧
  (KeepsPartsUnheld .startupHearthsReady [.tbase, .fresh, .timers, .hearths, .cc, .msg, .vdm, .thn, .lp, .lanes, .fnd, .inputs, .ntcFitted,
    .ntcFault, .draught, .feeds, .fallbackV, .fallbackI, .otp, .auth, .pins, .boundary, .array, .apart]) ∧
  (ChangesOnly .startupTablesLoaded [0x0A, 0x0B, 0x0C, 0x0F, 0x20, 0x22, 0x26, 0x27] [.boundary, .cc, .ember, .flue, .hA, .hB, .ntcFault, .ntcFitted,
    .pol, .timers]) ∧
  (ChangesOnly .startupPortsEnabled [0x00, 0x26] [.ember, .flue, .fnd, .timers]) ∧
  (ChangesOnly .resetNReleased [] [.ember]) ∧
  (ChangesOnly .kindlePathClose [0x24, 0x26] [.boundary, .ember, .flue, .fnd, .lp, .timers]) ∧
  (ChangesOnly .kindleHandover [0x00, 0x01, 0x0A, 0x0B, 0x0C, 0x0D, 0x0E, 0x0F, 0x20, 0x22, 0x26, 0x27] [.boundary, .cc, .ember, .flue, .fnd, .hA,
    .hB, .hearths, .ntcFault, .ntcFitted, .pol, .timers]) ∧
  (ChangesOnly .kindleStall [0x00, 0x03, 0x04, 0x07, 0x08, 0x09, 0x0A, 0x0D, 0x0F, 0x13, 0x20, 0x21, 0x22, 0x23, 0x24, 0x26, 0x27] [.auth, .boundary,
    .cc, .draught, .ember, .feeds, .flue, .fnd, .fresh, .hA, .hB, .hearths, .inputs, .lanes, .lp, .msg, .pol, .thn, .timers, .vdm]) ∧
  (ChangesOnly .refLost [0x02] [.ember, .flue, .timers]) ∧
  (ChangesOnly .tbaseLoRead [0x02] [.pins]) ∧
  (ChangesOnly .autoPhaseRecompute [0x24] [.tb]) ∧
  (ChangesOnly .syncInEdge [0x02] [.flue, .tb]) ∧
  (ChangesOnly .syncFrameMissing [0x02] [.flue, .tb]) ∧
  (ChangesOnly .vconnUv [0x01, 0x20, 0x22] [.boundary, .flue])

/-- For each command listed (of chapters 6 to 8), where it answers a next state: no register outside the kinds of page listed, in any copy, and no part of the state beside the parts listed (or none of the parts listed, for KeepsParts) is changed. -/
def Obligations.MessageAndPolicyFrames : Prop :=
  (∀ (n : Port) (frame : Frame), ChangesOnly (.frameReceived n frame) [0x00, 0x04, 0x07, 0x08, 0x09, 0x0F, 0x13, 0x20, 0x21, 0x22, 0x23, 0x24, 0x26,
    0x27] [.auth, .boundary, .cc, .draught, .flue, .fnd, .fresh, .hA, .hB, .inputs, .lanes, .lp, .msg, .pol, .thn, .timers, .vdm]) ∧
  (∀ (n : Port), ChangesOnly (.goodcrcTransmit n) [0x20, 0x21] [.boundary, .cc, .msg, .timers]) ∧
  (∀ (n : Port) (sop : Fin 3) (ty : BitVec 7) (data : List Byte), ChangesOnly (.messageHandover n sop ty data) [] [.msg]) ∧
  (∀ (n : Port) (line : Line), ChangesOnly (.transmitTurn n line) [0x00, 0x04, 0x07, 0x08, 0x09, 0x13, 0x20, 0x21, 0x22, 0x23, 0x24, 0x26, 0x27]
    [.auth, .boundary, .cc, .draught, .flue, .fnd, .fresh, .lanes, .lp, .msg, .pol, .thn, .timers, .vdm]) ∧
  (∀ (which : QueuePlace), ChangesOnly (.messageWithdraw which) [0x20, 0x21, 0x22] [.boundary, .cc, .flue, .msg, .pol, .timers]) ∧
  (∀ (n : Port), ChangesOnly (.treceiveExpiry n) [0x00, 0x04, 0x07, 0x08, 0x09, 0x13, 0x20, 0x21, 0x22, 0x23, 0x24, 0x26, 0x27] [.auth, .boundary,
    .cc, .draught, .flue, .fnd, .fresh, .lanes, .lp, .msg, .pol, .thn, .timers, .vdm]) ∧
  (∀ (n : Port), ChangesOnly (.epochChangeAbandon n) [0x00, 0x04, 0x07, 0x08, 0x09, 0x13, 0x20, 0x21, 0x22, 0x23, 0x24, 0x26, 0x27] [.auth,
    .boundary, .cc, .draught, .flue, .fnd, .fresh, .lanes, .lp, .msg, .pol, .thn, .timers, .vdm]) ∧
  (∀ (n : Port), ChangesOnly (.hardResetRequest n) [0x20, 0x21] [.boundary, .cc, .msg, .pol, .timers]) ∧
  (∀ (n : Port), ChangesOnly (.cableResetRequest n) [0x00, 0x04, 0x07, 0x08, 0x09, 0x13, 0x20, 0x21, 0x22, 0x23, 0x24, 0x26, 0x27] [.auth, .boundary,
    .cc, .draught, .flue, .fnd, .fresh, .lanes, .lp, .msg, .pol, .thn, .timers, .vdm]) ∧
  (∀ (n : Port), ChangesOnly (.vconnRestoreAfterCableReset n) [0x00, 0x04, 0x07, 0x08, 0x09, 0x0F, 0x13, 0x20, 0x21, 0x22, 0x23, 0x24, 0x26, 0x27]
    [.auth, .boundary, .cc, .draught, .flue, .fnd, .fresh, .hA, .hB, .inputs, .lanes, .lp, .msg, .pol, .thn, .timers, .vdm]) ∧
  (∀ (n : Port), ChangesOnly (.hardResetReceived n) [0x00, 0x04, 0x07, 0x08, 0x09, 0x0F, 0x13, 0x20, 0x21, 0x22, 0x23, 0x24, 0x26, 0x27] [.auth,
    .boundary, .cc, .draught, .flue, .fnd, .fresh, .hA, .hB, .inputs, .lanes, .lp, .msg, .pol, .thn, .timers, .vdm]) ∧
  (∀ (n : Port), ChangesOnly (.sinktxWaitExpiry n) [] [.timers]) ∧
  (∀ (n : Port), ChangesOnly (.chunkSenderTimeout n) [0x00, 0x04, 0x07, 0x08, 0x09, 0x13, 0x20, 0x21, 0x22, 0x23, 0x24, 0x26, 0x27] [.auth,
    .boundary, .cc, .draught, .flue, .fnd, .fresh, .lanes, .lp, .msg, .pol, .thn, .timers, .vdm]) ∧
  (∀ (n : Port), ChangesOnly (.chunkReceiverTimeout n) [0x21] [.flue, .msg, .timers]) ∧
  (∀ (n : Port) (epoch : BitVec 8), ChangesOnly (.msgFlush n epoch) [0x00, 0x04, 0x07, 0x08, 0x09, 0x13, 0x20, 0x21, 0x22, 0x23, 0x24, 0x26, 0x27]
    [.auth, .boundary, .cc, .draught, .flue, .fnd, .fresh, .lanes, .lp, .msg, .pol, .thn, .timers, .vdm]) ∧
  (∀ (n : Port) (pool : Bool) (value : Word), ChangesOnly (.msgConfigWrite n pool value) [0x21] [.flue]) ∧
  (∀ (h : Hth), ChangesOnly (.policyInputTaken h) [0x00, 0x04, 0x07, 0x08, 0x09, 0x0F, 0x13, 0x20, 0x21, 0x22, 0x23, 0x24, 0x26, 0x27] [.auth,
    .boundary, .cc, .draught, .flue, .fnd, .fresh, .hA, .hB, .inputs, .lanes, .lp, .msg, .pol, .thn, .timers, .vdm]) ∧
  (∀ (n : Port), ChangesOnly (.sourceCapTimer n) [0x00, 0x04, 0x07, 0x08, 0x09, 0x0F, 0x13, 0x20, 0x21, 0x22, 0x23, 0x24, 0x26, 0x27] [.auth,
    .boundary, .cc, .draught, .flue, .fnd, .fresh, .hA, .hB, .inputs, .lanes, .lp, .msg, .pol, .thn, .timers, .vdm]) ∧
  (∀ (n : Port), ChangesOnly (.senderResponseTimeout n) [0x00, 0x04, 0x07, 0x08, 0x09, 0x0F, 0x13, 0x20, 0x21, 0x22, 0x23, 0x24, 0x26, 0x27] [.auth,
    .boundary, .cc, .draught, .flue, .fnd, .fresh, .hA, .hB, .inputs, .lanes, .lp, .msg, .pol, .thn, .timers, .vdm]) ∧
  (∀ (n : Port), ChangesOnly (.noResponseTimeout n) [0x00, 0x04, 0x07, 0x08, 0x09, 0x0F, 0x13, 0x20, 0x21, 0x22, 0x23, 0x24, 0x26, 0x27] [.auth,
    .boundary, .cc, .draught, .flue, .fnd, .fresh, .hA, .hB, .inputs, .lanes, .lp, .msg, .pol, .thn, .timers, .vdm]) ∧
  (∀ (n : Port), ChangesOnly (.sinkWaitCapTimeout n) [0x00, 0x04, 0x07, 0x08, 0x09, 0x0F, 0x13, 0x20, 0x21, 0x22, 0x23, 0x24, 0x26, 0x27] [.auth,
    .boundary, .cc, .draught, .flue, .fnd, .fresh, .hA, .hB, .inputs, .lanes, .lp, .msg, .pol, .thn, .timers, .vdm]) ∧
  (∀ (n : Port), ChangesOnly (.eprKeepaliveTimer n) [0x00, 0x04, 0x07, 0x08, 0x09, 0x0F, 0x13, 0x20, 0x21, 0x22, 0x23, 0x24, 0x26, 0x27] [.auth,
    .boundary, .cc, .draught, .flue, .fnd, .fresh, .hA, .hB, .inputs, .lanes, .lp, .msg, .pol, .thn, .timers, .vdm]) ∧
  (∀ (n : Port), ChangesOnly (.sinkRerequestTimer n) [0x00, 0x04, 0x07, 0x08, 0x09, 0x0F, 0x13, 0x20, 0x21, 0x22, 0x23, 0x24, 0x26, 0x27] [.auth,
    .boundary, .cc, .draught, .flue, .fnd, .fresh, .hA, .hB, .inputs, .lanes, .lp, .msg, .pol, .thn, .timers, .vdm]) ∧
  (∀ (n : Port), ChangesOnly (.ppsTimeout n) [0x00, 0x04, 0x07, 0x08, 0x09, 0x0F, 0x13, 0x20, 0x21, 0x22, 0x23, 0x24, 0x26, 0x27] [.auth, .boundary,
    .cc, .draught, .flue, .fnd, .fresh, .hA, .hB, .inputs, .lanes, .lp, .msg, .pol, .thn, .timers, .vdm]) ∧
  (∀ (n : Port), ChangesOnly (.budgetChange n) [0x00, 0x04, 0x07, 0x08, 0x09, 0x0F, 0x13, 0x20, 0x21, 0x22, 0x23, 0x24, 0x26, 0x27] [.auth,
    .boundary, .cc, .draught, .flue, .fnd, .fresh, .hA, .hB, .inputs, .lanes, .lp, .msg, .pol, .thn, .timers, .vdm]) ∧
  (∀ (n : Port), ChangesOnly (.draftGapExpiry n) [0x00, 0x04, 0x07, 0x08, 0x09, 0x0F, 0x13, 0x20, 0x21, 0x22, 0x23, 0x24, 0x26, 0x27] [.auth,
    .boundary, .cc, .draught, .flue, .fnd, .fresh, .hA, .hB, .inputs, .lanes, .lp, .msg, .pol, .thn, .timers, .vdm]) ∧
  (∀ (n : Port), ChangesOnly (.requestReceived n) [0x00, 0x04, 0x07, 0x08, 0x09, 0x0F, 0x13, 0x20, 0x21, 0x22, 0x23, 0x24, 0x26, 0x27] [.auth,
    .boundary, .cc, .draught, .flue, .fnd, .fresh, .hA, .hB, .inputs, .lanes, .lp, .msg, .pol, .thn, .timers, .vdm]) ∧
  (∀ (n : Port), ChangesOnly (.sourceCapsReceived n) [0x00, 0x04, 0x07, 0x08, 0x09, 0x0F, 0x13, 0x20, 0x21, 0x22, 0x23, 0x24, 0x26, 0x27] [.auth,
    .boundary, .cc, .draught, .flue, .fnd, .fresh, .hA, .hB, .inputs, .lanes, .lp, .msg, .pol, .thn, .timers, .vdm]) ∧
  (∀ (n : Port), ChangesOnly (.eprEnterReceived n) [0x00, 0x04, 0x07, 0x08, 0x09, 0x0F, 0x13, 0x20, 0x21, 0x22, 0x23, 0x24, 0x26, 0x27] [.auth,
    .boundary, .cc, .draught, .flue, .fnd, .fresh, .hA, .hB, .inputs, .lanes, .lp, .msg, .pol, .thn, .timers, .vdm]) ∧
  (∀ (n : Port), ChangesOnly (.prSwapReceived n) [0x00, 0x04, 0x07, 0x08, 0x09, 0x0F, 0x13, 0x20, 0x21, 0x22, 0x23, 0x24, 0x26, 0x27] [.auth,
    .boundary, .cc, .draught, .flue, .fnd, .fresh, .hA, .hB, .inputs, .lanes, .lp, .msg, .pol, .thn, .timers, .vdm]) ∧
  (∀ (n : Port), ChangesOnly (.drSwapReceived n) [0x00, 0x04, 0x07, 0x08, 0x09, 0x0F, 0x13, 0x20, 0x21, 0x22, 0x23, 0x24, 0x26, 0x27] [.auth,
    .boundary, .cc, .draught, .flue, .fnd, .fresh, .hA, .hB, .inputs, .lanes, .lp, .msg, .pol, .thn, .timers, .vdm]) ∧
  (∀ (n : Port), ChangesOnly (.vconnSwapReceived n) [0x00, 0x04, 0x07, 0x08, 0x09, 0x0F, 0x13, 0x20, 0x21, 0x22, 0x23, 0x24, 0x26, 0x27] [.auth,
    .boundary, .cc, .draught, .flue, .fnd, .fresh, .hA, .hB, .inputs, .lanes, .lp, .msg, .pol, .thn, .timers, .vdm]) ∧
  (∀ (n : Port), ChangesOnly (.unsupportedReceived n) [0x00, 0x04, 0x07, 0x08, 0x09, 0x0F, 0x13, 0x20, 0x21, 0x22, 0x23, 0x24, 0x26, 0x27] [.auth,
    .boundary, .cc, .draught, .flue, .fnd, .fresh, .hA, .hB, .inputs, .lanes, .lp, .msg, .pol, .thn, .timers, .vdm]) ∧
  (∀ (n : Port) (epoch : BitVec 8), ChangesOnly (.cmdSendCaps n epoch) [0x00, 0x04, 0x07, 0x08, 0x09, 0x0B, 0x0C, 0x0F, 0x13, 0x20, 0x21, 0x22, 0x23,
    0x24, 0x26, 0x27] [.auth, .boundary, .cc, .draught, .flue, .fnd, .fresh, .hA, .hB, .inputs, .lanes, .lp, .msg, .pol, .thn, .timers, .vdm]) ∧
  (∀ (n : Port) (epoch : BitVec 8), ChangesOnly (.cmdPrSwap n epoch) [0x00, 0x04, 0x07, 0x08, 0x09, 0x0B, 0x0C, 0x0F, 0x13, 0x20, 0x21, 0x22, 0x23,
    0x24, 0x26, 0x27] [.auth, .boundary, .cc, .draught, .flue, .fnd, .fresh, .hA, .hB, .inputs, .lanes, .lp, .msg, .pol, .thn, .timers, .vdm]) ∧
  (∀ (n : Port) (epoch : BitVec 8), ChangesOnly (.cmdDrSwap n epoch) [0x00, 0x04, 0x07, 0x08, 0x09, 0x0B, 0x0C, 0x0F, 0x13, 0x20, 0x21, 0x22, 0x23,
    0x24, 0x26, 0x27] [.auth, .boundary, .cc, .draught, .flue, .fnd, .fresh, .hA, .hB, .inputs, .lanes, .lp, .msg, .pol, .thn, .timers, .vdm]) ∧
  (∀ (n : Port) (epoch : BitVec 8), ChangesOnly (.cmdVconnSwap n epoch) [0x00, 0x04, 0x07, 0x08, 0x09, 0x0B, 0x0C, 0x0F, 0x13, 0x20, 0x21, 0x22,
    0x23, 0x24, 0x26, 0x27] [.auth, .boundary, .cc, .draught, .flue, .fnd, .fresh, .hA, .hB, .inputs, .lanes, .lp, .msg, .pol, .thn, .timers,
    .vdm]) ∧
  (∀ (n : Port) (epoch : BitVec 8), ChangesOnly (.cmdGetSinkCap n epoch) [0x00, 0x04, 0x07, 0x08, 0x09, 0x0B, 0x0C, 0x0F, 0x13, 0x20, 0x21, 0x22,
    0x23, 0x24, 0x26, 0x27] [.auth, .boundary, .cc, .draught, .flue, .fnd, .fresh, .hA, .hB, .inputs, .lanes, .lp, .msg, .pol, .thn, .timers,
    .vdm]) ∧
  (∀ (n : Port) (epoch : BitVec 8), ChangesOnly (.cmdGetSourceCap n epoch) [0x00, 0x04, 0x07, 0x08, 0x09, 0x0B, 0x0C, 0x0F, 0x13, 0x20, 0x21, 0x22,
    0x23, 0x24, 0x26, 0x27] [.auth, .boundary, .cc, .draught, .flue, .fnd, .fresh, .hA, .hB, .inputs, .lanes, .lp, .msg, .pol, .thn, .timers,
    .vdm]) ∧
  (∀ (n : Port) (epoch : BitVec 8), ChangesOnly (.cmdEprEntry n epoch) [0x00, 0x04, 0x07, 0x08, 0x09, 0x0B, 0x0C, 0x0F, 0x13, 0x20, 0x21, 0x22, 0x23,
    0x24, 0x26, 0x27] [.auth, .boundary, .cc, .draught, .flue, .fnd, .fresh, .hA, .hB, .inputs, .lanes, .lp, .msg, .pol, .thn, .timers, .vdm]) ∧
  (∀ (n : Port) (epoch : BitVec 8), ChangesOnly (.cmdEprExit n epoch) [0x00, 0x04, 0x07, 0x08, 0x09, 0x0B, 0x0C, 0x0F, 0x13, 0x20, 0x21, 0x22, 0x23,
    0x24, 0x26, 0x27] [.auth, .boundary, .cc, .draught, .flue, .fnd, .fresh, .hA, .hB, .inputs, .lanes, .lp, .msg, .pol, .thn, .timers, .vdm]) ∧
  (∀ (n : Port) (epoch : BitVec 8), ChangesOnly (.cmdSoftReset n epoch) [0x00, 0x04, 0x07, 0x08, 0x09, 0x0B, 0x0C, 0x0F, 0x13, 0x20, 0x21, 0x22,
    0x23, 0x24, 0x26, 0x27] [.auth, .boundary, .cc, .draught, .flue, .fnd, .fresh, .hA, .hB, .inputs, .lanes, .lp, .msg, .pol, .thn, .timers,
    .vdm]) ∧
  (∀ (n : Port) (epoch : BitVec 8), ChangesOnly (.cmdHardReset n epoch) [0x00, 0x04, 0x07, 0x08, 0x09, 0x0B, 0x0C, 0x0F, 0x13, 0x20, 0x21, 0x22,
    0x23, 0x24, 0x26, 0x27] [.auth, .boundary, .cc, .draught, .flue, .fnd, .fresh, .hA, .hB, .inputs, .lanes, .lp, .msg, .pol, .thn, .timers,
    .vdm]) ∧
  (∀ (n : Port) (epoch : BitVec 8), ChangesOnly (.cmdErrorRecovery n epoch) [0x00, 0x04, 0x07, 0x08, 0x09, 0x0B, 0x0C, 0x0F, 0x13, 0x20, 0x21, 0x22,
    0x23, 0x24, 0x26, 0x27] [.auth, .boundary, .cc, .draught, .flue, .fnd, .fresh, .hA, .hB, .inputs, .lanes, .lp, .msg, .pol, .thn, .timers,
    .vdm]) ∧
  (∀ (n : Port) (epoch : BitVec 8), ChangesOnly (.cmdDisablePort n epoch) [0x00, 0x04, 0x07, 0x08, 0x09, 0x0B, 0x0C, 0x0F, 0x13, 0x20, 0x21, 0x22,
    0x23, 0x24, 0x26, 0x27] [.auth, .boundary, .cc, .draught, .flue, .fnd, .fresh, .hA, .hB, .inputs, .lanes, .lp, .msg, .pol, .thn, .timers,
    .vdm]) ∧
  (∀ (n : Port) (epoch : BitVec 8), ChangesOnly (.cmdEnablePort n epoch) [0x00, 0x04, 0x07, 0x08, 0x09, 0x0B, 0x0C, 0x0F, 0x13, 0x20, 0x21, 0x22,
    0x23, 0x24, 0x26, 0x27] [.auth, .boundary, .cc, .draught, .flue, .fnd, .fresh, .hA, .hB, .inputs, .lanes, .lp, .msg, .pol, .thn, .timers,
    .vdm]) ∧
  (∀ (n : Port) (epoch : BitVec 8) (arg : BitVec 16), ChangesOnly (.cmdProductionTest n epoch arg) [0x00, 0x04, 0x07, 0x08, 0x09, 0x0B, 0x0C, 0x0F,
    0x13, 0x20, 0x21, 0x22, 0x23, 0x24, 0x26, 0x27] [.auth, .boundary, .cc, .draught, .flue, .fnd, .fresh, .hA, .hB, .inputs, .lanes, .lp, .msg,
    .pol, .thn, .timers, .vdm]) ∧
  (∀ (n : Port), ChangesOnly (.heldCommandTaken n) [0x00, 0x04, 0x07, 0x08, 0x09, 0x0B, 0x0C, 0x0F, 0x13, 0x20, 0x21, 0x22, 0x23, 0x24, 0x26, 0x27]
    [.auth, .boundary, .cc, .draught, .flue, .fnd, .fresh, .hA, .hB, .inputs, .lanes, .lp, .msg, .pol, .thn, .timers, .vdm]) ∧
  (∀ (n : Port) (value : Word), ChangesOnly (.capsCfgWrite n value) [0x22] [.flue]) ∧
  (∀ (clause : Entry64), ChangesOnly (.lexWindowWrite clause) [0x10, 0x11] [.flue, .hA, .hB]) ∧
  (∀ (n : Port), ChangesOnly (.transitionHoldExpiry n) [0x00, 0x04, 0x07, 0x08, 0x09, 0x0F, 0x13, 0x20, 0x21, 0x22, 0x23, 0x24, 0x26, 0x27] [.auth,
    .boundary, .cc, .draught, .flue, .fnd, .fresh, .hA, .hB, .inputs, .lanes, .lp, .msg, .pol, .thn, .timers, .vdm]) ∧
  (∀ (n : Port), ChangesOnly (.transitionSettled n) [0x00, 0x04, 0x07, 0x08, 0x09, 0x0F, 0x13, 0x20, 0x21, 0x22, 0x23, 0x24, 0x26, 0x27] [.auth,
    .boundary, .cc, .draught, .flue, .fnd, .fresh, .hA, .hB, .inputs, .lanes, .lp, .msg, .pol, .thn, .timers, .vdm]) ∧
  (∀ (n : Port), ChangesOnly (.transitionTimeout n) [0x00, 0x04, 0x07, 0x08, 0x09, 0x0F, 0x13, 0x20, 0x21, 0x22, 0x23, 0x24, 0x26, 0x27] [.auth,
    .boundary, .cc, .draught, .flue, .fnd, .fresh, .hA, .hB, .inputs, .lanes, .lp, .msg, .pol, .thn, .timers, .vdm]) ∧
  (∀ (n : Port), ChangesOnly (.descentReaches5v n) [0x00, 0x04, 0x07, 0x08, 0x09, 0x0F, 0x13, 0x20, 0x21, 0x22, 0x23, 0x24, 0x26, 0x27] [.auth,
    .boundary, .cc, .draught, .flue, .fnd, .fresh, .hA, .hB, .inputs, .lanes, .lp, .msg, .pol, .thn, .timers, .vdm]) ∧
  (∀ (n : Port), ChangesOnly (.vbusReachesVsafe0v n) [0x00, 0x04, 0x07, 0x08, 0x09, 0x0F, 0x13, 0x20, 0x21, 0x22, 0x23, 0x24, 0x26, 0x27] [.auth,
    .boundary, .cc, .draught, .flue, .fnd, .fresh, .hA, .hB, .inputs, .lanes, .lp, .msg, .pol, .thn, .timers, .vdm]) ∧
  (∀ (n : Port), ChangesOnly (.transitionAbort n) [0x00, 0x04, 0x07, 0x08, 0x09, 0x0F, 0x13, 0x20, 0x21, 0x22, 0x23, 0x24, 0x26, 0x27] [.auth,
    .boundary, .cc, .draught, .flue, .fnd, .fresh, .hA, .hB, .inputs, .lanes, .lp, .msg, .pol, .thn, .timers, .vdm]) ∧
  (∀ (n : Port), ChangesOnly (.abortNoDetach n) [0x00, 0x04, 0x07, 0x08, 0x09, 0x0F, 0x13, 0x20, 0x21, 0x22, 0x23, 0x24, 0x26, 0x27] [.auth,
    .boundary, .cc, .draught, .flue, .fnd, .fresh, .hA, .hB, .inputs, .lanes, .lp, .msg, .pol, .thn, .timers, .vdm]) ∧
  (∀ (n : Port), ChangesOnly (.swapTimeout n) [0x00, 0x04, 0x07, 0x08, 0x09, 0x0F, 0x13, 0x20, 0x21, 0x22, 0x23, 0x24, 0x26, 0x27] [.auth, .boundary,
    .cc, .draught, .flue, .fnd, .fresh, .hA, .hB, .inputs, .lanes, .lp, .msg, .pol, .thn, .timers, .vdm]) ∧
  (∀ (n : Port), ChangesOnly (.sinkSwapToSource n) [0x00, 0x04, 0x07, 0x08, 0x09, 0x0F, 0x13, 0x20, 0x21, 0x22, 0x23, 0x24, 0x26, 0x27] [.auth,
    .boundary, .cc, .draught, .flue, .fnd, .fresh, .hA, .hB, .inputs, .lanes, .lp, .msg, .pol, .thn, .timers, .vdm]) ∧
  (∀ (n : Port), ChangesOnly (.swapSourceStart n) [0x00, 0x04, 0x07, 0x08, 0x09, 0x0F, 0x13, 0x20, 0x21, 0x22, 0x23, 0x24, 0x26, 0x27] [.auth,
    .boundary, .cc, .draught, .flue, .fnd, .fresh, .hA, .hB, .inputs, .lanes, .lp, .msg, .pol, .thn, .timers, .vdm]) ∧
  (∀ (n : Port), ChangesOnly (.frsArm n) [0x00, 0x04, 0x07, 0x08, 0x09, 0x0F, 0x13, 0x20, 0x21, 0x22, 0x23, 0x24, 0x26, 0x27] [.auth, .boundary, .cc,
    .draught, .flue, .fnd, .fresh, .hA, .hB, .inputs, .lanes, .lp, .msg, .pol, .thn, .timers, .vdm]) ∧
  (∀ (n : Port), ChangesOnly (.frsSignal n) [0x00, 0x04, 0x07, 0x08, 0x09, 0x0F, 0x13, 0x20, 0x21, 0x22, 0x23, 0x24, 0x26, 0x27] [.auth, .boundary,
    .cc, .draught, .flue, .fnd, .fresh, .hA, .hB, .inputs, .lanes, .lp, .msg, .pol, .thn, .timers, .vdm]) ∧
  (∀ (n : Port), ChangesOnly (.frsVbusLow n) [0x00, 0x04, 0x07, 0x08, 0x09, 0x0F, 0x13, 0x20, 0x21, 0x22, 0x23, 0x24, 0x26, 0x27] [.auth, .boundary,
    .cc, .draught, .flue, .fnd, .fresh, .hA, .hB, .inputs, .lanes, .lp, .msg, .pol, .thn, .timers, .vdm]) ∧
  (∀ (n : Port), ChangesOnly (.frsInitTimer n) [0x00, 0x04, 0x07, 0x08, 0x09, 0x0F, 0x13, 0x20, 0x21, 0x22, 0x23, 0x24, 0x26, 0x27] [.auth,
    .boundary, .cc, .draught, .flue, .fnd, .fresh, .hA, .hB, .inputs, .lanes, .lp, .msg, .pol, .thn, .timers, .vdm]) ∧
  (∀ (n : Port), ChangesOnly (.vconnSwapTimeout n) [0x00, 0x04, 0x07, 0x08, 0x09, 0x0F, 0x13, 0x20, 0x21, 0x22, 0x23, 0x24, 0x26, 0x27] [.auth,
    .boundary, .cc, .draught, .flue, .fnd, .fresh, .hA, .hB, .inputs, .lanes, .lp, .msg, .pol, .thn, .timers, .vdm]) ∧
  (∀ (n : Port), ChangesOnly (.vconnSwapReady n) [0x00, 0x04, 0x07, 0x08, 0x09, 0x0F, 0x13, 0x20, 0x21, 0x22, 0x23, 0x24, 0x26, 0x27] [.auth,
    .boundary, .cc, .draught, .flue, .fnd, .fresh, .hA, .hB, .inputs, .lanes, .lp, .msg, .pol, .thn, .timers, .vdm]) ∧
  (∀ (n : Port), ChangesOnly (.hardResetSourceDescent n) [0x00, 0x04, 0x07, 0x08, 0x09, 0x0F, 0x13, 0x20, 0x21, 0x22, 0x23, 0x24, 0x26, 0x27] [.auth,
    .boundary, .cc, .draught, .flue, .fnd, .fresh, .hA, .hB, .inputs, .lanes, .lp, .msg, .pol, .thn, .timers, .vdm]) ∧
  (∀ (n : Port), ChangesOnly (.srcRecoverExpiry n) [0x00, 0x04, 0x07, 0x08, 0x09, 0x0F, 0x13, 0x20, 0x21, 0x22, 0x23, 0x24, 0x26, 0x27] [.auth,
    .boundary, .cc, .draught, .flue, .fnd, .fresh, .hA, .hB, .inputs, .lanes, .lp, .msg, .pol, .thn, .timers, .vdm]) ∧
  (∀ (n : Port), ChangesOnly (.hardResetVsafe5v n) [0x00, 0x04, 0x07, 0x08, 0x09, 0x0F, 0x13, 0x20, 0x21, 0x22, 0x23, 0x24, 0x26, 0x27] [.auth,
    .boundary, .cc, .draught, .flue, .fnd, .fresh, .hA, .hB, .inputs, .lanes, .lp, .msg, .pol, .thn, .timers, .vdm]) ∧
  (∀ (n : Port), ChangesOnly (.sinkMaskClear n) [0x00, 0x04, 0x07, 0x08, 0x09, 0x0F, 0x13, 0x20, 0x21, 0x22, 0x23, 0x24, 0x26, 0x27] [.auth,
    .boundary, .cc, .draught, .flue, .fnd, .fresh, .hA, .hB, .inputs, .lanes, .lp, .msg, .pol, .thn, .timers, .vdm]) ∧
  (∀ (n : Port), ChangesOnly (.errorRecoveryEntry n) [0x00, 0x04, 0x07, 0x08, 0x09, 0x0F, 0x13, 0x20, 0x21, 0x22, 0x23, 0x24, 0x26, 0x27] [.auth,
    .boundary, .cc, .draught, .flue, .fnd, .fresh, .hA, .hB, .inputs, .lanes, .lp, .msg, .pol, .thn, .timers, .vdm]) ∧
  (∀ (n : Port), ChangesOnly (.errorRecoveryExpiry n) [0x00, 0x04, 0x07, 0x08, 0x09, 0x0F, 0x13, 0x20, 0x21, 0x22, 0x23, 0x24, 0x26, 0x27] [.auth,
    .boundary, .cc, .draught, .flue, .fnd, .fresh, .hA, .hB, .inputs, .lanes, .lp, .msg, .pol, .thn, .timers, .vdm]) ∧
  (∀ (entry : Entry64), ChangesOnly (.phbWindowWrite entry) [0x10, 0x11] [.flue, .hA, .hB]) ∧
  (∀ (n : Port), ChangesOnly (.eopSent n) [0x00, 0x04, 0x07, 0x08, 0x09, 0x0F, 0x13, 0x20, 0x21, 0x22, 0x23, 0x24, 0x26, 0x27] [.auth, .boundary,
    .cc, .draught, .flue, .fnd, .fresh, .hA, .hB, .inputs, .lanes, .lp, .msg, .pol, .thn, .timers, .vdm]) ∧
  (ChangesOnly .poolSlotGrant [0x21] [.flue, .msg]) ∧
  (ChangesOnly .lexLoadBegin [0x10, 0x11, 0x22] [.flue, .pol]) ∧
  (ChangesOnly .lexWindowRead [0x10, 0x11] [.pins]) ∧
  (ChangesOnly .lexCommit [0x10, 0x11] [.flue]) ∧
  (ChangesOnly .lexCheckComplete [0x09, 0x0F, 0x10, 0x11, 0x13, 0x20, 0x21, 0x22, 0x23] [.boundary, .cc, .draught, .flue, .hA, .hB, .msg, .pol, .thn,
    .timers, .vdm]) ∧
  (ChangesOnly .lexAbort [0x09, 0x0F, 0x10, 0x11, 0x13, 0x20, 0x21, 0x22, 0x23] [.boundary, .cc, .draught, .flue, .hA, .hB, .msg, .pol, .thn,
    .timers, .vdm]) ∧
  (ChangesOnly .lexRevertSeed [0x09, 0x0F, 0x10, 0x11, 0x13, 0x20, 0x21, 0x22, 0x23] [.boundary, .cc, .draught, .flue, .hA, .hB, .msg, .pol, .thn,
    .timers, .vdm]) ∧
  (ChangesOnly .phbLoadBegin [0x10, 0x11, 0x22] [.flue, .pol]) ∧
  (ChangesOnly .phbCommit [0x09, 0x0F, 0x10, 0x11, 0x13, 0x20, 0x21, 0x22, 0x23] [.boundary, .cc, .draught, .flue, .hA, .hB, .msg, .pol, .thn,
    .timers, .vdm]) ∧
  (ChangesOnly .phbAbort [0x09, 0x0F, 0x10, 0x11, 0x13, 0x20, 0x21, 0x22, 0x23] [.boundary, .cc, .draught, .flue, .hA, .hB, .msg, .pol, .thn,
    .timers, .vdm]) ∧
  (ChangesOnly .phbRevertSeed [0x09, 0x0F, 0x10, 0x11, 0x13, 0x20, 0x21, 0x22, 0x23] [.boundary, .cc, .draught, .flue, .hA, .hB, .msg, .pol, .thn,
    .timers, .vdm])

/-- For each command listed (of chapters 9 and 10), where it answers a next state: no register outside the kinds of page listed, in any copy, and no part of the state beside the parts listed (or none of the parts listed, for KeepsParts) is changed. -/
def Obligations.VdmAndIdentityFrames : Prop :=
  (∀ (n : Port), ChangesOnly (.vdmReceived n) [0x00, 0x04, 0x07, 0x08, 0x09, 0x0F, 0x13, 0x20, 0x21, 0x22, 0x23, 0x24, 0x26, 0x27] [.auth, .boundary,
    .cc, .draught, .flue, .fnd, .fresh, .hA, .hB, .inputs, .lanes, .lp, .msg, .pol, .thn, .timers, .vdm]) ∧
  (∀ (n : Port), ChangesOnly (.vdmResponseTimeout n) [0x00, 0x04, 0x07, 0x08, 0x09, 0x0F, 0x13, 0x20, 0x21, 0x22, 0x23, 0x24, 0x26, 0x27] [.auth,
    .boundary, .cc, .draught, .flue, .fnd, .fresh, .hA, .hB, .inputs, .lanes, .lp, .msg, .pol, .thn, .timers, .vdm]) ∧
  (∀ (n : Port), ChangesOnly (.vdmBusyRetry n) [0x00, 0x04, 0x07, 0x08, 0x09, 0x0F, 0x13, 0x20, 0x21, 0x22, 0x23, 0x24, 0x26, 0x27] [.auth,
    .boundary, .cc, .draught, .flue, .fnd, .fresh, .hA, .hB, .inputs, .lanes, .lp, .msg, .pol, .thn, .timers, .vdm]) ∧
  (∀ (n : Port), ChangesOnly (.discoveryStep n) [0x00, 0x04, 0x07, 0x08, 0x09, 0x0F, 0x13, 0x20, 0x21, 0x22, 0x23, 0x24, 0x26, 0x27] [.auth,
    .boundary, .cc, .draught, .flue, .fnd, .fresh, .hA, .hB, .inputs, .lanes, .lp, .msg, .pol, .thn, .timers, .vdm]) ∧
  (∀ (n : Port), ChangesOnly (.cableDiscoverIdentity n) [0x00, 0x04, 0x07, 0x08, 0x09, 0x0F, 0x13, 0x20, 0x21, 0x22, 0x23, 0x24, 0x26, 0x27] [.auth,
    .boundary, .cc, .draught, .flue, .fnd, .fresh, .hA, .hB, .inputs, .lanes, .lp, .msg, .pol, .thn, .timers, .vdm]) ∧
  (∀ (n : Port), ChangesOnly (.hostVdmResponseTimeout n) [0x00, 0x04, 0x07, 0x08, 0x09, 0x0F, 0x13, 0x20, 0x21, 0x22, 0x23, 0x24, 0x26, 0x27] [.auth,
    .boundary, .cc, .draught, .flue, .fnd, .fresh, .hA, .hB, .inputs, .lanes, .lp, .msg, .pol, .thn, .timers, .vdm]) ∧
  (∀ (n : Port) (epoch : BitVec 8), ChangesOnly (.vdmCmdDiscovery n epoch) [0x00, 0x04, 0x07, 0x08, 0x09, 0x0F, 0x13, 0x20, 0x21, 0x22, 0x23, 0x24,
    0x26, 0x27] [.auth, .boundary, .cc, .draught, .flue, .fnd, .fresh, .hA, .hB, .inputs, .lanes, .lp, .msg, .pol, .thn, .timers, .vdm]) ∧
  (∀ (n : Port) (epoch : BitVec 8) (arg : BitVec 16), ChangesOnly (.vdmCmdEnterHostMode n epoch arg) [0x00, 0x04, 0x07, 0x08, 0x09, 0x0F, 0x13, 0x20,
    0x21, 0x22, 0x23, 0x24, 0x26, 0x27] [.auth, .boundary, .cc, .draught, .flue, .fnd, .fresh, .hA, .hB, .inputs, .lanes, .lp, .msg, .pol, .thn,
    .timers, .vdm]) ∧
  (∀ (n : Port) (epoch : BitVec 8) (arg : BitVec 16), ChangesOnly (.vdmCmdExitHostMode n epoch arg) [0x00, 0x04, 0x07, 0x08, 0x09, 0x0F, 0x13, 0x20,
    0x21, 0x22, 0x23, 0x24, 0x26, 0x27] [.auth, .boundary, .cc, .draught, .flue, .fnd, .fresh, .hA, .hB, .inputs, .lanes, .lp, .msg, .pol, .thn,
    .timers, .vdm]) ∧
  (∀ (n : Port) (epoch : BitVec 8) (arg : BitVec 16), ChangesOnly (.vdmCmdSendTx n epoch arg) [0x00, 0x04, 0x07, 0x08, 0x09, 0x0F, 0x13, 0x20, 0x21,
    0x22, 0x23, 0x24, 0x26, 0x27] [.auth, .boundary, .cc, .draught, .flue, .fnd, .fresh, .hA, .hB, .inputs, .lanes, .lp, .msg, .pol, .thn,
    .timers, .vdm]) ∧
  (∀ (n : Port) (epoch : BitVec 8), ChangesOnly (.vdmCmdEnterThatin n epoch) [0x00, 0x04, 0x07, 0x08, 0x09, 0x0F, 0x13, 0x20, 0x21, 0x22, 0x23, 0x24,
    0x26, 0x27] [.auth, .boundary, .cc, .draught, .flue, .fnd, .fresh, .hA, .hB, .inputs, .lanes, .lp, .msg, .pol, .thn, .timers, .vdm]) ∧
  (∀ (n : Port) (epoch : BitVec 8), ChangesOnly (.vdmCmdExitThatin n epoch) [0x00, 0x04, 0x07, 0x08, 0x09, 0x0F, 0x13, 0x20, 0x21, 0x22, 0x23, 0x24,
    0x26, 0x27] [.auth, .boundary, .cc, .draught, .flue, .fnd, .fresh, .hA, .hB, .inputs, .lanes, .lp, .msg, .pol, .thn, .timers, .vdm]) ∧
  (∀ (n : Port) (epoch : BitVec 8), ChangesOnly (.vdmCmdProposeTracking n epoch) [0x00, 0x04, 0x07, 0x08, 0x09, 0x0F, 0x13, 0x20, 0x21, 0x22, 0x23,
    0x24, 0x26, 0x27] [.auth, .boundary, .cc, .draught, .flue, .fnd, .fresh, .hA, .hB, .inputs, .lanes, .lp, .msg, .pol, .thn, .timers, .vdm]) ∧
  (∀ (n : Port) (epoch : BitVec 8), ChangesOnly (.vdmCmdEndTracking n epoch) [0x00, 0x04, 0x07, 0x08, 0x09, 0x0F, 0x13, 0x20, 0x21, 0x22, 0x23, 0x24,
    0x26, 0x27] [.auth, .boundary, .cc, .draught, .flue, .fnd, .fresh, .hA, .hB, .inputs, .lanes, .lp, .msg, .pol, .thn, .timers, .vdm]) ∧
  (∀ (n : Port), ChangesOnly (.thatinPoll n) [0x13] [.thn, .timers]) ∧
  (∀ (n : Port) (f : SbuFrame), ChangesOnly (.sbu2FrameReceived n f) [0x04, 0x09, 0x13] [.draught, .flue, .thn, .timers]) ∧
  (∀ (n : Port), ChangesOnly (.thatinLinkLost n) [0x09, 0x13] [.draught, .flue, .thn, .timers]) ∧
  (∀ (n : Port) (reason : Fin 7), ChangesOnly (.trackingCollapse n reason) [0x09, 0x13] [.draught, .flue, .thn, .timers]) ∧
  (∀ (n : Port), ChangesOnly (.vthRestoreAfterCollapse n) [] [.timers]) ∧
  (∀ (n : Port), ChangesOnly (.thatinExit n) [0x09, 0x13, 0x20, 0x23] [.draught, .flue, .thn, .timers]) ∧
  (∀ (n : Port), ChangesOnly (.securityRequestReceived n) [0x00, 0x04, 0x07, 0x08, 0x09, 0x0F, 0x13, 0x20, 0x21, 0x22, 0x23, 0x24, 0x26, 0x27]
    [.auth, .boundary, .cc, .draught, .flue, .fnd, .fresh, .hA, .hB, .inputs, .lanes, .lp, .msg, .pol, .thn, .timers, .vdm]) ∧
  (∀ (h : Hth), ChangesOnly (.challengeSigned h) [0x07] [.auth, .flue, .fresh, .msg]) ∧
  (∀ (word : Word), ChangesOnly (.idnWindowWrite word) [0x07] [.flue, .hA, .hB]) ∧
  (ChangesOnly .digestComplete [0x07] [.flue, .hA, .hB]) ∧
  (ChangesOnly .idnLoadBegin [0x07] [.flue, .hA, .hB]) ∧
  (ChangesOnly .idnCommit [0x07] [.flue, .hA, .hB]) ∧
  (ChangesOnly .idnAbort [0x07] [.hA, .hB])

/-- For each command listed (of chapters 11 to 14), where it answers a next state: no register outside the kinds of page listed, in any copy, and no part of the state beside the parts listed (or none of the parts listed, for KeepsParts) is changed. -/
def Obligations.PowerPathFrames : Prop :=
  (∀ (published : BitVec 8), ChangesOnly (.epochExchangeLatch published) [] [.draught, .flue]) ∧
  (∀ (n : Port), ChangesOnly (.stageRunCmd n) [0x24] [.boundary, .flue, .lp, .timers]) ∧
  (∀ (n : Port), ChangesOnly (.stageSenHigh n) [0x24] [.lp, .timers]) ∧
  (∀ (n : Port), ChangesOnly (.stageSenTimeout n) [0x24] [.flue, .lanes, .lp, .timers]) ∧
  (∀ (n : Port), ChangesOnly (.stageStopCmd n) [0x24] [.boundary, .lanes, .lp, .timers]) ∧
  (∀ (n : Port), ChangesOnly (.stageFault n) [0x24] [.flue, .lanes, .lp]) ∧
  (∀ (n : Port) (vbus imon bus : BitVec 12), ChangesOnly (.sampleInstant n vbus imon bus) [0x24, 0x25] [.flue, .lanes, .lp, .thn]) ∧
  (∀ (n : Port) (volt : Bool), ChangesOnly (.loopEvaluation n volt) [0x04, 0x0E, 0x12, 0x25] [.flue, .lanes, .lp]) ∧
  (∀ (n : Port) (volt : Bool) (a b : Latch), ChangesOnly (.updateInstant n volt a b) [0x00, 0x03, 0x04, 0x07, 0x08, 0x09, 0x0D, 0x0E, 0x0F, 0x12,
    0x13, 0x20, 0x21, 0x22, 0x23, 0x24, 0x25, 0x26, 0x27, 0x62, 0x68] [.auth, .boundary, .cc, .draught, .ember, .flue, .fnd, .fresh, .hA, .hB,
    .hearths, .inputs, .lanes, .lp, .msg, .pol, .thn, .timers, .vdm]) ∧
  (∀ (n : Port) (volt : Bool), ChangesOnly (.historyWriteback n volt) [] [.lp]) ∧
  (∀ (n : Port) (volt : Bool), ChangesOnly (.bankSwap n volt) [0x24, 0x25] [.flue]) ∧
  (∀ (n : Port) (volt bank1 : Bool) (k : Fin 4) (value : Word), ChangesOnly (.bankWrite n volt bank1 k value) [0x24, 0x25] [.flue]) ∧
  (∀ (n : Port) (value : Word), ChangesOnly (.timingWrite n value) [0x24] [.flue]) ∧
  (∀ (n : Port) (reg : StgReg) (value : Word), ChangesOnly (.stgConfigWrite n reg value) [0x24, 0x25] [.flue]) ∧
  (∀ (n : Port) (value : Word), ChangesOnly (.spManualWrite n value) [0x04, 0x22, 0x24] [.flue]) ∧
  (∀ (word : Word), ChangesOnly (.opcWindowWrite word) [0x12] [.flue, .hA, .hB]) ∧
  (∀ (n : Port) (axes : Bool) (value : Word), ChangesOnly (.opcWindowCfgWrite n axes value) [0x12] [.flue]) ∧
  (∀ (n : Port) (volt : Bool) (value : Word), ChangesOnly (.opcModelWrite n volt value) [0x12] [.lp]) ∧
  (∀ (c : TrcCause), ChangesOnly (.traceTrigger c) [0x0F] [.hA, .hB]) ∧
  (∀ (k : Strobe), ChangesOnly (.traceStrobe k) [0x08, 0x0E, 0x0F, 0x12, 0x22] [.flue, .hA, .hB]) ∧
  (∀ (dbg : Option Hth), ChangesOnly (.trcWindowRead dbg) [0x0F, 0x63, 0x69] [.flue, .pins]) ∧
  (∀ (k : Fin 6) (value : Word), ChangesOnly (.trcConfigWrite k value) [0x0F] [.flue]) ∧
  (∀ (hi0 per0 hi1 per1 : Nat), ChangesOnly (.epochAllocation hi0 per0 hi1 per1) [0x08, 0x09, 0x0A, 0x0D, 0x0E, 0x22, 0x24, 0x26] [.boundary,
    .draught, .feeds, .flue, .fnd, .lp, .pol, .timers]) ∧
  (∀ (n : Port), ChangesOnly (.admissionRequest n) [0x08, 0x26] [.draught, .fnd, .timers]) ∧
  (∀ (c : Fin 4), ChangesOnly (.envLost c) [0x09] [.flue]) ∧
  (∀ (n : Port), ChangesOnly (.closeCmd n) [0x26] [.boundary, .fnd, .timers]) ∧
  (∀ (n : Port), ChangesOnly (.openCmd n) [0x26, 0x27] [.boundary, .flue, .fnd, .lp, .timers]) ∧
  (∀ (n : Port), ChangesOnly (.insertionComplete n) [0x26] [.boundary, .fnd, .timers]) ∧
  (∀ (n : Port), ChangesOnly (.inrushEnd n) [0x24, 0x26] [.flue, .fnd, .lp, .timers]) ∧
  (∀ (n : Port), ChangesOnly (.inrushTimeout n) [0x24, 0x26] [.boundary, .flue, .fnd, .lanes, .lp, .timers]) ∧
  (∀ (n : Port) (inward : Bool), ChangesOnly (.limitEntry n inward) [0x26] [.fnd, .timers]) ∧
  (∀ (n : Port), ChangesOnly (.limitExit n) [0x26] [.fnd, .timers]) ∧
  (∀ (n : Port), ChangesOnly (.limitTimeout n) [0x24, 0x26] [.boundary, .flue, .fnd, .lanes, .lp, .timers]) ∧
  (∀ (n : Port), ChangesOnly (.offtimeExpiry n) [0x24, 0x26] [.flue, .fnd, .lp, .timers]) ∧
  (∀ (n : Port), ChangesOnly (.retriesRestore n) [0x26] [.timers]) ∧
  (∀ (n : Port) (epoch : BitVec 8), ChangesOnly (.fndRearm n epoch) [0x04, 0x22, 0x24, 0x26] [.flue, .fnd, .lp, .timers]) ∧
  (∀ (n : Port), ChangesOnly (.thermalHoldEnd n) [0x24, 0x26, 0x27] [.flue, .fnd, .lp, .timers]) ∧
  (∀ (n : Port), ChangesOnly (.soaExceeded n) [0x24, 0x26] [.boundary, .flue, .fnd, .lanes, .lp, .timers]) ∧
  (∀ (k : Fin 4), ChangesOnly (.ntcFault k) [0x27] [.flue, .ntcFault, .timers]) ∧
  (∀ (k : Fin 4), ChangesOnly (.ntcRecover k) [0x27] [.ntcFault, .timers]) ∧
  (∀ (n : Port), ChangesOnly (.dschgRequest n) [0x26] [.boundary, .fnd, .timers]) ∧
  (∀ (n : Port), ChangesOnly (.dischargeSlow n) [0x00, 0x04, 0x07, 0x08, 0x09, 0x13, 0x20, 0x21, 0x22, 0x23, 0x24, 0x26, 0x27] [.auth, .boundary,
    .cc, .draught, .flue, .fnd, .fresh, .lanes, .lp, .msg, .pol, .thn, .timers, .vdm]) ∧
  (∀ (n : Port), ChangesOnly (.dschgForcedOff n) [0x0F, 0x20, 0x22, 0x26] [.boundary, .cc, .flue, .fnd, .hA, .hB, .pol, .timers]) ∧
  (∀ (f : Feed), ChangesOnly (.feedQualified f) [0x0A] [.feeds, .flue]) ∧
  (∀ (f : Feed), ChangesOnly (.feedLost f) [0x08, 0x09, 0x0A] [.draught, .feeds, .flue, .timers]) ∧
  (∀ (f : Feed), ChangesOnly (.fedReqSelect f) [0x08, 0x09, 0x0A] [.draught, .feeds, .flue]) ∧
  (∀ (code : BitVec 12), ChangesOnly (.housekeepingSlot code) [0x01, 0x0A, 0x14, 0x20, 0x26] [.boundary, .draught, .feeds, .flue, .fnd, .timers]) ∧
  (ChangesOnly .feasibilityCheck [0x0E] [.flue]) ∧
  (ChangesOnly .opcWindowRead [0x12] [.flue, .pins]) ∧
  (ChangesOnly .opcSetValid [0x12] [.flue, .timers]) ∧
  (ChangesOnly .opcClearValid [0x12] [.flue, .timers]) ∧
  (ChangesOnly .opcClearTable [0x12] [.flue, .timers]) ∧
  (ChangesOnly .opcClearComplete [0x12] [.hA, .hB, .timers]) ∧
  (ChangesOnly .trcArm [0x0F] [.hA, .hB]) ∧
  (ChangesOnly .trcStop [0x0F] [.flue, .hA, .hB]) ∧
  (ChangesOnly .trcForceTrigger [] [.hA, .hB]) ∧
  (ChangesOnly .runSquashCmd [0x08, 0x09] [.draught, .feeds, .flue]) ∧
  (ChangesOnly .emergencyShed [0x08, 0x09] [.draught, .feeds, .flue, .timers]) ∧
  (ChangesOnly .nofeedRecovery [0x00, 0x04, 0x07, 0x08, 0x09, 0x13, 0x20, 0x21, 0x22, 0x23, 0x24, 0x26, 0x27] [.auth, .boundary, .cc, .draught,
    .flue, .fnd, .fresh, .lanes, .lp, .msg, .pol, .thn, .timers, .vdm]) ∧
  (ChangesOnly .thermalModelUpdate [0x24, 0x26, 0x27] [.boundary, .flue, .fnd, .lanes, .lp, .timers]) ∧
  (ChangesOnly .feedOvercurrent [0x08, 0x09, 0x0A] [.draught, .feeds, .flue, .timers]) ∧
  (ChangesOnly .feedReverse [0x08, 0x09, 0x0A] [.draught, .feeds, .flue, .timers]) ∧
  (ChangesOnly .firstSelection [0x08, 0x09, 0x0A] [.draught, .feeds, .flue, .timers]) ∧
  (ChangesOnly .unplannedSwitch [0x08, 0x09, 0x0A] [.draught, .feeds, .flue, .timers]) ∧
  (ChangesOnly .plannedSwitchNotice [0x0A] [.feeds]) ∧
  (ChangesOnly .plannedSwitchRun [0x08, 0x09, 0x0A] [.draught, .feeds, .flue, .timers]) ∧
  (ChangesOnly .deadTimeExpiry [] [.feeds, .timers]) ∧
  (ChangesOnly .busMatchReached [] [.feeds, .timers]) ∧
  (ChangesOnly .matchTimeout [0x0A] [.feeds, .flue, .timers]) ∧
  (ChangesOnly .feedInsertDone [] [.feeds, .timers]) ∧
  (ChangesOnly .feedInsTimeout [0x0A] [.feeds, .flue, .timers]) ∧
  (ChangesOnly .switchComplete [0x0A] [.feeds, .timers]) ∧
  (ChangesOnly .fedReqAutomatic [0x08, 0x09, 0x0A] [.draught, .feeds])

/-- For each command listed (of chapters 15 to 20), where it answers a next state: no register outside the kinds of page listed, in any copy, and no part of the state beside the parts listed (or none of the parts listed, for KeepsParts) is changed. -/
def Obligations.ChecksAndBusFrames : Prop :=
  (∀ (n : Port), ChangesOnly (.fastTrip n) [0x0B, 0x0C, 0x0F, 0x24, 0x26, 0x27] [.array, .boundary, .flue, .fnd, .hA, .hB, .lanes, .lp, .timers]) ∧
  (∀ (n : Port), ChangesOnly (.pathOvp n) [0x0B, 0x0C, 0x0F, 0x24, 0x26] [.array, .boundary, .flue, .fnd, .hA, .hB, .lanes, .lp, .timers]) ∧
  (∀ (k : Fin 64) (upper : Bool), ChangesOnly (.comparatorViolation k upper) [0x0B, 0x0C, 0x0F, 0x24, 0x26, 0x27] [.array, .boundary, .flue, .fnd,
    .hA, .hB, .lanes, .lp, .timers]) ∧
  (∀ (k : Fin 64) (value : Word), ChangesOnly (.cmpCfgWrite k value) [0x0B, 0x0C] []) ∧
  (∀ (page : Fin 2) (value : Word), ChangesOnly (.cmpForce page value) [0x0B, 0x0C, 0x0F] [.array, .flue, .hA, .hB]) ∧
  (∀ (n : Port), ChangesOnly (.fenderThresholdLoad n) [0x0B, 0x0C, 0x26] []) ∧
  (∀ (value : Word), ChangesOnly (.hthModeWrite value) [0x0D, 0x0E] [.flue, .hearths]) ∧
  (∀ (h : Hth) (idle : Bool) (good : Bool), ChangesOnly (.knownAnswerCheck h idle good) [0x00, 0x03, 0x04, 0x07, 0x08, 0x09, 0x0D, 0x0E, 0x0F, 0x13,
    0x20, 0x21, 0x22, 0x23, 0x24, 0x26, 0x27, 0x64, 0x6A] [.auth, .boundary, .cc, .draught, .ember, .flue, .fnd, .fresh, .hA, .hB, .hearths,
    .inputs, .lanes, .lp, .msg, .pol, .thn, .timers, .vdm]) ∧
  (∀ (h : Hth) (cause : LossCause) (output : LostOutput) (port : Port), ChangesOnly (.hearthFence h cause output port) [0x00, 0x03, 0x04, 0x07, 0x08,
    0x09, 0x0A, 0x0D, 0x0E, 0x0F, 0x13, 0x20, 0x21, 0x22, 0x23, 0x24, 0x26, 0x27] [.auth, .boundary, .cc, .draught, .ember, .feeds, .flue, .fnd,
    .fresh, .hA, .hB, .hearths, .inputs, .lanes, .lp, .msg, .pol, .thn, .timers, .vdm]) ∧
  (∀ (epoch : BitVec 8), ChangesOnly (.hthCmdReadmit epoch) [0x04, 0x0D, 0x0E] [.flue, .hearths]) ∧
  (∀ (epoch : BitVec 8), ChangesOnly (.hthCmdExchange epoch) [0x04, 0x0D] [.flue, .hearths]) ∧
  (∀ (epoch : BitVec 8), ChangesOnly (.hthCmdPowerOff epoch) [0x04, 0x0D] [.flue, .hearths]) ∧
  (∀ (epoch : BitVec 8) (arg : BitVec 16), ChangesOnly (.hthCmdFence epoch arg) [0x00, 0x03, 0x04, 0x07, 0x08, 0x09, 0x0D, 0x0F, 0x13, 0x20, 0x21,
    0x22, 0x23, 0x24, 0x26, 0x27] [.auth, .boundary, .cc, .draught, .ember, .flue, .fnd, .fresh, .hA, .hB, .hearths, .inputs, .lanes, .lp, .msg,
    .pol, .thn, .timers, .vdm]) ∧
  (∀ (epoch : BitVec 8) (check : HearthCheck), KeepsParts (.hearthReset epoch check) [.tbase, .tb, .ntcFitted, .ntcFault, .feeds, .fallbackV,
    .fallbackI, .pins, .array, .opctLost]) ∧
  (∀ (pass : Bool), KeepsParts (.copyBringupDone pass) [.tbase, .fresh, .ember, .tb, .cc, .msg, .pol, .vdm, .thn, .lp, .lanes, .fnd, .inputs,
    .ntcFitted, .ntcFault, .draught, .feeds, .fallbackV, .fallbackI, .auth, .pins, .boundary, .array, .opctLost]) ∧
  (∀ (cause : LossCause), ChangesOnly (.copySourceLost cause) [0x00, 0x03, 0x04, 0x07, 0x08, 0x09, 0x0D, 0x0F, 0x13, 0x20, 0x21, 0x22, 0x23, 0x24,
    0x26, 0x27] [.auth, .boundary, .cc, .draught, .ember, .flue, .fnd, .fresh, .hA, .hB, .hearths, .inputs, .lanes, .lp, .msg, .pol, .thn,
    .timers, .vdm]) ∧
  (∀ (h : Hth) (value : Word), ChangesOnly (.dbgViewSelWrite h value) [0x60, 0x66] [.flue]) ∧
  (∀ (source unit detail : BitVec 8), ChangesOnly (.flueReport source unit detail) [0x00, 0x03, 0x04, 0x07, 0x08, 0x09, 0x0A, 0x0D, 0x0F, 0x13, 0x20,
    0x21, 0x22, 0x23, 0x24, 0x26, 0x27] [.auth, .boundary, .cc, .draught, .ember, .feeds, .flue, .fnd, .fresh, .hA, .hB, .hearths, .inputs,
    .lanes, .lp, .msg, .pol, .thn, .timers, .vdm]) ∧
  (∀ (source unit : BitVec 8), ChangesOnly (.reportPathBroken source unit) [0x03] [.flue]) ∧
  (∀ (group : Fin 13) (unit : BitVec 8), ChangesOnly (.graceExpiry group unit) [0x00, 0x03, 0x04, 0x07, 0x08, 0x09, 0x0A, 0x0D, 0x0F, 0x13, 0x20,
    0x21, 0x22, 0x23, 0x24, 0x26, 0x27] [.auth, .boundary, .cc, .draught, .ember, .feeds, .flue, .fnd, .fresh, .hA, .hB, .hearths, .inputs,
    .lanes, .lp, .msg, .pol, .thn, .timers, .vdm]) ∧
  (∀ (group : Fin 13) (unit : BitVec 8), ChangesOnly (.persistExpiry group unit) [0x00, 0x03, 0x04, 0x07, 0x08, 0x09, 0x0A, 0x0B, 0x0C, 0x0D, 0x0F,
    0x13, 0x20, 0x21, 0x22, 0x23, 0x24, 0x26, 0x27] [.auth, .boundary, .cc, .draught, .ember, .feeds, .flue, .fnd, .fresh, .hA, .hB, .hearths,
    .inputs, .lanes, .lp, .msg, .pol, .thn, .timers, .vdm]) ∧
  (∀ (source unit : BitVec 8), ChangesOnly (.level3Entry source unit) [0x03, 0x04, 0x0F, 0x20, 0x22, 0x24, 0x26, 0x27] [.auth, .boundary, .cc,
    .draught, .ember, .flue, .fnd, .hA, .hB, .hearths, .inputs, .lanes, .lp, .msg, .pol, .thn, .timers, .vdm]) ∧
  (∀ (group : Fin 13) (unit : BitVec 8), ChangesOnly (.quietExpiry group unit) [0x00, 0x03, 0x04, 0x07, 0x08, 0x09, 0x0A, 0x0B, 0x0C, 0x0D, 0x0F,
    0x13, 0x20, 0x21, 0x22, 0x23, 0x24, 0x26, 0x27] [.auth, .boundary, .cc, .draught, .ember, .feeds, .flue, .fnd, .fresh, .hA, .hB, .hearths,
    .inputs, .lanes, .lp, .msg, .pol, .thn, .timers, .vdm]) ∧
  (∀ (group : Fin 16) (unit : BitVec 8), ChangesOnly (.fluCloseRecord group unit) [0x00, 0x03, 0x04, 0x07, 0x08, 0x09, 0x0A, 0x0B, 0x0C, 0x0D, 0x0F,
    0x13, 0x20, 0x21, 0x22, 0x23, 0x24, 0x26, 0x27] [.auth, .boundary, .cc, .draught, .ember, .feeds, .flue, .fnd, .fresh, .hA, .hB, .hearths,
    .inputs, .lanes, .lp, .msg, .pol, .thn, .timers, .vdm]) ∧
  (∀ (group : Fin 16), ChangesOnly (.fluZeroRecovery group) [0x03] []) ∧
  (∀ (value : Word), ChangesOnly (.fluInject value) [0x03] [.flue]) ∧
  (∀ (page : BitVec 8) (value : Word), KeepsParts (.forceWrite page value) [.tbase, .tb, .ntcFitted, .ntcFault, .feeds, .fallbackV, .fallbackI, .otp,
    .pins, .opctLost, .apart]) ∧
  (∀ (word : BitVec 10) (margin : BitVec 2) (flips : List OtpFlip), ChangesOnly (.otpRead word margin flips) [0x05] [.flue, .otp, .timers]) ∧
  (∀ (word : BitVec 10), ChangesOnly (.otpProgram word) [0x05] [.flue, .otp, .timers]) ∧
  (∀ (region : BitVec 3) (flips : List OtpFlip), ChangesOnly (.otpFinalise region flips) [0x05] [.flue, .otp, .timers]) ∧
  (∀ (region : BitVec 3), ChangesOnly (.otpLockWrite region) [0x05] [.flue, .otp, .timers]) ∧
  (∀ (region : BitVec 3), ChangesOnly (.otpLockRead region) [0x05] [.flue, .otp, .timers]) ∧
  (∀ (word : BitVec 10), ChangesOnly (.otpReblow word) [0x05] [.flue, .otp, .timers]) ∧
  (∀ (tries : List OtpTry), ChangesOnly (.otpCommandComplete tries) [0x05, 0x26] [.flue, .fnd, .otp, .timers]) ∧
  (∀ (reason : Fin 3) (tries : List OtpTry), ChangesOnly (.otpCommandAbort reason tries) [0x05, 0x26] [.flue, .fnd, .otp, .timers]) ∧
  (∀ (reg : Fin 64) (take : Nat), ChangesOnly (.regRead32 reg take) [0x00, 0x01, 0x02, 0x06, 0x21] [.auth, .draught, .ember, .flue, .fnd, .hearths,
    .inputs, .lanes, .lp, .msg, .pins, .pol, .thn, .timers, .vdm]) ∧
  (∀ (reg : Fin 64) (take : Nat), ChangesOnly (.blockRead reg take) [0x00, 0x01, 0x02, 0x06, 0x21] [.auth, .draught, .ember, .flue, .fnd, .hearths,
    .inputs, .lanes, .lp, .msg, .pins, .pol, .thn, .timers, .vdm]) ∧
  (∀ (page byte1 : BitVec 8) (tail : List Byte), ChangesOnly (.pageSelect page byte1 tail) [0x01, 0x04, 0x06] [.ember, .flue, .pins, .timers]) ∧
  (∀ (take : Nat), ChangesOnly (.pageSelectRead take) [0x01, 0x06] [.ember, .flue, .pins, .timers]) ∧
  (∀ (major : BitVec 8) (tail : List Byte), ChangesOnly (.dialectWrite major tail) [0x00, 0x01, 0x04, 0x06] [.ember, .flue, .pins, .timers]) ∧
  (∀ (take : Nat), ChangesOnly (.dialectRead take) [0x01, 0x06] [.ember, .flue, .pins, .timers]) ∧
  (∀ (take : Nat), ChangesOnly (.alertSourceRead take) [0x01, 0x06] [.ember, .flue, .pins, .timers]) ∧
  (∀ (count : BitVec 8) (stream : List Byte), ChangesOnly (.tablePortWrite count stream) [0x01, 0x04, 0x06, 0x07, 0x0F, 0x10, 0x11, 0x12] [.ember,
    .flue, .hA, .hB, .pins, .timers]) ∧
  (∀ (take : Nat), ChangesOnly (.tablePortRead take) [0x01, 0x04, 0x06, 0x07, 0x0F, 0x10, 0x11, 0x12, 0x63, 0x69] [.ember, .flue, .pins, .timers]) ∧
  (∀ (len : Nat), ChangesOnly (.readWithoutCommand len) [0x04, 0x06] [.ember, .flue, .pins]) ∧
  (∀ (rival : Option Byte) (take : Nat), ChangesOnly (.alertResponse rival take) [0x06] [.ember, .flue, .pins]) ∧
  (∀ (page : BitVec 8) (bit : Fin 32), ChangesOnly (.alertCause page bit) [0x06] []) ∧
  (∀ (value : Word), ChangesOnly (.smbConfigWrite value) [0x06] [.flue]) ∧
  (∀ (how : TxnEnd) (code : Option Byte) (bytes : Nat), ChangesOnly (.transactionAbandoned how code bytes) [0x04, 0x06] [.ember, .flue, .pins]) ∧
  (∀ (code : Option Byte) (bytes : Nat), ChangesOnly (.sclTimeout code bytes) [0x04, 0x06] [.ember, .flue, .pins]) ∧
  (∀ (self : Bool) (code : Option Byte) (bytes : Nat), ChangesOnly (.sdaStuck self code bytes) [0x04, 0x06] [.ember, .flue, .pins]) ∧
  (∀ (code : BitVec 8), ChangesOnly (.bankedHearthAccess code) [0x01] [.ember, .flue, .timers]) ∧
  (∀ (n : Port), ChangesOnly (.lowWaterRead n) [0x00, 0x21] [.auth, .draught, .fnd, .hearths, .inputs, .lanes, .lp, .msg, .pins, .pol, .thn, .timers,
    .vdm]) ∧
  (∀ (page : BitVec 8) (value : Word), KeepsParts (.eventW1cWrite page value) [.tbase, .fresh, .timers, .ember, .tb, .flue, .hearths, .cc, .msg,
    .pol, .vdm, .thn, .lp, .lanes, .fnd, .inputs, .ntcFitted, .ntcFault, .draught, .feeds, .fallbackV, .fallbackI, .otp, .auth, .pins, .boundary,
    .opctLost, .apart]) ∧
  (∀ (page : BitVec 8) (value : Word), ChangesOnly (.eventEnWrite page value) [0x06, pageKind page.toNat] []) ∧
  (∀ (k : Fin 64), ChangesOnly (.comparatorViolationEnd k) [0x0B, 0x0C] []) ∧
  (ChangesOnly .modeHandover [0x0B, 0x0C, 0x0D, 0x0E, 0x0F, 0x20, 0x22, 0x24, 0x26] [.boundary, .cc, .draught, .flue, .fnd, .hA, .hB, .hearths, .lp,
    .pol, .timers]) ∧
  (ChangesOnly .fencePowerOff [0x0D] [.apart, .hearths]) ∧
  (KeepsParts .copyBulkDone [.tbase, .timers, .ember, .tb, .flue, .cc, .msg, .pol, .vdm, .thn, .lp, .lanes, .fnd, .inputs, .ntcFitted, .ntcFault,
    .draught, .feeds, .fallbackV, .fallbackI, .otp, .auth, .pins, .boundary, .array, .opctLost, .apart]) ∧
  (KeepsParts .copySnapshot [.tbase, .fresh, .timers, .ember, .tb, .flue, .cc, .msg, .pol, .vdm, .thn, .lp, .lanes, .fnd, .inputs, .ntcFitted,
    .ntcFault, .draught, .feeds, .fallbackV, .fallbackI, .otp, .auth, .pins, .boundary, .array, .opctLost]) ∧
  (ChangesOnly .copyLiveReached [0x0D, 0x0E] [.flue, .hearths, .timers]) ∧
  (ChangesOnly .trialEnd [0x04, 0x0A, 0x0B, 0x0C, 0x0D, 0x0E, 0x0F, 0x20, 0x22, 0x24, 0x26] [.auth, .boundary, .cc, .draught, .feeds, .flue, .fnd,
    .hA, .hB, .hearths, .inputs, .lanes, .lp, .msg, .pol, .thn, .timers, .vdm]) ∧
  (ChangesOnly .copyAttemptFail [0x0D, 0x0E] [.flue, .hearths, .timers]) ∧
  (ChangesOnly .l3ResetsClear [0x03] [.timers]) ∧
  (ChangesOnly .fluCloseAll [0x00, 0x03, 0x04, 0x07, 0x08, 0x09, 0x0A, 0x0B, 0x0C, 0x0D, 0x0F, 0x13, 0x20, 0x21, 0x22, 0x23, 0x24, 0x26, 0x27]
    [.auth, .boundary, .cc, .draught, .ember, .feeds, .flue, .fnd, .fresh, .hA, .hB, .hearths, .inputs, .lanes, .lp, .msg, .pol, .thn, .timers,
    .vdm]) ∧
  (ChangesOnly .ashSootClear [0x04] []) ∧
  (ChangesOnly .ashFirstClear [0x04] [.flue]) ∧
  (ChangesOnly .ashClear [0x04] [.flue]) ∧
  (ChangesOnly .quickCommand [0x06] [.ember, .pins]) ∧
  (ChangesOnly .smbRealert [0x06] []) ∧
  (ChangesOnly .resetCauseRead [0x00, 0x21] [.auth, .draught, .fnd, .hearths, .inputs, .lanes, .lp, .msg, .pins, .pol, .thn, .timers, .vdm])
end

