-- ==== Sys2Proof/Laws/Complete.lean ====
section
/-! SUPPORT. Every command answers a next state on every state: the spec gives each of them an effect, if only that nothing happens. -/

namespace Sys2Proof.Machine

theorem exec_answers (c : Instr) (s : State) : ∃ t, exec c s = .next t := by
  cases c <;> exact ⟨_, rfl⟩

end Sys2Proof.Machine
end

