-- ==== Sys2Proof/Laws/Sparse.lean ====
section
/-! SUPPORT. The laws of the sparse store and of bit fields: a read after a write, and the canonical form that every write keeps. -/

namespace Sys2Proof.Machine

/-! ### The sparse store -/

variable {α : Type}

theorem sparseRead_erase (d : Nat → α) (m : List (Nat × α)) (k j : Nat) :
    sparseRead d (sparseErase m k) j = if j = k then d j else sparseRead d m j := by
  induction m with
  | nil => simp [sparseErase, sparseRead]
  | cons p t ih =>
    obtain ⟨a, v⟩ := p
    simp only [sparseErase, sparseRead]
    by_cases ha : a = k
    · subst ha
      simp only [if_true, ih]
      by_cases hj : j = a
      · simp [hj]
      · simp [hj, Ne.symm hj]
    · simp only [ha, if_false, sparseRead, ih]
      by_cases hj : a = j
      · subst hj; simp [ha]
      · simp [hj]

theorem sparseRead_insert (d : Nat → α) (m : List (Nat × α)) (k j : Nat) (v : α) (hk : ∀ p ∈ m, p.1 ≠ k) :
    sparseRead d (sparseInsert m k v) j = if j = k then v else sparseRead d m j := by
  induction m with
  | nil =>
    simp only [sparseInsert, sparseRead]
    by_cases hj : j = k
    · simp [hj]
    · simp [hj, Ne.symm hj]
  | cons p t ih =>
    obtain ⟨a, w⟩ := p
    have hak : a ≠ k := hk (a, w) (List.mem_cons_self ..)
    have ht := ih fun q hq => hk q (List.mem_cons_of_mem _ hq)
    simp only [sparseInsert]
    split
    · simp only [sparseRead]
      by_cases hj : j = k
      · simp [hj]
      · simp [hj, Ne.symm hj]
    · simp only [sparseRead, ht]
      by_cases hj : a = j
      · subst hj; simp [hak]
      · simp [hj]

theorem sparseErase_ne (m : List (Nat × α)) (k : Nat) : ∀ p ∈ sparseErase m k, p.1 ≠ k := by
  induction m with
  | nil => simp [sparseErase]
  | cons p t ih =>
    obtain ⟨a, v⟩ := p
    intro q hq
    simp only [sparseErase] at hq
    by_cases ha : a = k
    · simp only [ha, if_true] at hq; exact ih q hq
    · simp only [ha, if_false, List.mem_cons] at hq
      rcases hq with hq | hq
      · subst hq; exact ha
      · exact ih q hq

/-- A read after a write gives what was written at that key, and what was there before at any other. -/
theorem sparseRead_write [DecidableEq α] (d : Nat → α) (m : List (Nat × α)) (k j : Nat) (v : α) :
    sparseRead d (sparseWrite d m k v) j = if j = k then v else sparseRead d m j := by
  unfold sparseWrite
  by_cases hv : v = d k
  · rw [if_pos hv, sparseRead_erase]
    by_cases hj : j = k
    · simp [hj, hv]
    · simp [hj]
  · rw [if_neg hv, sparseRead_insert _ _ _ _ _ (sparseErase_ne m k), sparseRead_erase]
    by_cases hj : j = k <;> simp [hj]

theorem mem_sparseErase (m : List (Nat × α)) (k : Nat) (p : Nat × α) (h : p ∈ sparseErase m k) : p ∈ m := by
  induction m with
  | nil => simp [sparseErase] at h
  | cons q t ih =>
    obtain ⟨a, v⟩ := q
    simp only [sparseErase] at h
    by_cases ha : a = k
    · simp only [ha, if_true] at h; exact List.mem_cons_of_mem _ (ih h)
    · simp only [ha, if_false, List.mem_cons] at h
      rcases h with h | h
      · subst h; exact List.mem_cons_self ..
      · exact List.mem_cons_of_mem _ (ih h)

theorem mem_sparseInsert (m : List (Nat × α)) (k : Nat) (v : α) (p : Nat × α) (h : p ∈ sparseInsert m k v) :
    p = (k, v) ∨ p ∈ m := by
  induction m with
  | nil => simpa [sparseInsert] using h
  | cons q t ih =>
    obtain ⟨a, w⟩ := q
    simp only [sparseInsert] at h
    split at h
    · simpa using h
    · rcases List.mem_cons.mp h with h | h
      · exact .inr (by simp [h])
      · rcases ih h with h | h
        · exact .inl h
        · exact .inr (List.mem_cons_of_mem _ h)

/-- The canonical form, entry by entry. -/
theorem sparseWf_cons [DecidableEq α] (d : Nat → α) (p : Nat × α) (t : List (Nat × α)) :
    sparseWf d (p :: t) = true ↔ p.2 ≠ d p.1 ∧ (∀ q ∈ t, p.1 < q.1) ∧ sparseWf d t = true := by
  obtain ⟨a, v⟩ := p
  simp [sparseWf, List.all_eq_true, and_assoc]

theorem sparseErase_wf [DecidableEq α] (d : Nat → α) (m : List (Nat × α)) (k : Nat) (h : sparseWf d m = true) :
    sparseWf d (sparseErase m k) = true := by
  induction m with
  | nil => exact h
  | cons p t ih =>
    obtain ⟨hp, hlt, ht⟩ := (sparseWf_cons d p t).mp h
    obtain ⟨a, v⟩ := p
    simp only [sparseErase]
    by_cases ha : a = k
    · simp only [ha, if_true]; exact ih ht
    · simp only [ha, if_false]
      exact (sparseWf_cons d _ _).mpr ⟨hp, fun q hq => hlt q (mem_sparseErase t k q hq), ih ht⟩

theorem sparseInsert_wf [DecidableEq α] (d : Nat → α) (m : List (Nat × α)) (k : Nat) (v : α) (hv : v ≠ d k)
    (hk : ∀ p ∈ m, p.1 ≠ k) (h : sparseWf d m = true) : sparseWf d (sparseInsert m k v) = true := by
  induction m with
  | nil => simp [sparseInsert, sparseWf, hv]
  | cons p t ih =>
    obtain ⟨hp, hlt, ht⟩ := (sparseWf_cons d p t).mp h
    obtain ⟨a, w⟩ := p
    have hak : a ≠ k := hk (a, w) (List.mem_cons_self ..)
    simp only [sparseInsert]
    split
    · rename_i hka
      refine (sparseWf_cons d _ _).mpr ⟨hv, ?_, h⟩
      intro q hq
      rcases List.mem_cons.mp hq with hq | hq
      · subst hq; exact hka
      · exact Nat.lt_trans hka (hlt q hq)
    · rename_i hka
      refine (sparseWf_cons d _ _).mpr ⟨hp, ?_, ih (fun q hq => hk q (List.mem_cons_of_mem _ hq)) ht⟩
      intro q hq
      rcases mem_sparseInsert t k v q hq with hq | hq
      · subst hq; show a < k; omega
      · exact hlt q hq

/-- Every write keeps the canonical form. -/
theorem sparseWrite_wf [DecidableEq α] (d : Nat → α) (m : List (Nat × α)) (k : Nat) (v : α) (h : sparseWf d m = true) :
    sparseWf d (sparseWrite d m k v) = true := by
  unfold sparseWrite
  split
  · exact sparseErase_wf d m k h
  · rename_i hv
    exact sparseInsert_wf d _ k v hv (sparseErase_ne m k) (sparseErase_wf d m k h)

/-! ### Bit fields of a word -/

theorem bitsSet_toNat (w : Word) (lo width v : Nat) (h : lo + width ≤ 32) :
    (bitsSet w lo width v).toNat =
      w.toNat % 2 ^ lo + v % 2 ^ width * 2 ^ lo + w.toNat / 2 ^ (lo + width) * 2 ^ (lo + width) := by
  unfold bitsSet
  rw [BitVec.toNat_ofNat, Nat.mod_eq_of_lt]
  have h1 : w.toNat % 2 ^ lo < 2 ^ lo := Nat.mod_lt _ (Nat.two_pow_pos lo)
  have h2 : v % 2 ^ width < 2 ^ width := Nat.mod_lt _ (Nat.two_pow_pos width)
  have h3 : v % 2 ^ width * 2 ^ lo + 2 ^ lo ≤ 2 ^ (lo + width) := by
    have : (v % 2 ^ width + 1) * 2 ^ lo ≤ 2 ^ width * 2 ^ lo := Nat.mul_le_mul_right _ h2
    rw [Nat.pow_add, Nat.mul_comm (2 ^ lo)]; rw [Nat.add_mul, Nat.one_mul] at this; exact this
  have hq : w.toNat / 2 ^ (lo + width) < 2 ^ (32 - (lo + width)) := by
    rw [Nat.div_lt_iff_lt_mul (Nat.two_pow_pos _), ← Nat.pow_add]
    have : 32 - (lo + width) + (lo + width) = 32 := by omega
    rw [this]; exact w.isLt
  have h4 : w.toNat / 2 ^ (lo + width) * 2 ^ (lo + width) + 2 ^ (lo + width) ≤ 2 ^ 32 := by
    have h5 : (w.toNat / 2 ^ (lo + width) + 1) * 2 ^ (lo + width) ≤ 2 ^ (32 - (lo + width)) * 2 ^ (lo + width) :=
      Nat.mul_le_mul_right _ hq
    rw [← Nat.pow_add] at h5
    have : 32 - (lo + width) + (lo + width) = 32 := by omega
    rw [this, Nat.add_mul, Nat.one_mul] at h5; exact h5
  omega

/-- The bits of a word after a field of it is replaced. -/
theorem bitsSet_testBit (w : Word) (lo width v i : Nat) (h : lo + width ≤ 32) :
    (bitsSet w lo width v).toNat.testBit i =
      if i < lo then w.toNat.testBit i else if i < lo + width then v.testBit (i - lo) else w.toNat.testBit i := by
  rw [bitsSet_toNat w lo width v h]
  have hl : w.toNat % 2 ^ lo < 2 ^ lo := Nat.mod_lt _ (Nat.two_pow_pos lo)
  have h2 : v % 2 ^ width < 2 ^ width := Nat.mod_lt _ (Nat.two_pow_pos width)
  have e : w.toNat % 2 ^ lo + v % 2 ^ width * 2 ^ lo + w.toNat / 2 ^ (lo + width) * 2 ^ (lo + width) =
      2 ^ lo * (2 ^ width * (w.toNat / 2 ^ (lo + width)) + v % 2 ^ width) + w.toNat % 2 ^ lo := by
    rw [Nat.pow_add]
    have e1 : w.toNat / (2 ^ lo * 2 ^ width) * (2 ^ lo * 2 ^ width) =
        2 ^ lo * (2 ^ width * (w.toNat / (2 ^ lo * 2 ^ width))) := by
      rw [Nat.mul_comm, Nat.mul_assoc]
    rw [e1, Nat.mul_add, Nat.mul_comm (v % 2 ^ width) (2 ^ lo)]; omega
  rw [e, Nat.testBit_two_pow_mul_add _ hl]
  by_cases h1 : i < lo
  · simp [h1, Nat.testBit_mod_two_pow]
  · simp only [h1, if_false]
    rw [Nat.testBit_two_pow_mul_add _ h2]
    by_cases h3 : i < lo + width
    · have : i - lo < width := by omega
      simp [h3, this, Nat.testBit_mod_two_pow]
    · have : ¬ i - lo < width := by omega
      simp only [h3, this, if_false, Nat.testBit_div_two_pow]
      congr 1; omega

theorem bitsGet_testBit (w : Word) (lo width i : Nat) :
    (bitsGet w lo width).testBit i = (decide (i < width) && w.toNat.testBit (lo + i)) := by
  unfold bitsGet
  rw [Nat.testBit_mod_two_pow, Nat.testBit_div_two_pow, Nat.add_comm]

/-- A field read back after it is written. -/
theorem bitsGet_bitsSet_same (w : Word) (lo width v : Nat) (h : lo + width ≤ 32) :
    bitsGet (bitsSet w lo width v) lo width = v % 2 ^ width := by
  apply Nat.eq_of_testBit_eq; intro i
  rw [bitsGet_testBit, bitsSet_testBit _ _ _ _ _ h, Nat.testBit_mod_two_pow]
  by_cases hi : i < width
  · have h1 : ¬ lo + i < lo := by omega
    have h2 : lo + i < lo + width := by omega
    simp [hi, h1]
  · simp [hi]

/-- A field that shares no bit with the one written. -/
theorem bitsGet_bitsSet_ne (w : Word) (lo width v lo' width' : Nat) (h : lo + width ≤ 32)
    (ha : lo + width ≤ lo' ∨ lo' + width' ≤ lo) : bitsGet (bitsSet w lo width v) lo' width' = bitsGet w lo' width' := by
  apply Nat.eq_of_testBit_eq; intro i
  rw [bitsGet_testBit, bitsGet_testBit, bitsSet_testBit _ _ _ _ _ h]
  by_cases hi : i < width'
  · rcases ha with ha | ha
    · have h1 : ¬ lo' + i < lo := by omega
      have h2 : ¬ lo' + i < lo + width := by omega
      simp [h1, h2]
    · have h1 : lo' + i < lo := by omega
      simp [h1]
  · simp [hi]

end Sys2Proof.Machine
end

