-- ==== Sys2Proof/Laws/Regs.lean ====
section
/-! SUPPORT. The laws of the register fabric: what a field reads as after a field is written, and the canonical form of the store. -/

namespace Sys2Proof.Machine

/-- Two fields share no bit of one register. -/
abbrev Field.apart (f g : Field) : Prop := f.addr ≠ g.addr ∨ f.lo + f.width ≤ g.lo ∨ g.lo + g.width ≤ f.lo

/-- A field lies in a word of 32 bits. -/
abbrev Field.fits (f : Field) : Prop := f.lo + f.width ≤ 32

theorem regKey_inj (a a' c c' : Nat) (hc : c < 4) (hc' : c' < 4) : regKey a c = regKey a' c' ↔ a = a' ∧ c = c' := by
  unfold regKey; omega

/-! ### A write changes the registers only -/

@[simp] theorem State.set_pending (s : State) (f : Field) (v : Nat) : (s.set f v).pending = s.pending := rfl
@[simp] theorem State.set_tbase (s : State) (f : Field) (v : Nat) : (s.set f v).tbase = s.tbase := rfl
@[simp] theorem State.set_fresh (s : State) (f : Field) (v : Nat) : (s.set f v).fresh = s.fresh := rfl
@[simp] theorem State.set_timers (s : State) (f : Field) (v : Nat) : (s.set f v).timers = s.timers := rfl
@[simp] theorem State.set_ember (s : State) (f : Field) (v : Nat) : (s.set f v).ember = s.ember := rfl
@[simp] theorem State.set_tb (s : State) (f : Field) (v : Nat) : (s.set f v).tb = s.tb := rfl
@[simp] theorem State.set_flue (s : State) (f : Field) (v : Nat) : (s.set f v).flue = s.flue := rfl
@[simp] theorem State.set_hearths (s : State) (f : Field) (v : Nat) : (s.set f v).hearths = s.hearths := rfl
@[simp] theorem State.set_cc (s : State) (f : Field) (v : Nat) : (s.set f v).cc = s.cc := rfl
@[simp] theorem State.set_msg (s : State) (f : Field) (v : Nat) : (s.set f v).msg = s.msg := rfl
@[simp] theorem State.set_pol (s : State) (f : Field) (v : Nat) : (s.set f v).pol = s.pol := rfl
@[simp] theorem State.set_vdm (s : State) (f : Field) (v : Nat) : (s.set f v).vdm = s.vdm := rfl
@[simp] theorem State.set_thn (s : State) (f : Field) (v : Nat) : (s.set f v).thn = s.thn := rfl
@[simp] theorem State.set_lp (s : State) (f : Field) (v : Nat) : (s.set f v).lp = s.lp := rfl
@[simp] theorem State.set_lanes (s : State) (f : Field) (v : Nat) : (s.set f v).lanes = s.lanes := rfl
@[simp] theorem State.set_fnd (s : State) (f : Field) (v : Nat) : (s.set f v).fnd = s.fnd := rfl
@[simp] theorem State.set_inputs (s : State) (f : Field) (v : Nat) : (s.set f v).inputs = s.inputs := rfl
@[simp] theorem State.set_ntcFitted (s : State) (f : Field) (v : Nat) : (s.set f v).ntcFitted = s.ntcFitted := rfl
@[simp] theorem State.set_ntcFault (s : State) (f : Field) (v : Nat) : (s.set f v).ntcFault = s.ntcFault := rfl
@[simp] theorem State.set_draught (s : State) (f : Field) (v : Nat) : (s.set f v).draught = s.draught := rfl
@[simp] theorem State.set_feeds (s : State) (f : Field) (v : Nat) : (s.set f v).feeds = s.feeds := rfl
@[simp] theorem State.set_hA (s : State) (f : Field) (v : Nat) : (s.set f v).hA = s.hA := rfl
@[simp] theorem State.set_hB (s : State) (f : Field) (v : Nat) : (s.set f v).hB = s.hB := rfl
@[simp] theorem State.set_fallbackV (s : State) (f : Field) (v : Nat) : (s.set f v).fallbackV = s.fallbackV := rfl
@[simp] theorem State.set_fallbackI (s : State) (f : Field) (v : Nat) : (s.set f v).fallbackI = s.fallbackI := rfl
@[simp] theorem State.set_otp (s : State) (f : Field) (v : Nat) : (s.set f v).otp = s.otp := rfl
@[simp] theorem State.set_auth (s : State) (f : Field) (v : Nat) : (s.set f v).auth = s.auth := rfl
@[simp] theorem State.set_pins (s : State) (f : Field) (v : Nat) : (s.set f v).pins = s.pins := rfl
@[simp] theorem State.set_boundary (s : State) (f : Field) (v : Nat) : (s.set f v).boundary = s.boundary := rfl
@[simp] theorem State.set_array (s : State) (f : Field) (v : Nat) : (s.set f v).array = s.array := rfl
@[simp] theorem State.set_opctLost (s : State) (f : Field) (v : Nat) : (s.set f v).opctLost = s.opctLost := rfl
@[simp] theorem State.set_apart (s : State) (f : Field) (v : Nat) : (s.set f v).apart = s.apart := rfl

/-! ### The copies that a write reaches -/

theorem State.copies_lt (s : State) (h : Home) : ∀ c ∈ s.copies h, c < 4 := by
  intro c hc
  cases h with
  | single => simp [State.copies] at hc; omega
  | own h => cases h <;> simp [State.copies, hthCopy] at hc <;> omega
  | port n =>
    simp only [State.copies] at hc
    cases s.runsPort .A n <;> cases s.runsPort .B n <;> simp at hc <;> omega
  | dev =>
    simp only [State.copies] at hc
    cases s.runsDev .A <;> cases s.runsDev .B <;> simp at hc <;> omega

theorem State.copies_nodup (s : State) (h : Home) : (s.copies h).Nodup := by
  cases h with
  | single => simp [State.copies]
  | own h => simp [State.copies]
  | port n => simp only [State.copies]; cases s.runsPort .A n <;> cases s.runsPort .B n <;> decide
  | dev => simp only [State.copies]; cases s.runsDev .A <;> cases s.runsDev .B <;> decide

/-- The copy that a read returns is among those that a write reaches. -/
theorem State.copyOf_mem (s : State) (h : Home) : s.copyOf h ∈ s.copies h := by
  cases h with
  | single => simp [State.copies, State.copyOf]
  | own h => simp [State.copies, State.copyOf]
  | port n =>
    simp only [State.copies, State.copyOf]
    cases hd : s.driver n <;> simp [State.runsPort, hd, hthCopy]
  | dev =>
    simp only [State.copies, State.copyOf]
    cases hd : s.devHearth <;> simp [State.runsDev, hd, hthCopy]

theorem State.copyOf_lt (s : State) (h : Home) : s.copyOf h < 4 := s.copies_lt h _ (s.copyOf_mem h)

@[simp] theorem State.set_copyOf (s : State) (f : Field) (v : Nat) (h : Home) : (s.set f v).copyOf h = s.copyOf h := by
  cases h <;> rfl

@[simp] theorem State.set_copies (s : State) (f : Field) (v : Nat) (h : Home) : (s.set f v).copies h = s.copies h := by
  cases h <;> rfl

/-! ### Reads after writes -/

theorem regsSet_read (m : List (Nat × Word)) (f : Field) (v : Nat) (cs : List Nat) (k : Nat) (hn : cs.Nodup)
    (hl : ∀ c ∈ cs, c < 4) :
    sparseRead regDefault (regsSet m f v cs) k =
      if k ∈ cs.map (regKey f.addr) then bitsSet (sparseRead regDefault m k) f.lo f.width v else sparseRead regDefault m k := by
  induction cs generalizing m with
  | nil => simp [regsSet]
  | cons c t ih =>
    rw [List.nodup_cons] at hn
    have hc : c < 4 := hl c (List.mem_cons_self ..)
    simp only [regsSet]
    rw [ih _ hn.2 fun x hx => hl x (List.mem_cons_of_mem _ hx)]
    simp only [sparseRead_write, List.map_cons, List.mem_cons]
    by_cases hk : k = regKey f.addr c
    · subst hk
      have hno : regKey f.addr c ∉ t.map (regKey f.addr) := by
        intro hm
        obtain ⟨x, hx, he⟩ := List.mem_map.mp hm
        have := (regKey_inj _ _ _ _ (hl x (List.mem_cons_of_mem _ hx)) hc).mp he
        exact hn.1 (this.2 ▸ hx)
      simp [hno]
    · simp [hk]

/-- The word of a register after a field is written. -/
theorem State.word_set (s : State) (f : Field) (v a c : Nat) (hc : c < 4) :
    (s.set f v).word a c = if a = f.addr ∧ c ∈ s.copies f.home then bitsSet (s.word a c) f.lo f.width v else s.word a c := by
  unfold State.word State.set
  rw [regsSet_read _ _ _ _ _ (s.copies_nodup f.home) (s.copies_lt f.home)]
  have : (regKey a c ∈ (s.copies f.home).map (regKey f.addr)) ↔ (a = f.addr ∧ c ∈ s.copies f.home) := by
    constructor
    · intro hm
      obtain ⟨x, hx, he⟩ := List.mem_map.mp hm
      have := (regKey_inj _ _ _ _ (s.copies_lt f.home x hx) hc).mp he
      exact ⟨this.1.symm, this.2 ▸ hx⟩
    · rintro ⟨rfl, hm⟩
      exact List.mem_map_of_mem hm
  simp only [this]

/-- A field reads as what was last written to it, modulo its width. -/
theorem State.get_set_same (s : State) (f : Field) (v : Nat) (h : f.fits) : (s.set f v).get f = v % 2 ^ f.width := by
  unfold State.get
  rw [s.set_copyOf, s.word_set f v _ _ (s.copyOf_lt _), if_pos ⟨rfl, s.copyOf_mem _⟩, bitsGet_bitsSet_same _ _ _ _ h]

/-- A write leaves every field that shares no bit with the one written. -/
theorem State.get_set_apart (s : State) (f g : Field) (v : Nat) (h : f.fits) (ha : f.apart g) :
    (s.set f v).get g = s.get g := by
  unfold State.get
  rw [s.set_copyOf, s.word_set f v _ _ (s.copyOf_lt _)]
  split
  · rename_i hh
    rcases ha with ha | ha
    · exact absurd hh.1.symm ha
    · exact bitsGet_bitsSet_ne _ _ _ _ _ _ h ha
  · rfl

/-- Two states with the same registers and the same hearths read every field alike. -/
theorem State.get_congr (s t : State) (f : Field) (hr : t.regs = s.regs) (hh : t.hearths = s.hearths) : t.get f = s.get f := by
  have hc : t.copyOf f.home = s.copyOf f.home := by
    cases f.home with
    | single => rfl
    | own h => rfl
    | port n => simp [State.copyOf, State.driver, State.activeHearth, hh]
    | dev => simp [State.copyOf, State.devHearth, State.activeHearth, hh]
  unfold State.get State.word
  rw [hc, hr]

/-! ### Fields as functions of the registers and the hearths alone -/

/-- What a field reads as, given the registers and the hearths. -/
def regGet (m : List (Nat × Word)) (h : Hearths) (f : Field) : Nat := ({ State.reset with regs := m, hearths := h } : State).get f

/-- The registers after a field is written. -/
def regPut (m : List (Nat × Word)) (h : Hearths) (f : Field) (v : Nat) : List (Nat × Word) :=
  (({ State.reset with regs := m, hearths := h } : State).set f v).regs

theorem State.get_eq_regGet (s : State) (f : Field) : s.get f = regGet s.regs s.hearths f := State.get_congr _ _ _ rfl rfl

theorem State.set_regs (s : State) (f : Field) (v : Nat) : (s.set f v).regs = regPut s.regs s.hearths f v := by
  have : s.copies f.home = ({ State.reset with regs := s.regs, hearths := s.hearths } : State).copies f.home := by
    cases f.home <;> rfl
  show regsSet _ _ _ _ = regsSet _ _ _ _
  rw [this]

theorem regGet_put_same (m : List (Nat × Word)) (h : Hearths) (f : Field) (v : Nat) (hf : f.fits) :
    regGet (regPut m h f v) h f = v % 2 ^ f.width := by
  have := State.get_set_same ({ State.reset with regs := m, hearths := h } : State) f v hf
  rw [State.get_eq_regGet] at this; exact this

theorem regGet_put_apart (m : List (Nat × Word)) (h : Hearths) (f g : Field) (v : Nat) (hf : f.fits) (ha : f.apart g) :
    regGet (regPut m h f v) h g = regGet m h g := by
  have := State.get_set_apart ({ State.reset with regs := m, hearths := h } : State) f g v hf ha
  rw [State.get_eq_regGet] at this; exact this

/-! ### The canonical form of the register store -/

theorem regsSet_wf (m : List (Nat × Word)) (f : Field) (v : Nat) (cs : List Nat) (h : sparseWf regDefault m = true) :
    sparseWf regDefault (regsSet m f v cs) = true := by
  induction cs generalizing m with
  | nil => exact h
  | cons c t ih => exact ih _ (sparseWrite_wf _ _ _ _ h)

@[simp] theorem State.set_wf (s : State) (f : Field) (v : Nat) (h : s.Wf) : (s.set f v).Wf := regsSet_wf _ _ _ _ h

@[simp] theorem State.putWord_wf (s : State) (a c : Nat) (w : Word) (h : s.Wf) : (s.putWord a c w).Wf := sparseWrite_wf _ _ _ _ h

/-- Presenting words from a store keeps the canonical form. -/
theorem regsRestore_wf (m : List (Nat × Word)) (cs : List Nat) (f : Nat → Nat → Word) (into : List (Nat × Word))
    (h : sparseWf regDefault into = true) : sparseWf regDefault (regsRestore m cs f into) = true := by
  have inner (a : Nat) : ∀ (cs : List Nat) (t : List (Nat × Word)), sparseWf regDefault t = true →
      sparseWf regDefault (cs.foldl (fun t c => sparseWrite regDefault t (regKey a c) (f a c)) t) = true := by
    intro cs
    induction cs with
    | nil => exact fun t h => h
    | cons c l ih => exact fun t h => ih _ (sparseWrite_wf _ _ _ _ h)
  unfold regsRestore
  induction m generalizing into with
  | nil => exact h
  | cons p l ih => exact ih _ (inner _ _ _ h)

end Sys2Proof.Machine
end

