-- ==== Sys2Proof/Laws/State.lean ====
section
/-! SUPPORT. The state record: for each update and each component that it leaves alone, one lemma true by definition, so that no proof
unfolds a record update; and what a field reads as through the updates that touch no register. -/

namespace Sys2Proof.Machine


/-! ### start -/

@[simp] theorem State.start_pending (s : State) (k : TimerKind) (u x : Nat) : (s.start k u x).pending = s.pending := rfl
@[simp] theorem State.start_tbase (s : State) (k : TimerKind) (u x : Nat) : (s.start k u x).tbase = s.tbase := rfl
@[simp] theorem State.start_fresh (s : State) (k : TimerKind) (u x : Nat) : (s.start k u x).fresh = s.fresh := rfl
@[simp] theorem State.start_regs (s : State) (k : TimerKind) (u x : Nat) : (s.start k u x).regs = s.regs := rfl
@[simp] theorem State.start_ember (s : State) (k : TimerKind) (u x : Nat) : (s.start k u x).ember = s.ember := rfl
@[simp] theorem State.start_tb (s : State) (k : TimerKind) (u x : Nat) : (s.start k u x).tb = s.tb := rfl
@[simp] theorem State.start_flue (s : State) (k : TimerKind) (u x : Nat) : (s.start k u x).flue = s.flue := rfl
@[simp] theorem State.start_hearths (s : State) (k : TimerKind) (u x : Nat) : (s.start k u x).hearths = s.hearths := rfl
@[simp] theorem State.start_cc (s : State) (k : TimerKind) (u x : Nat) : (s.start k u x).cc = s.cc := rfl
@[simp] theorem State.start_msg (s : State) (k : TimerKind) (u x : Nat) : (s.start k u x).msg = s.msg := rfl
@[simp] theorem State.start_pol (s : State) (k : TimerKind) (u x : Nat) : (s.start k u x).pol = s.pol := rfl
@[simp] theorem State.start_vdm (s : State) (k : TimerKind) (u x : Nat) : (s.start k u x).vdm = s.vdm := rfl
@[simp] theorem State.start_thn (s : State) (k : TimerKind) (u x : Nat) : (s.start k u x).thn = s.thn := rfl
@[simp] theorem State.start_lp (s : State) (k : TimerKind) (u x : Nat) : (s.start k u x).lp = s.lp := rfl
@[simp] theorem State.start_lanes (s : State) (k : TimerKind) (u x : Nat) : (s.start k u x).lanes = s.lanes := rfl
@[simp] theorem State.start_fnd (s : State) (k : TimerKind) (u x : Nat) : (s.start k u x).fnd = s.fnd := rfl
@[simp] theorem State.start_inputs (s : State) (k : TimerKind) (u x : Nat) : (s.start k u x).inputs = s.inputs := rfl
@[simp] theorem State.start_ntcFitted (s : State) (k : TimerKind) (u x : Nat) : (s.start k u x).ntcFitted = s.ntcFitted := rfl
@[simp] theorem State.start_ntcFault (s : State) (k : TimerKind) (u x : Nat) : (s.start k u x).ntcFault = s.ntcFault := rfl
@[simp] theorem State.start_draught (s : State) (k : TimerKind) (u x : Nat) : (s.start k u x).draught = s.draught := rfl
@[simp] theorem State.start_feeds (s : State) (k : TimerKind) (u x : Nat) : (s.start k u x).feeds = s.feeds := rfl
@[simp] theorem State.start_hA (s : State) (k : TimerKind) (u x : Nat) : (s.start k u x).hA = s.hA := rfl
@[simp] theorem State.start_hB (s : State) (k : TimerKind) (u x : Nat) : (s.start k u x).hB = s.hB := rfl
@[simp] theorem State.start_fallbackV (s : State) (k : TimerKind) (u x : Nat) : (s.start k u x).fallbackV = s.fallbackV := rfl
@[simp] theorem State.start_fallbackI (s : State) (k : TimerKind) (u x : Nat) : (s.start k u x).fallbackI = s.fallbackI := rfl
@[simp] theorem State.start_otp (s : State) (k : TimerKind) (u x : Nat) : (s.start k u x).otp = s.otp := rfl
@[simp] theorem State.start_auth (s : State) (k : TimerKind) (u x : Nat) : (s.start k u x).auth = s.auth := rfl
@[simp] theorem State.start_pins (s : State) (k : TimerKind) (u x : Nat) : (s.start k u x).pins = s.pins := rfl
@[simp] theorem State.start_boundary (s : State) (k : TimerKind) (u x : Nat) : (s.start k u x).boundary = s.boundary := rfl
@[simp] theorem State.start_array (s : State) (k : TimerKind) (u x : Nat) : (s.start k u x).array = s.array := rfl
@[simp] theorem State.start_opctLost (s : State) (k : TimerKind) (u x : Nat) : (s.start k u x).opctLost = s.opctLost := rfl
@[simp] theorem State.start_apart (s : State) (k : TimerKind) (u x : Nat) : (s.start k u x).apart = s.apart := rfl
@[simp] theorem State.start_get (s : State) (k : TimerKind) (u x : Nat) (g : Field) : (s.start k u x).get g = s.get g :=
  State.get_congr _ _ _ rfl rfl

/-! ### stop -/

@[simp] theorem State.stop_pending (s : State) (k : TimerKind) (u : Nat) : (s.stop k u).pending = s.pending := rfl
@[simp] theorem State.stop_tbase (s : State) (k : TimerKind) (u : Nat) : (s.stop k u).tbase = s.tbase := rfl
@[simp] theorem State.stop_fresh (s : State) (k : TimerKind) (u : Nat) : (s.stop k u).fresh = s.fresh := rfl
@[simp] theorem State.stop_regs (s : State) (k : TimerKind) (u : Nat) : (s.stop k u).regs = s.regs := rfl
@[simp] theorem State.stop_ember (s : State) (k : TimerKind) (u : Nat) : (s.stop k u).ember = s.ember := rfl
@[simp] theorem State.stop_tb (s : State) (k : TimerKind) (u : Nat) : (s.stop k u).tb = s.tb := rfl
@[simp] theorem State.stop_flue (s : State) (k : TimerKind) (u : Nat) : (s.stop k u).flue = s.flue := rfl
@[simp] theorem State.stop_hearths (s : State) (k : TimerKind) (u : Nat) : (s.stop k u).hearths = s.hearths := rfl
@[simp] theorem State.stop_cc (s : State) (k : TimerKind) (u : Nat) : (s.stop k u).cc = s.cc := rfl
@[simp] theorem State.stop_msg (s : State) (k : TimerKind) (u : Nat) : (s.stop k u).msg = s.msg := rfl
@[simp] theorem State.stop_pol (s : State) (k : TimerKind) (u : Nat) : (s.stop k u).pol = s.pol := rfl
@[simp] theorem State.stop_vdm (s : State) (k : TimerKind) (u : Nat) : (s.stop k u).vdm = s.vdm := rfl
@[simp] theorem State.stop_thn (s : State) (k : TimerKind) (u : Nat) : (s.stop k u).thn = s.thn := rfl
@[simp] theorem State.stop_lp (s : State) (k : TimerKind) (u : Nat) : (s.stop k u).lp = s.lp := rfl
@[simp] theorem State.stop_lanes (s : State) (k : TimerKind) (u : Nat) : (s.stop k u).lanes = s.lanes := rfl
@[simp] theorem State.stop_fnd (s : State) (k : TimerKind) (u : Nat) : (s.stop k u).fnd = s.fnd := rfl
@[simp] theorem State.stop_inputs (s : State) (k : TimerKind) (u : Nat) : (s.stop k u).inputs = s.inputs := rfl
@[simp] theorem State.stop_ntcFitted (s : State) (k : TimerKind) (u : Nat) : (s.stop k u).ntcFitted = s.ntcFitted := rfl
@[simp] theorem State.stop_ntcFault (s : State) (k : TimerKind) (u : Nat) : (s.stop k u).ntcFault = s.ntcFault := rfl
@[simp] theorem State.stop_draught (s : State) (k : TimerKind) (u : Nat) : (s.stop k u).draught = s.draught := rfl
@[simp] theorem State.stop_feeds (s : State) (k : TimerKind) (u : Nat) : (s.stop k u).feeds = s.feeds := rfl
@[simp] theorem State.stop_hA (s : State) (k : TimerKind) (u : Nat) : (s.stop k u).hA = s.hA := rfl
@[simp] theorem State.stop_hB (s : State) (k : TimerKind) (u : Nat) : (s.stop k u).hB = s.hB := rfl
@[simp] theorem State.stop_fallbackV (s : State) (k : TimerKind) (u : Nat) : (s.stop k u).fallbackV = s.fallbackV := rfl
@[simp] theorem State.stop_fallbackI (s : State) (k : TimerKind) (u : Nat) : (s.stop k u).fallbackI = s.fallbackI := rfl
@[simp] theorem State.stop_otp (s : State) (k : TimerKind) (u : Nat) : (s.stop k u).otp = s.otp := rfl
@[simp] theorem State.stop_auth (s : State) (k : TimerKind) (u : Nat) : (s.stop k u).auth = s.auth := rfl
@[simp] theorem State.stop_pins (s : State) (k : TimerKind) (u : Nat) : (s.stop k u).pins = s.pins := rfl
@[simp] theorem State.stop_boundary (s : State) (k : TimerKind) (u : Nat) : (s.stop k u).boundary = s.boundary := rfl
@[simp] theorem State.stop_array (s : State) (k : TimerKind) (u : Nat) : (s.stop k u).array = s.array := rfl
@[simp] theorem State.stop_opctLost (s : State) (k : TimerKind) (u : Nat) : (s.stop k u).opctLost = s.opctLost := rfl
@[simp] theorem State.stop_apart (s : State) (k : TimerKind) (u : Nat) : (s.stop k u).apart = s.apart := rfl
@[simp] theorem State.stop_get (s : State) (k : TimerKind) (u : Nat) (g : Field) : (s.stop k u).get g = s.get g :=
  State.get_congr _ _ _ rfl rfl

/-! ### modCc -/

@[simp] theorem State.modCc_pending (s : State) (n : Port) (f : CcPort → CcPort) : (s.modCc n f).pending = s.pending := rfl
@[simp] theorem State.modCc_tbase (s : State) (n : Port) (f : CcPort → CcPort) : (s.modCc n f).tbase = s.tbase := rfl
@[simp] theorem State.modCc_fresh (s : State) (n : Port) (f : CcPort → CcPort) : (s.modCc n f).fresh = s.fresh := rfl
@[simp] theorem State.modCc_regs (s : State) (n : Port) (f : CcPort → CcPort) : (s.modCc n f).regs = s.regs := rfl
@[simp] theorem State.modCc_timers (s : State) (n : Port) (f : CcPort → CcPort) : (s.modCc n f).timers = s.timers := rfl
@[simp] theorem State.modCc_ember (s : State) (n : Port) (f : CcPort → CcPort) : (s.modCc n f).ember = s.ember := rfl
@[simp] theorem State.modCc_tb (s : State) (n : Port) (f : CcPort → CcPort) : (s.modCc n f).tb = s.tb := rfl
@[simp] theorem State.modCc_flue (s : State) (n : Port) (f : CcPort → CcPort) : (s.modCc n f).flue = s.flue := rfl
@[simp] theorem State.modCc_hearths (s : State) (n : Port) (f : CcPort → CcPort) : (s.modCc n f).hearths = s.hearths := rfl
@[simp] theorem State.modCc_msg (s : State) (n : Port) (f : CcPort → CcPort) : (s.modCc n f).msg = s.msg := rfl
@[simp] theorem State.modCc_pol (s : State) (n : Port) (f : CcPort → CcPort) : (s.modCc n f).pol = s.pol := rfl
@[simp] theorem State.modCc_vdm (s : State) (n : Port) (f : CcPort → CcPort) : (s.modCc n f).vdm = s.vdm := rfl
@[simp] theorem State.modCc_thn (s : State) (n : Port) (f : CcPort → CcPort) : (s.modCc n f).thn = s.thn := rfl
@[simp] theorem State.modCc_lp (s : State) (n : Port) (f : CcPort → CcPort) : (s.modCc n f).lp = s.lp := rfl
@[simp] theorem State.modCc_lanes (s : State) (n : Port) (f : CcPort → CcPort) : (s.modCc n f).lanes = s.lanes := rfl
@[simp] theorem State.modCc_fnd (s : State) (n : Port) (f : CcPort → CcPort) : (s.modCc n f).fnd = s.fnd := rfl
@[simp] theorem State.modCc_inputs (s : State) (n : Port) (f : CcPort → CcPort) : (s.modCc n f).inputs = s.inputs := rfl
@[simp] theorem State.modCc_ntcFitted (s : State) (n : Port) (f : CcPort → CcPort) : (s.modCc n f).ntcFitted = s.ntcFitted := rfl
@[simp] theorem State.modCc_ntcFault (s : State) (n : Port) (f : CcPort → CcPort) : (s.modCc n f).ntcFault = s.ntcFault := rfl
@[simp] theorem State.modCc_draught (s : State) (n : Port) (f : CcPort → CcPort) : (s.modCc n f).draught = s.draught := rfl
@[simp] theorem State.modCc_feeds (s : State) (n : Port) (f : CcPort → CcPort) : (s.modCc n f).feeds = s.feeds := rfl
@[simp] theorem State.modCc_hA (s : State) (n : Port) (f : CcPort → CcPort) : (s.modCc n f).hA = s.hA := rfl
@[simp] theorem State.modCc_hB (s : State) (n : Port) (f : CcPort → CcPort) : (s.modCc n f).hB = s.hB := rfl
@[simp] theorem State.modCc_fallbackV (s : State) (n : Port) (f : CcPort → CcPort) : (s.modCc n f).fallbackV = s.fallbackV := rfl
@[simp] theorem State.modCc_fallbackI (s : State) (n : Port) (f : CcPort → CcPort) : (s.modCc n f).fallbackI = s.fallbackI := rfl
@[simp] theorem State.modCc_otp (s : State) (n : Port) (f : CcPort → CcPort) : (s.modCc n f).otp = s.otp := rfl
@[simp] theorem State.modCc_auth (s : State) (n : Port) (f : CcPort → CcPort) : (s.modCc n f).auth = s.auth := rfl
@[simp] theorem State.modCc_pins (s : State) (n : Port) (f : CcPort → CcPort) : (s.modCc n f).pins = s.pins := rfl
@[simp] theorem State.modCc_boundary (s : State) (n : Port) (f : CcPort → CcPort) : (s.modCc n f).boundary = s.boundary := rfl
@[simp] theorem State.modCc_array (s : State) (n : Port) (f : CcPort → CcPort) : (s.modCc n f).array = s.array := rfl
@[simp] theorem State.modCc_opctLost (s : State) (n : Port) (f : CcPort → CcPort) : (s.modCc n f).opctLost = s.opctLost := rfl
@[simp] theorem State.modCc_apart (s : State) (n : Port) (f : CcPort → CcPort) : (s.modCc n f).apart = s.apart := rfl
@[simp] theorem State.modCc_get (s : State) (n : Port) (f : CcPort → CcPort) (g : Field) : (s.modCc n f).get g = s.get g :=
  State.get_congr _ _ _ rfl rfl

/-! ### modMsg -/

@[simp] theorem State.modMsg_pending (s : State) (n : Port) (f : MsgPort → MsgPort) : (s.modMsg n f).pending = s.pending := rfl
@[simp] theorem State.modMsg_tbase (s : State) (n : Port) (f : MsgPort → MsgPort) : (s.modMsg n f).tbase = s.tbase := rfl
@[simp] theorem State.modMsg_fresh (s : State) (n : Port) (f : MsgPort → MsgPort) : (s.modMsg n f).fresh = s.fresh := rfl
@[simp] theorem State.modMsg_regs (s : State) (n : Port) (f : MsgPort → MsgPort) : (s.modMsg n f).regs = s.regs := rfl
@[simp] theorem State.modMsg_timers (s : State) (n : Port) (f : MsgPort → MsgPort) : (s.modMsg n f).timers = s.timers := rfl
@[simp] theorem State.modMsg_ember (s : State) (n : Port) (f : MsgPort → MsgPort) : (s.modMsg n f).ember = s.ember := rfl
@[simp] theorem State.modMsg_tb (s : State) (n : Port) (f : MsgPort → MsgPort) : (s.modMsg n f).tb = s.tb := rfl
@[simp] theorem State.modMsg_flue (s : State) (n : Port) (f : MsgPort → MsgPort) : (s.modMsg n f).flue = s.flue := rfl
@[simp] theorem State.modMsg_hearths (s : State) (n : Port) (f : MsgPort → MsgPort) : (s.modMsg n f).hearths = s.hearths := rfl
@[simp] theorem State.modMsg_cc (s : State) (n : Port) (f : MsgPort → MsgPort) : (s.modMsg n f).cc = s.cc := rfl
@[simp] theorem State.modMsg_pol (s : State) (n : Port) (f : MsgPort → MsgPort) : (s.modMsg n f).pol = s.pol := rfl
@[simp] theorem State.modMsg_vdm (s : State) (n : Port) (f : MsgPort → MsgPort) : (s.modMsg n f).vdm = s.vdm := rfl
@[simp] theorem State.modMsg_thn (s : State) (n : Port) (f : MsgPort → MsgPort) : (s.modMsg n f).thn = s.thn := rfl
@[simp] theorem State.modMsg_lp (s : State) (n : Port) (f : MsgPort → MsgPort) : (s.modMsg n f).lp = s.lp := rfl
@[simp] theorem State.modMsg_lanes (s : State) (n : Port) (f : MsgPort → MsgPort) : (s.modMsg n f).lanes = s.lanes := rfl
@[simp] theorem State.modMsg_fnd (s : State) (n : Port) (f : MsgPort → MsgPort) : (s.modMsg n f).fnd = s.fnd := rfl
@[simp] theorem State.modMsg_inputs (s : State) (n : Port) (f : MsgPort → MsgPort) : (s.modMsg n f).inputs = s.inputs := rfl
@[simp] theorem State.modMsg_ntcFitted (s : State) (n : Port) (f : MsgPort → MsgPort) : (s.modMsg n f).ntcFitted = s.ntcFitted := rfl
@[simp] theorem State.modMsg_ntcFault (s : State) (n : Port) (f : MsgPort → MsgPort) : (s.modMsg n f).ntcFault = s.ntcFault := rfl
@[simp] theorem State.modMsg_draught (s : State) (n : Port) (f : MsgPort → MsgPort) : (s.modMsg n f).draught = s.draught := rfl
@[simp] theorem State.modMsg_feeds (s : State) (n : Port) (f : MsgPort → MsgPort) : (s.modMsg n f).feeds = s.feeds := rfl
@[simp] theorem State.modMsg_hA (s : State) (n : Port) (f : MsgPort → MsgPort) : (s.modMsg n f).hA = s.hA := rfl
@[simp] theorem State.modMsg_hB (s : State) (n : Port) (f : MsgPort → MsgPort) : (s.modMsg n f).hB = s.hB := rfl
@[simp] theorem State.modMsg_fallbackV (s : State) (n : Port) (f : MsgPort → MsgPort) : (s.modMsg n f).fallbackV = s.fallbackV := rfl
@[simp] theorem State.modMsg_fallbackI (s : State) (n : Port) (f : MsgPort → MsgPort) : (s.modMsg n f).fallbackI = s.fallbackI := rfl
@[simp] theorem State.modMsg_otp (s : State) (n : Port) (f : MsgPort → MsgPort) : (s.modMsg n f).otp = s.otp := rfl
@[simp] theorem State.modMsg_auth (s : State) (n : Port) (f : MsgPort → MsgPort) : (s.modMsg n f).auth = s.auth := rfl
@[simp] theorem State.modMsg_pins (s : State) (n : Port) (f : MsgPort → MsgPort) : (s.modMsg n f).pins = s.pins := rfl
@[simp] theorem State.modMsg_boundary (s : State) (n : Port) (f : MsgPort → MsgPort) : (s.modMsg n f).boundary = s.boundary := rfl
@[simp] theorem State.modMsg_array (s : State) (n : Port) (f : MsgPort → MsgPort) : (s.modMsg n f).array = s.array := rfl
@[simp] theorem State.modMsg_opctLost (s : State) (n : Port) (f : MsgPort → MsgPort) : (s.modMsg n f).opctLost = s.opctLost := rfl
@[simp] theorem State.modMsg_apart (s : State) (n : Port) (f : MsgPort → MsgPort) : (s.modMsg n f).apart = s.apart := rfl
@[simp] theorem State.modMsg_get (s : State) (n : Port) (f : MsgPort → MsgPort) (g : Field) : (s.modMsg n f).get g = s.get g :=
  State.get_congr _ _ _ rfl rfl

/-! ### modPol -/

@[simp] theorem State.modPol_pending (s : State) (n : Port) (f : PolPort → PolPort) : (s.modPol n f).pending = s.pending := rfl
@[simp] theorem State.modPol_tbase (s : State) (n : Port) (f : PolPort → PolPort) : (s.modPol n f).tbase = s.tbase := rfl
@[simp] theorem State.modPol_fresh (s : State) (n : Port) (f : PolPort → PolPort) : (s.modPol n f).fresh = s.fresh := rfl
@[simp] theorem State.modPol_regs (s : State) (n : Port) (f : PolPort → PolPort) : (s.modPol n f).regs = s.regs := rfl
@[simp] theorem State.modPol_timers (s : State) (n : Port) (f : PolPort → PolPort) : (s.modPol n f).timers = s.timers := rfl
@[simp] theorem State.modPol_ember (s : State) (n : Port) (f : PolPort → PolPort) : (s.modPol n f).ember = s.ember := rfl
@[simp] theorem State.modPol_tb (s : State) (n : Port) (f : PolPort → PolPort) : (s.modPol n f).tb = s.tb := rfl
@[simp] theorem State.modPol_flue (s : State) (n : Port) (f : PolPort → PolPort) : (s.modPol n f).flue = s.flue := rfl
@[simp] theorem State.modPol_hearths (s : State) (n : Port) (f : PolPort → PolPort) : (s.modPol n f).hearths = s.hearths := rfl
@[simp] theorem State.modPol_cc (s : State) (n : Port) (f : PolPort → PolPort) : (s.modPol n f).cc = s.cc := rfl
@[simp] theorem State.modPol_msg (s : State) (n : Port) (f : PolPort → PolPort) : (s.modPol n f).msg = s.msg := rfl
@[simp] theorem State.modPol_vdm (s : State) (n : Port) (f : PolPort → PolPort) : (s.modPol n f).vdm = s.vdm := rfl
@[simp] theorem State.modPol_thn (s : State) (n : Port) (f : PolPort → PolPort) : (s.modPol n f).thn = s.thn := rfl
@[simp] theorem State.modPol_lp (s : State) (n : Port) (f : PolPort → PolPort) : (s.modPol n f).lp = s.lp := rfl
@[simp] theorem State.modPol_lanes (s : State) (n : Port) (f : PolPort → PolPort) : (s.modPol n f).lanes = s.lanes := rfl
@[simp] theorem State.modPol_fnd (s : State) (n : Port) (f : PolPort → PolPort) : (s.modPol n f).fnd = s.fnd := rfl
@[simp] theorem State.modPol_inputs (s : State) (n : Port) (f : PolPort → PolPort) : (s.modPol n f).inputs = s.inputs := rfl
@[simp] theorem State.modPol_ntcFitted (s : State) (n : Port) (f : PolPort → PolPort) : (s.modPol n f).ntcFitted = s.ntcFitted := rfl
@[simp] theorem State.modPol_ntcFault (s : State) (n : Port) (f : PolPort → PolPort) : (s.modPol n f).ntcFault = s.ntcFault := rfl
@[simp] theorem State.modPol_draught (s : State) (n : Port) (f : PolPort → PolPort) : (s.modPol n f).draught = s.draught := rfl
@[simp] theorem State.modPol_feeds (s : State) (n : Port) (f : PolPort → PolPort) : (s.modPol n f).feeds = s.feeds := rfl
@[simp] theorem State.modPol_hA (s : State) (n : Port) (f : PolPort → PolPort) : (s.modPol n f).hA = s.hA := rfl
@[simp] theorem State.modPol_hB (s : State) (n : Port) (f : PolPort → PolPort) : (s.modPol n f).hB = s.hB := rfl
@[simp] theorem State.modPol_fallbackV (s : State) (n : Port) (f : PolPort → PolPort) : (s.modPol n f).fallbackV = s.fallbackV := rfl
@[simp] theorem State.modPol_fallbackI (s : State) (n : Port) (f : PolPort → PolPort) : (s.modPol n f).fallbackI = s.fallbackI := rfl
@[simp] theorem State.modPol_otp (s : State) (n : Port) (f : PolPort → PolPort) : (s.modPol n f).otp = s.otp := rfl
@[simp] theorem State.modPol_auth (s : State) (n : Port) (f : PolPort → PolPort) : (s.modPol n f).auth = s.auth := rfl
@[simp] theorem State.modPol_pins (s : State) (n : Port) (f : PolPort → PolPort) : (s.modPol n f).pins = s.pins := rfl
@[simp] theorem State.modPol_boundary (s : State) (n : Port) (f : PolPort → PolPort) : (s.modPol n f).boundary = s.boundary := rfl
@[simp] theorem State.modPol_array (s : State) (n : Port) (f : PolPort → PolPort) : (s.modPol n f).array = s.array := rfl
@[simp] theorem State.modPol_opctLost (s : State) (n : Port) (f : PolPort → PolPort) : (s.modPol n f).opctLost = s.opctLost := rfl
@[simp] theorem State.modPol_apart (s : State) (n : Port) (f : PolPort → PolPort) : (s.modPol n f).apart = s.apart := rfl
@[simp] theorem State.modPol_get (s : State) (n : Port) (f : PolPort → PolPort) (g : Field) : (s.modPol n f).get g = s.get g :=
  State.get_congr _ _ _ rfl rfl

/-! ### modVdm -/

@[simp] theorem State.modVdm_pending (s : State) (n : Port) (f : VdmPort → VdmPort) : (s.modVdm n f).pending = s.pending := rfl
@[simp] theorem State.modVdm_tbase (s : State) (n : Port) (f : VdmPort → VdmPort) : (s.modVdm n f).tbase = s.tbase := rfl
@[simp] theorem State.modVdm_fresh (s : State) (n : Port) (f : VdmPort → VdmPort) : (s.modVdm n f).fresh = s.fresh := rfl
@[simp] theorem State.modVdm_regs (s : State) (n : Port) (f : VdmPort → VdmPort) : (s.modVdm n f).regs = s.regs := rfl
@[simp] theorem State.modVdm_timers (s : State) (n : Port) (f : VdmPort → VdmPort) : (s.modVdm n f).timers = s.timers := rfl
@[simp] theorem State.modVdm_ember (s : State) (n : Port) (f : VdmPort → VdmPort) : (s.modVdm n f).ember = s.ember := rfl
@[simp] theorem State.modVdm_tb (s : State) (n : Port) (f : VdmPort → VdmPort) : (s.modVdm n f).tb = s.tb := rfl
@[simp] theorem State.modVdm_flue (s : State) (n : Port) (f : VdmPort → VdmPort) : (s.modVdm n f).flue = s.flue := rfl
@[simp] theorem State.modVdm_hearths (s : State) (n : Port) (f : VdmPort → VdmPort) : (s.modVdm n f).hearths = s.hearths := rfl
@[simp] theorem State.modVdm_cc (s : State) (n : Port) (f : VdmPort → VdmPort) : (s.modVdm n f).cc = s.cc := rfl
@[simp] theorem State.modVdm_msg (s : State) (n : Port) (f : VdmPort → VdmPort) : (s.modVdm n f).msg = s.msg := rfl
@[simp] theorem State.modVdm_pol (s : State) (n : Port) (f : VdmPort → VdmPort) : (s.modVdm n f).pol = s.pol := rfl
@[simp] theorem State.modVdm_thn (s : State) (n : Port) (f : VdmPort → VdmPort) : (s.modVdm n f).thn = s.thn := rfl
@[simp] theorem State.modVdm_lp (s : State) (n : Port) (f : VdmPort → VdmPort) : (s.modVdm n f).lp = s.lp := rfl
@[simp] theorem State.modVdm_lanes (s : State) (n : Port) (f : VdmPort → VdmPort) : (s.modVdm n f).lanes = s.lanes := rfl
@[simp] theorem State.modVdm_fnd (s : State) (n : Port) (f : VdmPort → VdmPort) : (s.modVdm n f).fnd = s.fnd := rfl
@[simp] theorem State.modVdm_inputs (s : State) (n : Port) (f : VdmPort → VdmPort) : (s.modVdm n f).inputs = s.inputs := rfl
@[simp] theorem State.modVdm_ntcFitted (s : State) (n : Port) (f : VdmPort → VdmPort) : (s.modVdm n f).ntcFitted = s.ntcFitted := rfl
@[simp] theorem State.modVdm_ntcFault (s : State) (n : Port) (f : VdmPort → VdmPort) : (s.modVdm n f).ntcFault = s.ntcFault := rfl
@[simp] theorem State.modVdm_draught (s : State) (n : Port) (f : VdmPort → VdmPort) : (s.modVdm n f).draught = s.draught := rfl
@[simp] theorem State.modVdm_feeds (s : State) (n : Port) (f : VdmPort → VdmPort) : (s.modVdm n f).feeds = s.feeds := rfl
@[simp] theorem State.modVdm_hA (s : State) (n : Port) (f : VdmPort → VdmPort) : (s.modVdm n f).hA = s.hA := rfl
@[simp] theorem State.modVdm_hB (s : State) (n : Port) (f : VdmPort → VdmPort) : (s.modVdm n f).hB = s.hB := rfl
@[simp] theorem State.modVdm_fallbackV (s : State) (n : Port) (f : VdmPort → VdmPort) : (s.modVdm n f).fallbackV = s.fallbackV := rfl
@[simp] theorem State.modVdm_fallbackI (s : State) (n : Port) (f : VdmPort → VdmPort) : (s.modVdm n f).fallbackI = s.fallbackI := rfl
@[simp] theorem State.modVdm_otp (s : State) (n : Port) (f : VdmPort → VdmPort) : (s.modVdm n f).otp = s.otp := rfl
@[simp] theorem State.modVdm_auth (s : State) (n : Port) (f : VdmPort → VdmPort) : (s.modVdm n f).auth = s.auth := rfl
@[simp] theorem State.modVdm_pins (s : State) (n : Port) (f : VdmPort → VdmPort) : (s.modVdm n f).pins = s.pins := rfl
@[simp] theorem State.modVdm_boundary (s : State) (n : Port) (f : VdmPort → VdmPort) : (s.modVdm n f).boundary = s.boundary := rfl
@[simp] theorem State.modVdm_array (s : State) (n : Port) (f : VdmPort → VdmPort) : (s.modVdm n f).array = s.array := rfl
@[simp] theorem State.modVdm_opctLost (s : State) (n : Port) (f : VdmPort → VdmPort) : (s.modVdm n f).opctLost = s.opctLost := rfl
@[simp] theorem State.modVdm_apart (s : State) (n : Port) (f : VdmPort → VdmPort) : (s.modVdm n f).apart = s.apart := rfl
@[simp] theorem State.modVdm_get (s : State) (n : Port) (f : VdmPort → VdmPort) (g : Field) : (s.modVdm n f).get g = s.get g :=
  State.get_congr _ _ _ rfl rfl

/-! ### modThn -/

@[simp] theorem State.modThn_pending (s : State) (n : Port) (f : ThnPort → ThnPort) : (s.modThn n f).pending = s.pending := rfl
@[simp] theorem State.modThn_tbase (s : State) (n : Port) (f : ThnPort → ThnPort) : (s.modThn n f).tbase = s.tbase := rfl
@[simp] theorem State.modThn_fresh (s : State) (n : Port) (f : ThnPort → ThnPort) : (s.modThn n f).fresh = s.fresh := rfl
@[simp] theorem State.modThn_regs (s : State) (n : Port) (f : ThnPort → ThnPort) : (s.modThn n f).regs = s.regs := rfl
@[simp] theorem State.modThn_timers (s : State) (n : Port) (f : ThnPort → ThnPort) : (s.modThn n f).timers = s.timers := rfl
@[simp] theorem State.modThn_ember (s : State) (n : Port) (f : ThnPort → ThnPort) : (s.modThn n f).ember = s.ember := rfl
@[simp] theorem State.modThn_tb (s : State) (n : Port) (f : ThnPort → ThnPort) : (s.modThn n f).tb = s.tb := rfl
@[simp] theorem State.modThn_flue (s : State) (n : Port) (f : ThnPort → ThnPort) : (s.modThn n f).flue = s.flue := rfl
@[simp] theorem State.modThn_hearths (s : State) (n : Port) (f : ThnPort → ThnPort) : (s.modThn n f).hearths = s.hearths := rfl
@[simp] theorem State.modThn_cc (s : State) (n : Port) (f : ThnPort → ThnPort) : (s.modThn n f).cc = s.cc := rfl
@[simp] theorem State.modThn_msg (s : State) (n : Port) (f : ThnPort → ThnPort) : (s.modThn n f).msg = s.msg := rfl
@[simp] theorem State.modThn_pol (s : State) (n : Port) (f : ThnPort → ThnPort) : (s.modThn n f).pol = s.pol := rfl
@[simp] theorem State.modThn_vdm (s : State) (n : Port) (f : ThnPort → ThnPort) : (s.modThn n f).vdm = s.vdm := rfl
@[simp] theorem State.modThn_lp (s : State) (n : Port) (f : ThnPort → ThnPort) : (s.modThn n f).lp = s.lp := rfl
@[simp] theorem State.modThn_lanes (s : State) (n : Port) (f : ThnPort → ThnPort) : (s.modThn n f).lanes = s.lanes := rfl
@[simp] theorem State.modThn_fnd (s : State) (n : Port) (f : ThnPort → ThnPort) : (s.modThn n f).fnd = s.fnd := rfl
@[simp] theorem State.modThn_inputs (s : State) (n : Port) (f : ThnPort → ThnPort) : (s.modThn n f).inputs = s.inputs := rfl
@[simp] theorem State.modThn_ntcFitted (s : State) (n : Port) (f : ThnPort → ThnPort) : (s.modThn n f).ntcFitted = s.ntcFitted := rfl
@[simp] theorem State.modThn_ntcFault (s : State) (n : Port) (f : ThnPort → ThnPort) : (s.modThn n f).ntcFault = s.ntcFault := rfl
@[simp] theorem State.modThn_draught (s : State) (n : Port) (f : ThnPort → ThnPort) : (s.modThn n f).draught = s.draught := rfl
@[simp] theorem State.modThn_feeds (s : State) (n : Port) (f : ThnPort → ThnPort) : (s.modThn n f).feeds = s.feeds := rfl
@[simp] theorem State.modThn_hA (s : State) (n : Port) (f : ThnPort → ThnPort) : (s.modThn n f).hA = s.hA := rfl
@[simp] theorem State.modThn_hB (s : State) (n : Port) (f : ThnPort → ThnPort) : (s.modThn n f).hB = s.hB := rfl
@[simp] theorem State.modThn_fallbackV (s : State) (n : Port) (f : ThnPort → ThnPort) : (s.modThn n f).fallbackV = s.fallbackV := rfl
@[simp] theorem State.modThn_fallbackI (s : State) (n : Port) (f : ThnPort → ThnPort) : (s.modThn n f).fallbackI = s.fallbackI := rfl
@[simp] theorem State.modThn_otp (s : State) (n : Port) (f : ThnPort → ThnPort) : (s.modThn n f).otp = s.otp := rfl
@[simp] theorem State.modThn_auth (s : State) (n : Port) (f : ThnPort → ThnPort) : (s.modThn n f).auth = s.auth := rfl
@[simp] theorem State.modThn_pins (s : State) (n : Port) (f : ThnPort → ThnPort) : (s.modThn n f).pins = s.pins := rfl
@[simp] theorem State.modThn_boundary (s : State) (n : Port) (f : ThnPort → ThnPort) : (s.modThn n f).boundary = s.boundary := rfl
@[simp] theorem State.modThn_array (s : State) (n : Port) (f : ThnPort → ThnPort) : (s.modThn n f).array = s.array := rfl
@[simp] theorem State.modThn_opctLost (s : State) (n : Port) (f : ThnPort → ThnPort) : (s.modThn n f).opctLost = s.opctLost := rfl
@[simp] theorem State.modThn_apart (s : State) (n : Port) (f : ThnPort → ThnPort) : (s.modThn n f).apart = s.apart := rfl
@[simp] theorem State.modThn_get (s : State) (n : Port) (f : ThnPort → ThnPort) (g : Field) : (s.modThn n f).get g = s.get g :=
  State.get_congr _ _ _ rfl rfl

/-! ### modLp -/

@[simp] theorem State.modLp_pending (s : State) (n : Port) (f : LoopPort → LoopPort) : (s.modLp n f).pending = s.pending := rfl
@[simp] theorem State.modLp_tbase (s : State) (n : Port) (f : LoopPort → LoopPort) : (s.modLp n f).tbase = s.tbase := rfl
@[simp] theorem State.modLp_fresh (s : State) (n : Port) (f : LoopPort → LoopPort) : (s.modLp n f).fresh = s.fresh := rfl
@[simp] theorem State.modLp_regs (s : State) (n : Port) (f : LoopPort → LoopPort) : (s.modLp n f).regs = s.regs := rfl
@[simp] theorem State.modLp_timers (s : State) (n : Port) (f : LoopPort → LoopPort) : (s.modLp n f).timers = s.timers := rfl
@[simp] theorem State.modLp_ember (s : State) (n : Port) (f : LoopPort → LoopPort) : (s.modLp n f).ember = s.ember := rfl
@[simp] theorem State.modLp_tb (s : State) (n : Port) (f : LoopPort → LoopPort) : (s.modLp n f).tb = s.tb := rfl
@[simp] theorem State.modLp_flue (s : State) (n : Port) (f : LoopPort → LoopPort) : (s.modLp n f).flue = s.flue := rfl
@[simp] theorem State.modLp_hearths (s : State) (n : Port) (f : LoopPort → LoopPort) : (s.modLp n f).hearths = s.hearths := rfl
@[simp] theorem State.modLp_cc (s : State) (n : Port) (f : LoopPort → LoopPort) : (s.modLp n f).cc = s.cc := rfl
@[simp] theorem State.modLp_msg (s : State) (n : Port) (f : LoopPort → LoopPort) : (s.modLp n f).msg = s.msg := rfl
@[simp] theorem State.modLp_pol (s : State) (n : Port) (f : LoopPort → LoopPort) : (s.modLp n f).pol = s.pol := rfl
@[simp] theorem State.modLp_vdm (s : State) (n : Port) (f : LoopPort → LoopPort) : (s.modLp n f).vdm = s.vdm := rfl
@[simp] theorem State.modLp_thn (s : State) (n : Port) (f : LoopPort → LoopPort) : (s.modLp n f).thn = s.thn := rfl
@[simp] theorem State.modLp_lanes (s : State) (n : Port) (f : LoopPort → LoopPort) : (s.modLp n f).lanes = s.lanes := rfl
@[simp] theorem State.modLp_fnd (s : State) (n : Port) (f : LoopPort → LoopPort) : (s.modLp n f).fnd = s.fnd := rfl
@[simp] theorem State.modLp_inputs (s : State) (n : Port) (f : LoopPort → LoopPort) : (s.modLp n f).inputs = s.inputs := rfl
@[simp] theorem State.modLp_ntcFitted (s : State) (n : Port) (f : LoopPort → LoopPort) : (s.modLp n f).ntcFitted = s.ntcFitted := rfl
@[simp] theorem State.modLp_ntcFault (s : State) (n : Port) (f : LoopPort → LoopPort) : (s.modLp n f).ntcFault = s.ntcFault := rfl
@[simp] theorem State.modLp_draught (s : State) (n : Port) (f : LoopPort → LoopPort) : (s.modLp n f).draught = s.draught := rfl
@[simp] theorem State.modLp_feeds (s : State) (n : Port) (f : LoopPort → LoopPort) : (s.modLp n f).feeds = s.feeds := rfl
@[simp] theorem State.modLp_hA (s : State) (n : Port) (f : LoopPort → LoopPort) : (s.modLp n f).hA = s.hA := rfl
@[simp] theorem State.modLp_hB (s : State) (n : Port) (f : LoopPort → LoopPort) : (s.modLp n f).hB = s.hB := rfl
@[simp] theorem State.modLp_fallbackV (s : State) (n : Port) (f : LoopPort → LoopPort) : (s.modLp n f).fallbackV = s.fallbackV := rfl
@[simp] theorem State.modLp_fallbackI (s : State) (n : Port) (f : LoopPort → LoopPort) : (s.modLp n f).fallbackI = s.fallbackI := rfl
@[simp] theorem State.modLp_otp (s : State) (n : Port) (f : LoopPort → LoopPort) : (s.modLp n f).otp = s.otp := rfl
@[simp] theorem State.modLp_auth (s : State) (n : Port) (f : LoopPort → LoopPort) : (s.modLp n f).auth = s.auth := rfl
@[simp] theorem State.modLp_pins (s : State) (n : Port) (f : LoopPort → LoopPort) : (s.modLp n f).pins = s.pins := rfl
@[simp] theorem State.modLp_boundary (s : State) (n : Port) (f : LoopPort → LoopPort) : (s.modLp n f).boundary = s.boundary := rfl
@[simp] theorem State.modLp_array (s : State) (n : Port) (f : LoopPort → LoopPort) : (s.modLp n f).array = s.array := rfl
@[simp] theorem State.modLp_opctLost (s : State) (n : Port) (f : LoopPort → LoopPort) : (s.modLp n f).opctLost = s.opctLost := rfl
@[simp] theorem State.modLp_apart (s : State) (n : Port) (f : LoopPort → LoopPort) : (s.modLp n f).apart = s.apart := rfl
@[simp] theorem State.modLp_get (s : State) (n : Port) (f : LoopPort → LoopPort) (g : Field) : (s.modLp n f).get g = s.get g :=
  State.get_congr _ _ _ rfl rfl

/-! ### modFnd -/

@[simp] theorem State.modFnd_pending (s : State) (n : Port) (f : FndPort → FndPort) : (s.modFnd n f).pending = s.pending := rfl
@[simp] theorem State.modFnd_tbase (s : State) (n : Port) (f : FndPort → FndPort) : (s.modFnd n f).tbase = s.tbase := rfl
@[simp] theorem State.modFnd_fresh (s : State) (n : Port) (f : FndPort → FndPort) : (s.modFnd n f).fresh = s.fresh := rfl
@[simp] theorem State.modFnd_regs (s : State) (n : Port) (f : FndPort → FndPort) : (s.modFnd n f).regs = s.regs := rfl
@[simp] theorem State.modFnd_timers (s : State) (n : Port) (f : FndPort → FndPort) : (s.modFnd n f).timers = s.timers := rfl
@[simp] theorem State.modFnd_ember (s : State) (n : Port) (f : FndPort → FndPort) : (s.modFnd n f).ember = s.ember := rfl
@[simp] theorem State.modFnd_tb (s : State) (n : Port) (f : FndPort → FndPort) : (s.modFnd n f).tb = s.tb := rfl
@[simp] theorem State.modFnd_flue (s : State) (n : Port) (f : FndPort → FndPort) : (s.modFnd n f).flue = s.flue := rfl
@[simp] theorem State.modFnd_hearths (s : State) (n : Port) (f : FndPort → FndPort) : (s.modFnd n f).hearths = s.hearths := rfl
@[simp] theorem State.modFnd_cc (s : State) (n : Port) (f : FndPort → FndPort) : (s.modFnd n f).cc = s.cc := rfl
@[simp] theorem State.modFnd_msg (s : State) (n : Port) (f : FndPort → FndPort) : (s.modFnd n f).msg = s.msg := rfl
@[simp] theorem State.modFnd_pol (s : State) (n : Port) (f : FndPort → FndPort) : (s.modFnd n f).pol = s.pol := rfl
@[simp] theorem State.modFnd_vdm (s : State) (n : Port) (f : FndPort → FndPort) : (s.modFnd n f).vdm = s.vdm := rfl
@[simp] theorem State.modFnd_thn (s : State) (n : Port) (f : FndPort → FndPort) : (s.modFnd n f).thn = s.thn := rfl
@[simp] theorem State.modFnd_lp (s : State) (n : Port) (f : FndPort → FndPort) : (s.modFnd n f).lp = s.lp := rfl
@[simp] theorem State.modFnd_lanes (s : State) (n : Port) (f : FndPort → FndPort) : (s.modFnd n f).lanes = s.lanes := rfl
@[simp] theorem State.modFnd_inputs (s : State) (n : Port) (f : FndPort → FndPort) : (s.modFnd n f).inputs = s.inputs := rfl
@[simp] theorem State.modFnd_ntcFitted (s : State) (n : Port) (f : FndPort → FndPort) : (s.modFnd n f).ntcFitted = s.ntcFitted := rfl
@[simp] theorem State.modFnd_ntcFault (s : State) (n : Port) (f : FndPort → FndPort) : (s.modFnd n f).ntcFault = s.ntcFault := rfl
@[simp] theorem State.modFnd_draught (s : State) (n : Port) (f : FndPort → FndPort) : (s.modFnd n f).draught = s.draught := rfl
@[simp] theorem State.modFnd_feeds (s : State) (n : Port) (f : FndPort → FndPort) : (s.modFnd n f).feeds = s.feeds := rfl
@[simp] theorem State.modFnd_hA (s : State) (n : Port) (f : FndPort → FndPort) : (s.modFnd n f).hA = s.hA := rfl
@[simp] theorem State.modFnd_hB (s : State) (n : Port) (f : FndPort → FndPort) : (s.modFnd n f).hB = s.hB := rfl
@[simp] theorem State.modFnd_fallbackV (s : State) (n : Port) (f : FndPort → FndPort) : (s.modFnd n f).fallbackV = s.fallbackV := rfl
@[simp] theorem State.modFnd_fallbackI (s : State) (n : Port) (f : FndPort → FndPort) : (s.modFnd n f).fallbackI = s.fallbackI := rfl
@[simp] theorem State.modFnd_otp (s : State) (n : Port) (f : FndPort → FndPort) : (s.modFnd n f).otp = s.otp := rfl
@[simp] theorem State.modFnd_auth (s : State) (n : Port) (f : FndPort → FndPort) : (s.modFnd n f).auth = s.auth := rfl
@[simp] theorem State.modFnd_pins (s : State) (n : Port) (f : FndPort → FndPort) : (s.modFnd n f).pins = s.pins := rfl
@[simp] theorem State.modFnd_boundary (s : State) (n : Port) (f : FndPort → FndPort) : (s.modFnd n f).boundary = s.boundary := rfl
@[simp] theorem State.modFnd_array (s : State) (n : Port) (f : FndPort → FndPort) : (s.modFnd n f).array = s.array := rfl
@[simp] theorem State.modFnd_opctLost (s : State) (n : Port) (f : FndPort → FndPort) : (s.modFnd n f).opctLost = s.opctLost := rfl
@[simp] theorem State.modFnd_apart (s : State) (n : Port) (f : FndPort → FndPort) : (s.modFnd n f).apart = s.apart := rfl
@[simp] theorem State.modFnd_get (s : State) (n : Port) (f : FndPort → FndPort) (g : Field) : (s.modFnd n f).get g = s.get g :=
  State.get_congr _ _ _ rfl rfl

/-! ### report: the rails of Flue only -/

@[simp] theorem State.report_pending (s : State) (c u d m a : Nat) (b : Option Nat) : (s.report c u d m a b).pending = s.pending := by
  unfold State.report; split <;> rfl
@[simp] theorem State.report_tbase (s : State) (c u d m a : Nat) (b : Option Nat) : (s.report c u d m a b).tbase = s.tbase := by
  unfold State.report; split <;> rfl
@[simp] theorem State.report_fresh (s : State) (c u d m a : Nat) (b : Option Nat) : (s.report c u d m a b).fresh = s.fresh := by
  unfold State.report; split <;> rfl
@[simp] theorem State.report_regs (s : State) (c u d m a : Nat) (b : Option Nat) : (s.report c u d m a b).regs = s.regs := by
  unfold State.report; split <;> rfl
@[simp] theorem State.report_timers (s : State) (c u d m a : Nat) (b : Option Nat) : (s.report c u d m a b).timers = s.timers := by
  unfold State.report; split <;> rfl
@[simp] theorem State.report_ember (s : State) (c u d m a : Nat) (b : Option Nat) : (s.report c u d m a b).ember = s.ember := by
  unfold State.report; split <;> rfl
@[simp] theorem State.report_tb (s : State) (c u d m a : Nat) (b : Option Nat) : (s.report c u d m a b).tb = s.tb := by
  unfold State.report; split <;> rfl
@[simp] theorem State.report_hearths (s : State) (c u d m a : Nat) (b : Option Nat) : (s.report c u d m a b).hearths = s.hearths := by
  unfold State.report; split <;> rfl
@[simp] theorem State.report_cc (s : State) (c u d m a : Nat) (b : Option Nat) : (s.report c u d m a b).cc = s.cc := by
  unfold State.report; split <;> rfl
@[simp] theorem State.report_msg (s : State) (c u d m a : Nat) (b : Option Nat) : (s.report c u d m a b).msg = s.msg := by
  unfold State.report; split <;> rfl
@[simp] theorem State.report_pol (s : State) (c u d m a : Nat) (b : Option Nat) : (s.report c u d m a b).pol = s.pol := by
  unfold State.report; split <;> rfl
@[simp] theorem State.report_vdm (s : State) (c u d m a : Nat) (b : Option Nat) : (s.report c u d m a b).vdm = s.vdm := by
  unfold State.report; split <;> rfl
@[simp] theorem State.report_thn (s : State) (c u d m a : Nat) (b : Option Nat) : (s.report c u d m a b).thn = s.thn := by
  unfold State.report; split <;> rfl
@[simp] theorem State.report_lp (s : State) (c u d m a : Nat) (b : Option Nat) : (s.report c u d m a b).lp = s.lp := by
  unfold State.report; split <;> rfl
@[simp] theorem State.report_lanes (s : State) (c u d m a : Nat) (b : Option Nat) : (s.report c u d m a b).lanes = s.lanes := by
  unfold State.report; split <;> rfl
@[simp] theorem State.report_fnd (s : State) (c u d m a : Nat) (b : Option Nat) : (s.report c u d m a b).fnd = s.fnd := by
  unfold State.report; split <;> rfl
@[simp] theorem State.report_inputs (s : State) (c u d m a : Nat) (b : Option Nat) : (s.report c u d m a b).inputs = s.inputs := by
  unfold State.report; split <;> rfl
@[simp] theorem State.report_ntcFitted (s : State) (c u d m a : Nat) (b : Option Nat) : (s.report c u d m a b).ntcFitted = s.ntcFitted := by
  unfold State.report; split <;> rfl
@[simp] theorem State.report_ntcFault (s : State) (c u d m a : Nat) (b : Option Nat) : (s.report c u d m a b).ntcFault = s.ntcFault := by
  unfold State.report; split <;> rfl
@[simp] theorem State.report_draught (s : State) (c u d m a : Nat) (b : Option Nat) : (s.report c u d m a b).draught = s.draught := by
  unfold State.report; split <;> rfl
@[simp] theorem State.report_feeds (s : State) (c u d m a : Nat) (b : Option Nat) : (s.report c u d m a b).feeds = s.feeds := by
  unfold State.report; split <;> rfl
@[simp] theorem State.report_hA (s : State) (c u d m a : Nat) (b : Option Nat) : (s.report c u d m a b).hA = s.hA := by
  unfold State.report; split <;> rfl
@[simp] theorem State.report_hB (s : State) (c u d m a : Nat) (b : Option Nat) : (s.report c u d m a b).hB = s.hB := by
  unfold State.report; split <;> rfl
@[simp] theorem State.report_fallbackV (s : State) (c u d m a : Nat) (b : Option Nat) : (s.report c u d m a b).fallbackV = s.fallbackV := by
  unfold State.report; split <;> rfl
@[simp] theorem State.report_fallbackI (s : State) (c u d m a : Nat) (b : Option Nat) : (s.report c u d m a b).fallbackI = s.fallbackI := by
  unfold State.report; split <;> rfl
@[simp] theorem State.report_otp (s : State) (c u d m a : Nat) (b : Option Nat) : (s.report c u d m a b).otp = s.otp := by
  unfold State.report; split <;> rfl
@[simp] theorem State.report_auth (s : State) (c u d m a : Nat) (b : Option Nat) : (s.report c u d m a b).auth = s.auth := by
  unfold State.report; split <;> rfl
@[simp] theorem State.report_pins (s : State) (c u d m a : Nat) (b : Option Nat) : (s.report c u d m a b).pins = s.pins := by
  unfold State.report; split <;> rfl
@[simp] theorem State.report_boundary (s : State) (c u d m a : Nat) (b : Option Nat) : (s.report c u d m a b).boundary = s.boundary := by
  unfold State.report; split <;> rfl
@[simp] theorem State.report_array (s : State) (c u d m a : Nat) (b : Option Nat) : (s.report c u d m a b).array = s.array := by
  unfold State.report; split <;> rfl
@[simp] theorem State.report_opctLost (s : State) (c u d m a : Nat) (b : Option Nat) : (s.report c u d m a b).opctLost = s.opctLost := by
  unfold State.report; split <;> rfl
@[simp] theorem State.report_apart (s : State) (c u d m a : Nat) (b : Option Nat) : (s.report c u d m a b).apart = s.apart := by
  unfold State.report; split <;> rfl
@[simp] theorem State.report_get (s : State) (c u d m a : Nat) (b : Option Nat) (g : Field) : (s.report c u d m a b).get g = s.get g :=
  State.get_congr _ _ _ (s.report_regs c u d m a b) (s.report_hearths c u d m a b)
@[simp] theorem State.report_wf (s : State) (c u d m a : Nat) (b : Option Nat) (h : s.Wf) : (s.report c u d m a b).Wf := by
  unfold State.Wf; rw [s.report_regs]; exact h

/-! ### events: an EVENT bit and a report -/

@[simp] theorem State.eventBy_pending (s : State) (f : Field) (a : Nat) : (s.eventBy f a).pending = s.pending := by
  dsimp only [State.eventBy]; split <;> simp
@[simp] theorem State.eventBy_tbase (s : State) (f : Field) (a : Nat) : (s.eventBy f a).tbase = s.tbase := by
  dsimp only [State.eventBy]; split <;> simp
@[simp] theorem State.eventBy_fresh (s : State) (f : Field) (a : Nat) : (s.eventBy f a).fresh = s.fresh := by
  dsimp only [State.eventBy]; split <;> simp
@[simp] theorem State.eventBy_timers (s : State) (f : Field) (a : Nat) : (s.eventBy f a).timers = s.timers := by
  dsimp only [State.eventBy]; split <;> simp
@[simp] theorem State.eventBy_ember (s : State) (f : Field) (a : Nat) : (s.eventBy f a).ember = s.ember := by
  dsimp only [State.eventBy]; split <;> simp
@[simp] theorem State.eventBy_tb (s : State) (f : Field) (a : Nat) : (s.eventBy f a).tb = s.tb := by
  dsimp only [State.eventBy]; split <;> simp
@[simp] theorem State.eventBy_hearths (s : State) (f : Field) (a : Nat) : (s.eventBy f a).hearths = s.hearths := by
  dsimp only [State.eventBy]; split <;> simp
@[simp] theorem State.eventBy_cc (s : State) (f : Field) (a : Nat) : (s.eventBy f a).cc = s.cc := by
  dsimp only [State.eventBy]; split <;> simp
@[simp] theorem State.eventBy_msg (s : State) (f : Field) (a : Nat) : (s.eventBy f a).msg = s.msg := by
  dsimp only [State.eventBy]; split <;> simp
@[simp] theorem State.eventBy_pol (s : State) (f : Field) (a : Nat) : (s.eventBy f a).pol = s.pol := by
  dsimp only [State.eventBy]; split <;> simp
@[simp] theorem State.eventBy_vdm (s : State) (f : Field) (a : Nat) : (s.eventBy f a).vdm = s.vdm := by
  dsimp only [State.eventBy]; split <;> simp
@[simp] theorem State.eventBy_thn (s : State) (f : Field) (a : Nat) : (s.eventBy f a).thn = s.thn := by
  dsimp only [State.eventBy]; split <;> simp
@[simp] theorem State.eventBy_lp (s : State) (f : Field) (a : Nat) : (s.eventBy f a).lp = s.lp := by
  dsimp only [State.eventBy]; split <;> simp
@[simp] theorem State.eventBy_lanes (s : State) (f : Field) (a : Nat) : (s.eventBy f a).lanes = s.lanes := by
  dsimp only [State.eventBy]; split <;> simp
@[simp] theorem State.eventBy_fnd (s : State) (f : Field) (a : Nat) : (s.eventBy f a).fnd = s.fnd := by
  dsimp only [State.eventBy]; split <;> simp
@[simp] theorem State.eventBy_inputs (s : State) (f : Field) (a : Nat) : (s.eventBy f a).inputs = s.inputs := by
  dsimp only [State.eventBy]; split <;> simp
@[simp] theorem State.eventBy_ntcFitted (s : State) (f : Field) (a : Nat) : (s.eventBy f a).ntcFitted = s.ntcFitted := by
  dsimp only [State.eventBy]; split <;> simp
@[simp] theorem State.eventBy_ntcFault (s : State) (f : Field) (a : Nat) : (s.eventBy f a).ntcFault = s.ntcFault := by
  dsimp only [State.eventBy]; split <;> simp
@[simp] theorem State.eventBy_draught (s : State) (f : Field) (a : Nat) : (s.eventBy f a).draught = s.draught := by
  dsimp only [State.eventBy]; split <;> simp
@[simp] theorem State.eventBy_feeds (s : State) (f : Field) (a : Nat) : (s.eventBy f a).feeds = s.feeds := by
  dsimp only [State.eventBy]; split <;> simp
@[simp] theorem State.eventBy_hA (s : State) (f : Field) (a : Nat) : (s.eventBy f a).hA = s.hA := by
  dsimp only [State.eventBy]; split <;> simp
@[simp] theorem State.eventBy_hB (s : State) (f : Field) (a : Nat) : (s.eventBy f a).hB = s.hB := by
  dsimp only [State.eventBy]; split <;> simp
@[simp] theorem State.eventBy_fallbackV (s : State) (f : Field) (a : Nat) : (s.eventBy f a).fallbackV = s.fallbackV := by
  dsimp only [State.eventBy]; split <;> simp
@[simp] theorem State.eventBy_fallbackI (s : State) (f : Field) (a : Nat) : (s.eventBy f a).fallbackI = s.fallbackI := by
  dsimp only [State.eventBy]; split <;> simp
@[simp] theorem State.eventBy_otp (s : State) (f : Field) (a : Nat) : (s.eventBy f a).otp = s.otp := by
  dsimp only [State.eventBy]; split <;> simp
@[simp] theorem State.eventBy_auth (s : State) (f : Field) (a : Nat) : (s.eventBy f a).auth = s.auth := by
  dsimp only [State.eventBy]; split <;> simp
@[simp] theorem State.eventBy_pins (s : State) (f : Field) (a : Nat) : (s.eventBy f a).pins = s.pins := by
  dsimp only [State.eventBy]; split <;> simp
@[simp] theorem State.eventBy_boundary (s : State) (f : Field) (a : Nat) : (s.eventBy f a).boundary = s.boundary := by
  dsimp only [State.eventBy]; split <;> simp
@[simp] theorem State.eventBy_array (s : State) (f : Field) (a : Nat) : (s.eventBy f a).array = s.array := by
  dsimp only [State.eventBy]; split <;> simp
@[simp] theorem State.eventBy_opctLost (s : State) (f : Field) (a : Nat) : (s.eventBy f a).opctLost = s.opctLost := by
  dsimp only [State.eventBy]; split <;> simp
@[simp] theorem State.eventBy_apart (s : State) (f : Field) (a : Nat) : (s.eventBy f a).apart = s.apart := by
  dsimp only [State.eventBy]; split <;> simp

/-- An event sets its bit: every field reads as after that write. -/
@[simp] theorem State.eventBy_get (s : State) (f : Field) (a : Nat) (g : Field) : (s.eventBy f a).get g = (s.set f 1).get g := by
  dsimp only [State.eventBy]; split <;> simp
@[simp] theorem State.eventBy_regs (s : State) (f : Field) (a : Nat) : (s.eventBy f a).regs = (s.set f 1).regs := by
  dsimp only [State.eventBy]; split <;> simp
@[simp] theorem State.event_get (s : State) (f g : Field) : (s.event f).get g = (s.set f 1).get g := s.eventBy_get f 0 g
@[simp] theorem State.eventHost_get (s : State) (f g : Field) : (s.eventHost f).get g = (s.set f 1).get g := s.eventBy_get f 1 g
@[simp] theorem State.eventMsg_get (s : State) (f g : Field) : (s.eventMsg f).get g = (s.set f 1).get g := s.eventBy_get f 5 g


/-- A record update that leaves the registers and the hearths alone leaves every field. -/
@[simp] theorem State.mk_get (s : State) (g : Field) x0 x1 x2 x4 x5 x6 x7 x9 x10 x11 x12 x13 x14 x15 x16 x17 x18 x19 x20 x21 x22 x23 x24 x25 x26 x27 x28 x29 x30 x31 x32 : (State.mk x0 x1 x2 s.regs x4 x5 x6 x7 s.hearths x9 x10 x11 x12 x13 x14 x15 x16 x17 x18 x19 x20 x21 x22 x23 x24 x25 x26 x27 x28 x29 x30 x31 x32).get g = s.get g :=
  State.get_congr _ _ _ rfl rfl

/-! ### An element of a per-port vector -/

@[simp] theorem vmod_get {α : Type} (v : Vector α 8) (n m : Port) (f : α → α) :
    (vmod v n f).get m = if m = n then f (v.get n) else v.get m := by
  unfold vmod
  by_cases h : m = n
  · subst h; simp only [Vector.get, Vector.toArray_set, Array.getElem_set, if_true]; exact if_pos rfl
  · have h1 : n.val ≠ m.val := fun e => h (Fin.ext e.symm)
    simp only [Vector.get, Vector.toArray_set, Array.getElem_set, if_neg h]; exact if_neg h1

/-! ### Timers -/

@[simp] theorem timerFind_without (k j : TimerKind) (u w : Nat) (l : List Timer) :
    timerFind j w (timersWithout k u l) = if j = k ∧ w = u then none else timerFind j w l := by
  induction l with
  | nil => simp [timersWithout, timerFind]
  | cons t l ih =>
    simp only [timersWithout]
    by_cases ht : t.kind = k ∧ t.unit = u
    · rw [if_pos ht, ih]
      by_cases hj : j = k ∧ w = u
      · simp [hj]
      · have : ¬ (t.kind = j ∧ t.unit = w) := fun e => hj ⟨e.1.symm.trans ht.1, e.2.symm.trans ht.2⟩
        simp [hj, timerFind, this]
    · rw [if_neg ht]
      simp only [timerFind, ih]
      by_cases h1 : t.kind = j ∧ t.unit = w
      · have : ¬ (j = k ∧ w = u) := fun e => ht ⟨h1.1.trans e.1, h1.2.trans e.2⟩
        simp [h1, this]
      · simp [h1]

/-- A timer that is stopped does not run; the others run on. -/
theorem State.running_stop (s : State) (k j : TimerKind) (u w : Nat) :
    (s.stop k u).running j w = if j = k ∧ w = u then false else s.running j w := by
  simp only [State.running, State.stop, timerFind_without]; split <;> rfl

/-- A timer that is started runs, with the ticks given; the others run on. -/
theorem State.left_start (s : State) (k j : TimerKind) (u w x : Nat) :
    (s.start k u x).left j w = if j = k ∧ w = u then x else s.left j w := by
  simp only [State.left, State.start, timerFind]
  by_cases h : k = j ∧ u = w
  · simp [h]
  · have h2 : ¬ (j = k ∧ w = u) := fun e => h ⟨e.1.symm, e.2.symm⟩
    simp [h, h2, timerFind_without]

theorem State.running_start (s : State) (k j : TimerKind) (u w x : Nat) :
    (s.start k u x).running j w = if j = k ∧ w = u then true else s.running j w := by
  simp only [State.running, State.start, timerFind]
  by_cases h : k = j ∧ u = w
  · simp [h]
  · have h2 : ¬ (j = k ∧ w = u) := fun e => h ⟨e.1.symm, e.2.symm⟩
    simp [h, h2, timerFind_without]

end Sys2Proof.Machine
end

