-- ==== Sys2Proof/Laws/Within.lean ====
section
/-! SUPPORT. Staying within: a state reached from another with no register changed outside some kinds of page, no part changed outside
some parts, the queue as it was and the register store kept in its canonical form. One lemma per operation builds on these. -/

namespace Sys2Proof.Machine

/-- `t` differs from `s` in registers of the pages `W` and in the parts `P` at most. -/
structure Within (W : Nat → Bool) (P : Part → Bool) (s t : State) : Prop where
  pages : ∀ a k, k < 4 → W (pageKind (pageOf a)) = false → t.word a k = s.word a k
  parts : ∀ p, P p = false → p.same s t
  queue : t.pending = s.pending
  wf : s.Wf → t.Wf

variable {W : Nat → Bool} {P : Part → Bool} {s0 s t : State}

theorem Part.same_refl (s : State) (p : Part) : p.same s s := by cases p <;> rfl

theorem Part.same_trans {p : Part} {s t u : State} (h : p.same s t) (g : p.same t u) : p.same s u := by
  cases p <;> exact Eq.trans (b := _) g h

theorem Within.refl (s : State) : Within W P s s := ⟨fun _ _ _ _ => rfl, fun p _ => p.same_refl s, rfl, id⟩

theorem Within.trans {u : State} (h : Within W P s t) (g : Within W P t u) : Within W P s u :=
  ⟨fun a k hk hw => (g.pages a k hk hw).trans (h.pages a k hk hw), fun p hp => Part.same_trans (h.parts p hp) (g.parts p hp),
   g.queue.trans h.queue, fun w => g.wf (h.wf w)⟩

theorem Within.all (hw : ∀ p, W p = true) (hp : ∀ p, P p = true) (hq : t.pending = s.pending) (hwf : s.Wf → t.Wf) : Within W P s t :=
  ⟨fun _ _ _ h => absurd (hw _) (by rw [h]; exact Bool.false_ne_true), fun _ h => absurd (hp _) (by rw [h]; exact Bool.false_ne_true), hq, hwf⟩

theorem within_refl (s : State) : Within W P s s = True := eq_true (Within.refl s)

theorem within_ite (c : Prop) [Decidable c] : Within W P s0 (if c then s else t) = ((c → Within W P s0 s) ∧ (¬c → Within W P s0 t)) := by
  by_cases h : c <;> simp [h]

theorem within_foldl {α : Type} (f : State → α → State) (l : List α) (hf : ∀ t x, Within W P t (f t x)) (h : Within W P s0 s) :
    Within W P s0 (l.foldl f s) := by
  induction l generalizing s with
  | nil => exact h
  | cons x l ih => exact ih (h.trans (hf s x))

/-- The same where the operation is used only on members of the list. -/
theorem within_foldl_mem {α : Type} (f : State → α → State) (l : List α) (hf : ∀ t, ∀ x ∈ l, Within W P t (f t x))
    (h : Within W P s0 s) : Within W P s0 (l.foldl f s) := by
  induction l generalizing s with
  | nil => exact h
  | cons x l ih =>
    exact ih (fun t y hy => hf t y (List.mem_cons_of_mem _ hy)) (h.trans (hf s x (List.mem_cons_self ..)))

/-- The same over the numbers below a bound. -/
theorem within_foldl_range (f : State → Nat → State) (k : Nat) (hf : ∀ t (i : Fin k), Within W P t (f t i.val)) (h : Within W P s0 s) :
    Within W P s0 ((List.range k).foldl f s) :=
  within_foldl_mem f _ (fun t x hx => hf t ⟨x, List.mem_range.mp hx⟩) h

theorem pageOf_lit (k : Nat) : pageOf (no_index (OfNat.ofNat k)) = OfNat.ofNat k / 256 := rfl

theorem pageKind_lit (k : Nat) :
    pageKind (no_index (OfNat.ofNat k)) = if 0x20 ≤ (OfNat.ofNat k : Nat) ∧ (OfNat.ofNat k : Nat) ≤ 0x5F then 0x20 + OfNat.ofNat k % 8 else OfNat.ofNat k :=
  rfl

theorem pageOf_add (p off : Nat) (h : off < 256) : pageOf (p * 256 + off) = p := by unfold pageOf; omega

theorem pageOf_add2 (p off k : Nat) (h : off + k < 256) : pageOf (p * 256 + off + k) = p := by unfold pageOf; omega

theorem pageOf_base (p : Nat) : pageOf (p * 256) = p := by unfold pageOf; omega

theorem pageKind_portPage (n : Port) (k : Nat) (h : k < 8) : pageKind (portPage n k) = 0x20 + k := by
  unfold pageKind portPage; rw [if_pos (by omega)]; omega

theorem pageOf_fin4 {m : Nat} (b : Nat) (n : Fin m) (h : b % 256 + 4 * m < 260) : pageOf (b + 4 * n.val) = b / 256 := by
  have := n.isLt
  unfold pageOf; omega

theorem pageOf_fin4c {m : Nat} (b c : Nat) (n : Fin m) (h : b % 256 + 4 * c + 4 * m < 260) : pageOf (b + 4 * (c + n.val)) = b / 256 := by
  have := n.isLt
  unfold pageOf; omega

theorem pageOf_fin8 {m : Nat} (b : Nat) (n : Fin m) (h : b % 256 + 8 * m < 264) : pageOf (b + 4 * (2 * n.val)) = b / 256 := by
  have := n.isLt
  unfold pageOf; omega

theorem pageOf_fin8s {m : Nat} (b : Nat) (n : Fin m) (h : b % 256 + 8 * m < 260) : pageOf (b + 4 * (2 * n.val + 1)) = b / 256 := by
  have := n.isLt
  unfold pageOf; omega

theorem pageOf_page4 {m : Nat} (p b : Nat) (n : Fin m) (h : b + 4 * m < 260) : pageOf (p * 256 + b + 4 * n.val) = p := by
  have := n.isLt
  unfold pageOf; omega

theorem pageOf_page4c {m : Nat} (p b c : Nat) (n : Fin m) (h : b + 4 * c + 4 * m < 260) : pageOf (p * 256 + b + 4 * (c + n.val)) = p := by
  have := n.isLt
  unfold pageOf; omega

/-- Both pages of the Comparator Array. -/
theorem cmp_pages (k : Fin 64) (off : Nat) (h : off < 256) (h0 : W 0x0B = true) (h1 : W 0x0C = true) :
    W (pageKind (pageOf ((0x0B + k.val / 32) * 256 + off))) = true := by
  have : k.val / 32 = 0 ∨ k.val / 32 = 1 := by omega
  rcases this with e | e <;> rw [e, pageOf_add _ _ h] <;> assumption

theorem cmp_pages4 (k : Fin 64) (off : Nat) (h : off < 132) (h0 : W 0x0B = true) (h1 : W 0x0C = true) :
    W (pageKind (pageOf ((0x0B + k.val / 32) * 256 + off + 4 * (k.val % 32)))) = true := by
  have : k.val / 32 = 0 ∨ k.val / 32 = 1 := by omega
  rcases this with e | e <;> rw [e, pageOf_add2 _ _ _ (by omega)] <;> assumption

theorem pageKind_dbg (h : Hth) (k : Nat) (hk : k < 6) : pageKind (dbgPage h k) = dbgPage h k := by
  have e : ¬(0x20 ≤ dbgPage h k ∧ dbgPage h k ≤ 0x5F) := by unfold dbgPage; omega
  unfold pageKind; exact if_neg e

theorem dbg_pages (h : Hth) (k : Nat) (h0 : W (0x60 + k) = true) (h1 : W (0x66 + k) = true) : W (dbgPage h k) = true := by
  cases h
  · exact h0
  · have : dbgPage .B k = 0x66 + k := by simp only [dbgPage]; omega
    rw [this]; exact h1

theorem pageOf_rcv (c : Nat) : pageOf (rcvField c).addr = 3 := by
  show (0x0368 + 4 * (min c 111 / 8)) / 256 = 3
  omega

/-- An address within page `p`. -/
theorem page_range {a : Nat} (p : Nat) (h1 : p * 256 ≤ a) (h2 : a < p * 256 + 256) (hw : W (pageKind p) = true) :
    W (pageKind (pageOf a)) = true := by
  have : pageOf a = p := by unfold pageOf; omega
  rw [this]; exact hw

/-! ### Updates -/

theorem State.set_within (f : Field) (v : Nat) (hw : W (pageKind (pageOf f.addr)) = true) (h : Within W P s0 s) :
    Within W P s0 (s.set f v) := by
  refine h.trans ⟨fun a k hk ha => ?_, fun p _ => by cases p <;> rfl, rfl, fun w => ?_⟩
  · rw [State.word_set _ _ _ _ _ hk, if_neg]
    rintro ⟨rfl, -⟩
    rw [hw] at ha; cases ha
  · unfold State.Wf State.set
    exact regsSet_wf _ _ _ _ w

theorem State.putWord_within (a c : Nat) (w : Word) (hc : c < 4) (hw : W (pageKind (pageOf a)) = true) (h : Within W P s0 s) :
    Within W P s0 (s.putWord a c w) := by
  refine h.trans ⟨fun b k hk hb => ?_, fun p _ => by cases p <;> rfl, rfl, fun g => ?_⟩
  · unfold State.word State.putWord
    rw [sparseRead_write, if_neg]
    intro e
    obtain ⟨rfl, -⟩ := (regKey_inj _ _ _ _ hk hc).mp e
    rw [hw] at hb; cases hb
  · exact sparseWrite_wf _ _ _ _ g

theorem within_mk (h : Within W P s0 s)
    {x_tbase : Tick} (h_tbase : P .tbase = true ∨ x_tbase = s.tbase)
    {x_fresh : Nat} (h_fresh : P .fresh = true ∨ x_fresh = s.fresh)
    {x_timers : List Timer} (h_timers : P .timers = true ∨ x_timers = s.timers)
    {x_ember : Ember} (h_ember : P .ember = true ∨ x_ember = s.ember)
    {x_tb : TimeBase} (h_tb : P .tb = true ∨ x_tb = s.tb)
    {x_flue : Flue} (h_flue : P .flue = true ∨ x_flue = s.flue)
    {x_hearths : Hearths} (h_hearths : P .hearths = true ∨ x_hearths = s.hearths)
    {x_cc : Vector CcPort 8} (h_cc : P .cc = true ∨ x_cc = s.cc)
    {x_msg : Vector MsgPort 8} (h_msg : P .msg = true ∨ x_msg = s.msg)
    {x_pol : Vector PolPort 8} (h_pol : P .pol = true ∨ x_pol = s.pol)
    {x_vdm : Vector VdmPort 8} (h_vdm : P .vdm = true ∨ x_vdm = s.vdm)
    {x_thn : Vector ThnPort 8} (h_thn : P .thn = true ∨ x_thn = s.thn)
    {x_lp : Vector LoopPort 8} (h_lp : P .lp = true ∨ x_lp = s.lp)
    {x_lanes : Lanes} (h_lanes : P .lanes = true ∨ x_lanes = s.lanes)
    {x_fnd : Vector FndPort 8} (h_fnd : P .fnd = true ∨ x_fnd = s.fnd)
    {x_inputs : List Input} (h_inputs : P .inputs = true ∨ x_inputs = s.inputs)
    {x_ntcFitted : BitVec 4} (h_ntcFitted : P .ntcFitted = true ∨ x_ntcFitted = s.ntcFitted)
    {x_ntcFault : BitVec 4} (h_ntcFault : P .ntcFault = true ∨ x_ntcFault = s.ntcFault)
    {x_draught : Draught} (h_draught : P .draught = true ∨ x_draught = s.draught)
    {x_feeds : FeedSel} (h_feeds : P .feeds = true ∨ x_feeds = s.feeds)
    {x_hA : Hearth} (h_hA : P .hA = true ∨ x_hA = s.hA)
    {x_hB : Hearth} (h_hB : P .hB = true ∨ x_hB = s.hB)
    {x_fallbackV : List Word} (h_fallbackV : P .fallbackV = true ∨ x_fallbackV = s.fallbackV)
    {x_fallbackI : List Word} (h_fallbackI : P .fallbackI = true ∨ x_fallbackI = s.fallbackI)
    {x_otp : Otp} (h_otp : P .otp = true ∨ x_otp = s.otp)
    {x_auth : List Challenge} (h_auth : P .auth = true ∨ x_auth = s.auth)
    {x_pins : Bus} (h_pins : P .pins = true ∨ x_pins = s.pins)
    {x_boundary : Boundary} (h_boundary : P .boundary = true ∨ x_boundary = s.boundary)
    {x_array : CmpArray} (h_array : P .array = true ∨ x_array = s.array)
    {x_opctLost : Bool} (h_opctLost : P .opctLost = true ∨ x_opctLost = s.opctLost)
    {x_apart : Option Logic} (h_apart : P .apart = true ∨ x_apart = s.apart)
    : Within W P s0 (State.mk s.pending x_tbase x_fresh s.regs x_timers x_ember x_tb x_flue x_hearths x_cc x_msg x_pol x_vdm x_thn x_lp x_lanes x_fnd x_inputs x_ntcFitted x_ntcFault x_draught x_feeds x_hA x_hB x_fallbackV x_fallbackI x_otp x_auth x_pins x_boundary x_array x_opctLost x_apart) := by
  refine h.trans ⟨fun _ _ _ _ => rfl, fun p hp => ?_, rfl, fun w => w⟩
  cases p
  · exact h_tbase.resolve_left (by rw [hp]; exact Bool.false_ne_true)
  · exact h_fresh.resolve_left (by rw [hp]; exact Bool.false_ne_true)
  · exact h_timers.resolve_left (by rw [hp]; exact Bool.false_ne_true)
  · exact h_ember.resolve_left (by rw [hp]; exact Bool.false_ne_true)
  · exact h_tb.resolve_left (by rw [hp]; exact Bool.false_ne_true)
  · exact h_flue.resolve_left (by rw [hp]; exact Bool.false_ne_true)
  · exact h_hearths.resolve_left (by rw [hp]; exact Bool.false_ne_true)
  · exact h_cc.resolve_left (by rw [hp]; exact Bool.false_ne_true)
  · exact h_msg.resolve_left (by rw [hp]; exact Bool.false_ne_true)
  · exact h_pol.resolve_left (by rw [hp]; exact Bool.false_ne_true)
  · exact h_vdm.resolve_left (by rw [hp]; exact Bool.false_ne_true)
  · exact h_thn.resolve_left (by rw [hp]; exact Bool.false_ne_true)
  · exact h_lp.resolve_left (by rw [hp]; exact Bool.false_ne_true)
  · exact h_lanes.resolve_left (by rw [hp]; exact Bool.false_ne_true)
  · exact h_fnd.resolve_left (by rw [hp]; exact Bool.false_ne_true)
  · exact h_inputs.resolve_left (by rw [hp]; exact Bool.false_ne_true)
  · exact h_ntcFitted.resolve_left (by rw [hp]; exact Bool.false_ne_true)
  · exact h_ntcFault.resolve_left (by rw [hp]; exact Bool.false_ne_true)
  · exact h_draught.resolve_left (by rw [hp]; exact Bool.false_ne_true)
  · exact h_feeds.resolve_left (by rw [hp]; exact Bool.false_ne_true)
  · exact h_hA.resolve_left (by rw [hp]; exact Bool.false_ne_true)
  · exact h_hB.resolve_left (by rw [hp]; exact Bool.false_ne_true)
  · exact h_fallbackV.resolve_left (by rw [hp]; exact Bool.false_ne_true)
  · exact h_fallbackI.resolve_left (by rw [hp]; exact Bool.false_ne_true)
  · exact h_otp.resolve_left (by rw [hp]; exact Bool.false_ne_true)
  · exact h_auth.resolve_left (by rw [hp]; exact Bool.false_ne_true)
  · exact h_pins.resolve_left (by rw [hp]; exact Bool.false_ne_true)
  · exact h_boundary.resolve_left (by rw [hp]; exact Bool.false_ne_true)
  · exact h_array.resolve_left (by rw [hp]; exact Bool.false_ne_true)
  · exact h_opctLost.resolve_left (by rw [hp]; exact Bool.false_ne_true)
  · exact h_apart.resolve_left (by rw [hp]; exact Bool.false_ne_true)

end Sys2Proof.Machine
end

