-- ==== Sys2Proof/Laws/WithinOps.lean ====
section
/-! SUPPORT. What each operation and command of the shared register, port and Flue operations can change at most (`Within`): the pages and parts its
hypotheses name. -/

namespace Sys2Proof.Machine
variable {W : Nat → Bool} {P : Part → Bool} {s0 : State}
set_option linter.unusedVariables false

/-! ### Ops -/

theorem State.setRail_within {s : State} {h : Hth} {code : Nat} (w0D : W 0x0D = true) (w0E : W 0x0E = true) (hW0 : Within W P s0 s) : Within W P s0
    (State.setRail s h code) := by
  unfold State.setRail
  try dsimp only
  (repeat' split) <;> (try simp (maxDischargeDepth := 60) only [and_true, pageOf_lit, pageKind_lit, Field.inHearth, Nat.reduceDiv, Nat.reduceLeDiff,
      Nat.reduceAdd, Nat.reduceMod, if_false, State.set_within, w0D, w0E, hW0])

theorem State.report_within {s : State} {source : Nat} {unit : Nat} {detail : Nat} {master : Nat} {access : Nat} {bit : optParam (Option Nat) none}
    (p_flue : P .flue = true) (hW0 : Within W P s0 s) : Within W P s0 (State.report s source unit detail master access bit) := by
  unfold State.report
  try dsimp only
  simp (maxDischargeDepth := 60) only [and_self, implies_true, within_ite, within_mk, true_or, or_true, p_flue, hW0]

theorem State.eventBy_within {s : State} {f : Field} {access : Nat} (p_flue : P .flue = true) (hf_f : W (pageKind (pageOf f.addr)) = true) (hW0 :
    Within W P s0 s) : Within W P s0 (State.eventBy s f access) := by
  unfold State.eventBy
  try dsimp only
  simp (maxDischargeDepth := 60) only [and_self, implies_true, within_ite, State.set_within, State.report_within, p_flue, hf_f, hW0]

theorem State.eventHost_within {s : State} {f : Field} (p_flue : P .flue = true) (hf_f : W (pageKind (pageOf f.addr)) = true) (hW0 : Within W P s0 s)
    : Within W P s0 (State.eventHost s f) := by
  unfold State.eventHost
  try dsimp only
  simp (maxDischargeDepth := 60) only [State.eventBy_within, p_flue, hf_f, hW0]

theorem State.stop_within {s : State} {k : TimerKind} {u : Nat} (p_timers : P .timers = true) (hW0 : Within W P s0 s) : Within W P s0 (State.stop s k
    u) := by
  unfold State.stop
  try dsimp only
  simp (maxDischargeDepth := 60) only [within_mk, true_or, or_true, p_timers, hW0]

theorem State.bumpSat_within {s : State} {f : Field} (hf_f : W (pageKind (pageOf f.addr)) = true) (hW0 : Within W P s0 s) : Within W P s0
    (State.bumpSat s f) := by
  unfold State.bumpSat
  try dsimp only
  simp (maxDischargeDepth := 60) only [and_self, implies_true, within_ite, State.set_within, hf_f, hW0]

theorem State.soot_within {s : State} {c : Nat} {p : Port} (w04 : W 0x04 = true) (hc : c < 11) (hW0 : Within W P s0 s) :
    Within W P s0 (s.soot c p) := by
  have h : ∀ f : Field, f.addr / 256 = 4 → W (pageKind (pageOf f.addr)) = true := by
    intro f hf; rw [pageOf, hf]; exact w04
  have g : W (pageKind (pageOf (if p.val % 2 = 0 then F.ASH_SOOT_even (4 * c + p.val / 2) else F.ASH_SOOT_odd (4 * c + p.val / 2)).addr)) = true := by
    apply h
    split <;> (dsimp only; omega)
  unfold State.soot
  extract_lets f t
  split
  · exact State.set_within F.ASH_EVENT_soot_sat 1 (h F.ASH_EVENT_soot_sat rfl) (State.bumpSat_within g hW0)
  · exact State.bumpSat_within g hW0

theorem State.start_within {s : State} {k : TimerKind} {u : Nat} {ticks : Nat} (p_timers : P .timers = true) (hW0 : Within W P s0 s) : Within W P s0
    (State.start s k u ticks) := by
  unfold State.start
  try dsimp only
  simp (maxDischargeDepth := 60) only [within_mk, true_or, or_true, p_timers, hW0]

theorem State.event_within {s : State} {f : Field} (p_flue : P .flue = true) (hf_f : W (pageKind (pageOf f.addr)) = true) (hW0 : Within W P s0 s) :
    Within W P s0 (State.event s f) := by
  unfold State.event
  try dsimp only
  simp (maxDischargeDepth := 60) only [State.eventBy_within, p_flue, hf_f, hW0]

theorem State.bump_within {s : State} {f : Field} (hf_f : W (pageKind (pageOf f.addr)) = true) (hW0 : Within W P s0 s) : Within W P s0 (State.bump s
    f) := by
  unfold State.bump
  try dsimp only
  simp (maxDischargeDepth := 60) only [State.set_within, hf_f, hW0]

theorem State.roleBump_within {s : State} (w0D : W 0x0D = true) (p_hearths : P .hearths = true) (hW0 : Within W P s0 s) : Within W P s0
    (State.roleBump s) := by
  unfold State.roleBump
  try dsimp only
  simp (maxDischargeDepth := 60) only [and_self, and_true, implies_true, within_ite, within_mk, pageOf_lit, pageKind_lit, Nat.reduceDiv,
      Nat.reduceLeDiff, Nat.reduceAdd, Nat.reduceMod, if_false, true_or, or_true, State.bump_within, w0D, p_hearths, hW0]

theorem State.answered_within {s : State} {page : Nat} {f : State → State} (hf : ∀ t, Within W P t (f t)) (hW0 : Within W P s0 s) :
    Within W P s0 (s.answered page f) := by
  unfold State.answered
  split
  · exact hW0.trans (hf s)
  · exact hW0

theorem State.eventMsg_within {s : State} {f : Field} (p_flue : P .flue = true) (hf_f : W (pageKind (pageOf f.addr)) = true) (hW0 : Within W P s0 s) :
    Within W P s0 (State.eventMsg s f) := by
  unfold State.eventMsg
  try dsimp only
  simp (maxDischargeDepth := 60) only [State.eventBy_within, p_flue, hf_f, hW0]

theorem State.eventWindow_within {s : State} {f : Field} (p_flue : P .flue = true) (hf_f : W (pageKind (pageOf f.addr)) = true) (hW0 : Within W P s0
    s) : Within W P s0 (State.eventWindow s f) := by
  unfold State.eventWindow
  try dsimp only
  simp (maxDischargeDepth := 60) only [State.eventBy_within, p_flue, hf_f, hW0]

theorem State.setBit_within {s : State} {f : Field} {i : Nat} {b : Bool} (hf_f : W (pageKind (pageOf f.addr)) = true) (hW0 : Within W P s0 s) : Within
    W P s0 (State.setBit s f i b) := by
  unfold State.setBit
  try dsimp only
  simp (maxDischargeDepth := 60) only [State.set_within, hf_f, hW0]

theorem State.setB_within {s : State} {f : Field} {b : Bool} (hf_f : W (pageKind (pageOf f.addr)) = true) (hW0 : Within W P s0 s) : Within W P s0
    (State.setB s f b) := by
  unfold State.setB
  try dsimp only
  simp (maxDischargeDepth := 60) only [State.set_within, hf_f, hW0]

theorem State.eventAs_within {s : State} {f : Field} {source : Nat} {unit : Nat} {access : Nat} (p_flue : P .flue = true) (hf_f : W (pageKind (pageOf
    f.addr)) = true) (hW0 : Within W P s0 s) : Within W P s0 (State.eventAs s f source unit access) := by
  unfold State.eventAs
  try dsimp only
  simp (maxDischargeDepth := 60) only [State.report_within, State.set_within, p_flue, hf_f, hW0]

theorem State.rescale_within {s : State} {old : Nat} {new : Nat} (p_ember : P .ember = true) (p_timers : P .timers = true) (hW0 : Within W P s0 s) :
    Within W P s0 (State.rescale s old new) := by
  unfold State.rescale
  try dsimp only
  simp (maxDischargeDepth := 60) only [within_mk, true_or, or_true, p_ember, p_timers, hW0]

/-! ### LoopMath -/

theorem State.putHearth_within {s : State} {h : Hth} {x : Hearth} (p_hA : P .hA = true) (p_hB : P .hB = true) (hW0 : Within W P s0 s) :
    Within W P s0 (s.putHearth h x) := by
  cases h <;> simp only [State.putHearth, within_mk, hW0, p_hA, p_hB, or_true, true_or]

/-! ### PortOps -/

theorem State.modLp_within {s : State} {n : Port} {f : LoopPort → LoopPort} (p_lp : P .lp = true) (hW0 : Within W P s0 s) : Within W P s0 (State.modLp
    s n f) := by
  unfold State.modLp
  try dsimp only
  simp (maxDischargeDepth := 60) only [within_mk, true_or, or_true, p_lp, hW0]

theorem State.toggleStop_within {s : State} {n : Port} (w20 : W 0x20 = true) (p_timers : P .timers = true) (hW0 : Within W P s0 s) : Within W P s0
    (State.toggleStop s n) := by
  unfold State.toggleStop
  try dsimp only
  simp (maxDischargeDepth := 60) only [pageOf_add, pageKind_portPage, Nat.reduceAdd, Nat.reduceLT, State.stop_within, State.set_within, w20, p_timers,
      hW0]

theorem State.modCc_within {s : State} {n : Port} {f : CcPort → CcPort} (p_cc : P .cc = true) (hW0 : Within W P s0 s) : Within W P s0 (State.modCc s n
    f) := by
  unfold State.modCc
  try dsimp only
  simp (maxDischargeDepth := 60) only [within_mk, true_or, or_true, p_cc, hW0]

theorem State.setLvl_within {s : State} {n : Port} {cc2 : Bool} {v : Nat} (w20 : W 0x20 = true) (hW0 : Within W P s0 s) : Within W P s0 (State.setLvl
    s n cc2 v) := by
  unfold State.setLvl
  try dsimp only
  simp (maxDischargeDepth := 60) only [and_self, implies_true, within_ite, pageOf_add, pageKind_portPage, Nat.reduceAdd, Nat.reduceLT,
      State.set_within, w20, hW0]

theorem State.setPin_within {s : State} {n : Port} {cc2 : Bool} {code : Nat} (w20 : W 0x20 = true) (hW0 : Within W P s0 s) : Within W P s0
    (State.setPin s n cc2 code) := by
  unfold State.setPin
  try dsimp only
  simp (maxDischargeDepth := 60) only [and_self, implies_true, within_ite, pageOf_add, pageKind_portPage, Nat.reduceAdd, Nat.reduceLT,
      State.set_within, State.setLvl_within, w20, hW0]

theorem State.drivePin_within {s : State} {n : Port} {cc2 : Bool} {code : Nat} (w20 : W 0x20 = true) (hW0 : Within W P s0 s) : Within W P s0
    (State.drivePin s n cc2 code) := by
  unfold State.drivePin
  try dsimp only
  simp (maxDischargeDepth := 60) only [and_self, implies_true, within_ite, State.setPin_within, w20, hW0]

theorem State.drivePins_within {s : State} {n : Port} {code : Nat} (w20 : W 0x20 = true) (hW0 : Within W P s0 s) : Within W P s0 (State.drivePins s n
    code) := by
  unfold State.drivePins
  try dsimp only
  simp (maxDischargeDepth := 60) only [State.drivePin_within, w20, hW0]

theorem State.rpChange_within {s : State} {n : Port} {code : Nat} (w20 : W 0x20 = true) (p_cc : P .cc = true) (p_timers : P .timers = true) (hW0 :
    Within W P s0 s) : Within W P s0 (State.rpChange s n code) := by
  unfold State.rpChange
  try dsimp only
  simp (maxDischargeDepth := 60) only [and_self, implies_true, within_ite, State.start_within, State.modCc_within, State.drivePins_within, w20, p_cc,
      p_timers, hW0]

theorem State.rpTo_within {s : State} {n : Port} {code : Nat} (w20 : W 0x20 = true) (p_cc : P .cc = true) (p_timers : P .timers = true) (hW0 : Within
    W P s0 s) : Within W P s0 (State.rpTo s n code) := by
  unfold State.rpTo
  try dsimp only
  simp (maxDischargeDepth := 60) only [and_self, implies_true, within_ite, State.rpChange_within, State.stop_within, State.modCc_within,
      State.drivePins_within, w20, p_cc, p_timers, hW0]

theorem State.toggleStart_within {s : State} {n : Port} {l : Fin 3} (w20 : W 0x20 = true) (p_cc : P .cc = true) (p_timers : P .timers = true) (hW0 :
    Within W P s0 s) : Within W P s0 (State.toggleStart s n l) := by
  unfold State.toggleStart
  try dsimp only
  simp (maxDischargeDepth := 60) only [pageOf_add, pageKind_portPage, Nat.reduceAdd, Nat.reduceLT, State.rpTo_within, State.start_within,
      State.set_within, w20, p_cc, p_timers, hW0]

theorem State.debounceFrom_within {s : State} {n : Port} (w20 : W 0x20 = true) (p_timers : P .timers = true) (hW0 : Within W P s0 s) : Within W P s0
    (State.debounceFrom s n) := by
  unfold State.debounceFrom
  try dsimp only
  simp (maxDischargeDepth := 60) only [and_self, implies_true, within_ite, State.toggleStop_within, State.start_within, State.stop_within, w20,
      p_timers, hW0]

theorem State.standingFollow_within {s : State} {n : Port} (w20 : W 0x20 = true) (p_timers : P .timers = true) (hW0 : Within W P s0 s) : Within W P s0
    (State.standingFollow s n) := by
  unfold State.standingFollow
  try dsimp only
  simp (maxDischargeDepth := 60) only [and_self, implies_true, within_ite, State.toggleStop_within, State.debounceFrom_within, w20, p_timers, hW0]

theorem State.ccDetachTimer_within {s : State} {n : Port} (p_timers : P .timers = true) (hW0 : Within W P s0 s) : Within W P s0 (State.ccDetachTimer s
    n) := by
  unfold State.ccDetachTimer
  try dsimp only
  simp (maxDischargeDepth := 60) only [and_self, implies_true, within_ite, State.start_within, State.stop_within, p_timers, hW0]

theorem State.tryFollow_within {s : State} {n : Port} (p_timers : P .timers = true) (hW0 : Within W P s0 s) : Within W P s0 (State.tryFollow s n) :=
    by
  unfold State.tryFollow
  try dsimp only
  (repeat' split) <;> (try simp (maxDischargeDepth := 60) only [State.stop_within, State.start_within, p_timers, hW0])

theorem State.ccDebounce_within {s : State} {n : Port} (w20 : W 0x20 = true) (p_cc : P .cc = true) (p_timers : P .timers = true) (hW0 : Within W P s0
    s) : Within W P s0 (State.ccDebounce s n) := by
  unfold State.ccDebounce
  try dsimp only
  (repeat' split) <;> (try simp (maxDischargeDepth := 60) only [pageOf_add, pageKind_portPage, Nat.reduceAdd, Nat.reduceLT, State.set_within,
      State.tryFollow_within, State.debounceFrom_within, State.stop_within, State.toggleStart_within, w20, p_cc, p_timers, hW0])

theorem State.codesFollow_within {s : State} {was : State} {n : Port} (w20 : W 0x20 = true) (p_cc : P .cc = true) (p_timers : P .timers = true) (hW0 :
    Within W P s0 s) : Within W P s0 (State.codesFollow s was n) := by
  unfold State.codesFollow
  try dsimp only
  simp (maxDischargeDepth := 60) only [and_self, implies_true, within_ite, State.ccDetachTimer_within, State.start_within, State.ccDebounce_within,
      w20, p_cc, p_timers, hW0]

theorem State.presentNow_within {s : State} {n : Port} {p : Pres} (w20 : W 0x20 = true) (p_cc : P .cc = true) (p_timers : P .timers = true) (hW0 :
    Within W P s0 s) : Within W P s0 (State.presentNow s n p) := by
  unfold State.presentNow
  try dsimp only
  (repeat' split) <;> (try simp (maxDischargeDepth := 60) only [pageOf_add, pageKind_portPage, Nat.reduceAdd, Nat.reduceLT, State.toggleStop_within,
      State.set_within, State.modCc_within, State.stop_within, State.drivePins_within, State.drivePin_within, State.toggleStart_within,
      State.rpTo_within, State.standingFollow_within, State.codesFollow_within, w20, p_cc, p_timers, hW0])

theorem State.eachHearth_within {s : State} {f : State → Hth → State} (hf : ∀ t h, Within W P t (f t h)) (hW0 : Within W P s0 s) :
    Within W P s0 (s.eachHearth f) := within_foldl f _ hf hW0

theorem State.modMsg_within {s : State} {n : Port} {f : MsgPort → MsgPort} (p_msg : P .msg = true) (hW0 : Within W P s0 s) : Within W P s0
    (State.modMsg s n f) := by
  unfold State.modMsg
  try dsimp only
  simp (maxDischargeDepth := 60) only [within_mk, true_or, or_true, p_msg, hW0]

theorem State.idReset_within {s : State} {n : Port} {sops : List Nat} (w21 : W 0x21 = true) (p_msg : P .msg = true) (hW0 : Within W P s0 s) : Within W
    P s0 (State.idReset s n sops) := by
  unfold State.idReset
  try dsimp only
  simp (maxDischargeDepth := 60) only [pageOf_add, pageKind_portPage, Nat.reduceAdd, Nat.reduceLT, State.bump_within, State.modMsg_within, w21, p_msg,
      hW0]

theorem State.modFnd_within {s : State} {n : Port} {f : FndPort → FndPort} (p_fnd : P .fnd = true) (hW0 : Within W P s0 s) : Within W P s0
    (State.modFnd s n f) := by
  unfold State.modFnd
  try dsimp only
  simp (maxDischargeDepth := 60) only [within_mk, true_or, or_true, p_fnd, hW0]

theorem State.dschgStart_within {s : State} {n : Port} (w26 : W 0x26 = true) (p_fnd : P .fnd = true) (p_timers : P .timers = true) (hW0 : Within W P
    s0 s) : Within W P s0 (State.dschgStart s n) := by
  unfold State.dschgStart
  try dsimp only
  simp (maxDischargeDepth := 60) only [pageOf_add, pageKind_portPage, Nat.reduceAdd, Nat.reduceLT, State.start_within, State.modFnd_within,
      State.set_within, w26, p_fnd, p_timers, hW0]

theorem State.cmpHi_within {s : State} {k hi : Nat} (hk : W (pageKind (pageOf (F.CMP_CFG_hi 0 k).addr)) = true) (w0B : W 0x0B = true) (w0C : W 0x0C =
    true) (hW0 : Within W P s0 s) :
    Within W P s0 (s.cmpHi k hi) := by
  unfold State.cmpHi
  split
  · exact hW0
  · exact State.setBit_within w0B (State.set_within _ _ hk hW0)

theorem State.fenderLoad_within {s : State} {n : Port} (w0B : W 0x0B = true) (w0C : W 0x0C = true) (w26 : W 0x26 = true) (hW0 : Within W P s0 s) :
    Within W P s0 (State.fenderLoad s n) := by
  unfold State.fenderLoad
  try dsimp only
  simp (maxDischargeDepth := 60) only [and_self, and_true, implies_true, within_ite, pageKind_lit, pageOf_add, pageOf_fin4, pageOf_fin4c,
      pageKind_portPage, Nat.reduceDiv, Nat.reduceLeDiff, Nat.reduceMul, Nat.reduceAdd, Nat.reduceMod, Nat.reduceLT, if_false, State.set_within,
      State.cmpHi_within, w0B, w0C, w26, hW0]

theorem State.cmpTake_within {s : State} {k : Fin 16} {n : Port} {input : Nat} {lo : Nat} {filt : Nat} (w0B : W 0x0B = true) (w0C : W 0x0C = true)
    (hW0 : Within W P s0 s) : Within W P s0 (State.cmpTake s k n input lo filt) := by
  unfold State.cmpTake
  try dsimp only
  simp (maxDischargeDepth := 60) only [and_self, and_true, implies_true, within_ite, pageOf_lit, pageKind_lit, pageOf_fin4, Nat.reduceDiv,
      Nat.reduceLeDiff, Nat.reduceMul, Nat.reduceAdd, Nat.reduceMod, Nat.reduceLT, if_false, State.set_within, State.setBit_within, w0B, hW0]

theorem State.ownTake_within {s : State} {n : Port} (w0B : W 0x0B = true) (w0C : W 0x0C = true) (w26 : W 0x26 = true) (hW0 : Within W P s0 s) : Within
    W P s0 (State.ownTake s n) := by
  unfold State.ownTake
  try dsimp only
  simp (maxDischargeDepth := 60) only [State.fenderLoad_within, State.cmpTake_within, w0B, w0C, w26, hW0]

theorem State.stageStart_within {s : State} {n : Port} (w24 : W 0x24 = true) (p_flue : P .flue = true) (p_lp : P .lp = true) (p_timers : P .timers =
    true) (hW0 : Within W P s0 s) : Within W P s0 (State.stageStart s n) := by
  unfold State.stageStart
  try dsimp only
  simp (maxDischargeDepth := 60) only [and_self, implies_true, within_ite, pageOf_add, pageKind_portPage, Nat.reduceAdd, Nat.reduceLT,
      State.modLp_within, State.event_within, State.set_within, State.start_within, w24, p_flue, p_lp, p_timers, hW0]

theorem State.stageStored_within {s : State} {n : Port} (w24 : W 0x24 = true) (p_flue : P .flue = true) (p_lp : P .lp = true) (p_timers : P .timers =
    true) (hW0 : Within W P s0 s) : Within W P s0 (State.stageStored s n) := by
  unfold State.stageStored
  try dsimp only
  simp (maxDischargeDepth := 60) only [and_self, implies_true, within_ite, State.stageStart_within, w24, p_flue, p_lp, p_timers, hW0]

theorem State.assemblyEnd_within {s : State} {n : Port} (w21 : W 0x21 = true) (p_msg : P .msg = true) (p_timers : P .timers = true) (hW0 : Within W P
    s0 s) : Within W P s0 (State.assemblyEnd s n) := by
  unfold State.assemblyEnd
  try dsimp only
  simp (maxDischargeDepth := 60) only [pageOf_add, pageKind_portPage, Nat.reduceAdd, Nat.reduceLT, State.stop_within, State.set_within,
      State.modMsg_within, w21, p_msg, p_timers, hW0]

theorem State.modCap_within {s : State} {n : Port} {f : CapPort → CapPort} (p_boundary : P .boundary = true) (hW0 : Within W P s0 s) : Within W P s0
    (State.modCap s n f) := by
  unfold State.modCap
  try dsimp only
  simp (maxDischargeDepth := 60) only [within_mk, true_or, or_true, p_boundary, hW0]

theorem State.busyOff_within {s : State} {n : Port} (w20 : W 0x20 = true) (p_boundary : P .boundary = true) (p_cc : P .cc = true) (p_timers : P
    .timers = true) (hW0 : Within W P s0 s) : Within W P s0 (State.busyOff s n) := by
  unfold State.busyOff
  try dsimp only
  simp (maxDischargeDepth := 60) only [and_self, implies_true, within_ite, State.modCap_within, State.modCc_within, State.codesFollow_within,
      State.setLvl_within, w20, p_boundary, p_cc, p_timers, hW0]

theorem State.frameAbort_within {s : State} {n : Port} (w20 : W 0x20 = true) (w21 : W 0x21 = true) (p_boundary : P .boundary = true) (p_cc : P .cc =
    true) (p_msg : P .msg = true) (p_timers : P .timers = true) (hW0 : Within W P s0 s) : Within W P s0 (State.frameAbort s n) := by
  unfold State.frameAbort
  try dsimp only
  simp (maxDischargeDepth := 60) only [pageOf_add, pageKind_portPage, Nat.reduceAdd, Nat.reduceLT, State.modMsg_within, State.busyOff_within,
      State.set_within, w20, w21, p_boundary, p_cc, p_msg, p_timers, hW0]

theorem State.txAbort_within {s : State} {n : Port} (w20 : W 0x20 = true) (w21 : W 0x21 = true) (p_boundary : P .boundary = true) (p_cc : P .cc =
    true) (p_msg : P .msg = true) (p_timers : P .timers = true) (hW0 : Within W P s0 s) : Within W P s0 (State.txAbort s n) := by
  unfold State.txAbort
  try dsimp only
  simp (maxDischargeDepth := 60) only [pageOf_add, pageKind_portPage, Nat.reduceAdd, Nat.reduceLT, State.set_within, State.modMsg_within,
      State.frameAbort_within, State.stop_within, w20, w21, p_boundary, p_cc, p_msg, p_timers, hW0]

theorem State.stopAll_within {s : State} {n : Port} {l : List TimerKind} (p_timers : P .timers = true) (hW0 : Within W P s0 s) : Within W P s0
    (State.stopAll s n l) := by
  unfold State.stopAll
  try dsimp only
  simp (maxDischargeDepth := 60) only [implies_true, within_refl, within_foldl, State.stop_within, p_timers, hW0]

theorem State.modPol_within {s : State} {n : Port} {f : PolPort → PolPort} (p_pol : P .pol = true) (hW0 : Within W P s0 s) : Within W P s0
    (State.modPol s n f) := by
  unfold State.modPol
  try dsimp only
  simp (maxDischargeDepth := 60) only [within_mk, true_or, or_true, p_pol, hW0]

theorem State.hardResetRequest_within {s : State} {n : Port} (w20 : W 0x20 = true) (w21 : W 0x21 = true) (p_boundary : P .boundary = true) (p_cc : P
    .cc = true) (p_msg : P .msg = true) (p_pol : P .pol = true) (p_timers : P .timers = true) (hW0 : Within W P s0 s) : Within W P s0
    (State.hardResetRequest s n) := by
  unfold State.hardResetRequest
  try dsimp only
  simp (maxDischargeDepth := 60) only [State.modMsg_within, State.assemblyEnd_within, State.txAbort_within, State.start_within, State.stopAll_within,
      State.modPol_within, w20, w21, p_boundary, p_cc, p_msg, p_pol, p_timers, hW0]

theorem State.setSeq_within {s : State} {n : Port} {q : Seqn} (p_pol : P .pol = true) (hW0 : Within W P s0 s) : Within W P s0 (State.setSeq s n q) :=
    by
  unfold State.setSeq
  try dsimp only
  simp (maxDischargeDepth := 60) only [State.modPol_within, p_pol, hW0]

theorem State.preset_within {s : State} {n : Port} {u : Int} (w24 : W 0x24 = true) (p_lp : P .lp = true) (hW0 : Within W P s0 s) : Within W P s0
    (State.preset s n u) := by
  unfold State.preset
  try dsimp only
  simp (maxDischargeDepth := 60) only [pageOf_add, pageKind_portPage, Nat.reduceAdd, Nat.reduceLT, State.modLp_within, State.setB_within,
      State.set_within, w24, p_lp, hW0]

theorem State.setEpr_within {s : State} {n : Port} {on : Bool} (w22 : W 0x22 = true) (p_flue : P .flue = true) (hW0 : Within W P s0 s) : Within W P s0
    (State.setEpr s n on) := by
  unfold State.setEpr
  try dsimp only
  simp (maxDischargeDepth := 60) only [and_self, implies_true, within_ite, pageOf_add, pageKind_portPage, Nat.reduceAdd, Nat.reduceLT,
      State.event_within, State.setB_within, w22, p_flue, hW0]

theorem State.contractEnd_within {s : State} {n : Port} (w21 : W 0x21 = true) (w22 : W 0x22 = true) (p_flue : P .flue = true) (p_pol : P .pol = true)
    (hW0 : Within W P s0 s) : Within W P s0 (State.contractEnd s n) := by
  unfold State.contractEnd
  try dsimp only
  simp (maxDischargeDepth := 60) only [pageOf_add, pageKind_portPage, Nat.reduceAdd, Nat.reduceLT, State.modPol_within, State.set_within,
      State.setEpr_within, w21, w22, p_flue, p_pol, hW0]

theorem State.gatesOff_within {s : State} {n : Port} (w26 : W 0x26 = true) (p_fnd : P .fnd = true) (p_timers : P .timers = true) (hW0 : Within W P s0
    s) : Within W P s0 (State.gatesOff s n) := by
  unfold State.gatesOff
  try dsimp only
  simp (maxDischargeDepth := 60) only [and_self, implies_true, within_ite, pageOf_add, pageKind_portPage, Nat.reduceAdd, Nat.reduceLT,
      State.set_within, State.dschgStart_within, w26, p_fnd, p_timers, hW0]

theorem State.authNext_within {s : State} {h : Hth} (p_auth : P .auth = true) (p_fresh : P .fresh = true) (hW0 : Within W P s0 s) : Within W P s0
    (State.authNext s h) := by
  unfold State.authNext
  try dsimp only
  (repeat' split) <;> (try simp (maxDischargeDepth := 60) only [within_mk, true_or, or_true, p_auth, p_fresh, hW0])

theorem State.authDrop_within {s : State} {n : Port} (w07 : W 0x07 = true) (p_auth : P .auth = true) (p_fresh : P .fresh = true) (hW0 : Within W P s0
    s) : Within W P s0 (State.authDrop s n) := by
  unfold State.authDrop
  try dsimp only
  simp (maxDischargeDepth := 60) only [and_self, and_true, implies_true, within_ite, within_mk, pageOf_lit, pageKind_lit, Nat.reduceDiv,
      Nat.reduceLeDiff, Nat.reduceAdd, Nat.reduceMod, if_false, true_or, or_true, State.authNext_within, State.setBit_within, w07, p_auth, p_fresh,
      hW0]

theorem State.modThn_within {s : State} {n : Port} {f : ThnPort → ThnPort} (p_thn : P .thn = true) (hW0 : Within W P s0 s) : Within W P s0
    (State.modThn s n f) := by
  unfold State.modThn
  try dsimp only
  simp (maxDischargeDepth := 60) only [within_mk, true_or, or_true, p_thn, hW0]

theorem State.collapse_within {s : State} {n : Port} {reason : Nat} (w09 : W 0x09 = true) (w13 : W 0x13 = true) (p_draught : P .draught = true)
    (p_flue : P .flue = true) (p_thn : P .thn = true) (p_timers : P .timers = true) (hW0 : Within W P s0 s) : Within W P s0 (State.collapse s n
    reason) := by
  unfold State.collapse
  try dsimp only
  (repeat' split) <;> (try simp (maxDischargeDepth := 60) only [and_true, within_mk, pageOf_lit, pageKind_lit, pageOf_fin4, Nat.reduceDiv,
      Nat.reduceLeDiff, Nat.reduceMul, Nat.reduceAdd, Nat.reduceMod, Nat.reduceLT, if_false, true_or, or_true, State.modThn_within,
      State.event_within, State.set_within, State.setBit_within, State.start_within, w09, w13, p_draught, p_flue, p_thn, p_timers, hW0])

theorem State.thatinExit_within {s : State} {n : Port} (w09 : W 0x09 = true) (w13 : W 0x13 = true) (w20 : W 0x20 = true) (w23 : W 0x23 = true)
    (p_draught : P .draught = true) (p_flue : P .flue = true) (p_thn : P .thn = true) (p_timers : P .timers = true) (hW0 : Within W P s0 s) : Within W
    P s0 (State.thatinExit s n) := by
  unfold State.thatinExit
  try dsimp only
  simp (maxDischargeDepth := 60) only [and_self, and_true, implies_true, within_ite, pageOf_lit, pageKind_lit, pageOf_add, pageOf_fin4,
      pageKind_portPage, Nat.reduceDiv, Nat.reduceLeDiff, Nat.reduceMul, Nat.reduceAdd, Nat.reduceMod, Nat.reduceLT, if_false, State.collapse_within,
      State.set_within, State.setBit_within, State.stop_within, State.modThn_within, State.event_within, w09, w13, w20, w23, p_draught, p_flue, p_thn,
      p_timers, hW0]

theorem State.showQueue_within {s : State} (w08 : W 0x08 = true) (hW0 : Within W P s0 s) : Within W P s0 (State.showQueue s) := by
  unfold State.showQueue
  try dsimp only
  simp (maxDischargeDepth := 60) only [and_true, pageOf_lit, pageKind_lit, Nat.reduceDiv, Nat.reduceLeDiff, Nat.reduceAdd, Nat.reduceMod, if_false,
      State.set_within, w08, hW0]

theorem State.dropAdmission_within {s : State} {n : Port} (p_draught : P .draught = true) (hW0 : Within W P s0 s) : Within W P s0 (State.dropAdmission
    s n) := by
  unfold State.dropAdmission
  try dsimp only
  simp (maxDischargeDepth := 60) only [within_mk, true_or, or_true, p_draught, hW0]

theorem State.advanceEpoch_within {s : State} {n : Port} (w08 : W 0x08 = true) (w22 : W 0x22 = true) (p_draught : P .draught = true) (hW0 : Within W P
    s0 s) : Within W P s0 (State.advanceEpoch s n) := by
  unfold State.advanceEpoch
  try dsimp only
  simp (maxDischargeDepth := 60) only [pageOf_add, pageKind_portPage, Nat.reduceAdd, Nat.reduceLT, State.showQueue_within, State.dropAdmission_within,
      State.bump_within, w08, w22, p_draught, hW0]

theorem State.policyTimersStop_within {s : State} {n : Port} (p_timers : P .timers = true) (hW0 : Within W P s0 s) : Within W P s0
    (State.policyTimersStop s n) := by
  unfold State.policyTimersStop
  try dsimp only
  simp (maxDischargeDepth := 60) only [State.stop_within, State.stopAll_within, p_timers, hW0]

theorem State.hostLost_within {s : State} {n : Port} {lost : Bool} (w23 : W 0x23 = true) (p_flue : P .flue = true) (hW0 : Within W P s0 s) : Within W
    P s0 (State.hostLost s n lost) := by
  unfold State.hostLost
  try dsimp only
  simp (maxDischargeDepth := 60) only [and_self, implies_true, within_ite, pageOf_add, pageKind_portPage, Nat.reduceAdd, Nat.reduceLT,
      State.event_within, w23, p_flue, hW0]

theorem State.countStale_within {s : State} {n : Port} (w04 : W 0x04 = true) (w21 : W 0x21 = true) (p_flue : P .flue = true) (hW0 : Within W P s0 s) :
    Within W P s0 (State.countStale s n) := by
  unfold State.countStale
  try dsimp only
  simp (maxDischargeDepth := 60) only [pageOf_add, pageKind_portPage, Nat.reduceAdd, Nat.reduceLT, State.soot_within, State.event_within, w04, w21,
      p_flue, hW0]

theorem State.dropQueue_within {s : State} {n : Port} {p : Msg → Bool} (w04 : W 0x04 = true) (w21 : W 0x21 = true) (w23 : W 0x23 = true) (p_flue : P
    .flue = true) (p_msg : P .msg = true) (hW0 : Within W P s0 s) : Within W P s0 (State.dropQueue s n p) := by
  unfold State.dropQueue
  try dsimp only
  simp (maxDischargeDepth := 60) only [implies_true, within_refl, within_foldl, State.modMsg_within, State.hostLost_within, State.countStale_within,
      w04, w21, w23, p_flue, p_msg, hW0]

theorem State.txStop_within {s : State} {n : Port} (w04 : W 0x04 = true) (w20 : W 0x20 = true) (w21 : W 0x21 = true) (p_boundary : P .boundary = true)
    (p_cc : P .cc = true) (p_flue : P .flue = true) (p_msg : P .msg = true) (p_timers : P .timers = true) (hW0 : Within W P s0 s) : Within W P s0
    (State.txStop s n) := by
  unfold State.txStop
  try dsimp only
  simp (maxDischargeDepth := 60) only [implies_true, within_refl, within_foldl, State.txAbort_within, State.countStale_within, State.modMsg_within,
      w04, w20, w21, p_boundary, p_cc, p_flue, p_msg, p_timers, hW0]

theorem State.txSilence_within {s : State} {n : Port} (w04 : W 0x04 = true) (w20 : W 0x20 = true) (w21 : W 0x21 = true) (p_boundary : P .boundary =
    true) (p_cc : P .cc = true) (p_flue : P .flue = true) (p_msg : P .msg = true) (p_timers : P .timers = true) (hW0 : Within W P s0 s) : Within W P
    s0 (State.txSilence s n) := by
  unfold State.txSilence
  try dsimp only
  simp (maxDischargeDepth := 60) only [State.stop_within, State.modMsg_within, State.txStop_within, w04, w20, w21, p_boundary, p_cc, p_flue, p_msg,
      p_timers, hW0]

theorem State.pathTimersStop_within {s : State} {n : Port} (p_timers : P .timers = true) (hW0 : Within W P s0 s) : Within W P s0 (State.pathTimersStop
    s n) := by
  unfold State.pathTimersStop
  try dsimp only
  simp (maxDischargeDepth := 60) only [State.stop_within, p_timers, hW0]

theorem State.openPath_within {s : State} {n : Port} (w26 : W 0x26 = true) (w27 : W 0x27 = true) (p_boundary : P .boundary = true) (p_flue : P .flue =
    true) (p_fnd : P .fnd = true) (p_lp : P .lp = true) (p_timers : P .timers = true) (hW0 : Within W P s0 s) : Within W P s0 (State.openPath s n) :=
    by
  unfold State.openPath
  try dsimp only
  simp (maxDischargeDepth := 60) only [and_self, implies_true, within_ite, pageOf_add, pageKind_portPage, Nat.reduceAdd, Nat.reduceLT,
      State.modLp_within, State.set_within, State.modCap_within, State.pathTimersStop_within, State.gatesOff_within, State.event_within,
      State.modFnd_within, w26, w27, p_boundary, p_flue, p_fnd, p_lp, p_timers, hW0]

theorem State.lanesPass_within {s : State} {n : Port} {volt : Bool} (p_lanes : P .lanes = true) (hW0 : Within W P s0 s) : Within W P s0
    (State.lanesPass s n volt) := by
  unfold State.lanesPass
  try dsimp only
  simp (maxDischargeDepth := 60) only [within_mk, true_or, or_true, p_lanes, hW0]

theorem State.loopsDrop_within {s : State} {n : Port} (p_lanes : P .lanes = true) (p_lp : P .lp = true) (hW0 : Within W P s0 s) : Within W P s0
    (State.loopsDrop s n) := by
  unfold State.loopsDrop
  try dsimp only
  simp (maxDischargeDepth := 60) only [State.modLp_within, State.lanesPass_within, p_lanes, p_lp, hW0]

theorem State.stageOff_within {s : State} {n : Port} (w24 : W 0x24 = true) (p_boundary : P .boundary = true) (p_lanes : P .lanes = true) (p_lp : P .lp
    = true) (p_timers : P .timers = true) (hW0 : Within W P s0 s) : Within W P s0 (State.stageOff s n) := by
  unfold State.stageOff
  try dsimp only
  simp (maxDischargeDepth := 60) only [and_self, implies_true, within_ite, pageOf_add, pageKind_portPage, Nat.reduceAdd, Nat.reduceLT,
      State.modLp_within, State.loopsDrop_within, State.modCap_within, State.stop_within, State.set_within, w24, p_boundary, p_lanes, p_lp, p_timers,
      hW0]

theorem State.rpLevelClear_within {s : State} {n : Port} (w20 : W 0x20 = true) (p_flue : P .flue = true) (p_timers : P .timers = true) (hW0 : Within W
    P s0 s) : Within W P s0 (State.rpLevelClear s n) := by
  unfold State.rpLevelClear
  try dsimp only
  simp (maxDischargeDepth := 60) only [and_self, implies_true, within_ite, pageOf_add, pageKind_portPage, Nat.reduceAdd, Nat.reduceLT,
      State.stop_within, State.event_within, State.set_within, w20, p_flue, p_timers, hW0]

theorem State.unattach_within {s : State} {n : Port} (w20 : W 0x20 = true) (p_cc : P .cc = true) (p_flue : P .flue = true) (p_timers : P .timers =
    true) (hW0 : Within W P s0 s) : Within W P s0 (State.unattach s n) := by
  unfold State.unattach
  try dsimp only
  simp (maxDischargeDepth := 60) only [pageOf_add, pageKind_portPage, Nat.reduceAdd, Nat.reduceLT, State.rpLevelClear_within, State.set_within,
      State.modCc_within, State.stop_within, w20, p_cc, p_flue, p_timers, hW0]

theorem State.present_within {s : State} {n : Port} {p : Pres} (w20 : W 0x20 = true) (p_boundary : P .boundary = true) (p_cc : P .cc = true) (p_timers
    : P .timers = true) (hW0 : Within W P s0 s) : Within W P s0 (State.present s n p) := by
  unfold State.present
  try dsimp only
  simp (maxDischargeDepth := 60) only [and_self, implies_true, within_ite, State.modCap_within, State.presentNow_within, w20, p_boundary, p_cc,
      p_timers, hW0]

theorem State.vconnRevShow_within {s : State} {n : Port} (w20 : W 0x20 = true) (hW0 : Within W P s0 s) : Within W P s0 (State.vconnRevShow s n) := by
  unfold State.vconnRevShow
  try dsimp only
  simp (maxDischargeDepth := 60) only [pageOf_add, pageKind_portPage, Nat.reduceAdd, Nat.reduceLT, State.setB_within, w20, hW0]

theorem State.vconnOpen_within {s : State} {n : Port} (w20 : W 0x20 = true) (w22 : W 0x22 = true) (hW0 : Within W P s0 s) : Within W P s0
    (State.vconnOpen s n) := by
  unfold State.vconnOpen
  try dsimp only
  simp (maxDischargeDepth := 60) only [and_self, implies_true, within_ite, pageOf_add, pageKind_portPage, Nat.reduceAdd, Nat.reduceLT,
      State.set_within, State.vconnRevShow_within, State.drivePin_within, w20, w22, hW0]

theorem State.vconnOff_within {s : State} {n : Port} (w20 : W 0x20 = true) (w22 : W 0x22 = true) (p_boundary : P .boundary = true) (hW0 : Within W P
    s0 s) : Within W P s0 (State.vconnOff s n) := by
  unfold State.vconnOff
  try dsimp only
  simp (maxDischargeDepth := 60) only [State.vconnOpen_within, State.modCap_within, w20, w22, p_boundary, hW0]

theorem State.dschgApply_within {s : State} {n : Port} (w26 : W 0x26 = true) (p_fnd : P .fnd = true) (p_timers : P .timers = true) (hW0 : Within W P
    s0 s) : Within W P s0 (State.dschgApply s n) := by
  unfold State.dschgApply
  try dsimp only
  simp (maxDischargeDepth := 60) only [and_self, implies_true, within_ite, State.modFnd_within, State.dschgStart_within, w26, p_fnd, p_timers, hW0]

theorem State.dschgOn_within {s : State} {n : Port} (w26 : W 0x26 = true) (p_boundary : P .boundary = true) (p_fnd : P .fnd = true) (p_timers : P
    .timers = true) (hW0 : Within W P s0 s) : Within W P s0 (State.dschgOn s n) := by
  unfold State.dschgOn
  try dsimp only
  simp (maxDischargeDepth := 60) only [and_self, implies_true, within_ite, State.modCap_within, State.dschgApply_within, w26, p_boundary, p_fnd,
      p_timers, hW0]

theorem State.modVdm_within {s : State} {n : Port} {f : VdmPort → VdmPort} (p_vdm : P .vdm = true) (hW0 : Within W P s0 s) : Within W P s0
    (State.modVdm s n f) := by
  unfold State.modVdm
  try dsimp only
  simp (maxDischargeDepth := 60) only [within_mk, true_or, or_true, p_vdm, hW0]

theorem State.vdmEnd_within {s : State} {n : Port} (w23 : W 0x23 = true) (p_flue : P .flue = true) (p_timers : P .timers = true) (p_vdm : P .vdm =
    true) (hW0 : Within W P s0 s) : Within W P s0 (State.vdmEnd s n) := by
  unfold State.vdmEnd
  try dsimp only
  simp (maxDischargeDepth := 60) only [pageOf_add, pageKind_portPage, Nat.reduceAdd, Nat.reduceLT, State.stopAll_within, State.modVdm_within,
      State.set_within, State.hostLost_within, w23, p_flue, p_timers, p_vdm, hW0]

theorem State.revsClear_within {s : State} {n : Port} {sops : List Nat} (w21 : W 0x21 = true) (p_flue : P .flue = true) (hW0 : Within W P s0 s) :
    Within W P s0 (State.revsClear s n sops) := by
  unfold State.revsClear
  try dsimp only
  simp (maxDischargeDepth := 60) only [and_self, implies_true, within_ite, pageOf_add, pageKind_portPage, Nat.reduceAdd, Nat.reduceLT,
      State.event_within, State.set_within, w21, p_flue, hW0]

theorem State.loseAdmission_within {s : State} {n : Port} (w08 : W 0x08 = true) (p_draught : P .draught = true) (hW0 : Within W P s0 s) : Within W P
    s0 (State.loseAdmission s n) := by
  unfold State.loseAdmission
  try dsimp only
  simp (maxDischargeDepth := 60) only [and_true, pageOf_lit, pageKind_lit, Nat.reduceDiv, Nat.reduceLeDiff, Nat.reduceAdd, Nat.reduceMod, if_false,
      State.setBit_within, State.showQueue_within, State.dropAdmission_within, w08, p_draught, hW0]

theorem State.errorRecovery_within {s : State} {n : Port} (w00 : W 0x00 = true) (w04 : W 0x04 = true) (w07 : W 0x07 = true) (w08 : W 0x08 = true) (w09
    : W 0x09 = true) (w13 : W 0x13 = true) (w20 : W 0x20 = true) (w21 : W 0x21 = true) (w22 : W 0x22 = true) (w23 : W 0x23 = true) (w24 : W 0x24 =
    true) (w26 : W 0x26 = true) (w27 : W 0x27 = true) (p_auth : P .auth = true) (p_boundary : P .boundary = true) (p_cc : P .cc = true) (p_draught : P
    .draught = true) (p_flue : P .flue = true) (p_fnd : P .fnd = true) (p_fresh : P .fresh = true) (p_lanes : P .lanes = true) (p_lp : P .lp = true)
    (p_msg : P .msg = true) (p_pol : P .pol = true) (p_thn : P .thn = true) (p_timers : P .timers = true) (p_vdm : P .vdm = true) (hW0 : Within W P s0
    s) : Within W P s0 (State.errorRecovery s n) := by
  unfold State.errorRecovery
  try dsimp only
  simp (maxDischargeDepth := 60) only [and_self, and_true, implies_true, within_ite, pageOf_lit, pageKind_lit, pageOf_add, pageKind_portPage,
      Nat.reduceDiv, Nat.reduceLeDiff, Nat.reduceAdd, Nat.reduceMod, Nat.reduceLT, if_false, State.authDrop_within, State.thatinExit_within,
      State.collapse_within, State.advanceEpoch_within, State.event_within, State.policyTimersStop_within, State.dropQueue_within,
      State.assemblyEnd_within, State.txSilence_within, State.openPath_within, State.stageOff_within, State.unattach_within, State.present_within,
      State.vconnOff_within, State.set_within, State.dschgOn_within, State.vdmEnd_within, State.revsClear_within, State.contractEnd_within,
      State.loseAdmission_within, State.modPol_within, State.start_within, State.stop_within, w00, w04, w07, w08, w09, w13, w20, w21, w22, w23, w24,
      w26, w27, p_auth, p_boundary, p_cc, p_draught, p_flue, p_fnd, p_fresh, p_lanes, p_lp, p_msg, p_pol, p_thn, p_timers, p_vdm, hW0]

theorem State.vconnRefuse_within {s : State} {n : Port} (w20 : W 0x20 = true) (p_boundary : P .boundary = true) (p_flue : P .flue = true) (hW0 :
    Within W P s0 s) : Within W P s0 (State.vconnRefuse s n) := by
  unfold State.vconnRefuse
  try dsimp only
  simp (maxDischargeDepth := 60) only [pageOf_add, pageKind_portPage, Nat.reduceAdd, Nat.reduceLT, State.event_within, State.modCap_within, w20,
      p_boundary, p_flue, hW0]

theorem State.windowsFollow_within {s : State} {n : Port} (w26 : W 0x26 = true) (p_timers : P .timers = true) (hW0 : Within W P s0 s) : Within W P s0
    (State.windowsFollow s n) := by
  unfold State.windowsFollow
  try dsimp only
  simp (maxDischargeDepth := 60) only [and_self, implies_true, within_ite, pageOf_add, pageKind_portPage, Nat.reduceAdd, Nat.reduceLT,
      State.setB_within, State.stop_within, State.start_within, w26, p_timers, hW0]

theorem State.pathTry_within {s : State} {n : Port} (w26 : W 0x26 = true) (p_fnd : P .fnd = true) (p_timers : P .timers = true) (hW0 : Within W P s0
    s) : Within W P s0 (State.pathTry s n) := by
  unfold State.pathTry
  try dsimp only
  simp (maxDischargeDepth := 60) only [and_self, implies_true, within_ite, pageOf_add, pageKind_portPage, Nat.reduceAdd, Nat.reduceLT,
      State.windowsFollow_within, State.modFnd_within, State.set_within, w26, p_fnd, p_timers, hW0]

theorem State.closePath_within {s : State} {n : Port} {sink : Bool} (w26 : W 0x26 = true) (p_boundary : P .boundary = true) (p_fnd : P .fnd = true)
    (p_timers : P .timers = true) (hW0 : Within W P s0 s) : Within W P s0 (State.closePath s n sink) := by
  unfold State.closePath
  try dsimp only
  simp (maxDischargeDepth := 60) only [and_self, implies_true, within_ite, pageOf_add, pageKind_portPage, Nat.reduceAdd, Nat.reduceLT,
      State.setB_within, State.set_within, State.modCap_within, State.pathTry_within, w26, p_boundary, p_fnd, p_timers, hW0]

theorem State.stageRun_within {s : State} {n : Port} {reverse : Bool} (w24 : W 0x24 = true) (p_boundary : P .boundary = true) (p_flue : P .flue =
    true) (p_lp : P .lp = true) (p_timers : P .timers = true) (hW0 : Within W P s0 s) : Within W P s0 (State.stageRun s n reverse) := by
  unfold State.stageRun
  try dsimp only
  simp (maxDischargeDepth := 60) only [and_self, implies_true, within_ite, pageOf_add, pageKind_portPage, Nat.reduceAdd, Nat.reduceLT,
      State.modCap_within, State.setB_within, State.stageStart_within, State.modLp_within, w24, p_boundary, p_flue, p_lp, p_timers, hW0]

theorem State.rxStop_within {s : State} {n : Port} (w21 : W 0x21 = true) (p_msg : P .msg = true) (p_timers : P .timers = true) (hW0 : Within W P s0 s)
    : Within W P s0 (State.rxStop s n) := by
  unfold State.rxStop
  try dsimp only
  simp (maxDischargeDepth := 60) only [State.modMsg_within, State.assemblyEnd_within, w21, p_msg, p_timers, hW0]

theorem State.vconnUnrefuse_within {s : State} {n : Port} (w20 : W 0x20 = true) (p_flue : P .flue = true) (hW0 : Within W P s0 s) : Within W P s0
    (State.vconnUnrefuse s n) := by
  unfold State.vconnUnrefuse
  try dsimp only
  simp (maxDischargeDepth := 60) only [within_mk, pageOf_add, pageKind_portPage, Nat.reduceAdd, Nat.reduceLT, true_or, or_true, State.setB_within,
      w20, p_flue, hW0]

theorem State.vconnTest_within {s : State} {n : Port} (w20 : W 0x20 = true) (w22 : W 0x22 = true) (p_boundary : P .boundary = true) (p_flue : P .flue
    = true) (hW0 : Within W P s0 s) : Within W P s0 (State.vconnTest s n) := by
  unfold State.vconnTest
  try dsimp only
  simp (maxDischargeDepth := 60) only [and_self, implies_true, within_ite, pageOf_add, pageKind_portPage, Nat.reduceAdd, Nat.reduceLT,
      State.modCap_within, State.vconnRevShow_within, State.set_within, State.setB_within, State.setPin_within, State.vconnRefuse_within, w20, w22,
      p_boundary, p_flue, hW0]

theorem State.vconnDiscard_within {s : State} {n : Port} (w20 : W 0x20 = true) (w22 : W 0x22 = true) (p_boundary : P .boundary = true) (p_cc : P .cc =
    true) (p_flue : P .flue = true) (hW0 : Within W P s0 s) : Within W P s0 (State.vconnDiscard s n) := by
  unfold State.vconnDiscard
  try dsimp only
  simp (maxDischargeDepth := 60) only [and_self, implies_true, within_refl, within_ite, within_foldl, State.modCc_within, State.vconnUnrefuse_within,
      State.vconnOff_within, State.vconnTest_within, State.vconnOpen_within, w20, w22, p_boundary, p_cc, p_flue, hW0]

theorem State.clampOff_within {s : State} {n : Port} (w08 : W 0x08 = true) (hW0 : Within W P s0 s) : Within W P s0 (State.clampOff s n) := by
  unfold State.clampOff
  try dsimp only
  simp (maxDischargeDepth := 60) only [and_true, pageOf_lit, pageKind_lit, pageOf_fin4, Nat.reduceDiv, Nat.reduceLeDiff, Nat.reduceMul, Nat.reduceAdd,
      Nat.reduceMod, Nat.reduceLT, if_false, State.set_within, State.setB_within, w08, hW0]

theorem State.presetZero_within {s : State} {n : Port} (w24 : W 0x24 = true) (p_lp : P .lp = true) (hW0 : Within W P s0 s) : Within W P s0
    (State.presetZero s n) := by
  unfold State.presetZero
  try dsimp only
  simp (maxDischargeDepth := 60) only [State.preset_within, w24, p_lp, hW0]

theorem State.rpSecond_within {s : State} {n : Port} (w20 : W 0x20 = true) (p_cc : P .cc = true) (p_timers : P .timers = true) (hW0 : Within W P s0 s)
    : Within W P s0 (State.rpSecond s n) := by
  unfold State.rpSecond
  try dsimp only
  simp (maxDischargeDepth := 60) only [State.stop_within, State.modCc_within, State.drivePins_within, w20, p_cc, p_timers, hW0]

theorem State.busyApply_within {s : State} {n : Port} (w20 : W 0x20 = true) (p_cc : P .cc = true) (p_timers : P .timers = true) (hW0 : Within W P s0
    s) : Within W P s0 (State.busyApply s n) := by
  unfold State.busyApply
  try dsimp only
  simp (maxDischargeDepth := 60) only [and_self, implies_true, within_ite, State.codesFollow_within, State.setLvl_within, State.modCc_within, w20,
      p_cc, p_timers, hW0]

theorem State.busyOn_within {s : State} {n : Port} (w20 : W 0x20 = true) (p_boundary : P .boundary = true) (p_cc : P .cc = true) (p_timers : P .timers
    = true) (hW0 : Within W P s0 s) : Within W P s0 (State.busyOn s n) := by
  unfold State.busyOn
  try dsimp only
  simp (maxDischargeDepth := 60) only [State.busyApply_within, State.modCap_within, w20, p_boundary, p_cc, p_timers, hW0]

theorem State.dschgOff_within {s : State} {n : Port} (w26 : W 0x26 = true) (p_boundary : P .boundary = true) (p_fnd : P .fnd = true) (p_timers : P
    .timers = true) (hW0 : Within W P s0 s) : Within W P s0 (State.dschgOff s n) := by
  unfold State.dschgOff
  try dsimp only
  simp (maxDischargeDepth := 60) only [pageOf_add, pageKind_portPage, Nat.reduceAdd, Nat.reduceLT, State.stop_within, State.modFnd_within,
      State.set_within, State.modCap_within, w26, p_boundary, p_fnd, p_timers, hW0]

theorem State.handoverAt_within {s : State} {n : Port} {sop : Nat} {ty : Nat} {data : List Byte} {why : Purpose} {epoch : Nat} (p_msg : P .msg = true)
    (hW0 : Within W P s0 s) : Within W P s0 (State.handoverAt s n sop ty data why epoch) := by
  unfold State.handoverAt
  try dsimp only
  simp (maxDischargeDepth := 60) only [State.modMsg_within, p_msg, hW0]

theorem State.handover_within {s : State} {n : Port} {sop : Nat} {ty : Nat} {data : List Byte} {why : Purpose} (p_msg : P .msg = true) (hW0 : Within W
    P s0 s) : Within W P s0 (State.handover s n sop ty data why) := by
  unfold State.handover
  try dsimp only
  simp (maxDischargeDepth := 60) only [State.handoverAt_within, p_msg, hW0]

theorem State.sendCtl_within {s : State} {n : Port} {ty : Nat} {why : Purpose} (p_msg : P .msg = true) (hW0 : Within W P s0 s) : Within W P s0
    (State.sendCtl s n ty why) := by
  unfold State.sendCtl
  try dsimp only
  simp (maxDischargeDepth := 60) only [State.handover_within, p_msg, hW0]

theorem State.trcTrigger_within {s : State} {h : Hth} {cause : Nat} (p_hA : P .hA = true) (p_hB : P .hB = true) (hW0 : Within W P s0 s) : Within W P
    s0 (State.trcTrigger s h cause) := by
  unfold State.trcTrigger
  try dsimp only
  simp (maxDischargeDepth := 60) only [and_self, implies_true, within_ite, State.putHearth_within, p_hA, p_hB, hW0]

theorem State.withdrawDraft_within {s : State} {n : Port} (w22 : W 0x22 = true) (p_flue : P .flue = true) (p_msg : P .msg = true) (p_pol : P .pol =
    true) (hW0 : Within W P s0 s) : Within W P s0 (State.withdrawDraft s n) := by
  unfold State.withdrawDraft
  try dsimp only
  (repeat' split) <;> (try simp (maxDischargeDepth := 60) only [pageOf_add, pageKind_portPage, Nat.reduceAdd, Nat.reduceLT, State.modPol_within,
      State.event_within, State.modMsg_within, w22, p_flue, p_msg, p_pol, hW0])

theorem State.traceTrigger_within {s : State} {c : TrcCause} (p_hA : P .hA = true) (p_hB : P .hB = true)
    (hW0 : Within W P s0 s) : Within W P s0 (s.traceTrigger c) := by
  unfold State.traceTrigger
  refine State.eachHearth_within (fun t h => ?_) hW0
  split
  · exact State.trcTrigger_within p_hA p_hB (.refl t)
  · exact .refl t

theorem State.allPorts_within {s : State} {f : State → Port → State} (hf : ∀ t n, Within W P t (f t n)) (hW0 : Within W P s0 s) :
    Within W P s0 (s.allPorts f) := within_foldl f _ hf hW0

theorem State.sinkDetachTimer_within {s : State} {n : Port} {mv : Nat} (p_timers : P .timers = true) (hW0 : Within W P s0 s) : Within W P s0
    (State.sinkDetachTimer s n mv) := by
  unfold State.sinkDetachTimer
  try dsimp only
  simp (maxDischargeDepth := 60) only [and_self, implies_true, within_ite, State.start_within, State.stop_within, p_timers, hW0]

theorem State.ownRelease_within {s : State} {n : Port} (w0B : W 0x0B = true) (w0C : W 0x0C = true) (hW0 : Within W P s0 s) : Within W P s0
    (State.ownRelease s n) := by
  unfold State.ownRelease
  try dsimp only
  simp (maxDischargeDepth := 60) only [and_true, pageOf_lit, pageKind_lit, Nat.reduceDiv, Nat.reduceLeDiff, Nat.reduceMul, Nat.reduceAdd,
      Nat.reduceMod, if_false, State.setBit_within, w0B, hW0]

theorem State.vconnOn_within {s : State} {n : Port} (w20 : W 0x20 = true) (w22 : W 0x22 = true) (p_boundary : P .boundary = true) (p_cc : P .cc =
    true) (p_flue : P .flue = true) (hW0 : Within W P s0 s) : Within W P s0 (State.vconnOn s n) := by
  unfold State.vconnOn
  try dsimp only
  simp (maxDischargeDepth := 60) only [and_self, implies_true, within_refl, within_ite, within_foldl, State.modCap_within, State.modCc_within,
      State.vconnTest_within, State.vconnOpen_within, w20, w22, p_boundary, p_cc, p_flue, hW0]

theorem State.leaveLockout_within {s : State} {n : Port} (w24 : W 0x24 = true) (w26 : W 0x26 = true) (p_flue : P .flue = true) (p_lp : P .lp = true)
    (p_timers : P .timers = true) (hW0 : Within W P s0 s) : Within W P s0 (State.leaveLockout s n) := by
  unfold State.leaveLockout
  try dsimp only
  simp (maxDischargeDepth := 60) only [and_self, implies_true, within_ite, pageOf_add, pageKind_portPage, Nat.reduceAdd, Nat.reduceLT,
      State.set_within, State.modLp_within, State.stageStored_within, w24, w26, p_flue, p_lp, p_timers, hW0]

theorem State.dropUnder_within {s : State} {n : Port} {p : Msg → Bool} (w04 : W 0x04 = true) (w21 : W 0x21 = true) (w23 : W 0x23 = true) (p_flue : P
    .flue = true) (p_msg : P .msg = true) (p_timers : P .timers = true) (hW0 : Within W P s0 s) : Within W P s0 (State.dropUnder s n p) := by
  unfold State.dropUnder
  try dsimp only
  simp (maxDischargeDepth := 60) only [and_self, implies_true, within_refl, within_ite, pageOf_add, within_foldl, pageKind_portPage, Nat.reduceAdd,
      Nat.reduceLT, State.stop_within, State.set_within, State.modMsg_within, State.hostLost_within, State.countStale_within, w04, w21, w23, p_flue,
      p_msg, p_timers, hW0]

theorem State.outputsRelease_within {s : State} {n : Port} (w20 : W 0x20 = true) (w22 : W 0x22 = true) (w24 : W 0x24 = true) (w26 : W 0x26 = true)
    (p_boundary : P .boundary = true) (p_cc : P .cc = true) (p_flue : P .flue = true) (p_fnd : P .fnd = true) (p_lp : P .lp = true) (p_timers : P
    .timers = true) (hW0 : Within W P s0 s) : Within W P s0 (State.outputsRelease s n) := by
  unfold State.outputsRelease
  try dsimp only
  simp (maxDischargeDepth := 60) only [and_self, implies_true, within_ite, State.present_within, State.vconnTest_within, State.dschgOn_within,
      State.busyApply_within, State.stageStored_within, State.pathTry_within, w20, w22, w24, w26, p_boundary, p_cc, p_flue, p_fnd, p_lp, p_timers,
      hW0]

theorem State.detachPath_within {s : State} {n : Port} (w24 : W 0x24 = true) (w26 : W 0x26 = true) (w27 : W 0x27 = true) (p_boundary : P .boundary =
    true) (p_flue : P .flue = true) (p_fnd : P .fnd = true) (p_lp : P .lp = true) (p_timers : P .timers = true) (hW0 : Within W P s0 s) : Within W P
    s0 (State.detachPath s n) := by
  unfold State.detachPath
  try dsimp only
  simp (maxDischargeDepth := 60) only [State.leaveLockout_within, State.openPath_within, State.modFnd_within, w24, w26, w27, p_boundary, p_flue,
      p_fnd, p_lp, p_timers, hW0]

theorem State.authError_within {s : State} {n : Port} {code : Nat} (w07 : W 0x07 = true) (p_flue : P .flue = true) (hW0 : Within W P s0 s) : Within W
    P s0 (State.authError s n code) := by
  unfold State.authError
  try dsimp only
  simp (maxDischargeDepth := 60) only [and_true, pageOf_lit, pageKind_lit, Nat.reduceDiv, Nat.reduceLeDiff, Nat.reduceAdd, Nat.reduceMod, if_false,
      State.eventMsg_within, State.set_within, w07, p_flue, hW0]

end Sys2Proof.Machine
end

