-- ==== Sys2Proof/Laws/WithinCc.lean ====
section
/-! SUPPORT. What each operation and command of the CC section, the fallback policy and the bytecode policy can change at most (`Within`): the pages and parts its
hypotheses name. -/

namespace Sys2Proof.Machine
variable {W : Nat → Bool} {P : Part → Bool} {s0 : State}
set_option linter.unusedVariables false

/-! ### Cc -/

theorem State.rpDebounced_within {s : State} {n : Port} (w20 : W 0x20 = true) (w21 : W 0x21 = true) (p_flue : P .flue = true) (p_msg : P .msg = true)
    (p_timers : P .timers = true) (hW0 : Within W P s0 s) : Within W P s0 (State.rpDebounced s n) := by
  unfold State.rpDebounced
  try dsimp only
  simp (maxDischargeDepth := 60) only [and_self, implies_true, within_ite, pageOf_add, pageKind_portPage, Nat.reduceAdd, Nat.reduceLT,
      State.stop_within, State.event_within, State.setB_within, State.set_within, State.modMsg_within, w20, w21, p_flue, p_msg, p_timers, hW0]

theorem State.pinRead_within {s : State} {n : Port} {cc2 : Bool} (w20 : W 0x20 = true) (p_cc : P .cc = true) (p_flue : P .flue = true) (p_timers : P
    .timers = true) (hW0 : Within W P s0 s) : Within W P s0 (State.pinRead s n cc2) := by
  unfold State.pinRead
  try dsimp only
  simp (maxDischargeDepth := 60) only [and_self, implies_true, within_ite, pageOf_add, pageKind_portPage, Nat.reduceAdd, Nat.reduceLT,
      State.setLvl_within, State.codesFollow_within, State.event_within, w20, p_cc, p_flue, p_timers, hW0]

theorem State.ccOv_within {s : State} {n : Port} {cc2 : Bool} {mv : Nat} (w20 : W 0x20 = true) (w22 : W 0x22 = true) (p_cc : P .cc = true) (p_flue : P
    .flue = true) (p_timers : P .timers = true) (hW0 : Within W P s0 s) : Within W P s0 (State.ccOv s n cc2 mv) := by
  unfold State.ccOv
  try dsimp only
  simp (maxDischargeDepth := 60) only [and_self, implies_true, within_ite, pageOf_add, pageKind_portPage, Nat.reduceAdd, Nat.reduceLT,
      State.vconnOpen_within, State.modCc_within, State.set_within, State.event_within, State.pinRead_within, w20, w22, p_cc, p_flue, p_timers, hW0]

theorem State.policyInput_within {s : State} {n : Port} {k : InKind} (p_inputs : P .inputs = true) (hW0 : Within W P s0 s) : Within W P s0
    (State.policyInput s n k) := by
  unfold State.policyInput
  try dsimp only
  simp (maxDischargeDepth := 60) only [within_mk, true_or, or_true, p_inputs, hW0]

theorem State.openFast_within {s : State} {n : Port} (w09 : W 0x09 = true) (w13 : W 0x13 = true) (w20 : W 0x20 = true) (p_draught : P .draught = true)
    (p_flue : P .flue = true) (p_inputs : P .inputs = true) (p_thn : P .thn = true) (p_timers : P .timers = true) (hW0 : Within W P s0 s) : Within W P
    s0 (State.openFast s n) := by
  unfold State.openFast
  try dsimp only
  simp (maxDischargeDepth := 60) only [and_self, implies_true, within_ite, pageOf_add, pageKind_portPage, Nat.reduceAdd, Nat.reduceLT,
      State.policyInput_within, State.collapse_within, State.event_within, w09, w13, w20, p_draught, p_flue, p_inputs, p_thn, p_timers, hW0]

theorem State.ccReconnect_within {s : State} {n : Port} {cc2 : Bool} (w20 : W 0x20 = true) (w22 : W 0x22 = true) (p_boundary : P .boundary = true)
    (p_cc : P .cc = true) (p_flue : P .flue = true) (p_timers : P .timers = true) (hW0 : Within W P s0 s) : Within W P s0 (State.ccReconnect s n cc2)
    := by
  unfold State.ccReconnect
  try dsimp only
  simp (maxDischargeDepth := 60) only [and_self, implies_true, within_ite, pageOf_add, pageKind_portPage, Nat.reduceAdd, Nat.reduceLT,
      State.modCc_within, State.setB_within, State.pinRead_within, State.setPin_within, State.busyApply_within, State.vconnTest_within, w20, w22,
      p_boundary, p_cc, p_flue, p_timers, hW0]

theorem State.ovRelease_within {s : State} {n : Port} (w20 : W 0x20 = true) (w22 : W 0x22 = true) (p_boundary : P .boundary = true) (p_cc : P .cc =
    true) (p_flue : P .flue = true) (p_timers : P .timers = true) (hW0 : Within W P s0 s) : Within W P s0 (State.ovRelease s n) := by
  unfold State.ovRelease
  try dsimp only
  simp (maxDischargeDepth := 60) only [and_self, implies_true, within_ite, State.ccReconnect_within, w20, w22, p_boundary, p_cc, p_flue, p_timers,
      hW0]

theorem execOvRelease_within {n : Port} {s : State} (w20 : W 0x20 = true) (w22 : W 0x22 = true) (p_boundary : P .boundary = true) (p_cc : P .cc =
    true) (p_flue : P .flue = true) (p_timers : P .timers = true) {t : State} (e : execOvRelease n s = .next t) : Within W P s t := by
  unfold execOvRelease at e
  try dsimp only at e
  cases e
  simp (maxDischargeDepth := 60) only [implies_true, within_refl, State.answered_within, State.ovRelease_within, w20, w22, p_boundary, p_cc, p_flue,
      p_timers]

theorem State.vbusNoCc_within {s : State} {n : Port} (w20 : W 0x20 = true) (p_flue : P .flue = true) (hW0 : Within W P s0 s) : Within W P s0
    (State.vbusNoCc s n) := by
  unfold State.vbusNoCc
  try dsimp only
  simp (maxDischargeDepth := 60) only [and_self, implies_true, within_ite, pageOf_add, pageKind_portPage, Nat.reduceAdd, Nat.reduceLT,
      State.event_within, w20, p_flue, hW0]

theorem execVconnDisable_within {n : Port} {s : State} (w20 : W 0x20 = true) (w22 : W 0x22 = true) (p_boundary : P .boundary = true) {t : State} (e :
    execVconnDisable n s = .next t) : Within W P s t := by
  unfold execVconnDisable at e
  try dsimp only at e
  cases e
  simp (maxDischargeDepth := 60) only [within_refl, State.vconnOff_within, w20, w22, p_boundary]

theorem State.commandTakenBack_within {s : State} {n : Port} (w20 : W 0x20 = true) (p_boundary : P .boundary = true) (p_cc : P .cc = true) (p_timers :
    P .timers = true) (hW0 : Within W P s0 s) : Within W P s0 (State.commandTakenBack s n) := by
  unfold State.commandTakenBack
  try dsimp only
  (repeat' split) <;> (try simp (maxDischargeDepth := 60) only [State.present_within, w20, p_boundary, p_cc, p_timers, hW0])

theorem State.detach_within {s : State} {n : Port} (w04 : W 0x04 = true) (w07 : W 0x07 = true) (w08 : W 0x08 = true) (w09 : W 0x09 = true) (w13 : W
    0x13 = true) (w20 : W 0x20 = true) (w21 : W 0x21 = true) (w22 : W 0x22 = true) (w23 : W 0x23 = true) (w24 : W 0x24 = true) (w26 : W 0x26 = true)
    (w27 : W 0x27 = true) (p_auth : P .auth = true) (p_boundary : P .boundary = true) (p_cc : P .cc = true) (p_draught : P .draught = true) (p_flue :
    P .flue = true) (p_fnd : P .fnd = true) (p_fresh : P .fresh = true) (p_inputs : P .inputs = true) (p_lanes : P .lanes = true) (p_lp : P .lp =
    true) (p_msg : P .msg = true) (p_pol : P .pol = true) (p_thn : P .thn = true) (p_timers : P .timers = true) (p_vdm : P .vdm = true) (hW0 : Within
    W P s0 s) : Within W P s0 (State.detach s n) := by
  unfold State.detach
  try dsimp only
  simp (maxDischargeDepth := 60) only [and_self, implies_true, within_ite, pageOf_add, pageKind_portPage, Nat.reduceAdd, Nat.reduceLT,
      State.commandTakenBack_within, State.txSilence_within, State.collapse_within, State.set_within, State.event_within, State.modCc_within,
      State.bump_within, State.standingFollow_within, State.vconnDiscard_within, State.rpLevelClear_within, State.stop_within, State.revsClear_within,
      State.idReset_within, State.advanceEpoch_within, State.policyTimersStop_within, State.authDrop_within, State.thatinExit_within,
      State.rxStop_within, State.detachPath_within, State.stageOff_within, State.modFnd_within, State.dschgOn_within, State.loseAdmission_within,
      State.vdmEnd_within, State.contractEnd_within, State.policyInput_within, State.setSeq_within, w04, w07, w08, w09, w13, w20, w21, w22, w23, w24,
      w26, w27, p_auth, p_boundary, p_cc, p_draught, p_flue, p_fnd, p_fresh, p_inputs, p_lanes, p_lp, p_msg, p_pol, p_thn, p_timers, p_vdm, hW0]

theorem State.detachExpiry_within {s : State} {n : Port} (w04 : W 0x04 = true) (w07 : W 0x07 = true) (w08 : W 0x08 = true) (w09 : W 0x09 = true) (w13
    : W 0x13 = true) (w20 : W 0x20 = true) (w21 : W 0x21 = true) (w22 : W 0x22 = true) (w23 : W 0x23 = true) (w24 : W 0x24 = true) (w26 : W 0x26 =
    true) (w27 : W 0x27 = true) (p_auth : P .auth = true) (p_boundary : P .boundary = true) (p_cc : P .cc = true) (p_draught : P .draught = true)
    (p_flue : P .flue = true) (p_fnd : P .fnd = true) (p_fresh : P .fresh = true) (p_inputs : P .inputs = true) (p_lanes : P .lanes = true) (p_lp : P
    .lp = true) (p_msg : P .msg = true) (p_pol : P .pol = true) (p_thn : P .thn = true) (p_timers : P .timers = true) (p_vdm : P .vdm = true) (hW0 :
    Within W P s0 s) : Within W P s0 (State.detachExpiry s n) := by
  unfold State.detachExpiry
  try dsimp only
  simp (maxDischargeDepth := 60) only [and_self, implies_true, within_ite, State.detach_within, w04, w07, w08, w09, w13, w20, w21, w22, w23, w24, w26,
      w27, p_auth, p_boundary, p_cc, p_draught, p_flue, p_fnd, p_fresh, p_inputs, p_lanes, p_lp, p_msg, p_pol, p_thn, p_timers, p_vdm, hW0]

theorem State.vbusPresent_within {s : State} {n : Port} {on : Bool} (w20 : W 0x20 = true) (p_cc : P .cc = true) (p_flue : P .flue = true) (p_timers :
    P .timers = true) (hW0 : Within W P s0 s) : Within W P s0 (State.vbusPresent s n on) := by
  unfold State.vbusPresent
  try dsimp only
  simp (maxDischargeDepth := 60) only [and_self, implies_true, within_ite, pageOf_add, pageKind_portPage, Nat.reduceAdd, Nat.reduceLT,
      State.setB_within, State.ccDebounce_within, State.vbusNoCc_within, w20, p_cc, p_flue, p_timers, hW0]

theorem State.drpPhase_within {s : State} {n : Port} (w20 : W 0x20 = true) (p_cc : P .cc = true) (p_timers : P .timers = true) (hW0 : Within W P s0 s)
    : Within W P s0 (State.drpPhase s n) := by
  unfold State.drpPhase
  try dsimp only
  (repeat' split) <;> (try simp (maxDischargeDepth := 60) only [State.start_within, State.drivePins_within, State.toggleStart_within, w20, p_cc,
      p_timers, hW0])

theorem execVconnOc_within {hold : OcHold} {s : State} (w20 : W 0x20 = true) (w22 : W 0x22 = true) (p_boundary : P .boundary = true) (p_flue : P .flue
    = true) {t : State} (e : execVconnOc hold s = .next t) : Within W P s t := by
  unfold execVconnOc at e
  try dsimp only at e
  cases e
  simp (maxDischargeDepth := 60) only [and_self, implies_true, within_refl, within_ite, pageOf_add, pageKind_portPage, Nat.reduceAdd, Nat.reduceLT,
      State.event_within, State.vconnOff_within, w20, w22, p_boundary, p_flue]

theorem execVconnUv_within {s : State} (w01 : W 0x01 = true) (w20 : W 0x20 = true) (w22 : W 0x22 = true) (p_boundary : P .boundary = true) (p_flue : P
    .flue = true) {t : State} (e : execVconnUv s = .next t) : Within W P s t := by
  unfold execVconnUv at e
  try dsimp only at e
  cases e
  simp (maxDischargeDepth := 60) only [and_self, and_true, implies_true, within_refl, within_ite, pageOf_lit, pageKind_lit, pageOf_add,
      pageKind_portPage, Nat.reduceDiv, Nat.reduceLeDiff, Nat.reduceAdd, Nat.reduceMod, Nat.reduceLT, if_false, State.allPorts_within,
      State.set_within, State.event_within, State.vconnOff_within, w01, w20, w22, p_boundary, p_flue]

theorem execRpLevelDebounced_within {n : Port} {s : State} (w20 : W 0x20 = true) (w21 : W 0x21 = true) (p_flue : P .flue = true) (p_msg : P .msg =
    true) (p_timers : P .timers = true) {t : State} (e : execRpLevelDebounced n s = .next t) : Within W P s t := by
  unfold execRpLevelDebounced at e
  try dsimp only at e
  cases e
  simp (maxDischargeDepth := 60) only [within_refl, State.rpDebounced_within, w20, w21, p_flue, p_msg, p_timers]

theorem State.ccLevel_within {s : State} {n : Port} {cc2 : Bool} {mv : Nat} (w20 : W 0x20 = true) (p_cc : P .cc = true) (p_flue : P .flue = true)
    (p_timers : P .timers = true) (hW0 : Within W P s0 s) : Within W P s0 (State.ccLevel s n cc2 mv) := by
  unfold State.ccLevel
  try dsimp only
  simp (maxDischargeDepth := 60) only [State.modCc_within, State.vconnRevShow_within, State.pinRead_within, w20, p_cc, p_flue, p_timers, hW0]

theorem State.otherPin_within {s : State} {n : Port} {mv : Nat} (w20 : W 0x20 = true) (p_cc : P .cc = true) (p_flue : P .flue = true) (p_timers : P
    .timers = true) (hW0 : Within W P s0 s) : Within W P s0 (State.otherPin s n mv) := by
  unfold State.otherPin
  try dsimp only
  simp (maxDischargeDepth := 60) only [and_self, implies_true, within_ite, State.ccLevel_within, w20, p_cc, p_flue, p_timers, hW0]

theorem execOtherPinChange_within {n : Port} {mv : Nat} {s : State} (w20 : W 0x20 = true) (p_cc : P .cc = true) (p_flue : P .flue = true) (p_timers :
    P .timers = true) {t : State} (e : execOtherPinChange n mv s = .next t) : Within W P s t := by
  unfold execOtherPinChange at e
  try dsimp only at e
  cases e
  simp (maxDischargeDepth := 60) only [within_refl, State.otherPin_within, w20, p_cc, p_flue, p_timers]

theorem execCcOv_within {n : Port} {cc2 : Bool} {mv : Nat} {s : State} (w20 : W 0x20 = true) (w22 : W 0x22 = true) (p_cc : P .cc = true) (p_flue : P
    .flue = true) (p_timers : P .timers = true) {t : State} (e : execCcOv n cc2 mv s = .next t) : Within W P s t := by
  unfold execCcOv at e
  try dsimp only at e
  cases e
  simp (maxDischargeDepth := 60) only [within_refl, State.ccOv_within, w20, w22, p_cc, p_flue, p_timers]

theorem State.sbuOv_within {s : State} {n : Port} {sbu2 : Bool} (w20 : W 0x20 = true) (p_flue : P .flue = true) (hW0 : Within W P s0 s) : Within W P
    s0 (State.sbuOv s n sbu2) := by
  unfold State.sbuOv
  try dsimp only
  simp (maxDischargeDepth := 60) only [and_self, implies_true, within_ite, pageOf_add, pageKind_portPage, Nat.reduceAdd, Nat.reduceLT,
      State.set_within, State.event_within, w20, p_flue, hW0]

theorem execVconnEnable_within {n : Port} {s : State} (w20 : W 0x20 = true) (w22 : W 0x22 = true) (p_boundary : P .boundary = true) (p_cc : P .cc =
    true) (p_flue : P .flue = true) {t : State} (e : execVconnEnable n s = .next t) : Within W P s t := by
  unfold execVconnEnable at e
  try dsimp only at e
  cases e
  simp (maxDischargeDepth := 60) only [within_refl, State.vconnOn_within, w20, w22, p_boundary, p_cc, p_flue]

theorem execCcLevelChange_within {n : Port} {cc2 : Bool} {mv : Nat} {s : State} (w20 : W 0x20 = true) (p_cc : P .cc = true) (p_flue : P .flue = true)
    (p_timers : P .timers = true) {t : State} (e : execCcLevelChange n cc2 mv s = .next t) : Within W P s t := by
  unfold execCcLevelChange at e
  try dsimp only at e
  cases e
  simp (maxDischargeDepth := 60) only [within_refl, State.ccLevel_within, w20, p_cc, p_flue, p_timers]

theorem State.ccConfigWrite_within {s : State} {n : Port} {debounce : Bool} {v : Word} (w20 : W 0x20 = true) (p_flue : P .flue = true) (hW0 : Within W
    P s0 s) : Within W P s0 (State.ccConfigWrite s n debounce v) := by
  unfold State.ccConfigWrite
  try dsimp only
  simp (maxDischargeDepth := 60) only [and_self, implies_true, within_ite, pageOf_add, pageKind_portPage, Nat.reduceAdd, Nat.reduceLT,
      State.eventHost_within, State.set_within, w20, p_flue, hW0]

theorem execCcConfigWrite_within {n : Port} {debounce : Bool} {value : Word} {s : State} (w20 : W 0x20 = true) (p_flue : P .flue = true) {t : State}
    (e : execCcConfigWrite n debounce value s = .next t) : Within W P s t := by
  unfold execCcConfigWrite at e
  try dsimp only at e
  cases e
  simp (maxDischargeDepth := 60) only [implies_true, within_refl, State.answered_within, State.ccConfigWrite_within, w20, p_flue]

theorem execVbusNoCc_within {n : Port} {s : State} (w20 : W 0x20 = true) (p_flue : P .flue = true) {t : State} (e : execVbusNoCc n s = .next t) :
    Within W P s t := by
  unfold execVbusNoCc at e
  try dsimp only at e
  cases e
  simp (maxDischargeDepth := 60) only [within_refl, State.vbusNoCc_within, w20, p_flue]

theorem execVbusPresentChange_within {n : Port} {present : Bool} {s : State} (w20 : W 0x20 = true) (p_cc : P .cc = true) (p_flue : P .flue = true)
    (p_timers : P .timers = true) {t : State} (e : execVbusPresentChange n present s = .next t) : Within W P s t := by
  unfold execVbusPresentChange at e
  try dsimp only at e
  cases e
  simp (maxDischargeDepth := 60) only [within_refl, State.vbusPresent_within, w20, p_cc, p_flue, p_timers]

theorem execDrpTogglePhase_within {n : Port} {s : State} (w20 : W 0x20 = true) (p_cc : P .cc = true) (p_timers : P .timers = true) {t : State} (e :
    execDrpTogglePhase n s = .next t) : Within W P s t := by
  unfold execDrpTogglePhase at e
  try dsimp only at e
  cases e
  simp (maxDischargeDepth := 60) only [within_refl, State.drpPhase_within, w20, p_cc, p_timers]

theorem execCcOvAutoRelease_within {n : Port} {cc2 : Bool} {mv : Nat} {s : State} (w20 : W 0x20 = true) (w22 : W 0x22 = true) (p_boundary : P
    .boundary = true) (p_cc : P .cc = true) (p_flue : P .flue = true) (p_timers : P .timers = true) {t : State} (e : execCcOvAutoRelease n cc2 mv s =
    .next t) : Within W P s t := by
  unfold execCcOvAutoRelease at e
  try dsimp only at e
  cases e
  simp (maxDischargeDepth := 60) only [and_self, implies_true, within_refl, within_ite, State.modCc_within, State.ccReconnect_within, w20, w22,
      p_boundary, p_cc, p_flue, p_timers]

theorem execCcOpenFast_within {n : Port} {s : State} (w09 : W 0x09 = true) (w13 : W 0x13 = true) (w20 : W 0x20 = true) (p_draught : P .draught = true)
    (p_flue : P .flue = true) (p_inputs : P .inputs = true) (p_thn : P .thn = true) (p_timers : P .timers = true) {t : State} (e : execCcOpenFast n s
    = .next t) : Within W P s t := by
  unfold execCcOpenFast at e
  try dsimp only at e
  cases e
  simp (maxDischargeDepth := 60) only [within_refl, State.openFast_within, w09, w13, w20, p_draught, p_flue, p_inputs, p_thn, p_timers]

theorem execSbuOv_within {n : Port} {sbu2 : Bool} {s : State} (w20 : W 0x20 = true) (p_flue : P .flue = true) {t : State} (e : execSbuOv n sbu2 s =
    .next t) : Within W P s t := by
  unfold execSbuOv at e
  try dsimp only at e
  cases e
  simp (maxDischargeDepth := 60) only [within_refl, State.sbuOv_within, w20, p_flue]

theorem State.attachExpiry_within {s : State} {n : Port} (w08 : W 0x08 = true) (w20 : W 0x20 = true) (w21 : W 0x21 = true) (w22 : W 0x22 = true) (p_cc
    : P .cc = true) (p_draught : P .draught = true) (p_flue : P .flue = true) (p_inputs : P .inputs = true) (p_msg : P .msg = true) (p_timers : P
    .timers = true) (hW0 : Within W P s0 s) : Within W P s0 (State.attachExpiry s n) := by
  unfold State.attachExpiry
  try dsimp only
  simp (maxDischargeDepth := 60) only [and_self, implies_true, within_ite, pageOf_add, pageKind_portPage, Nat.reduceAdd, Nat.reduceLT,
      State.stop_within, State.event_within, State.modCc_within, State.set_within, State.bump_within, State.start_within, State.policyInput_within,
      State.revsClear_within, State.idReset_within, State.advanceEpoch_within, w08, w20, w21, w22, p_cc, p_draught, p_flue, p_inputs, p_msg, p_timers,
      hW0]

theorem execAttachDebounceExpiry_within {n : Port} {s : State} (w08 : W 0x08 = true) (w20 : W 0x20 = true) (w21 : W 0x21 = true) (w22 : W 0x22 = true)
    (p_cc : P .cc = true) (p_draught : P .draught = true) (p_flue : P .flue = true) (p_inputs : P .inputs = true) (p_msg : P .msg = true) (p_timers :
    P .timers = true) {t : State} (e : execAttachDebounceExpiry n s = .next t) : Within W P s t := by
  unfold execAttachDebounceExpiry at e
  try dsimp only at e
  cases e
  simp (maxDischargeDepth := 60) only [within_refl, State.attachExpiry_within, w08, w20, w21, w22, p_cc, p_draught, p_flue, p_inputs, p_msg, p_timers]

theorem execDetachDebounceExpiry_within {n : Port} {s : State} (w04 : W 0x04 = true) (w07 : W 0x07 = true) (w08 : W 0x08 = true) (w09 : W 0x09 = true)
    (w13 : W 0x13 = true) (w20 : W 0x20 = true) (w21 : W 0x21 = true) (w22 : W 0x22 = true) (w23 : W 0x23 = true) (w24 : W 0x24 = true) (w26 : W 0x26
    = true) (w27 : W 0x27 = true) (p_auth : P .auth = true) (p_boundary : P .boundary = true) (p_cc : P .cc = true) (p_draught : P .draught = true)
    (p_flue : P .flue = true) (p_fnd : P .fnd = true) (p_fresh : P .fresh = true) (p_inputs : P .inputs = true) (p_lanes : P .lanes = true) (p_lp : P
    .lp = true) (p_msg : P .msg = true) (p_pol : P .pol = true) (p_thn : P .thn = true) (p_timers : P .timers = true) (p_vdm : P .vdm = true) {t :
    State} (e : execDetachDebounceExpiry n s = .next t) : Within W P s t := by
  unfold execDetachDebounceExpiry at e
  try dsimp only at e
  cases e
  simp (maxDischargeDepth := 60) only [within_refl, State.detachExpiry_within, w04, w07, w08, w09, w13, w20, w21, w22, w23, w24, w26, w27, p_auth,
      p_boundary, p_cc, p_draught, p_flue, p_fnd, p_fresh, p_inputs, p_lanes, p_lp, p_msg, p_pol, p_thn, p_timers, p_vdm]

theorem State.presentationCmd_within {s : State} {n : Port} {p : Pres} (w20 : W 0x20 = true) (p_boundary : P .boundary = true) (p_cc : P .cc = true)
    (p_timers : P .timers = true) (hW0 : Within W P s0 s) : Within W P s0 (State.presentationCmd s n p) := by
  unfold State.presentationCmd
  try dsimp only
  (repeat' split) <;> (try simp (maxDischargeDepth := 60) only [State.present_within, State.modCc_within, w20, p_boundary, p_cc, p_timers, hW0])

theorem execPresentationCmd_within {n : Port} {p : Pres} {s : State} (w20 : W 0x20 = true) (p_boundary : P .boundary = true) (p_cc : P .cc = true)
    (p_timers : P .timers = true) {t : State} (e : execPresentationCmd n p s = .next t) : Within W P s t := by
  unfold execPresentationCmd at e
  try dsimp only at e
  cases e
  simp (maxDischargeDepth := 60) only [within_refl, State.presentationCmd_within, w20, p_boundary, p_cc, p_timers]

theorem State.vconnCfgWrite_within {s : State} {n : Port} {v : Word} (w20 : W 0x20 = true) (p_flue : P .flue = true) (hW0 : Within W P s0 s) : Within
    W P s0 (State.vconnCfgWrite s n v) := by
  unfold State.vconnCfgWrite
  try dsimp only
  simp (maxDischargeDepth := 60) only [and_self, implies_true, within_ite, pageOf_add, pageKind_portPage, Nat.reduceAdd, Nat.reduceLT,
      State.eventHost_within, State.set_within, w20, p_flue, hW0]

theorem execVconnCfgWrite_within {n : Port} {value : Word} {s : State} (w20 : W 0x20 = true) (p_flue : P .flue = true) {t : State} (e :
    execVconnCfgWrite n value s = .next t) : Within W P s t := by
  unfold execVconnCfgWrite at e
  try dsimp only at e
  cases e
  simp (maxDischargeDepth := 60) only [implies_true, within_refl, State.answered_within, State.vconnCfgWrite_within, w20, p_flue]

theorem State.vconnMeasure_within {s : State} (w20 : W 0x20 = true) (p_fresh : P .fresh = true) (hW0 : Within W P s0 s) : Within W P s0
    (State.vconnMeasure s) := by
  unfold State.vconnMeasure
  try dsimp only
  simp (maxDischargeDepth := 60) only [and_self, implies_true, within_refl, within_ite, within_mk, pageOf_add, pageKind_portPage, Nat.reduceAdd,
      Nat.reduceLT, true_or, or_true, State.allPorts_within, State.set_within, w20, p_fresh, hW0]

theorem execSbuOvRelease_within {n : Port} {sbu2 : Bool} {s : State} (w20 : W 0x20 = true) {t : State} (e : execSbuOvRelease n sbu2 s = .next t) :
    Within W P s t := by
  unfold execSbuOvRelease at e
  try dsimp only at e
  cases e
  simp (maxDischargeDepth := 60) only [and_self, implies_true, within_refl, within_ite, pageOf_add, pageKind_portPage, Nat.reduceAdd, Nat.reduceLT,
      State.setB_within, State.set_within, w20]

/-! ### Lexicon -/

theorem State.alert_within {s : State} {n : Port} {code : Nat} (w0F : W 0x0F = true) (w22 : W 0x22 = true) (p_flue : P .flue = true) (p_hA : P .hA =
    true) (p_hB : P .hB = true) (hW0 : Within W P s0 s) : Within W P s0 (State.alert s n code) := by
  unfold State.alert
  try dsimp only
  simp (maxDischargeDepth := 60) only [pageOf_add, pageKind_portPage, Nat.reduceAdd, Nat.reduceLT, State.traceTrigger_within, State.event_within,
      State.set_within, w22, p_flue, p_hA, p_hB, hW0]

theorem State.firstMatch_within {s : State} {n : Port} {point : Nat} {r : ReqVars} (w0F : W 0x0F = true) (w22 : W 0x22 = true) (p_flue : P .flue =
    true) (p_hA : P .hA = true) (p_hB : P .hB = true)
    (hW0 : Within W P s0 s) : Within W P s0 (s.firstMatch n point r).1 :=
  within_foldl _ _ (fun t _ => State.alert_within w0F w22 p_flue p_hA p_hB (.refl t)) hW0

theorem State.point1_within {s : State} {n : Port} (w0F : W 0x0F = true) (w22 : W 0x22 = true) (p_flue : P .flue = true) (p_hA : P .hA = true) (p_hB :
    P .hB = true) (p_pol : P .pol = true) (hW0 : Within W P s0 s) : Within W P s0 (State.point1 s n) := by
  unfold State.point1
  try dsimp only
  (repeat' split) <;> (try simp (maxDischargeDepth := 60) only [pageOf_add, pageKind_portPage, Nat.reduceAdd, Nat.reduceLT, State.modPol_within,
      State.firstMatch_within, State.event_within, w0F, w22, p_flue, p_hA, p_hB, p_pol, hW0])

theorem State.point0_within {s : State} {n : Port} (w0F : W 0x0F = true) (w22 : W 0x22 = true) (p_flue : P .flue = true) (p_hA : P .hA = true) (p_hB :
    P .hB = true) (p_pol : P .pol = true) (hW0 : Within W P s0 s) : Within W P s0 (State.point0 s n) := by
  unfold State.point0
  try dsimp only
  simp (maxDischargeDepth := 60) only [and_self, implies_true, within_refl, within_ite, within_foldl, State.modPol_within, State.alert_within, w0F,
      w22, p_flue, p_hA, p_hB, p_pol, hW0]

/-! ### Policy -/

theorem State.amsOn_within {s : State} {n : Port} (w22 : W 0x22 = true) (hW0 : Within W P s0 s) : Within W P s0 (State.amsOn s n) := by
  unfold State.amsOn
  try dsimp only
  simp (maxDischargeDepth := 60) only [pageOf_add, pageKind_portPage, Nat.reduceAdd, Nat.reduceLT, State.set_within, w22, hW0]

theorem State.amsStart_within {s : State} {n : Port} (w20 : W 0x20 = true) (w21 : W 0x21 = true) (w22 : W 0x22 = true) (p_boundary : P .boundary =
    true) (p_cc : P .cc = true) (p_timers : P .timers = true) (hW0 : Within W P s0 s) : Within W P s0 (State.amsStart s n) := by
  unfold State.amsStart
  try dsimp only
  simp (maxDischargeDepth := 60) only [and_self, implies_true, within_ite, pageOf_add, pageKind_portPage, Nat.reduceAdd, Nat.reduceLT,
      State.amsOn_within, State.start_within, State.set_within, State.present_within, w20, w21, w22, p_boundary, p_cc, p_timers, hW0]

theorem State.requestSend_within {s : State} {n : Port} {c : Contract} {mismatch : Bool} {own : Bool} (w20 : W 0x20 = true) (w21 : W 0x21 = true) (w22
    : W 0x22 = true) (p_boundary : P .boundary = true) (p_cc : P .cc = true) (p_msg : P .msg = true) (p_pol : P .pol = true) (p_timers : P .timers =
    true) (hW0 : Within W P s0 s) : Within W P s0 (State.requestSend s n c mismatch own) := by
  unfold State.requestSend
  try dsimp only
  simp (maxDischargeDepth := 60) only [and_self, implies_true, within_ite, State.modPol_within, State.amsStart_within, State.amsOn_within,
      State.handover_within, w20, w21, w22, p_boundary, p_cc, p_msg, p_pol, p_timers, hW0]

theorem State.vdmSend_within {s : State} {n : Port} {a : VdmAsk} (w20 : W 0x20 = true) (w21 : W 0x21 = true) (w22 : W 0x22 = true) (w23 : W 0x23 =
    true) (p_boundary : P .boundary = true) (p_cc : P .cc = true) (p_msg : P .msg = true) (p_timers : P .timers = true) (p_vdm : P .vdm = true) (hW0 :
    Within W P s0 s) : Within W P s0 (State.vdmSend s n a) := by
  unfold State.vdmSend
  try dsimp only
  simp (maxDischargeDepth := 60) only [and_self, implies_true, within_ite, pageOf_add, pageKind_portPage, Nat.reduceAdd, Nat.reduceLT,
      State.amsStart_within, State.modVdm_within, State.set_within, State.handover_within, w20, w21, w22, w23, p_boundary, p_cc, p_msg, p_timers,
      p_vdm, hW0]

theorem State.vdmInitiate_within {s : State} {n : Port} {a : VdmAsk} (w20 : W 0x20 = true) (w21 : W 0x21 = true) (w22 : W 0x22 = true) (w23 : W 0x23 =
    true) (p_boundary : P .boundary = true) (p_cc : P .cc = true) (p_msg : P .msg = true) (p_timers : P .timers = true) (p_vdm : P .vdm = true) (hW0 :
    Within W P s0 s) : Within W P s0 (State.vdmInitiate s n a) := by
  unfold State.vdmInitiate
  try dsimp only
  simp (maxDischargeDepth := 60) only [and_self, implies_true, within_ite, State.modVdm_within, State.vdmSend_within, w20, w21, w22, w23, p_boundary,
      p_cc, p_msg, p_timers, p_vdm, hW0]

theorem State.cableIdentify_within {s : State} {n : Port} (w20 : W 0x20 = true) (w21 : W 0x21 = true) (w22 : W 0x22 = true) (w23 : W 0x23 = true)
    (p_boundary : P .boundary = true) (p_cc : P .cc = true) (p_msg : P .msg = true) (p_timers : P .timers = true) (p_vdm : P .vdm = true) (hW0 :
    Within W P s0 s) : Within W P s0 (State.cableIdentify s n) := by
  unfold State.cableIdentify
  try dsimp only
  simp (maxDischargeDepth := 60) only [and_self, implies_true, within_ite, State.vdmInitiate_within, State.modVdm_within, w20, w21, w22, w23,
      p_boundary, p_cc, p_msg, p_timers, p_vdm, hW0]

theorem State.ask_within {s : State} {n : Port} {ty : Nat} {data : List Byte} {why : Purpose} (w20 : W 0x20 = true) (w21 : W 0x21 = true) (w22 : W
    0x22 = true) (p_boundary : P .boundary = true) (p_cc : P .cc = true) (p_msg : P .msg = true) (p_pol : P .pol = true) (p_timers : P .timers = true)
    (hW0 : Within W P s0 s) : Within W P s0 (State.ask s n ty data why) := by
  unfold State.ask
  try dsimp only
  simp (maxDischargeDepth := 60) only [State.handover_within, State.amsStart_within, State.modPol_within, w20, w21, w22, p_boundary, p_cc, p_msg,
      p_pol, p_timers, hW0]

theorem State.setPd_within {s : State} {n : Port} {v : Nat} (w22 : W 0x22 = true) (hW0 : Within W P s0 s) : Within W P s0 (State.setPd s n v) := by
  unfold State.setPd
  try dsimp only
  simp (maxDischargeDepth := 60) only [pageOf_add, pageKind_portPage, Nat.reduceAdd, Nat.reduceLT, State.set_within, w22, hW0]

theorem State.initiateNow_within {s : State} {n : Port} {code : Nat} (w20 : W 0x20 = true) (w21 : W 0x21 = true) (w22 : W 0x22 = true) (p_boundary : P
    .boundary = true) (p_cc : P .cc = true) (p_msg : P .msg = true) (p_pol : P .pol = true) (p_timers : P .timers = true) (hW0 : Within W P s0 s) :
    Within W P s0 (State.initiateNow s n code) := by
  unfold State.initiateNow
  try dsimp only
  (repeat' split) <;> (try simp (maxDischargeDepth := 60) only [State.ask_within, State.start_within, State.setPd_within, State.setSeq_within,
      State.handover_within, State.amsStart_within, State.requestSend_within, w20, w21, w22, p_boundary, p_cc, p_msg, p_pol, p_timers, hW0])

theorem State.initiate_within {s : State} {n : Port} {code : Nat} (w20 : W 0x20 = true) (w21 : W 0x21 = true) (w22 : W 0x22 = true) (w23 : W 0x23 =
    true) (p_boundary : P .boundary = true) (p_cc : P .cc = true) (p_msg : P .msg = true) (p_pol : P .pol = true) (p_timers : P .timers = true) (p_vdm
    : P .vdm = true) (hW0 : Within W P s0 s) : Within W P s0 (State.initiate s n code) := by
  unfold State.initiate
  try dsimp only
  simp (maxDischargeDepth := 60) only [and_self, implies_true, within_ite, State.cableIdentify_within, State.modPol_within, State.initiateNow_within,
      w20, w21, w22, w23, p_boundary, p_cc, p_msg, p_pol, p_timers, p_vdm, hW0]

theorem State.act_within {s : State} {n : Port} {a : Nat × Nat} (w0F : W 0x0F = true) (w20 : W 0x20 = true) (w21 : W 0x21 = true) (w22 : W 0x22 =
    true) (w23 : W 0x23 = true) (p_boundary : P .boundary = true) (p_cc : P .cc = true) (p_flue : P .flue = true) (p_hA : P .hA = true) (p_hB : P .hB
    = true) (p_msg : P .msg = true) (p_pol : P .pol = true) (p_timers : P .timers = true) (p_vdm : P .vdm = true) (hW0 : Within W P s0 s) : Within W P
    s0 (State.act s n a) := by
  unfold State.act
  try dsimp only
  (repeat' split) <;> (try simp (maxDischargeDepth := 60) only [State.vconnOn_within, State.vconnOff_within, State.initiate_within,
      State.alert_within, w0F, w20, w21, w22, w23, p_boundary, p_cc, p_flue, p_hA, p_hB, p_msg, p_pol, p_timers, p_vdm, hW0])

theorem State.setTypec_within {s : State} {n : Port} {v : Nat} (w22 : W 0x22 = true) (hW0 : Within W P s0 s) : Within W P s0 (State.setTypec s n v) :=
    by
  unfold State.setTypec
  try dsimp only
  simp (maxDischargeDepth := 60) only [pageOf_add, pageKind_portPage, Nat.reduceAdd, Nat.reduceLT, State.set_within, w22, hW0]

theorem State.settleRoles_within {s : State} {n : Port} (w20 : W 0x20 = true) (w22 : W 0x22 = true) (w24 : W 0x24 = true) (p_boundary : P .boundary =
    true) (p_cc : P .cc = true) (p_flue : P .flue = true) (p_timers : P .timers = true) (hW0 : Within W P s0 s) : Within W P s0 (State.settleRoles s
    n) := by
  unfold State.settleRoles
  try dsimp only
  simp (maxDischargeDepth := 60) only [and_self, implies_true, within_ite, pageOf_add, pageKind_portPage, Nat.reduceAdd, Nat.reduceLT,
      State.setB_within, State.setTypec_within, State.rpLevelClear_within, State.set_within, State.present_within, w20, w22, w24, p_boundary, p_cc,
      p_flue, p_timers, hW0]

theorem State.tryEnter_within {s : State} {n : Port} {phase : Nat} {typec : Nat} {p : Pres} (w20 : W 0x20 = true) (w22 : W 0x22 = true) (p_boundary :
    P .boundary = true) (p_cc : P .cc = true) (p_flue : P .flue = true) (p_pol : P .pol = true) (p_timers : P .timers = true) (hW0 : Within W P s0 s)
    : Within W P s0 (State.tryEnter s n phase typec p) := by
  unfold State.tryEnter
  try dsimp only
  simp (maxDischargeDepth := 60) only [and_self, implies_true, within_ite, State.stop_within, State.unattach_within, State.setTypec_within,
      State.present_within, State.modPol_within, State.start_within, w20, w22, p_boundary, p_cc, p_flue, p_pol, p_timers, hW0]

theorem State.swapDone_within {s : State} {n : Port} (w08 : W 0x08 = true) (w22 : W 0x22 = true) (p_draught : P .draught = true) (p_flue : P .flue =
    true) (hW0 : Within W P s0 s) : Within W P s0 (State.swapDone s n) := by
  unfold State.swapDone
  try dsimp only
  simp (maxDischargeDepth := 60) only [pageOf_add, pageKind_portPage, Nat.reduceAdd, Nat.reduceLT, State.event_within, State.advanceEpoch_within, w08,
      w22, p_draught, p_flue, hW0]

theorem State.amsStop_within {s : State} {n : Port} (w20 : W 0x20 = true) (w21 : W 0x21 = true) (w22 : W 0x22 = true) (p_boundary : P .boundary =
    true) (p_cc : P .cc = true) (p_timers : P .timers = true) (hW0 : Within W P s0 s) : Within W P s0 (State.amsStop s n) := by
  unfold State.amsStop
  try dsimp only
  simp (maxDischargeDepth := 60) only [and_self, implies_true, within_ite, pageOf_add, pageKind_portPage, Nat.reduceAdd, Nat.reduceLT,
      State.set_within, State.stop_within, State.present_within, w20, w21, w22, p_boundary, p_cc, p_timers, hW0]

theorem State.offerHand_within {s : State} {n : Port} {d : Draft} {own : Bool} (w20 : W 0x20 = true) (w21 : W 0x21 = true) (w22 : W 0x22 = true)
    (p_boundary : P .boundary = true) (p_cc : P .cc = true) (p_msg : P .msg = true) (p_pol : P .pol = true) (p_timers : P .timers = true) (hW0 :
    Within W P s0 s) : Within W P s0 (State.offerHand s n d own) := by
  unfold State.offerHand
  try dsimp only
  simp (maxDischargeDepth := 60) only [and_self, implies_true, within_ite, State.modPol_within, State.amsStart_within, State.amsOn_within,
      State.handoverAt_within, w20, w21, w22, p_boundary, p_cc, p_msg, p_pol, p_timers, hW0]

theorem State.draftTry_within {s : State} {n : Port} (w20 : W 0x20 = true) (w21 : W 0x21 = true) (w22 : W 0x22 = true) (p_boundary : P .boundary =
    true) (p_cc : P .cc = true) (p_msg : P .msg = true) (p_pol : P .pol = true) (p_timers : P .timers = true) (hW0 : Within W P s0 s) : Within W P s0
    (State.draftTry s n) := by
  unfold State.draftTry
  try dsimp only
  (repeat' split) <;> (try simp (maxDischargeDepth := 60) only [State.offerHand_within, w20, w21, w22, p_boundary, p_cc, p_msg, p_pol, p_timers, hW0])

theorem State.todoDrain_within {s : State} {n : Port} (w20 : W 0x20 = true) (w21 : W 0x21 = true) (w22 : W 0x22 = true) (p_boundary : P .boundary =
    true) (p_cc : P .cc = true) (p_msg : P .msg = true) (p_pol : P .pol = true) (p_timers : P .timers = true) (hW0 : Within W P s0 s) : Within W P s0
    (State.todoDrain s n) := by
  unfold State.todoDrain
  try dsimp only
  (repeat' split) <;> (try simp (maxDischargeDepth := 60) only [State.initiateNow_within, State.modPol_within, w20, w21, w22, p_boundary, p_cc, p_msg,
      p_pol, p_timers, hW0])

theorem State.vdmDrain_within {s : State} {n : Port} (w20 : W 0x20 = true) (w21 : W 0x21 = true) (w22 : W 0x22 = true) (w23 : W 0x23 = true)
    (p_boundary : P .boundary = true) (p_cc : P .cc = true) (p_msg : P .msg = true) (p_timers : P .timers = true) (p_vdm : P .vdm = true) (hW0 :
    Within W P s0 s) : Within W P s0 (State.vdmDrain s n) := by
  unfold State.vdmDrain
  try dsimp only
  (repeat' split) <;> (try simp (maxDischargeDepth := 60) only [State.vdmSend_within, State.modVdm_within, w20, w21, w22, w23, p_boundary, p_cc,
      p_msg, p_timers, p_vdm, hW0])

theorem State.amsEnd_within {s : State} {n : Port} (w20 : W 0x20 = true) (w21 : W 0x21 = true) (w22 : W 0x22 = true) (w23 : W 0x23 = true) (p_boundary
    : P .boundary = true) (p_cc : P .cc = true) (p_msg : P .msg = true) (p_pol : P .pol = true) (p_timers : P .timers = true) (p_vdm : P .vdm = true)
    (hW0 : Within W P s0 s) : Within W P s0 (State.amsEnd s n) := by
  unfold State.amsEnd
  try dsimp only
  simp (maxDischargeDepth := 60) only [and_self, implies_true, within_ite, State.modPol_within, State.stop_within, State.amsStop_within,
      State.setPd_within, State.draftTry_within, State.todoDrain_within, State.vdmDrain_within, w20, w21, w22, w23, p_boundary, p_cc, p_msg, p_pol,
      p_timers, p_vdm, hW0]

theorem State.maskDone_within {s : State} {n : Port} (w20 : W 0x20 = true) (hW0 : Within W P s0 s) : Within W P s0 (State.maskDone s n) := by
  unfold State.maskDone
  try dsimp only
  simp (maxDischargeDepth := 60) only [and_self, implies_true, within_ite, pageOf_add, pageKind_portPage, Nat.reduceAdd, Nat.reduceLT,
      State.set_within, w20, hW0]

theorem State.discoveryStart_within {s : State} {n : Port} (w20 : W 0x20 = true) (w21 : W 0x21 = true) (w22 : W 0x22 = true) (w23 : W 0x23 = true)
    (p_boundary : P .boundary = true) (p_cc : P .cc = true) (p_msg : P .msg = true) (p_timers : P .timers = true) (p_vdm : P .vdm = true) (hW0 :
    Within W P s0 s) : Within W P s0 (State.discoveryStart s n) := by
  unfold State.discoveryStart
  try dsimp only
  simp (maxDischargeDepth := 60) only [and_self, implies_true, within_ite, State.vdmInitiate_within, State.modVdm_within, w20, w21, w22, w23,
      p_boundary, p_cc, p_msg, p_timers, p_vdm, hW0]

theorem State.drDone_within {s : State} {n : Port} (w08 : W 0x08 = true) (w20 : W 0x20 = true) (w21 : W 0x21 = true) (w22 : W 0x22 = true) (w23 : W
    0x23 = true) (p_boundary : P .boundary = true) (p_cc : P .cc = true) (p_draught : P .draught = true) (p_flue : P .flue = true) (p_msg : P .msg =
    true) (p_pol : P .pol = true) (p_timers : P .timers = true) (p_vdm : P .vdm = true) (hW0 : Within W P s0 s) : Within W P s0 (State.drDone s n) :=
    by
  unfold State.drDone
  try dsimp only
  simp (maxDischargeDepth := 60) only [and_self, implies_true, within_ite, pageOf_add, pageKind_portPage, Nat.reduceAdd, Nat.reduceLT,
      State.modPol_within, State.setB_within, State.modVdm_within, State.swapDone_within, State.amsEnd_within, State.maskDone_within,
      State.hostLost_within, State.discoveryStart_within, w08, w20, w21, w22, w23, p_boundary, p_cc, p_draught, p_flue, p_msg, p_pol, p_timers, p_vdm,
      hW0]

theorem State.keepAliveStart_within {s : State} {n : Port} (p_timers : P .timers = true) (hW0 : Within W P s0 s) : Within W P s0 (State.keepAliveStart
    s n) := by
  unfold State.keepAliveStart
  try dsimp only
  simp (maxDischargeDepth := 60) only [and_self, implies_true, within_ite, State.start_within, State.stop_within, p_timers, hW0]

theorem State.point14_within {s : State} {n : Port} (w0F : W 0x0F = true) (w22 : W 0x22 = true) (p_flue : P .flue = true) (p_hA : P .hA = true) (p_hB
    : P .hB = true) (p_pol : P .pol = true) (hW0 : Within W P s0 s) : Within W P s0 (State.point14 s n) := by
  unfold State.point14
  try dsimp only
  simp (maxDischargeDepth := 60) only [and_self, implies_true, within_ite, State.firstMatch_within, State.modPol_within, w0F, w22, p_flue, p_hA, p_hB,
      p_pol, hW0]

theorem State.askDrop_within {s : State} {n : Port} (p_msg : P .msg = true) (p_pol : P .pol = true) (hW0 : Within W P s0 s) : Within W P s0
    (State.askDrop s n) := by
  unfold State.askDrop
  try dsimp only
  simp (maxDischargeDepth := 60) only [and_self, implies_true, within_ite, State.modPol_within, State.modMsg_within, p_msg, p_pol, hW0]

theorem State.transitionBegin_within {s : State} {n : Port} (w22 : W 0x22 = true) (p_pol : P .pol = true) (p_timers : P .timers = true) (hW0 : Within
    W P s0 s) : Within W P s0 (State.transitionBegin s n) := by
  unfold State.transitionBegin
  try dsimp only
  simp (maxDischargeDepth := 60) only [State.start_within, State.setPd_within, State.setSeq_within, w22, p_pol, p_timers, hW0]

theorem State.vcnStart_within {s : State} {n : Port} (w20 : W 0x20 = true) (w21 : W 0x21 = true) (w22 : W 0x22 = true) (p_boundary : P .boundary =
    true) (p_cc : P .cc = true) (p_flue : P .flue = true) (p_msg : P .msg = true) (p_pol : P .pol = true) (p_timers : P .timers = true) (hW0 : Within
    W P s0 s) : Within W P s0 (State.vcnStart s n) := by
  unfold State.vcnStart
  try dsimp only
  simp (maxDischargeDepth := 60) only [and_self, implies_true, within_ite, State.modPol_within, State.setPd_within, State.start_within,
      State.setSeq_within, State.vconnOn_within, State.hardResetRequest_within, w20, w21, w22, p_boundary, p_cc, p_flue, p_msg, p_pol, p_timers, hW0]

theorem State.partnerShow_within {s : State} {n : Port} {objs : List Word} (w22 : W 0x22 = true) (hW0 : Within W P s0 s) : Within W P s0
    (State.partnerShow s n objs) := by
  unfold State.partnerShow
  try dsimp only
  simp (maxDischargeDepth := 60) only [implies_true, within_refl, pageOf_page4, within_foldl_range, pageKind_portPage, Nat.reduceMul, Nat.reduceAdd,
      Nat.reduceLT, State.set_within, w22, hW0]

theorem State.partnerStore_within {s : State} {n : Port} {objs : List Word} (w22 : W 0x22 = true) (p_pol : P .pol = true) (hW0 : Within W P s0 s) :
    Within W P s0 (State.partnerStore s n objs) := by
  unfold State.partnerStore
  try dsimp only
  simp (maxDischargeDepth := 60) only [State.modPol_within, State.partnerShow_within, w22, p_pol, hW0]

theorem State.noPdOperation_within {s : State} {n : Port} (w20 : W 0x20 = true) (w21 : W 0x21 = true) (w22 : W 0x22 = true) (w23 : W 0x23 = true)
    (p_boundary : P .boundary = true) (p_cc : P .cc = true) (p_msg : P .msg = true) (p_pol : P .pol = true) (p_timers : P .timers = true) (p_vdm : P
    .vdm = true) (hW0 : Within W P s0 s) : Within W P s0 (State.noPdOperation s n) := by
  unfold State.noPdOperation
  try dsimp only
  simp (maxDischargeDepth := 60) only [State.setPd_within, State.amsEnd_within, State.modPol_within, w20, w21, w22, w23, p_boundary, p_cc, p_msg,
      p_pol, p_timers, p_vdm, hW0]

theorem State.point13_within {s : State} {n : Port} (w00 : W 0x00 = true) (w04 : W 0x04 = true) (w07 : W 0x07 = true) (w08 : W 0x08 = true) (w09 : W
    0x09 = true) (w0F : W 0x0F = true) (w13 : W 0x13 = true) (w20 : W 0x20 = true) (w21 : W 0x21 = true) (w22 : W 0x22 = true) (w23 : W 0x23 = true)
    (w24 : W 0x24 = true) (w26 : W 0x26 = true) (w27 : W 0x27 = true) (p_auth : P .auth = true) (p_boundary : P .boundary = true) (p_cc : P .cc =
    true) (p_draught : P .draught = true) (p_flue : P .flue = true) (p_fnd : P .fnd = true) (p_fresh : P .fresh = true) (p_hA : P .hA = true) (p_hB :
    P .hB = true) (p_lanes : P .lanes = true) (p_lp : P .lp = true) (p_msg : P .msg = true) (p_pol : P .pol = true) (p_thn : P .thn = true) (p_timers
    : P .timers = true) (p_vdm : P .vdm = true) (hW0 : Within W P s0 s) : Within W P s0 (State.point13 s n) := by
  unfold State.point13
  try dsimp only
  (repeat' split) <;> (try simp (maxDischargeDepth := 60) only [pageOf_add, pageKind_portPage, Nat.reduceAdd, Nat.reduceLT, State.stop_within,
      State.event_within, State.firstMatch_within, State.hardResetRequest_within, State.errorRecovery_within, State.noPdOperation_within, w00, w04,
      w07, w08, w09, w0F, w13, w20, w21, w22, w23, w24, w26, w27, p_auth, p_boundary, p_cc, p_draught, p_flue, p_fnd, p_fresh, p_hA, p_hB, p_lanes,
      p_lp, p_msg, p_pol, p_thn, p_timers, p_vdm, hW0])

theorem State.hardResetStart_within {s : State} {n : Port} {kind : Nat} (w00 : W 0x00 = true) (w04 : W 0x04 = true) (w07 : W 0x07 = true) (w08 : W
    0x08 = true) (w09 : W 0x09 = true) (w13 : W 0x13 = true) (w20 : W 0x20 = true) (w21 : W 0x21 = true) (w22 : W 0x22 = true) (w23 : W 0x23 = true)
    (w24 : W 0x24 = true) (p_auth : P .auth = true) (p_boundary : P .boundary = true) (p_cc : P .cc = true) (p_draught : P .draught = true) (p_flue :
    P .flue = true) (p_fresh : P .fresh = true) (p_lanes : P .lanes = true) (p_lp : P .lp = true) (p_msg : P .msg = true) (p_pol : P .pol = true)
    (p_thn : P .thn = true) (p_timers : P .timers = true) (p_vdm : P .vdm = true) (hW0 : Within W P s0 s) : Within W P s0 (State.hardResetStart s n
    kind) := by
  unfold State.hardResetStart
  try dsimp only
  simp (maxDischargeDepth := 60) only [and_self, and_true, implies_true, within_ite, pageOf_lit, pageKind_lit, pageOf_add, pageKind_portPage,
      Nat.reduceDiv, Nat.reduceLeDiff, Nat.reduceAdd, Nat.reduceMod, Nat.reduceLT, if_false, State.authDrop_within, State.thatinExit_within,
      State.collapse_within, State.settleRoles_within, State.idReset_within, State.advanceEpoch_within, State.set_within, State.event_within,
      State.assemblyEnd_within, State.txSilence_within, State.policyTimersStop_within, State.revsClear_within, State.dropQueue_within,
      State.stop_within, State.vconnOff_within, State.vdmEnd_within, State.contractEnd_within, State.modPol_within, State.setB_within,
      State.start_within, State.setPd_within, State.present_within, State.setSeq_within, State.stageOff_within, w00, w04, w07, w08, w09, w13, w20,
      w21, w22, w23, w24, p_auth, p_boundary, p_cc, p_draught, p_flue, p_fresh, p_lanes, p_lp, p_msg, p_pol, p_thn, p_timers, p_vdm, hW0]

theorem State.reachPoint1_within {s : State} {n : Port} (w0F : W 0x0F = true) (w20 : W 0x20 = true) (w22 : W 0x22 = true) (p_boundary : P .boundary =
    true) (p_cc : P .cc = true) (p_flue : P .flue = true) (p_hA : P .hA = true) (p_hB : P .hB = true) (p_pol : P .pol = true) (p_timers : P .timers =
    true) (hW0 : Within W P s0 s) : Within W P s0 (State.reachPoint1 s n) := by
  unfold State.reachPoint1
  try dsimp only
  simp (maxDischargeDepth := 60) only [and_self, implies_true, within_ite, State.setSeq_within, State.setTypec_within, State.presentNow_within,
      State.point1_within, State.present_within, State.modPol_within, w0F, w20, w22, p_boundary, p_cc, p_flue, p_hA, p_hB, p_pol, p_timers, hW0]

theorem State.swapGiveUp_within {s : State} {n : Port} (w20 : W 0x20 = true) (w22 : W 0x22 = true) (p_timers : P .timers = true) (hW0 : Within W P s0
    s) : Within W P s0 (State.swapGiveUp s n) := by
  unfold State.swapGiveUp
  try dsimp only
  simp (maxDischargeDepth := 60) only [and_self, implies_true, within_ite, State.setPd_within, State.stop_within, State.maskDone_within, w20, w22,
      p_timers, hW0]

theorem State.thatinRole_within {s : State} {n : Port} (w13 : W 0x13 = true) (hW0 : Within W P s0 s) : Within W P s0 (State.thatinRole s n) := by
  unfold State.thatinRole
  try dsimp only
  simp (maxDischargeDepth := 60) only [and_self, and_true, implies_true, within_ite, pageKind_lit, pageOf_fin4, Nat.reduceDiv, Nat.reduceLeDiff,
      Nat.reduceMul, Nat.reduceAdd, Nat.reduceMod, Nat.reduceLT, if_false, State.setB_within, w13, hW0]

theorem State.becomeSink_within {s : State} {n : Port} (w08 : W 0x08 = true) (w13 : W 0x13 = true) (w20 : W 0x20 = true) (w21 : W 0x21 = true) (w22 :
    W 0x22 = true) (w24 : W 0x24 = true) (w26 : W 0x26 = true) (p_boundary : P .boundary = true) (p_draught : P .draught = true) (p_flue : P .flue =
    true) (p_fnd : P .fnd = true) (p_lp : P .lp = true) (p_pol : P .pol = true) (p_timers : P .timers = true) (hW0 : Within W P s0 s) : Within W P s0
    (State.becomeSink s n) := by
  unfold State.becomeSink
  try dsimp only
  simp (maxDischargeDepth := 60) only [and_self, implies_true, within_ite, pageOf_add, pageKind_portPage, Nat.reduceAdd, Nat.reduceLT,
      State.set_within, State.contractEnd_within, State.setTypec_within, State.thatinRole_within, State.swapDone_within, State.modPol_within,
      State.setPd_within, State.setSeq_within, State.stop_within, State.start_within, State.closePath_within, State.stageRun_within, w08, w13, w20,
      w21, w22, w24, w26, p_boundary, p_draught, p_flue, p_fnd, p_lp, p_pol, p_timers, hW0]

theorem State.disablePort_within {s : State} {n : Port} (w04 : W 0x04 = true) (w07 : W 0x07 = true) (w08 : W 0x08 = true) (w09 : W 0x09 = true) (w0B :
    W 0x0B = true) (w0C : W 0x0C = true) (w13 : W 0x13 = true) (w20 : W 0x20 = true) (w21 : W 0x21 = true) (w22 : W 0x22 = true) (w23 : W 0x23 = true)
    (w24 : W 0x24 = true) (w26 : W 0x26 = true) (w27 : W 0x27 = true) (p_auth : P .auth = true) (p_boundary : P .boundary = true) (p_cc : P .cc =
    true) (p_draught : P .draught = true) (p_flue : P .flue = true) (p_fnd : P .fnd = true) (p_fresh : P .fresh = true) (p_lanes : P .lanes = true)
    (p_lp : P .lp = true) (p_msg : P .msg = true) (p_pol : P .pol = true) (p_thn : P .thn = true) (p_timers : P .timers = true) (p_vdm : P .vdm =
    true) (hW0 : Within W P s0 s) : Within W P s0 (State.disablePort s n) := by
  unfold State.disablePort
  try dsimp only
  simp (maxDischargeDepth := 60) only [pageOf_add, pageKind_portPage, Nat.reduceAdd, Nat.reduceLT, State.policyTimersStop_within,
      State.authDrop_within, State.thatinExit_within, State.collapse_within, State.modMsg_within, State.rxStop_within, State.txSilence_within,
      State.stop_within, State.set_within, State.unattach_within, State.present_within, State.vconnOff_within, State.loseAdmission_within,
      State.leaveLockout_within, State.openPath_within, State.stageOff_within, State.vdmEnd_within, State.revsClear_within, State.contractEnd_within,
      State.modPol_within, State.ownRelease_within, State.setTypec_within, w04, w07, w08, w09, w0B, w0C, w13, w20, w21, w22, w23, w24, w26, w27,
      p_auth, p_boundary, p_cc, p_draught, p_flue, p_fnd, p_fresh, p_lanes, p_lp, p_msg, p_pol, p_thn, p_timers, p_vdm, hW0]

theorem State.detachTake_within {s : State} {n : Port} (w0F : W 0x0F = true) (w20 : W 0x20 = true) (w22 : W 0x22 = true) (p_boundary : P .boundary =
    true) (p_cc : P .cc = true) (p_flue : P .flue = true) (p_fnd : P .fnd = true) (p_hA : P .hA = true) (p_hB : P .hB = true) (p_pol : P .pol = true)
    (p_timers : P .timers = true) (hW0 : Within W P s0 s) : Within W P s0 (State.detachTake s n) := by
  unfold State.detachTake
  try dsimp only
  simp (maxDischargeDepth := 60) only [and_self, implies_true, within_ite, pageOf_add, pageKind_portPage, Nat.reduceAdd, Nat.reduceLT,
      State.set_within, State.modPol_within, State.point0_within, State.reachPoint1_within, State.modFnd_within, w0F, w20, w22, p_boundary, p_cc,
      p_flue, p_fnd, p_hA, p_hB, p_pol, p_timers, hW0]

theorem State.readyHand_within {s : State} {n : Port} {q : Seqn} {why : Purpose} (p_msg : P .msg = true) (p_pol : P .pol = true) (hW0 : Within W P s0
    s) : Within W P s0 (State.readyHand s n q why) := by
  unfold State.readyHand
  try dsimp only
  simp (maxDischargeDepth := 60) only [State.setSeq_within, State.sendCtl_within, p_msg, p_pol, hW0]

theorem State.requestRefuse_within {s : State} {n : Port} {wait : Bool} (w09 : W 0x09 = true) (w13 : W 0x13 = true) (w22 : W 0x22 = true) (p_draught :
    P .draught = true) (p_flue : P .flue = true) (p_msg : P .msg = true) (p_pol : P .pol = true) (p_thn : P .thn = true) (p_timers : P .timers = true)
    (hW0 : Within W P s0 s) : Within W P s0 (State.requestRefuse s n wait) := by
  unfold State.requestRefuse
  try dsimp only
  (repeat' split) <;> (try simp (maxDischargeDepth := 60) only [pageOf_add, pageKind_portPage, Nat.reduceAdd, Nat.reduceLT, State.event_within,
      State.collapse_within, State.start_within, State.sendCtl_within, State.setSeq_within, w09, w13, w22, p_draught, p_flue, p_msg, p_pol, p_thn,
      p_timers, hW0])

theorem State.draftDrop_within {s : State} {n : Port} (w20 : W 0x20 = true) (w21 : W 0x21 = true) (w22 : W 0x22 = true) (p_boundary : P .boundary =
    true) (p_cc : P .cc = true) (p_flue : P .flue = true) (p_msg : P .msg = true) (p_pol : P .pol = true) (p_timers : P .timers = true) (hW0 : Within
    W P s0 s) : Within W P s0 (State.draftDrop s n) := by
  unfold State.draftDrop
  try dsimp only
  simp (maxDischargeDepth := 60) only [and_self, implies_true, within_ite, State.amsStop_within, State.withdrawDraft_within, w20, w21, w22,
      p_boundary, p_cc, p_flue, p_msg, p_pol, p_timers, hW0]

theorem State.draftBuild_within {s : State} {n : Port} (w22 : W 0x22 = true) (p_flue : P .flue = true) (p_pol : P .pol = true)
    (hW0 : Within W P s0 s) : Within W P s0 (s.draftBuild n).1 := by
  unfold State.draftBuild
  simp (maxDischargeDepth := 60) only [within_ite, State.modPol_within, State.event_within, pageOf_add, pageKind_portPage, Nat.reduceLT,
    Nat.reduceAdd, w22, p_flue, p_pol, hW0, implies_true, and_self]

theorem State.draft_within {s : State} {n : Port} {now : Bool} (w20 : W 0x20 = true) (w21 : W 0x21 = true) (w22 : W 0x22 = true) (w23 : W 0x23 = true)
    (p_boundary : P .boundary = true) (p_cc : P .cc = true) (p_flue : P .flue = true) (p_msg : P .msg = true) (p_pol : P .pol = true) (p_timers : P
    .timers = true) (p_vdm : P .vdm = true) (hW0 : Within W P s0 s) : Within W P s0 (State.draft s n now) := by
  unfold State.draft
  try dsimp only
  simp (maxDischargeDepth := 60) only [and_self, implies_true, within_ite, State.draftBuild_within, State.vdmDrain_within, State.draftDrop_within,
      State.draftTry_within, State.modPol_within, w20, w21, w22, w23, p_boundary, p_cc, p_flue, p_msg, p_pol, p_timers, p_vdm, hW0]

theorem State.requestEval_within {s : State} {n : Port} {rdo : Word} (w09 : W 0x09 = true) (w0F : W 0x0F = true) (w13 : W 0x13 = true) (w20 : W 0x20 =
    true) (w21 : W 0x21 = true) (w22 : W 0x22 = true) (w23 : W 0x23 = true) (p_boundary : P .boundary = true) (p_cc : P .cc = true) (p_draught : P
    .draught = true) (p_flue : P .flue = true) (p_hA : P .hA = true) (p_hB : P .hB = true) (p_msg : P .msg = true) (p_pol : P .pol = true) (p_thn : P
    .thn = true) (p_timers : P .timers = true) (p_vdm : P .vdm = true) (hW0 : Within W P s0 s) : Within W P s0 (State.requestEval s n rdo) := by
  unfold State.requestEval
  try dsimp only
  (repeat' split) <;> (try simp (maxDischargeDepth := 60) only [pageOf_add, pageKind_portPage, Nat.reduceAdd, Nat.reduceLT, State.askDrop_within,
      State.set_within, State.stop_within, State.modPol_within, State.amsOn_within, State.setPd_within, State.requestRefuse_within,
      State.draft_within, State.firstMatch_within, State.sendCtl_within, State.setSeq_within, State.collapse_within, w09, w0F, w13, w20, w21, w22,
      w23, p_boundary, p_cc, p_draught, p_flue, p_hA, p_hB, p_msg, p_pol, p_thn, p_timers, p_vdm, hW0])

theorem State.prStart_within {s : State} {n : Port} (w20 : W 0x20 = true) (w22 : W 0x22 = true) (w24 : W 0x24 = true) (p_boundary : P .boundary =
    true) (p_lanes : P .lanes = true) (p_lp : P .lp = true) (p_pol : P .pol = true) (p_timers : P .timers = true) (hW0 : Within W P s0 s) : Within W P
    s0 (State.prStart s n) := by
  unfold State.prStart
  try dsimp only
  simp (maxDischargeDepth := 60) only [and_self, implies_true, within_ite, pageOf_add, pageKind_portPage, Nat.reduceAdd, Nat.reduceLT,
      State.modPol_within, State.setPd_within, State.start_within, State.setSeq_within, State.set_within, State.stageOff_within, w20, w22, w24,
      p_boundary, p_lanes, p_lp, p_pol, p_timers, hW0]

theorem State.becomeSource_within {s : State} {n : Port} (w08 : W 0x08 = true) (w13 : W 0x13 = true) (w20 : W 0x20 = true) (w21 : W 0x21 = true) (w22
    : W 0x22 = true) (w26 : W 0x26 = true) (p_draught : P .draught = true) (p_flue : P .flue = true) (p_pol : P .pol = true) (p_timers : P .timers =
    true) (hW0 : Within W P s0 s) : Within W P s0 (State.becomeSource s n) := by
  unfold State.becomeSource
  try dsimp only
  simp (maxDischargeDepth := 60) only [pageOf_add, pageKind_portPage, Nat.reduceAdd, Nat.reduceLT, State.set_within, State.contractEnd_within,
      State.setTypec_within, State.rpLevelClear_within, State.thatinRole_within, State.swapDone_within, State.modPol_within, State.setPd_within,
      State.setSeq_within, State.stop_within, State.maskDone_within, State.start_within, w08, w13, w20, w21, w22, w26, p_draught, p_flue, p_pol,
      p_timers, hW0]

theorem State.requestInSwap_within {s : State} {n : Port} {rdo : Word} (w09 : W 0x09 = true) (w13 : W 0x13 = true) (w22 : W 0x22 = true) (p_draught :
    P .draught = true) (p_flue : P .flue = true) (p_msg : P .msg = true) (p_thn : P .thn = true) (p_timers : P .timers = true) (hW0 : Within W P s0 s)
    : Within W P s0 (State.requestInSwap s n rdo) := by
  unfold State.requestInSwap
  try dsimp only
  simp (maxDischargeDepth := 60) only [pageOf_add, pageKind_portPage, Nat.reduceAdd, Nat.reduceLT, State.event_within, State.collapse_within,
      State.set_within, State.sendCtl_within, w09, w13, w22, p_draught, p_flue, p_msg, p_thn, p_timers, hW0]

theorem State.attachRoles_within {s : State} {n : Port} {source : Bool} {dfp : Bool} {typec : Nat} (w22 : W 0x22 = true) (w24 : W 0x24 = true) (p_pol
    : P .pol = true) (p_timers : P .timers = true) (hW0 : Within W P s0 s) : Within W P s0 (State.attachRoles s n source dfp typec) := by
  unfold State.attachRoles
  try dsimp only
  simp (maxDischargeDepth := 60) only [pageOf_add, pageKind_portPage, Nat.reduceAdd, Nat.reduceLT, State.setTypec_within, State.setB_within,
      State.modPol_within, State.stop_within, State.set_within, w22, w24, p_pol, p_timers, hW0]

theorem State.attachSink_within {s : State} {n : Port} (w22 : W 0x22 = true) (w24 : W 0x24 = true) (w26 : W 0x26 = true) (p_boundary : P .boundary =
    true) (p_flue : P .flue = true) (p_fnd : P .fnd = true) (p_lp : P .lp = true) (p_pol : P .pol = true) (p_timers : P .timers = true) (hW0 : Within
    W P s0 s) : Within W P s0 (State.attachSink s n) := by
  unfold State.attachSink
  try dsimp only
  simp (maxDischargeDepth := 60) only [State.stageRun_within, State.closePath_within, State.attachRoles_within, State.start_within,
      State.modPol_within, State.setPd_within, w22, w24, w26, p_boundary, p_flue, p_fnd, p_lp, p_pol, p_timers, hW0]

theorem State.tryTimeoutTake_within {s : State} {n : Port} (w20 : W 0x20 = true) (w22 : W 0x22 = true) (p_boundary : P .boundary = true) (p_cc : P .cc
    = true) (p_flue : P .flue = true) (p_pol : P .pol = true) (p_timers : P .timers = true) (hW0 : Within W P s0 s) : Within W P s0
    (State.tryTimeoutTake s n) := by
  unfold State.tryTimeoutTake
  try dsimp only
  (repeat' split) <;> (try simp (maxDischargeDepth := 60) only [State.stop_within, State.start_within, State.tryEnter_within, w20, w22, p_boundary,
      p_cc, p_flue, p_pol, p_timers, hW0])

theorem State.sinkTxTake_within {s : State} {n : Port} (w20 : W 0x20 = true) (p_boundary : P .boundary = true) (p_cc : P .cc = true) (p_pol : P .pol =
    true) (p_timers : P .timers = true) (hW0 : Within W P s0 s) : Within W P s0 (State.sinkTxTake s n) := by
  unfold State.sinkTxTake
  try dsimp only
  simp (maxDischargeDepth := 60) only [and_self, implies_true, within_ite, State.present_within, State.modPol_within, w20, p_boundary, p_cc, p_pol,
      p_timers, hW0]

theorem State.contractSet_within {s : State} {n : Port} {c : Contract} (w08 : W 0x08 = true) (w20 : W 0x20 = true) (w22 : W 0x22 = true) (p_boundary :
    P .boundary = true) (p_cc : P .cc = true) (p_flue : P .flue = true) (p_pol : P .pol = true) (p_timers : P .timers = true) (hW0 : Within W P s0 s)
    : Within W P s0 (State.contractSet s n c) := by
  unfold State.contractSet
  try dsimp only
  simp (maxDischargeDepth := 60) only [and_self, implies_true, within_ite, pageOf_add, pageKind_portPage, Nat.reduceAdd, Nat.reduceLT,
      State.modPol_within, State.setB_within, State.set_within, State.stop_within, State.setPd_within, State.event_within,
      State.keepAliveStart_within, State.clampOff_within, State.start_within, State.sinkTxTake_within, w08, w20, w22, p_boundary, p_cc, p_flue, p_pol,
      p_timers, hW0]

theorem State.actPoint_within {s : State} {n : Port} {point : Nat} (w0F : W 0x0F = true) (w20 : W 0x20 = true) (w21 : W 0x21 = true) (w22 : W 0x22 =
    true) (w23 : W 0x23 = true) (p_boundary : P .boundary = true) (p_cc : P .cc = true) (p_flue : P .flue = true) (p_hA : P .hA = true) (p_hB : P .hB
    = true) (p_msg : P .msg = true) (p_pol : P .pol = true) (p_timers : P .timers = true) (p_vdm : P .vdm = true) (hW0 : Within W P s0 s) : Within W P
    s0 (State.actPoint s n point) := by
  unfold State.actPoint
  try dsimp only
  simp (maxDischargeDepth := 60) only [and_self, implies_true, within_refl, within_ite, within_foldl, State.act_within, w0F, w20, w21, w22, w23,
      p_boundary, p_cc, p_flue, p_hA, p_hB, p_msg, p_pol, p_timers, p_vdm, hW0]

theorem State.contractEnter_within {s : State} {n : Port} {c : Contract} (w08 : W 0x08 = true) (w0F : W 0x0F = true) (w20 : W 0x20 = true) (w21 : W
    0x21 = true) (w22 : W 0x22 = true) (w23 : W 0x23 = true) (p_boundary : P .boundary = true) (p_cc : P .cc = true) (p_flue : P .flue = true) (p_hA :
    P .hA = true) (p_hB : P .hB = true) (p_msg : P .msg = true) (p_pol : P .pol = true) (p_timers : P .timers = true) (p_vdm : P .vdm = true) (hW0 :
    Within W P s0 s) : Within W P s0 (State.contractEnter s n c) := by
  unfold State.contractEnter
  try dsimp only
  simp (maxDischargeDepth := 60) only [and_self, implies_true, within_ite, State.setSeq_within, State.contractSet_within, State.point14_within,
      State.actPoint_within, State.amsStop_within, State.discoveryStart_within, State.amsEnd_within, w08, w0F, w20, w21, w22, w23, p_boundary, p_cc,
      p_flue, p_hA, p_hB, p_msg, p_pol, p_timers, p_vdm, hW0]

theorem State.hardResetBegin_within {s : State} {n : Port} {kind : Nat} (w00 : W 0x00 = true) (w04 : W 0x04 = true) (w07 : W 0x07 = true) (w08 : W
    0x08 = true) (w09 : W 0x09 = true) (w13 : W 0x13 = true) (w20 : W 0x20 = true) (w21 : W 0x21 = true) (w22 : W 0x22 = true) (w23 : W 0x23 = true)
    (w24 : W 0x24 = true) (p_auth : P .auth = true) (p_boundary : P .boundary = true) (p_cc : P .cc = true) (p_draught : P .draught = true) (p_flue :
    P .flue = true) (p_fresh : P .fresh = true) (p_lanes : P .lanes = true) (p_lp : P .lp = true) (p_msg : P .msg = true) (p_pol : P .pol = true)
    (p_thn : P .thn = true) (p_timers : P .timers = true) (p_vdm : P .vdm = true) (hW0 : Within W P s0 s) : Within W P s0 (State.hardResetBegin s n
    kind) := by
  unfold State.hardResetBegin
  try dsimp only
  simp (maxDischargeDepth := 60) only [and_self, implies_true, within_ite, State.setSeq_within, State.modMsg_within, State.modPol_within,
      State.hardResetStart_within, w00, w04, w07, w08, w09, w13, w20, w21, w22, w23, w24, p_auth, p_boundary, p_cc, p_draught, p_flue, p_fresh,
      p_lanes, p_lp, p_msg, p_pol, p_thn, p_timers, p_vdm, hW0]

theorem State.vdmAskDrop_within {s : State} {n : Port} (w23 : W 0x23 = true) (p_flue : P .flue = true) (p_timers : P .timers = true) (p_vdm : P .vdm =
    true) (hW0 : Within W P s0 s) : Within W P s0 (State.vdmAskDrop s n) := by
  unfold State.vdmAskDrop
  try dsimp only
  simp (maxDischargeDepth := 60) only [State.stop_within, State.modVdm_within, State.hostLost_within, w23, p_flue, p_timers, p_vdm, hW0]

theorem State.capsSend_within {s : State} {n : Port} {own : Bool} (w20 : W 0x20 = true) (w21 : W 0x21 = true) (w22 : W 0x22 = true) (p_boundary : P
    .boundary = true) (p_cc : P .cc = true) (p_flue : P .flue = true) (p_msg : P .msg = true) (p_pol : P .pol = true) (p_timers : P .timers = true)
    (hW0 : Within W P s0 s) : Within W P s0 (State.capsSend s n own) := by
  unfold State.capsSend
  try dsimp only
  simp (maxDischargeDepth := 60) only [State.draftBuild_within, State.draftDrop_within, State.offerHand_within, State.setSeq_within,
      State.setPd_within, w20, w21, w22, p_boundary, p_cc, p_flue, p_msg, p_pol, p_timers, hW0]

theorem State.softResetDone_within {s : State} {n : Port} (w20 : W 0x20 = true) (w21 : W 0x21 = true) (w22 : W 0x22 = true) (w23 : W 0x23 = true)
    (p_boundary : P .boundary = true) (p_cc : P .cc = true) (p_flue : P .flue = true) (p_msg : P .msg = true) (p_pol : P .pol = true) (p_timers : P
    .timers = true) (p_vdm : P .vdm = true) (hW0 : Within W P s0 s) : Within W P s0 (State.softResetDone s n) := by
  unfold State.softResetDone
  try dsimp only
  simp (maxDischargeDepth := 60) only [and_self, implies_true, within_ite, State.vdmAskDrop_within, State.modPol_within, State.amsStop_within,
      State.capsSend_within, State.start_within, State.setPd_within, w20, w21, w22, w23, p_boundary, p_cc, p_flue, p_msg, p_pol, p_timers, p_vdm, hW0]

theorem State.hardResetReceived_within {s : State} {n : Port} (w00 : W 0x00 = true) (w04 : W 0x04 = true) (w07 : W 0x07 = true) (w08 : W 0x08 = true)
    (w09 : W 0x09 = true) (w13 : W 0x13 = true) (w20 : W 0x20 = true) (w21 : W 0x21 = true) (w22 : W 0x22 = true) (w23 : W 0x23 = true) (w24 : W 0x24
    = true) (p_auth : P .auth = true) (p_boundary : P .boundary = true) (p_cc : P .cc = true) (p_draught : P .draught = true) (p_flue : P .flue =
    true) (p_fresh : P .fresh = true) (p_lanes : P .lanes = true) (p_lp : P .lp = true) (p_msg : P .msg = true) (p_pol : P .pol = true) (p_thn : P
    .thn = true) (p_timers : P .timers = true) (p_vdm : P .vdm = true) (hW0 : Within W P s0 s) : Within W P s0 (State.hardResetReceived s n) := by
  unfold State.hardResetReceived
  try dsimp only
  simp (maxDischargeDepth := 60) only [and_self, implies_true, within_ite, State.hardResetBegin_within, w00, w04, w07, w08, w09, w13, w20, w21, w22,
      w23, w24, p_auth, p_boundary, p_cc, p_draught, p_flue, p_fresh, p_lanes, p_lp, p_msg, p_pol, p_thn, p_timers, p_vdm, hW0]

theorem State.attachAccessory_within {s : State} {n : Port} {type : Nat} (w0F : W 0x0F = true) (w22 : W 0x22 = true) (w24 : W 0x24 = true) (w26 : W
    0x26 = true) (p_boundary : P .boundary = true) (p_flue : P .flue = true) (p_fnd : P .fnd = true) (p_hA : P .hA = true) (p_hB : P .hB = true) (p_lp
    : P .lp = true) (p_pol : P .pol = true) (p_timers : P .timers = true) (hW0 : Within W P s0 s) : Within W P s0 (State.attachAccessory s n type) :=
    by
  unfold State.attachAccessory
  try dsimp only
  (repeat' split) <;> (try simp (maxDischargeDepth := 60) only [State.attachRoles_within, State.firstMatch_within, State.stageRun_within,
      State.closePath_within, w0F, w22, w24, w26, p_boundary, p_flue, p_fnd, p_hA, p_hB, p_lp, p_pol, p_timers, hW0])

theorem State.tryOver_within {s : State} {n : Port} (w20 : W 0x20 = true) (w22 : W 0x22 = true) (p_boundary : P .boundary = true) (p_cc : P .cc =
    true) (p_flue : P .flue = true) (p_pol : P .pol = true) (p_timers : P .timers = true) (hW0 : Within W P s0 s) : Within W P s0 (State.tryOver s n)
    := by
  unfold State.tryOver
  try dsimp only
  simp (maxDischargeDepth := 60) only [and_self, implies_true, within_ite, State.tryEnter_within, w20, w22, p_boundary, p_cc, p_flue, p_pol, p_timers,
      hW0]

theorem State.tryExpiry_within {s : State} {n : Port} (w0F : W 0x0F = true) (w20 : W 0x20 = true) (w22 : W 0x22 = true) (p_boundary : P .boundary =
    true) (p_cc : P .cc = true) (p_flue : P .flue = true) (p_hA : P .hA = true) (p_hB : P .hB = true) (p_pol : P .pol = true) (p_timers : P .timers =
    true) (hW0 : Within W P s0 s) : Within W P s0 (State.tryExpiry s n) := by
  unfold State.tryExpiry
  try dsimp only
  (repeat' split) <;> (try simp (maxDischargeDepth := 60) only [State.stop_within, State.tryOver_within, State.reachPoint1_within,
      State.ccDebounce_within, State.start_within, w0F, w20, w22, p_boundary, p_cc, p_flue, p_hA, p_hB, p_pol, p_timers, hW0])

theorem State.maskOpen_within {s : State} {n : Port} (w20 : W 0x20 = true) (hW0 : Within W P s0 s) : Within W P s0 (State.maskOpen s n) := by
  unfold State.maskOpen
  try dsimp only
  simp (maxDischargeDepth := 60) only [and_self, implies_true, within_ite, pageOf_add, pageKind_portPage, Nat.reduceAdd, Nat.reduceLT,
      State.set_within, w20, hW0]

theorem State.vcnDone_within {s : State} {n : Port} (w08 : W 0x08 = true) (w20 : W 0x20 = true) (w21 : W 0x21 = true) (w22 : W 0x22 = true) (w23 : W
    0x23 = true) (p_boundary : P .boundary = true) (p_cc : P .cc = true) (p_draught : P .draught = true) (p_flue : P .flue = true) (p_msg : P .msg =
    true) (p_pol : P .pol = true) (p_timers : P .timers = true) (p_vdm : P .vdm = true) (hW0 : Within W P s0 s) : Within W P s0 (State.vcnDone s n) :=
    by
  unfold State.vcnDone
  try dsimp only
  simp (maxDischargeDepth := 60) only [State.modPol_within, State.stop_within, State.amsEnd_within, State.maskDone_within, State.swapDone_within, w08,
      w20, w21, w22, w23, p_boundary, p_cc, p_draught, p_flue, p_msg, p_pol, p_timers, p_vdm, hW0]

theorem State.sinkRequest_within {s : State} {n : Port} {own : Bool} (w0F : W 0x0F = true) (w20 : W 0x20 = true) (w21 : W 0x21 = true) (w22 : W 0x22 =
    true) (p_boundary : P .boundary = true) (p_cc : P .cc = true) (p_flue : P .flue = true) (p_hA : P .hA = true) (p_hB : P .hB = true) (p_msg : P
    .msg = true) (p_pol : P .pol = true) (p_timers : P .timers = true) (hW0 : Within W P s0 s) : Within W P s0 (State.sinkRequest s n own) := by
  unfold State.sinkRequest
  try dsimp only
  simp (maxDischargeDepth := 60) only [and_self, implies_true, within_ite, apply_ite Prod.fst, apply_ite Prod.snd, State.firstMatch_within,
      State.requestSend_within, State.setPd_within, w0F, w20, w21, w22, p_boundary, p_cc, p_flue, p_hA, p_hB, p_msg, p_pol, p_timers, hW0]

theorem State.softResetSend_within {s : State} {n : Port} (w09 : W 0x09 = true) (w13 : W 0x13 = true) (w20 : W 0x20 = true) (w21 : W 0x21 = true) (w22
    : W 0x22 = true) (p_boundary : P .boundary = true) (p_cc : P .cc = true) (p_draught : P .draught = true) (p_flue : P .flue = true) (p_msg : P .msg
    = true) (p_pol : P .pol = true) (p_thn : P .thn = true) (p_timers : P .timers = true) (hW0 : Within W P s0 s) : Within W P s0 (State.softResetSend
    s n) := by
  unfold State.softResetSend
  try dsimp only
  simp (maxDischargeDepth := 60) only [and_self, implies_true, within_ite, State.hardResetRequest_within, State.stop_within, State.collapse_within,
      State.swapGiveUp_within, State.setSeq_within, State.ask_within, w09, w13, w20, w21, w22, p_boundary, p_cc, p_draught, p_flue, p_msg, p_pol,
      p_thn, p_timers, hW0]

theorem State.attachSource_within {s : State} {n : Port} (w0F : W 0x0F = true) (w20 : W 0x20 = true) (w21 : W 0x21 = true) (w22 : W 0x22 = true) (w23
    : W 0x23 = true) (w24 : W 0x24 = true) (w26 : W 0x26 = true) (p_boundary : P .boundary = true) (p_cc : P .cc = true) (p_flue : P .flue = true)
    (p_fnd : P .fnd = true) (p_hA : P .hA = true) (p_hB : P .hB = true) (p_lp : P .lp = true) (p_msg : P .msg = true) (p_pol : P .pol = true)
    (p_timers : P .timers = true) (p_vdm : P .vdm = true) (hW0 : Within W P s0 s) : Within W P s0 (State.attachSource s n) := by
  unfold State.attachSource
  try dsimp only
  simp (maxDischargeDepth := 60) only [State.stageRun_within, State.closePath_within, State.attachRoles_within, State.start_within,
      State.actPoint_within, State.setPd_within, w0F, w20, w21, w22, w23, w24, w26, p_boundary, p_cc, p_flue, p_fnd, p_hA, p_hB, p_lp, p_msg, p_pol,
      p_timers, p_vdm, hW0]

theorem State.attachTake_within {s : State} {n : Port} {type : Nat} (w0F : W 0x0F = true) (w20 : W 0x20 = true) (w21 : W 0x21 = true) (w22 : W 0x22 =
    true) (w23 : W 0x23 = true) (w24 : W 0x24 = true) (w26 : W 0x26 = true) (p_boundary : P .boundary = true) (p_cc : P .cc = true) (p_flue : P .flue
    = true) (p_fnd : P .fnd = true) (p_hA : P .hA = true) (p_hB : P .hB = true) (p_lp : P .lp = true) (p_msg : P .msg = true) (p_pol : P .pol = true)
    (p_timers : P .timers = true) (p_vdm : P .vdm = true) (hW0 : Within W P s0 s) : Within W P s0 (State.attachTake s n type) := by
  unfold State.attachTake
  try dsimp only
  (repeat' split) <;> (try simp (maxDischargeDepth := 60) only [State.point0_within, State.tryEnter_within, State.attachSource_within,
      State.attachSink_within, State.attachAccessory_within, w0F, w20, w21, w22, w23, w24, w26, p_boundary, p_cc, p_flue, p_fnd, p_hA, p_hB, p_lp,
      p_msg, p_pol, p_timers, p_vdm, hW0])

theorem State.enablePort_within {s : State} {n : Port} (w0B : W 0x0B = true) (w0C : W 0x0C = true) (w0F : W 0x0F = true) (w20 : W 0x20 = true) (w22 :
    W 0x22 = true) (w26 : W 0x26 = true) (p_boundary : P .boundary = true) (p_cc : P .cc = true) (p_flue : P .flue = true) (p_hA : P .hA = true) (p_hB
    : P .hB = true) (p_pol : P .pol = true) (p_timers : P .timers = true) (hW0 : Within W P s0 s) : Within W P s0 (State.enablePort s n) := by
  unfold State.enablePort
  try dsimp only
  simp (maxDischargeDepth := 60) only [State.ownTake_within, State.reachPoint1_within, State.point0_within, w0B, w0C, w0F, w20, w22, w26, p_boundary,
      p_cc, p_flue, p_hA, p_hB, p_pol, p_timers, hW0]

theorem State.swapBegin_within {s : State} {n : Port} (w20 : W 0x20 = true) (w22 : W 0x22 = true) (p_pol : P .pol = true) (hW0 : Within W P s0 s) :
    Within W P s0 (State.swapBegin s n) := by
  unfold State.swapBegin
  try dsimp only
  simp (maxDischargeDepth := 60) only [and_self, implies_true, within_ite, State.maskOpen_within, State.setPd_within, State.modPol_within, w20, w22,
      p_pol, hW0]

/-! ### Operands -/

theorem State.returnBytes_within {s : State} {l : List Byte} (p_pins : P .pins = true) (hW0 : Within W P s0 s) : Within W P s0 (State.returnBytes s l)
    := by
  unfold State.returnBytes
  try dsimp only
  simp (maxDischargeDepth := 60) only [within_mk, true_or, or_true, p_pins, hW0]

theorem State.setIn_within {s : State} {hs : List Hth} {f : Field} {v : Nat} (hf_f : W (pageKind (pageOf f.addr)) = true) (hW0 : Within W P s0 s) :
    Within W P s0 (State.setIn s hs f v) := by
  unfold State.setIn
  try dsimp only
  simp (maxDischargeDepth := 60) only [implies_true, within_refl, Field.inHearth, within_foldl, State.set_within, hf_f, hW0]

theorem State.cfgWrite_within {s : State} {l : List CfgField} {refused : Field} {ok : Bool} {v : Word} (p_flue : P .flue = true)
    (hl : ∀ c ∈ l, W (pageKind (pageOf c.f.addr)) = true) (hr : W (pageKind (pageOf refused.addr)) = true) (hW0 : Within W P s0 s) :
    Within W P s0 (s.cfgWrite l refused ok v) := by
  unfold State.cfgWrite
  split
  · exact within_foldl_mem _ _ (fun t c hc => State.set_within _ _ (hl c hc) (.refl t)) hW0
  · exact State.eventHost_within p_flue hr hW0

theorem State.eventIn_within {s : State} {hs : List Hth} {f : Field} {access : Nat} (p_flue : P .flue = true) (hf_f : W (pageKind (pageOf f.addr)) =
    true) (hW0 : Within W P s0 s) : Within W P s0 (State.eventIn s hs f access) := by
  unfold State.eventIn
  try dsimp only
  simp (maxDischargeDepth := 60) only [State.report_within, State.setIn_within, p_flue, hf_f, hW0]

theorem State.returnWord_within {s : State} {w : Word} (p_pins : P .pins = true) (hW0 : Within W P s0 s) : Within W P s0 (State.returnWord s w) := by
  unfold State.returnWord
  try dsimp only
  simp (maxDischargeDepth := 60) only [State.returnBytes_within, p_pins, hW0]

theorem State.bumpIn_within {s : State} {hs : List Hth} {f : Field} (hf_f : W (pageKind (pageOf f.addr)) = true) (hW0 : Within W P s0 s) : Within W P
    s0 (State.bumpIn s hs f) := by
  unfold State.bumpIn
  try dsimp only
  simp (maxDischargeDepth := 60) only [implies_true, within_refl, Field.inHearth, within_foldl, State.bump_within, hf_f, hW0]

end Sys2Proof.Machine
end

