-- ==== Sys2Proof/Laws/WithinOtp.lean ====
section
/-! SUPPORT. What each operation and command of the one-time-programmable memory, structured VDMs, identity and the Lexicon commands can change at most (`Within`): the pages and parts its
hypotheses name. -/

namespace Sys2Proof.Machine
variable {W : Nat → Bool} {P : Part → Bool} {s0 : State}
set_option linter.unusedVariables false

/-! ### Otp -/

theorem State.srcOnlyGive_within {s : State} (w20 : W 0x20 = true) (hW0 : Within W P s0 s) : Within W P s0 (State.srcOnlyGive s) := by
  unfold State.srcOnlyGive
  try dsimp only
  simp (maxDischargeDepth := 60) only [and_self, implies_true, within_refl, within_ite, pageOf_add, within_foldl, pageKind_portPage, Nat.reduceAdd,
      Nat.reduceLT, State.set_within, w20, hW0]

theorem State.otpResult_within {s : State} {cmd : Nat} {outcome : Nat} {reason : Nat} {pulses : Nat} {word : Nat} (w05 : W 0x05 = true) (hW0 : Within
    W P s0 s) : Within W P s0 (State.otpResult s cmd outcome reason pulses word) := by
  unfold State.otpResult
  try dsimp only
  simp (maxDischargeDepth := 60) only [and_true, pageOf_lit, pageKind_lit, Nat.reduceDiv, Nat.reduceLeDiff, Nat.reduceAdd, Nat.reduceMod, if_false,
      State.set_within, w05, hW0]

theorem State.otpRefuse_within {s : State} {cmd : Nat} {reason : Nat} {word : Nat} (w05 : W 0x05 = true) (p_flue : P .flue = true) (hW0 : Within W P
    s0 s) : Within W P s0 (State.otpRefuse s cmd reason word) := by
  unfold State.otpRefuse
  try dsimp only
  simp (maxDischargeDepth := 60) only [and_true, pageOf_lit, pageKind_lit, Nat.reduceDiv, Nat.reduceLeDiff, Nat.reduceAdd, Nat.reduceMod, if_false,
      State.eventBy_within, State.otpResult_within, w05, p_flue, hW0]

theorem State.otpCommand_within {s : State} {flips : List OtpFlip} {cmd : Nat} {word : Nat} {region : Nat} (w05 : W 0x05 = true) (p_flue : P .flue =
    true) (p_otp : P .otp = true) (p_timers : P .timers = true) (hW0 : Within W P s0 s) : Within W P s0 (State.otpCommand s flips cmd word region) :=
    by
  unfold State.otpCommand
  try dsimp only
  simp (maxDischargeDepth := 60) only [and_self, and_true, implies_true, within_ite, within_mk, pageOf_lit, pageKind_lit, Nat.reduceDiv,
      Nat.reduceLeDiff, Nat.reduceAdd, Nat.reduceMod, if_false, true_or, or_true, State.set_within, State.otpRefuse_within, State.start_within, w05,
      p_flue, p_otp, p_timers, hW0]

theorem execOtpFinalise_within {region : BitVec 3} {flips : List OtpFlip} {s : State} (w05 : W 0x05 = true) (p_flue : P .flue = true) (p_otp : P .otp
    = true) (p_timers : P .timers = true) {t : State} (e : execOtpFinalise region flips s = .next t) : Within W P s t := by
  unfold execOtpFinalise at e
  try dsimp only at e
  cases e
  simp (maxDischargeDepth := 60) only [implies_true, within_refl, State.answered_within, State.otpCommand_within, w05, p_flue, p_otp, p_timers]

theorem execOtpReblow_within {word : BitVec 10} {s : State} (w05 : W 0x05 = true) (p_flue : P .flue = true) (p_otp : P .otp = true) (p_timers : P
    .timers = true) {t : State} (e : execOtpReblow word s = .next t) : Within W P s t := by
  unfold execOtpReblow at e
  try dsimp only at e
  cases e
  simp (maxDischargeDepth := 60) only [implies_true, within_refl, State.answered_within, State.otpCommand_within, w05, p_flue, p_otp, p_timers]

theorem State.otpCheckRegions_within {s : State} (w05 : W 0x05 = true) (hW0 : Within W P s0 s) : Within W P s0 (State.otpCheckRegions s) := by
  unfold State.otpCheckRegions
  try dsimp only
  simp (maxDischargeDepth := 60) only [and_true, implies_true, within_refl, pageOf_lit, pageKind_lit, pageOf_fin4, within_foldl_range, Nat.reduceDiv,
      Nat.reduceLeDiff, Nat.reduceMul, Nat.reduceAdd, Nat.reduceMod, Nat.reduceLT, if_false, State.setBit_within, State.setB_within, w05, hW0]

theorem State.addSat_within {s : State} {f : Field} {k : Nat} (hf_f : W (pageKind (pageOf f.addr)) = true) (hW0 : Within W P s0 s) : Within W P s0
    (State.addSat s f k) := by
  unfold State.addSat
  try dsimp only
  simp (maxDischargeDepth := 60) only [State.set_within, hf_f, hW0]

theorem State.otpShow_within {s : State} {flips : List OtpFlip} (w05 : W 0x05 = true) (hW0 : Within W P s0 s) : Within W P s0 (State.otpShow s flips)
    := by
  unfold State.otpShow
  try dsimp only
  simp (maxDischargeDepth := 60) only [and_true, implies_true, within_refl, pageOf_lit, pageKind_lit, pageOf_fin4, pageOf_fin8, pageOf_fin8s,
      within_foldl_range, Nat.reduceDiv, Nat.reduceLeDiff, Nat.reduceMul, Nat.reduceAdd, Nat.reduceMod, Nat.reduceLT, if_false, State.setB_within,
      State.set_within, w05, hW0]

theorem State.otpSense_within {s : State} {flips : List OtpFlip} {occasion : Nat} {tj : Nat} (w05 : W 0x05 = true) (p_flue : P .flue = true) (p_otp :
    P .otp = true) (hW0 : Within W P s0 s) : Within W P s0 (State.otpSense s flips occasion tj) := by
  unfold State.otpSense
  try dsimp only
  (repeat' split) <;> (try simp (maxDischargeDepth := 60) only [and_true, implies_true, within_refl, within_mk, pageOf_lit, pageKind_lit, pageOf_fin4,
      within_foldl_range, Nat.reduceDiv, Nat.reduceLeDiff, Nat.reduceMul, Nat.reduceAdd, Nat.reduceMod, Nat.reduceLT, if_false, true_or, or_true,
      State.addSat_within, State.set_within, State.setB_within, State.otpShow_within, State.event_within, w05, p_flue, p_otp, hW0])

theorem State.otpResense_within {s : State} {flips : List OtpFlip} (w05 : W 0x05 = true) (p_flue : P .flue = true) (p_otp : P .otp = true) (hW0 :
    Within W P s0 s) : Within W P s0 (State.otpResense s flips) := by
  unfold State.otpResense
  try dsimp only
  simp (maxDischargeDepth := 60) only [State.otpCheckRegions_within, State.otpSense_within, w05, p_flue, p_otp, hW0]

theorem State.otpFuseNow_within {s : State} {r : Nat} {k : Nat} (w05 : W 0x05 = true) (p_otp : P .otp = true) (hW0 : Within W P s0 s) : Within W P s0
    (State.otpFuseNow s r k) := by
  unfold State.otpFuseNow
  try dsimp only
  simp (maxDischargeDepth := 60) only [and_self, implies_true, within_ite, within_mk, true_or, or_true, State.otpShow_within, w05, p_otp, hW0]

theorem State.bootPut_within {s : State} {f : Field} {v : Nat} (hf_f : W (pageKind (pageOf f.addr)) = true) (hW0 : Within W P s0 s) : Within W P s0
    (State.bootPut s f v) := by
  unfold State.bootPut
  try dsimp only
  simp (maxDischargeDepth := 60) only [and_self, implies_true, within_ite, State.set_within, hf_f, hW0]

theorem State.otpReadNow_within {s : State} {flips : List OtpFlip} {word : Nat} {margin : Nat} (w05 : W 0x05 = true) (hW0 : Within W P s0 s) : Within
    W P s0 (State.otpReadNow s flips word margin) := by
  unfold State.otpReadNow
  try dsimp only
  (repeat' split) <;> (try simp (maxDischargeDepth := 60) only [and_true, pageOf_lit, pageKind_lit, Nat.reduceDiv, Nat.reduceLeDiff, Nat.reduceAdd,
      Nat.reduceMod, if_false, State.setB_within, State.set_within, w05, hW0])

theorem State.otpCmdWrite_within {s : State} {v : Word} (w05 : W 0x05 = true) (p_flue : P .flue = true) (p_otp : P .otp = true) (p_timers : P .timers
    = true) (hW0 : Within W P s0 s) : Within W P s0 (State.otpCmdWrite s v) := by
  unfold State.otpCmdWrite
  try dsimp only
  simp (maxDischargeDepth := 60) only [and_self, implies_true, within_ite, State.otpCommand_within, State.otpReadNow_within, w05, p_flue, p_otp,
      p_timers, hW0]

theorem State.identityShow_within {s : State} (w07 : W 0x07 = true) (w13 : W 0x13 = true) (hW0 : Within W P s0 s) : Within W P s0 (State.identityShow
    s) := by
  unfold State.identityShow
  try dsimp only
  simp (maxDischargeDepth := 60) only [and_true, implies_true, within_refl, pageOf_lit, pageKind_lit, pageOf_fin4, within_foldl_range, Nat.reduceDiv,
      Nat.reduceLeDiff, Nat.reduceMul, Nat.reduceAdd, Nat.reduceMod, Nat.reduceLT, if_false, State.set_within, w07, w13, hW0]

theorem State.otpPulse_within {s : State} {c : Nat} {target : BitVec 39} {k : OtpTry} (p_otp : P .otp = true) (hW0 : Within W P s0 s) : Within W P s0
    (State.otpPulse s c target k) := by
  unfold State.otpPulse
  try dsimp only
  simp (maxDischargeDepth := 60) only [within_mk, true_or, or_true, p_otp, hW0]

theorem execOtpProgram_within {word : BitVec 10} {s : State} (w05 : W 0x05 = true) (p_flue : P .flue = true) (p_otp : P .otp = true) (p_timers : P
    .timers = true) {t : State} (e : execOtpProgram word s = .next t) : Within W P s t := by
  unfold execOtpProgram at e
  try dsimp only at e
  cases e
  simp (maxDischargeDepth := 60) only [implies_true, within_refl, State.answered_within, State.otpCommand_within, w05, p_flue, p_otp, p_timers]

theorem State.otpDeliver_within {s : State} (w02 : W 0x02 = true) (w05 : W 0x05 = true) (w06 : W 0x06 = true) (w08 : W 0x08 = true) (w0A : W 0x0A =
    true) (w0D : W 0x0D = true) (w20 : W 0x20 = true) (w24 : W 0x24 = true) (w26 : W 0x26 = true) (p_fallbackI : P .fallbackI = true) (p_fallbackV : P
    .fallbackV = true) (p_flue : P .flue = true) (p_otp : P .otp = true) (hW0 : Within W P s0 s) : Within W P s0 (State.otpDeliver s) := by
  unfold State.otpDeliver
  try dsimp only
  simp (maxDischargeDepth := 60) only [and_self, and_true, implies_true, within_ite, within_mk, pageOf_lit, pageKind_lit, Nat.reduceDiv,
      Nat.reduceLeDiff, Nat.reduceAdd, Nat.reduceMod, if_false, true_or, or_true, State.event_within, State.set_within, State.srcOnlyGive_within,
      State.bootPut_within, w05, w0D, w20, p_fallbackI, p_fallbackV, p_flue, p_otp, hW0]

theorem State.otpEnd_within {s : State} {r : OtpRun} {outcome : Nat} {reason : Nat} {pulses : Nat} {word : Nat} (w05 : W 0x05 = true) (w26 : W 0x26 =
    true) (p_flue : P .flue = true) (p_fnd : P .fnd = true) (p_otp : P .otp = true) (p_timers : P .timers = true) (hW0 : Within W P s0 s) : Within W P
    s0 (State.otpEnd s r outcome reason pulses word) := by
  unfold State.otpEnd
  try dsimp only
  simp (maxDischargeDepth := 60) only [and_true, implies_true, within_refl, within_mk, pageOf_lit, pageKind_lit, apply_ite Field.addr, Nat.reduceDiv,
      Nat.reduceLeDiff, Nat.reduceAdd, Nat.reduceMod, if_false, true_or, or_true, ite_self, State.otpResult_within, State.stop_within,
      State.set_within, State.bump_within, State.eventBy_within, State.allPorts_within, State.pathTry_within, w05, w26, p_flue, p_fnd, p_otp,
      p_timers, hW0]

theorem State.otpShadowNow_within {s : State} {words : List Nat} (w05 : W 0x05 = true) (p_otp : P .otp = true) (hW0 : Within W P s0 s) : Within W P s0
    (State.otpShadowNow s words) := by
  unfold State.otpShadowNow
  try dsimp only
  simp (maxDischargeDepth := 60) only [within_mk, true_or, or_true, State.otpShow_within, w05, p_otp, hW0]

theorem State.otpFinaliseEnd_within {s : State} {r : OtpRun} {tries : List OtpTry} (w05 : W 0x05 = true) (w26 : W 0x26 = true) (p_flue : P .flue =
    true) (p_fnd : P .fnd = true) (p_otp : P .otp = true) (p_timers : P .timers = true) (hW0 : Within W P s0 s) : Within W P s0 (State.otpFinaliseEnd
    s r tries) := by
  unfold State.otpFinaliseEnd
  try dsimp only
  simp (maxDischargeDepth := 60) only [State.otpPulse_within, State.otpEnd_within, State.otpFuseNow_within, State.otpShadowNow_within, w05, w26,
      p_flue, p_fnd, p_otp, p_timers, hW0]

theorem State.otpFusePulse_within {s : State} {r : Nat} {k : Nat} {bit : Nat → OtpTry} (w05 : W 0x05 = true) (p_otp : P .otp = true) (hW0 : Within W P
    s0 s) : Within W P s0 (State.otpFusePulse s r k bit) := by
  unfold State.otpFusePulse
  try dsimp only
  simp (maxDischargeDepth := 60) only [State.otpFuseNow_within, State.otpPulse_within, w05, p_otp, hW0]

theorem State.otpLockEnd_within {s : State} {r : OtpRun} {tries : List OtpTry} (w05 : W 0x05 = true) (w26 : W 0x26 = true) (p_flue : P .flue = true)
    (p_fnd : P .fnd = true) (p_otp : P .otp = true) (p_timers : P .timers = true) (hW0 : Within W P s0 s) : Within W P s0 (State.otpLockEnd s r tries)
    := by
  unfold State.otpLockEnd
  try dsimp only
  simp (maxDischargeDepth := 60) only [State.otpFusePulse_within, State.otpEnd_within, w05, w26, p_flue, p_fnd, p_otp, p_timers, hW0]

theorem execOtpLockRead_within {region : BitVec 3} {s : State} (w05 : W 0x05 = true) (p_flue : P .flue = true) (p_otp : P .otp = true) (p_timers : P
    .timers = true) {t : State} (e : execOtpLockRead region s = .next t) : Within W P s t := by
  unfold execOtpLockRead at e
  try dsimp only at e
  cases e
  simp (maxDischargeDepth := 60) only [implies_true, within_refl, State.answered_within, State.otpCommand_within, w05, p_flue, p_otp, p_timers]

theorem State.otpRedirect_within {s : State} {i : Nat} {word : Nat} (p_otp : P .otp = true) (hW0 : Within W P s0 s) : Within W P s0 (State.otpRedirect
    s i word) := by
  unfold State.otpRedirect
  try dsimp only
  simp (maxDischargeDepth := 60) only [State.otpPulse_within, p_otp, hW0]

theorem State.otpDefaults_within {s : State} (w02 : W 0x02 = true) (w06 : W 0x06 = true) (w07 : W 0x07 = true) (w08 : W 0x08 = true)
    (w0A : W 0x0A = true) (w13 : W 0x13 = true) (w20 : W 0x20 = true) (w24 : W 0x24 = true) (w26 : W 0x26 = true)
    (hW0 : Within W P s0 s) : Within W P s0 s.otpDefaults := by
  have put : ∀ (t : State) (f : Field) (v : Nat), W (pageKind (pageOf f.addr)) = true → Within W P t (t.bootPut f v) := by
    intro t f v h
    unfold State.bootPut
    split
    · exact .refl t
    · exact State.set_within _ _ h (.refl t)
  unfold State.otpDefaults
  extract_lets t1 t2
  have g1 : Within W P s0 t1 := by
    refine within_foldl_mem _ _ (fun t b hb => put t b.2 _ ?_) hW0
    simp only [bootRegs, List.mem_append, List.mem_cons, List.not_mem_nil, or_false, List.mem_flatMap, List.mem_range] at hb
    rcases hb with ((rfl | rfl) | ⟨n, -, h⟩) | ⟨f, hf, h⟩
    · exact w02
    · exact w06
    · rcases h with rfl | rfl | rfl | rfl | rfl <;>
        simp only [pageOf_add, pageKind_portPage, Nat.reduceLT, Nat.reduceAdd, w24, w26]
    · rcases h with rfl | rfl | rfl | rfl
      · exact page_range 0x08 (by dsimp only; omega) (by dsimp only; omega) w08
      · exact page_range 0x08 (by dsimp only; omega) (by dsimp only; omega) w08
      · exact page_range 0x0A (by dsimp only; omega) (by dsimp only; omega) w0A
      · exact page_range 0x0A (by dsimp only; omega) (by dsimp only; omega) w0A
  have g2 : Within W P s0 t2 := by
    refine within_foldl_range _ _ (fun t i => ?_) g1
    exact (put t _ _ (page_range 0x0A (by dsimp only; omega) (by dsimp only; omega) w0A)).trans
      (put _ _ _ (page_range 0x0A (by dsimp only; omega) (by dsimp only; omega) w0A))
  refine State.identityShow_within w07 w13 ?_
  split
  · exact State.srcOnlyGive_within w20 g2
  · exact g2

theorem State.otpSpares_within {s : State} {word : Nat} {target : BitVec 39} {l : List OtpTry} {k : Nat}
    (p_otp : P .otp = true) (hW0 : Within W P s0 s) : Within W P s0 (s.otpSpares word target l k).1 := by
  induction k generalizing s l with
  | zero => exact hW0
  | succ k ih =>
    unfold State.otpSpares
    split
    · exact hW0
    · dsimp only
      split
      · exact State.otpRedirect_within p_otp (State.otpPulse_within p_otp hW0)
      · exact ih (State.otpPulse_within p_otp hW0)

theorem State.otpProgramEnd_within {s : State} {r : OtpRun} {tries : List OtpTry} (w05 : W 0x05 = true) (w26 : W 0x26 = true) (p_flue : P .flue =
    true) (p_fnd : P .fnd = true) (p_otp : P .otp = true) (p_timers : P .timers = true) (hW0 : Within W P s0 s) : Within W P s0 (State.otpProgramEnd s
    r tries) := by
  unfold State.otpProgramEnd
  try dsimp only
  simp (maxDischargeDepth := 60) only [and_self, and_true, implies_true, within_ite, pageOf_lit, pageKind_lit, Nat.reduceDiv, Nat.reduceLeDiff,
      Nat.reduceAdd, Nat.reduceMod, if_false, State.otpPulse_within, State.otpEnd_within, State.otpShadowNow_within, State.otpSpares_within,
      State.eventBy_within, w05, w26, p_flue, p_fnd, p_otp, p_timers, hW0]

theorem State.otpReblowEnd_within {s : State} {r : OtpRun} {tries : List OtpTry} (w05 : W 0x05 = true) (w26 : W 0x26 = true) (p_flue : P .flue = true)
    (p_fnd : P .fnd = true) (p_otp : P .otp = true) (p_timers : P .timers = true) (hW0 : Within W P s0 s) : Within W P s0 (State.otpReblowEnd s r
    tries) := by
  unfold State.otpReblowEnd
  try dsimp only
  simp (maxDischargeDepth := 60) only [State.otpPulse_within, State.otpEnd_within, State.otpShadowNow_within, w05, w26, p_flue, p_fnd, p_otp,
      p_timers, hW0]

theorem execOtpCommandComplete_within {tries : List OtpTry} {s : State} (w05 : W 0x05 = true) (w26 : W 0x26 = true) (p_flue : P .flue = true) (p_fnd :
    P .fnd = true) (p_otp : P .otp = true) (p_timers : P .timers = true) {t : State} (e : execOtpCommandComplete tries s = .next t) : Within W P s t
    := by
  unfold execOtpCommandComplete at e
  try dsimp only at e
  cases e
  (repeat' split) <;> simp (maxDischargeDepth := 60) only [within_refl, State.otpEnd_within, State.otpProgramEnd_within, State.otpFinaliseEnd_within,
      State.otpLockEnd_within, State.otpReblowEnd_within, w05, w26, p_flue, p_fnd, p_otp, p_timers]

theorem execOtpRead_within {word : BitVec 10} {margin : BitVec 2} {flips : List OtpFlip} {s : State} (w05 : W 0x05 = true) (p_flue : P .flue = true)
    (p_otp : P .otp = true) (p_timers : P .timers = true) {t : State} (e : execOtpRead word margin flips s = .next t) : Within W P s t := by
  unfold execOtpRead at e
  try dsimp only at e
  cases e
  simp (maxDischargeDepth := 60) only [and_self, implies_true, within_refl, within_ite, State.answered_within, State.otpCommand_within,
      State.otpReadNow_within, w05, p_flue, p_otp, p_timers]

theorem execOtpLockWrite_within {region : BitVec 3} {s : State} (w05 : W 0x05 = true) (p_flue : P .flue = true) (p_otp : P .otp = true) (p_timers : P
    .timers = true) {t : State} (e : execOtpLockWrite region s = .next t) : Within W P s t := by
  unfold execOtpLockWrite at e
  try dsimp only at e
  cases e
  simp (maxDischargeDepth := 60) only [implies_true, within_refl, State.answered_within, State.otpCommand_within, w05, p_flue, p_otp, p_timers]

theorem State.otpPart_within {s : State} {r : OtpRun} {tries : List OtpTry} (w05 : W 0x05 = true) (p_otp : P .otp = true) (hW0 : Within W P s0 s) :
    Within W P s0 (s.otpPart r tries) := by
  have sh : ∀ (u : State) l, Within W P s0 u → Within W P s0 (u.otpShadowNow l) := fun u l h => by
    apply State.otpShadowNow_within <;> assumption
  have fu : ∀ (u : State) a b f, Within W P s0 u → Within W P s0 (u.otpFusePulse a b f) := fun u a b f h => by
    apply State.otpFusePulse_within <;> assumption
  unfold State.otpPart
  extract_lets k
  split
  · exact hW0
  · refine sh _ _ (within_foldl _ _ (fun u x => ?_) (State.otpPulse_within p_otp hW0))
    split
    · exact State.otpPulse_within p_otp (.refl u)
    · exact .refl u
  · exact sh _ _ (fu _ _ _ _ (State.otpPulse_within p_otp (State.otpPulse_within p_otp hW0)))
  · exact fu _ _ _ _ hW0
  · exact fu _ _ _ _ hW0
  · exact sh _ _ (State.otpPulse_within p_otp hW0)

theorem State.otpAbort_within {s : State} {r : OtpRun} {reason : Nat} {tries : List OtpTry} (w05 : W 0x05 = true) (w26 : W 0x26 = true) (p_flue : P
    .flue = true) (p_fnd : P .fnd = true) (p_otp : P .otp = true) (p_timers : P .timers = true) (hW0 : Within W P s0 s) :
    Within W P s0 (s.otpAbort r reason tries) :=
  State.otpEnd_within w05 w26 p_flue p_fnd p_otp p_timers (State.otpPart_within w05 p_otp hW0)

theorem execOtpCommandAbort_within {reason : Fin 3} {tries : List OtpTry} {s : State} (w05 : W 0x05 = true) (w26 : W 0x26 = true) (p_flue : P .flue =
    true) (p_fnd : P .fnd = true) (p_otp : P .otp = true) (p_timers : P .timers = true) {t : State} (e : execOtpCommandAbort reason tries s = .next t)
    : Within W P s t := by
  unfold execOtpCommandAbort at e
  try dsimp only at e
  cases e
  (repeat' split) <;> simp (maxDischargeDepth := 60) only [within_refl, State.otpAbort_within, w05, w26, p_flue, p_fnd, p_otp, p_timers]

/-! ### Vdm -/

theorem State.vdmAskEnd_within {s : State} {n : Port} (w20 : W 0x20 = true) (w21 : W 0x21 = true) (w22 : W 0x22 = true) (w23 : W 0x23 = true)
    (p_boundary : P .boundary = true) (p_cc : P .cc = true) (p_msg : P .msg = true) (p_pol : P .pol = true) (p_timers : P .timers = true) (p_vdm : P
    .vdm = true) (hW0 : Within W P s0 s) : Within W P s0 (State.vdmAskEnd s n) := by
  unfold State.vdmAskEnd
  try dsimp only
  simp (maxDischargeDepth := 60) only [State.amsEnd_within, State.stop_within, State.modVdm_within, w20, w21, w22, w23, p_boundary, p_cc, p_msg,
      p_pol, p_timers, p_vdm, hW0]

theorem State.thatinEnter_within {s : State} {n : Port} {vdo : Word} (w13 : W 0x13 = true) (w20 : W 0x20 = true) (w23 : W 0x23 = true) (p_flue : P
    .flue = true) (p_thn : P .thn = true) (p_timers : P .timers = true) (p_vdm : P .vdm = true) (hW0 : Within W P s0 s) : Within W P s0
    (State.thatinEnter s n vdo) := by
  unfold State.thatinEnter
  try dsimp only
  simp (maxDischargeDepth := 60) only [and_self, and_true, implies_true, within_ite, pageOf_lit, pageKind_lit, pageOf_add, pageOf_fin4,
      pageKind_portPage, Nat.reduceDiv, Nat.reduceLeDiff, Nat.reduceMul, Nat.reduceAdd, Nat.reduceMod, Nat.reduceLT, if_false, State.setB_within,
      State.set_within, State.setBit_within, State.modVdm_within, State.modThn_within, State.start_within, State.event_within, w13, w20, w23, p_flue,
      p_thn, p_timers, p_vdm, hW0]

theorem State.verShow_within {s : State} {n : Port} {ver : Nat} (w23 : W 0x23 = true) (hW0 : Within W P s0 s) : Within W P s0 (State.verShow s n ver)
    := by
  unfold State.verShow
  try dsimp only
  simp (maxDischargeDepth := 60) only [pageOf_add, pageKind_portPage, Nat.reduceAdd, Nat.reduceLT, State.set_within, w23, hW0]

theorem State.vdmAnswer_within {s : State} {n : Port} {h : Nat} {typ : Nat} {vdos : List Word} {why : Purpose} (w23 : W 0x23 = true) (p_msg : P .msg =
    true) (hW0 : Within W P s0 s) : Within W P s0 (State.vdmAnswer s n h typ vdos why) := by
  unfold State.vdmAnswer
  try dsimp only
  simp (maxDischargeDepth := 60) only [State.handover_within, State.verShow_within, w23, p_msg, hW0]

theorem State.hostEntered_within {s : State} {n : Port} {svid : Nat} {on : Bool} (w23 : W 0x23 = true) (p_flue : P .flue = true) (hW0 : Within W P s0
    s) : Within W P s0 (State.hostEntered s n svid on) := by
  unfold State.hostEntered
  try dsimp only
  (repeat' split) <;> (try simp (maxDischargeDepth := 60) only [pageOf_add, pageKind_portPage, Nat.reduceAdd, Nat.reduceLT, State.eventMsg_within,
      State.setBit_within, w23, p_flue, hW0])

theorem State.hostVdmTimeout_within {s : State} {n : Port} (w23 : W 0x23 = true) (p_msg : P .msg = true) (p_timers : P .timers = true) (p_vdm : P .vdm
    = true) (hW0 : Within W P s0 s) : Within W P s0 (State.hostVdmTimeout s n) := by
  unfold State.hostVdmTimeout
  try dsimp only
  (repeat' split) <;> (try simp (maxDischargeDepth := 60) only [State.vdmAnswer_within, State.stop_within, State.modVdm_within, w23, p_msg, p_timers,
      p_vdm, hW0])

theorem State.hostSvidShow_within {s : State} {n : Port} {h : Hth} (w23 : W 0x23 = true) (hW0 : Within W P s0 s) : Within W P s0 (State.hostSvidShow s
    n h) := by
  unfold State.hostSvidShow
  try dsimp only
  simp (maxDischargeDepth := 60) only [implies_true, within_refl, pageOf_add, pageOf_page4, Field.inHearth, within_foldl_range, pageKind_portPage,
      Nat.reduceMul, Nat.reduceAdd, Nat.reduceLT, State.set_within, w23, hW0]

theorem State.vdmRefuse_within {s : State} {n : Port} (w23 : W 0x23 = true) (p_flue : P .flue = true) (hW0 : Within W P s0 s) : Within W P s0
    (State.vdmRefuse s n) := by
  unfold State.vdmRefuse
  try dsimp only
  simp (maxDischargeDepth := 60) only [pageOf_add, pageKind_portPage, Nat.reduceAdd, Nat.reduceLT, State.eventHost_within, w23, p_flue, hW0]

theorem State.thatinCmd_within {s : State} {n : Port} (w20 : W 0x20 = true) (w21 : W 0x21 = true) (w22 : W 0x22 = true) (w23 : W 0x23 = true)
    (p_boundary : P .boundary = true) (p_cc : P .cc = true) (p_flue : P .flue = true) (p_msg : P .msg = true) (p_timers : P .timers = true) (p_vdm : P
    .vdm = true) (hW0 : Within W P s0 s) : Within W P s0 (State.thatinCmd s n) := by
  unfold State.thatinCmd
  try dsimp only
  simp (maxDischargeDepth := 60) only [and_self, implies_true, within_ite, State.vdmInitiate_within, State.vdmRefuse_within, w20, w21, w22, w23,
      p_boundary, p_cc, p_flue, p_msg, p_timers, p_vdm, hW0]

theorem State.hostSend_within {s : State} {n : Port} {arg : BitVec 16} (w20 : W 0x20 = true) (w21 : W 0x21 = true) (w22 : W 0x22 = true) (w23 : W 0x23
    = true) (p_boundary : P .boundary = true) (p_cc : P .cc = true) (p_flue : P .flue = true) (p_msg : P .msg = true) (p_timers : P .timers = true)
    (p_vdm : P .vdm = true) (hW0 : Within W P s0 s) : Within W P s0 (State.hostSend s n arg) := by
  unfold State.hostSend
  try dsimp only
  (repeat' split) <;> (try simp (maxDischargeDepth := 60) only [State.vdmRefuse_within, State.stop_within, State.modVdm_within, State.handover_within,
      State.vdmInitiate_within, w20, w21, w22, w23, p_boundary, p_cc, p_flue, p_msg, p_timers, p_vdm, hW0])

theorem State.vdmNext_within {s : State} {n : Port} {a : VdmAsk} (w20 : W 0x20 = true) (w21 : W 0x21 = true) (w22 : W 0x22 = true) (w23 : W 0x23 =
    true) (p_boundary : P .boundary = true) (p_cc : P .cc = true) (p_msg : P .msg = true) (p_pol : P .pol = true) (p_timers : P .timers = true) (p_vdm
    : P .vdm = true) (hW0 : Within W P s0 s) : Within W P s0 (State.vdmNext s n a) := by
  unfold State.vdmNext
  try dsimp only
  simp (maxDischargeDepth := 60) only [State.vdmAskEnd_within, State.modVdm_within, w20, w21, w22, w23, p_boundary, p_cc, p_msg, p_pol, p_timers,
      p_vdm, hW0]

theorem State.discEnd_within {s : State} {n : Port} (w20 : W 0x20 = true) (w21 : W 0x21 = true) (w22 : W 0x22 = true) (w23 : W 0x23 = true)
    (p_boundary : P .boundary = true) (p_cc : P .cc = true) (p_msg : P .msg = true) (p_pol : P .pol = true) (p_timers : P .timers = true) (p_vdm : P
    .vdm = true) (hW0 : Within W P s0 s) : Within W P s0 (State.discEnd s n) := by
  unfold State.discEnd
  try dsimp only
  simp (maxDischargeDepth := 60) only [and_self, implies_true, within_ite, State.vdmNext_within, State.vdmAskEnd_within, w20, w21, w22, w23,
      p_boundary, p_cc, p_msg, p_pol, p_timers, p_vdm, hW0]

theorem State.discDone_within {s : State} {n : Port} (w20 : W 0x20 = true) (w21 : W 0x21 = true) (w22 : W 0x22 = true) (w23 : W 0x23 = true)
    (p_boundary : P .boundary = true) (p_cc : P .cc = true) (p_msg : P .msg = true) (p_pol : P .pol = true) (p_timers : P .timers = true) (p_vdm : P
    .vdm = true) (hW0 : Within W P s0 s) : Within W P s0 (State.discDone s n) := by
  unfold State.discDone
  try dsimp only
  simp (maxDischargeDepth := 60) only [pageOf_add, pageKind_portPage, Nat.reduceAdd, Nat.reduceLT, State.discEnd_within, State.bump_within,
      State.set_within, w20, w21, w22, w23, p_boundary, p_cc, p_msg, p_pol, p_timers, p_vdm, hW0]

theorem State.endTracking_within {s : State} {n : Port} (w09 : W 0x09 = true) (w13 : W 0x13 = true) (w23 : W 0x23 = true) (p_draught : P .draught =
    true) (p_flue : P .flue = true) (p_thn : P .thn = true) (p_timers : P .timers = true) (hW0 : Within W P s0 s) : Within W P s0 (State.endTracking s
    n) := by
  unfold State.endTracking
  try dsimp only
  simp (maxDischargeDepth := 60) only [and_self, implies_true, within_ite, State.collapse_within, State.vdmRefuse_within, w09, w13, w23, p_draught,
      p_flue, p_thn, p_timers, hW0]

theorem State.modesShow_within {s : State} {n : Port} {svid k : Nat} (w23 : W 0x23 = true) (hW0 : Within W P s0 s) :
    Within W P s0 (s.modesShow n svid k) := by
  unfold State.modesShow
  split
  · next i hi =>
    have hl : i < (s.hostSvids n).length := by
      unfold State.hostIndex at hi
      exact (List.findIdx?_eq_some_iff_getElem.mp hi).1
    have h4 : (s.hostSvids n).length ≤ 4 := by
      unfold State.hostSvids State.hostSvidsIn
      rw [List.length_take]; exact Nat.min_le_left ..
    refine State.set_within _ _ (page_range (portPage n 3) ?_ ?_ (by rw [pageKind_portPage _ _ (by omega)]; exact w23)) hW0 <;>
      (dsimp only; omega)
  · exact hW0

theorem State.busyTake_within {s : State} {n : Port} {fail : State → State} (hf : ∀ t, Within W P t (fail t)) (w23 : W 0x23 = true) (p_flue : P .flue
    = true) (p_timers : P .timers = true)
    (hW0 : Within W P s0 s) : Within W P s0 (s.busyTake n fail) := by
  have a : Within W P s0 (((s.eventMsg (F.VDM_EVENT_busy_rx n)).stop .vdmResponse n.val).stop .cableIdentity n.val) := by
    simp (maxDischargeDepth := 60) only [State.stop_within, State.eventMsg_within, pageOf_add, pageKind_portPage, Nat.reduceLT, Nat.reduceAdd,
      w23, p_flue, p_timers, hW0]
  unfold State.busyTake
  dsimp only
  split
  · exact a.trans (hf _)
  · exact State.start_within p_timers a

theorem State.cableSet_within {s : State} {n : Port} {a : Nat} {epr : Bool} (w20 : W 0x20 = true) (w21 : W 0x21 = true) (w22 : W 0x22 = true) (w23 : W
    0x23 = true) (p_boundary : P .boundary = true) (p_cc : P .cc = true) (p_flue : P .flue = true) (p_msg : P .msg = true) (p_pol : P .pol = true)
    (p_timers : P .timers = true) (p_vdm : P .vdm = true) (hW0 : Within W P s0 s) : Within W P s0 (State.cableSet s n a epr) := by
  unfold State.cableSet
  try dsimp only
  simp (maxDischargeDepth := 60) only [and_self, implies_true, within_ite, State.modPol_within, State.draft_within, w20, w21, w22, w23, p_boundary,
      p_cc, p_flue, p_msg, p_pol, p_timers, p_vdm, hW0]

theorem State.cableAnswer_within {s : State} {n : Port} {m : Msg} (w20 : W 0x20 = true) (w21 : W 0x21 = true) (w22 : W 0x22 = true) (w23 : W 0x23 =
    true) (p_boundary : P .boundary = true) (p_cc : P .cc = true) (p_flue : P .flue = true) (p_msg : P .msg = true) (p_pol : P .pol = true) (p_timers
    : P .timers = true) (p_vdm : P .vdm = true) (hW0 : Within W P s0 s) : Within W P s0 (State.cableAnswer s n m) := by
  unfold State.cableAnswer
  try dsimp only
  simp (maxDischargeDepth := 60) only [and_self, implies_true, within_refl, within_ite, pageOf_add, pageOf_add2, pageKind_portPage, Nat.reduceMul,
      Nat.reduceAdd, Nat.reduceLT, State.modPol_within, State.busyTake_within, State.vdmAskEnd_within, State.eventMsg_within, State.set_within,
      State.cableSet_within, w20, w21, w22, w23, p_boundary, p_cc, p_flue, p_msg, p_pol, p_timers, p_vdm, hW0]

theorem State.hostStore_within {s : State} {n : Port} {m : Msg} (w23 : W 0x23 = true) (p_flue : P .flue = true) (hW0 : Within W P s0 s) : Within W P
    s0 (State.hostStore s n m) := by
  unfold State.hostStore
  try dsimp only
  simp (maxDischargeDepth := 60) only [and_self, implies_true, within_refl, within_ite, pageOf_add, pageOf_page4, within_foldl_range,
      pageKind_portPage, Nat.reduceMul, Nat.reduceAdd, Nat.reduceLT, State.eventMsg_within, State.set_within, w23, p_flue, hW0]

theorem State.vdmRequest_within {s : State} {n : Port} {m : Msg} (w09 : W 0x09 = true) (w13 : W 0x13 = true) (w20 : W 0x20 = true) (w23 : W 0x23 =
    true) (p_draught : P .draught = true) (p_flue : P .flue = true) (p_msg : P .msg = true) (p_thn : P .thn = true) (p_timers : P .timers = true)
    (p_vdm : P .vdm = true) (hW0 : Within W P s0 s) : Within W P s0 (State.vdmRequest s n m) := by
  unfold State.vdmRequest
  try dsimp only
  (repeat' split) <;> (try simp (maxDischargeDepth := 60) only [State.vdmAnswer_within, State.modVdm_within, State.hostEntered_within,
      State.thatinExit_within, State.hostStore_within, State.start_within, w09, w13, w20, w23, p_draught, p_flue, p_msg, p_thn, p_timers, p_vdm, hW0])

theorem State.discFail_within {s : State} {n : Port} (w20 : W 0x20 = true) (w21 : W 0x21 = true) (w22 : W 0x22 = true) (w23 : W 0x23 = true)
    (p_boundary : P .boundary = true) (p_cc : P .cc = true) (p_flue : P .flue = true) (p_msg : P .msg = true) (p_pol : P .pol = true) (p_timers : P
    .timers = true) (p_vdm : P .vdm = true) (hW0 : Within W P s0 s) : Within W P s0 (State.discFail s n) := by
  unfold State.discFail
  try dsimp only
  simp (maxDischargeDepth := 60) only [pageOf_add, pageKind_portPage, Nat.reduceAdd, Nat.reduceLT, State.discEnd_within, State.eventMsg_within,
      State.set_within, State.modVdm_within, w20, w21, w22, w23, p_boundary, p_cc, p_flue, p_msg, p_pol, p_timers, p_vdm, hW0]

theorem State.askFail_within {s : State} {n : Port} {a : VdmAsk} (w20 : W 0x20 = true) (w21 : W 0x21 = true) (w22 : W 0x22 = true) (w23 : W 0x23 =
    true) (p_boundary : P .boundary = true) (p_cc : P .cc = true) (p_flue : P .flue = true) (p_msg : P .msg = true) (p_pol : P .pol = true) (p_timers
    : P .timers = true) (p_vdm : P .vdm = true) (hW0 : Within W P s0 s) : Within W P s0 (State.askFail s n a) := by
  unfold State.askFail
  try dsimp only
  simp (maxDischargeDepth := 60) only [and_self, implies_true, within_ite, pageOf_add, pageKind_portPage, Nat.reduceAdd, Nat.reduceLT,
      State.discFail_within, State.vdmAskEnd_within, State.eventMsg_within, w20, w21, w22, w23, p_boundary, p_cc, p_flue, p_msg, p_pol, p_timers,
      p_vdm, hW0]

theorem State.partnerSvidShow_within {s : State} {n : Port} {l : List Nat} (w23 : W 0x23 = true) (hW0 : Within W P s0 s) : Within W P s0
    (State.partnerSvidShow s n l) := by
  unfold State.partnerSvidShow
  try dsimp only
  simp (maxDischargeDepth := 60) only [implies_true, within_refl, pageOf_page4, within_foldl_range, pageKind_portPage, Nat.reduceMul, Nat.reduceAdd,
      Nat.reduceLT, State.set_within, w23, hW0]

theorem State.discModes_within {s : State} {n : Port} (w20 : W 0x20 = true) (w21 : W 0x21 = true) (w22 : W 0x22 = true) (w23 : W 0x23 = true)
    (p_boundary : P .boundary = true) (p_cc : P .cc = true) (p_msg : P .msg = true) (p_pol : P .pol = true) (p_timers : P .timers = true) (p_vdm : P
    .vdm = true) (hW0 : Within W P s0 s) : Within W P s0 (State.discModes s n) := by
  unfold State.discModes
  try dsimp only
  (repeat' split) <;> (try simp (maxDischargeDepth := 60) only [State.vdmNext_within, State.modVdm_within, State.discDone_within, w20, w21, w22, w23,
      p_boundary, p_cc, p_msg, p_pol, p_timers, p_vdm, hW0])

theorem State.vdmReply_within {s : State} {n : Port} {m : Msg} (w09 : W 0x09 = true) (w13 : W 0x13 = true) (w20 : W 0x20 = true) (w21 : W 0x21 = true)
    (w22 : W 0x22 = true) (w23 : W 0x23 = true) (p_boundary : P .boundary = true) (p_cc : P .cc = true) (p_draught : P .draught = true) (p_flue : P
    .flue = true) (p_msg : P .msg = true) (p_pol : P .pol = true) (p_thn : P .thn = true) (p_timers : P .timers = true) (p_vdm : P .vdm = true) (hW0 :
    Within W P s0 s) : Within W P s0 (State.vdmReply s n m) := by
  unfold State.vdmReply
  try dsimp only
  (repeat' split) <;> (try simp (maxDischargeDepth := 60) only [implies_true, within_refl, pageOf_add, pageOf_page4, within_foldl_range,
      pageKind_portPage, Nat.reduceMul, Nat.reduceAdd, Nat.reduceLT, State.busyTake_within, State.askFail_within, State.verShow_within,
      State.set_within, State.vdmNext_within, State.eventMsg_within, State.partnerSvidShow_within, State.modVdm_within, State.discModes_within,
      State.modesShow_within, State.vdmAskEnd_within, State.hostEntered_within, State.thatinEnter_within, State.thatinExit_within, w09, w13, w20, w21,
      w22, w23, p_boundary, p_cc, p_draught, p_flue, p_msg, p_pol, p_thn, p_timers, p_vdm, hW0])

theorem State.vdmTake_within {s : State} {n : Port} {m : Msg} (w09 : W 0x09 = true) (w13 : W 0x13 = true) (w20 : W 0x20 = true) (w21 : W 0x21 = true)
    (w22 : W 0x22 = true) (w23 : W 0x23 = true) (p_boundary : P .boundary = true) (p_cc : P .cc = true) (p_draught : P .draught = true) (p_flue : P
    .flue = true) (p_msg : P .msg = true) (p_pol : P .pol = true) (p_thn : P .thn = true) (p_timers : P .timers = true) (p_vdm : P .vdm = true) (hW0 :
    Within W P s0 s) : Within W P s0 (State.vdmTake s n m) := by
  unfold State.vdmTake
  try dsimp only
  (repeat' split) <;> (try simp (maxDischargeDepth := 60) only [State.cableAnswer_within, State.vdmRequest_within, State.vdmReply_within, w09, w13,
      w20, w21, w22, w23, p_boundary, p_cc, p_draught, p_flue, p_msg, p_pol, p_thn, p_timers, p_vdm, hW0])

theorem State.vdmDiscover_within {s : State} {n : Port} (w20 : W 0x20 = true) (w21 : W 0x21 = true) (w22 : W 0x22 = true) (w23 : W 0x23 = true)
    (p_boundary : P .boundary = true) (p_cc : P .cc = true) (p_flue : P .flue = true) (p_msg : P .msg = true) (p_timers : P .timers = true) (p_vdm : P
    .vdm = true) (hW0 : Within W P s0 s) : Within W P s0 (State.vdmDiscover s n) := by
  unfold State.vdmDiscover
  try dsimp only
  simp (maxDischargeDepth := 60) only [and_self, implies_true, within_ite, State.discoveryStart_within, State.vdmRefuse_within, w20, w21, w22, w23,
      p_boundary, p_cc, p_flue, p_msg, p_timers, p_vdm, hW0]

theorem State.thatinExitCmd_within {s : State} {n : Port} (w20 : W 0x20 = true) (w21 : W 0x21 = true) (w22 : W 0x22 = true) (w23 : W 0x23 = true)
    (p_boundary : P .boundary = true) (p_cc : P .cc = true) (p_flue : P .flue = true) (p_msg : P .msg = true) (p_timers : P .timers = true) (p_vdm : P
    .vdm = true) (hW0 : Within W P s0 s) : Within W P s0 (State.thatinExitCmd s n) := by
  unfold State.thatinExitCmd
  try dsimp only
  simp (maxDischargeDepth := 60) only [and_self, implies_true, within_ite, State.vdmInitiate_within, State.vdmRefuse_within, w20, w21, w22, w23,
      p_boundary, p_cc, p_flue, p_msg, p_timers, p_vdm, hW0]

theorem State.hostModeCmd_within {s : State} {n : Port} {arg : BitVec 16} {what : Nat} (w20 : W 0x20 = true) (w21 : W 0x21 = true) (w22 : W 0x22 =
    true) (w23 : W 0x23 = true) (p_boundary : P .boundary = true) (p_cc : P .cc = true) (p_flue : P .flue = true) (p_msg : P .msg = true) (p_timers :
    P .timers = true) (p_vdm : P .vdm = true) (hW0 : Within W P s0 s) : Within W P s0 (State.hostModeCmd s n arg what) := by
  unfold State.hostModeCmd
  try dsimp only
  (repeat' split) <;> (try simp (maxDischargeDepth := 60) only [State.vdmInitiate_within, State.vdmRefuse_within, w20, w21, w22, w23, p_boundary,
      p_cc, p_flue, p_msg, p_timers, p_vdm, hW0])

theorem State.vdmTimeout_within {s : State} {n : Port} (w20 : W 0x20 = true) (w21 : W 0x21 = true) (w22 : W 0x22 = true) (w23 : W 0x23 = true)
    (p_boundary : P .boundary = true) (p_cc : P .cc = true) (p_flue : P .flue = true) (p_msg : P .msg = true) (p_pol : P .pol = true) (p_timers : P
    .timers = true) (p_vdm : P .vdm = true) (hW0 : Within W P s0 s) : Within W P s0 (State.vdmTimeout s n) := by
  unfold State.vdmTimeout
  try dsimp only
  (repeat' split) <;> (try simp (maxDischargeDepth := 60) only [State.askFail_within, w20, w21, w22, w23, p_boundary, p_cc, p_flue, p_msg, p_pol,
      p_timers, p_vdm, hW0])

theorem State.askWaits_within {s : State} {n : Port} {a : VdmAsk} (w20 : W 0x20 = true) (w21 : W 0x21 = true) (w22 : W 0x22 = true) (p_boundary : P
    .boundary = true) (p_cc : P .cc = true) (p_timers : P .timers = true) (p_vdm : P .vdm = true) (hW0 : Within W P s0 s) : Within W P s0
    (State.askWaits s n a) := by
  unfold State.askWaits
  try dsimp only
  simp (maxDischargeDepth := 60) only [State.amsStop_within, State.modVdm_within, w20, w21, w22, p_boundary, p_cc, p_timers, p_vdm, hW0]

theorem State.vdmBusyRetry_within {s : State} {n : Port} (w20 : W 0x20 = true) (w21 : W 0x21 = true) (w22 : W 0x22 = true) (p_boundary : P .boundary =
    true) (p_cc : P .cc = true) (p_msg : P .msg = true) (p_timers : P .timers = true) (p_vdm : P .vdm = true) (hW0 : Within W P s0 s) : Within W P s0
    (State.vdmBusyRetry s n) := by
  unfold State.vdmBusyRetry
  try dsimp only
  (repeat' split) <;> (try simp (maxDischargeDepth := 60) only [State.modVdm_within, State.stop_within, State.askWaits_within, State.handover_within,
      w20, w21, w22, p_boundary, p_cc, p_msg, p_timers, p_vdm, hW0])

theorem State.proposeTracking_within {s : State} {n : Port} (w23 : W 0x23 = true) (p_flue : P .flue = true) (p_thn : P .thn = true) (hW0 : Within W P
    s0 s) : Within W P s0 (State.proposeTracking s n) := by
  unfold State.proposeTracking
  try dsimp only
  simp (maxDischargeDepth := 60) only [and_self, implies_true, within_ite, State.modThn_within, State.vdmRefuse_within, w23, p_flue, p_thn, hW0]

/-! ### Idn -/

theorem State.authSend_within {s : State} {n : Port} {epoch : Nat} {l : List Byte} (p_msg : P .msg = true) (hW0 : Within W P s0 s) : Within W P s0
    (State.authSend s n epoch l) := by
  unfold State.authSend
  try dsimp only
  simp (maxDischargeDepth := 60) only [State.handoverAt_within, p_msg, hW0]

theorem State.challengeSigned_within {s : State} {h : Hth} (w07 : W 0x07 = true) (p_auth : P .auth = true) (p_flue : P .flue = true) (p_fresh : P
    .fresh = true) (p_msg : P .msg = true) (hW0 : Within W P s0 s) : Within W P s0 (State.challengeSigned s h) := by
  unfold State.challengeSigned
  try dsimp only
  (repeat' split) <;> (try simp (maxDischargeDepth := 60) only [and_true, pageOf_lit, pageKind_lit, Nat.reduceDiv, Nat.reduceLeDiff, Nat.reduceAdd,
      Nat.reduceMod, if_false, State.authNext_within, State.authSend_within, State.authDrop_within, State.event_within, State.bumpSat_within, w07,
      p_auth, p_flue, p_fresh, p_msg, hW0])

theorem State.idnRefused_within {s : State} (w07 : W 0x07 = true) (p_flue : P .flue = true) (hW0 : Within W P s0 s) : Within W P s0 (State.idnRefused
    s) := by
  unfold State.idnRefused
  try dsimp only
  simp (maxDischargeDepth := 60) only [and_true, pageOf_lit, pageKind_lit, Nat.reduceDiv, Nat.reduceLeDiff, Nat.reduceAdd, Nat.reduceMod, if_false,
      State.eventWindow_within, w07, p_flue, hW0]

theorem State.modHearths_within {s : State} {hs : List Hth} {f : Hearth → Hearth} (p_hA : P .hA = true) (p_hB : P .hB = true) (hW0 : Within W P s0 s)
    : Within W P s0 (State.modHearths s hs f) := by
  unfold State.modHearths
  try dsimp only
  simp (maxDischargeDepth := 60) only [implies_true, within_refl, within_foldl, State.putHearth_within, p_hA, p_hB, hW0]

theorem State.digestStart_within {s : State} {hs : List Hth} (w07 : W 0x07 = true) (hW0 : Within W P s0 s) : Within W P s0 (State.digestStart s hs) :=
    by
  unfold State.digestStart
  try dsimp only
  simp (maxDischargeDepth := 60) only [and_true, pageOf_lit, pageKind_lit, Nat.reduceDiv, Nat.reduceLeDiff, Nat.reduceAdd, Nat.reduceMod, if_false,
      State.setIn_within, w07, hW0]

theorem State.chainLenShow_within {s : State} (w07 : W 0x07 = true) (hW0 : Within W P s0 s) : Within W P s0 (State.chainLenShow s) := by
  unfold State.chainLenShow
  try dsimp only
  simp (maxDischargeDepth := 60) only [and_true, implies_true, within_refl, pageOf_lit, pageKind_lit, within_foldl, Nat.reduceDiv, Nat.reduceLeDiff,
      Nat.reduceAdd, Nat.reduceMod, if_false, State.setIn_within, w07, hW0]

theorem State.idnCommit_within {s : State} (w07 : W 0x07 = true) (p_flue : P .flue = true) (p_hA : P .hA = true) (p_hB : P .hB = true) (hW0 : Within W
    P s0 s) : Within W P s0 (State.idnCommit s) := by
  unfold State.idnCommit
  try dsimp only
  simp (maxDischargeDepth := 60) only [and_self, and_true, implies_true, within_ite, pageOf_lit, pageKind_lit, Nat.reduceDiv, Nat.reduceLeDiff,
      Nat.reduceAdd, Nat.reduceMod, if_false, State.idnRefused_within, State.set_within, State.modHearths_within, State.eventHost_within,
      State.digestStart_within, State.chainLenShow_within, w07, p_flue, p_hA, p_hB, hW0]

theorem State.idnKeyed_within {s : State} {f : State → Bool → State} (hf : ∀ t k, Within W P t (f t k)) (w07 : W 0x07 = true)
    (hW0 : Within W P s0 s) : Within W P s0 (s.idnKeyed f) :=
  (State.set_within _ _ w07 hW0).trans (hf _ _)

theorem execIdnCommit_within {s : State} (w07 : W 0x07 = true) (p_flue : P .flue = true) (p_hA : P .hA = true) (p_hB : P .hB = true) {t : State} (e :
    execIdnCommit s = .next t) : Within W P s t := by
  unfold execIdnCommit at e
  try dsimp only at e
  cases e
  simp (maxDischargeDepth := 60) only [implies_true, within_refl, State.answered_within, State.idnKeyed_within, State.idnCommit_within, w07, p_flue,
      p_hA, p_hB]

theorem State.authFail_within {s : State} {n : Port} {epoch : Nat} {code : Nat} (w07 : W 0x07 = true) (p_flue : P .flue = true) (p_msg : P .msg =
    true) (hW0 : Within W P s0 s) : Within W P s0 (State.authFail s n epoch code) := by
  unfold State.authFail
  try dsimp only
  simp (maxDischargeDepth := 60) only [State.authSend_within, State.authError_within, w07, p_flue, p_msg, hW0]

theorem State.authRequest_within {s : State} {n : Port} {epoch : Nat} {l : List Byte} (w07 : W 0x07 = true) (p_auth : P .auth = true) (p_flue : P
    .flue = true) (p_fresh : P .fresh = true) (p_msg : P .msg = true) (hW0 : Within W P s0 s) : Within W P s0 (State.authRequest s n epoch l) := by
  unfold State.authRequest
  try dsimp only
  (repeat' split) <;> (try simp (maxDischargeDepth := 60) only [and_true, within_mk, pageOf_lit, pageKind_lit, Nat.reduceDiv, Nat.reduceLeDiff,
      Nat.reduceAdd, Nat.reduceMod, if_false, true_or, or_true, State.authFail_within, State.authSend_within, State.authNext_within,
      State.setBit_within, w07, p_auth, p_flue, p_fresh, p_msg, hW0])

theorem State.idnLoadBegin_within {s : State} {key : Bool} (w07 : W 0x07 = true) (p_flue : P .flue = true) (p_hA : P .hA = true) (p_hB : P .hB = true)
    (hW0 : Within W P s0 s) : Within W P s0 (State.idnLoadBegin s key) := by
  unfold State.idnLoadBegin
  try dsimp only
  simp (maxDischargeDepth := 60) only [and_self, and_true, implies_true, within_ite, pageOf_lit, pageKind_lit, Nat.reduceDiv, Nat.reduceLeDiff,
      Nat.reduceAdd, Nat.reduceMod, if_false, State.idnRefused_within, State.modHearths_within, State.set_within, w07, p_flue, p_hA, p_hB, hW0]

theorem execIdnLoadBegin_within {s : State} (w07 : W 0x07 = true) (p_flue : P .flue = true) (p_hA : P .hA = true) (p_hB : P .hB = true) {t : State} (e
    : execIdnLoadBegin s = .next t) : Within W P s t := by
  unfold execIdnLoadBegin at e
  try dsimp only at e
  cases e
  simp (maxDischargeDepth := 60) only [implies_true, within_refl, State.answered_within, State.idnKeyed_within, State.idnLoadBegin_within, w07,
      p_flue, p_hA, p_hB]

theorem State.authTake_within {s : State} {n : Port} {m : Msg} (w07 : W 0x07 = true) (p_auth : P .auth = true) (p_flue : P .flue = true) (p_fresh : P
    .fresh = true) (p_msg : P .msg = true) (hW0 : Within W P s0 s) : Within W P s0 (State.authTake s n m) := by
  unfold State.authTake
  try dsimp only
  simp (maxDischargeDepth := 60) only [and_self, implies_true, within_ite, State.authError_within, State.authDrop_within, State.authRequest_within,
      w07, p_auth, p_flue, p_fresh, p_msg, hW0]

theorem State.keyCheckIn_within {s : State} {hs : List Hth} (w07 : W 0x07 = true) (p_flue : P .flue = true) (p_otp : P .otp = true) (hW0 : Within W P
    s0 s) : Within W P s0 (State.keyCheckIn s hs) := by
  unfold State.keyCheckIn
  try dsimp only
  simp (maxDischargeDepth := 60) only [and_self, and_true, implies_true, within_ite, within_mk, pageOf_lit, pageKind_lit, Nat.reduceDiv,
      Nat.reduceLeDiff, Nat.reduceAdd, Nat.reduceMod, if_false, true_or, or_true, State.setIn_within, State.eventIn_within, w07, p_flue, p_otp, hW0]

theorem State.digestDone_within {s : State} {h : Hth} (w07 : W 0x07 = true) (p_hA : P .hA = true) (p_hB : P .hB = true) (hW0 : Within W P s0 s) :
    Within W P s0 (State.digestDone s h) := by
  unfold State.digestDone
  try dsimp only
  simp (maxDischargeDepth := 60) only [and_true, implies_true, within_refl, pageOf_lit, pageKind_lit, pageOf_fin4, within_foldl_range, Nat.reduceDiv,
      Nat.reduceLeDiff, Nat.reduceMul, Nat.reduceAdd, Nat.reduceMod, Nat.reduceLT, if_false, State.putHearth_within, State.setIn_within,
      State.bumpIn_within, w07, p_hA, p_hB, hW0]

theorem execDigestComplete_within {s : State} (w07 : W 0x07 = true) (p_flue : P .flue = true) (p_hA : P .hA = true) (p_hB : P .hB = true) {t : State}
    (e : execDigestComplete s = .next t) : Within W P s t := by
  unfold execDigestComplete at e
  try dsimp only at e
  cases e
  (repeat' split) <;> simp (maxDischargeDepth := 60) only [and_true, implies_true, within_refl, pageOf_lit, pageKind_lit, Field.inHearth,
      within_foldl, Nat.reduceDiv, Nat.reduceLeDiff, Nat.reduceAdd, Nat.reduceMod, if_false, State.eventIn_within, State.digestDone_within, w07,
      p_flue, p_hA, p_hB]

theorem State.idnWindowWrite_within {s : State} {w : Word} (w07 : W 0x07 = true) (p_flue : P .flue = true) (p_hA : P .hA = true) (p_hB : P .hB = true)
    (hW0 : Within W P s0 s) : Within W P s0 (State.idnWindowWrite s w) := by
  unfold State.idnWindowWrite
  try dsimp only
  simp (maxDischargeDepth := 60) only [and_self, and_true, implies_true, within_ite, pageOf_lit, pageKind_lit, Nat.reduceDiv, Nat.reduceLeDiff,
      Nat.reduceAdd, Nat.reduceMod, if_false, State.idnRefused_within, State.set_within, State.modHearths_within, w07, p_flue, p_hA, p_hB, hW0]

theorem execIdnWindowWrite_within {word : Word} {s : State} (w07 : W 0x07 = true) (p_flue : P .flue = true) (p_hA : P .hA = true) (p_hB : P .hB =
    true) {t : State} (e : execIdnWindowWrite word s = .next t) : Within W P s t := by
  unfold execIdnWindowWrite at e
  try dsimp only at e
  cases e
  simp (maxDischargeDepth := 60) only [implies_true, within_refl, State.answered_within, State.idnWindowWrite_within, w07, p_flue, p_hA, p_hB]

theorem State.keyCheck_within {s : State} (w07 : W 0x07 = true) (p_flue : P .flue = true) (p_otp : P .otp = true) (hW0 : Within W P s0 s) : Within W P
    s0 (State.keyCheck s) := by
  unfold State.keyCheck
  try dsimp only
  simp (maxDischargeDepth := 60) only [State.keyCheckIn_within, w07, p_flue, p_otp, hW0]

theorem State.idnAbort_within {s : State} (w07 : W 0x07 = true) (p_hA : P .hA = true) (p_hB : P .hB = true) (hW0 : Within W P s0 s) : Within W P s0
    (State.idnAbort s) := by
  unfold State.idnAbort
  try dsimp only
  simp (maxDischargeDepth := 60) only [and_self, and_true, implies_true, within_ite, pageOf_lit, pageKind_lit, Nat.reduceDiv, Nat.reduceLeDiff,
      Nat.reduceAdd, Nat.reduceMod, if_false, State.chainLenShow_within, State.modHearths_within, State.set_within, w07, p_hA, p_hB, hW0]

theorem execIdnAbort_within {s : State} (w07 : W 0x07 = true) (p_hA : P .hA = true) (p_hB : P .hB = true) {t : State} (e : execIdnAbort s = .next t) :
    Within W P s t := by
  unfold execIdnAbort at e
  try dsimp only at e
  cases e
  simp (maxDischargeDepth := 60) only [implies_true, within_refl, State.answered_within, State.idnKeyed_within, State.idnAbort_within, w07, p_hA,
      p_hB]

theorem execChallengeSigned_within {h : Hth} {s : State} (w07 : W 0x07 = true) (p_auth : P .auth = true) (p_flue : P .flue = true) (p_fresh : P .fresh
    = true) (p_msg : P .msg = true) {t : State} (e : execChallengeSigned h s = .next t) : Within W P s t := by
  unfold execChallengeSigned at e
  try dsimp only at e
  cases e
  simp (maxDischargeDepth := 60) only [within_refl, State.challengeSigned_within, w07, p_auth, p_flue, p_fresh, p_msg]

theorem State.certLenWrite_within {s : State} {k : Fin 2} {v : Word} (w07 : W 0x07 = true) (p_hA : P .hA = true) (p_hB : P .hB = true)
    (hW0 : Within W P s0 s) : Within W P s0 (s.certLenWrite k v) := by
  have a : Within W P s0 (s.set (F.IDN_CERT_LEN_len k.val) (bitsGet v 0 12)) :=
    State.set_within _ _ (page_range 0x07 (by dsimp only; omega) (by dsimp only; omega) w07) hW0
  unfold State.certLenWrite
  dsimp only
  split
  · exact State.chainLenShow_within w07 (State.modHearths_within p_hA p_hB a)
  · exact a

/-! ### LexCmd -/

theorem State.showLoad_within {s : State} (w22 : W 0x22 = true) (hW0 : Within W P s0 s) : Within W P s0 (State.showLoad s) := by
  unfold State.showLoad
  try dsimp only
  simp (maxDischargeDepth := 60) only [implies_true, within_refl, pageOf_add, Field.inHearth, pageKind_portPage, Nat.reduceAdd, Nat.reduceLT,
      State.allPorts_within, State.setB_within, w22, hW0]

theorem State.phbActivatePort_within {s : State} {n : Port} (w09 : W 0x09 = true) (w13 : W 0x13 = true) (w20 : W 0x20 = true) (w21 : W 0x21 = true)
    (w22 : W 0x22 = true) (w23 : W 0x23 = true) (p_boundary : P .boundary = true) (p_cc : P .cc = true) (p_draught : P .draught = true) (p_flue : P
    .flue = true) (p_msg : P .msg = true) (p_thn : P .thn = true) (p_timers : P .timers = true) (p_vdm : P .vdm = true) (hW0 : Within W P s0 s) :
    Within W P s0 (State.phbActivatePort s n) := by
  unfold State.phbActivatePort
  try dsimp only
  simp (maxDischargeDepth := 60) only [and_self, implies_true, within_ite, State.vdmInitiate_within, State.thatinExit_within, State.vdmDrain_within,
      w09, w13, w20, w21, w22, w23, p_boundary, p_cc, p_draught, p_flue, p_msg, p_thn, p_timers, p_vdm, hW0]

theorem State.lexActivatePort_within {s : State} {n : Port} (w0F : W 0x0F = true) (w20 : W 0x20 = true) (w21 : W 0x21 = true) (w22 : W 0x22 = true)
    (w23 : W 0x23 = true) (p_boundary : P .boundary = true) (p_cc : P .cc = true) (p_flue : P .flue = true) (p_hA : P .hA = true) (p_hB : P .hB =
    true) (p_msg : P .msg = true) (p_pol : P .pol = true) (p_timers : P .timers = true) (p_vdm : P .vdm = true) (hW0 : Within W P s0 s) : Within W P
    s0 (State.lexActivatePort s n) := by
  unfold State.lexActivatePort
  try dsimp only
  simp (maxDischargeDepth := 60) only [and_self, implies_true, within_ite, State.point0_within, State.draft_within, w0F, w20, w21, w22, w23,
      p_boundary, p_cc, p_flue, p_hA, p_hB, p_msg, p_pol, p_timers, p_vdm, hW0]

theorem State.tabPorts_within {s : State} {phb : Bool} {hs : List Hth} (w09 : W 0x09 = true) (w0F : W 0x0F = true) (w13 : W 0x13 = true) (w20 : W 0x20
    = true) (w21 : W 0x21 = true) (w22 : W 0x22 = true) (w23 : W 0x23 = true) (p_boundary : P .boundary = true) (p_cc : P .cc = true) (p_draught : P
    .draught = true) (p_flue : P .flue = true) (p_hA : P .hA = true) (p_hB : P .hB = true) (p_msg : P .msg = true) (p_pol : P .pol = true) (p_thn : P
    .thn = true) (p_timers : P .timers = true) (p_vdm : P .vdm = true) (hW0 : Within W P s0 s) : Within W P s0 (State.tabPorts s phb hs) := by
  unfold State.tabPorts
  try dsimp only
  simp (maxDischargeDepth := 60) only [and_self, implies_true, within_refl, within_ite, State.allPorts_within, State.showLoad_within,
      State.phbActivatePort_within, State.lexActivatePort_within, w09, w0F, w13, w20, w21, w22, w23, p_boundary, p_cc, p_draught, p_flue, p_hA, p_hB,
      p_msg, p_pol, p_thn, p_timers, p_vdm, hW0]

theorem State.hostSvidsMove_within {s : State} {hs : List Hth} (w23 : W 0x23 = true) (p_flue : P .flue = true) (hW0 : Within W P s0 s) : Within W P s0
    (State.hostSvidsMove s hs) := by
  unfold State.hostSvidsMove
  try dsimp only
  simp (maxDischargeDepth := 60) only [and_self, implies_true, within_refl, within_ite, pageOf_add, within_foldl, pageKind_portPage, Nat.reduceAdd,
      Nat.reduceLT, State.allPorts_within, State.eventIn_within, State.hostSvidShow_within, w23, p_flue, hW0]

theorem State.tabInstall_within {s : State} {phb : Bool} {hs : List Hth} {l : List (Nat × Entry64)} {src : Nat} {count : Nat} {hdr : List Word} (w10 :
    W 0x10 = true) (w11 : W 0x11 = true) (w23 : W 0x23 = true) (p_flue : P .flue = true) (p_hA : P .hA = true) (p_hB : P .hB = true) (hW0 : Within W P
    s0 s) : Within W P s0 (State.tabInstall s phb hs l src count hdr) := by
  unfold State.tabInstall
  try dsimp only
  (repeat' split) <;> (try simp (maxDischargeDepth := 60) only [tabField, tabState]) <;> (repeat' split) <;> simp (maxDischargeDepth := 60) only
      [and_true, implies_true, within_refl, pageOf_lit, pageKind_lit, pageOf_fin4, within_foldl_range, Nat.reduceDiv, Nat.reduceLeDiff, Nat.reduceMul,
      Nat.reduceAdd, Nat.reduceMod, Nat.reduceLT, if_false, State.modHearths_within, State.setIn_within, State.bumpIn_within,
      State.hostSvidsMove_within, w10, w11, w23, p_flue, p_hA, p_hB, hW0]

theorem State.seedLoad_within {s : State} {phb : Bool} {hs : List Hth} (w10 : W 0x10 = true) (w11 : W 0x11 = true) (w23 : W 0x23 = true) (p_flue : P
    .flue = true) (p_hA : P .hA = true) (p_hB : P .hB = true) (hW0 : Within W P s0 s) : Within W P s0 (State.seedLoad s phb hs) := by
  unfold State.seedLoad
  try dsimp only
  (repeat' split) <;> (try simp (maxDischargeDepth := 60) only [tabField]) <;> (repeat' split) <;> simp (maxDischargeDepth := 60) only [and_true,
      pageOf_lit, pageKind_lit, Nat.reduceDiv, Nat.reduceLeDiff, Nat.reduceAdd, Nat.reduceMod, if_false, State.eventIn_within,
      State.tabInstall_within, State.setIn_within, w10, w11, w23, p_flue, p_hA, p_hB, hW0]

theorem State.tabToSeed_within {s : State} {phb : Bool} (w09 : W 0x09 = true) (w0F : W 0x0F = true) (w10 : W 0x10 = true) (w11 : W 0x11 = true) (w13 :
    W 0x13 = true) (w20 : W 0x20 = true) (w21 : W 0x21 = true) (w22 : W 0x22 = true) (w23 : W 0x23 = true) (p_boundary : P .boundary = true) (p_cc : P
    .cc = true) (p_draught : P .draught = true) (p_flue : P .flue = true) (p_hA : P .hA = true) (p_hB : P .hB = true) (p_msg : P .msg = true) (p_pol :
    P .pol = true) (p_thn : P .thn = true) (p_timers : P .timers = true) (p_vdm : P .vdm = true) (hW0 : Within W P s0 s) : Within W P s0
    (State.tabToSeed s phb) := by
  unfold State.tabToSeed
  try dsimp only
  simp (maxDischargeDepth := 60) only [State.tabPorts_within, State.seedLoad_within, w09, w0F, w10, w11, w13, w20, w21, w22, w23, p_boundary, p_cc,
      p_draught, p_flue, p_hA, p_hB, p_msg, p_pol, p_thn, p_timers, p_vdm, hW0]

theorem State.tabChecked_within {s : State} {phb : Bool} (w09 : W 0x09 = true) (w0F : W 0x0F = true) (w10 : W 0x10 = true) (w11 : W 0x11 = true) (w13
    : W 0x13 = true) (w20 : W 0x20 = true) (w21 : W 0x21 = true) (w22 : W 0x22 = true) (w23 : W 0x23 = true) (p_boundary : P .boundary = true) (p_cc :
    P .cc = true) (p_draught : P .draught = true) (p_flue : P .flue = true) (p_hA : P .hA = true) (p_hB : P .hB = true) (p_msg : P .msg = true) (p_pol
    : P .pol = true) (p_thn : P .thn = true) (p_timers : P .timers = true) (p_vdm : P .vdm = true) (hW0 : Within W P s0 s) : Within W P s0
    (State.tabChecked s phb) := by
  unfold State.tabChecked
  try dsimp only
  (repeat' split) <;> (try simp (maxDischargeDepth := 60) only [tabField, hW0]) <;> (repeat' split) <;> simp (maxDischargeDepth := 60) only [and_true,
      pageOf_lit, pageKind_lit, Nat.reduceDiv, Nat.reduceLeDiff, Nat.reduceAdd, Nat.reduceMod, if_false, State.tabToSeed_within,
      State.eventHost_within, State.set_within, State.tabInstall_within, State.tabPorts_within, w09, w0F, w10, w11, w13, w20, w21, w22, w23,
      p_boundary, p_cc, p_draught, p_flue, p_hA, p_hB, p_msg, p_pol, p_thn, p_timers, p_vdm, hW0]

theorem State.tabKeyed_within {s : State} {phb : Bool} {f : State → Bool → State} (hf : ∀ t k, Within W P t (f t k))
    (w10 : W 0x10 = true) (w11 : W 0x11 = true) (hW0 : Within W P s0 s) : Within W P s0 (s.tabKeyed phb f) := by
  cases phb
  · exact (State.set_within _ _ w10 hW0).trans (hf _ _)
  · exact (State.set_within _ _ w11 hW0).trans (hf _ _)

theorem State.tabRefused_within {s : State} {phb : Bool} (w10 : W 0x10 = true) (w11 : W 0x11 = true) (p_flue : P .flue = true) (hW0 : Within W P s0 s)
    : Within W P s0 (State.tabRefused s phb) := by
  unfold State.tabRefused
  try dsimp only
  (repeat' split) <;> (try simp (maxDischargeDepth := 60) only [tabField]) <;> (repeat' split) <;> simp (maxDischargeDepth := 60) only [and_true,
      pageOf_lit, pageKind_lit, Nat.reduceDiv, Nat.reduceLeDiff, Nat.reduceAdd, Nat.reduceMod, if_false, State.eventWindow_within, w10, w11, p_flue,
      hW0]

theorem State.sinkOpsKeep_within {s : State} (p_pol : P .pol = true) (hW0 : Within W P s0 s) : Within W P s0 (State.sinkOpsKeep s) := by
  unfold State.sinkOpsKeep
  try dsimp only
  simp (maxDischargeDepth := 60) only [implies_true, within_refl, State.allPorts_within, State.modPol_within, p_pol, hW0]

theorem State.tabBegin_within {s : State} {phb : Bool} {key : Bool} (w10 : W 0x10 = true) (w11 : W 0x11 = true) (w22 : W 0x22 = true) (p_flue : P
    .flue = true) (p_pol : P .pol = true) (hW0 : Within W P s0 s) : Within W P s0 (State.tabBegin s phb key) := by
  unfold State.tabBegin
  try dsimp only
  (repeat' split) <;> (try simp (maxDischargeDepth := 60) only [tabField, tabState, State.tabRefused_within, w10, w11, p_flue, hW0]) <;> (repeat'
      split) <;> simp (maxDischargeDepth := 60) only [and_true, pageOf_lit, pageKind_lit, Nat.reduceDiv, Nat.reduceLeDiff, Nat.reduceAdd,
      Nat.reduceMod, if_false, State.set_within, State.sinkOpsKeep_within, State.showLoad_within, w10, w11, w22, p_pol, hW0]

theorem State.tabRead_within {s : State} {phb : Bool} (w10 : W 0x10 = true) (w11 : W 0x11 = true) (p_pins : P .pins = true) (hW0 : Within W P s0 s) :
    Within W P s0 (State.tabRead s phb) := by
  unfold State.tabRead
  try dsimp only
  (repeat' split) <;> (try simp (maxDischargeDepth := 60) only [tabField, tabWin]) <;> (repeat' split) <;> simp (maxDischargeDepth := 60) only
      [and_true, pageOf_lit, pageKind_lit, Nat.reduceDiv, Nat.reduceLeDiff, Nat.reduceAdd, Nat.reduceMod, if_false, State.set_within,
      State.returnBytes_within, w10, w11, p_pins, hW0]

theorem execLexWindowRead_within {s : State} (w10 : W 0x10 = true) (w11 : W 0x11 = true) (p_pins : P .pins = true) {t : State} (e : execLexWindowRead
    s = .next t) : Within W P s t := by
  unfold execLexWindowRead at e
  try dsimp only at e
  cases e
  simp (maxDischargeDepth := 60) only [implies_true, within_refl, State.answered_within, State.tabRead_within, w10, w11, p_pins]

theorem State.tabRevert_within {s : State} {phb : Bool} {key : Bool} (w09 : W 0x09 = true) (w0F : W 0x0F = true) (w10 : W 0x10 = true) (w11 : W 0x11 =
    true) (w13 : W 0x13 = true) (w20 : W 0x20 = true) (w21 : W 0x21 = true) (w22 : W 0x22 = true) (w23 : W 0x23 = true) (p_boundary : P .boundary =
    true) (p_cc : P .cc = true) (p_draught : P .draught = true) (p_flue : P .flue = true) (p_hA : P .hA = true) (p_hB : P .hB = true) (p_msg : P .msg
    = true) (p_pol : P .pol = true) (p_thn : P .thn = true) (p_timers : P .timers = true) (p_vdm : P .vdm = true) (hW0 : Within W P s0 s) : Within W P
    s0 (State.tabRevert s phb key) := by
  unfold State.tabRevert
  try dsimp only
  simp (maxDischargeDepth := 60) only [and_self, implies_true, within_ite, State.tabToSeed_within, State.tabRefused_within, w09, w0F, w10, w11, w13,
      w20, w21, w22, w23, p_boundary, p_cc, p_draught, p_flue, p_hA, p_hB, p_msg, p_pol, p_thn, p_timers, p_vdm, hW0]

theorem execLexLoadBegin_within {s : State} (w10 : W 0x10 = true) (w11 : W 0x11 = true) (w22 : W 0x22 = true) (p_flue : P .flue = true) (p_pol : P
    .pol = true) {t : State} (e : execLexLoadBegin s = .next t) : Within W P s t := by
  unfold execLexLoadBegin at e
  try dsimp only at e
  cases e
  simp (maxDischargeDepth := 60) only [implies_true, within_refl, State.answered_within, State.tabKeyed_within, State.tabBegin_within, w10, w11, w22,
      p_flue, p_pol]

theorem State.tabWrite_within {s : State} {phb : Bool} {e : Entry64} (w10 : W 0x10 = true) (w11 : W 0x11 = true) (p_flue : P .flue = true) (p_hA : P
    .hA = true) (p_hB : P .hB = true) (hW0 : Within W P s0 s) : Within W P s0 (State.tabWrite s phb e) := by
  unfold State.tabWrite
  try dsimp only
  (repeat' split) <;> (try simp (maxDischargeDepth := 60) only [tabField, tabWin, State.tabRefused_within, w10, w11, p_flue, hW0]) <;> (repeat' split)
      <;> simp (maxDischargeDepth := 60) only [and_true, pageOf_lit, pageKind_lit, Nat.reduceDiv, Nat.reduceLeDiff, Nat.reduceAdd, Nat.reduceMod,
      if_false, State.set_within, State.modHearths_within, w10, w11, p_hA, p_hB, hW0]

theorem execPhbWindowWrite_within {entry : Entry64} {s : State} (w10 : W 0x10 = true) (w11 : W 0x11 = true) (p_flue : P .flue = true) (p_hA : P .hA =
    true) (p_hB : P .hB = true) {t : State} (e : execPhbWindowWrite entry s = .next t) : Within W P s t := by
  unfold execPhbWindowWrite at e
  try dsimp only at e
  cases e
  simp (maxDischargeDepth := 60) only [implies_true, within_refl, State.answered_within, State.tabWrite_within, w10, w11, p_flue, p_hA, p_hB]

theorem execPhbLoadBegin_within {s : State} (w10 : W 0x10 = true) (w11 : W 0x11 = true) (w22 : W 0x22 = true) (p_flue : P .flue = true) (p_pol : P
    .pol = true) {t : State} (e : execPhbLoadBegin s = .next t) : Within W P s t := by
  unfold execPhbLoadBegin at e
  try dsimp only at e
  cases e
  simp (maxDischargeDepth := 60) only [implies_true, within_refl, State.answered_within, State.tabKeyed_within, State.tabBegin_within, w10, w11, w22,
      p_flue, p_pol]

theorem State.loadSeeds_within {s : State} {hs : List Hth} (w07 : W 0x07 = true) (w10 : W 0x10 = true) (w11 : W 0x11 = true) (w23 : W 0x23 = true)
    (p_flue : P .flue = true) (p_hA : P .hA = true) (p_hB : P .hB = true) (hW0 : Within W P s0 s) : Within W P s0 (State.loadSeeds s hs) := by
  unfold State.loadSeeds
  try dsimp only
  simp (maxDischargeDepth := 60) only [State.digestStart_within, State.seedLoad_within, w07, w10, w11, w23, p_flue, p_hA, p_hB, hW0]

theorem State.tabAbort_within {s : State} {phb : Bool} (w09 : W 0x09 = true) (w0F : W 0x0F = true) (w10 : W 0x10 = true) (w11 : W 0x11 = true) (w13 :
    W 0x13 = true) (w20 : W 0x20 = true) (w21 : W 0x21 = true) (w22 : W 0x22 = true) (w23 : W 0x23 = true) (p_boundary : P .boundary = true) (p_cc : P
    .cc = true) (p_draught : P .draught = true) (p_flue : P .flue = true) (p_hA : P .hA = true) (p_hB : P .hB = true) (p_msg : P .msg = true) (p_pol :
    P .pol = true) (p_thn : P .thn = true) (p_timers : P .timers = true) (p_vdm : P .vdm = true) (hW0 : Within W P s0 s) : Within W P s0
    (State.tabAbort s phb) := by
  unfold State.tabAbort
  try dsimp only
  (repeat' split) <;> (try simp (maxDischargeDepth := 60) only [State.tabToSeed_within, w09, w0F, w10, w11, w13, w20, w21, w22, w23, p_boundary, p_cc,
      p_draught, p_flue, p_hA, p_hB, p_msg, p_pol, p_thn, p_timers, p_vdm, hW0])

theorem execLexAbort_within {s : State} (w09 : W 0x09 = true) (w0F : W 0x0F = true) (w10 : W 0x10 = true) (w11 : W 0x11 = true) (w13 : W 0x13 = true)
    (w20 : W 0x20 = true) (w21 : W 0x21 = true) (w22 : W 0x22 = true) (w23 : W 0x23 = true) (p_boundary : P .boundary = true) (p_cc : P .cc = true)
    (p_draught : P .draught = true) (p_flue : P .flue = true) (p_hA : P .hA = true) (p_hB : P .hB = true) (p_msg : P .msg = true) (p_pol : P .pol =
    true) (p_thn : P .thn = true) (p_timers : P .timers = true) (p_vdm : P .vdm = true) {t : State} (e : execLexAbort s = .next t) : Within W P s t :=
    by
  unfold execLexAbort at e
  try dsimp only at e
  cases e
  simp (maxDischargeDepth := 60) only [implies_true, within_refl, State.answered_within, State.tabKeyed_within, State.tabAbort_within, w09, w0F, w10,
      w11, w13, w20, w21, w22, w23, p_boundary, p_cc, p_draught, p_flue, p_hA, p_hB, p_msg, p_pol, p_thn, p_timers, p_vdm]

theorem execPhbRevertSeed_within {s : State} (w09 : W 0x09 = true) (w0F : W 0x0F = true) (w10 : W 0x10 = true) (w11 : W 0x11 = true) (w13 : W 0x13 =
    true) (w20 : W 0x20 = true) (w21 : W 0x21 = true) (w22 : W 0x22 = true) (w23 : W 0x23 = true) (p_boundary : P .boundary = true) (p_cc : P .cc =
    true) (p_draught : P .draught = true) (p_flue : P .flue = true) (p_hA : P .hA = true) (p_hB : P .hB = true) (p_msg : P .msg = true) (p_pol : P
    .pol = true) (p_thn : P .thn = true) (p_timers : P .timers = true) (p_vdm : P .vdm = true) {t : State} (e : execPhbRevertSeed s = .next t) :
    Within W P s t := by
  unfold execPhbRevertSeed at e
  try dsimp only at e
  cases e
  simp (maxDischargeDepth := 60) only [implies_true, within_refl, State.answered_within, State.tabKeyed_within, State.tabRevert_within, w09, w0F, w10,
      w11, w13, w20, w21, w22, w23, p_boundary, p_cc, p_draught, p_flue, p_hA, p_hB, p_msg, p_pol, p_thn, p_timers, p_vdm]

theorem State.tabCommit_within {s : State} {phb : Bool} (w10 : W 0x10 = true) (w11 : W 0x11 = true) (p_flue : P .flue = true) (hW0 : Within W P s0 s)
    : Within W P s0 (State.tabCommit s phb) := by
  unfold State.tabCommit
  try dsimp only
  (repeat' split) <;> (try simp (maxDischargeDepth := 60) only [tabField, tabState, State.tabRefused_within, w10, w11, p_flue, hW0]) <;> (repeat'
      split) <;> simp (maxDischargeDepth := 60) only [and_true, pageOf_lit, pageKind_lit, Nat.reduceDiv, Nat.reduceLeDiff, Nat.reduceAdd,
      Nat.reduceMod, if_false, State.set_within, w10, w11, hW0]

theorem execLexCommit_within {s : State} (w10 : W 0x10 = true) (w11 : W 0x11 = true) (p_flue : P .flue = true) {t : State} (e : execLexCommit s =
    .next t) : Within W P s t := by
  unfold execLexCommit at e
  try dsimp only at e
  cases e
  simp (maxDischargeDepth := 60) only [implies_true, within_refl, State.answered_within, State.tabKeyed_within, State.tabCommit_within, w10, w11,
      p_flue]

theorem execLexRevertSeed_within {s : State} (w09 : W 0x09 = true) (w0F : W 0x0F = true) (w10 : W 0x10 = true) (w11 : W 0x11 = true) (w13 : W 0x13 =
    true) (w20 : W 0x20 = true) (w21 : W 0x21 = true) (w22 : W 0x22 = true) (w23 : W 0x23 = true) (p_boundary : P .boundary = true) (p_cc : P .cc =
    true) (p_draught : P .draught = true) (p_flue : P .flue = true) (p_hA : P .hA = true) (p_hB : P .hB = true) (p_msg : P .msg = true) (p_pol : P
    .pol = true) (p_thn : P .thn = true) (p_timers : P .timers = true) (p_vdm : P .vdm = true) {t : State} (e : execLexRevertSeed s = .next t) :
    Within W P s t := by
  unfold execLexRevertSeed at e
  try dsimp only at e
  cases e
  simp (maxDischargeDepth := 60) only [implies_true, within_refl, State.answered_within, State.tabKeyed_within, State.tabRevert_within, w09, w0F, w10,
      w11, w13, w20, w21, w22, w23, p_boundary, p_cc, p_draught, p_flue, p_hA, p_hB, p_msg, p_pol, p_thn, p_timers, p_vdm]

theorem State.phbCommitNow_within {s : State} (w09 : W 0x09 = true) (w0F : W 0x0F = true) (w10 : W 0x10 = true) (w11 : W 0x11 = true) (w13 : W 0x13 =
    true) (w20 : W 0x20 = true) (w21 : W 0x21 = true) (w22 : W 0x22 = true) (w23 : W 0x23 = true) (p_boundary : P .boundary = true) (p_cc : P .cc =
    true) (p_draught : P .draught = true) (p_flue : P .flue = true) (p_hA : P .hA = true) (p_hB : P .hB = true) (p_msg : P .msg = true) (p_pol : P
    .pol = true) (p_thn : P .thn = true) (p_timers : P .timers = true) (p_vdm : P .vdm = true) (hW0 : Within W P s0 s) : Within W P s0
    (State.phbCommitNow s) := by
  unfold State.phbCommitNow
  try dsimp only
  simp (maxDischargeDepth := 60) only [and_self, implies_true, within_ite, tabField, tabState, if_true, State.tabChecked_within,
      State.tabCommit_within, w09, w0F, w10, w11, w13, w20, w21, w22, w23, p_boundary, p_cc, p_draught, p_flue, p_hA, p_hB, p_msg, p_pol, p_thn,
      p_timers, p_vdm, hW0]

theorem execPhbCommit_within {s : State} (w09 : W 0x09 = true) (w0F : W 0x0F = true) (w10 : W 0x10 = true) (w11 : W 0x11 = true) (w13 : W 0x13 = true)
    (w20 : W 0x20 = true) (w21 : W 0x21 = true) (w22 : W 0x22 = true) (w23 : W 0x23 = true) (p_boundary : P .boundary = true) (p_cc : P .cc = true)
    (p_draught : P .draught = true) (p_flue : P .flue = true) (p_hA : P .hA = true) (p_hB : P .hB = true) (p_msg : P .msg = true) (p_pol : P .pol =
    true) (p_thn : P .thn = true) (p_timers : P .timers = true) (p_vdm : P .vdm = true) {t : State} (e : execPhbCommit s = .next t) : Within W P s t
    := by
  unfold execPhbCommit at e
  try dsimp only at e
  cases e
  simp (maxDischargeDepth := 60) only [implies_true, within_refl, State.answered_within, State.tabKeyed_within, State.phbCommitNow_within, w09, w0F,
      w10, w11, w13, w20, w21, w22, w23, p_boundary, p_cc, p_draught, p_flue, p_hA, p_hB, p_msg, p_pol, p_thn, p_timers, p_vdm]

theorem execPhbAbort_within {s : State} (w09 : W 0x09 = true) (w0F : W 0x0F = true) (w10 : W 0x10 = true) (w11 : W 0x11 = true) (w13 : W 0x13 = true)
    (w20 : W 0x20 = true) (w21 : W 0x21 = true) (w22 : W 0x22 = true) (w23 : W 0x23 = true) (p_boundary : P .boundary = true) (p_cc : P .cc = true)
    (p_draught : P .draught = true) (p_flue : P .flue = true) (p_hA : P .hA = true) (p_hB : P .hB = true) (p_msg : P .msg = true) (p_pol : P .pol =
    true) (p_thn : P .thn = true) (p_timers : P .timers = true) (p_vdm : P .vdm = true) {t : State} (e : execPhbAbort s = .next t) : Within W P s t :=
    by
  unfold execPhbAbort at e
  try dsimp only at e
  cases e
  simp (maxDischargeDepth := 60) only [implies_true, within_refl, State.answered_within, State.tabKeyed_within, State.tabAbort_within, w09, w0F, w10,
      w11, w13, w20, w21, w22, w23, p_boundary, p_cc, p_draught, p_flue, p_hA, p_hB, p_msg, p_pol, p_thn, p_timers, p_vdm]

theorem execLexWindowWrite_within {clause : Entry64} {s : State} (w10 : W 0x10 = true) (w11 : W 0x11 = true) (p_flue : P .flue = true) (p_hA : P .hA =
    true) (p_hB : P .hB = true) {t : State} (e : execLexWindowWrite clause s = .next t) : Within W P s t := by
  unfold execLexWindowWrite at e
  try dsimp only at e
  cases e
  simp (maxDischargeDepth := 60) only [implies_true, within_refl, State.answered_within, State.tabWrite_within, w10, w11, p_flue, p_hA, p_hB]

theorem execLexCheckComplete_within {s : State} (w09 : W 0x09 = true) (w0F : W 0x0F = true) (w10 : W 0x10 = true) (w11 : W 0x11 = true) (w13 : W 0x13
    = true) (w20 : W 0x20 = true) (w21 : W 0x21 = true) (w22 : W 0x22 = true) (w23 : W 0x23 = true) (p_boundary : P .boundary = true) (p_cc : P .cc =
    true) (p_draught : P .draught = true) (p_flue : P .flue = true) (p_hA : P .hA = true) (p_hB : P .hB = true) (p_msg : P .msg = true) (p_pol : P
    .pol = true) (p_thn : P .thn = true) (p_timers : P .timers = true) (p_vdm : P .vdm = true) {t : State} (e : execLexCheckComplete s = .next t) :
    Within W P s t := by
  unfold execLexCheckComplete at e
  try dsimp only at e
  cases e
  simp (maxDischargeDepth := 60) only [within_refl, State.tabChecked_within, w09, w0F, w10, w11, w13, w20, w21, w22, w23, p_boundary, p_cc, p_draught,
      p_flue, p_hA, p_hB, p_msg, p_pol, p_thn, p_timers, p_vdm]

end Sys2Proof.Machine
end

