-- ==== Sys2Proof/Laws/WithinSequence.lean ====
section
/-! SUPPORT. What each operation and command of the port sequence, the policy inputs and the message section can change at most (`Within`): the pages and parts its
hypotheses name. -/

namespace Sys2Proof.Machine
variable {W : Nat → Bool} {P : Part → Bool} {s0 : State}
set_option linter.unusedVariables false

/-! ### Sequence -/

theorem State.swapReady_within {s : State} {n : Port} (w08 : W 0x08 = true) (w13 : W 0x13 = true) (w20 : W 0x20 = true) (w21 : W 0x21 = true) (w22 : W
    0x22 = true) (w23 : W 0x23 = true) (w26 : W 0x26 = true) (p_boundary : P .boundary = true) (p_cc : P .cc = true) (p_draught : P .draught = true)
    (p_flue : P .flue = true) (p_msg : P .msg = true) (p_pol : P .pol = true) (p_timers : P .timers = true) (p_vdm : P .vdm = true) (hW0 : Within W P
    s0 s) : Within W P s0 (State.swapReady s n) := by
  unfold State.swapReady
  try dsimp only
  (repeat' split) <;> (try simp (maxDischargeDepth := 60) only [State.start_within, State.becomeSource_within, State.vcnDone_within, w08, w13, w20,
      w21, w22, w23, w26, p_boundary, p_cc, p_draught, p_flue, p_msg, p_pol, p_timers, p_vdm, hW0])

theorem State.swapAccepted_within {s : State} {n : Port} (w08 : W 0x08 = true) (w20 : W 0x20 = true) (w21 : W 0x21 = true) (w22 : W 0x22 = true) (w23
    : W 0x23 = true) (w24 : W 0x24 = true) (p_boundary : P .boundary = true) (p_cc : P .cc = true) (p_draught : P .draught = true) (p_flue : P .flue =
    true) (p_lanes : P .lanes = true) (p_lp : P .lp = true) (p_msg : P .msg = true) (p_pol : P .pol = true) (p_timers : P .timers = true) (p_vdm : P
    .vdm = true) (hW0 : Within W P s0 s) : Within W P s0 (State.swapAccepted s n) := by
  unfold State.swapAccepted
  try dsimp only
  simp (maxDischargeDepth := 60) only [and_self, implies_true, within_ite, State.prStart_within, State.drDone_within, State.vcnStart_within, w08, w20,
      w21, w22, w23, w24, p_boundary, p_cc, p_draught, p_flue, p_lanes, p_lp, p_msg, p_pol, p_timers, p_vdm, hW0]

theorem State.presentSource_within {s : State} {n : Port} (w20 : W 0x20 = true) (p_boundary : P .boundary = true) (p_cc : P .cc = true) (p_timers : P
    .timers = true) (hW0 : Within W P s0 s) : Within W P s0 (State.presentSource s n) := by
  unfold State.presentSource
  try dsimp only
  simp (maxDischargeDepth := 60) only [State.present_within, w20, p_boundary, p_cc, p_timers, hW0]

theorem State.softAcked_within {s : State} {n : Port} {m : Msg} (w04 : W 0x04 = true) (w21 : W 0x21 = true) (w23 : W 0x23 = true) (p_flue : P .flue =
    true) (p_msg : P .msg = true) (p_timers : P .timers = true) (hW0 : Within W P s0 s) : Within W P s0 (State.softAcked s n m) := by
  unfold State.softAcked
  try dsimp only
  simp (maxDischargeDepth := 60) only [and_self, implies_true, within_ite, State.dropUnder_within, State.dropQueue_within, State.idReset_within, w04,
      w21, w23, p_flue, p_msg, p_timers, hW0]

theorem State.plainDelivered_within {s : State} {n : Port} (w20 : W 0x20 = true) (w21 : W 0x21 = true) (w22 : W 0x22 = true) (w23 : W 0x23 = true)
    (p_boundary : P .boundary = true) (p_cc : P .cc = true) (p_msg : P .msg = true) (p_pol : P .pol = true) (p_timers : P .timers = true) (p_vdm : P
    .vdm = true) (hW0 : Within W P s0 s) : Within W P s0 (State.plainDelivered s n) := by
  unfold State.plainDelivered
  try dsimp only
  simp (maxDischargeDepth := 60) only [and_self, implies_true, within_ite, State.amsEnd_within, w20, w21, w22, w23, p_boundary, p_cc, p_msg, p_pol,
      p_timers, p_vdm, hW0]

theorem State.capsDelivered_within {s : State} {n : Port} {m : Msg} (w22 : W 0x22 = true) (p_flue : P .flue = true) (p_pol : P .pol = true) (p_timers
    : P .timers = true) (hW0 : Within W P s0 s) : Within W P s0 (State.capsDelivered s n m) := by
  unfold State.capsDelivered
  try dsimp only
  simp (maxDischargeDepth := 60) only [implies_true, within_refl, pageOf_add, pageOf_page4, within_foldl_range, pageKind_portPage, Nat.reduceMul,
      Nat.reduceAdd, Nat.reduceLT, State.set_within, State.modPol_within, State.start_within, State.setPd_within, State.event_within, w22, p_flue,
      p_pol, p_timers, hW0]

theorem State.eprEntered_within {s : State} {n : Port} (w20 : W 0x20 = true) (w21 : W 0x21 = true) (w22 : W 0x22 = true) (w23 : W 0x23 = true)
    (p_boundary : P .boundary = true) (p_cc : P .cc = true) (p_flue : P .flue = true) (p_msg : P .msg = true) (p_pol : P .pol = true) (p_timers : P
    .timers = true) (p_vdm : P .vdm = true) (hW0 : Within W P s0 s) : Within W P s0 (State.eprEntered s n) := by
  unfold State.eprEntered
  try dsimp only
  simp (maxDischargeDepth := 60) only [and_self, implies_true, within_ite, State.amsEnd_within, State.setEpr_within, State.stop_within,
      State.keepAliveStart_within, State.draft_within, State.start_within, w20, w21, w22, w23, p_boundary, p_cc, p_flue, p_msg, p_pol, p_timers,
      p_vdm, hW0]

theorem State.eprLeft_within {s : State} {n : Port} (w20 : W 0x20 = true) (w21 : W 0x21 = true) (w22 : W 0x22 = true) (w23 : W 0x23 = true)
    (p_boundary : P .boundary = true) (p_cc : P .cc = true) (p_flue : P .flue = true) (p_msg : P .msg = true) (p_pol : P .pol = true) (p_timers : P
    .timers = true) (p_vdm : P .vdm = true) (hW0 : Within W P s0 s) : Within W P s0 (State.eprLeft s n) := by
  unfold State.eprLeft
  try dsimp only
  simp (maxDischargeDepth := 60) only [and_self, implies_true, within_ite, State.amsEnd_within, State.stop_within, State.setEpr_within,
      State.draft_within, State.start_within, w20, w21, w22, w23, p_boundary, p_cc, p_flue, p_msg, p_pol, p_timers, p_vdm, hW0]

theorem State.deliveredFor_within {s : State} {n : Port} {m : Msg} (w08 : W 0x08 = true) (w0F : W 0x0F = true) (w13 : W 0x13 = true) (w20 : W 0x20 =
    true) (w21 : W 0x21 = true) (w22 : W 0x22 = true) (w23 : W 0x23 = true) (w24 : W 0x24 = true) (w26 : W 0x26 = true) (p_boundary : P .boundary =
    true) (p_cc : P .cc = true) (p_draught : P .draught = true) (p_flue : P .flue = true) (p_hA : P .hA = true) (p_hB : P .hB = true) (p_lanes : P
    .lanes = true) (p_lp : P .lp = true) (p_msg : P .msg = true) (p_pol : P .pol = true) (p_thn : P .thn = true) (p_timers : P .timers = true) (p_vdm
    : P .vdm = true) (hW0 : Within W P s0 s) : Within W P s0 (State.deliveredFor s n m) := by
  unfold State.deliveredFor
  try dsimp only
  (repeat' split) <;> (try simp (maxDischargeDepth := 60) only [pageOf_add, pageKind_portPage, Nat.reduceAdd, Nat.reduceLT,
      State.plainDelivered_within, State.capsDelivered_within, State.start_within, State.transitionBegin_within, State.readyHand_within,
      State.contractEnter_within, State.amsEnd_within, State.keepAliveStart_within, State.swapAccepted_within, State.swapReady_within,
      State.softResetDone_within, State.handover_within, State.eprEntered_within, State.eprLeft_within, State.setSeq_within, State.thatinEnter_within,
      State.event_within, State.vdmAskEnd_within, w08, w0F, w13, w20, w21, w22, w23, w24, w26, p_boundary, p_cc, p_draught, p_flue, p_hA, p_hB,
      p_lanes, p_lp, p_msg, p_pol, p_thn, p_timers, p_vdm, hW0])

theorem State.swapDecide_within {s : State} {n : Port} {ty : Nat} {point : Nat} (w0F : W 0x0F = true) (w20 : W 0x20 = true) (w22 : W 0x22 = true)
    (p_flue : P .flue = true) (p_hA : P .hA = true) (p_hB : P .hB = true) (p_msg : P .msg = true) (p_pol : P .pol = true) (hW0 : Within W P s0 s) :
    Within W P s0 (State.swapDecide s n ty point) := by
  unfold State.swapDecide
  try dsimp only
  (repeat' split) <;> (try simp (maxDischargeDepth := 60) only [State.firstMatch_within, State.modPol_within, State.setPd_within,
      State.askDrop_within, State.sendCtl_within, State.maskOpen_within, w0F, w20, w22, p_flue, p_hA, p_hB, p_msg, p_pol, hW0])

theorem State.prSwapTake_within {s : State} {n : Port} (w0F : W 0x0F = true) (w20 : W 0x20 = true) (w22 : W 0x22 = true) (p_flue : P .flue = true)
    (p_hA : P .hA = true) (p_hB : P .hB = true) (p_msg : P .msg = true) (p_pol : P .pol = true) (hW0 : Within W P s0 s) : Within W P s0
    (State.prSwapTake s n) := by
  unfold State.prSwapTake
  try dsimp only
  simp (maxDischargeDepth := 60) only [and_self, implies_true, within_ite, State.amsOn_within, State.sendCtl_within, State.swapDecide_within, w0F,
      w20, w22, p_flue, p_hA, p_hB, p_msg, p_pol, hW0]

theorem State.sinkToSource_within {s : State} {n : Port} (w20 : W 0x20 = true) (w24 : W 0x24 = true) (p_boundary : P .boundary = true) (p_cc : P .cc =
    true) (p_flue : P .flue = true) (p_lp : P .lp = true) (p_pol : P .pol = true) (p_timers : P .timers = true) (hW0 : Within W P s0 s) : Within W P
    s0 (State.sinkToSource s n) := by
  unfold State.sinkToSource
  try dsimp only
  simp (maxDischargeDepth := 60) only [State.presentSource_within, State.modPol_within, State.stop_within, State.stageRun_within,
      State.presetZero_within, State.setSeq_within, w20, w24, p_boundary, p_cc, p_flue, p_lp, p_pol, p_timers, hW0]

theorem State.readyTake_within {s : State} {n : Port} (w08 : W 0x08 = true) (w0F : W 0x0F = true) (w13 : W 0x13 = true) (w20 : W 0x20 = true) (w21 : W
    0x21 = true) (w22 : W 0x22 = true) (w23 : W 0x23 = true) (w24 : W 0x24 = true) (w26 : W 0x26 = true) (p_boundary : P .boundary = true) (p_cc : P
    .cc = true) (p_draught : P .draught = true) (p_flue : P .flue = true) (p_fnd : P .fnd = true) (p_hA : P .hA = true) (p_hB : P .hB = true) (p_lp :
    P .lp = true) (p_msg : P .msg = true) (p_pol : P .pol = true) (p_timers : P .timers = true) (p_vdm : P .vdm = true) (hW0 : Within W P s0 s) :
    Within W P s0 (State.readyTake s n) := by
  unfold State.readyTake
  try dsimp only
  (repeat' split) <;> (try simp (maxDischargeDepth := 60) only [State.contractEnter_within, State.amsEnd_within, State.becomeSink_within,
      State.modPol_within, State.stop_within, State.sinkToSource_within, State.vcnDone_within, State.vconnOff_within, State.readyHand_within,
      State.presentSource_within, w08, w0F, w13, w20, w21, w22, w23, w24, w26, p_boundary, p_cc, p_draught, p_flue, p_fnd, p_hA, p_hB, p_lp, p_msg,
      p_pol, p_timers, p_vdm, hW0])

theorem State.drSwapTake_within {s : State} {n : Port} (w0F : W 0x0F = true) (w20 : W 0x20 = true) (w21 : W 0x21 = true) (w22 : W 0x22 = true)
    (p_boundary : P .boundary = true) (p_cc : P .cc = true) (p_flue : P .flue = true) (p_hA : P .hA = true) (p_hB : P .hB = true) (p_msg : P .msg =
    true) (p_pol : P .pol = true) (p_timers : P .timers = true) (hW0 : Within W P s0 s) : Within W P s0 (State.drSwapTake s n) := by
  unfold State.drSwapTake
  try dsimp only
  simp (maxDischargeDepth := 60) only [and_self, implies_true, within_ite, State.hardResetRequest_within, State.swapDecide_within, State.amsOn_within,
      w0F, w20, w21, w22, p_boundary, p_cc, p_flue, p_hA, p_hB, p_msg, p_pol, p_timers, hW0]

theorem State.delivered_within {s : State} {n : Port} {m : Msg} (w04 : W 0x04 = true) (w08 : W 0x08 = true) (w0F : W 0x0F = true) (w13 : W 0x13 =
    true) (w20 : W 0x20 = true) (w21 : W 0x21 = true) (w22 : W 0x22 = true) (w23 : W 0x23 = true) (w24 : W 0x24 = true) (w26 : W 0x26 = true)
    (p_boundary : P .boundary = true) (p_cc : P .cc = true) (p_draught : P .draught = true) (p_flue : P .flue = true) (p_hA : P .hA = true) (p_hB : P
    .hB = true) (p_lanes : P .lanes = true) (p_lp : P .lp = true) (p_msg : P .msg = true) (p_pol : P .pol = true) (p_thn : P .thn = true) (p_timers :
    P .timers = true) (p_vdm : P .vdm = true) (hW0 : Within W P s0 s) : Within W P s0 (State.delivered s n m) := by
  unfold State.delivered
  try dsimp only
  simp (maxDischargeDepth := 60) only [and_self, implies_true, within_ite, State.modPol_within, State.deliveredFor_within, State.softAcked_within,
      w04, w08, w0F, w13, w20, w21, w22, w23, w24, w26, p_boundary, p_cc, p_draught, p_flue, p_hA, p_hB, p_lanes, p_lp, p_msg, p_pol, p_thn, p_timers,
      p_vdm, hW0]

theorem State.eprEnterTake_within {s : State} {n : Port} (w0F : W 0x0F = true) (w22 : W 0x22 = true) (p_flue : P .flue = true) (p_hA : P .hA = true)
    (p_hB : P .hB = true) (p_msg : P .msg = true) (p_pol : P .pol = true) (hW0 : Within W P s0 s) : Within W P s0 (State.eprEnterTake s n) := by
  unfold State.eprEnterTake
  try dsimp only
  (repeat' split) <;> (try simp (maxDischargeDepth := 60) only [State.setPd_within, State.amsOn_within, State.handover_within,
      State.firstMatch_within, State.setSeq_within, w0F, w22, p_flue, p_hA, p_hB, p_msg, p_pol, hW0])

theorem State.unsupported_within {s : State} {n : Port} {sop : Nat} (w0F : W 0x0F = true) (w22 : W 0x22 = true) (p_flue : P .flue = true) (p_hA : P
    .hA = true) (p_hB : P .hB = true) (p_msg : P .msg = true) (hW0 : Within W P s0 s) : Within W P s0 (State.unsupported s n sop) := by
  unfold State.unsupported
  try dsimp only
  simp (maxDischargeDepth := 60) only [and_self, implies_true, within_ite, apply_ite Prod.fst, apply_ite Prod.snd, State.firstMatch_within,
      State.handover_within, w0F, w22, p_flue, p_hA, p_hB, p_msg, hW0]

theorem State.eprModeTake_within {s : State} {n : Port} {m : Msg} (w0F : W 0x0F = true) (w20 : W 0x20 = true) (w21 : W 0x21 = true) (w22 : W 0x22 =
    true) (w23 : W 0x23 = true) (p_boundary : P .boundary = true) (p_cc : P .cc = true) (p_flue : P .flue = true) (p_hA : P .hA = true) (p_hB : P .hB
    = true) (p_msg : P .msg = true) (p_pol : P .pol = true) (p_timers : P .timers = true) (p_vdm : P .vdm = true) (hW0 : Within W P s0 s) : Within W P
    s0 (State.eprModeTake s n m) := by
  unfold State.eprModeTake
  try dsimp only
  (repeat' split) <;> (try simp (maxDischargeDepth := 60) only [State.eprEnterTake_within, State.setSeq_within, State.stop_within,
      State.eprEntered_within, State.amsEnd_within, State.eprLeft_within, State.unsupported_within, w0F, w20, w21, w22, w23, p_boundary, p_cc, p_flue,
      p_hA, p_hB, p_msg, p_pol, p_timers, p_vdm, hW0])

theorem State.motionFail_within {s : State} {n : Port} (w00 : W 0x00 = true) (w04 : W 0x04 = true) (w07 : W 0x07 = true) (w08 : W 0x08 = true) (w09 :
    W 0x09 = true) (w13 : W 0x13 = true) (w20 : W 0x20 = true) (w21 : W 0x21 = true) (w22 : W 0x22 = true) (w23 : W 0x23 = true) (w24 : W 0x24 = true)
    (w26 : W 0x26 = true) (w27 : W 0x27 = true) (p_auth : P .auth = true) (p_boundary : P .boundary = true) (p_cc : P .cc = true) (p_draught : P
    .draught = true) (p_flue : P .flue = true) (p_fnd : P .fnd = true) (p_fresh : P .fresh = true) (p_lanes : P .lanes = true) (p_lp : P .lp = true)
    (p_msg : P .msg = true) (p_pol : P .pol = true) (p_thn : P .thn = true) (p_timers : P .timers = true) (p_vdm : P .vdm = true) (hW0 : Within W P s0
    s) : Within W P s0 (State.motionFail s n) := by
  unfold State.motionFail
  try dsimp only
  simp (maxDischargeDepth := 60) only [and_self, implies_true, within_ite, State.errorRecovery_within, State.hardResetRequest_within, w00, w04, w07,
      w08, w09, w13, w20, w21, w22, w23, w24, w26, w27, p_auth, p_boundary, p_cc, p_draught, p_flue, p_fnd, p_fresh, p_lanes, p_lp, p_msg, p_pol,
      p_thn, p_timers, p_vdm, hW0]

theorem State.answer_within {s : State} {n : Port} {ty : Nat} {data : List Byte} {why : Purpose} (w22 : W 0x22 = true) (p_msg : P .msg = true) (hW0 :
    Within W P s0 s) : Within W P s0 (State.answer s n ty data why) := by
  unfold State.answer
  try dsimp only
  simp (maxDischargeDepth := 60) only [State.handover_within, State.amsOn_within, w22, p_msg, hW0]

theorem State.getSourceTake_within {s : State} {n : Port} {epr : Bool} (w0F : W 0x0F = true) (w20 : W 0x20 = true) (w21 : W 0x21 = true) (w22 : W 0x22
    = true) (p_boundary : P .boundary = true) (p_cc : P .cc = true) (p_flue : P .flue = true) (p_hA : P .hA = true) (p_hB : P .hB = true) (p_msg : P
    .msg = true) (p_pol : P .pol = true) (p_timers : P .timers = true) (hW0 : Within W P s0 s) : Within W P s0 (State.getSourceTake s n epr) := by
  unfold State.getSourceTake
  try dsimp only
  simp (maxDischargeDepth := 60) only [and_self, implies_true, within_ite, State.answer_within, State.capsSend_within, State.unsupported_within, w0F,
      w20, w21, w22, p_boundary, p_cc, p_flue, p_hA, p_hB, p_msg, p_pol, p_timers, hW0]

theorem State.getSinkTake_within {s : State} {n : Port} {epr : Bool} (w0F : W 0x0F = true) (w22 : W 0x22 = true) (p_flue : P .flue = true) (p_hA : P
    .hA = true) (p_hB : P .hB = true) (p_msg : P .msg = true) (hW0 : Within W P s0 s) : Within W P s0 (State.getSinkTake s n epr) := by
  unfold State.getSinkTake
  try dsimp only
  simp (maxDischargeDepth := 60) only [and_self, implies_true, within_ite, State.unsupported_within, State.answer_within, w0F, w22, p_flue, p_hA,
      p_hB, p_msg, hW0]

theorem State.extControlTake_within {s : State} {n : Port} {m : Msg} (w0F : W 0x0F = true) (w20 : W 0x20 = true) (w21 : W 0x21 = true) (w22 : W 0x22 =
    true) (w23 : W 0x23 = true) (p_boundary : P .boundary = true) (p_cc : P .cc = true) (p_flue : P .flue = true) (p_hA : P .hA = true) (p_hB : P .hB
    = true) (p_msg : P .msg = true) (p_pol : P .pol = true) (p_timers : P .timers = true) (p_vdm : P .vdm = true) (hW0 : Within W P s0 s) : Within W P
    s0 (State.extControlTake s n m) := by
  unfold State.extControlTake
  try dsimp only
  (repeat' split) <;> (try simp (maxDischargeDepth := 60) only [State.getSourceTake_within, State.getSinkTake_within, State.handover_within,
      State.keepAliveStart_within, State.plainDelivered_within, State.stop_within, State.unsupported_within, w0F, w20, w21, w22, w23, p_boundary,
      p_cc, p_flue, p_hA, p_hB, p_msg, p_pol, p_timers, p_vdm, hW0])

theorem State.sourceCapsTake_within {s : State} {n : Port} {m : Msg} (w0F : W 0x0F = true) (w20 : W 0x20 = true) (w21 : W 0x21 = true) (w22 : W 0x22 =
    true) (w23 : W 0x23 = true) (p_boundary : P .boundary = true) (p_cc : P .cc = true) (p_flue : P .flue = true) (p_hA : P .hA = true) (p_hB : P .hB
    = true) (p_msg : P .msg = true) (p_pol : P .pol = true) (p_timers : P .timers = true) (p_vdm : P .vdm = true) (hW0 : Within W P s0 s) : Within W P
    s0 (State.sourceCapsTake s n m) := by
  unfold State.sourceCapsTake
  try dsimp only
  simp (maxDischargeDepth := 60) only [and_self, implies_true, within_ite, State.modPol_within, State.stop_within, State.partnerStore_within,
      State.amsEnd_within, State.sinkRequest_within, w0F, w20, w21, w22, w23, p_boundary, p_cc, p_flue, p_hA, p_hB, p_msg, p_pol, p_timers, p_vdm,
      hW0]

theorem State.sinkCapsTake_within {s : State} {n : Port} {m : Msg} (w0F : W 0x0F = true) (w20 : W 0x20 = true) (w21 : W 0x21 = true) (w22 : W 0x22 =
    true) (w23 : W 0x23 = true) (p_boundary : P .boundary = true) (p_cc : P .cc = true) (p_flue : P .flue = true) (p_hA : P .hA = true) (p_hB : P .hB
    = true) (p_msg : P .msg = true) (p_pol : P .pol = true) (p_timers : P .timers = true) (p_vdm : P .vdm = true) (hW0 : Within W P s0 s) : Within W P
    s0 (State.sinkCapsTake s n m) := by
  unfold State.sinkCapsTake
  try dsimp only
  simp (maxDischargeDepth := 60) only [State.modPol_within, State.partnerShow_within, State.point14_within, State.amsEnd_within, w0F, w20, w21, w22,
      w23, p_boundary, p_cc, p_flue, p_hA, p_hB, p_msg, p_pol, p_timers, p_vdm, hW0]

theorem State.txFail_within {s : State} {n : Port} {m : Msg} (w00 : W 0x00 = true) (w04 : W 0x04 = true) (w07 : W 0x07 = true) (w08 : W 0x08 = true)
    (w09 : W 0x09 = true) (w13 : W 0x13 = true) (w20 : W 0x20 = true) (w21 : W 0x21 = true) (w22 : W 0x22 = true) (w23 : W 0x23 = true) (w24 : W 0x24
    = true) (w26 : W 0x26 = true) (w27 : W 0x27 = true) (p_auth : P .auth = true) (p_boundary : P .boundary = true) (p_cc : P .cc = true) (p_draught :
    P .draught = true) (p_flue : P .flue = true) (p_fnd : P .fnd = true) (p_fresh : P .fresh = true) (p_lanes : P .lanes = true) (p_lp : P .lp = true)
    (p_msg : P .msg = true) (p_pol : P .pol = true) (p_thn : P .thn = true) (p_timers : P .timers = true) (p_vdm : P .vdm = true) (hW0 : Within W P s0
    s) : Within W P s0 (State.txFail s n m) := by
  unfold State.txFail
  try dsimp only
  (repeat' split) <;> (try simp (maxDischargeDepth := 60) only [pageOf_add, pageKind_portPage, Nat.reduceAdd, Nat.reduceLT, State.modPol_within,
      State.start_within, State.softResetSend_within, State.amsStop_within, State.noPdOperation_within, State.hardResetRequest_within,
      State.vdmTimeout_within, State.plainDelivered_within, State.event_within, State.motionFail_within, State.amsEnd_within, w00, w04, w07, w08, w09,
      w13, w20, w21, w22, w23, w24, w26, w27, p_auth, p_boundary, p_cc, p_draught, p_flue, p_fnd, p_fresh, p_lanes, p_lp, p_msg, p_pol, p_thn,
      p_timers, p_vdm, hW0])

theorem State.offerLost_within {s : State} {n : Port} (w20 : W 0x20 = true) (w21 : W 0x21 = true) (w22 : W 0x22 = true) (w23 : W 0x23 = true)
    (p_boundary : P .boundary = true) (p_cc : P .cc = true) (p_flue : P .flue = true) (p_msg : P .msg = true) (p_pol : P .pol = true) (p_timers : P
    .timers = true) (p_vdm : P .vdm = true) (hW0 : Within W P s0 s) : Within W P s0 (State.offerLost s n) := by
  unfold State.offerLost
  try dsimp only
  simp (maxDischargeDepth := 60) only [and_self, implies_true, within_ite, State.draft_within, State.amsStop_within, State.modPol_within, w20, w21,
      w22, w23, p_boundary, p_cc, p_flue, p_msg, p_pol, p_timers, p_vdm, hW0]

theorem State.cableTake_within {s : State} {n : Port} {m : Msg} (w09 : W 0x09 = true) (w0F : W 0x0F = true) (w13 : W 0x13 = true) (w20 : W 0x20 =
    true) (w21 : W 0x21 = true) (w22 : W 0x22 = true) (w23 : W 0x23 = true) (p_boundary : P .boundary = true) (p_cc : P .cc = true) (p_draught : P
    .draught = true) (p_flue : P .flue = true) (p_hA : P .hA = true) (p_hB : P .hB = true) (p_msg : P .msg = true) (p_pol : P .pol = true) (p_thn : P
    .thn = true) (p_timers : P .timers = true) (p_vdm : P .vdm = true) (hW0 : Within W P s0 s) : Within W P s0 (State.cableTake s n m) := by
  unfold State.cableTake
  try dsimp only
  simp (maxDischargeDepth := 60) only [and_self, implies_true, within_ite, State.vdmTake_within, State.unsupported_within, w09, w0F, w13, w20, w21,
      w22, w23, p_boundary, p_cc, p_draught, p_flue, p_hA, p_hB, p_msg, p_pol, p_thn, p_timers, p_vdm, hW0]

theorem State.seqGiveUp_within {s : State} {n : Port} (w20 : W 0x20 = true) (w21 : W 0x21 = true) (w22 : W 0x22 = true) (p_boundary : P .boundary =
    true) (p_cc : P .cc = true) (p_pol : P .pol = true) (p_timers : P .timers = true) (hW0 : Within W P s0 s) : Within W P s0 (State.seqGiveUp s n) :=
    by
  unfold State.seqGiveUp
  try dsimp only
  simp (maxDischargeDepth := 60) only [and_self, implies_true, within_ite, State.maskDone_within, State.modPol_within, State.amsStop_within,
      State.setPd_within, w20, w21, w22, p_boundary, p_cc, p_pol, p_timers, hW0]

theorem State.vconnSwapTake_within {s : State} {n : Port} (w0F : W 0x0F = true) (w20 : W 0x20 = true) (w22 : W 0x22 = true) (p_flue : P .flue = true)
    (p_hA : P .hA = true) (p_hB : P .hB = true) (p_msg : P .msg = true) (p_pol : P .pol = true) (hW0 : Within W P s0 s) : Within W P s0
    (State.vconnSwapTake s n) := by
  unfold State.vconnSwapTake
  try dsimp only
  simp (maxDischargeDepth := 60) only [and_self, implies_true, within_ite, State.amsOn_within, State.sendCtl_within, State.swapDecide_within, w0F,
      w20, w22, p_flue, p_hA, p_hB, p_msg, p_pol, hW0]

theorem State.txLost_within {s : State} {n : Port} {m : Msg} {stale : Bool} (w00 : W 0x00 = true) (w04 : W 0x04 = true) (w07 : W 0x07 = true) (w08 : W
    0x08 = true) (w09 : W 0x09 = true) (w13 : W 0x13 = true) (w20 : W 0x20 = true) (w21 : W 0x21 = true) (w22 : W 0x22 = true) (w23 : W 0x23 = true)
    (w24 : W 0x24 = true) (w26 : W 0x26 = true) (w27 : W 0x27 = true) (p_auth : P .auth = true) (p_boundary : P .boundary = true) (p_cc : P .cc =
    true) (p_draught : P .draught = true) (p_flue : P .flue = true) (p_fnd : P .fnd = true) (p_fresh : P .fresh = true) (p_lanes : P .lanes = true)
    (p_lp : P .lp = true) (p_msg : P .msg = true) (p_pol : P .pol = true) (p_thn : P .thn = true) (p_timers : P .timers = true) (p_vdm : P .vdm =
    true) (hW0 : Within W P s0 s) : Within W P s0 (State.txLost s n m stale) := by
  unfold State.txLost
  try dsimp only
  (repeat' split) <;> (try simp (maxDischargeDepth := 60) only [pageOf_add, pageKind_portPage, Nat.reduceAdd, Nat.reduceLT, State.offerLost_within,
      State.amsStop_within, State.modPol_within, State.modVdm_within, State.event_within, State.vdmAskEnd_within, State.seqGiveUp_within,
      State.motionFail_within, w00, w04, w07, w08, w09, w13, w20, w21, w22, w23, w24, w26, w27, p_auth, p_boundary, p_cc, p_draught, p_flue, p_fnd,
      p_fresh, p_lanes, p_lp, p_msg, p_pol, p_thn, p_timers, p_vdm, hW0])

theorem State.freeReply_within {s : State} {n : Port} {ty : Nat} {count : Nat} (w22 : W 0x22 = true) (p_fresh : P .fresh = true) (p_msg : P .msg =
    true) (hW0 : Within W P s0 s) : Within W P s0 (State.freeReply s n ty count) := by
  unfold State.freeReply
  try dsimp only
  simp (maxDischargeDepth := 60) only [within_mk, true_or, or_true, State.answer_within, w22, p_fresh, p_msg, hW0]

theorem State.acceptTake_within {s : State} {n : Port} (w08 : W 0x08 = true) (w20 : W 0x20 = true) (w21 : W 0x21 = true) (w22 : W 0x22 = true) (w23 :
    W 0x23 = true) (w24 : W 0x24 = true) (p_boundary : P .boundary = true) (p_cc : P .cc = true) (p_draught : P .draught = true) (p_flue : P .flue =
    true) (p_lanes : P .lanes = true) (p_lp : P .lp = true) (p_msg : P .msg = true) (p_pol : P .pol = true) (p_timers : P .timers = true) (p_vdm : P
    .vdm = true) (hW0 : Within W P s0 s) : Within W P s0 (State.acceptTake s n) := by
  unfold State.acceptTake
  try dsimp only
  (repeat' split) <;> (try simp (maxDischargeDepth := 60) only [State.stop_within, State.start_within, State.setPd_within, State.setSeq_within,
      State.swapAccepted_within, State.softResetDone_within, w08, w20, w21, w22, w23, w24, p_boundary, p_cc, p_draught, p_flue, p_lanes, p_lp, p_msg,
      p_pol, p_timers, p_vdm, hW0])

theorem State.softTake_within {s : State} {n : Port} (w20 : W 0x20 = true) (w21 : W 0x21 = true) (w22 : W 0x22 = true) (w23 : W 0x23 = true)
    (p_boundary : P .boundary = true) (p_cc : P .cc = true) (p_flue : P .flue = true) (p_msg : P .msg = true) (p_pol : P .pol = true) (p_timers : P
    .timers = true) (p_vdm : P .vdm = true) (hW0 : Within W P s0 s) : Within W P s0 (State.softTake s n) := by
  unfold State.softTake
  try dsimp only
  simp (maxDischargeDepth := 60) only [and_self, implies_true, within_ite, State.hardResetRequest_within, State.modPol_within, State.stop_within,
      State.swapGiveUp_within, State.vdmAskDrop_within, State.sendCtl_within, State.amsOn_within, w20, w21, w22, w23, p_boundary, p_cc, p_flue, p_msg,
      p_pol, p_timers, p_vdm, hW0]

theorem State.refuseTake_within {s : State} {n : Port} {wait : Bool} (w00 : W 0x00 = true) (w04 : W 0x04 = true) (w07 : W 0x07 = true) (w08 : W 0x08 =
    true) (w09 : W 0x09 = true) (w13 : W 0x13 = true) (w20 : W 0x20 = true) (w21 : W 0x21 = true) (w22 : W 0x22 = true) (w23 : W 0x23 = true) (w24 : W
    0x24 = true) (w26 : W 0x26 = true) (w27 : W 0x27 = true) (p_auth : P .auth = true) (p_boundary : P .boundary = true) (p_cc : P .cc = true)
    (p_draught : P .draught = true) (p_flue : P .flue = true) (p_fnd : P .fnd = true) (p_fresh : P .fresh = true) (p_lanes : P .lanes = true) (p_lp :
    P .lp = true) (p_msg : P .msg = true) (p_pol : P .pol = true) (p_thn : P .thn = true) (p_timers : P .timers = true) (p_vdm : P .vdm = true) (hW0 :
    Within W P s0 s) : Within W P s0 (State.refuseTake s n wait) := by
  unfold State.refuseTake
  try dsimp only
  (repeat' split) <;> (try simp (maxDischargeDepth := 60) only [State.modPol_within, State.amsEnd_within, State.maskDone_within, State.start_within,
      State.errorRecovery_within, State.stop_within, State.vdmTimeout_within, w00, w04, w07, w08, w09, w13, w20, w21, w22, w23, w24, w26, w27, p_auth,
      p_boundary, p_cc, p_draught, p_flue, p_fnd, p_fresh, p_lanes, p_lp, p_msg, p_pol, p_thn, p_timers, p_vdm, hW0])

theorem State.messageTake_within {s : State} {n : Port} {m : Msg} (w00 : W 0x00 = true) (w04 : W 0x04 = true) (w07 : W 0x07 = true) (w08 : W 0x08 =
    true) (w09 : W 0x09 = true) (w0F : W 0x0F = true) (w13 : W 0x13 = true) (w20 : W 0x20 = true) (w21 : W 0x21 = true) (w22 : W 0x22 = true) (w23 : W
    0x23 = true) (w24 : W 0x24 = true) (w26 : W 0x26 = true) (w27 : W 0x27 = true) (p_auth : P .auth = true) (p_boundary : P .boundary = true) (p_cc :
    P .cc = true) (p_draught : P .draught = true) (p_flue : P .flue = true) (p_fnd : P .fnd = true) (p_fresh : P .fresh = true) (p_hA : P .hA = true)
    (p_hB : P .hB = true) (p_lanes : P .lanes = true) (p_lp : P .lp = true) (p_msg : P .msg = true) (p_pol : P .pol = true) (p_thn : P .thn = true)
    (p_timers : P .timers = true) (p_vdm : P .vdm = true) (hW0 : Within W P s0 s) : Within W P s0 (State.messageTake s n m) := by
  unfold State.messageTake
  try dsimp only
  simp (maxDischargeDepth := 60) only [and_self, implies_true, within_ite, State.errorRecovery_within, State.cableTake_within,
      State.acceptTake_within, State.refuseTake_within, State.stop_within, State.readyTake_within, State.softTake_within, State.sourceCapsTake_within,
      State.requestInSwap_within, State.requestEval_within, State.sinkCapsTake_within, State.eprModeTake_within, State.vdmTake_within,
      State.getSourceTake_within, State.getSinkTake_within, State.prSwapTake_within, State.drSwapTake_within, State.vconnSwapTake_within,
      State.authTake_within, State.extControlTake_within, State.freeReply_within, State.unsupported_within, w00, w04, w07, w08, w09, w0F, w13, w20,
      w21, w22, w23, w24, w26, w27, p_auth, p_boundary, p_cc, p_draught, p_flue, p_fnd, p_fresh, p_hA, p_hB, p_lanes, p_lp, p_msg, p_pol, p_thn,
      p_timers, p_vdm, hW0]

/-! ### Inputs -/

theorem State.transitionAbort_within {s : State} {n : Port} (w04 : W 0x04 = true) (w08 : W 0x08 = true) (w09 : W 0x09 = true) (w13 : W 0x13 = true)
    (w20 : W 0x20 = true) (w21 : W 0x21 = true) (w22 : W 0x22 = true) (w24 : W 0x24 = true) (w26 : W 0x26 = true) (w27 : W 0x27 = true) (p_boundary :
    P .boundary = true) (p_cc : P .cc = true) (p_draught : P .draught = true) (p_flue : P .flue = true) (p_fnd : P .fnd = true) (p_lanes : P .lanes =
    true) (p_lp : P .lp = true) (p_msg : P .msg = true) (p_pol : P .pol = true) (p_thn : P .thn = true) (p_timers : P .timers = true) (hW0 : Within W
    P s0 s) : Within W P s0 (State.transitionAbort s n) := by
  unfold State.transitionAbort
  try dsimp only
  simp (maxDischargeDepth := 60) only [and_self, implies_true, within_ite, State.openPath_within, State.stageOff_within, State.presetZero_within,
      State.collapse_within, State.txSilence_within, State.advanceEpoch_within, State.dschgOn_within, State.stop_within,
      State.policyTimersStop_within, State.start_within, State.modPol_within, w04, w08, w09, w13, w20, w21, w22, w24, w26, w27, p_boundary, p_cc,
      p_draught, p_flue, p_fnd, p_lanes, p_lp, p_msg, p_pol, p_thn, p_timers, hW0]

theorem State.accepts_within {s : State} {n : Port} {m : Msg} (w04 : W 0x04 = true) (w21 : W 0x21 = true) (w22 : W 0x22 = true)
    (p_flue : P .flue = true) (hW0 : Within W P s0 s) : Within W P s0 (s.accepts n m).1 := by
  unfold State.accepts
  split
  · dsimp only
    simp (maxDischargeDepth := 60) only [within_ite, State.set_within, pageOf_add, pageKind_portPage, Nat.reduceLT, Nat.reduceAdd, w22, hW0,
      implies_true, and_self]
  · simp (maxDischargeDepth := 60) only [State.soot_within, State.event_within, pageOf_add, pageKind_portPage, Nat.reduceLT, Nat.reduceAdd,
      w04, w21, p_flue, hW0]

theorem State.inputTake_within {s : State} {i : Input} (w00 : W 0x00 = true) (w04 : W 0x04 = true) (w07 : W 0x07 = true) (w08 : W 0x08 = true) (w09 :
    W 0x09 = true) (w0F : W 0x0F = true) (w13 : W 0x13 = true) (w20 : W 0x20 = true) (w21 : W 0x21 = true) (w22 : W 0x22 = true) (w23 : W 0x23 = true)
    (w24 : W 0x24 = true) (w26 : W 0x26 = true) (w27 : W 0x27 = true) (p_auth : P .auth = true) (p_boundary : P .boundary = true) (p_cc : P .cc =
    true) (p_draught : P .draught = true) (p_flue : P .flue = true) (p_fnd : P .fnd = true) (p_fresh : P .fresh = true) (p_hA : P .hA = true) (p_hB :
    P .hB = true) (p_lanes : P .lanes = true) (p_lp : P .lp = true) (p_msg : P .msg = true) (p_pol : P .pol = true) (p_thn : P .thn = true) (p_timers
    : P .timers = true) (p_vdm : P .vdm = true) (hW0 : Within W P s0 s) : Within W P s0 (State.inputTake s i) := by
  unfold State.inputTake
  try dsimp only
  (repeat' split) <;> (try simp (maxDischargeDepth := 60) only [State.attachTake_within, State.detachTake_within, State.transitionAbort_within,
      State.collapse_within, State.accepts_within, State.messageTake_within, State.tryExpiry_within, State.tryTimeoutTake_within,
      State.sinkRequest_within, State.softResetSend_within, w00, w04, w07, w08, w09, w0F, w13, w20, w21, w22, w23, w24, w26, w27, p_auth, p_boundary,
      p_cc, p_draught, p_flue, p_fnd, p_fresh, p_hA, p_hB, p_lanes, p_lp, p_msg, p_pol, p_thn, p_timers, p_vdm, hW0])

theorem State.takeAt_within {s : State} {k : Nat} (w00 : W 0x00 = true) (w04 : W 0x04 = true) (w07 : W 0x07 = true) (w08 : W 0x08 = true) (w09 : W
    0x09 = true) (w0F : W 0x0F = true) (w13 : W 0x13 = true) (w20 : W 0x20 = true) (w21 : W 0x21 = true) (w22 : W 0x22 = true) (w23 : W 0x23 = true)
    (w24 : W 0x24 = true) (w26 : W 0x26 = true) (w27 : W 0x27 = true) (p_auth : P .auth = true) (p_boundary : P .boundary = true) (p_cc : P .cc =
    true) (p_draught : P .draught = true) (p_flue : P .flue = true) (p_fnd : P .fnd = true) (p_fresh : P .fresh = true) (p_hA : P .hA = true) (p_hB :
    P .hB = true) (p_inputs : P .inputs = true) (p_lanes : P .lanes = true) (p_lp : P .lp = true) (p_msg : P .msg = true) (p_pol : P .pol = true)
    (p_thn : P .thn = true) (p_timers : P .timers = true) (p_vdm : P .vdm = true) (hW0 : Within W P s0 s) : Within W P s0 (State.takeAt s k) := by
  unfold State.takeAt
  try dsimp only
  (repeat' split) <;> (try simp (maxDischargeDepth := 60) only [within_mk, true_or, or_true, State.inputTake_within, w00, w04, w07, w08, w09, w0F,
      w13, w20, w21, w22, w23, w24, w26, w27, p_auth, p_boundary, p_cc, p_draught, p_flue, p_fnd, p_fresh, p_hA, p_hB, p_inputs, p_lanes, p_lp, p_msg,
      p_pol, p_thn, p_timers, p_vdm, hW0])

theorem State.takeBefore_within {k : Nat} {h : Hth} {q : Nat} {s : State} (w00 : W 0x00 = true) (w04 : W 0x04 = true) (w07 : W 0x07 = true) (w08 : W
    0x08 = true) (w09 : W 0x09 = true) (w0F : W 0x0F = true) (w13 : W 0x13 = true) (w20 : W 0x20 = true) (w21 : W 0x21 = true) (w22 : W 0x22 = true)
    (w23 : W 0x23 = true) (w24 : W 0x24 = true) (w26 : W 0x26 = true) (w27 : W 0x27 = true) (p_auth : P .auth = true) (p_boundary : P .boundary =
    true) (p_cc : P .cc = true) (p_draught : P .draught = true) (p_flue : P .flue = true) (p_fnd : P .fnd = true) (p_fresh : P .fresh = true) (p_hA :
    P .hA = true) (p_hB : P .hB = true) (p_inputs : P .inputs = true) (p_lanes : P .lanes = true) (p_lp : P .lp = true) (p_msg : P .msg = true) (p_pol
    : P .pol = true) (p_thn : P .thn = true) (p_timers : P .timers = true) (p_vdm : P .vdm = true) (hW0 : Within W P s0 s) :
    Within W P s0 (State.takeBefore k h q s) := by
  induction k generalizing s with
  | zero => exact hW0
  | succ k ih =>
    unfold State.takeBefore
    repeat' split
    · exact ih (by apply State.takeAt_within <;> assumption)
    · exact hW0
    · exact hW0

theorem State.takeNext_within {s : State} {n : Port} {p : Msg → Bool} (w00 : W 0x00 = true) (w04 : W 0x04 = true) (w07 : W 0x07 = true) (w08 : W 0x08
    = true) (w09 : W 0x09 = true) (w0F : W 0x0F = true) (w13 : W 0x13 = true) (w20 : W 0x20 = true) (w21 : W 0x21 = true) (w22 : W 0x22 = true) (w23 :
    W 0x23 = true) (w24 : W 0x24 = true) (w26 : W 0x26 = true) (w27 : W 0x27 = true) (p_auth : P .auth = true) (p_boundary : P .boundary = true) (p_cc
    : P .cc = true) (p_draught : P .draught = true) (p_flue : P .flue = true) (p_fnd : P .fnd = true) (p_fresh : P .fresh = true) (p_hA : P .hA =
    true) (p_hB : P .hB = true) (p_inputs : P .inputs = true) (p_lanes : P .lanes = true) (p_lp : P .lp = true) (p_msg : P .msg = true) (p_pol : P
    .pol = true) (p_thn : P .thn = true) (p_timers : P .timers = true) (p_vdm : P .vdm = true) (hW0 : Within W P s0 s) : Within W P s0 (State.takeNext
    s n p) := by
  unfold State.takeNext
  try dsimp only
  (repeat' split) <;> (try simp (maxDischargeDepth := 60) only [State.takeBefore_within, w00, w04, w07, w08, w09, w0F, w13, w20, w21, w22, w23, w24,
      w26, w27, p_auth, p_boundary, p_cc, p_draught, p_flue, p_fnd, p_fresh, p_hA, p_hB, p_inputs, p_lanes, p_lp, p_msg, p_pol, p_thn, p_timers,
      p_vdm, hW0])

theorem State.policyTake_within {s : State} {h : Hth} (w00 : W 0x00 = true) (w04 : W 0x04 = true) (w07 : W 0x07 = true) (w08 : W 0x08 = true) (w09 : W
    0x09 = true) (w0F : W 0x0F = true) (w13 : W 0x13 = true) (w20 : W 0x20 = true) (w21 : W 0x21 = true) (w22 : W 0x22 = true) (w23 : W 0x23 = true)
    (w24 : W 0x24 = true) (w26 : W 0x26 = true) (w27 : W 0x27 = true) (p_auth : P .auth = true) (p_boundary : P .boundary = true) (p_cc : P .cc =
    true) (p_draught : P .draught = true) (p_flue : P .flue = true) (p_fnd : P .fnd = true) (p_fresh : P .fresh = true) (p_hA : P .hA = true) (p_hB :
    P .hB = true) (p_inputs : P .inputs = true) (p_lanes : P .lanes = true) (p_lp : P .lp = true) (p_msg : P .msg = true) (p_pol : P .pol = true)
    (p_thn : P .thn = true) (p_timers : P .timers = true) (p_vdm : P .vdm = true) (hW0 : Within W P s0 s) : Within W P s0 (State.policyTake s h) := by
  unfold State.policyTake
  try dsimp only
  (repeat' split) <;> (try simp (maxDischargeDepth := 60) only [State.takeAt_within, w00, w04, w07, w08, w09, w0F, w13, w20, w21, w22, w23, w24, w26,
      w27, p_auth, p_boundary, p_cc, p_draught, p_flue, p_fnd, p_fresh, p_hA, p_hB, p_inputs, p_lanes, p_lp, p_msg, p_pol, p_thn, p_timers, p_vdm,
      hW0])

theorem State.ackActs_within {s : State} {n : Port} (w00 : W 0x00 = true) (w04 : W 0x04 = true) (w07 : W 0x07 = true) (w08 : W 0x08 = true) (w09 : W
    0x09 = true) (w0F : W 0x0F = true) (w13 : W 0x13 = true) (w20 : W 0x20 = true) (w21 : W 0x21 = true) (w22 : W 0x22 = true) (w23 : W 0x23 = true)
    (w24 : W 0x24 = true) (w26 : W 0x26 = true) (w27 : W 0x27 = true) (p_auth : P .auth = true) (p_boundary : P .boundary = true) (p_cc : P .cc =
    true) (p_draught : P .draught = true) (p_flue : P .flue = true) (p_fnd : P .fnd = true) (p_fresh : P .fresh = true) (p_hA : P .hA = true) (p_hB :
    P .hB = true) (p_inputs : P .inputs = true) (p_lanes : P .lanes = true) (p_lp : P .lp = true) (p_msg : P .msg = true) (p_pol : P .pol = true)
    (p_thn : P .thn = true) (p_timers : P .timers = true) (p_vdm : P .vdm = true) (hW0 : Within W P s0 s) : Within W P s0 (State.ackActs s n) := by
  unfold State.ackActs
  try dsimp only
  simp (maxDischargeDepth := 60) only [within_mk, true_or, or_true, State.takeNext_within, w00, w04, w07, w08, w09, w0F, w13, w20, w21, w22, w23, w24,
      w26, w27, p_auth, p_boundary, p_cc, p_draught, p_flue, p_fnd, p_fresh, p_hA, p_hB, p_inputs, p_lanes, p_lp, p_msg, p_pol, p_thn, p_timers,
      p_vdm, hW0]

theorem State.policyBefore_within {s : State} {n : Port} {rank : Nat} (w00 : W 0x00 = true) (w04 : W 0x04 = true) (w07 : W 0x07 = true) (w08 : W 0x08
    = true) (w09 : W 0x09 = true) (w0F : W 0x0F = true) (w13 : W 0x13 = true) (w20 : W 0x20 = true) (w21 : W 0x21 = true) (w22 : W 0x22 = true) (w23 :
    W 0x23 = true) (w24 : W 0x24 = true) (w26 : W 0x26 = true) (w27 : W 0x27 = true) (p_auth : P .auth = true) (p_boundary : P .boundary = true) (p_cc
    : P .cc = true) (p_draught : P .draught = true) (p_flue : P .flue = true) (p_fnd : P .fnd = true) (p_fresh : P .fresh = true) (p_hA : P .hA =
    true) (p_hB : P .hB = true) (p_inputs : P .inputs = true) (p_lanes : P .lanes = true) (p_lp : P .lp = true) (p_msg : P .msg = true) (p_pol : P
    .pol = true) (p_thn : P .thn = true) (p_timers : P .timers = true) (p_vdm : P .vdm = true) (hW0 : Within W P s0 s) : Within W P s0
    (State.policyBefore s n rank) := by
  unfold State.policyBefore
  try dsimp only
  simp (maxDischargeDepth := 60) only [State.takeBefore_within, w00, w04, w07, w08, w09, w0F, w13, w20, w21, w22, w23, w24, w26, w27, p_auth,
      p_boundary, p_cc, p_draught, p_flue, p_fnd, p_fresh, p_hA, p_hB, p_inputs, p_lanes, p_lp, p_msg, p_pol, p_thn, p_timers, p_vdm, hW0]

/-! ### Msg -/

theorem State.lowWater_within {s : State} (w21 : W 0x21 = true) (hW0 : Within W P s0 s) : Within W P s0 (State.lowWater s) := by
  unfold State.lowWater
  try dsimp only
  simp (maxDischargeDepth := 60) only [implies_true, within_refl, pageOf_add, pageKind_portPage, Nat.reduceAdd, Nat.reduceLT, State.allPorts_within,
      State.set_within, w21, hW0]

theorem State.grantAll_within {k : Nat} {s : State} (p_msg : P .msg = true) (hW0 : Within W P s0 s) : Within W P s0 (State.grantAll k s) := by
  induction k generalizing s with
  | zero => exact hW0
  | succ k ih =>
    unfold State.grantAll
    split
    · exact ih (State.modMsg_within p_msg hW0)
    · exact hW0

theorem State.poolGrant_within {s : State} (w21 : W 0x21 = true) (p_flue : P .flue = true) (p_msg : P .msg = true)
    (hW0 : Within W P s0 s) : Within W P s0 s.poolGrant := by
  unfold State.poolGrant
  refine State.allPorts_within (fun t n => ?_) (State.lowWater_within w21 (State.grantAll_within p_msg hW0))
  simp (maxDischargeDepth := 60) only [within_ite, within_refl, State.event_within, State.modMsg_within, pageOf_add, pageKind_portPage,
    Nat.reduceLT, Nat.reduceAdd, w21, p_flue, p_msg, implies_true, and_self]

theorem execPoolSlotGrant_within {s : State} (w21 : W 0x21 = true) (p_flue : P .flue = true) (p_msg : P .msg = true) {t : State}
    (e : execPoolSlotGrant s = .next t) : Within W P s t := by
  unfold execPoolSlotGrant at e
  injection e with e
  rw [← e]
  exact State.poolGrant_within w21 p_flue p_msg (.refl s)

theorem State.goodcrcDue_within {s : State} {n : Port} {sop : Nat} {id : Nat} (p_msg : P .msg = true) (p_timers : P .timers = true) (hW0 : Within W P
    s0 s) : Within W P s0 (State.goodcrcDue s n sop id) := by
  unfold State.goodcrcDue
  try dsimp only
  simp (maxDischargeDepth := 60) only [State.start_within, State.modMsg_within, p_msg, p_timers, hW0]

theorem State.awaitEnd_within {s : State} {n : Port} (w21 : W 0x21 = true) (p_msg : P .msg = true) (p_timers : P .timers = true) (hW0 : Within W P s0
    s) : Within W P s0 (State.awaitEnd s n) := by
  unfold State.awaitEnd
  try dsimp only
  simp (maxDischargeDepth := 60) only [pageOf_add, pageKind_portPage, Nat.reduceAdd, Nat.reduceLT, State.stop_within, State.set_within,
      State.modMsg_within, w21, p_msg, p_timers, hW0]

theorem State.epochAbandon_within {s : State} {n : Port} (w00 : W 0x00 = true) (w04 : W 0x04 = true) (w07 : W 0x07 = true) (w08 : W 0x08 = true) (w09
    : W 0x09 = true) (w13 : W 0x13 = true) (w20 : W 0x20 = true) (w21 : W 0x21 = true) (w22 : W 0x22 = true) (w23 : W 0x23 = true) (w24 : W 0x24 =
    true) (w26 : W 0x26 = true) (w27 : W 0x27 = true) (p_auth : P .auth = true) (p_boundary : P .boundary = true) (p_cc : P .cc = true) (p_draught : P
    .draught = true) (p_flue : P .flue = true) (p_fnd : P .fnd = true) (p_fresh : P .fresh = true) (p_lanes : P .lanes = true) (p_lp : P .lp = true)
    (p_msg : P .msg = true) (p_pol : P .pol = true) (p_thn : P .thn = true) (p_timers : P .timers = true) (p_vdm : P .vdm = true) (hW0 : Within W P s0
    s) : Within W P s0 (State.epochAbandon s n) := by
  unfold State.epochAbandon
  try dsimp only
  (repeat' split) <;> (try simp (maxDischargeDepth := 60) only [State.txLost_within, State.countStale_within, State.modMsg_within,
      State.awaitEnd_within, w00, w04, w07, w08, w09, w13, w20, w21, w22, w23, w24, w26, w27, p_auth, p_boundary, p_cc, p_draught, p_flue, p_fnd,
      p_fresh, p_lanes, p_lp, p_msg, p_pol, p_thn, p_timers, p_vdm, hW0])

theorem execEpochChangeAbandon_within {n : Port} {s : State} (w00 : W 0x00 = true) (w04 : W 0x04 = true) (w07 : W 0x07 = true) (w08 : W 0x08 = true)
    (w09 : W 0x09 = true) (w13 : W 0x13 = true) (w20 : W 0x20 = true) (w21 : W 0x21 = true) (w22 : W 0x22 = true) (w23 : W 0x23 = true) (w24 : W 0x24
    = true) (w26 : W 0x26 = true) (w27 : W 0x27 = true) (p_auth : P .auth = true) (p_boundary : P .boundary = true) (p_cc : P .cc = true) (p_draught :
    P .draught = true) (p_flue : P .flue = true) (p_fnd : P .fnd = true) (p_fresh : P .fresh = true) (p_lanes : P .lanes = true) (p_lp : P .lp = true)
    (p_msg : P .msg = true) (p_pol : P .pol = true) (p_thn : P .thn = true) (p_timers : P .timers = true) (p_vdm : P .vdm = true) {t : State} (e :
    execEpochChangeAbandon n s = .next t) : Within W P s t := by
  unfold execEpochChangeAbandon at e
  try dsimp only at e
  cases e
  simp (maxDischargeDepth := 60) only [within_refl, State.epochAbandon_within, w00, w04, w07, w08, w09, w13, w20, w21, w22, w23, w24, w26, w27,
      p_auth, p_boundary, p_cc, p_draught, p_flue, p_fnd, p_fresh, p_lanes, p_lp, p_msg, p_pol, p_thn, p_timers, p_vdm]

theorem State.divShow_within {s : State} {n : Port} (w20 : W 0x20 = true) (hW0 : Within W P s0 s) : Within W P s0 (State.divShow s n) := by
  unfold State.divShow
  try dsimp only
  simp (maxDischargeDepth := 60) only [pageOf_add, pageKind_portPage, Nat.reduceAdd, Nat.reduceLT, State.set_within, w20, hW0]

theorem State.signalStart_within {s : State} {n : Port} (w20 : W 0x20 = true) (w21 : W 0x21 = true) (p_boundary : P .boundary = true) (p_cc : P .cc =
    true) (p_msg : P .msg = true) (p_timers : P .timers = true) (hW0 : Within W P s0 s) : Within W P s0 (State.signalStart s n) := by
  unfold State.signalStart
  try dsimp only
  simp (maxDischargeDepth := 60) only [pageOf_add, pageKind_portPage, Nat.reduceAdd, Nat.reduceLT, State.busyOn_within, State.modMsg_within,
      State.stop_within, State.divShow_within, State.set_within, w20, w21, p_boundary, p_cc, p_msg, p_timers, hW0]

theorem State.goodcrcTransmit_within {s : State} {n : Port} (w20 : W 0x20 = true) (w21 : W 0x21 = true) (p_boundary : P .boundary = true) (p_cc : P
    .cc = true) (p_msg : P .msg = true) (p_timers : P .timers = true) (hW0 : Within W P s0 s) : Within W P s0 (State.goodcrcTransmit s n) := by
  unfold State.goodcrcTransmit
  try dsimp only
  (repeat' split) <;> (try simp (maxDischargeDepth := 60) only [State.signalStart_within, w20, w21, p_boundary, p_cc, p_msg, p_timers, hW0])

theorem State.sourceNg_within {s : State} {n : Port} (w20 : W 0x20 = true) (w21 : W 0x21 = true) (w22 : W 0x22 = true) (p_boundary : P .boundary =
    true) (p_cc : P .cc = true) (p_timers : P .timers = true) (hW0 : Within W P s0 s) : Within W P s0 (State.sourceNg s n) := by
  unfold State.sourceNg
  try dsimp only
  simp (maxDischargeDepth := 60) only [and_self, implies_true, within_ite, State.amsStart_within, w20, w21, w22, p_boundary, p_cc, p_timers, hW0]

theorem State.queueTake_within {s : State} {n : Port} {i : Nat} (p_msg : P .msg = true) (hW0 : Within W P s0 s) : Within W P s0 (State.queueTake s n
    i) := by
  unfold State.queueTake
  try dsimp only
  simp (maxDischargeDepth := 60) only [State.modMsg_within, p_msg, hW0]

theorem State.frameStart_within {s : State} {n : Port} {m : Msg} (w09 : W 0x09 = true) (w13 : W 0x13 = true) (w20 : W 0x20 = true) (w21 : W 0x21 =
    true) (w22 : W 0x22 = true) (p_boundary : P .boundary = true) (p_cc : P .cc = true) (p_draught : P .draught = true) (p_flue : P .flue = true)
    (p_msg : P .msg = true) (p_pol : P .pol = true) (p_thn : P .thn = true) (p_timers : P .timers = true) (hW0 : Within W P s0 s) : Within W P s0
    (State.frameStart s n m) := by
  unfold State.frameStart
  try dsimp only
  simp (maxDischargeDepth := 60) only [and_self, implies_true, within_ite, pageOf_add, pageKind_portPage, Nat.reduceAdd, Nat.reduceLT,
      State.collapse_within, State.swapBegin_within, State.busyOn_within, State.modMsg_within, State.divShow_within, State.set_within, w09, w13, w20,
      w21, w22, p_boundary, p_cc, p_draught, p_flue, p_msg, p_pol, p_thn, p_timers, hW0]

theorem State.collision_within {s : State} {n : Port} (w04 : W 0x04 = true) (w21 : W 0x21 = true) (p_flue : P .flue = true) (hW0 : Within W P s0 s) :
    Within W P s0 (State.collision s n) := by
  unfold State.collision
  try dsimp only
  simp (maxDischargeDepth := 60) only [pageOf_add, pageKind_portPage, Nat.reduceAdd, Nat.reduceLT, State.soot_within, State.event_within, w04, w21,
      p_flue, hW0]

theorem State.startOn_within {s : State} {n : Port} {m : Msg} {i : Option Nat} {line : Line} (w00 : W 0x00 = true) (w04 : W 0x04 = true) (w07 : W 0x07
    = true) (w08 : W 0x08 = true) (w09 : W 0x09 = true) (w13 : W 0x13 = true) (w20 : W 0x20 = true) (w21 : W 0x21 = true) (w22 : W 0x22 = true) (w23 :
    W 0x23 = true) (w24 : W 0x24 = true) (w26 : W 0x26 = true) (w27 : W 0x27 = true) (p_auth : P .auth = true) (p_boundary : P .boundary = true) (p_cc
    : P .cc = true) (p_draught : P .draught = true) (p_flue : P .flue = true) (p_fnd : P .fnd = true) (p_fresh : P .fresh = true) (p_lanes : P .lanes
    = true) (p_lp : P .lp = true) (p_msg : P .msg = true) (p_pol : P .pol = true) (p_thn : P .thn = true) (p_timers : P .timers = true) (p_vdm : P
    .vdm = true) (hW0 : Within W P s0 s) : Within W P s0 (State.startOn s n m i line) := by
  unfold State.startOn
  try dsimp only
  (repeat' split) <;> (try simp (maxDischargeDepth := 60) only [pageOf_add, pageKind_portPage, Nat.reduceAdd, Nat.reduceLT, State.queueTake_within,
      State.modMsg_within, State.frameStart_within, State.txLost_within, State.event_within, State.collision_within, w00, w04, w07, w08, w09, w13,
      w20, w21, w22, w23, w24, w26, w27, p_auth, p_boundary, p_cc, p_draught, p_flue, p_fnd, p_fresh, p_lanes, p_lp, p_msg, p_pol, p_thn, p_timers,
      p_vdm, hW0])

theorem State.turnOf_within {s : State} {n : Port} {m : Msg} {i : Option Nat} {line : Line} (w00 : W 0x00 = true) (w04 : W 0x04 = true) (w07 : W 0x07
    = true) (w08 : W 0x08 = true) (w09 : W 0x09 = true) (w13 : W 0x13 = true) (w20 : W 0x20 = true) (w21 : W 0x21 = true) (w22 : W 0x22 = true) (w23 :
    W 0x23 = true) (w24 : W 0x24 = true) (w26 : W 0x26 = true) (w27 : W 0x27 = true) (p_auth : P .auth = true) (p_boundary : P .boundary = true) (p_cc
    : P .cc = true) (p_draught : P .draught = true) (p_flue : P .flue = true) (p_fnd : P .fnd = true) (p_fresh : P .fresh = true) (p_lanes : P .lanes
    = true) (p_lp : P .lp = true) (p_msg : P .msg = true) (p_pol : P .pol = true) (p_thn : P .thn = true) (p_timers : P .timers = true) (p_vdm : P
    .vdm = true) (hW0 : Within W P s0 s) : Within W P s0 (State.turnOf s n m i line) := by
  unfold State.turnOf
  try dsimp only
  (repeat' split) <;> (try simp (maxDischargeDepth := 60) only [State.queueTake_within, State.modMsg_within, State.txLost_within,
      State.countStale_within, State.startOn_within, w00, w04, w07, w08, w09, w13, w20, w21, w22, w23, w24, w26, w27, p_auth, p_boundary, p_cc,
      p_draught, p_flue, p_fnd, p_fresh, p_lanes, p_lp, p_msg, p_pol, p_thn, p_timers, p_vdm, hW0])

theorem State.turnAt_within {s : State} {n : Port} {i : Option Nat} {line : Line} (w00 : W 0x00 = true) (w04 : W 0x04 = true) (w07 : W 0x07 = true)
    (w08 : W 0x08 = true) (w09 : W 0x09 = true) (w13 : W 0x13 = true) (w20 : W 0x20 = true) (w21 : W 0x21 = true) (w22 : W 0x22 = true) (w23 : W 0x23
    = true) (w24 : W 0x24 = true) (w26 : W 0x26 = true) (w27 : W 0x27 = true) (p_auth : P .auth = true) (p_boundary : P .boundary = true) (p_cc : P
    .cc = true) (p_draught : P .draught = true) (p_flue : P .flue = true) (p_fnd : P .fnd = true) (p_fresh : P .fresh = true) (p_lanes : P .lanes =
    true) (p_lp : P .lp = true) (p_msg : P .msg = true) (p_pol : P .pol = true) (p_thn : P .thn = true) (p_timers : P .timers = true) (p_vdm : P .vdm
    = true) (hW0 : Within W P s0 s) : Within W P s0 (State.turnAt s n i line) := by
  unfold State.turnAt
  try dsimp only
  (repeat' split) <;> (try simp (maxDischargeDepth := 60) only [State.turnOf_within, w00, w04, w07, w08, w09, w13, w20, w21, w22, w23, w24, w26, w27,
      p_auth, p_boundary, p_cc, p_draught, p_flue, p_fnd, p_fresh, p_lanes, p_lp, p_msg, p_pol, p_thn, p_timers, p_vdm, hW0])

theorem State.turnAside_within {s : State} {n : Port} {line : Line} (w00 : W 0x00 = true) (w04 : W 0x04 = true) (w07 : W 0x07 = true) (w08 : W 0x08 =
    true) (w09 : W 0x09 = true) (w13 : W 0x13 = true) (w20 : W 0x20 = true) (w21 : W 0x21 = true) (w22 : W 0x22 = true) (w23 : W 0x23 = true) (w24 : W
    0x24 = true) (w26 : W 0x26 = true) (w27 : W 0x27 = true) (p_auth : P .auth = true) (p_boundary : P .boundary = true) (p_cc : P .cc = true)
    (p_draught : P .draught = true) (p_flue : P .flue = true) (p_fnd : P .fnd = true) (p_fresh : P .fresh = true) (p_lanes : P .lanes = true) (p_lp :
    P .lp = true) (p_msg : P .msg = true) (p_pol : P .pol = true) (p_thn : P .thn = true) (p_timers : P .timers = true) (p_vdm : P .vdm = true) (hW0 :
    Within W P s0 s) : Within W P s0 (State.turnAside s n line) := by
  unfold State.turnAside
  try dsimp only
  (repeat' split) <;> (try simp (maxDischargeDepth := 60) only [State.modMsg_within, State.turnAt_within, w00, w04, w07, w08, w09, w13, w20, w21, w22,
      w23, w24, w26, w27, p_auth, p_boundary, p_cc, p_draught, p_flue, p_fnd, p_fresh, p_lanes, p_lp, p_msg, p_pol, p_thn, p_timers, p_vdm, hW0])

theorem State.sinkSample_within {s : State} {n : Port} (w21 : W 0x21 = true) (p_msg : P .msg = true) (hW0 : Within W P s0 s) : Within W P s0
    (State.sinkSample s n) := by
  unfold State.sinkSample
  try dsimp only
  simp (maxDischargeDepth := 60) only [and_self, implies_true, within_ite, pageOf_add, pageKind_portPage, Nat.reduceAdd, Nat.reduceLT,
      State.setB_within, State.modMsg_within, w21, p_msg, hW0]

theorem State.messageTurn_within {s : State} {n : Port} {line : Line} (w00 : W 0x00 = true) (w04 : W 0x04 = true) (w07 : W 0x07 = true) (w08 : W 0x08
    = true) (w09 : W 0x09 = true) (w13 : W 0x13 = true) (w20 : W 0x20 = true) (w21 : W 0x21 = true) (w22 : W 0x22 = true) (w23 : W 0x23 = true) (w24 :
    W 0x24 = true) (w26 : W 0x26 = true) (w27 : W 0x27 = true) (p_auth : P .auth = true) (p_boundary : P .boundary = true) (p_cc : P .cc = true)
    (p_draught : P .draught = true) (p_flue : P .flue = true) (p_fnd : P .fnd = true) (p_fresh : P .fresh = true) (p_lanes : P .lanes = true) (p_lp :
    P .lp = true) (p_msg : P .msg = true) (p_pol : P .pol = true) (p_thn : P .thn = true) (p_timers : P .timers = true) (p_vdm : P .vdm = true) (hW0 :
    Within W P s0 s) : Within W P s0 (State.messageTurn s n line) := by
  unfold State.messageTurn
  try dsimp only
  (repeat' split) <;> (try simp (maxDischargeDepth := 60) only [State.turnOf_within, State.txLost_within, State.modMsg_within, State.turnAside_within,
      State.sourceNg_within, State.sinkSample_within, State.turnAt_within, w00, w04, w07, w08, w09, w13, w20, w21, w22, w23, w24, w26, w27, p_auth,
      p_boundary, p_cc, p_draught, p_flue, p_fnd, p_fresh, p_lanes, p_lp, p_msg, p_pol, p_thn, p_timers, p_vdm, hW0])

theorem State.flushLost_within {s : State} {n : Port} {m : Msg} (w00 : W 0x00 = true) (w04 : W 0x04 = true) (w07 : W 0x07 = true) (w08 : W 0x08 =
    true) (w09 : W 0x09 = true) (w13 : W 0x13 = true) (w20 : W 0x20 = true) (w21 : W 0x21 = true) (w22 : W 0x22 = true) (w23 : W 0x23 = true) (w24 : W
    0x24 = true) (w26 : W 0x26 = true) (w27 : W 0x27 = true) (p_auth : P .auth = true) (p_boundary : P .boundary = true) (p_cc : P .cc = true)
    (p_draught : P .draught = true) (p_flue : P .flue = true) (p_fnd : P .fnd = true) (p_fresh : P .fresh = true) (p_lanes : P .lanes = true) (p_lp :
    P .lp = true) (p_msg : P .msg = true) (p_pol : P .pol = true) (p_thn : P .thn = true) (p_timers : P .timers = true) (p_vdm : P .vdm = true) (hW0 :
    Within W P s0 s) : Within W P s0 (State.flushLost s n m) := by
  unfold State.flushLost
  try dsimp only
  (repeat' split) <;> (try simp (maxDischargeDepth := 60) only [State.amsStop_within, State.modPol_within, State.vdmAskEnd_within,
      State.txLost_within, w00, w04, w07, w08, w09, w13, w20, w21, w22, w23, w24, w26, w27, p_auth, p_boundary, p_cc, p_draught, p_flue, p_fnd,
      p_fresh, p_lanes, p_lp, p_msg, p_pol, p_thn, p_timers, p_vdm, hW0])

theorem State.msgFlush_within {s : State} {n : Port} {epoch : Nat} (w00 : W 0x00 = true) (w04 : W 0x04 = true) (w07 : W 0x07 = true) (w08 : W 0x08 =
    true) (w09 : W 0x09 = true) (w13 : W 0x13 = true) (w20 : W 0x20 = true) (w21 : W 0x21 = true) (w22 : W 0x22 = true) (w23 : W 0x23 = true) (w24 : W
    0x24 = true) (w26 : W 0x26 = true) (w27 : W 0x27 = true) (p_auth : P .auth = true) (p_boundary : P .boundary = true) (p_cc : P .cc = true)
    (p_draught : P .draught = true) (p_flue : P .flue = true) (p_fnd : P .fnd = true) (p_fresh : P .fresh = true) (p_lanes : P .lanes = true) (p_lp :
    P .lp = true) (p_msg : P .msg = true) (p_pol : P .pol = true) (p_thn : P .thn = true) (p_timers : P .timers = true) (p_vdm : P .vdm = true) (hW0 :
    Within W P s0 s) : Within W P s0 (State.msgFlush s n epoch) := by
  unfold State.msgFlush
  try dsimp only
  simp (maxDischargeDepth := 60) only [and_self, implies_true, within_refl, within_ite, pageOf_add, within_foldl, pageKind_portPage, Nat.reduceAdd,
      Nat.reduceLT, State.flushLost_within, State.dropQueue_within, State.soot_within, State.eventHost_within, w00, w04, w07, w08, w09, w13, w20, w21,
      w22, w23, w24, w26, w27, p_auth, p_boundary, p_cc, p_draught, p_flue, p_fnd, p_fresh, p_lanes, p_lp, p_msg, p_pol, p_thn, p_timers, p_vdm, hW0]

theorem execMsgFlush_within {n : Port} {epoch : BitVec 8} {s : State} (w00 : W 0x00 = true) (w04 : W 0x04 = true) (w07 : W 0x07 = true) (w08 : W 0x08
    = true) (w09 : W 0x09 = true) (w13 : W 0x13 = true) (w20 : W 0x20 = true) (w21 : W 0x21 = true) (w22 : W 0x22 = true) (w23 : W 0x23 = true) (w24 :
    W 0x24 = true) (w26 : W 0x26 = true) (w27 : W 0x27 = true) (p_auth : P .auth = true) (p_boundary : P .boundary = true) (p_cc : P .cc = true)
    (p_draught : P .draught = true) (p_flue : P .flue = true) (p_fnd : P .fnd = true) (p_fresh : P .fresh = true) (p_lanes : P .lanes = true) (p_lp :
    P .lp = true) (p_msg : P .msg = true) (p_pol : P .pol = true) (p_thn : P .thn = true) (p_timers : P .timers = true) (p_vdm : P .vdm = true) {t :
    State} (e : execMsgFlush n epoch s = .next t) : Within W P s t := by
  unfold execMsgFlush at e
  try dsimp only at e
  cases e
  simp (maxDischargeDepth := 60) only [implies_true, within_refl, State.answered_within, State.msgFlush_within, w00, w04, w07, w08, w09, w13, w20,
      w21, w22, w23, w24, w26, w27, p_auth, p_boundary, p_cc, p_draught, p_flue, p_fnd, p_fresh, p_lanes, p_lp, p_msg, p_pol, p_thn, p_timers, p_vdm]

theorem State.acknowledged_within {s : State} {n : Port} {m : Msg} (w04 : W 0x04 = true) (w08 : W 0x08 = true) (w0F : W 0x0F = true) (w13 : W 0x13 =
    true) (w20 : W 0x20 = true) (w21 : W 0x21 = true) (w22 : W 0x22 = true) (w23 : W 0x23 = true) (w24 : W 0x24 = true) (w26 : W 0x26 = true)
    (p_boundary : P .boundary = true) (p_cc : P .cc = true) (p_draught : P .draught = true) (p_flue : P .flue = true) (p_hA : P .hA = true) (p_hB : P
    .hB = true) (p_lanes : P .lanes = true) (p_lp : P .lp = true) (p_msg : P .msg = true) (p_pol : P .pol = true) (p_thn : P .thn = true) (p_timers :
    P .timers = true) (p_vdm : P .vdm = true) (hW0 : Within W P s0 s) : Within W P s0 (State.acknowledged s n m) := by
  unfold State.acknowledged
  try dsimp only
  simp (maxDischargeDepth := 60) only [and_self, implies_true, within_ite, pageOf_add, pageKind_portPage, Nat.reduceAdd, Nat.reduceLT,
      State.awaitEnd_within, State.modMsg_within, State.start_within, State.set_within, State.delivered_within, w04, w08, w0F, w13, w20, w21, w22,
      w23, w24, w26, p_boundary, p_cc, p_draught, p_flue, p_hA, p_hB, p_lanes, p_lp, p_msg, p_pol, p_thn, p_timers, p_vdm, hW0]

theorem State.rxCollision_within {s : State} {n : Port} (w00 : W 0x00 = true) (w04 : W 0x04 = true) (w07 : W 0x07 = true) (w08 : W 0x08 = true) (w09 :
    W 0x09 = true) (w13 : W 0x13 = true) (w20 : W 0x20 = true) (w21 : W 0x21 = true) (w22 : W 0x22 = true) (w23 : W 0x23 = true) (w24 : W 0x24 = true)
    (w26 : W 0x26 = true) (w27 : W 0x27 = true) (p_auth : P .auth = true) (p_boundary : P .boundary = true) (p_cc : P .cc = true) (p_draught : P
    .draught = true) (p_flue : P .flue = true) (p_fnd : P .fnd = true) (p_fresh : P .fresh = true) (p_lanes : P .lanes = true) (p_lp : P .lp = true)
    (p_msg : P .msg = true) (p_pol : P .pol = true) (p_thn : P .thn = true) (p_timers : P .timers = true) (p_vdm : P .vdm = true) (hW0 : Within W P s0
    s) : Within W P s0 (State.rxCollision s n) := by
  unfold State.rxCollision
  try dsimp only
  (repeat' split) <;> (try simp (maxDischargeDepth := 60) only [State.txLost_within, State.collision_within, State.modMsg_within,
      State.awaitEnd_within, w00, w04, w07, w08, w09, w13, w20, w21, w22, w23, w24, w26, w27, p_auth, p_boundary, p_cc, p_draught, p_flue, p_fnd,
      p_fresh, p_lanes, p_lp, p_msg, p_pol, p_thn, p_timers, p_vdm, hW0])

theorem State.revFix_within {s : State} {n : Port} {sop : Nat} {rev : Nat} (w21 : W 0x21 = true) (p_flue : P .flue = true) (hW0 : Within W P s0 s) :
    Within W P s0 (State.revFix s n sop rev) := by
  unfold State.revFix
  try dsimp only
  (repeat' split) <;> (try simp (maxDischargeDepth := 60) only [pageOf_add, pageKind_portPage, Nat.reduceAdd, Nat.reduceLT, State.event_within,
      State.set_within, w21, p_flue, hW0])

theorem State.chunkFail_within {s : State} {n : Port} (w00 : W 0x00 = true) (w04 : W 0x04 = true) (w07 : W 0x07 = true) (w08 : W 0x08 = true) (w09 : W
    0x09 = true) (w13 : W 0x13 = true) (w20 : W 0x20 = true) (w21 : W 0x21 = true) (w22 : W 0x22 = true) (w23 : W 0x23 = true) (w24 : W 0x24 = true)
    (w26 : W 0x26 = true) (w27 : W 0x27 = true) (p_auth : P .auth = true) (p_boundary : P .boundary = true) (p_cc : P .cc = true) (p_draught : P
    .draught = true) (p_flue : P .flue = true) (p_fnd : P .fnd = true) (p_fresh : P .fresh = true) (p_lanes : P .lanes = true) (p_lp : P .lp = true)
    (p_msg : P .msg = true) (p_pol : P .pol = true) (p_thn : P .thn = true) (p_timers : P .timers = true) (p_vdm : P .vdm = true) (hW0 : Within W P s0
    s) : Within W P s0 (State.chunkFail s n) := by
  unfold State.chunkFail
  try dsimp only
  (repeat' split) <;> (try simp (maxDischargeDepth := 60) only [pageOf_add, pageKind_portPage, Nat.reduceAdd, Nat.reduceLT, State.stop_within,
      State.modMsg_within, State.txFail_within, State.event_within, w00, w04, w07, w08, w09, w13, w20, w21, w22, w23, w24, w26, w27, p_auth,
      p_boundary, p_cc, p_draught, p_flue, p_fnd, p_fresh, p_lanes, p_lp, p_msg, p_pol, p_thn, p_timers, p_vdm, hW0])

theorem State.chunkAsked_within {s : State} {n : Port} {r : Msg} (w00 : W 0x00 = true) (w04 : W 0x04 = true) (w07 : W 0x07 = true) (w08 : W 0x08 =
    true) (w09 : W 0x09 = true) (w13 : W 0x13 = true) (w20 : W 0x20 = true) (w21 : W 0x21 = true) (w22 : W 0x22 = true) (w23 : W 0x23 = true) (w24 : W
    0x24 = true) (w26 : W 0x26 = true) (w27 : W 0x27 = true) (p_auth : P .auth = true) (p_boundary : P .boundary = true) (p_cc : P .cc = true)
    (p_draught : P .draught = true) (p_flue : P .flue = true) (p_fnd : P .fnd = true) (p_fresh : P .fresh = true) (p_lanes : P .lanes = true) (p_lp :
    P .lp = true) (p_msg : P .msg = true) (p_pol : P .pol = true) (p_thn : P .thn = true) (p_timers : P .timers = true) (p_vdm : P .vdm = true) (hW0 :
    Within W P s0 s) : Within W P s0 (State.chunkAsked s n r) := by
  unfold State.chunkAsked
  try dsimp only
  (repeat' split) <;> (try simp (maxDischargeDepth := 60) only [State.stop_within, State.modMsg_within, State.chunkFail_within, w00, w04, w07, w08,
      w09, w13, w20, w21, w22, w23, w24, w26, w27, p_auth, p_boundary, p_cc, p_draught, p_flue, p_fnd, p_fresh, p_lanes, p_lp, p_msg, p_pol, p_thn,
      p_timers, p_vdm, hW0])

theorem State.authSupersede_within {s : State} {n : Port} {m : Msg} (w07 : W 0x07 = true) (p_flue : P .flue = true) (p_inputs : P .inputs = true) (hW0
    : Within W P s0 s) : Within W P s0 (State.authSupersede s n m) := by
  unfold State.authSupersede
  try dsimp only
  simp (maxDischargeDepth := 60) only [and_self, implies_true, within_ite, within_mk, true_or, or_true, State.authError_within, w07, p_flue, p_inputs,
      hW0]

theorem State.toPolicy_within {s : State} {n : Port} {m : Msg} (w07 : W 0x07 = true) (p_flue : P .flue = true) (p_inputs : P .inputs = true) (hW0 :
    Within W P s0 s) : Within W P s0 (State.toPolicy s n m) := by
  unfold State.toPolicy
  try dsimp only
  simp (maxDischargeDepth := 60) only [within_mk, true_or, or_true, State.authSupersede_within, w07, p_flue, p_inputs, hW0]

theorem State.chunkIn_within {s : State} {n : Port} {m : Msg} (w07 : W 0x07 = true) (w21 : W 0x21 = true) (p_flue : P .flue = true) (p_inputs : P
    .inputs = true) (p_msg : P .msg = true) (p_timers : P .timers = true) (hW0 : Within W P s0 s) : Within W P s0 (State.chunkIn s n m) := by
  unfold State.chunkIn
  try dsimp only
  (repeat' split) <;> (try simp (maxDischargeDepth := 60) only [pageOf_add, pageKind_portPage, Nat.reduceAdd, Nat.reduceLT, State.event_within,
      State.rxStop_within, State.toPolicy_within, State.set_within, State.modMsg_within, State.stop_within, w07, w21, p_flue, p_inputs, p_msg,
      p_timers, hW0])

theorem State.frameStore_within {s : State} {n : Port} {sop : Nat} {m : Msg} (w00 : W 0x00 = true) (w04 : W 0x04 = true) (w07 : W 0x07 = true) (w08 :
    W 0x08 = true) (w09 : W 0x09 = true) (w13 : W 0x13 = true) (w20 : W 0x20 = true) (w21 : W 0x21 = true) (w22 : W 0x22 = true) (w23 : W 0x23 = true)
    (w24 : W 0x24 = true) (w26 : W 0x26 = true) (w27 : W 0x27 = true) (p_auth : P .auth = true) (p_boundary : P .boundary = true) (p_cc : P .cc =
    true) (p_draught : P .draught = true) (p_flue : P .flue = true) (p_fnd : P .fnd = true) (p_fresh : P .fresh = true) (p_inputs : P .inputs = true)
    (p_lanes : P .lanes = true) (p_lp : P .lp = true) (p_msg : P .msg = true) (p_pol : P .pol = true) (p_thn : P .thn = true) (p_timers : P .timers =
    true) (p_vdm : P .vdm = true) (hW0 : Within W P s0 s) : Within W P s0 (State.frameStore s n sop m) := by
  unfold State.frameStore
  try dsimp only
  simp (maxDischargeDepth := 60) only [and_self, implies_true, within_ite, pageOf_add, pageKind_portPage, Nat.reduceAdd, Nat.reduceLT,
      State.dropUnder_within, State.dropQueue_within, State.idReset_within, State.modMsg_within, State.goodcrcDue_within, State.revFix_within,
      State.set_within, State.event_within, State.rxStop_within, State.chunkAsked_within, State.collapse_within, State.lowWater_within,
      State.chunkIn_within, State.toPolicy_within, w00, w04, w07, w08, w09, w13, w20, w21, w22, w23, w24, w26, w27, p_auth, p_boundary, p_cc,
      p_draught, p_flue, p_fnd, p_fresh, p_inputs, p_lanes, p_lp, p_msg, p_pol, p_thn, p_timers, p_vdm, hW0]

theorem State.grantBack_within {s : State} {n : Port} (p_msg : P .msg = true) (hW0 : Within W P s0 s) : Within W P s0 (State.grantBack s n) := by
  unfold State.grantBack
  try dsimp only
  simp (maxDischargeDepth := 60) only [and_self, implies_true, within_refl, within_ite, State.allPorts_within, State.modMsg_within, p_msg, hW0]

theorem State.rxMoveHeld_within {s : State} {n : Port} {tick : Nat} (p_msg : P .msg = true) (hW0 : Within W P s0 s) : Within W P s0 (State.rxMoveHeld
    s n tick) := by
  unfold State.rxMoveHeld
  try dsimp only
  simp (maxDischargeDepth := 60) only [State.modMsg_within, p_msg, hW0]

theorem State.rxSlot_within {s : State} {n : Port} (p_inputs : P .inputs = true) (p_msg : P .msg = true) (hW0 : Within W P s0 s) : Within W P s0
    (s.rxSlot n).1 := by
  have g : Within W P s0 (if s.sharedOk n then s else s.grantBack n) := by
    split
    · exact hW0
    · apply State.grantBack_within <;> assumption
  unfold State.rxSlot
  extract_lets now t
  split
  · exact g
  · split
    · exact State.rxMoveHeld_within p_msg (by simp only [within_mk, g, p_inputs, true_or, or_true, t])
    · exact g

theorem State.frameTake_within {s : State} {n : Port} {m : Msg} (w00 : W 0x00 = true) (w04 : W 0x04 = true) (w07 : W 0x07 = true) (w08 : W 0x08 =
    true) (w09 : W 0x09 = true) (w13 : W 0x13 = true) (w20 : W 0x20 = true) (w21 : W 0x21 = true) (w22 : W 0x22 = true) (w23 : W 0x23 = true) (w24 : W
    0x24 = true) (w26 : W 0x26 = true) (w27 : W 0x27 = true) (p_auth : P .auth = true) (p_boundary : P .boundary = true) (p_cc : P .cc = true)
    (p_draught : P .draught = true) (p_flue : P .flue = true) (p_fnd : P .fnd = true) (p_fresh : P .fresh = true) (p_inputs : P .inputs = true)
    (p_lanes : P .lanes = true) (p_lp : P .lp = true) (p_msg : P .msg = true) (p_pol : P .pol = true) (p_thn : P .thn = true) (p_timers : P .timers =
    true) (p_vdm : P .vdm = true) (hW0 : Within W P s0 s) :
    Within W P s0 (s.frameTake n m) := by
  unfold State.frameTake
  extract_lets r
  have a : Within W P s0 r := by apply State.rxCollision_within <;> assumption
  have b : Within W P s0 (r.rxSlot n).1 := by apply State.rxSlot_within <;> assumption
  split
  · apply State.goodcrcDue_within <;> assumption
  · split
    · apply State.frameStore_within <;> assumption
    · split
      next t e =>
        have b' : Within W P s0 t := by rw [e] at b; exact b
        apply State.event_within <;> first
          | assumption
          | simp only [pageOf_add, pageKind_portPage, Nat.reduceLT, Nat.reduceAdd, w21]
      next t slot e =>
        have b' : Within W P s0 t := by rw [e] at b; exact b
        apply State.frameStore_within <;> assumption

theorem State.frameReceived_within {s : State} {n : Port} {f : Frame} (w00 : W 0x00 = true) (w04 : W 0x04 = true) (w07 : W 0x07 = true) (w08 : W 0x08
    = true) (w09 : W 0x09 = true) (w0F : W 0x0F = true) (w13 : W 0x13 = true) (w20 : W 0x20 = true) (w21 : W 0x21 = true) (w22 : W 0x22 = true) (w23 :
    W 0x23 = true) (w24 : W 0x24 = true) (w26 : W 0x26 = true) (w27 : W 0x27 = true) (p_auth : P .auth = true) (p_boundary : P .boundary = true) (p_cc
    : P .cc = true) (p_draught : P .draught = true) (p_flue : P .flue = true) (p_fnd : P .fnd = true) (p_fresh : P .fresh = true) (p_hA : P .hA =
    true) (p_hB : P .hB = true) (p_inputs : P .inputs = true) (p_lanes : P .lanes = true) (p_lp : P .lp = true) (p_msg : P .msg = true) (p_pol : P
    .pol = true) (p_thn : P .thn = true) (p_timers : P .timers = true) (p_vdm : P .vdm = true) (hW0 : Within W P s0 s) : Within W P s0
    (State.frameReceived s n f) := by
  unfold State.frameReceived
  try dsimp only
  (repeat' split) <;> (try simp (maxDischargeDepth := 60) only [pageOf_add, pageKind_portPage, Nat.reduceAdd, Nat.reduceLT, State.set_within,
      State.soot_within, State.event_within, State.acknowledged_within, State.frameTake_within, w00, w04, w07, w08, w09, w0F, w13, w20, w21, w22, w23,
      w24, w26, w27, p_auth, p_boundary, p_cc, p_draught, p_flue, p_fnd, p_fresh, p_hA, p_hB, p_inputs, p_lanes, p_lp, p_msg, p_pol, p_thn, p_timers,
      p_vdm, hW0])

theorem execFrameReceived_within {n : Port} {frame : Frame} {s : State} (w00 : W 0x00 = true) (w04 : W 0x04 = true) (w07 : W 0x07 = true) (w08 : W
    0x08 = true) (w09 : W 0x09 = true) (w0F : W 0x0F = true) (w13 : W 0x13 = true) (w20 : W 0x20 = true) (w21 : W 0x21 = true) (w22 : W 0x22 = true)
    (w23 : W 0x23 = true) (w24 : W 0x24 = true) (w26 : W 0x26 = true) (w27 : W 0x27 = true) (p_auth : P .auth = true) (p_boundary : P .boundary =
    true) (p_cc : P .cc = true) (p_draught : P .draught = true) (p_flue : P .flue = true) (p_fnd : P .fnd = true) (p_fresh : P .fresh = true) (p_hA :
    P .hA = true) (p_hB : P .hB = true) (p_inputs : P .inputs = true) (p_lanes : P .lanes = true) (p_lp : P .lp = true) (p_msg : P .msg = true) (p_pol
    : P .pol = true) (p_thn : P .thn = true) (p_timers : P .timers = true) (p_vdm : P .vdm = true) {t : State} (e : execFrameReceived n frame s =
    .next t) : Within W P s t := by
  unfold execFrameReceived at e
  try dsimp only at e
  cases e
  simp (maxDischargeDepth := 60) only [within_refl, State.frameReceived_within, w00, w04, w07, w08, w09, w0F, w13, w20, w21, w22, w23, w24, w26, w27,
      p_auth, p_boundary, p_cc, p_draught, p_flue, p_fnd, p_fresh, p_hA, p_hB, p_inputs, p_lanes, p_lp, p_msg, p_pol, p_thn, p_timers, p_vdm]

theorem State.msgConfigWrite_within {s : State} {n : Port} {pool : Bool} {v : Word} (w21 : W 0x21 = true) (p_flue : P .flue = true) (hW0 : Within W P
    s0 s) : Within W P s0 (State.msgConfigWrite s n pool v) := by
  unfold State.msgConfigWrite
  try dsimp only
  simp (maxDischargeDepth := 60) only [and_self, implies_true, within_ite, pageOf_add, pageKind_portPage, Nat.reduceAdd, Nat.reduceLT,
      State.eventHost_within, State.set_within, w21, p_flue, hW0]

theorem execMsgConfigWrite_within {n : Port} {pool : Bool} {value : Word} {s : State} (w21 : W 0x21 = true) (p_flue : P .flue = true) {t : State} (e :
    execMsgConfigWrite n pool value s = .next t) : Within W P s t := by
  unfold execMsgConfigWrite at e
  try dsimp only at e
  cases e
  simp (maxDischargeDepth := 60) only [implies_true, within_refl, State.answered_within, State.msgConfigWrite_within, w21, p_flue]

theorem State.withdraw_within {s : State} {n : Port} {k : Nat} (w20 : W 0x20 = true) (w21 : W 0x21 = true) (w22 : W 0x22 = true) (p_boundary : P
    .boundary = true) (p_cc : P .cc = true) (p_flue : P .flue = true) (p_msg : P .msg = true) (p_pol : P .pol = true) (p_timers : P .timers = true)
    (hW0 : Within W P s0 s) : Within W P s0 (State.withdraw s n k) := by
  unfold State.withdraw
  try dsimp only
  (repeat' split) <;> (try simp (maxDischargeDepth := 60) only [State.draftDrop_within, State.queueTake_within, w20, w21, w22, p_boundary, p_cc,
      p_flue, p_msg, p_pol, p_timers, hW0])

theorem State.chunkRecvTimeout_within {s : State} {n : Port} (w21 : W 0x21 = true) (p_flue : P .flue = true) (p_msg : P .msg = true) (p_timers : P
    .timers = true) (hW0 : Within W P s0 s) : Within W P s0 (State.chunkRecvTimeout s n) := by
  unfold State.chunkRecvTimeout
  try dsimp only
  simp (maxDischargeDepth := 60) only [and_self, implies_true, within_ite, pageOf_add, pageKind_portPage, Nat.reduceAdd, Nat.reduceLT,
      State.event_within, State.rxStop_within, w21, p_flue, p_msg, p_timers, hW0]

theorem State.transmitTurn_within {s : State} {n : Port} {line : Line} (w00 : W 0x00 = true) (w04 : W 0x04 = true) (w07 : W 0x07 = true) (w08 : W 0x08
    = true) (w09 : W 0x09 = true) (w13 : W 0x13 = true) (w20 : W 0x20 = true) (w21 : W 0x21 = true) (w22 : W 0x22 = true) (w23 : W 0x23 = true) (w24 :
    W 0x24 = true) (w26 : W 0x26 = true) (w27 : W 0x27 = true) (p_auth : P .auth = true) (p_boundary : P .boundary = true) (p_cc : P .cc = true)
    (p_draught : P .draught = true) (p_flue : P .flue = true) (p_fnd : P .fnd = true) (p_fresh : P .fresh = true) (p_lanes : P .lanes = true) (p_lp :
    P .lp = true) (p_msg : P .msg = true) (p_pol : P .pol = true) (p_thn : P .thn = true) (p_timers : P .timers = true) (p_vdm : P .vdm = true) (hW0 :
    Within W P s0 s) : Within W P s0 (State.transmitTurn s n line) := by
  unfold State.transmitTurn
  try dsimp only
  (repeat' split) <;> (try simp (maxDischargeDepth := 60) only [State.signalStart_within, State.stop_within, State.modMsg_within,
      State.messageTurn_within, State.turnAside_within, w00, w04, w07, w08, w09, w13, w20, w21, w22, w23, w24, w26, w27, p_auth, p_boundary, p_cc,
      p_draught, p_flue, p_fnd, p_fresh, p_lanes, p_lp, p_msg, p_pol, p_thn, p_timers, p_vdm, hW0])

theorem execTransmitTurn_within {n : Port} {line : Line} {s : State} (w00 : W 0x00 = true) (w04 : W 0x04 = true) (w07 : W 0x07 = true) (w08 : W 0x08 =
    true) (w09 : W 0x09 = true) (w13 : W 0x13 = true) (w20 : W 0x20 = true) (w21 : W 0x21 = true) (w22 : W 0x22 = true) (w23 : W 0x23 = true) (w24 : W
    0x24 = true) (w26 : W 0x26 = true) (w27 : W 0x27 = true) (p_auth : P .auth = true) (p_boundary : P .boundary = true) (p_cc : P .cc = true)
    (p_draught : P .draught = true) (p_flue : P .flue = true) (p_fnd : P .fnd = true) (p_fresh : P .fresh = true) (p_lanes : P .lanes = true) (p_lp :
    P .lp = true) (p_msg : P .msg = true) (p_pol : P .pol = true) (p_thn : P .thn = true) (p_timers : P .timers = true) (p_vdm : P .vdm = true) {t :
    State} (e : execTransmitTurn n line s = .next t) : Within W P s t := by
  unfold execTransmitTurn at e
  try dsimp only at e
  cases e
  simp (maxDischargeDepth := 60) only [within_refl, State.transmitTurn_within, w00, w04, w07, w08, w09, w13, w20, w21, w22, w23, w24, w26, w27,
      p_auth, p_boundary, p_cc, p_draught, p_flue, p_fnd, p_fresh, p_lanes, p_lp, p_msg, p_pol, p_thn, p_timers, p_vdm]

theorem execHardResetReceived_within {n : Port} {s : State} (w00 : W 0x00 = true) (w04 : W 0x04 = true) (w07 : W 0x07 = true) (w08 : W 0x08 = true)
    (w09 : W 0x09 = true) (w0F : W 0x0F = true) (w13 : W 0x13 = true) (w20 : W 0x20 = true) (w21 : W 0x21 = true) (w22 : W 0x22 = true) (w23 : W 0x23
    = true) (w24 : W 0x24 = true) (w26 : W 0x26 = true) (w27 : W 0x27 = true) (p_auth : P .auth = true) (p_boundary : P .boundary = true) (p_cc : P
    .cc = true) (p_draught : P .draught = true) (p_flue : P .flue = true) (p_fnd : P .fnd = true) (p_fresh : P .fresh = true) (p_hA : P .hA = true)
    (p_hB : P .hB = true) (p_inputs : P .inputs = true) (p_lanes : P .lanes = true) (p_lp : P .lp = true) (p_msg : P .msg = true) (p_pol : P .pol =
    true) (p_thn : P .thn = true) (p_timers : P .timers = true) (p_vdm : P .vdm = true) {t : State} (e : execHardResetReceived n s = .next t) : Within
    W P s t := by
  unfold execHardResetReceived at e
  try dsimp only at e
  cases e
  simp (maxDischargeDepth := 60) only [within_refl, State.hardResetReceived_within, State.policyBefore_within, w00, w04, w07, w08, w09, w0F, w13, w20,
      w21, w22, w23, w24, w26, w27, p_auth, p_boundary, p_cc, p_draught, p_flue, p_fnd, p_fresh, p_hA, p_hB, p_inputs, p_lanes, p_lp, p_msg, p_pol,
      p_thn, p_timers, p_vdm]

theorem execGoodcrcTransmit_within {n : Port} {s : State} (w20 : W 0x20 = true) (w21 : W 0x21 = true) (p_boundary : P .boundary = true) (p_cc : P .cc
    = true) (p_msg : P .msg = true) (p_timers : P .timers = true) {t : State} (e : execGoodcrcTransmit n s = .next t) : Within W P s t := by
  unfold execGoodcrcTransmit at e
  try dsimp only at e
  cases e
  simp (maxDischargeDepth := 60) only [within_refl, State.goodcrcTransmit_within, w20, w21, p_boundary, p_cc, p_msg, p_timers]

theorem State.cableResetSent_within {s : State} {n : Port} (w00 : W 0x00 = true) (w04 : W 0x04 = true) (w20 : W 0x20 = true) (w21 : W 0x21 = true)
    (w22 : W 0x22 = true) (w23 : W 0x23 = true) (p_boundary : P .boundary = true) (p_flue : P .flue = true) (p_msg : P .msg = true) (p_timers : P
    .timers = true) (hW0 : Within W P s0 s) : Within W P s0 (State.cableResetSent s n) := by
  unfold State.cableResetSent
  try dsimp only
  simp (maxDischargeDepth := 60) only [and_true, pageOf_lit, pageKind_lit, Nat.reduceDiv, Nat.reduceLeDiff, Nat.reduceAdd, Nat.reduceMod, if_false,
      State.revsClear_within, State.dropQueue_within, State.idReset_within, State.set_within, State.start_within, State.vconnOff_within, w00, w04,
      w20, w21, w22, w23, p_boundary, p_flue, p_msg, p_timers, hW0]

theorem State.goodcrcSent_within {s : State} {n : Port} (w00 : W 0x00 = true) (w04 : W 0x04 = true) (w07 : W 0x07 = true) (w08 : W 0x08 = true) (w09 :
    W 0x09 = true) (w0F : W 0x0F = true) (w13 : W 0x13 = true) (w20 : W 0x20 = true) (w21 : W 0x21 = true) (w22 : W 0x22 = true) (w23 : W 0x23 = true)
    (w24 : W 0x24 = true) (w26 : W 0x26 = true) (w27 : W 0x27 = true) (p_auth : P .auth = true) (p_boundary : P .boundary = true) (p_cc : P .cc =
    true) (p_draught : P .draught = true) (p_flue : P .flue = true) (p_fnd : P .fnd = true) (p_fresh : P .fresh = true) (p_hA : P .hA = true) (p_hB :
    P .hB = true) (p_inputs : P .inputs = true) (p_lanes : P .lanes = true) (p_lp : P .lp = true) (p_msg : P .msg = true) (p_pol : P .pol = true)
    (p_thn : P .thn = true) (p_timers : P .timers = true) (p_vdm : P .vdm = true) (hW0 : Within W P s0 s) : Within W P s0 (State.goodcrcSent s n) :=
    by
  unfold State.goodcrcSent
  try dsimp only
  (repeat' split) <;> (try simp (maxDischargeDepth := 60) only [State.ackActs_within, State.handover_within, State.modMsg_within, w00, w04, w07, w08,
      w09, w0F, w13, w20, w21, w22, w23, w24, w26, w27, p_auth, p_boundary, p_cc, p_draught, p_flue, p_fnd, p_fresh, p_hA, p_hB, p_inputs, p_lanes,
      p_lp, p_msg, p_pol, p_thn, p_timers, p_vdm, hW0])

theorem State.eopSent_within {s : State} {n : Port} (w00 : W 0x00 = true) (w04 : W 0x04 = true) (w07 : W 0x07 = true) (w08 : W 0x08 = true) (w09 : W
    0x09 = true) (w0F : W 0x0F = true) (w13 : W 0x13 = true) (w20 : W 0x20 = true) (w21 : W 0x21 = true) (w22 : W 0x22 = true) (w23 : W 0x23 = true)
    (w24 : W 0x24 = true) (w26 : W 0x26 = true) (w27 : W 0x27 = true) (p_auth : P .auth = true) (p_boundary : P .boundary = true) (p_cc : P .cc =
    true) (p_draught : P .draught = true) (p_flue : P .flue = true) (p_fnd : P .fnd = true) (p_fresh : P .fresh = true) (p_hA : P .hA = true) (p_hB :
    P .hB = true) (p_inputs : P .inputs = true) (p_lanes : P .lanes = true) (p_lp : P .lp = true) (p_msg : P .msg = true) (p_pol : P .pol = true)
    (p_thn : P .thn = true) (p_timers : P .timers = true) (p_vdm : P .vdm = true) (hW0 : Within W P s0 s) : Within W P s0 (State.eopSent s n) := by
  unfold State.eopSent
  try dsimp only
  (repeat' split) <;> (try simp (maxDischargeDepth := 60) only [pageOf_add, pageKind_portPage, Nat.reduceAdd, Nat.reduceLT, State.divShow_within,
      State.set_within, State.busyOff_within, State.modMsg_within, State.hardResetBegin_within, State.modPol_within, State.cableResetSent_within,
      State.goodcrcSent_within, State.start_within, w00, w04, w07, w08, w09, w0F, w13, w20, w21, w22, w23, w24, w26, w27, p_auth, p_boundary, p_cc,
      p_draught, p_flue, p_fnd, p_fresh, p_hA, p_hB, p_inputs, p_lanes, p_lp, p_msg, p_pol, p_thn, p_timers, p_vdm, hW0])

theorem execEopSent_within {n : Port} {s : State} (w00 : W 0x00 = true) (w04 : W 0x04 = true) (w07 : W 0x07 = true) (w08 : W 0x08 = true) (w09 : W
    0x09 = true) (w0F : W 0x0F = true) (w13 : W 0x13 = true) (w20 : W 0x20 = true) (w21 : W 0x21 = true) (w22 : W 0x22 = true) (w23 : W 0x23 = true)
    (w24 : W 0x24 = true) (w26 : W 0x26 = true) (w27 : W 0x27 = true) (p_auth : P .auth = true) (p_boundary : P .boundary = true) (p_cc : P .cc =
    true) (p_draught : P .draught = true) (p_flue : P .flue = true) (p_fnd : P .fnd = true) (p_fresh : P .fresh = true) (p_hA : P .hA = true) (p_hB :
    P .hB = true) (p_inputs : P .inputs = true) (p_lanes : P .lanes = true) (p_lp : P .lp = true) (p_msg : P .msg = true) (p_pol : P .pol = true)
    (p_thn : P .thn = true) (p_timers : P .timers = true) (p_vdm : P .vdm = true) {t : State} (e : execEopSent n s = .next t) : Within W P s t := by
  unfold execEopSent at e
  try dsimp only at e
  cases e
  simp (maxDischargeDepth := 60) only [within_refl, State.eopSent_within, w00, w04, w07, w08, w09, w0F, w13, w20, w21, w22, w23, w24, w26, w27,
      p_auth, p_boundary, p_cc, p_draught, p_flue, p_fnd, p_fresh, p_hA, p_hB, p_inputs, p_lanes, p_lp, p_msg, p_pol, p_thn, p_timers, p_vdm]

theorem State.vconnRestore_within {s : State} {n : Port} (w20 : W 0x20 = true) (w21 : W 0x21 = true) (w22 : W 0x22 = true) (w23 : W 0x23 = true)
    (p_boundary : P .boundary = true) (p_cc : P .cc = true) (p_flue : P .flue = true) (p_msg : P .msg = true) (p_timers : P .timers = true) (p_vdm : P
    .vdm = true) (hW0 : Within W P s0 s) : Within W P s0 (State.vconnRestore s n) := by
  unfold State.vconnRestore
  try dsimp only
  simp (maxDischargeDepth := 60) only [and_self, implies_true, within_ite, State.cableIdentify_within, State.vconnOn_within, State.stop_within, w20,
      w21, w22, w23, p_boundary, p_cc, p_flue, p_msg, p_timers, p_vdm, hW0]

theorem execVconnRestoreAfterCableReset_within {n : Port} {s : State} (w00 : W 0x00 = true) (w04 : W 0x04 = true) (w07 : W 0x07 = true) (w08 : W 0x08
    = true) (w09 : W 0x09 = true) (w0F : W 0x0F = true) (w13 : W 0x13 = true) (w20 : W 0x20 = true) (w21 : W 0x21 = true) (w22 : W 0x22 = true) (w23 :
    W 0x23 = true) (w24 : W 0x24 = true) (w26 : W 0x26 = true) (w27 : W 0x27 = true) (p_auth : P .auth = true) (p_boundary : P .boundary = true) (p_cc
    : P .cc = true) (p_draught : P .draught = true) (p_flue : P .flue = true) (p_fnd : P .fnd = true) (p_fresh : P .fresh = true) (p_hA : P .hA =
    true) (p_hB : P .hB = true) (p_inputs : P .inputs = true) (p_lanes : P .lanes = true) (p_lp : P .lp = true) (p_msg : P .msg = true) (p_pol : P
    .pol = true) (p_thn : P .thn = true) (p_timers : P .timers = true) (p_vdm : P .vdm = true) {t : State} (e : execVconnRestoreAfterCableReset n s =
    .next t) : Within W P s t := by
  unfold execVconnRestoreAfterCableReset at e
  try dsimp only at e
  cases e
  simp (maxDischargeDepth := 60) only [within_refl, State.vconnRestore_within, State.policyBefore_within, w00, w04, w07, w08, w09, w0F, w13, w20, w21,
      w22, w23, w24, w26, w27, p_auth, p_boundary, p_cc, p_draught, p_flue, p_fnd, p_fresh, p_hA, p_hB, p_inputs, p_lanes, p_lp, p_msg, p_pol, p_thn,
      p_timers, p_vdm]

theorem State.cableResetRequest_within {s : State} {n : Port} (w00 : W 0x00 = true) (w04 : W 0x04 = true) (w07 : W 0x07 = true) (w08 : W 0x08 = true)
    (w09 : W 0x09 = true) (w13 : W 0x13 = true) (w20 : W 0x20 = true) (w21 : W 0x21 = true) (w22 : W 0x22 = true) (w23 : W 0x23 = true) (w24 : W 0x24
    = true) (w26 : W 0x26 = true) (w27 : W 0x27 = true) (p_auth : P .auth = true) (p_boundary : P .boundary = true) (p_cc : P .cc = true) (p_draught :
    P .draught = true) (p_flue : P .flue = true) (p_fnd : P .fnd = true) (p_fresh : P .fresh = true) (p_lanes : P .lanes = true) (p_lp : P .lp = true)
    (p_msg : P .msg = true) (p_pol : P .pol = true) (p_thn : P .thn = true) (p_timers : P .timers = true) (p_vdm : P .vdm = true) (hW0 : Within W P s0
    s) : Within W P s0 (State.cableResetRequest s n) := by
  unfold State.cableResetRequest
  try dsimp only
  (repeat' split) <;> (try simp (maxDischargeDepth := 60) only [State.modMsg_within, State.frameAbort_within, State.start_within, State.modPol_within,
      State.txLost_within, w00, w04, w07, w08, w09, w13, w20, w21, w22, w23, w24, w26, w27, p_auth, p_boundary, p_cc, p_draught, p_flue, p_fnd,
      p_fresh, p_lanes, p_lp, p_msg, p_pol, p_thn, p_timers, p_vdm, hW0])

theorem execMessageWithdraw_within {which : QueuePlace} {s : State} (w20 : W 0x20 = true) (w21 : W 0x21 = true) (w22 : W 0x22 = true) (p_boundary : P
    .boundary = true) (p_cc : P .cc = true) (p_flue : P .flue = true) (p_msg : P .msg = true) (p_pol : P .pol = true) (p_timers : P .timers = true) {t
    : State} (e : execMessageWithdraw which s = .next t) : Within W P s t := by
  unfold execMessageWithdraw at e
  try dsimp only at e
  cases e
  simp (maxDischargeDepth := 60) only [within_refl, State.withdraw_within, w20, w21, w22, p_boundary, p_cc, p_flue, p_msg, p_pol, p_timers]

theorem State.tReceiveExpiry_within {s : State} {n : Port} (w00 : W 0x00 = true) (w04 : W 0x04 = true) (w07 : W 0x07 = true) (w08 : W 0x08 = true)
    (w09 : W 0x09 = true) (w13 : W 0x13 = true) (w20 : W 0x20 = true) (w21 : W 0x21 = true) (w22 : W 0x22 = true) (w23 : W 0x23 = true) (w24 : W 0x24
    = true) (w26 : W 0x26 = true) (w27 : W 0x27 = true) (p_auth : P .auth = true) (p_boundary : P .boundary = true) (p_cc : P .cc = true) (p_draught :
    P .draught = true) (p_flue : P .flue = true) (p_fnd : P .fnd = true) (p_fresh : P .fresh = true) (p_lanes : P .lanes = true) (p_lp : P .lp = true)
    (p_msg : P .msg = true) (p_pol : P .pol = true) (p_thn : P .thn = true) (p_timers : P .timers = true) (p_vdm : P .vdm = true) (hW0 : Within W P s0
    s) : Within W P s0 (State.tReceiveExpiry s n) := by
  unfold State.tReceiveExpiry
  try dsimp only
  (repeat' split) <;> (try simp (maxDischargeDepth := 60) only [pageOf_add, pageKind_portPage, Nat.reduceAdd, Nat.reduceLT, State.awaitEnd_within,
      State.modMsg_within, State.txFail_within, State.soot_within, State.event_within, w00, w04, w07, w08, w09, w13, w20, w21, w22, w23, w24, w26,
      w27, p_auth, p_boundary, p_cc, p_draught, p_flue, p_fnd, p_fresh, p_lanes, p_lp, p_msg, p_pol, p_thn, p_timers, p_vdm, hW0])

theorem execChunkSenderTimeout_within {n : Port} {s : State} (w00 : W 0x00 = true) (w04 : W 0x04 = true) (w07 : W 0x07 = true) (w08 : W 0x08 = true)
    (w09 : W 0x09 = true) (w13 : W 0x13 = true) (w20 : W 0x20 = true) (w21 : W 0x21 = true) (w22 : W 0x22 = true) (w23 : W 0x23 = true) (w24 : W 0x24
    = true) (w26 : W 0x26 = true) (w27 : W 0x27 = true) (p_auth : P .auth = true) (p_boundary : P .boundary = true) (p_cc : P .cc = true) (p_draught :
    P .draught = true) (p_flue : P .flue = true) (p_fnd : P .fnd = true) (p_fresh : P .fresh = true) (p_lanes : P .lanes = true) (p_lp : P .lp = true)
    (p_msg : P .msg = true) (p_pol : P .pol = true) (p_thn : P .thn = true) (p_timers : P .timers = true) (p_vdm : P .vdm = true) {t : State} (e :
    execChunkSenderTimeout n s = .next t) : Within W P s t := by
  unfold execChunkSenderTimeout at e
  try dsimp only at e
  cases e
  simp (maxDischargeDepth := 60) only [within_refl, State.chunkFail_within, w00, w04, w07, w08, w09, w13, w20, w21, w22, w23, w24, w26, w27, p_auth,
      p_boundary, p_cc, p_draught, p_flue, p_fnd, p_fresh, p_lanes, p_lp, p_msg, p_pol, p_thn, p_timers, p_vdm]

theorem execMessageHandover_within {n : Port} {sop : Fin 3} {ty : BitVec 7} {data : List Byte} {s : State} (p_msg : P .msg = true) {t : State} (e :
    execMessageHandover n sop ty data s = .next t) : Within W P s t := by
  unfold execMessageHandover at e
  try dsimp only at e
  cases e
  simp (maxDischargeDepth := 60) only [within_refl, State.handover_within, p_msg]

theorem execChunkReceiverTimeout_within {n : Port} {s : State} (w21 : W 0x21 = true) (p_flue : P .flue = true) (p_msg : P .msg = true) (p_timers : P
    .timers = true) {t : State} (e : execChunkReceiverTimeout n s = .next t) : Within W P s t := by
  unfold execChunkReceiverTimeout at e
  try dsimp only at e
  cases e
  simp (maxDischargeDepth := 60) only [within_refl, State.chunkRecvTimeout_within, w21, p_flue, p_msg, p_timers]

theorem execTreceiveExpiry_within {n : Port} {s : State} (w00 : W 0x00 = true) (w04 : W 0x04 = true) (w07 : W 0x07 = true) (w08 : W 0x08 = true) (w09
    : W 0x09 = true) (w13 : W 0x13 = true) (w20 : W 0x20 = true) (w21 : W 0x21 = true) (w22 : W 0x22 = true) (w23 : W 0x23 = true) (w24 : W 0x24 =
    true) (w26 : W 0x26 = true) (w27 : W 0x27 = true) (p_auth : P .auth = true) (p_boundary : P .boundary = true) (p_cc : P .cc = true) (p_draught : P
    .draught = true) (p_flue : P .flue = true) (p_fnd : P .fnd = true) (p_fresh : P .fresh = true) (p_lanes : P .lanes = true) (p_lp : P .lp = true)
    (p_msg : P .msg = true) (p_pol : P .pol = true) (p_thn : P .thn = true) (p_timers : P .timers = true) (p_vdm : P .vdm = true) {t : State} (e :
    execTreceiveExpiry n s = .next t) : Within W P s t := by
  unfold execTreceiveExpiry at e
  try dsimp only at e
  cases e
  simp (maxDischargeDepth := 60) only [within_refl, State.tReceiveExpiry_within, w00, w04, w07, w08, w09, w13, w20, w21, w22, w23, w24, w26, w27,
      p_auth, p_boundary, p_cc, p_draught, p_flue, p_fnd, p_fresh, p_lanes, p_lp, p_msg, p_pol, p_thn, p_timers, p_vdm]

theorem execCableResetRequest_within {n : Port} {s : State} (w00 : W 0x00 = true) (w04 : W 0x04 = true) (w07 : W 0x07 = true) (w08 : W 0x08 = true)
    (w09 : W 0x09 = true) (w13 : W 0x13 = true) (w20 : W 0x20 = true) (w21 : W 0x21 = true) (w22 : W 0x22 = true) (w23 : W 0x23 = true) (w24 : W 0x24
    = true) (w26 : W 0x26 = true) (w27 : W 0x27 = true) (p_auth : P .auth = true) (p_boundary : P .boundary = true) (p_cc : P .cc = true) (p_draught :
    P .draught = true) (p_flue : P .flue = true) (p_fnd : P .fnd = true) (p_fresh : P .fresh = true) (p_lanes : P .lanes = true) (p_lp : P .lp = true)
    (p_msg : P .msg = true) (p_pol : P .pol = true) (p_thn : P .thn = true) (p_timers : P .timers = true) (p_vdm : P .vdm = true) {t : State} (e :
    execCableResetRequest n s = .next t) : Within W P s t := by
  unfold execCableResetRequest at e
  try dsimp only at e
  cases e
  simp (maxDischargeDepth := 60) only [within_refl, State.cableResetRequest_within, w00, w04, w07, w08, w09, w13, w20, w21, w22, w23, w24, w26, w27,
      p_auth, p_boundary, p_cc, p_draught, p_flue, p_fnd, p_fresh, p_lanes, p_lp, p_msg, p_pol, p_thn, p_timers, p_vdm]

theorem execSinktxWaitExpiry_within {n : Port} {s : State} (p_timers : P .timers = true) {t : State} (e : execSinktxWaitExpiry n s = .next t) : Within
    W P s t := by
  unfold execSinktxWaitExpiry at e
  try dsimp only at e
  cases e
  simp (maxDischargeDepth := 60) only [within_refl, State.stop_within, p_timers]

theorem execHardResetRequest_within {n : Port} {s : State} (w20 : W 0x20 = true) (w21 : W 0x21 = true) (p_boundary : P .boundary = true) (p_cc : P .cc
    = true) (p_msg : P .msg = true) (p_pol : P .pol = true) (p_timers : P .timers = true) {t : State} (e : execHardResetRequest n s = .next t) :
    Within W P s t := by
  unfold execHardResetRequest at e
  try dsimp only at e
  cases e
  simp (maxDischargeDepth := 60) only [within_refl, State.hardResetRequest_within, w20, w21, p_boundary, p_cc, p_msg, p_pol, p_timers]

end Sys2Proof.Machine
end

