-- ==== Sys2Proof/Laws/WithinPolicy.lean ====
section
/-! SUPPORT. What each operation and command of the policy commands can change at most (`Within`): the pages and parts its
hypotheses name. -/

namespace Sys2Proof.Machine
variable {W : Nat → Bool} {P : Part → Bool} {s0 : State}
set_option linter.unusedVariables false

/-! ### PolicyCmd -/

theorem State.reRequestExpiry_within {s : State} {n : Port} (w20 : W 0x20 = true) (w21 : W 0x21 = true) (w22 : W 0x22 = true) (w23 : W 0x23 = true)
    (p_boundary : P .boundary = true) (p_cc : P .cc = true) (p_msg : P .msg = true) (p_pol : P .pol = true) (p_timers : P .timers = true) (p_vdm : P
    .vdm = true) (hW0 : Within W P s0 s) : Within W P s0 (State.reRequestExpiry s n) := by
  unfold State.reRequestExpiry
  try dsimp only
  simp (maxDischargeDepth := 60) only [and_self, implies_true, within_ite, State.initiate_within, State.start_within, w20, w21, w22, w23, p_boundary,
      p_cc, p_msg, p_pol, p_timers, p_vdm, hW0]

theorem execSinkRerequestTimer_within {n : Port} {s : State} (w00 : W 0x00 = true) (w04 : W 0x04 = true) (w07 : W 0x07 = true) (w08 : W 0x08 = true)
    (w09 : W 0x09 = true) (w0F : W 0x0F = true) (w13 : W 0x13 = true) (w20 : W 0x20 = true) (w21 : W 0x21 = true) (w22 : W 0x22 = true) (w23 : W 0x23
    = true) (w24 : W 0x24 = true) (w26 : W 0x26 = true) (w27 : W 0x27 = true) (p_auth : P .auth = true) (p_boundary : P .boundary = true) (p_cc : P
    .cc = true) (p_draught : P .draught = true) (p_flue : P .flue = true) (p_fnd : P .fnd = true) (p_fresh : P .fresh = true) (p_hA : P .hA = true)
    (p_hB : P .hB = true) (p_inputs : P .inputs = true) (p_lanes : P .lanes = true) (p_lp : P .lp = true) (p_msg : P .msg = true) (p_pol : P .pol =
    true) (p_thn : P .thn = true) (p_timers : P .timers = true) (p_vdm : P .vdm = true) {t : State} (e : execSinkRerequestTimer n s = .next t) :
    Within W P s t := by
  unfold execSinkRerequestTimer at e
  try dsimp only at e
  cases e
  simp (maxDischargeDepth := 60) only [within_refl, State.reRequestExpiry_within, State.policyBefore_within, w00, w04, w07, w08, w09, w0F, w13, w20,
      w21, w22, w23, w24, w26, w27, p_auth, p_boundary, p_cc, p_draught, p_flue, p_fnd, p_fresh, p_hA, p_hB, p_inputs, p_lanes, p_lp, p_msg, p_pol,
      p_thn, p_timers, p_vdm]

theorem State.budgetChange_within {s : State} {n : Port} (w09 : W 0x09 = true) (w13 : W 0x13 = true) (w20 : W 0x20 = true) (w21 : W 0x21 = true) (w22
    : W 0x22 = true) (w23 : W 0x23 = true) (p_boundary : P .boundary = true) (p_cc : P .cc = true) (p_draught : P .draught = true) (p_flue : P .flue =
    true) (p_msg : P .msg = true) (p_pol : P .pol = true) (p_thn : P .thn = true) (p_timers : P .timers = true) (p_vdm : P .vdm = true) (hW0 : Within
    W P s0 s) : Within W P s0 (State.budgetChange s n) := by
  unfold State.budgetChange
  try dsimp only
  (repeat' split) <;> (try simp (maxDischargeDepth := 60) only [State.collapse_within, State.draft_within, w09, w13, w20, w21, w22, w23, p_boundary,
      p_cc, p_draught, p_flue, p_msg, p_pol, p_thn, p_timers, p_vdm, hW0])

theorem execBudgetChange_within {n : Port} {s : State} (w00 : W 0x00 = true) (w04 : W 0x04 = true) (w07 : W 0x07 = true) (w08 : W 0x08 = true) (w09 :
    W 0x09 = true) (w0F : W 0x0F = true) (w13 : W 0x13 = true) (w20 : W 0x20 = true) (w21 : W 0x21 = true) (w22 : W 0x22 = true) (w23 : W 0x23 = true)
    (w24 : W 0x24 = true) (w26 : W 0x26 = true) (w27 : W 0x27 = true) (p_auth : P .auth = true) (p_boundary : P .boundary = true) (p_cc : P .cc =
    true) (p_draught : P .draught = true) (p_flue : P .flue = true) (p_fnd : P .fnd = true) (p_fresh : P .fresh = true) (p_hA : P .hA = true) (p_hB :
    P .hB = true) (p_inputs : P .inputs = true) (p_lanes : P .lanes = true) (p_lp : P .lp = true) (p_msg : P .msg = true) (p_pol : P .pol = true)
    (p_thn : P .thn = true) (p_timers : P .timers = true) (p_vdm : P .vdm = true) {t : State} (e : execBudgetChange n s = .next t) : Within W P s t :=
    by
  unfold execBudgetChange at e
  try dsimp only at e
  cases e
  simp (maxDischargeDepth := 60) only [within_refl, State.budgetChange_within, State.policyBefore_within, w00, w04, w07, w08, w09, w0F, w13, w20, w21,
      w22, w23, w24, w26, w27, p_auth, p_boundary, p_cc, p_draught, p_flue, p_fnd, p_fresh, p_hA, p_hB, p_inputs, p_lanes, p_lp, p_msg, p_pol, p_thn,
      p_timers, p_vdm]

theorem State.takeType_within {s : State} {n : Port} {tys : List Nat} (w00 : W 0x00 = true) (w04 : W 0x04 = true) (w07 : W 0x07 = true) (w08 : W 0x08
    = true) (w09 : W 0x09 = true) (w0F : W 0x0F = true) (w13 : W 0x13 = true) (w20 : W 0x20 = true) (w21 : W 0x21 = true) (w22 : W 0x22 = true) (w23 :
    W 0x23 = true) (w24 : W 0x24 = true) (w26 : W 0x26 = true) (w27 : W 0x27 = true) (p_auth : P .auth = true) (p_boundary : P .boundary = true) (p_cc
    : P .cc = true) (p_draught : P .draught = true) (p_flue : P .flue = true) (p_fnd : P .fnd = true) (p_fresh : P .fresh = true) (p_hA : P .hA =
    true) (p_hB : P .hB = true) (p_inputs : P .inputs = true) (p_lanes : P .lanes = true) (p_lp : P .lp = true) (p_msg : P .msg = true) (p_pol : P
    .pol = true) (p_thn : P .thn = true) (p_timers : P .timers = true) (p_vdm : P .vdm = true) (hW0 : Within W P s0 s) : Within W P s0 (State.takeType
    s n tys) := by
  unfold State.takeType
  try dsimp only
  simp (maxDischargeDepth := 60) only [State.takeNext_within, w00, w04, w07, w08, w09, w0F, w13, w20, w21, w22, w23, w24, w26, w27, p_auth,
      p_boundary, p_cc, p_draught, p_flue, p_fnd, p_fresh, p_hA, p_hB, p_inputs, p_lanes, p_lp, p_msg, p_pol, p_thn, p_timers, p_vdm, hW0]

theorem execRequestReceived_within {n : Port} {s : State} (w00 : W 0x00 = true) (w04 : W 0x04 = true) (w07 : W 0x07 = true) (w08 : W 0x08 = true) (w09
    : W 0x09 = true) (w0F : W 0x0F = true) (w13 : W 0x13 = true) (w20 : W 0x20 = true) (w21 : W 0x21 = true) (w22 : W 0x22 = true) (w23 : W 0x23 =
    true) (w24 : W 0x24 = true) (w26 : W 0x26 = true) (w27 : W 0x27 = true) (p_auth : P .auth = true) (p_boundary : P .boundary = true) (p_cc : P .cc
    = true) (p_draught : P .draught = true) (p_flue : P .flue = true) (p_fnd : P .fnd = true) (p_fresh : P .fresh = true) (p_hA : P .hA = true) (p_hB
    : P .hB = true) (p_inputs : P .inputs = true) (p_lanes : P .lanes = true) (p_lp : P .lp = true) (p_msg : P .msg = true) (p_pol : P .pol = true)
    (p_thn : P .thn = true) (p_timers : P .timers = true) (p_vdm : P .vdm = true) {t : State} (e : execRequestReceived n s = .next t) : Within W P s t
    := by
  unfold execRequestReceived at e
  try dsimp only at e
  cases e
  simp (maxDischargeDepth := 60) only [within_refl, State.takeType_within, w00, w04, w07, w08, w09, w0F, w13, w20, w21, w22, w23, w24, w26, w27,
      p_auth, p_boundary, p_cc, p_draught, p_flue, p_fnd, p_fresh, p_hA, p_hB, p_inputs, p_lanes, p_lp, p_msg, p_pol, p_thn, p_timers, p_vdm]

theorem State.sinkMaskClear_within {s : State} {n : Port} (w20 : W 0x20 = true) (w22 : W 0x22 = true) (w24 : W 0x24 = true) (p_boundary : P .boundary
    = true) (p_flue : P .flue = true) (p_lp : P .lp = true) (p_pol : P .pol = true) (p_timers : P .timers = true) (hW0 : Within W P s0 s) : Within W P
    s0 (State.sinkMaskClear s n) := by
  unfold State.sinkMaskClear
  try dsimp only
  simp (maxDischargeDepth := 60) only [and_self, implies_true, within_ite, pageOf_add, pageKind_portPage, Nat.reduceAdd, Nat.reduceLT,
      State.setSeq_within, State.set_within, State.modPol_within, State.stageRun_within, State.setPd_within, State.start_within, w20, w22, w24,
      p_boundary, p_flue, p_lp, p_pol, p_timers, hW0]

theorem execSinkMaskClear_within {n : Port} {s : State} (w00 : W 0x00 = true) (w04 : W 0x04 = true) (w07 : W 0x07 = true) (w08 : W 0x08 = true) (w09 :
    W 0x09 = true) (w0F : W 0x0F = true) (w13 : W 0x13 = true) (w20 : W 0x20 = true) (w21 : W 0x21 = true) (w22 : W 0x22 = true) (w23 : W 0x23 = true)
    (w24 : W 0x24 = true) (w26 : W 0x26 = true) (w27 : W 0x27 = true) (p_auth : P .auth = true) (p_boundary : P .boundary = true) (p_cc : P .cc =
    true) (p_draught : P .draught = true) (p_flue : P .flue = true) (p_fnd : P .fnd = true) (p_fresh : P .fresh = true) (p_hA : P .hA = true) (p_hB :
    P .hB = true) (p_inputs : P .inputs = true) (p_lanes : P .lanes = true) (p_lp : P .lp = true) (p_msg : P .msg = true) (p_pol : P .pol = true)
    (p_thn : P .thn = true) (p_timers : P .timers = true) (p_vdm : P .vdm = true) {t : State} (e : execSinkMaskClear n s = .next t) : Within W P s t
    := by
  unfold execSinkMaskClear at e
  try dsimp only at e
  cases e
  simp (maxDischargeDepth := 60) only [within_refl, State.sinkMaskClear_within, State.policyBefore_within, w00, w04, w07, w08, w09, w0F, w13, w20,
      w21, w22, w23, w24, w26, w27, p_auth, p_boundary, p_cc, p_draught, p_flue, p_fnd, p_fresh, p_hA, p_hB, p_inputs, p_lanes, p_lp, p_msg, p_pol,
      p_thn, p_timers, p_vdm]

theorem State.commandAct_within {s : State} {n : Port} {code : Nat} {arg : Nat} (w00 : W 0x00 = true) (w04 : W 0x04 = true) (w07 : W 0x07 = true) (w08
    : W 0x08 = true) (w09 : W 0x09 = true) (w0B : W 0x0B = true) (w0C : W 0x0C = true) (w0F : W 0x0F = true) (w13 : W 0x13 = true) (w20 : W 0x20 =
    true) (w21 : W 0x21 = true) (w22 : W 0x22 = true) (w23 : W 0x23 = true) (w24 : W 0x24 = true) (w26 : W 0x26 = true) (w27 : W 0x27 = true) (p_auth
    : P .auth = true) (p_boundary : P .boundary = true) (p_cc : P .cc = true) (p_draught : P .draught = true) (p_flue : P .flue = true) (p_fnd : P
    .fnd = true) (p_fresh : P .fresh = true) (p_hA : P .hA = true) (p_hB : P .hB = true) (p_lanes : P .lanes = true) (p_lp : P .lp = true) (p_msg : P
    .msg = true) (p_pol : P .pol = true) (p_thn : P .thn = true) (p_timers : P .timers = true) (p_vdm : P .vdm = true) (hW0 : Within W P s0 s) :
    Within W P s0 (State.commandAct s n code arg) := by
  unfold State.commandAct
  try dsimp only
  (repeat' split) <;> (try simp (maxDischargeDepth := 60) only [State.draft_within, State.initiate_within, State.softResetSend_within,
      State.hardResetRequest_within, State.errorRecovery_within, State.disablePort_within, State.enablePort_within, State.present_within, w00, w04,
      w07, w08, w09, w0B, w0C, w0F, w13, w20, w21, w22, w23, w24, w26, w27, p_auth, p_boundary, p_cc, p_draught, p_flue, p_fnd, p_fresh, p_hA, p_hB,
      p_lanes, p_lp, p_msg, p_pol, p_thn, p_timers, p_vdm, hW0])

theorem State.polCommand_within {s : State} {n : Port} {epoch : Nat} {code : Nat} {arg : Nat} (w00 : W 0x00 = true) (w04 : W 0x04 = true) (w07 : W
    0x07 = true) (w08 : W 0x08 = true) (w09 : W 0x09 = true) (w0B : W 0x0B = true) (w0C : W 0x0C = true) (w0F : W 0x0F = true) (w13 : W 0x13 = true)
    (w20 : W 0x20 = true) (w21 : W 0x21 = true) (w22 : W 0x22 = true) (w23 : W 0x23 = true) (w24 : W 0x24 = true) (w26 : W 0x26 = true) (w27 : W 0x27
    = true) (p_auth : P .auth = true) (p_boundary : P .boundary = true) (p_cc : P .cc = true) (p_draught : P .draught = true) (p_flue : P .flue =
    true) (p_fnd : P .fnd = true) (p_fresh : P .fresh = true) (p_hA : P .hA = true) (p_hB : P .hB = true) (p_lanes : P .lanes = true) (p_lp : P .lp =
    true) (p_msg : P .msg = true) (p_pol : P .pol = true) (p_thn : P .thn = true) (p_timers : P .timers = true) (p_vdm : P .vdm = true) (hW0 : Within
    W P s0 s) : Within W P s0 (State.polCommand s n epoch code arg) := by
  unfold State.polCommand
  try dsimp only
  simp (maxDischargeDepth := 60) only [and_self, implies_true, within_ite, pageOf_add, pageKind_portPage, Nat.reduceAdd, Nat.reduceLT,
      State.soot_within, State.eventHost_within, State.modPol_within, State.set_within, State.commandAct_within, w00, w04, w07, w08, w09, w0B, w0C,
      w0F, w13, w20, w21, w22, w23, w24, w26, w27, p_auth, p_boundary, p_cc, p_draught, p_flue, p_fnd, p_fresh, p_hA, p_hB, p_lanes, p_lp, p_msg,
      p_pol, p_thn, p_timers, p_vdm, hW0]

theorem State.polHost_within {s : State} {n : Port} {epoch : BitVec 8} {code : Nat} {arg : Nat} (w00 : W 0x00 = true) (w04 : W 0x04 = true) (w07 : W
    0x07 = true) (w08 : W 0x08 = true) (w09 : W 0x09 = true) (w0B : W 0x0B = true) (w0C : W 0x0C = true) (w0F : W 0x0F = true) (w13 : W 0x13 = true)
    (w20 : W 0x20 = true) (w21 : W 0x21 = true) (w22 : W 0x22 = true) (w23 : W 0x23 = true) (w24 : W 0x24 = true) (w26 : W 0x26 = true) (w27 : W 0x27
    = true) (p_auth : P .auth = true) (p_boundary : P .boundary = true) (p_cc : P .cc = true) (p_draught : P .draught = true) (p_flue : P .flue =
    true) (p_fnd : P .fnd = true) (p_fresh : P .fresh = true) (p_hA : P .hA = true) (p_hB : P .hB = true) (p_inputs : P .inputs = true) (p_lanes : P
    .lanes = true) (p_lp : P .lp = true) (p_msg : P .msg = true) (p_pol : P .pol = true) (p_thn : P .thn = true) (p_timers : P .timers = true) (p_vdm
    : P .vdm = true) (hW0 : Within W P s0 s) : Within W P s0 (State.polHost s n epoch code arg) := by
  unfold State.polHost
  try dsimp only
  simp (maxDischargeDepth := 60) only [implies_true, within_refl, State.answered_within, State.polCommand_within, State.policyBefore_within, w00, w04,
      w07, w08, w09, w0B, w0C, w0F, w13, w20, w21, w22, w23, w24, w26, w27, p_auth, p_boundary, p_cc, p_draught, p_flue, p_fnd, p_fresh, p_hA, p_hB,
      p_inputs, p_lanes, p_lp, p_msg, p_pol, p_thn, p_timers, p_vdm, hW0]

theorem execCmdDisablePort_within {n : Port} {epoch : BitVec 8} {s : State} (w00 : W 0x00 = true) (w04 : W 0x04 = true) (w07 : W 0x07 = true) (w08 : W
    0x08 = true) (w09 : W 0x09 = true) (w0B : W 0x0B = true) (w0C : W 0x0C = true) (w0F : W 0x0F = true) (w13 : W 0x13 = true) (w20 : W 0x20 = true)
    (w21 : W 0x21 = true) (w22 : W 0x22 = true) (w23 : W 0x23 = true) (w24 : W 0x24 = true) (w26 : W 0x26 = true) (w27 : W 0x27 = true) (p_auth : P
    .auth = true) (p_boundary : P .boundary = true) (p_cc : P .cc = true) (p_draught : P .draught = true) (p_flue : P .flue = true) (p_fnd : P .fnd =
    true) (p_fresh : P .fresh = true) (p_hA : P .hA = true) (p_hB : P .hB = true) (p_inputs : P .inputs = true) (p_lanes : P .lanes = true) (p_lp : P
    .lp = true) (p_msg : P .msg = true) (p_pol : P .pol = true) (p_thn : P .thn = true) (p_timers : P .timers = true) (p_vdm : P .vdm = true) {t :
    State} (e : execCmdDisablePort n epoch s = .next t) : Within W P s t := by
  unfold execCmdDisablePort at e
  try dsimp only at e
  cases e
  simp (maxDischargeDepth := 60) only [within_refl, State.polHost_within, w00, w04, w07, w08, w09, w0B, w0C, w0F, w13, w20, w21, w22, w23, w24, w26,
      w27, p_auth, p_boundary, p_cc, p_draught, p_flue, p_fnd, p_fresh, p_hA, p_hB, p_inputs, p_lanes, p_lp, p_msg, p_pol, p_thn, p_timers, p_vdm]

theorem State.safe0V_within {s : State} {n : Port} (w0F : W 0x0F = true) (w20 : W 0x20 = true) (w22 : W 0x22 = true) (w24 : W 0x24 = true) (w26 : W
    0x26 = true) (p_boundary : P .boundary = true) (p_cc : P .cc = true) (p_flue : P .flue = true) (p_fnd : P .fnd = true) (p_hA : P .hA = true) (p_hB
    : P .hB = true) (p_lp : P .lp = true) (p_msg : P .msg = true) (p_pol : P .pol = true) (p_timers : P .timers = true) (hW0 : Within W P s0 s) :
    Within W P s0 (State.safe0V s n) := by
  unfold State.safe0V
  try dsimp only
  (repeat' split) <;> (try simp (maxDischargeDepth := 60) only [pageOf_add, pageKind_portPage, Nat.reduceAdd, Nat.reduceLT, State.modPol_within,
      State.dschgOff_within, State.readyHand_within, State.set_within, State.present_within, State.start_within, State.setSeq_within,
      State.sinkToSource_within, State.reachPoint1_within, State.modFnd_within, State.tryOver_within, w0F, w20, w22, w24, w26, p_boundary, p_cc,
      p_flue, p_fnd, p_hA, p_hB, p_lp, p_msg, p_pol, p_timers, hW0])

theorem execVbusReachesVsafe0v_within {n : Port} {s : State} (w00 : W 0x00 = true) (w04 : W 0x04 = true) (w07 : W 0x07 = true) (w08 : W 0x08 = true)
    (w09 : W 0x09 = true) (w0F : W 0x0F = true) (w13 : W 0x13 = true) (w20 : W 0x20 = true) (w21 : W 0x21 = true) (w22 : W 0x22 = true) (w23 : W 0x23
    = true) (w24 : W 0x24 = true) (w26 : W 0x26 = true) (w27 : W 0x27 = true) (p_auth : P .auth = true) (p_boundary : P .boundary = true) (p_cc : P
    .cc = true) (p_draught : P .draught = true) (p_flue : P .flue = true) (p_fnd : P .fnd = true) (p_fresh : P .fresh = true) (p_hA : P .hA = true)
    (p_hB : P .hB = true) (p_inputs : P .inputs = true) (p_lanes : P .lanes = true) (p_lp : P .lp = true) (p_msg : P .msg = true) (p_pol : P .pol =
    true) (p_thn : P .thn = true) (p_timers : P .timers = true) (p_vdm : P .vdm = true) {t : State} (e : execVbusReachesVsafe0v n s = .next t) :
    Within W P s t := by
  unfold execVbusReachesVsafe0v at e
  try dsimp only at e
  cases e
  simp (maxDischargeDepth := 60) only [within_refl, State.safe0V_within, State.policyBefore_within, w00, w04, w07, w08, w09, w0F, w13, w20, w21, w22,
      w23, w24, w26, w27, p_auth, p_boundary, p_cc, p_draught, p_flue, p_fnd, p_fresh, p_hA, p_hB, p_inputs, p_lanes, p_lp, p_msg, p_pol, p_thn,
      p_timers, p_vdm]

theorem State.vconnSwapReady_within {s : State} {n : Port} (p_msg : P .msg = true) (p_pol : P .pol = true) (hW0 : Within W P s0 s) : Within W P s0
    (State.vconnSwapReady s n) := by
  unfold State.vconnSwapReady
  try dsimp only
  simp (maxDischargeDepth := 60) only [and_self, implies_true, within_ite, State.readyHand_within, p_msg, p_pol, hW0]

theorem execVconnSwapReady_within {n : Port} {s : State} (w00 : W 0x00 = true) (w04 : W 0x04 = true) (w07 : W 0x07 = true) (w08 : W 0x08 = true) (w09
    : W 0x09 = true) (w0F : W 0x0F = true) (w13 : W 0x13 = true) (w20 : W 0x20 = true) (w21 : W 0x21 = true) (w22 : W 0x22 = true) (w23 : W 0x23 =
    true) (w24 : W 0x24 = true) (w26 : W 0x26 = true) (w27 : W 0x27 = true) (p_auth : P .auth = true) (p_boundary : P .boundary = true) (p_cc : P .cc
    = true) (p_draught : P .draught = true) (p_flue : P .flue = true) (p_fnd : P .fnd = true) (p_fresh : P .fresh = true) (p_hA : P .hA = true) (p_hB
    : P .hB = true) (p_inputs : P .inputs = true) (p_lanes : P .lanes = true) (p_lp : P .lp = true) (p_msg : P .msg = true) (p_pol : P .pol = true)
    (p_thn : P .thn = true) (p_timers : P .timers = true) (p_vdm : P .vdm = true) {t : State} (e : execVconnSwapReady n s = .next t) : Within W P s t
    := by
  unfold execVconnSwapReady at e
  try dsimp only at e
  cases e
  simp (maxDischargeDepth := 60) only [within_refl, State.vconnSwapReady_within, State.policyBefore_within, w00, w04, w07, w08, w09, w0F, w13, w20,
      w21, w22, w23, w24, w26, w27, p_auth, p_boundary, p_cc, p_draught, p_flue, p_fnd, p_fresh, p_hA, p_hB, p_inputs, p_lanes, p_lp, p_msg, p_pol,
      p_thn, p_timers, p_vdm]

theorem State.frsInitExpiry_within {s : State} {n : Port} (p_msg : P .msg = true) (p_timers : P .timers = true) (hW0 : Within W P s0 s) : Within W P
    s0 (State.frsInitExpiry s n) := by
  unfold State.frsInitExpiry
  try dsimp only
  simp (maxDischargeDepth := 60) only [and_self, implies_true, within_ite, State.sendCtl_within, State.stop_within, p_msg, p_timers, hW0]

theorem State.vconnSwapExpiry_within {s : State} {n : Port} (w20 : W 0x20 = true) (w21 : W 0x21 = true) (p_boundary : P .boundary = true) (p_cc : P
    .cc = true) (p_msg : P .msg = true) (p_pol : P .pol = true) (p_timers : P .timers = true) (hW0 : Within W P s0 s) : Within W P s0
    (State.vconnSwapExpiry s n) := by
  unfold State.vconnSwapExpiry
  try dsimp only
  simp (maxDischargeDepth := 60) only [and_self, implies_true, within_ite, State.hardResetRequest_within, State.stop_within, w20, w21, p_boundary,
      p_cc, p_msg, p_pol, p_timers, hW0]

theorem execVconnSwapTimeout_within {n : Port} {s : State} (w00 : W 0x00 = true) (w04 : W 0x04 = true) (w07 : W 0x07 = true) (w08 : W 0x08 = true)
    (w09 : W 0x09 = true) (w0F : W 0x0F = true) (w13 : W 0x13 = true) (w20 : W 0x20 = true) (w21 : W 0x21 = true) (w22 : W 0x22 = true) (w23 : W 0x23
    = true) (w24 : W 0x24 = true) (w26 : W 0x26 = true) (w27 : W 0x27 = true) (p_auth : P .auth = true) (p_boundary : P .boundary = true) (p_cc : P
    .cc = true) (p_draught : P .draught = true) (p_flue : P .flue = true) (p_fnd : P .fnd = true) (p_fresh : P .fresh = true) (p_hA : P .hA = true)
    (p_hB : P .hB = true) (p_inputs : P .inputs = true) (p_lanes : P .lanes = true) (p_lp : P .lp = true) (p_msg : P .msg = true) (p_pol : P .pol =
    true) (p_thn : P .thn = true) (p_timers : P .timers = true) (p_vdm : P .vdm = true) {t : State} (e : execVconnSwapTimeout n s = .next t) : Within
    W P s t := by
  unfold execVconnSwapTimeout at e
  try dsimp only at e
  cases e
  simp (maxDischargeDepth := 60) only [within_refl, State.vconnSwapExpiry_within, State.policyBefore_within, w00, w04, w07, w08, w09, w0F, w13, w20,
      w21, w22, w23, w24, w26, w27, p_auth, p_boundary, p_cc, p_draught, p_flue, p_fnd, p_fresh, p_hA, p_hB, p_inputs, p_lanes, p_lp, p_msg, p_pol,
      p_thn, p_timers, p_vdm]

theorem State.recoverRaise_within {s : State} {n : Port} (w24 : W 0x24 = true) (w26 : W 0x26 = true) (p_boundary : P .boundary = true) (p_flue : P
    .flue = true) (p_fnd : P .fnd = true) (p_lp : P .lp = true) (p_pol : P .pol = true) (p_timers : P .timers = true) (hW0 : Within W P s0 s) : Within
    W P s0 (State.recoverRaise s n) := by
  unfold State.recoverRaise
  try dsimp only
  simp (maxDischargeDepth := 60) only [and_self, implies_true, within_ite, State.stageRun_within, State.closePath_within, State.presetZero_within,
      State.setSeq_within, State.stop_within, w24, w26, p_boundary, p_flue, p_fnd, p_lp, p_pol, p_timers, hW0]

theorem State.transitionTimeout_within {s : State} {n : Port} (w20 : W 0x20 = true) (w21 : W 0x21 = true) (p_boundary : P .boundary = true) (p_cc : P
    .cc = true) (p_flue : P .flue = true) (p_lp : P .lp = true) (p_msg : P .msg = true) (p_pol : P .pol = true) (p_timers : P .timers = true) (hW0 :
    Within W P s0 s) : Within W P s0 (State.transitionTimeout s n) := by
  unfold State.transitionTimeout
  try dsimp only
  (repeat' split) <;> (try simp (maxDischargeDepth := 60) only [State.stop_within, State.hardResetRequest_within, State.report_within,
      State.modLp_within, w20, w21, p_boundary, p_cc, p_flue, p_lp, p_msg, p_pol, p_timers, hW0])

theorem execTransitionTimeout_within {n : Port} {s : State} (w00 : W 0x00 = true) (w04 : W 0x04 = true) (w07 : W 0x07 = true) (w08 : W 0x08 = true)
    (w09 : W 0x09 = true) (w0F : W 0x0F = true) (w13 : W 0x13 = true) (w20 : W 0x20 = true) (w21 : W 0x21 = true) (w22 : W 0x22 = true) (w23 : W 0x23
    = true) (w24 : W 0x24 = true) (w26 : W 0x26 = true) (w27 : W 0x27 = true) (p_auth : P .auth = true) (p_boundary : P .boundary = true) (p_cc : P
    .cc = true) (p_draught : P .draught = true) (p_flue : P .flue = true) (p_fnd : P .fnd = true) (p_fresh : P .fresh = true) (p_hA : P .hA = true)
    (p_hB : P .hB = true) (p_inputs : P .inputs = true) (p_lanes : P .lanes = true) (p_lp : P .lp = true) (p_msg : P .msg = true) (p_pol : P .pol =
    true) (p_thn : P .thn = true) (p_timers : P .timers = true) (p_vdm : P .vdm = true) {t : State} (e : execTransitionTimeout n s = .next t) : Within
    W P s t := by
  unfold execTransitionTimeout at e
  try dsimp only at e
  cases e
  simp (maxDischargeDepth := 60) only [within_refl, State.transitionTimeout_within, State.policyBefore_within, w00, w04, w07, w08, w09, w0F, w13, w20,
      w21, w22, w23, w24, w26, w27, p_auth, p_boundary, p_cc, p_draught, p_flue, p_fnd, p_fresh, p_hA, p_hB, p_inputs, p_lanes, p_lp, p_msg, p_pol,
      p_thn, p_timers, p_vdm]

theorem execPrSwapReceived_within {n : Port} {s : State} (w00 : W 0x00 = true) (w04 : W 0x04 = true) (w07 : W 0x07 = true) (w08 : W 0x08 = true) (w09
    : W 0x09 = true) (w0F : W 0x0F = true) (w13 : W 0x13 = true) (w20 : W 0x20 = true) (w21 : W 0x21 = true) (w22 : W 0x22 = true) (w23 : W 0x23 =
    true) (w24 : W 0x24 = true) (w26 : W 0x26 = true) (w27 : W 0x27 = true) (p_auth : P .auth = true) (p_boundary : P .boundary = true) (p_cc : P .cc
    = true) (p_draught : P .draught = true) (p_flue : P .flue = true) (p_fnd : P .fnd = true) (p_fresh : P .fresh = true) (p_hA : P .hA = true) (p_hB
    : P .hB = true) (p_inputs : P .inputs = true) (p_lanes : P .lanes = true) (p_lp : P .lp = true) (p_msg : P .msg = true) (p_pol : P .pol = true)
    (p_thn : P .thn = true) (p_timers : P .timers = true) (p_vdm : P .vdm = true) {t : State} (e : execPrSwapReceived n s = .next t) : Within W P s t
    := by
  unfold execPrSwapReceived at e
  try dsimp only at e
  cases e
  simp (maxDischargeDepth := 60) only [within_refl, State.takeType_within, w00, w04, w07, w08, w09, w0F, w13, w20, w21, w22, w23, w24, w26, w27,
      p_auth, p_boundary, p_cc, p_draught, p_flue, p_fnd, p_fresh, p_hA, p_hB, p_inputs, p_lanes, p_lp, p_msg, p_pol, p_thn, p_timers, p_vdm]

theorem execCmdDrSwap_within {n : Port} {epoch : BitVec 8} {s : State} (w00 : W 0x00 = true) (w04 : W 0x04 = true) (w07 : W 0x07 = true) (w08 : W 0x08
    = true) (w09 : W 0x09 = true) (w0B : W 0x0B = true) (w0C : W 0x0C = true) (w0F : W 0x0F = true) (w13 : W 0x13 = true) (w20 : W 0x20 = true) (w21 :
    W 0x21 = true) (w22 : W 0x22 = true) (w23 : W 0x23 = true) (w24 : W 0x24 = true) (w26 : W 0x26 = true) (w27 : W 0x27 = true) (p_auth : P .auth =
    true) (p_boundary : P .boundary = true) (p_cc : P .cc = true) (p_draught : P .draught = true) (p_flue : P .flue = true) (p_fnd : P .fnd = true)
    (p_fresh : P .fresh = true) (p_hA : P .hA = true) (p_hB : P .hB = true) (p_inputs : P .inputs = true) (p_lanes : P .lanes = true) (p_lp : P .lp =
    true) (p_msg : P .msg = true) (p_pol : P .pol = true) (p_thn : P .thn = true) (p_timers : P .timers = true) (p_vdm : P .vdm = true) {t : State} (e
    : execCmdDrSwap n epoch s = .next t) : Within W P s t := by
  unfold execCmdDrSwap at e
  try dsimp only at e
  cases e
  simp (maxDischargeDepth := 60) only [within_refl, State.polHost_within, w00, w04, w07, w08, w09, w0B, w0C, w0F, w13, w20, w21, w22, w23, w24, w26,
      w27, p_auth, p_boundary, p_cc, p_draught, p_flue, p_fnd, p_fresh, p_hA, p_hB, p_inputs, p_lanes, p_lp, p_msg, p_pol, p_thn, p_timers, p_vdm]

theorem execUnsupportedReceived_within {n : Port} {s : State} (w00 : W 0x00 = true) (w04 : W 0x04 = true) (w07 : W 0x07 = true) (w08 : W 0x08 = true)
    (w09 : W 0x09 = true) (w0F : W 0x0F = true) (w13 : W 0x13 = true) (w20 : W 0x20 = true) (w21 : W 0x21 = true) (w22 : W 0x22 = true) (w23 : W 0x23
    = true) (w24 : W 0x24 = true) (w26 : W 0x26 = true) (w27 : W 0x27 = true) (p_auth : P .auth = true) (p_boundary : P .boundary = true) (p_cc : P
    .cc = true) (p_draught : P .draught = true) (p_flue : P .flue = true) (p_fnd : P .fnd = true) (p_fresh : P .fresh = true) (p_hA : P .hA = true)
    (p_hB : P .hB = true) (p_inputs : P .inputs = true) (p_lanes : P .lanes = true) (p_lp : P .lp = true) (p_msg : P .msg = true) (p_pol : P .pol =
    true) (p_thn : P .thn = true) (p_timers : P .timers = true) (p_vdm : P .vdm = true) {t : State} (e : execUnsupportedReceived n s = .next t) :
    Within W P s t := by
  unfold execUnsupportedReceived at e
  try dsimp only at e
  cases e
  simp (maxDischargeDepth := 60) only [within_refl, State.takeNext_within, w00, w04, w07, w08, w09, w0F, w13, w20, w21, w22, w23, w24, w26, w27,
      p_auth, p_boundary, p_cc, p_draught, p_flue, p_fnd, p_fresh, p_hA, p_hB, p_inputs, p_lanes, p_lp, p_msg, p_pol, p_thn, p_timers, p_vdm]

theorem State.transitionSettled_within {s : State} {n : Port} (p_msg : P .msg = true) (p_pol : P .pol = true) (p_timers : P .timers = true) (hW0 :
    Within W P s0 s) : Within W P s0 (State.transitionSettled s n) := by
  unfold State.transitionSettled
  try dsimp only
  simp (maxDischargeDepth := 60) only [and_self, implies_true, within_ite, State.readyHand_within, State.stop_within, p_msg, p_pol, p_timers, hW0]

theorem execTransitionSettled_within {n : Port} {s : State} (w00 : W 0x00 = true) (w04 : W 0x04 = true) (w07 : W 0x07 = true) (w08 : W 0x08 = true)
    (w09 : W 0x09 = true) (w0F : W 0x0F = true) (w13 : W 0x13 = true) (w20 : W 0x20 = true) (w21 : W 0x21 = true) (w22 : W 0x22 = true) (w23 : W 0x23
    = true) (w24 : W 0x24 = true) (w26 : W 0x26 = true) (w27 : W 0x27 = true) (p_auth : P .auth = true) (p_boundary : P .boundary = true) (p_cc : P
    .cc = true) (p_draught : P .draught = true) (p_flue : P .flue = true) (p_fnd : P .fnd = true) (p_fresh : P .fresh = true) (p_hA : P .hA = true)
    (p_hB : P .hB = true) (p_inputs : P .inputs = true) (p_lanes : P .lanes = true) (p_lp : P .lp = true) (p_msg : P .msg = true) (p_pol : P .pol =
    true) (p_thn : P .thn = true) (p_timers : P .timers = true) (p_vdm : P .vdm = true) {t : State} (e : execTransitionSettled n s = .next t) : Within
    W P s t := by
  unfold execTransitionSettled at e
  try dsimp only at e
  cases e
  simp (maxDischargeDepth := 60) only [within_refl, State.transitionSettled_within, State.policyBefore_within, w00, w04, w07, w08, w09, w0F, w13, w20,
      w21, w22, w23, w24, w26, w27, p_auth, p_boundary, p_cc, p_draught, p_flue, p_fnd, p_fresh, p_hA, p_hB, p_inputs, p_lanes, p_lp, p_msg, p_pol,
      p_thn, p_timers, p_vdm]

theorem execCmdEnablePort_within {n : Port} {epoch : BitVec 8} {s : State} (w00 : W 0x00 = true) (w04 : W 0x04 = true) (w07 : W 0x07 = true) (w08 : W
    0x08 = true) (w09 : W 0x09 = true) (w0B : W 0x0B = true) (w0C : W 0x0C = true) (w0F : W 0x0F = true) (w13 : W 0x13 = true) (w20 : W 0x20 = true)
    (w21 : W 0x21 = true) (w22 : W 0x22 = true) (w23 : W 0x23 = true) (w24 : W 0x24 = true) (w26 : W 0x26 = true) (w27 : W 0x27 = true) (p_auth : P
    .auth = true) (p_boundary : P .boundary = true) (p_cc : P .cc = true) (p_draught : P .draught = true) (p_flue : P .flue = true) (p_fnd : P .fnd =
    true) (p_fresh : P .fresh = true) (p_hA : P .hA = true) (p_hB : P .hB = true) (p_inputs : P .inputs = true) (p_lanes : P .lanes = true) (p_lp : P
    .lp = true) (p_msg : P .msg = true) (p_pol : P .pol = true) (p_thn : P .thn = true) (p_timers : P .timers = true) (p_vdm : P .vdm = true) {t :
    State} (e : execCmdEnablePort n epoch s = .next t) : Within W P s t := by
  unfold execCmdEnablePort at e
  try dsimp only at e
  cases e
  simp (maxDischargeDepth := 60) only [within_refl, State.polHost_within, w00, w04, w07, w08, w09, w0B, w0C, w0F, w13, w20, w21, w22, w23, w24, w26,
      w27, p_auth, p_boundary, p_cc, p_draught, p_flue, p_fnd, p_fresh, p_hA, p_hB, p_inputs, p_lanes, p_lp, p_msg, p_pol, p_thn, p_timers, p_vdm]

theorem State.abortExpiry_within {s : State} {n : Port} (w00 : W 0x00 = true) (w04 : W 0x04 = true) (w07 : W 0x07 = true) (w08 : W 0x08 = true) (w09 :
    W 0x09 = true) (w13 : W 0x13 = true) (w20 : W 0x20 = true) (w21 : W 0x21 = true) (w22 : W 0x22 = true) (w23 : W 0x23 = true) (w24 : W 0x24 = true)
    (w26 : W 0x26 = true) (w27 : W 0x27 = true) (p_auth : P .auth = true) (p_boundary : P .boundary = true) (p_cc : P .cc = true) (p_draught : P
    .draught = true) (p_flue : P .flue = true) (p_fnd : P .fnd = true) (p_fresh : P .fresh = true) (p_lanes : P .lanes = true) (p_lp : P .lp = true)
    (p_msg : P .msg = true) (p_pol : P .pol = true) (p_thn : P .thn = true) (p_timers : P .timers = true) (p_vdm : P .vdm = true) (hW0 : Within W P s0
    s) : Within W P s0 (State.abortExpiry s n) := by
  unfold State.abortExpiry
  try dsimp only
  simp (maxDischargeDepth := 60) only [and_self, implies_true, within_ite, State.errorRecovery_within, State.stop_within, w00, w04, w07, w08, w09,
      w13, w20, w21, w22, w23, w24, w26, w27, p_auth, p_boundary, p_cc, p_draught, p_flue, p_fnd, p_fresh, p_lanes, p_lp, p_msg, p_pol, p_thn,
      p_timers, p_vdm, hW0]

theorem execSourceCapsReceived_within {n : Port} {s : State} (w00 : W 0x00 = true) (w04 : W 0x04 = true) (w07 : W 0x07 = true) (w08 : W 0x08 = true)
    (w09 : W 0x09 = true) (w0F : W 0x0F = true) (w13 : W 0x13 = true) (w20 : W 0x20 = true) (w21 : W 0x21 = true) (w22 : W 0x22 = true) (w23 : W 0x23
    = true) (w24 : W 0x24 = true) (w26 : W 0x26 = true) (w27 : W 0x27 = true) (p_auth : P .auth = true) (p_boundary : P .boundary = true) (p_cc : P
    .cc = true) (p_draught : P .draught = true) (p_flue : P .flue = true) (p_fnd : P .fnd = true) (p_fresh : P .fresh = true) (p_hA : P .hA = true)
    (p_hB : P .hB = true) (p_inputs : P .inputs = true) (p_lanes : P .lanes = true) (p_lp : P .lp = true) (p_msg : P .msg = true) (p_pol : P .pol =
    true) (p_thn : P .thn = true) (p_timers : P .timers = true) (p_vdm : P .vdm = true) {t : State} (e : execSourceCapsReceived n s = .next t) :
    Within W P s t := by
  unfold execSourceCapsReceived at e
  try dsimp only at e
  cases e
  simp (maxDischargeDepth := 60) only [within_refl, State.takeType_within, w00, w04, w07, w08, w09, w0F, w13, w20, w21, w22, w23, w24, w26, w27,
      p_auth, p_boundary, p_cc, p_draught, p_flue, p_fnd, p_fresh, p_hA, p_hB, p_inputs, p_lanes, p_lp, p_msg, p_pol, p_thn, p_timers, p_vdm]

theorem execCmdHardReset_within {n : Port} {epoch : BitVec 8} {s : State} (w00 : W 0x00 = true) (w04 : W 0x04 = true) (w07 : W 0x07 = true) (w08 : W
    0x08 = true) (w09 : W 0x09 = true) (w0B : W 0x0B = true) (w0C : W 0x0C = true) (w0F : W 0x0F = true) (w13 : W 0x13 = true) (w20 : W 0x20 = true)
    (w21 : W 0x21 = true) (w22 : W 0x22 = true) (w23 : W 0x23 = true) (w24 : W 0x24 = true) (w26 : W 0x26 = true) (w27 : W 0x27 = true) (p_auth : P
    .auth = true) (p_boundary : P .boundary = true) (p_cc : P .cc = true) (p_draught : P .draught = true) (p_flue : P .flue = true) (p_fnd : P .fnd =
    true) (p_fresh : P .fresh = true) (p_hA : P .hA = true) (p_hB : P .hB = true) (p_inputs : P .inputs = true) (p_lanes : P .lanes = true) (p_lp : P
    .lp = true) (p_msg : P .msg = true) (p_pol : P .pol = true) (p_thn : P .thn = true) (p_timers : P .timers = true) (p_vdm : P .vdm = true) {t :
    State} (e : execCmdHardReset n epoch s = .next t) : Within W P s t := by
  unfold execCmdHardReset at e
  try dsimp only at e
  cases e
  simp (maxDischargeDepth := 60) only [within_refl, State.polHost_within, w00, w04, w07, w08, w09, w0B, w0C, w0F, w13, w20, w21, w22, w23, w24, w26,
      w27, p_auth, p_boundary, p_cc, p_draught, p_flue, p_fnd, p_fresh, p_hA, p_hB, p_inputs, p_lanes, p_lp, p_msg, p_pol, p_thn, p_timers, p_vdm]

theorem execEprEnterReceived_within {n : Port} {s : State} (w00 : W 0x00 = true) (w04 : W 0x04 = true) (w07 : W 0x07 = true) (w08 : W 0x08 = true)
    (w09 : W 0x09 = true) (w0F : W 0x0F = true) (w13 : W 0x13 = true) (w20 : W 0x20 = true) (w21 : W 0x21 = true) (w22 : W 0x22 = true) (w23 : W 0x23
    = true) (w24 : W 0x24 = true) (w26 : W 0x26 = true) (w27 : W 0x27 = true) (p_auth : P .auth = true) (p_boundary : P .boundary = true) (p_cc : P
    .cc = true) (p_draught : P .draught = true) (p_flue : P .flue = true) (p_fnd : P .fnd = true) (p_fresh : P .fresh = true) (p_hA : P .hA = true)
    (p_hB : P .hB = true) (p_inputs : P .inputs = true) (p_lanes : P .lanes = true) (p_lp : P .lp = true) (p_msg : P .msg = true) (p_pol : P .pol =
    true) (p_thn : P .thn = true) (p_timers : P .timers = true) (p_vdm : P .vdm = true) {t : State} (e : execEprEnterReceived n s = .next t) : Within
    W P s t := by
  unfold execEprEnterReceived at e
  try dsimp only at e
  cases e
  simp (maxDischargeDepth := 60) only [within_refl, State.takeNext_within, w00, w04, w07, w08, w09, w0F, w13, w20, w21, w22, w23, w24, w26, w27,
      p_auth, p_boundary, p_cc, p_draught, p_flue, p_fnd, p_fresh, p_hA, p_hB, p_inputs, p_lanes, p_lp, p_msg, p_pol, p_thn, p_timers, p_vdm]

theorem State.recoveryExpiry_within {s : State} {n : Port} (w0F : W 0x0F = true) (w20 : W 0x20 = true) (w22 : W 0x22 = true) (p_boundary : P .boundary
    = true) (p_cc : P .cc = true) (p_flue : P .flue = true) (p_hA : P .hA = true) (p_hB : P .hB = true) (p_pol : P .pol = true) (p_timers : P .timers
    = true) (hW0 : Within W P s0 s) : Within W P s0 (State.recoveryExpiry s n) := by
  unfold State.recoveryExpiry
  try dsimp only
  simp (maxDischargeDepth := 60) only [and_self, implies_true, within_ite, State.stop_within, State.reachPoint1_within, w0F, w20, w22, p_boundary,
      p_cc, p_flue, p_hA, p_hB, p_pol, p_timers, hW0]

theorem execErrorRecoveryExpiry_within {n : Port} {s : State} (w00 : W 0x00 = true) (w04 : W 0x04 = true) (w07 : W 0x07 = true) (w08 : W 0x08 = true)
    (w09 : W 0x09 = true) (w0F : W 0x0F = true) (w13 : W 0x13 = true) (w20 : W 0x20 = true) (w21 : W 0x21 = true) (w22 : W 0x22 = true) (w23 : W 0x23
    = true) (w24 : W 0x24 = true) (w26 : W 0x26 = true) (w27 : W 0x27 = true) (p_auth : P .auth = true) (p_boundary : P .boundary = true) (p_cc : P
    .cc = true) (p_draught : P .draught = true) (p_flue : P .flue = true) (p_fnd : P .fnd = true) (p_fresh : P .fresh = true) (p_hA : P .hA = true)
    (p_hB : P .hB = true) (p_inputs : P .inputs = true) (p_lanes : P .lanes = true) (p_lp : P .lp = true) (p_msg : P .msg = true) (p_pol : P .pol =
    true) (p_thn : P .thn = true) (p_timers : P .timers = true) (p_vdm : P .vdm = true) {t : State} (e : execErrorRecoveryExpiry n s = .next t) :
    Within W P s t := by
  unfold execErrorRecoveryExpiry at e
  try dsimp only at e
  cases e
  simp (maxDischargeDepth := 60) only [within_refl, State.recoveryExpiry_within, State.policyBefore_within, w00, w04, w07, w08, w09, w0F, w13, w20,
      w21, w22, w23, w24, w26, w27, p_auth, p_boundary, p_cc, p_draught, p_flue, p_fnd, p_fresh, p_hA, p_hB, p_inputs, p_lanes, p_lp, p_msg, p_pol,
      p_thn, p_timers, p_vdm]

theorem State.heldTake_within {s : State} {n : Port} (w00 : W 0x00 = true) (w04 : W 0x04 = true) (w07 : W 0x07 = true) (w08 : W 0x08 = true) (w09 : W
    0x09 = true) (w0B : W 0x0B = true) (w0C : W 0x0C = true) (w0F : W 0x0F = true) (w13 : W 0x13 = true) (w20 : W 0x20 = true) (w21 : W 0x21 = true)
    (w22 : W 0x22 = true) (w23 : W 0x23 = true) (w24 : W 0x24 = true) (w26 : W 0x26 = true) (w27 : W 0x27 = true) (p_auth : P .auth = true)
    (p_boundary : P .boundary = true) (p_cc : P .cc = true) (p_draught : P .draught = true) (p_flue : P .flue = true) (p_fnd : P .fnd = true) (p_fresh
    : P .fresh = true) (p_hA : P .hA = true) (p_hB : P .hB = true) (p_lanes : P .lanes = true) (p_lp : P .lp = true) (p_msg : P .msg = true) (p_pol :
    P .pol = true) (p_thn : P .thn = true) (p_timers : P .timers = true) (p_vdm : P .vdm = true) (hW0 : Within W P s0 s) : Within W P s0
    (State.heldTake s n) := by
  unfold State.heldTake
  try dsimp only
  simp (maxDischargeDepth := 60) only [and_self, implies_true, within_ite, pageOf_add, pageKind_portPage, Nat.reduceAdd, Nat.reduceLT,
      State.set_within, State.polCommand_within, w00, w04, w07, w08, w09, w0B, w0C, w0F, w13, w20, w21, w22, w23, w24, w26, w27, p_auth, p_boundary,
      p_cc, p_draught, p_flue, p_fnd, p_fresh, p_hA, p_hB, p_lanes, p_lp, p_msg, p_pol, p_thn, p_timers, p_vdm, hW0]

theorem State.swapToSource_within {s : State} {n : Port} (w20 : W 0x20 = true) (w24 : W 0x24 = true) (p_boundary : P .boundary = true) (p_cc : P .cc =
    true) (p_flue : P .flue = true) (p_lp : P .lp = true) (p_pol : P .pol = true) (p_timers : P .timers = true) (hW0 : Within W P s0 s) : Within W P
    s0 (State.swapToSource s n) := by
  unfold State.swapToSource
  try dsimp only
  simp (maxDischargeDepth := 60) only [and_self, implies_true, within_ite, State.sinkToSource_within, w20, w24, p_boundary, p_cc, p_flue, p_lp, p_pol,
      p_timers, hW0]

theorem execFrsInitTimer_within {n : Port} {s : State} (w00 : W 0x00 = true) (w04 : W 0x04 = true) (w07 : W 0x07 = true) (w08 : W 0x08 = true) (w09 :
    W 0x09 = true) (w0F : W 0x0F = true) (w13 : W 0x13 = true) (w20 : W 0x20 = true) (w21 : W 0x21 = true) (w22 : W 0x22 = true) (w23 : W 0x23 = true)
    (w24 : W 0x24 = true) (w26 : W 0x26 = true) (w27 : W 0x27 = true) (p_auth : P .auth = true) (p_boundary : P .boundary = true) (p_cc : P .cc =
    true) (p_draught : P .draught = true) (p_flue : P .flue = true) (p_fnd : P .fnd = true) (p_fresh : P .fresh = true) (p_hA : P .hA = true) (p_hB :
    P .hB = true) (p_inputs : P .inputs = true) (p_lanes : P .lanes = true) (p_lp : P .lp = true) (p_msg : P .msg = true) (p_pol : P .pol = true)
    (p_thn : P .thn = true) (p_timers : P .timers = true) (p_vdm : P .vdm = true) {t : State} (e : execFrsInitTimer n s = .next t) : Within W P s t :=
    by
  unfold execFrsInitTimer at e
  try dsimp only at e
  cases e
  simp (maxDischargeDepth := 60) only [within_refl, State.frsInitExpiry_within, State.policyBefore_within, w00, w04, w07, w08, w09, w0F, w13, w20,
      w21, w22, w23, w24, w26, w27, p_auth, p_boundary, p_cc, p_draught, p_flue, p_fnd, p_fresh, p_hA, p_hB, p_inputs, p_lanes, p_lp, p_msg, p_pol,
      p_thn, p_timers, p_vdm]

theorem State.frsSignal_within {s : State} {n : Port} (w09 : W 0x09 = true) (w13 : W 0x13 = true) (w20 : W 0x20 = true) (w22 : W 0x22 = true)
    (p_draught : P .draught = true) (p_flue : P .flue = true) (p_lp : P .lp = true) (p_pol : P .pol = true) (p_thn : P .thn = true) (p_timers : P
    .timers = true) (hW0 : Within W P s0 s) : Within W P s0 (State.frsSignal s n) := by
  unfold State.frsSignal
  try dsimp only
  simp (maxDischargeDepth := 60) only [and_self, implies_true, within_ite, pageOf_add, pageKind_portPage, Nat.reduceAdd, Nat.reduceLT,
      State.setPd_within, State.set_within, State.collapse_within, State.amsOn_within, State.modLp_within, State.modPol_within, State.start_within,
      State.policyTimersStop_within, w09, w13, w20, w22, p_draught, p_flue, p_lp, p_pol, p_thn, p_timers, hW0]

theorem execFrsSignal_within {n : Port} {s : State} (w00 : W 0x00 = true) (w04 : W 0x04 = true) (w07 : W 0x07 = true) (w08 : W 0x08 = true) (w09 : W
    0x09 = true) (w0F : W 0x0F = true) (w13 : W 0x13 = true) (w20 : W 0x20 = true) (w21 : W 0x21 = true) (w22 : W 0x22 = true) (w23 : W 0x23 = true)
    (w24 : W 0x24 = true) (w26 : W 0x26 = true) (w27 : W 0x27 = true) (p_auth : P .auth = true) (p_boundary : P .boundary = true) (p_cc : P .cc =
    true) (p_draught : P .draught = true) (p_flue : P .flue = true) (p_fnd : P .fnd = true) (p_fresh : P .fresh = true) (p_hA : P .hA = true) (p_hB :
    P .hB = true) (p_inputs : P .inputs = true) (p_lanes : P .lanes = true) (p_lp : P .lp = true) (p_msg : P .msg = true) (p_pol : P .pol = true)
    (p_thn : P .thn = true) (p_timers : P .timers = true) (p_vdm : P .vdm = true) {t : State} (e : execFrsSignal n s = .next t) : Within W P s t := by
  unfold execFrsSignal at e
  try dsimp only at e
  cases e
  simp (maxDischargeDepth := 60) only [within_refl, State.frsSignal_within, State.policyBefore_within, w00, w04, w07, w08, w09, w0F, w13, w20, w21,
      w22, w23, w24, w26, w27, p_auth, p_boundary, p_cc, p_draught, p_flue, p_fnd, p_fresh, p_hA, p_hB, p_inputs, p_lanes, p_lp, p_msg, p_pol, p_thn,
      p_timers, p_vdm]

theorem State.swapExpiry_within {s : State} {n : Port} (w00 : W 0x00 = true) (w04 : W 0x04 = true) (w07 : W 0x07 = true) (w08 : W 0x08 = true) (w09 :
    W 0x09 = true) (w13 : W 0x13 = true) (w20 : W 0x20 = true) (w21 : W 0x21 = true) (w22 : W 0x22 = true) (w23 : W 0x23 = true) (w24 : W 0x24 = true)
    (w26 : W 0x26 = true) (w27 : W 0x27 = true) (p_auth : P .auth = true) (p_boundary : P .boundary = true) (p_cc : P .cc = true) (p_draught : P
    .draught = true) (p_flue : P .flue = true) (p_fnd : P .fnd = true) (p_fresh : P .fresh = true) (p_lanes : P .lanes = true) (p_lp : P .lp = true)
    (p_msg : P .msg = true) (p_pol : P .pol = true) (p_thn : P .thn = true) (p_timers : P .timers = true) (p_vdm : P .vdm = true) (hW0 : Within W P s0
    s) : Within W P s0 (State.swapExpiry s n) := by
  unfold State.swapExpiry
  try dsimp only
  simp (maxDischargeDepth := 60) only [and_self, implies_true, within_ite, State.errorRecovery_within, State.stop_within, w00, w04, w07, w08, w09,
      w13, w20, w21, w22, w23, w24, w26, w27, p_auth, p_boundary, p_cc, p_draught, p_flue, p_fnd, p_fresh, p_lanes, p_lp, p_msg, p_pol, p_thn,
      p_timers, p_vdm, hW0]

theorem execSwapTimeout_within {n : Port} {s : State} (w00 : W 0x00 = true) (w04 : W 0x04 = true) (w07 : W 0x07 = true) (w08 : W 0x08 = true) (w09 : W
    0x09 = true) (w0F : W 0x0F = true) (w13 : W 0x13 = true) (w20 : W 0x20 = true) (w21 : W 0x21 = true) (w22 : W 0x22 = true) (w23 : W 0x23 = true)
    (w24 : W 0x24 = true) (w26 : W 0x26 = true) (w27 : W 0x27 = true) (p_auth : P .auth = true) (p_boundary : P .boundary = true) (p_cc : P .cc =
    true) (p_draught : P .draught = true) (p_flue : P .flue = true) (p_fnd : P .fnd = true) (p_fresh : P .fresh = true) (p_hA : P .hA = true) (p_hB :
    P .hB = true) (p_inputs : P .inputs = true) (p_lanes : P .lanes = true) (p_lp : P .lp = true) (p_msg : P .msg = true) (p_pol : P .pol = true)
    (p_thn : P .thn = true) (p_timers : P .timers = true) (p_vdm : P .vdm = true) {t : State} (e : execSwapTimeout n s = .next t) : Within W P s t :=
    by
  unfold execSwapTimeout at e
  try dsimp only at e
  cases e
  simp (maxDischargeDepth := 60) only [within_refl, State.swapExpiry_within, State.policyBefore_within, w00, w04, w07, w08, w09, w0F, w13, w20, w21,
      w22, w23, w24, w26, w27, p_auth, p_boundary, p_cc, p_draught, p_flue, p_fnd, p_fresh, p_hA, p_hB, p_inputs, p_lanes, p_lp, p_msg, p_pol, p_thn,
      p_timers, p_vdm]

theorem State.sourceCapExpiry_within {s : State} {n : Port} (w20 : W 0x20 = true) (w21 : W 0x21 = true) (w22 : W 0x22 = true) (p_boundary : P
    .boundary = true) (p_cc : P .cc = true) (p_flue : P .flue = true) (p_msg : P .msg = true) (p_pol : P .pol = true) (p_timers : P .timers = true)
    (hW0 : Within W P s0 s) : Within W P s0 (State.sourceCapExpiry s n) := by
  unfold State.sourceCapExpiry
  try dsimp only
  simp (maxDischargeDepth := 60) only [and_self, implies_true, within_ite, State.capsSend_within, State.stop_within, w20, w21, w22, p_boundary, p_cc,
      p_flue, p_msg, p_pol, p_timers, hW0]

theorem State.ppsExpiry_within {s : State} {n : Port} (w20 : W 0x20 = true) (w21 : W 0x21 = true) (p_boundary : P .boundary = true) (p_cc : P .cc =
    true) (p_msg : P .msg = true) (p_pol : P .pol = true) (p_timers : P .timers = true) (hW0 : Within W P s0 s) : Within W P s0 (State.ppsExpiry s n)
    := by
  unfold State.ppsExpiry
  try dsimp only
  simp (maxDischargeDepth := 60) only [and_self, implies_true, within_ite, State.hardResetRequest_within, State.stop_within, w20, w21, p_boundary,
      p_cc, p_msg, p_pol, p_timers, hW0]

theorem execPpsTimeout_within {n : Port} {s : State} (w00 : W 0x00 = true) (w04 : W 0x04 = true) (w07 : W 0x07 = true) (w08 : W 0x08 = true) (w09 : W
    0x09 = true) (w0F : W 0x0F = true) (w13 : W 0x13 = true) (w20 : W 0x20 = true) (w21 : W 0x21 = true) (w22 : W 0x22 = true) (w23 : W 0x23 = true)
    (w24 : W 0x24 = true) (w26 : W 0x26 = true) (w27 : W 0x27 = true) (p_auth : P .auth = true) (p_boundary : P .boundary = true) (p_cc : P .cc =
    true) (p_draught : P .draught = true) (p_flue : P .flue = true) (p_fnd : P .fnd = true) (p_fresh : P .fresh = true) (p_hA : P .hA = true) (p_hB :
    P .hB = true) (p_inputs : P .inputs = true) (p_lanes : P .lanes = true) (p_lp : P .lp = true) (p_msg : P .msg = true) (p_pol : P .pol = true)
    (p_thn : P .thn = true) (p_timers : P .timers = true) (p_vdm : P .vdm = true) {t : State} (e : execPpsTimeout n s = .next t) : Within W P s t :=
    by
  unfold execPpsTimeout at e
  try dsimp only at e
  cases e
  simp (maxDischargeDepth := 60) only [within_refl, State.ppsExpiry_within, State.policyBefore_within, w00, w04, w07, w08, w09, w0F, w13, w20, w21,
      w22, w23, w24, w26, w27, p_auth, p_boundary, p_cc, p_draught, p_flue, p_fnd, p_fresh, p_hA, p_hB, p_inputs, p_lanes, p_lp, p_msg, p_pol, p_thn,
      p_timers, p_vdm]

theorem execCmdSendCaps_within {n : Port} {epoch : BitVec 8} {s : State} (w00 : W 0x00 = true) (w04 : W 0x04 = true) (w07 : W 0x07 = true) (w08 : W
    0x08 = true) (w09 : W 0x09 = true) (w0B : W 0x0B = true) (w0C : W 0x0C = true) (w0F : W 0x0F = true) (w13 : W 0x13 = true) (w20 : W 0x20 = true)
    (w21 : W 0x21 = true) (w22 : W 0x22 = true) (w23 : W 0x23 = true) (w24 : W 0x24 = true) (w26 : W 0x26 = true) (w27 : W 0x27 = true) (p_auth : P
    .auth = true) (p_boundary : P .boundary = true) (p_cc : P .cc = true) (p_draught : P .draught = true) (p_flue : P .flue = true) (p_fnd : P .fnd =
    true) (p_fresh : P .fresh = true) (p_hA : P .hA = true) (p_hB : P .hB = true) (p_inputs : P .inputs = true) (p_lanes : P .lanes = true) (p_lp : P
    .lp = true) (p_msg : P .msg = true) (p_pol : P .pol = true) (p_thn : P .thn = true) (p_timers : P .timers = true) (p_vdm : P .vdm = true) {t :
    State} (e : execCmdSendCaps n epoch s = .next t) : Within W P s t := by
  unfold execCmdSendCaps at e
  try dsimp only at e
  cases e
  simp (maxDischargeDepth := 60) only [within_refl, State.polHost_within, w00, w04, w07, w08, w09, w0B, w0C, w0F, w13, w20, w21, w22, w23, w24, w26,
      w27, p_auth, p_boundary, p_cc, p_draught, p_flue, p_fnd, p_fresh, p_hA, p_hB, p_inputs, p_lanes, p_lp, p_msg, p_pol, p_thn, p_timers, p_vdm]

theorem State.holdExpiry_within {s : State} {n : Port} (p_pol : P .pol = true) (p_timers : P .timers = true) (hW0 : Within W P s0 s) : Within W P s0
    (State.holdExpiry s n) := by
  unfold State.holdExpiry
  try dsimp only
  (repeat' split) <;> (try simp (maxDischargeDepth := 60) only [State.stop_within, State.setSeq_within, p_pol, p_timers, hW0])

theorem State.swapStartExpiry_within {s : State} {n : Port} (w0F : W 0x0F = true) (w20 : W 0x20 = true) (w21 : W 0x21 = true) (w22 : W 0x22 = true)
    (w23 : W 0x23 = true) (p_boundary : P .boundary = true) (p_cc : P .cc = true) (p_flue : P .flue = true) (p_hA : P .hA = true) (p_hB : P .hB =
    true) (p_msg : P .msg = true) (p_pol : P .pol = true) (p_timers : P .timers = true) (p_vdm : P .vdm = true) (hW0 : Within W P s0 s) : Within W P
    s0 (State.swapStartExpiry s n) := by
  unfold State.swapStartExpiry
  try dsimp only
  simp (maxDischargeDepth := 60) only [and_self, implies_true, within_ite, State.capsSend_within, State.actPoint_within, State.stop_within, w0F, w20,
      w21, w22, w23, p_boundary, p_cc, p_flue, p_hA, p_hB, p_msg, p_pol, p_timers, p_vdm, hW0]

theorem State.safe5V_within {s : State} {n : Port} (w0F : W 0x0F = true) (w20 : W 0x20 = true) (w21 : W 0x21 = true) (w22 : W 0x22 = true) (w23 : W
    0x23 = true) (p_boundary : P .boundary = true) (p_cc : P .cc = true) (p_flue : P .flue = true) (p_hA : P .hA = true) (p_hB : P .hB = true) (p_msg
    : P .msg = true) (p_pol : P .pol = true) (p_timers : P .timers = true) (p_vdm : P .vdm = true) (hW0 : Within W P s0 s) : Within W P s0
    (State.safe5V s n) := by
  unfold State.safe5V
  try dsimp only
  (repeat' split) <;> (try simp (maxDischargeDepth := 60) only [State.start_within, State.actPoint_within, State.setPd_within, State.setSeq_within,
      State.readyHand_within, w0F, w20, w21, w22, w23, p_boundary, p_cc, p_flue, p_hA, p_hB, p_msg, p_pol, p_timers, p_vdm, hW0])

theorem execHardResetVsafe5v_within {n : Port} {s : State} (w00 : W 0x00 = true) (w04 : W 0x04 = true) (w07 : W 0x07 = true) (w08 : W 0x08 = true)
    (w09 : W 0x09 = true) (w0F : W 0x0F = true) (w13 : W 0x13 = true) (w20 : W 0x20 = true) (w21 : W 0x21 = true) (w22 : W 0x22 = true) (w23 : W 0x23
    = true) (w24 : W 0x24 = true) (w26 : W 0x26 = true) (w27 : W 0x27 = true) (p_auth : P .auth = true) (p_boundary : P .boundary = true) (p_cc : P
    .cc = true) (p_draught : P .draught = true) (p_flue : P .flue = true) (p_fnd : P .fnd = true) (p_fresh : P .fresh = true) (p_hA : P .hA = true)
    (p_hB : P .hB = true) (p_inputs : P .inputs = true) (p_lanes : P .lanes = true) (p_lp : P .lp = true) (p_msg : P .msg = true) (p_pol : P .pol =
    true) (p_thn : P .thn = true) (p_timers : P .timers = true) (p_vdm : P .vdm = true) {t : State} (e : execHardResetVsafe5v n s = .next t) : Within
    W P s t := by
  unfold execHardResetVsafe5v at e
  try dsimp only at e
  cases e
  simp (maxDischargeDepth := 60) only [within_refl, State.safe5V_within, State.policyBefore_within, w00, w04, w07, w08, w09, w0F, w13, w20, w21, w22,
      w23, w24, w26, w27, p_auth, p_boundary, p_cc, p_draught, p_flue, p_fnd, p_fresh, p_hA, p_hB, p_inputs, p_lanes, p_lp, p_msg, p_pol, p_thn,
      p_timers, p_vdm]

theorem State.descent5V_within {s : State} {n : Port} (w24 : W 0x24 = true) (w26 : W 0x26 = true) (w27 : W 0x27 = true) (p_boundary : P .boundary =
    true) (p_flue : P .flue = true) (p_fnd : P .fnd = true) (p_lanes : P .lanes = true) (p_lp : P .lp = true) (p_pol : P .pol = true) (p_timers : P
    .timers = true) (hW0 : Within W P s0 s) : Within W P s0 (State.descent5V s n) := by
  unfold State.descent5V
  try dsimp only
  simp (maxDischargeDepth := 60) only [and_self, implies_true, within_ite, State.presetZero_within, State.modPol_within, State.dschgOn_within,
      State.openPath_within, State.stageOff_within, w24, w26, w27, p_boundary, p_flue, p_fnd, p_lanes, p_lp, p_pol, p_timers, hW0]

theorem State.capsCfgWrite_within {s : State} {n : Port} {v : Word} (w22 : W 0x22 = true) (p_flue : P .flue = true) (hW0 : Within W P s0 s) : Within W
    P s0 (State.capsCfgWrite s n v) := by
  unfold State.capsCfgWrite
  try dsimp only
  simp (maxDischargeDepth := 60) only [and_self, implies_true, within_ite, pageOf_add, pageKind_portPage, Nat.reduceAdd, Nat.reduceLT,
      State.eventHost_within, State.set_within, w22, p_flue, hW0]

theorem execCapsCfgWrite_within {n : Port} {value : Word} {s : State} (w22 : W 0x22 = true) (p_flue : P .flue = true) {t : State} (e :
    execCapsCfgWrite n value s = .next t) : Within W P s t := by
  unfold execCapsCfgWrite at e
  try dsimp only at e
  cases e
  simp (maxDischargeDepth := 60) only [implies_true, within_refl, State.answered_within, State.capsCfgWrite_within, w22, p_flue]

theorem execSourceCapTimer_within {n : Port} {s : State} (w00 : W 0x00 = true) (w04 : W 0x04 = true) (w07 : W 0x07 = true) (w08 : W 0x08 = true) (w09
    : W 0x09 = true) (w0F : W 0x0F = true) (w13 : W 0x13 = true) (w20 : W 0x20 = true) (w21 : W 0x21 = true) (w22 : W 0x22 = true) (w23 : W 0x23 =
    true) (w24 : W 0x24 = true) (w26 : W 0x26 = true) (w27 : W 0x27 = true) (p_auth : P .auth = true) (p_boundary : P .boundary = true) (p_cc : P .cc
    = true) (p_draught : P .draught = true) (p_flue : P .flue = true) (p_fnd : P .fnd = true) (p_fresh : P .fresh = true) (p_hA : P .hA = true) (p_hB
    : P .hB = true) (p_inputs : P .inputs = true) (p_lanes : P .lanes = true) (p_lp : P .lp = true) (p_msg : P .msg = true) (p_pol : P .pol = true)
    (p_thn : P .thn = true) (p_timers : P .timers = true) (p_vdm : P .vdm = true) {t : State} (e : execSourceCapTimer n s = .next t) : Within W P s t
    := by
  unfold execSourceCapTimer at e
  try dsimp only at e
  cases e
  simp (maxDischargeDepth := 60) only [within_refl, State.sourceCapExpiry_within, State.policyBefore_within, w00, w04, w07, w08, w09, w0F, w13, w20,
      w21, w22, w23, w24, w26, w27, p_auth, p_boundary, p_cc, p_draught, p_flue, p_fnd, p_fresh, p_hA, p_hB, p_inputs, p_lanes, p_lp, p_msg, p_pol,
      p_thn, p_timers, p_vdm]

theorem State.frsLow_within {s : State} {n : Port} (w24 : W 0x24 = true) (p_boundary : P .boundary = true) (p_flue : P .flue = true) (p_lp : P .lp =
    true) (p_pol : P .pol = true) (p_timers : P .timers = true) (hW0 : Within W P s0 s) : Within W P s0 (State.frsLow s n) := by
  unfold State.frsLow
  try dsimp only
  simp (maxDischargeDepth := 60) only [and_self, implies_true, within_ite, pageOf_add, pageKind_portPage, Nat.reduceAdd, Nat.reduceLT,
      State.modPol_within, State.set_within, State.stageRun_within, w24, p_boundary, p_flue, p_lp, p_pol, p_timers, hW0]

theorem execFrsVbusLow_within {n : Port} {s : State} (w00 : W 0x00 = true) (w04 : W 0x04 = true) (w07 : W 0x07 = true) (w08 : W 0x08 = true) (w09 : W
    0x09 = true) (w0F : W 0x0F = true) (w13 : W 0x13 = true) (w20 : W 0x20 = true) (w21 : W 0x21 = true) (w22 : W 0x22 = true) (w23 : W 0x23 = true)
    (w24 : W 0x24 = true) (w26 : W 0x26 = true) (w27 : W 0x27 = true) (p_auth : P .auth = true) (p_boundary : P .boundary = true) (p_cc : P .cc =
    true) (p_draught : P .draught = true) (p_flue : P .flue = true) (p_fnd : P .fnd = true) (p_fresh : P .fresh = true) (p_hA : P .hA = true) (p_hB :
    P .hB = true) (p_inputs : P .inputs = true) (p_lanes : P .lanes = true) (p_lp : P .lp = true) (p_msg : P .msg = true) (p_pol : P .pol = true)
    (p_thn : P .thn = true) (p_timers : P .timers = true) (p_vdm : P .vdm = true) {t : State} (e : execFrsVbusLow n s = .next t) : Within W P s t :=
    by
  unfold execFrsVbusLow at e
  try dsimp only at e
  cases e
  simp (maxDischargeDepth := 60) only [within_refl, State.frsLow_within, State.policyBefore_within, w00, w04, w07, w08, w09, w0F, w13, w20, w21, w22,
      w23, w24, w26, w27, p_auth, p_boundary, p_cc, p_draught, p_flue, p_fnd, p_fresh, p_hA, p_hB, p_inputs, p_lanes, p_lp, p_msg, p_pol, p_thn,
      p_timers, p_vdm]

theorem State.hardDescent_within {s : State} {n : Port} (w26 : W 0x26 = true) (p_boundary : P .boundary = true) (p_fnd : P .fnd = true) (p_pol : P
    .pol = true) (p_timers : P .timers = true) (hW0 : Within W P s0 s) : Within W P s0 (State.hardDescent s n) := by
  unfold State.hardDescent
  try dsimp only
  simp (maxDischargeDepth := 60) only [and_self, implies_true, within_ite, State.stop_within, State.start_within, State.setSeq_within,
      State.dschgOff_within, w26, p_boundary, p_fnd, p_pol, p_timers, hW0]

theorem execTransitionHoldExpiry_within {n : Port} {s : State} (w00 : W 0x00 = true) (w04 : W 0x04 = true) (w07 : W 0x07 = true) (w08 : W 0x08 = true)
    (w09 : W 0x09 = true) (w0F : W 0x0F = true) (w13 : W 0x13 = true) (w20 : W 0x20 = true) (w21 : W 0x21 = true) (w22 : W 0x22 = true) (w23 : W 0x23
    = true) (w24 : W 0x24 = true) (w26 : W 0x26 = true) (w27 : W 0x27 = true) (p_auth : P .auth = true) (p_boundary : P .boundary = true) (p_cc : P
    .cc = true) (p_draught : P .draught = true) (p_flue : P .flue = true) (p_fnd : P .fnd = true) (p_fresh : P .fresh = true) (p_hA : P .hA = true)
    (p_hB : P .hB = true) (p_inputs : P .inputs = true) (p_lanes : P .lanes = true) (p_lp : P .lp = true) (p_msg : P .msg = true) (p_pol : P .pol =
    true) (p_thn : P .thn = true) (p_timers : P .timers = true) (p_vdm : P .vdm = true) {t : State} (e : execTransitionHoldExpiry n s = .next t) :
    Within W P s t := by
  unfold execTransitionHoldExpiry at e
  try dsimp only at e
  cases e
  simp (maxDischargeDepth := 60) only [within_refl, State.holdExpiry_within, State.policyBefore_within, w00, w04, w07, w08, w09, w0F, w13, w20, w21,
      w22, w23, w24, w26, w27, p_auth, p_boundary, p_cc, p_draught, p_flue, p_fnd, p_fresh, p_hA, p_hB, p_inputs, p_lanes, p_lp, p_msg, p_pol, p_thn,
      p_timers, p_vdm]

theorem execCmdErrorRecovery_within {n : Port} {epoch : BitVec 8} {s : State} (w00 : W 0x00 = true) (w04 : W 0x04 = true) (w07 : W 0x07 = true) (w08 :
    W 0x08 = true) (w09 : W 0x09 = true) (w0B : W 0x0B = true) (w0C : W 0x0C = true) (w0F : W 0x0F = true) (w13 : W 0x13 = true) (w20 : W 0x20 = true)
    (w21 : W 0x21 = true) (w22 : W 0x22 = true) (w23 : W 0x23 = true) (w24 : W 0x24 = true) (w26 : W 0x26 = true) (w27 : W 0x27 = true) (p_auth : P
    .auth = true) (p_boundary : P .boundary = true) (p_cc : P .cc = true) (p_draught : P .draught = true) (p_flue : P .flue = true) (p_fnd : P .fnd =
    true) (p_fresh : P .fresh = true) (p_hA : P .hA = true) (p_hB : P .hB = true) (p_inputs : P .inputs = true) (p_lanes : P .lanes = true) (p_lp : P
    .lp = true) (p_msg : P .msg = true) (p_pol : P .pol = true) (p_thn : P .thn = true) (p_timers : P .timers = true) (p_vdm : P .vdm = true) {t :
    State} (e : execCmdErrorRecovery n epoch s = .next t) : Within W P s t := by
  unfold execCmdErrorRecovery at e
  try dsimp only at e
  cases e
  simp (maxDischargeDepth := 60) only [within_refl, State.polHost_within, w00, w04, w07, w08, w09, w0B, w0C, w0F, w13, w20, w21, w22, w23, w24, w26,
      w27, p_auth, p_boundary, p_cc, p_draught, p_flue, p_fnd, p_fresh, p_hA, p_hB, p_inputs, p_lanes, p_lp, p_msg, p_pol, p_thn, p_timers, p_vdm]

theorem execVconnSwapReceived_within {n : Port} {s : State} (w00 : W 0x00 = true) (w04 : W 0x04 = true) (w07 : W 0x07 = true) (w08 : W 0x08 = true)
    (w09 : W 0x09 = true) (w0F : W 0x0F = true) (w13 : W 0x13 = true) (w20 : W 0x20 = true) (w21 : W 0x21 = true) (w22 : W 0x22 = true) (w23 : W 0x23
    = true) (w24 : W 0x24 = true) (w26 : W 0x26 = true) (w27 : W 0x27 = true) (p_auth : P .auth = true) (p_boundary : P .boundary = true) (p_cc : P
    .cc = true) (p_draught : P .draught = true) (p_flue : P .flue = true) (p_fnd : P .fnd = true) (p_fresh : P .fresh = true) (p_hA : P .hA = true)
    (p_hB : P .hB = true) (p_inputs : P .inputs = true) (p_lanes : P .lanes = true) (p_lp : P .lp = true) (p_msg : P .msg = true) (p_pol : P .pol =
    true) (p_thn : P .thn = true) (p_timers : P .timers = true) (p_vdm : P .vdm = true) {t : State} (e : execVconnSwapReceived n s = .next t) : Within
    W P s t := by
  unfold execVconnSwapReceived at e
  try dsimp only at e
  cases e
  simp (maxDischargeDepth := 60) only [within_refl, State.takeType_within, w00, w04, w07, w08, w09, w0F, w13, w20, w21, w22, w23, w24, w26, w27,
      p_auth, p_boundary, p_cc, p_draught, p_flue, p_fnd, p_fresh, p_hA, p_hB, p_inputs, p_lanes, p_lp, p_msg, p_pol, p_thn, p_timers, p_vdm]

theorem State.frsShow_within {s : State} {n : Port} (p_pol : P .pol = true) (hW0 : Within W P s0 s) : Within W P s0 (State.frsShow s n) := by
  unfold State.frsShow
  try dsimp only
  simp (maxDischargeDepth := 60) only [State.modPol_within, p_pol, hW0]

theorem State.senderTimeout_within {s : State} {n : Port} (w00 : W 0x00 = true) (w04 : W 0x04 = true) (w07 : W 0x07 = true) (w08 : W 0x08 = true) (w09
    : W 0x09 = true) (w0F : W 0x0F = true) (w13 : W 0x13 = true) (w20 : W 0x20 = true) (w21 : W 0x21 = true) (w22 : W 0x22 = true) (w23 : W 0x23 =
    true) (w24 : W 0x24 = true) (w26 : W 0x26 = true) (w27 : W 0x27 = true) (p_auth : P .auth = true) (p_boundary : P .boundary = true) (p_cc : P .cc
    = true) (p_draught : P .draught = true) (p_flue : P .flue = true) (p_fnd : P .fnd = true) (p_fresh : P .fresh = true) (p_hA : P .hA = true) (p_hB
    : P .hB = true) (p_lanes : P .lanes = true) (p_lp : P .lp = true) (p_msg : P .msg = true) (p_pol : P .pol = true) (p_thn : P .thn = true)
    (p_timers : P .timers = true) (p_vdm : P .vdm = true) (hW0 : Within W P s0 s) : Within W P s0 (State.senderTimeout s n) := by
  unfold State.senderTimeout
  try dsimp only
  (repeat' split) <;> (try simp (maxDischargeDepth := 60) only [State.stop_within, State.hardResetRequest_within, State.errorRecovery_within,
      State.point13_within, w00, w04, w07, w08, w09, w0F, w13, w20, w21, w22, w23, w24, w26, w27, p_auth, p_boundary, p_cc, p_draught, p_flue, p_fnd,
      p_fresh, p_hA, p_hB, p_lanes, p_lp, p_msg, p_pol, p_thn, p_timers, p_vdm, hW0])

theorem execSwapSourceStart_within {n : Port} {s : State} (w00 : W 0x00 = true) (w04 : W 0x04 = true) (w07 : W 0x07 = true) (w08 : W 0x08 = true) (w09
    : W 0x09 = true) (w0F : W 0x0F = true) (w13 : W 0x13 = true) (w20 : W 0x20 = true) (w21 : W 0x21 = true) (w22 : W 0x22 = true) (w23 : W 0x23 =
    true) (w24 : W 0x24 = true) (w26 : W 0x26 = true) (w27 : W 0x27 = true) (p_auth : P .auth = true) (p_boundary : P .boundary = true) (p_cc : P .cc
    = true) (p_draught : P .draught = true) (p_flue : P .flue = true) (p_fnd : P .fnd = true) (p_fresh : P .fresh = true) (p_hA : P .hA = true) (p_hB
    : P .hB = true) (p_inputs : P .inputs = true) (p_lanes : P .lanes = true) (p_lp : P .lp = true) (p_msg : P .msg = true) (p_pol : P .pol = true)
    (p_thn : P .thn = true) (p_timers : P .timers = true) (p_vdm : P .vdm = true) {t : State} (e : execSwapSourceStart n s = .next t) : Within W P s t
    := by
  unfold execSwapSourceStart at e
  try dsimp only at e
  cases e
  simp (maxDischargeDepth := 60) only [within_refl, State.swapStartExpiry_within, State.policyBefore_within, w00, w04, w07, w08, w09, w0F, w13, w20,
      w21, w22, w23, w24, w26, w27, p_auth, p_boundary, p_cc, p_draught, p_flue, p_fnd, p_fresh, p_hA, p_hB, p_inputs, p_lanes, p_lp, p_msg, p_pol,
      p_thn, p_timers, p_vdm]

theorem execDrSwapReceived_within {n : Port} {s : State} (w00 : W 0x00 = true) (w04 : W 0x04 = true) (w07 : W 0x07 = true) (w08 : W 0x08 = true) (w09
    : W 0x09 = true) (w0F : W 0x0F = true) (w13 : W 0x13 = true) (w20 : W 0x20 = true) (w21 : W 0x21 = true) (w22 : W 0x22 = true) (w23 : W 0x23 =
    true) (w24 : W 0x24 = true) (w26 : W 0x26 = true) (w27 : W 0x27 = true) (p_auth : P .auth = true) (p_boundary : P .boundary = true) (p_cc : P .cc
    = true) (p_draught : P .draught = true) (p_flue : P .flue = true) (p_fnd : P .fnd = true) (p_fresh : P .fresh = true) (p_hA : P .hA = true) (p_hB
    : P .hB = true) (p_inputs : P .inputs = true) (p_lanes : P .lanes = true) (p_lp : P .lp = true) (p_msg : P .msg = true) (p_pol : P .pol = true)
    (p_thn : P .thn = true) (p_timers : P .timers = true) (p_vdm : P .vdm = true) {t : State} (e : execDrSwapReceived n s = .next t) : Within W P s t
    := by
  unfold execDrSwapReceived at e
  try dsimp only at e
  cases e
  simp (maxDischargeDepth := 60) only [within_refl, State.takeType_within, w00, w04, w07, w08, w09, w0F, w13, w20, w21, w22, w23, w24, w26, w27,
      p_auth, p_boundary, p_cc, p_draught, p_flue, p_fnd, p_fresh, p_hA, p_hB, p_inputs, p_lanes, p_lp, p_msg, p_pol, p_thn, p_timers, p_vdm]

theorem State.keepAliveExpiry_within {s : State} {n : Port} (w00 : W 0x00 = true) (w04 : W 0x04 = true) (w07 : W 0x07 = true) (w08 : W 0x08 = true)
    (w09 : W 0x09 = true) (w0F : W 0x0F = true) (w13 : W 0x13 = true) (w20 : W 0x20 = true) (w21 : W 0x21 = true) (w22 : W 0x22 = true) (w23 : W 0x23
    = true) (w24 : W 0x24 = true) (w26 : W 0x26 = true) (w27 : W 0x27 = true) (p_auth : P .auth = true) (p_boundary : P .boundary = true) (p_cc : P
    .cc = true) (p_draught : P .draught = true) (p_flue : P .flue = true) (p_fnd : P .fnd = true) (p_fresh : P .fresh = true) (p_hA : P .hA = true)
    (p_hB : P .hB = true) (p_lanes : P .lanes = true) (p_lp : P .lp = true) (p_msg : P .msg = true) (p_pol : P .pol = true) (p_thn : P .thn = true)
    (p_timers : P .timers = true) (p_vdm : P .vdm = true) (hW0 : Within W P s0 s) : Within W P s0 (State.keepAliveExpiry s n) := by
  unfold State.keepAliveExpiry
  try dsimp only
  simp (maxDischargeDepth := 60) only [and_self, implies_true, within_ite, State.point13_within, State.stop_within, State.initiate_within,
      State.keepAliveStart_within, w00, w04, w07, w08, w09, w0F, w13, w20, w21, w22, w23, w24, w26, w27, p_auth, p_boundary, p_cc, p_draught, p_flue,
      p_fnd, p_fresh, p_hA, p_hB, p_lanes, p_lp, p_msg, p_pol, p_thn, p_timers, p_vdm, hW0]

theorem execEprKeepaliveTimer_within {n : Port} {s : State} (w00 : W 0x00 = true) (w04 : W 0x04 = true) (w07 : W 0x07 = true) (w08 : W 0x08 = true)
    (w09 : W 0x09 = true) (w0F : W 0x0F = true) (w13 : W 0x13 = true) (w20 : W 0x20 = true) (w21 : W 0x21 = true) (w22 : W 0x22 = true) (w23 : W 0x23
    = true) (w24 : W 0x24 = true) (w26 : W 0x26 = true) (w27 : W 0x27 = true) (p_auth : P .auth = true) (p_boundary : P .boundary = true) (p_cc : P
    .cc = true) (p_draught : P .draught = true) (p_flue : P .flue = true) (p_fnd : P .fnd = true) (p_fresh : P .fresh = true) (p_hA : P .hA = true)
    (p_hB : P .hB = true) (p_inputs : P .inputs = true) (p_lanes : P .lanes = true) (p_lp : P .lp = true) (p_msg : P .msg = true) (p_pol : P .pol =
    true) (p_thn : P .thn = true) (p_timers : P .timers = true) (p_vdm : P .vdm = true) {t : State} (e : execEprKeepaliveTimer n s = .next t) : Within
    W P s t := by
  unfold execEprKeepaliveTimer at e
  try dsimp only at e
  cases e
  simp (maxDischargeDepth := 60) only [within_refl, State.keepAliveExpiry_within, State.policyBefore_within, w00, w04, w07, w08, w09, w0F, w13, w20,
      w21, w22, w23, w24, w26, w27, p_auth, p_boundary, p_cc, p_draught, p_flue, p_fnd, p_fresh, p_hA, p_hB, p_inputs, p_lanes, p_lp, p_msg, p_pol,
      p_thn, p_timers, p_vdm]

theorem execPolicyInputTaken_within {h : Hth} {s : State} (w00 : W 0x00 = true) (w04 : W 0x04 = true) (w07 : W 0x07 = true) (w08 : W 0x08 = true) (w09
    : W 0x09 = true) (w0F : W 0x0F = true) (w13 : W 0x13 = true) (w20 : W 0x20 = true) (w21 : W 0x21 = true) (w22 : W 0x22 = true) (w23 : W 0x23 =
    true) (w24 : W 0x24 = true) (w26 : W 0x26 = true) (w27 : W 0x27 = true) (p_auth : P .auth = true) (p_boundary : P .boundary = true) (p_cc : P .cc
    = true) (p_draught : P .draught = true) (p_flue : P .flue = true) (p_fnd : P .fnd = true) (p_fresh : P .fresh = true) (p_hA : P .hA = true) (p_hB
    : P .hB = true) (p_inputs : P .inputs = true) (p_lanes : P .lanes = true) (p_lp : P .lp = true) (p_msg : P .msg = true) (p_pol : P .pol = true)
    (p_thn : P .thn = true) (p_timers : P .timers = true) (p_vdm : P .vdm = true) {t : State} (e : execPolicyInputTaken h s = .next t) : Within W P s
    t := by
  unfold execPolicyInputTaken at e
  try dsimp only at e
  cases e
  simp (maxDischargeDepth := 60) only [within_refl, State.policyTake_within, w00, w04, w07, w08, w09, w0F, w13, w20, w21, w22, w23, w24, w26, w27,
      p_auth, p_boundary, p_cc, p_draught, p_flue, p_fnd, p_fresh, p_hA, p_hB, p_inputs, p_lanes, p_lp, p_msg, p_pol, p_thn, p_timers, p_vdm]

theorem execCmdEprEntry_within {n : Port} {epoch : BitVec 8} {s : State} (w00 : W 0x00 = true) (w04 : W 0x04 = true) (w07 : W 0x07 = true) (w08 : W
    0x08 = true) (w09 : W 0x09 = true) (w0B : W 0x0B = true) (w0C : W 0x0C = true) (w0F : W 0x0F = true) (w13 : W 0x13 = true) (w20 : W 0x20 = true)
    (w21 : W 0x21 = true) (w22 : W 0x22 = true) (w23 : W 0x23 = true) (w24 : W 0x24 = true) (w26 : W 0x26 = true) (w27 : W 0x27 = true) (p_auth : P
    .auth = true) (p_boundary : P .boundary = true) (p_cc : P .cc = true) (p_draught : P .draught = true) (p_flue : P .flue = true) (p_fnd : P .fnd =
    true) (p_fresh : P .fresh = true) (p_hA : P .hA = true) (p_hB : P .hB = true) (p_inputs : P .inputs = true) (p_lanes : P .lanes = true) (p_lp : P
    .lp = true) (p_msg : P .msg = true) (p_pol : P .pol = true) (p_thn : P .thn = true) (p_timers : P .timers = true) (p_vdm : P .vdm = true) {t :
    State} (e : execCmdEprEntry n epoch s = .next t) : Within W P s t := by
  unfold execCmdEprEntry at e
  try dsimp only at e
  cases e
  simp (maxDischargeDepth := 60) only [within_refl, State.polHost_within, w00, w04, w07, w08, w09, w0B, w0C, w0F, w13, w20, w21, w22, w23, w24, w26,
      w27, p_auth, p_boundary, p_cc, p_draught, p_flue, p_fnd, p_fresh, p_hA, p_hB, p_inputs, p_lanes, p_lp, p_msg, p_pol, p_thn, p_timers, p_vdm]

theorem State.sinkWaitCapExpiry_within {s : State} {n : Port} (w00 : W 0x00 = true) (w04 : W 0x04 = true) (w07 : W 0x07 = true) (w08 : W 0x08 = true)
    (w09 : W 0x09 = true) (w0F : W 0x0F = true) (w13 : W 0x13 = true) (w20 : W 0x20 = true) (w21 : W 0x21 = true) (w22 : W 0x22 = true) (w23 : W 0x23
    = true) (w24 : W 0x24 = true) (w26 : W 0x26 = true) (w27 : W 0x27 = true) (p_auth : P .auth = true) (p_boundary : P .boundary = true) (p_cc : P
    .cc = true) (p_draught : P .draught = true) (p_flue : P .flue = true) (p_fnd : P .fnd = true) (p_fresh : P .fresh = true) (p_hA : P .hA = true)
    (p_hB : P .hB = true) (p_lanes : P .lanes = true) (p_lp : P .lp = true) (p_msg : P .msg = true) (p_pol : P .pol = true) (p_thn : P .thn = true)
    (p_timers : P .timers = true) (p_vdm : P .vdm = true) (hW0 : Within W P s0 s) : Within W P s0 (State.sinkWaitCapExpiry s n) := by
  unfold State.sinkWaitCapExpiry
  try dsimp only
  simp (maxDischargeDepth := 60) only [and_self, implies_true, within_ite, State.point13_within, State.stop_within, w00, w04, w07, w08, w09, w0F, w13,
      w20, w21, w22, w23, w24, w26, w27, p_auth, p_boundary, p_cc, p_draught, p_flue, p_fnd, p_fresh, p_hA, p_hB, p_lanes, p_lp, p_msg, p_pol, p_thn,
      p_timers, p_vdm, hW0]

theorem execSinkWaitCapTimeout_within {n : Port} {s : State} (w00 : W 0x00 = true) (w04 : W 0x04 = true) (w07 : W 0x07 = true) (w08 : W 0x08 = true)
    (w09 : W 0x09 = true) (w0F : W 0x0F = true) (w13 : W 0x13 = true) (w20 : W 0x20 = true) (w21 : W 0x21 = true) (w22 : W 0x22 = true) (w23 : W 0x23
    = true) (w24 : W 0x24 = true) (w26 : W 0x26 = true) (w27 : W 0x27 = true) (p_auth : P .auth = true) (p_boundary : P .boundary = true) (p_cc : P
    .cc = true) (p_draught : P .draught = true) (p_flue : P .flue = true) (p_fnd : P .fnd = true) (p_fresh : P .fresh = true) (p_hA : P .hA = true)
    (p_hB : P .hB = true) (p_inputs : P .inputs = true) (p_lanes : P .lanes = true) (p_lp : P .lp = true) (p_msg : P .msg = true) (p_pol : P .pol =
    true) (p_thn : P .thn = true) (p_timers : P .timers = true) (p_vdm : P .vdm = true) {t : State} (e : execSinkWaitCapTimeout n s = .next t) :
    Within W P s t := by
  unfold execSinkWaitCapTimeout at e
  try dsimp only at e
  cases e
  simp (maxDischargeDepth := 60) only [within_refl, State.sinkWaitCapExpiry_within, State.policyBefore_within, w00, w04, w07, w08, w09, w0F, w13, w20,
      w21, w22, w23, w24, w26, w27, p_auth, p_boundary, p_cc, p_draught, p_flue, p_fnd, p_fresh, p_hA, p_hB, p_inputs, p_lanes, p_lp, p_msg, p_pol,
      p_thn, p_timers, p_vdm]

theorem execCmdVconnSwap_within {n : Port} {epoch : BitVec 8} {s : State} (w00 : W 0x00 = true) (w04 : W 0x04 = true) (w07 : W 0x07 = true) (w08 : W
    0x08 = true) (w09 : W 0x09 = true) (w0B : W 0x0B = true) (w0C : W 0x0C = true) (w0F : W 0x0F = true) (w13 : W 0x13 = true) (w20 : W 0x20 = true)
    (w21 : W 0x21 = true) (w22 : W 0x22 = true) (w23 : W 0x23 = true) (w24 : W 0x24 = true) (w26 : W 0x26 = true) (w27 : W 0x27 = true) (p_auth : P
    .auth = true) (p_boundary : P .boundary = true) (p_cc : P .cc = true) (p_draught : P .draught = true) (p_flue : P .flue = true) (p_fnd : P .fnd =
    true) (p_fresh : P .fresh = true) (p_hA : P .hA = true) (p_hB : P .hB = true) (p_inputs : P .inputs = true) (p_lanes : P .lanes = true) (p_lp : P
    .lp = true) (p_msg : P .msg = true) (p_pol : P .pol = true) (p_thn : P .thn = true) (p_timers : P .timers = true) (p_vdm : P .vdm = true) {t :
    State} (e : execCmdVconnSwap n epoch s = .next t) : Within W P s t := by
  unfold execCmdVconnSwap at e
  try dsimp only at e
  cases e
  simp (maxDischargeDepth := 60) only [within_refl, State.polHost_within, w00, w04, w07, w08, w09, w0B, w0C, w0F, w13, w20, w21, w22, w23, w24, w26,
      w27, p_auth, p_boundary, p_cc, p_draught, p_flue, p_fnd, p_fresh, p_hA, p_hB, p_inputs, p_lanes, p_lp, p_msg, p_pol, p_thn, p_timers, p_vdm]

theorem execCmdGetSourceCap_within {n : Port} {epoch : BitVec 8} {s : State} (w00 : W 0x00 = true) (w04 : W 0x04 = true) (w07 : W 0x07 = true) (w08 :
    W 0x08 = true) (w09 : W 0x09 = true) (w0B : W 0x0B = true) (w0C : W 0x0C = true) (w0F : W 0x0F = true) (w13 : W 0x13 = true) (w20 : W 0x20 = true)
    (w21 : W 0x21 = true) (w22 : W 0x22 = true) (w23 : W 0x23 = true) (w24 : W 0x24 = true) (w26 : W 0x26 = true) (w27 : W 0x27 = true) (p_auth : P
    .auth = true) (p_boundary : P .boundary = true) (p_cc : P .cc = true) (p_draught : P .draught = true) (p_flue : P .flue = true) (p_fnd : P .fnd =
    true) (p_fresh : P .fresh = true) (p_hA : P .hA = true) (p_hB : P .hB = true) (p_inputs : P .inputs = true) (p_lanes : P .lanes = true) (p_lp : P
    .lp = true) (p_msg : P .msg = true) (p_pol : P .pol = true) (p_thn : P .thn = true) (p_timers : P .timers = true) (p_vdm : P .vdm = true) {t :
    State} (e : execCmdGetSourceCap n epoch s = .next t) : Within W P s t := by
  unfold execCmdGetSourceCap at e
  try dsimp only at e
  cases e
  simp (maxDischargeDepth := 60) only [within_refl, State.polHost_within, w00, w04, w07, w08, w09, w0B, w0C, w0F, w13, w20, w21, w22, w23, w24, w26,
      w27, p_auth, p_boundary, p_cc, p_draught, p_flue, p_fnd, p_fresh, p_hA, p_hB, p_inputs, p_lanes, p_lp, p_msg, p_pol, p_thn, p_timers, p_vdm]

theorem execDescentReaches5v_within {n : Port} {s : State} (w00 : W 0x00 = true) (w04 : W 0x04 = true) (w07 : W 0x07 = true) (w08 : W 0x08 = true)
    (w09 : W 0x09 = true) (w0F : W 0x0F = true) (w13 : W 0x13 = true) (w20 : W 0x20 = true) (w21 : W 0x21 = true) (w22 : W 0x22 = true) (w23 : W 0x23
    = true) (w24 : W 0x24 = true) (w26 : W 0x26 = true) (w27 : W 0x27 = true) (p_auth : P .auth = true) (p_boundary : P .boundary = true) (p_cc : P
    .cc = true) (p_draught : P .draught = true) (p_flue : P .flue = true) (p_fnd : P .fnd = true) (p_fresh : P .fresh = true) (p_hA : P .hA = true)
    (p_hB : P .hB = true) (p_inputs : P .inputs = true) (p_lanes : P .lanes = true) (p_lp : P .lp = true) (p_msg : P .msg = true) (p_pol : P .pol =
    true) (p_thn : P .thn = true) (p_timers : P .timers = true) (p_vdm : P .vdm = true) {t : State} (e : execDescentReaches5v n s = .next t) : Within
    W P s t := by
  unfold execDescentReaches5v at e
  try dsimp only at e
  cases e
  simp (maxDischargeDepth := 60) only [within_refl, State.descent5V_within, State.policyBefore_within, w00, w04, w07, w08, w09, w0F, w13, w20, w21,
      w22, w23, w24, w26, w27, p_auth, p_boundary, p_cc, p_draught, p_flue, p_fnd, p_fresh, p_hA, p_hB, p_inputs, p_lanes, p_lp, p_msg, p_pol, p_thn,
      p_timers, p_vdm]

theorem execSinkSwapToSource_within {n : Port} {s : State} (w00 : W 0x00 = true) (w04 : W 0x04 = true) (w07 : W 0x07 = true) (w08 : W 0x08 = true)
    (w09 : W 0x09 = true) (w0F : W 0x0F = true) (w13 : W 0x13 = true) (w20 : W 0x20 = true) (w21 : W 0x21 = true) (w22 : W 0x22 = true) (w23 : W 0x23
    = true) (w24 : W 0x24 = true) (w26 : W 0x26 = true) (w27 : W 0x27 = true) (p_auth : P .auth = true) (p_boundary : P .boundary = true) (p_cc : P
    .cc = true) (p_draught : P .draught = true) (p_flue : P .flue = true) (p_fnd : P .fnd = true) (p_fresh : P .fresh = true) (p_hA : P .hA = true)
    (p_hB : P .hB = true) (p_inputs : P .inputs = true) (p_lanes : P .lanes = true) (p_lp : P .lp = true) (p_msg : P .msg = true) (p_pol : P .pol =
    true) (p_thn : P .thn = true) (p_timers : P .timers = true) (p_vdm : P .vdm = true) {t : State} (e : execSinkSwapToSource n s = .next t) : Within
    W P s t := by
  unfold execSinkSwapToSource at e
  try dsimp only at e
  cases e
  simp (maxDischargeDepth := 60) only [within_refl, State.swapToSource_within, State.policyBefore_within, w00, w04, w07, w08, w09, w0F, w13, w20, w21,
      w22, w23, w24, w26, w27, p_auth, p_boundary, p_cc, p_draught, p_flue, p_fnd, p_fresh, p_hA, p_hB, p_inputs, p_lanes, p_lp, p_msg, p_pol, p_thn,
      p_timers, p_vdm]

theorem execCmdSoftReset_within {n : Port} {epoch : BitVec 8} {s : State} (w00 : W 0x00 = true) (w04 : W 0x04 = true) (w07 : W 0x07 = true) (w08 : W
    0x08 = true) (w09 : W 0x09 = true) (w0B : W 0x0B = true) (w0C : W 0x0C = true) (w0F : W 0x0F = true) (w13 : W 0x13 = true) (w20 : W 0x20 = true)
    (w21 : W 0x21 = true) (w22 : W 0x22 = true) (w23 : W 0x23 = true) (w24 : W 0x24 = true) (w26 : W 0x26 = true) (w27 : W 0x27 = true) (p_auth : P
    .auth = true) (p_boundary : P .boundary = true) (p_cc : P .cc = true) (p_draught : P .draught = true) (p_flue : P .flue = true) (p_fnd : P .fnd =
    true) (p_fresh : P .fresh = true) (p_hA : P .hA = true) (p_hB : P .hB = true) (p_inputs : P .inputs = true) (p_lanes : P .lanes = true) (p_lp : P
    .lp = true) (p_msg : P .msg = true) (p_pol : P .pol = true) (p_thn : P .thn = true) (p_timers : P .timers = true) (p_vdm : P .vdm = true) {t :
    State} (e : execCmdSoftReset n epoch s = .next t) : Within W P s t := by
  unfold execCmdSoftReset at e
  try dsimp only at e
  cases e
  simp (maxDischargeDepth := 60) only [within_refl, State.polHost_within, w00, w04, w07, w08, w09, w0B, w0C, w0F, w13, w20, w21, w22, w23, w24, w26,
      w27, p_auth, p_boundary, p_cc, p_draught, p_flue, p_fnd, p_fresh, p_hA, p_hB, p_inputs, p_lanes, p_lp, p_msg, p_pol, p_thn, p_timers, p_vdm]

theorem State.draftGapExpiry_within {s : State} {n : Port} (w20 : W 0x20 = true) (w21 : W 0x21 = true) (w22 : W 0x22 = true) (p_boundary : P .boundary
    = true) (p_cc : P .cc = true) (p_msg : P .msg = true) (p_pol : P .pol = true) (p_timers : P .timers = true) (hW0 : Within W P s0 s) : Within W P
    s0 (State.draftGapExpiry s n) := by
  unfold State.draftGapExpiry
  try dsimp only
  simp (maxDischargeDepth := 60) only [State.draftTry_within, State.stop_within, w20, w21, w22, p_boundary, p_cc, p_msg, p_pol, p_timers, hW0]

theorem execSrcRecoverExpiry_within {n : Port} {s : State} (w00 : W 0x00 = true) (w04 : W 0x04 = true) (w07 : W 0x07 = true) (w08 : W 0x08 = true)
    (w09 : W 0x09 = true) (w0F : W 0x0F = true) (w13 : W 0x13 = true) (w20 : W 0x20 = true) (w21 : W 0x21 = true) (w22 : W 0x22 = true) (w23 : W 0x23
    = true) (w24 : W 0x24 = true) (w26 : W 0x26 = true) (w27 : W 0x27 = true) (p_auth : P .auth = true) (p_boundary : P .boundary = true) (p_cc : P
    .cc = true) (p_draught : P .draught = true) (p_flue : P .flue = true) (p_fnd : P .fnd = true) (p_fresh : P .fresh = true) (p_hA : P .hA = true)
    (p_hB : P .hB = true) (p_inputs : P .inputs = true) (p_lanes : P .lanes = true) (p_lp : P .lp = true) (p_msg : P .msg = true) (p_pol : P .pol =
    true) (p_thn : P .thn = true) (p_timers : P .timers = true) (p_vdm : P .vdm = true) {t : State} (e : execSrcRecoverExpiry n s = .next t) : Within
    W P s t := by
  unfold execSrcRecoverExpiry at e
  try dsimp only at e
  cases e
  simp (maxDischargeDepth := 60) only [within_refl, State.recoverRaise_within, State.policyBefore_within, w00, w04, w07, w08, w09, w0F, w13, w20, w21,
      w22, w23, w24, w26, w27, p_auth, p_boundary, p_cc, p_draught, p_flue, p_fnd, p_fresh, p_hA, p_hB, p_inputs, p_lanes, p_lp, p_msg, p_pol, p_thn,
      p_timers, p_vdm]

theorem State.noResponseExpiry_within {s : State} {n : Port} (w00 : W 0x00 = true) (w04 : W 0x04 = true) (w07 : W 0x07 = true) (w08 : W 0x08 = true)
    (w09 : W 0x09 = true) (w0F : W 0x0F = true) (w13 : W 0x13 = true) (w20 : W 0x20 = true) (w21 : W 0x21 = true) (w22 : W 0x22 = true) (w23 : W 0x23
    = true) (w24 : W 0x24 = true) (w26 : W 0x26 = true) (w27 : W 0x27 = true) (p_auth : P .auth = true) (p_boundary : P .boundary = true) (p_cc : P
    .cc = true) (p_draught : P .draught = true) (p_flue : P .flue = true) (p_fnd : P .fnd = true) (p_fresh : P .fresh = true) (p_hA : P .hA = true)
    (p_hB : P .hB = true) (p_lanes : P .lanes = true) (p_lp : P .lp = true) (p_msg : P .msg = true) (p_pol : P .pol = true) (p_thn : P .thn = true)
    (p_timers : P .timers = true) (p_vdm : P .vdm = true) (hW0 : Within W P s0 s) : Within W P s0 (State.noResponseExpiry s n) := by
  unfold State.noResponseExpiry
  try dsimp only
  simp (maxDischargeDepth := 60) only [and_self, implies_true, within_ite, pageOf_add, pageKind_portPage, Nat.reduceAdd, Nat.reduceLT,
      State.stop_within, State.point13_within, State.set_within, w00, w04, w07, w08, w09, w0F, w13, w20, w21, w22, w23, w24, w26, w27, p_auth,
      p_boundary, p_cc, p_draught, p_flue, p_fnd, p_fresh, p_hA, p_hB, p_lanes, p_lp, p_msg, p_pol, p_thn, p_timers, p_vdm, hW0]

theorem execCmdGetSinkCap_within {n : Port} {epoch : BitVec 8} {s : State} (w00 : W 0x00 = true) (w04 : W 0x04 = true) (w07 : W 0x07 = true) (w08 : W
    0x08 = true) (w09 : W 0x09 = true) (w0B : W 0x0B = true) (w0C : W 0x0C = true) (w0F : W 0x0F = true) (w13 : W 0x13 = true) (w20 : W 0x20 = true)
    (w21 : W 0x21 = true) (w22 : W 0x22 = true) (w23 : W 0x23 = true) (w24 : W 0x24 = true) (w26 : W 0x26 = true) (w27 : W 0x27 = true) (p_auth : P
    .auth = true) (p_boundary : P .boundary = true) (p_cc : P .cc = true) (p_draught : P .draught = true) (p_flue : P .flue = true) (p_fnd : P .fnd =
    true) (p_fresh : P .fresh = true) (p_hA : P .hA = true) (p_hB : P .hB = true) (p_inputs : P .inputs = true) (p_lanes : P .lanes = true) (p_lp : P
    .lp = true) (p_msg : P .msg = true) (p_pol : P .pol = true) (p_thn : P .thn = true) (p_timers : P .timers = true) (p_vdm : P .vdm = true) {t :
    State} (e : execCmdGetSinkCap n epoch s = .next t) : Within W P s t := by
  unfold execCmdGetSinkCap at e
  try dsimp only at e
  cases e
  simp (maxDischargeDepth := 60) only [within_refl, State.polHost_within, w00, w04, w07, w08, w09, w0B, w0C, w0F, w13, w20, w21, w22, w23, w24, w26,
      w27, p_auth, p_boundary, p_cc, p_draught, p_flue, p_fnd, p_fresh, p_hA, p_hB, p_inputs, p_lanes, p_lp, p_msg, p_pol, p_thn, p_timers, p_vdm]

theorem execCmdProductionTest_within {n : Port} {epoch : BitVec 8} {arg : BitVec 16} {s : State} (w00 : W 0x00 = true) (w04 : W 0x04 = true) (w07 : W
    0x07 = true) (w08 : W 0x08 = true) (w09 : W 0x09 = true) (w0B : W 0x0B = true) (w0C : W 0x0C = true) (w0F : W 0x0F = true) (w13 : W 0x13 = true)
    (w20 : W 0x20 = true) (w21 : W 0x21 = true) (w22 : W 0x22 = true) (w23 : W 0x23 = true) (w24 : W 0x24 = true) (w26 : W 0x26 = true) (w27 : W 0x27
    = true) (p_auth : P .auth = true) (p_boundary : P .boundary = true) (p_cc : P .cc = true) (p_draught : P .draught = true) (p_flue : P .flue =
    true) (p_fnd : P .fnd = true) (p_fresh : P .fresh = true) (p_hA : P .hA = true) (p_hB : P .hB = true) (p_inputs : P .inputs = true) (p_lanes : P
    .lanes = true) (p_lp : P .lp = true) (p_msg : P .msg = true) (p_pol : P .pol = true) (p_thn : P .thn = true) (p_timers : P .timers = true) (p_vdm
    : P .vdm = true) {t : State} (e : execCmdProductionTest n epoch arg s = .next t) : Within W P s t := by
  unfold execCmdProductionTest at e
  try dsimp only at e
  cases e
  simp (maxDischargeDepth := 60) only [within_refl, State.polHost_within, w00, w04, w07, w08, w09, w0B, w0C, w0F, w13, w20, w21, w22, w23, w24, w26,
      w27, p_auth, p_boundary, p_cc, p_draught, p_flue, p_fnd, p_fresh, p_hA, p_hB, p_inputs, p_lanes, p_lp, p_msg, p_pol, p_thn, p_timers, p_vdm]

theorem execCmdEprExit_within {n : Port} {epoch : BitVec 8} {s : State} (w00 : W 0x00 = true) (w04 : W 0x04 = true) (w07 : W 0x07 = true) (w08 : W
    0x08 = true) (w09 : W 0x09 = true) (w0B : W 0x0B = true) (w0C : W 0x0C = true) (w0F : W 0x0F = true) (w13 : W 0x13 = true) (w20 : W 0x20 = true)
    (w21 : W 0x21 = true) (w22 : W 0x22 = true) (w23 : W 0x23 = true) (w24 : W 0x24 = true) (w26 : W 0x26 = true) (w27 : W 0x27 = true) (p_auth : P
    .auth = true) (p_boundary : P .boundary = true) (p_cc : P .cc = true) (p_draught : P .draught = true) (p_flue : P .flue = true) (p_fnd : P .fnd =
    true) (p_fresh : P .fresh = true) (p_hA : P .hA = true) (p_hB : P .hB = true) (p_inputs : P .inputs = true) (p_lanes : P .lanes = true) (p_lp : P
    .lp = true) (p_msg : P .msg = true) (p_pol : P .pol = true) (p_thn : P .thn = true) (p_timers : P .timers = true) (p_vdm : P .vdm = true) {t :
    State} (e : execCmdEprExit n epoch s = .next t) : Within W P s t := by
  unfold execCmdEprExit at e
  try dsimp only at e
  cases e
  simp (maxDischargeDepth := 60) only [within_refl, State.polHost_within, w00, w04, w07, w08, w09, w0B, w0C, w0F, w13, w20, w21, w22, w23, w24, w26,
      w27, p_auth, p_boundary, p_cc, p_draught, p_flue, p_fnd, p_fresh, p_hA, p_hB, p_inputs, p_lanes, p_lp, p_msg, p_pol, p_thn, p_timers, p_vdm]

theorem execDraftGapExpiry_within {n : Port} {s : State} (w00 : W 0x00 = true) (w04 : W 0x04 = true) (w07 : W 0x07 = true) (w08 : W 0x08 = true) (w09
    : W 0x09 = true) (w0F : W 0x0F = true) (w13 : W 0x13 = true) (w20 : W 0x20 = true) (w21 : W 0x21 = true) (w22 : W 0x22 = true) (w23 : W 0x23 =
    true) (w24 : W 0x24 = true) (w26 : W 0x26 = true) (w27 : W 0x27 = true) (p_auth : P .auth = true) (p_boundary : P .boundary = true) (p_cc : P .cc
    = true) (p_draught : P .draught = true) (p_flue : P .flue = true) (p_fnd : P .fnd = true) (p_fresh : P .fresh = true) (p_hA : P .hA = true) (p_hB
    : P .hB = true) (p_inputs : P .inputs = true) (p_lanes : P .lanes = true) (p_lp : P .lp = true) (p_msg : P .msg = true) (p_pol : P .pol = true)
    (p_thn : P .thn = true) (p_timers : P .timers = true) (p_vdm : P .vdm = true) {t : State} (e : execDraftGapExpiry n s = .next t) : Within W P s t
    := by
  unfold execDraftGapExpiry at e
  try dsimp only at e
  cases e
  simp (maxDischargeDepth := 60) only [within_refl, State.draftGapExpiry_within, State.policyBefore_within, w00, w04, w07, w08, w09, w0F, w13, w20,
      w21, w22, w23, w24, w26, w27, p_auth, p_boundary, p_cc, p_draught, p_flue, p_fnd, p_fresh, p_hA, p_hB, p_inputs, p_lanes, p_lp, p_msg, p_pol,
      p_thn, p_timers, p_vdm]

theorem execAbortNoDetach_within {n : Port} {s : State} (w00 : W 0x00 = true) (w04 : W 0x04 = true) (w07 : W 0x07 = true) (w08 : W 0x08 = true) (w09 :
    W 0x09 = true) (w0F : W 0x0F = true) (w13 : W 0x13 = true) (w20 : W 0x20 = true) (w21 : W 0x21 = true) (w22 : W 0x22 = true) (w23 : W 0x23 = true)
    (w24 : W 0x24 = true) (w26 : W 0x26 = true) (w27 : W 0x27 = true) (p_auth : P .auth = true) (p_boundary : P .boundary = true) (p_cc : P .cc =
    true) (p_draught : P .draught = true) (p_flue : P .flue = true) (p_fnd : P .fnd = true) (p_fresh : P .fresh = true) (p_hA : P .hA = true) (p_hB :
    P .hB = true) (p_inputs : P .inputs = true) (p_lanes : P .lanes = true) (p_lp : P .lp = true) (p_msg : P .msg = true) (p_pol : P .pol = true)
    (p_thn : P .thn = true) (p_timers : P .timers = true) (p_vdm : P .vdm = true) {t : State} (e : execAbortNoDetach n s = .next t) : Within W P s t
    := by
  unfold execAbortNoDetach at e
  try dsimp only at e
  cases e
  simp (maxDischargeDepth := 60) only [within_refl, State.abortExpiry_within, State.policyBefore_within, w00, w04, w07, w08, w09, w0F, w13, w20, w21,
      w22, w23, w24, w26, w27, p_auth, p_boundary, p_cc, p_draught, p_flue, p_fnd, p_fresh, p_hA, p_hB, p_inputs, p_lanes, p_lp, p_msg, p_pol, p_thn,
      p_timers, p_vdm]

theorem execNoResponseTimeout_within {n : Port} {s : State} (w00 : W 0x00 = true) (w04 : W 0x04 = true) (w07 : W 0x07 = true) (w08 : W 0x08 = true)
    (w09 : W 0x09 = true) (w0F : W 0x0F = true) (w13 : W 0x13 = true) (w20 : W 0x20 = true) (w21 : W 0x21 = true) (w22 : W 0x22 = true) (w23 : W 0x23
    = true) (w24 : W 0x24 = true) (w26 : W 0x26 = true) (w27 : W 0x27 = true) (p_auth : P .auth = true) (p_boundary : P .boundary = true) (p_cc : P
    .cc = true) (p_draught : P .draught = true) (p_flue : P .flue = true) (p_fnd : P .fnd = true) (p_fresh : P .fresh = true) (p_hA : P .hA = true)
    (p_hB : P .hB = true) (p_inputs : P .inputs = true) (p_lanes : P .lanes = true) (p_lp : P .lp = true) (p_msg : P .msg = true) (p_pol : P .pol =
    true) (p_thn : P .thn = true) (p_timers : P .timers = true) (p_vdm : P .vdm = true) {t : State} (e : execNoResponseTimeout n s = .next t) : Within
    W P s t := by
  unfold execNoResponseTimeout at e
  try dsimp only at e
  cases e
  simp (maxDischargeDepth := 60) only [within_refl, State.noResponseExpiry_within, State.policyBefore_within, w00, w04, w07, w08, w09, w0F, w13, w20,
      w21, w22, w23, w24, w26, w27, p_auth, p_boundary, p_cc, p_draught, p_flue, p_fnd, p_fresh, p_hA, p_hB, p_inputs, p_lanes, p_lp, p_msg, p_pol,
      p_thn, p_timers, p_vdm]

theorem execFrsArm_within {n : Port} {s : State} (w00 : W 0x00 = true) (w04 : W 0x04 = true) (w07 : W 0x07 = true) (w08 : W 0x08 = true) (w09 : W 0x09
    = true) (w0F : W 0x0F = true) (w13 : W 0x13 = true) (w20 : W 0x20 = true) (w21 : W 0x21 = true) (w22 : W 0x22 = true) (w23 : W 0x23 = true) (w24 :
    W 0x24 = true) (w26 : W 0x26 = true) (w27 : W 0x27 = true) (p_auth : P .auth = true) (p_boundary : P .boundary = true) (p_cc : P .cc = true)
    (p_draught : P .draught = true) (p_flue : P .flue = true) (p_fnd : P .fnd = true) (p_fresh : P .fresh = true) (p_hA : P .hA = true) (p_hB : P .hB
    = true) (p_inputs : P .inputs = true) (p_lanes : P .lanes = true) (p_lp : P .lp = true) (p_msg : P .msg = true) (p_pol : P .pol = true) (p_thn : P
    .thn = true) (p_timers : P .timers = true) (p_vdm : P .vdm = true) {t : State} (e : execFrsArm n s = .next t) : Within W P s t := by
  unfold execFrsArm at e
  try dsimp only at e
  cases e
  simp (maxDischargeDepth := 60) only [within_refl, State.frsShow_within, State.policyBefore_within, w00, w04, w07, w08, w09, w0F, w13, w20, w21, w22,
      w23, w24, w26, w27, p_auth, p_boundary, p_cc, p_draught, p_flue, p_fnd, p_fresh, p_hA, p_hB, p_inputs, p_lanes, p_lp, p_msg, p_pol, p_thn,
      p_timers, p_vdm]

theorem execHardResetSourceDescent_within {n : Port} {s : State} (w00 : W 0x00 = true) (w04 : W 0x04 = true) (w07 : W 0x07 = true) (w08 : W 0x08 =
    true) (w09 : W 0x09 = true) (w0F : W 0x0F = true) (w13 : W 0x13 = true) (w20 : W 0x20 = true) (w21 : W 0x21 = true) (w22 : W 0x22 = true) (w23 : W
    0x23 = true) (w24 : W 0x24 = true) (w26 : W 0x26 = true) (w27 : W 0x27 = true) (p_auth : P .auth = true) (p_boundary : P .boundary = true) (p_cc :
    P .cc = true) (p_draught : P .draught = true) (p_flue : P .flue = true) (p_fnd : P .fnd = true) (p_fresh : P .fresh = true) (p_hA : P .hA = true)
    (p_hB : P .hB = true) (p_inputs : P .inputs = true) (p_lanes : P .lanes = true) (p_lp : P .lp = true) (p_msg : P .msg = true) (p_pol : P .pol =
    true) (p_thn : P .thn = true) (p_timers : P .timers = true) (p_vdm : P .vdm = true) {t : State} (e : execHardResetSourceDescent n s = .next t) :
    Within W P s t := by
  unfold execHardResetSourceDescent at e
  try dsimp only at e
  cases e
  simp (maxDischargeDepth := 60) only [within_refl, State.hardDescent_within, State.policyBefore_within, w00, w04, w07, w08, w09, w0F, w13, w20, w21,
      w22, w23, w24, w26, w27, p_auth, p_boundary, p_cc, p_draught, p_flue, p_fnd, p_fresh, p_hA, p_hB, p_inputs, p_lanes, p_lp, p_msg, p_pol, p_thn,
      p_timers, p_vdm]

theorem execErrorRecoveryEntry_within {n : Port} {s : State} (w00 : W 0x00 = true) (w04 : W 0x04 = true) (w07 : W 0x07 = true) (w08 : W 0x08 = true)
    (w09 : W 0x09 = true) (w0F : W 0x0F = true) (w13 : W 0x13 = true) (w20 : W 0x20 = true) (w21 : W 0x21 = true) (w22 : W 0x22 = true) (w23 : W 0x23
    = true) (w24 : W 0x24 = true) (w26 : W 0x26 = true) (w27 : W 0x27 = true) (p_auth : P .auth = true) (p_boundary : P .boundary = true) (p_cc : P
    .cc = true) (p_draught : P .draught = true) (p_flue : P .flue = true) (p_fnd : P .fnd = true) (p_fresh : P .fresh = true) (p_hA : P .hA = true)
    (p_hB : P .hB = true) (p_inputs : P .inputs = true) (p_lanes : P .lanes = true) (p_lp : P .lp = true) (p_msg : P .msg = true) (p_pol : P .pol =
    true) (p_thn : P .thn = true) (p_timers : P .timers = true) (p_vdm : P .vdm = true) {t : State} (e : execErrorRecoveryEntry n s = .next t) :
    Within W P s t := by
  unfold execErrorRecoveryEntry at e
  try dsimp only at e
  cases e
  simp (maxDischargeDepth := 60) only [within_refl, State.errorRecovery_within, State.policyBefore_within, w00, w04, w07, w08, w09, w0F, w13, w20,
      w21, w22, w23, w24, w26, w27, p_auth, p_boundary, p_cc, p_draught, p_flue, p_fnd, p_fresh, p_hA, p_hB, p_inputs, p_lanes, p_lp, p_msg, p_pol,
      p_thn, p_timers, p_vdm]

theorem execTransitionAbort_within {n : Port} {s : State} (w00 : W 0x00 = true) (w04 : W 0x04 = true) (w07 : W 0x07 = true) (w08 : W 0x08 = true) (w09
    : W 0x09 = true) (w0F : W 0x0F = true) (w13 : W 0x13 = true) (w20 : W 0x20 = true) (w21 : W 0x21 = true) (w22 : W 0x22 = true) (w23 : W 0x23 =
    true) (w24 : W 0x24 = true) (w26 : W 0x26 = true) (w27 : W 0x27 = true) (p_auth : P .auth = true) (p_boundary : P .boundary = true) (p_cc : P .cc
    = true) (p_draught : P .draught = true) (p_flue : P .flue = true) (p_fnd : P .fnd = true) (p_fresh : P .fresh = true) (p_hA : P .hA = true) (p_hB
    : P .hB = true) (p_inputs : P .inputs = true) (p_lanes : P .lanes = true) (p_lp : P .lp = true) (p_msg : P .msg = true) (p_pol : P .pol = true)
    (p_thn : P .thn = true) (p_timers : P .timers = true) (p_vdm : P .vdm = true) {t : State} (e : execTransitionAbort n s = .next t) : Within W P s t
    := by
  unfold execTransitionAbort at e
  try dsimp only at e
  cases e
  simp (maxDischargeDepth := 60) only [within_refl, State.transitionAbort_within, State.policyBefore_within, w00, w04, w07, w08, w09, w0F, w13, w20,
      w21, w22, w23, w24, w26, w27, p_auth, p_boundary, p_cc, p_draught, p_flue, p_fnd, p_fresh, p_hA, p_hB, p_inputs, p_lanes, p_lp, p_msg, p_pol,
      p_thn, p_timers, p_vdm]

theorem execHeldCommandTaken_within {n : Port} {s : State} (w00 : W 0x00 = true) (w04 : W 0x04 = true) (w07 : W 0x07 = true) (w08 : W 0x08 = true)
    (w09 : W 0x09 = true) (w0B : W 0x0B = true) (w0C : W 0x0C = true) (w0F : W 0x0F = true) (w13 : W 0x13 = true) (w20 : W 0x20 = true) (w21 : W 0x21
    = true) (w22 : W 0x22 = true) (w23 : W 0x23 = true) (w24 : W 0x24 = true) (w26 : W 0x26 = true) (w27 : W 0x27 = true) (p_auth : P .auth = true)
    (p_boundary : P .boundary = true) (p_cc : P .cc = true) (p_draught : P .draught = true) (p_flue : P .flue = true) (p_fnd : P .fnd = true) (p_fresh
    : P .fresh = true) (p_hA : P .hA = true) (p_hB : P .hB = true) (p_inputs : P .inputs = true) (p_lanes : P .lanes = true) (p_lp : P .lp = true)
    (p_msg : P .msg = true) (p_pol : P .pol = true) (p_thn : P .thn = true) (p_timers : P .timers = true) (p_vdm : P .vdm = true) {t : State} (e :
    execHeldCommandTaken n s = .next t) : Within W P s t := by
  unfold execHeldCommandTaken at e
  try dsimp only at e
  cases e
  simp (maxDischargeDepth := 60) only [within_refl, State.heldTake_within, State.policyBefore_within, w00, w04, w07, w08, w09, w0B, w0C, w0F, w13,
      w20, w21, w22, w23, w24, w26, w27, p_auth, p_boundary, p_cc, p_draught, p_flue, p_fnd, p_fresh, p_hA, p_hB, p_inputs, p_lanes, p_lp, p_msg,
      p_pol, p_thn, p_timers, p_vdm]

theorem execSenderResponseTimeout_within {n : Port} {s : State} (w00 : W 0x00 = true) (w04 : W 0x04 = true) (w07 : W 0x07 = true) (w08 : W 0x08 =
    true) (w09 : W 0x09 = true) (w0F : W 0x0F = true) (w13 : W 0x13 = true) (w20 : W 0x20 = true) (w21 : W 0x21 = true) (w22 : W 0x22 = true) (w23 : W
    0x23 = true) (w24 : W 0x24 = true) (w26 : W 0x26 = true) (w27 : W 0x27 = true) (p_auth : P .auth = true) (p_boundary : P .boundary = true) (p_cc :
    P .cc = true) (p_draught : P .draught = true) (p_flue : P .flue = true) (p_fnd : P .fnd = true) (p_fresh : P .fresh = true) (p_hA : P .hA = true)
    (p_hB : P .hB = true) (p_inputs : P .inputs = true) (p_lanes : P .lanes = true) (p_lp : P .lp = true) (p_msg : P .msg = true) (p_pol : P .pol =
    true) (p_thn : P .thn = true) (p_timers : P .timers = true) (p_vdm : P .vdm = true) {t : State} (e : execSenderResponseTimeout n s = .next t) :
    Within W P s t := by
  unfold execSenderResponseTimeout at e
  try dsimp only at e
  cases e
  simp (maxDischargeDepth := 60) only [within_refl, State.senderTimeout_within, State.policyBefore_within, w00, w04, w07, w08, w09, w0F, w13, w20,
      w21, w22, w23, w24, w26, w27, p_auth, p_boundary, p_cc, p_draught, p_flue, p_fnd, p_fresh, p_hA, p_hB, p_inputs, p_lanes, p_lp, p_msg, p_pol,
      p_thn, p_timers, p_vdm]

theorem execCmdPrSwap_within {n : Port} {epoch : BitVec 8} {s : State} (w00 : W 0x00 = true) (w04 : W 0x04 = true) (w07 : W 0x07 = true) (w08 : W 0x08
    = true) (w09 : W 0x09 = true) (w0B : W 0x0B = true) (w0C : W 0x0C = true) (w0F : W 0x0F = true) (w13 : W 0x13 = true) (w20 : W 0x20 = true) (w21 :
    W 0x21 = true) (w22 : W 0x22 = true) (w23 : W 0x23 = true) (w24 : W 0x24 = true) (w26 : W 0x26 = true) (w27 : W 0x27 = true) (p_auth : P .auth =
    true) (p_boundary : P .boundary = true) (p_cc : P .cc = true) (p_draught : P .draught = true) (p_flue : P .flue = true) (p_fnd : P .fnd = true)
    (p_fresh : P .fresh = true) (p_hA : P .hA = true) (p_hB : P .hB = true) (p_inputs : P .inputs = true) (p_lanes : P .lanes = true) (p_lp : P .lp =
    true) (p_msg : P .msg = true) (p_pol : P .pol = true) (p_thn : P .thn = true) (p_timers : P .timers = true) (p_vdm : P .vdm = true) {t : State} (e
    : execCmdPrSwap n epoch s = .next t) : Within W P s t := by
  unfold execCmdPrSwap at e
  try dsimp only at e
  cases e
  simp (maxDischargeDepth := 60) only [within_refl, State.polHost_within, w00, w04, w07, w08, w09, w0B, w0C, w0F, w13, w20, w21, w22, w23, w24, w26,
      w27, p_auth, p_boundary, p_cc, p_draught, p_flue, p_fnd, p_fresh, p_hA, p_hB, p_inputs, p_lanes, p_lp, p_msg, p_pol, p_thn, p_timers, p_vdm]

end Sys2Proof.Machine
end

