-- ==== Sys2Proof/Laws/WithinStage.lean ====
section
/-! SUPPORT. What each operation and command of the power stage, the operating counters, the trace and the Draught can change at most (`Within`): the pages and parts its
hypotheses name. -/

namespace Sys2Proof.Machine
variable {W : Nat → Bool} {P : Part → Bool} {s0 : State}
set_option linter.unusedVariables false

/-! ### Stage -/

theorem State.stageFault_within {s : State} {n : Port} (w24 : W 0x24 = true) (p_lanes : P .lanes = true) (p_lp : P .lp = true) (hW0 : Within W P s0 s)
    : Within W P s0 (State.stageFault s n) := by
  unfold State.stageFault
  try dsimp only
  simp (maxDischargeDepth := 60) only [pageOf_add, pageKind_portPage, Nat.reduceAdd, Nat.reduceLT, State.modLp_within, State.loopsDrop_within,
      State.set_within, w24, p_lanes, p_lp, hW0]

theorem execStageSenTimeout_within {n : Port} {s : State} (w24 : W 0x24 = true) (p_flue : P .flue = true) (p_lanes : P .lanes = true) (p_lp : P .lp =
    true) (p_timers : P .timers = true) {t : State} (e : execStageSenTimeout n s = .next t) : Within W P s t := by
  unfold execStageSenTimeout at e
  try dsimp only at e
  cases e
  simp (maxDischargeDepth := 60) only [and_self, implies_true, within_refl, within_ite, pageOf_add, pageKind_portPage, Nat.reduceAdd, Nat.reduceLT,
      State.event_within, State.stageFault_within, State.stop_within, w24, p_flue, p_lanes, p_lp, p_timers]

theorem State.writeback_within {s : State} {n : Port} {volt : Bool} (p_lp : P .lp = true) (hW0 : Within W P s0 s) : Within W P s0 (State.writeback s n
    volt) := by
  unfold State.writeback
  try dsimp only
  simp (maxDischargeDepth := 60) only [State.modLp_within, p_lp, hW0]

theorem State.feasibilityCheck_within {s : State} {h : Hth} (w0E : W 0x0E = true) (p_flue : P .flue = true) (hW0 : Within W P s0 s) : Within W P s0
    (State.feasibilityCheck s h) := by
  unfold State.feasibilityCheck
  try dsimp only
  (repeat' split) <;> (try simp (maxDischargeDepth := 60) only [and_true, pageOf_lit, pageKind_lit, Field.inHearth, Nat.reduceDiv, Nat.reduceLeDiff,
      Nat.reduceAdd, Nat.reduceMod, if_false, State.setIn_within, State.bumpIn_within, State.eventIn_within, w0E, p_flue, hW0])

theorem execFeasibilityCheck_within {s : State} (w0E : W 0x0E = true) (p_flue : P .flue = true) {t : State} (e : execFeasibilityCheck s = .next t) :
    Within W P s t := by
  unfold execFeasibilityCheck at e
  try dsimp only at e
  cases e
  simp (maxDischargeDepth := 60) only [and_self, implies_true, within_refl, within_ite, within_foldl, State.feasibilityCheck_within, w0E, p_flue]

theorem State.laneWait_within {s : State} {n : Port} {volt : Bool} {due : Nat} (p_lanes : P .lanes = true) (hW0 : Within W P s0 s) : Within W P s0
    (State.laneWait s n volt due) := by
  unfold State.laneWait
  try dsimp only
  simp (maxDischargeDepth := 60) only [within_mk, true_or, or_true, p_lanes, hW0]

theorem State.bankSwap_within {s : State} {n : Port} {volt : Bool} (w24 : W 0x24 = true) (w25 : W 0x25 = true) (p_flue : P .flue = true) (hW0 : Within
    W P s0 s) : Within W P s0 (State.bankSwap s n volt) := by
  unfold State.bankSwap
  try dsimp only
  simp (maxDischargeDepth := 60) only [and_self, implies_true, within_ite, pageOf_add, pageKind_portPage, Nat.reduceAdd, Nat.reduceLT,
      State.bump_within, State.eventBy_within, State.set_within, w24, w25, p_flue, hW0]

theorem State.sampleTake_within {s : State} {n : Port} {vbus : Nat} {imon : Nat} {bus : Nat} (w24 : W 0x24 = true) (w25 : W 0x25 = true) (p_flue : P
    .flue = true) (p_lp : P .lp = true) (hW0 : Within W P s0 s) : Within W P s0 (State.sampleTake s n vbus imon bus) := by
  unfold State.sampleTake
  try dsimp only
  simp (maxDischargeDepth := 60) only [and_self, implies_true, within_ite, pageOf_add, pageKind_portPage, Nat.reduceAdd, Nat.reduceLT,
      State.set_within, State.bankSwap_within, State.modLp_within, State.presetZero_within, State.eventBy_within, w24, w25, p_flue, p_lp, hW0]

theorem State.voltTake_within {s : State} {n : Port} (p_lp : P .lp = true) (hW0 : Within W P s0 s) : Within W P s0 (State.voltTake s n) := by
  unfold State.voltTake
  try dsimp only
  simp (maxDischargeDepth := 60) only [State.modLp_within, p_lp, hW0]

theorem State.transferPreset_within {s : State} {n : Port} (p_lp : P .lp = true) (hW0 : Within W P s0 s) : Within W P s0 (State.transferPreset s n) :=
    by
  unfold State.transferPreset
  try dsimp only
  simp (maxDischargeDepth := 60) only [State.modLp_within, p_lp, hW0]

theorem State.rampTake_within {s : State} {n : Port} (w24 : W 0x24 = true) (p_lp : P .lp = true) (p_thn : P .thn = true) (hW0 : Within W P s0 s) :
    Within W P s0 (State.rampTake s n) := by
  unfold State.rampTake
  try dsimp only
  simp (maxDischargeDepth := 60) only [and_self, implies_true, within_ite, pageOf_add, pageKind_portPage, Nat.reduceAdd, Nat.reduceLT,
      State.preset_within, State.transferPreset_within, State.setB_within, State.modLp_within, State.modThn_within, State.set_within, w24, p_lp,
      p_thn, hW0]

theorem State.lanesFill_within {k : Nat} {h : Hth} {s : State} (p_lanes : P .lanes = true) (hW0 : Within W P s0 s) :
    Within W P s0 (State.lanesFill k h s) := by
  induction k generalizing s with
  | zero => exact hW0
  | succ k ih =>
    unfold State.lanesFill
    repeat' split
    · exact hW0
    · exact hW0
    · exact ih (by simp only [within_mk, hW0, p_lanes, true_or, or_true])

theorem State.lanesTake_within {s : State} {n : Port} (p_lanes : P .lanes = true) (hW0 : Within W P s0 s) : Within W P s0 (State.lanesTake s n) := by
  unfold State.lanesTake
  try dsimp only
  simp (maxDischargeDepth := 60) only [State.lanesFill_within, p_lanes, hW0]

theorem State.loopsDue_within {s : State} {n : Port} {volt : Bool} (p_lanes : P .lanes = true) (p_lp : P .lp = true) (hW0 : Within W P s0 s) : Within
    W P s0 (State.loopsDue s n volt) := by
  unfold State.loopsDue
  try dsimp only
  simp (maxDischargeDepth := 60) only [and_self, implies_true, within_ite, State.laneWait_within, State.modLp_within, State.lanesTake_within, p_lanes,
      p_lp, hW0]

theorem State.lookupTake_within {s : State} {n : Port} (p_lp : P .lp = true) (hW0 : Within W P s0 s) : Within W P s0 (State.lookupTake s n) := by
  unfold State.lookupTake
  try dsimp only
  simp (maxDischargeDepth := 60) only [State.modLp_within, p_lp, hW0]

theorem State.sampleInstant_within {s : State} {n : Port} {vbus : Nat} {imon : Nat} {bus : Nat} (w24 : W 0x24 = true) (w25 : W 0x25 = true) (p_flue :
    P .flue = true) (p_lanes : P .lanes = true) (p_lp : P .lp = true) (p_thn : P .thn = true) (hW0 : Within W P s0 s) : Within W P s0
    (State.sampleInstant s n vbus imon bus) := by
  unfold State.sampleInstant
  try dsimp only
  simp (maxDischargeDepth := 60) only [and_self, implies_true, within_ite, State.sampleTake_within, State.voltTake_within, State.rampTake_within,
      State.loopsDue_within, State.lookupTake_within, w24, w25, p_flue, p_lanes, p_lp, p_thn, hW0]

theorem State.timingWrite_within {s : State} {n : Port} {v : Word} (w24 : W 0x24 = true) (p_flue : P .flue = true) (hW0 : Within W P s0 s) : Within W
    P s0 (State.timingWrite s n v) := by
  unfold State.timingWrite
  try dsimp only
  simp (maxDischargeDepth := 60) only [and_self, implies_true, within_ite, pageOf_add, pageKind_portPage, Nat.reduceAdd, Nat.reduceLT,
      State.eventHost_within, State.set_within, w24, p_flue, hW0]

theorem execTimingWrite_within {n : Port} {value : Word} {s : State} (w24 : W 0x24 = true) (p_flue : P .flue = true) {t : State} (e : execTimingWrite
    n value s = .next t) : Within W P s t := by
  unfold execTimingWrite at e
  try dsimp only at e
  cases e
  simp (maxDischargeDepth := 60) only [implies_true, within_refl, State.answered_within, State.timingWrite_within, w24, p_flue]

theorem State.spManualWrite_within {s : State} {n : Port} {v : Word} (w04 : W 0x04 = true) (w22 : W 0x22 = true) (w24 : W 0x24 = true) (p_flue : P
    .flue = true) (hW0 : Within W P s0 s) : Within W P s0 (State.spManualWrite s n v) := by
  unfold State.spManualWrite
  try dsimp only
  simp (maxDischargeDepth := 60) only [and_self, implies_true, within_ite, pageOf_add, pageKind_portPage, Nat.reduceAdd, Nat.reduceLT,
      State.soot_within, State.eventHost_within, State.set_within, w04, w22, w24, p_flue, hW0]

theorem execSpManualWrite_within {n : Port} {value : Word} {s : State} (w04 : W 0x04 = true) (w22 : W 0x22 = true) (w24 : W 0x24 = true) (p_flue : P
    .flue = true) {t : State} (e : execSpManualWrite n value s = .next t) : Within W P s t := by
  unfold execSpManualWrite at e
  try dsimp only at e
  cases e
  simp (maxDischargeDepth := 60) only [implies_true, within_refl, State.answered_within, State.spManualWrite_within, w04, w22, w24, p_flue]

theorem State.stageTrip_within {s : State} {n : Port} (w24 : W 0x24 = true) (p_flue : P .flue = true) (p_lanes : P .lanes = true) (p_lp : P .lp =
    true) (hW0 : Within W P s0 s) : Within W P s0 (State.stageTrip s n) := by
  unfold State.stageTrip
  try dsimp only
  simp (maxDischargeDepth := 60) only [and_self, implies_true, within_ite, pageOf_add, pageKind_portPage, Nat.reduceAdd, Nat.reduceLT,
      State.event_within, State.modLp_within, State.stageFault_within, w24, p_flue, p_lanes, p_lp, hW0]

theorem State.stgConfigWrite_within {s : State} {n : Port} {reg : StgReg} {v : Word} (w24 : W 0x24 = true) (w25 : W 0x25 = true) (p_flue : P .flue =
    true) (hW0 : Within W P s0 s) : Within W P s0 (State.stgConfigWrite s n reg v) := by
  unfold State.stgConfigWrite
  try dsimp only
  (repeat' split) <;> (try simp (maxDischargeDepth := 60) only [pageOf_add, pageKind_portPage, Nat.reduceAdd, Nat.reduceLT, State.set_within,
      State.eventHost_within, w24, w25, p_flue, hW0])

theorem execStgConfigWrite_within {n : Port} {reg : StgReg} {value : Word} {s : State} (w24 : W 0x24 = true) (w25 : W 0x25 = true) (p_flue : P .flue =
    true) {t : State} (e : execStgConfigWrite n reg value s = .next t) : Within W P s t := by
  unfold execStgConfigWrite at e
  try dsimp only at e
  cases e
  simp (maxDischargeDepth := 60) only [implies_true, within_refl, State.answered_within, State.stgConfigWrite_within, w24, w25, p_flue]

theorem State.setRun_within {s : State} {n : Port} {volt : Bool} {k : Nat} (p_lp : P .lp = true) (hW0 : Within W P s0 s) : Within W P s0 (State.setRun
    s n volt k) := by
  unfold State.setRun
  try dsimp only
  simp (maxDischargeDepth := 60) only [State.modLp_within, p_lp, hW0]

theorem execHistoryWriteback_within {n : Port} {volt : Bool} {s : State} (p_lp : P .lp = true) {t : State} (e : execHistoryWriteback n volt s = .next
    t) : Within W P s t := by
  unfold execHistoryWriteback at e
  try dsimp only at e
  cases e
  simp (maxDischargeDepth := 60) only [and_self, implies_true, within_refl, within_ite, State.writeback_within, p_lp]

theorem State.setExcursion_within {s : State} {n : Port} {volt : Bool} {on : Bool} (w12 : W 0x12 = true) (hW0 : Within W P s0 s) : Within W P s0
    (State.setExcursion s n volt on) := by
  unfold State.setExcursion
  try dsimp only
  simp (maxDischargeDepth := 60) only [and_true, pageOf_lit, pageKind_lit, opcBit, apply_ite Field.addr, Nat.reduceDiv, Nat.reduceLeDiff,
      Nat.reduceAdd, Nat.reduceMod, if_false, ite_self, State.setIn_within, w12, hW0]

theorem execBankSwap_within {n : Port} {volt : Bool} {s : State} (w24 : W 0x24 = true) (w25 : W 0x25 = true) (p_flue : P .flue = true) {t : State} (e
    : execBankSwap n volt s = .next t) : Within W P s t := by
  unfold execBankSwap at e
  try dsimp only at e
  cases e
  simp (maxDischargeDepth := 60) only [and_self, implies_true, within_refl, within_ite, State.bankSwap_within, w24, w25, p_flue]

theorem State.bankWrite_within {s : State} {n : Port} {volt bank1 : Bool} {k : Fin 4} {w : Word} (w24 : W 0x24 = true) (w25 : W 0x25 = true)
    (p_flue : P .flue = true) (hW0 : Within W P s0 s) : Within W P s0 (s.bankWrite n volt bank1 k w) := by
  unfold State.bankWrite
  extract_lets inForce l
  split
  · cases volt <;>
      simp (maxDischargeDepth := 60) only [stgRefused, State.eventHost_within, pageOf_add, pageKind_portPage, Nat.reduceLT, Nat.reduceAdd,
        Bool.not_true, Bool.not_false, if_true, Bool.false_eq_true, if_false, w24, w25, p_flue, hW0]
  · cases volt <;> cases bank1 <;>
      simp (maxDischargeDepth := 60) only [bankField, State.set_within, pageOf_page4, pageKind_portPage, Nat.reduceLT, Nat.reduceAdd,
        Nat.reduceMul, w24, w25, hW0]

theorem execBankWrite_within {n : Port} {volt : Bool} {bank1 : Bool} {k : Fin 4} {value : Word} {s : State} (w24 : W 0x24 = true) (w25 : W 0x25 =
    true) (p_flue : P .flue = true) {t : State} (e : execBankWrite n volt bank1 k value s = .next t) : Within W P s t := by
  unfold execBankWrite at e
  try dsimp only at e
  cases e
  simp (maxDischargeDepth := 60) only [implies_true, within_refl, State.answered_within, State.bankWrite_within, w24, w25, p_flue]

theorem State.excursionBegin_within {s : State} {n : Port} {volt : Bool} (w04 : W 0x04 = true) (w12 : W 0x12 = true) (p_flue : P .flue = true) (hW0 :
    Within W P s0 s) : Within W P s0 (State.excursionBegin s n volt) := by
  unfold State.excursionBegin
  try dsimp only
  simp (maxDischargeDepth := 60) only [and_true, pageOf_lit, pageKind_lit, opcBit, apply_ite Field.addr, Nat.reduceDiv, Nat.reduceLeDiff,
      Nat.reduceAdd, Nat.reduceMod, Nat.reduceLT, if_false, ite_self, State.setIn_within, State.setExcursion_within, State.report_within,
      State.soot_within, w04, w12, p_flue, hW0]

theorem State.supervise_within {s : State} {n : Port} {volt : Bool} {r : LoopResult} {resid : Int} {thr : Nat} (w04 : W 0x04 = true) (w12 : W 0x12 =
    true) (p_flue : P .flue = true) (p_lp : P .lp = true) (hW0 : Within W P s0 s) : Within W P s0 (State.supervise s n volt r resid thr) := by
  unfold State.supervise
  try dsimp only
  simp (maxDischargeDepth := 60) only [and_self, implies_true, within_ite, State.modLp_within, State.setRun_within, State.excursionBegin_within,
      State.setExcursion_within, w04, w12, p_flue, p_lp, hW0]

theorem State.evalVolt_within {s : State} {n : Port} (w04 : W 0x04 = true) (w12 : W 0x12 = true) (w25 : W 0x25 = true) (p_flue : P .flue = true) (p_lp
    : P .lp = true) (hW0 : Within W P s0 s) : Within W P s0 (State.evalVolt s n) := by
  unfold State.evalVolt
  try dsimp only
  simp (maxDischargeDepth := 60) only [and_true, pageKind_lit, pageOf_add, pageOf_fin4, pageKind_portPage, Nat.reduceDiv, Nat.reduceLeDiff,
      Nat.reduceMul, Nat.reduceAdd, Nat.reduceMod, Nat.reduceLT, if_false, State.set_within, State.modLp_within, State.setIn_within,
      State.supervise_within, w04, w12, w25, p_flue, p_lp, hW0]

theorem execStageRunCmd_within {n : Port} {s : State} (w24 : W 0x24 = true) (p_boundary : P .boundary = true) (p_flue : P .flue = true) (p_lp : P .lp
    = true) (p_timers : P .timers = true) {t : State} (e : execStageRunCmd n s = .next t) : Within W P s t := by
  unfold execStageRunCmd at e
  try dsimp only at e
  cases e
  simp (maxDischargeDepth := 60) only [within_refl, State.stageRun_within, w24, p_boundary, p_flue, p_lp, p_timers]

theorem execStageStopCmd_within {n : Port} {s : State} (w24 : W 0x24 = true) (p_boundary : P .boundary = true) (p_lanes : P .lanes = true) (p_lp : P
    .lp = true) (p_timers : P .timers = true) {t : State} (e : execStageStopCmd n s = .next t) : Within W P s t := by
  unfold execStageStopCmd at e
  try dsimp only at e
  cases e
  simp (maxDischargeDepth := 60) only [within_refl, State.stageOff_within, w24, p_boundary, p_lanes, p_lp, p_timers]

theorem State.senHigh_within {s : State} {n : Port} (w24 : W 0x24 = true) (p_lp : P .lp = true) (p_timers : P .timers = true) (hW0 : Within W P s0 s)
    : Within W P s0 (State.senHigh s n) := by
  unfold State.senHigh
  try dsimp only
  simp (maxDischargeDepth := 60) only [and_self, implies_true, within_ite, pageOf_add, pageKind_portPage, Nat.reduceAdd, Nat.reduceLT,
      State.stop_within, State.set_within, State.modLp_within, State.presetZero_within, w24, p_lp, p_timers, hW0]

theorem State.evalCurrent_within {s : State} {n : Port} (w04 : W 0x04 = true) (w12 : W 0x12 = true) (w25 : W 0x25 = true) (p_flue : P .flue = true)
    (p_lp : P .lp = true) (hW0 : Within W P s0 s) : Within W P s0 (State.evalCurrent s n) := by
  unfold State.evalCurrent
  try dsimp only
  simp (maxDischargeDepth := 60) only [and_true, pageKind_lit, pageOf_add, pageOf_fin4, pageKind_portPage, Nat.reduceDiv, Nat.reduceLeDiff,
      Nat.reduceMul, Nat.reduceAdd, Nat.reduceMod, Nat.reduceLT, if_false, State.modLp_within, State.setIn_within, State.set_within,
      State.setB_within, State.supervise_within, w04, w12, w25, p_flue, p_lp, hW0]

theorem State.evaluate_within {s : State} {n : Port} {volt : Bool} (w04 : W 0x04 = true) (w12 : W 0x12 = true) (w25 : W 0x25 = true) (p_flue : P .flue
    = true) (p_lp : P .lp = true) (hW0 : Within W P s0 s) : Within W P s0 (State.evaluate s n volt) := by
  unfold State.evaluate
  try dsimp only
  simp (maxDischargeDepth := 60) only [and_self, implies_true, within_ite, State.evalVolt_within, State.evalCurrent_within, w04, w12, w25, p_flue,
      p_lp, hW0]

theorem State.loopEvaluation_within {s : State} {n : Port} {volt : Bool} (w04 : W 0x04 = true) (w0E : W 0x0E = true) (w12 : W 0x12 = true) (w25 : W
    0x25 = true) (p_flue : P .flue = true) (p_lanes : P .lanes = true) (p_lp : P .lp = true) (hW0 : Within W P s0 s) : Within W P s0
    (State.loopEvaluation s n volt) := by
  unfold State.loopEvaluation
  try dsimp only
  (repeat' split) <;> (try simp (maxDischargeDepth := 60) only [and_true, within_mk, pageOf_lit, pageKind_lit, Nat.reduceDiv, Nat.reduceLeDiff,
      Nat.reduceAdd, Nat.reduceMod, if_false, true_or, or_true, State.evaluate_within, State.bumpIn_within, State.lanesTake_within, w04, w0E, w12,
      w25, p_flue, p_lanes, p_lp, hW0])

theorem execLoopEvaluation_within {n : Port} {volt : Bool} {s : State} (w04 : W 0x04 = true) (w0E : W 0x0E = true) (w12 : W 0x12 = true) (w25 : W 0x25
    = true) (p_flue : P .flue = true) (p_lanes : P .lanes = true) (p_lp : P .lp = true) {t : State} (e : execLoopEvaluation n volt s = .next t) :
    Within W P s t := by
  unfold execLoopEvaluation at e
  try dsimp only at e
  cases e
  simp (maxDischargeDepth := 60) only [within_refl, State.loopEvaluation_within, w04, w0E, w12, w25, p_flue, p_lanes, p_lp]

theorem execSampleInstant_within {n : Port} {vbus : BitVec 12} {imon : BitVec 12} {bus : BitVec 12} {s : State} (w24 : W 0x24 = true) (w25 : W 0x25 =
    true) (p_flue : P .flue = true) (p_lanes : P .lanes = true) (p_lp : P .lp = true) (p_thn : P .thn = true) {t : State} (e : execSampleInstant n
    vbus imon bus s = .next t) : Within W P s t := by
  unfold execSampleInstant at e
  try dsimp only at e
  cases e
  simp (maxDischargeDepth := 60) only [and_self, implies_true, within_refl, within_ite, State.sampleInstant_within, w24, w25, p_flue, p_lanes, p_lp,
      p_thn]

theorem execStageSenHigh_within {n : Port} {s : State} (w24 : W 0x24 = true) (p_lp : P .lp = true) (p_timers : P .timers = true) {t : State} (e :
    execStageSenHigh n s = .next t) : Within W P s t := by
  unfold execStageSenHigh at e
  try dsimp only at e
  cases e
  simp (maxDischargeDepth := 60) only [within_refl, State.senHigh_within, w24, p_lp, p_timers]

theorem execStageFault_within {n : Port} {s : State} (w24 : W 0x24 = true) (p_flue : P .flue = true) (p_lanes : P .lanes = true) (p_lp : P .lp = true)
    {t : State} (e : execStageFault n s = .next t) : Within W P s t := by
  unfold execStageFault at e
  try dsimp only at e
  cases e
  simp (maxDischargeDepth := 60) only [within_refl, State.stageTrip_within, w24, p_flue, p_lanes, p_lp]

/-! ### Opc -/

theorem State.opcAdvance_within {s : State} {i : Nat} (w12 : W 0x12 = true) (hW0 : Within W P s0 s) : Within W P s0 (State.opcAdvance s i) := by
  unfold State.opcAdvance
  try dsimp only
  simp (maxDischargeDepth := 60) only [and_true, pageOf_lit, pageKind_lit, Nat.reduceDiv, Nat.reduceLeDiff, Nat.reduceAdd, Nat.reduceMod, if_false,
      State.set_within, w12, hW0]

theorem State.opcWrite_within {s : State} {w : Word} (w12 : W 0x12 = true) (p_flue : P .flue = true) (p_hA : P .hA = true) (p_hB : P .hB = true) (hW0
    : Within W P s0 s) : Within W P s0 (State.opcWrite s w) := by
  unfold State.opcWrite
  try dsimp only
  simp (maxDischargeDepth := 60) only [and_self, and_true, implies_true, within_ite, pageOf_lit, pageKind_lit, Nat.reduceDiv, Nat.reduceLeDiff,
      Nat.reduceAdd, Nat.reduceMod, if_false, State.eventWindow_within, State.modHearths_within, State.opcAdvance_within, w12, p_flue, p_hA, p_hB,
      hW0]

theorem execOpcWindowWrite_within {word : Word} {s : State} (w12 : W 0x12 = true) (p_flue : P .flue = true) (p_hA : P .hA = true) (p_hB : P .hB =
    true) {t : State} (e : execOpcWindowWrite word s = .next t) : Within W P s t := by
  unfold execOpcWindowWrite at e
  try dsimp only at e
  cases e
  simp (maxDischargeDepth := 60) only [implies_true, within_refl, State.answered_within, State.opcWrite_within, w12, p_flue, p_hA, p_hB]

theorem State.opcControl_within {s : State} {v : Word} (w12 : W 0x12 = true) (p_flue : P .flue = true) (p_timers : P .timers = true) (hW0 : Within W P
    s0 s) : Within W P s0 (State.opcControl s v) := by
  unfold State.opcControl
  try dsimp only
  simp (maxDischargeDepth := 60) only [and_self, and_true, implies_true, within_ite, pageOf_lit, pageKind_lit, Nat.reduceDiv, Nat.reduceLeDiff,
      Nat.reduceAdd, Nat.reduceMod, if_false, State.set_within, State.eventHost_within, State.start_within, State.bump_within, w12, p_flue, p_timers,
      hW0]

theorem execOpcClearTable_within {s : State} (w12 : W 0x12 = true) (p_flue : P .flue = true) (p_timers : P .timers = true) {t : State} (e :
    execOpcClearTable s = .next t) : Within W P s t := by
  unfold execOpcClearTable at e
  try dsimp only at e
  cases e
  simp (maxDischargeDepth := 60) only [implies_true, within_refl, State.answered_within, State.opcControl_within, w12, p_flue, p_timers]

theorem State.opcWindowCfg_within {s : State} {n : Port} {axes : Bool} {v : Word} (w12 : W 0x12 = true) (p_flue : P .flue = true) (hW0 : Within W P s0
    s) : Within W P s0 (State.opcWindowCfg s n axes v) := by
  unfold State.opcWindowCfg
  try dsimp only
  simp (maxDischargeDepth := 60) only [and_self, and_true, implies_true, within_ite, pageOf_lit, pageKind_lit, pageOf_fin4, Nat.reduceDiv,
      Nat.reduceLeDiff, Nat.reduceMul, Nat.reduceAdd, Nat.reduceMod, Nat.reduceLT, if_false, State.eventHost_within, State.set_within, w12, p_flue,
      hW0]

theorem State.opcCleared_within {s : State} (w12 : W 0x12 = true) (p_hA : P .hA = true) (p_hB : P .hB = true) (p_timers : P .timers = true) (hW0 :
    Within W P s0 s) : Within W P s0 (State.opcCleared s) := by
  unfold State.opcCleared
  try dsimp only
  simp (maxDischargeDepth := 60) only [and_self, and_true, implies_true, within_ite, pageOf_lit, pageKind_lit, Nat.reduceDiv, Nat.reduceLeDiff,
      Nat.reduceAdd, Nat.reduceMod, if_false, State.stop_within, State.set_within, State.modHearths_within, w12, p_hA, p_hB, p_timers, hW0]

theorem State.opcRead_within {s : State} (w12 : W 0x12 = true) (p_flue : P .flue = true) (p_pins : P .pins = true) (hW0 : Within W P s0 s) : Within W
    P s0 (State.opcRead s) := by
  unfold State.opcRead
  try dsimp only
  simp (maxDischargeDepth := 60) only [and_self, and_true, implies_true, within_ite, pageOf_lit, pageKind_lit, Nat.reduceDiv, Nat.reduceLeDiff,
      Nat.reduceAdd, Nat.reduceMod, if_false, State.returnWord_within, State.eventWindow_within, State.opcAdvance_within, w12, p_flue, p_pins, hW0]

theorem execOpcWindowRead_within {s : State} (w12 : W 0x12 = true) (p_flue : P .flue = true) (p_pins : P .pins = true) {t : State} (e :
    execOpcWindowRead s = .next t) : Within W P s t := by
  unfold execOpcWindowRead at e
  try dsimp only at e
  cases e
  simp (maxDischargeDepth := 60) only [implies_true, within_refl, State.answered_within, State.opcRead_within, w12, p_flue, p_pins]

theorem execOpcWindowCfgWrite_within {n : Port} {axes : Bool} {value : Word} {s : State} (w12 : W 0x12 = true) (p_flue : P .flue = true) {t : State}
    (e : execOpcWindowCfgWrite n axes value s = .next t) : Within W P s t := by
  unfold execOpcWindowCfgWrite at e
  try dsimp only at e
  cases e
  simp (maxDischargeDepth := 60) only [implies_true, within_refl, State.answered_within, State.opcWindowCfg_within, w12, p_flue]

theorem State.opcModel_within {s : State} {n : Port} {volt : Bool} {v : Word} (w12 : W 0x12 = true) (p_lp : P .lp = true) (hW0 : Within W P s0 s) :
    Within W P s0 (State.opcModel s n volt v) := by
  unfold State.opcModel
  try dsimp only
  simp (maxDischargeDepth := 60) only [and_self, and_true, implies_true, within_ite, pageKind_lit, pageOf_fin4, Nat.reduceDiv, Nat.reduceLeDiff,
      Nat.reduceMul, Nat.reduceAdd, Nat.reduceMod, Nat.reduceLT, if_false, State.set_within, State.setRun_within, State.setExcursion_within, w12,
      p_lp, hW0]

theorem execOpcModelWrite_within {n : Port} {volt : Bool} {value : Word} {s : State} (w12 : W 0x12 = true) (p_lp : P .lp = true) {t : State} (e :
    execOpcModelWrite n volt value s = .next t) : Within W P s t := by
  unfold execOpcModelWrite at e
  try dsimp only at e
  cases e
  simp (maxDischargeDepth := 60) only [implies_true, within_refl, State.answered_within, State.opcModel_within, w12, p_lp]

theorem execOpcSetValid_within {s : State} (w12 : W 0x12 = true) (p_flue : P .flue = true) (p_timers : P .timers = true) {t : State} (e :
    execOpcSetValid s = .next t) : Within W P s t := by
  unfold execOpcSetValid at e
  try dsimp only at e
  cases e
  simp (maxDischargeDepth := 60) only [implies_true, within_refl, State.answered_within, State.opcControl_within, w12, p_flue, p_timers]

theorem execOpcClearComplete_within {s : State} (w12 : W 0x12 = true) (p_hA : P .hA = true) (p_hB : P .hB = true) (p_timers : P .timers = true) {t :
    State} (e : execOpcClearComplete s = .next t) : Within W P s t := by
  unfold execOpcClearComplete at e
  try dsimp only at e
  cases e
  simp (maxDischargeDepth := 60) only [within_refl, State.opcCleared_within, w12, p_hA, p_hB, p_timers]

theorem execOpcClearValid_within {s : State} (w12 : W 0x12 = true) (p_flue : P .flue = true) (p_timers : P .timers = true) {t : State} (e :
    execOpcClearValid s = .next t) : Within W P s t := by
  unfold execOpcClearValid at e
  try dsimp only at e
  cases e
  simp (maxDischargeDepth := 60) only [implies_true, within_refl, State.answered_within, State.opcControl_within, w12, p_flue, p_timers]

/-! ### Trc -/

theorem State.trcForce_within {s : State} {h : Hth} (p_hA : P .hA = true) (p_hB : P .hB = true) (hW0 : Within W P s0 s) : Within W P s0
    (State.trcForce s h) := by
  unfold State.trcForce
  try dsimp only
  (repeat' split) <;> (try simp (maxDischargeDepth := 60) only [State.trcTrigger_within, p_hA, p_hB, hW0])

theorem State.trcReadOf_within {s : State} {dbg : Option Hth} (w0F : W 0x0F = true) (w63 : W 0x63 = true) (w69 : W 0x69 = true) (p_flue : P .flue =
    true) (p_pins : P .pins = true) (hW0 : Within W P s0 s) : Within W P s0 (State.trcReadOf s dbg) := by
  unfold State.trcReadOf
  try dsimp only
  (repeat' split) <;> (try simp (maxDischargeDepth := 60) only [and_true, pageOf_lit, pageKind_lit, pageOf_add, pageKind_dbg, dbg_pages,
      Nat.reduceDiv, Nat.reduceLeDiff, Nat.reduceAdd, Nat.reduceMod, Nat.reduceLT, if_false, State.returnWord_within, State.eventIn_within,
      State.set_within, w0F, w63, w69, p_flue, p_pins, hW0])

theorem State.trcRead_within {s : State} {dbg : Option Hth} (w0F : W 0x0F = true) (w63 : W 0x63 = true) (w69 : W 0x69 = true) (p_flue : P .flue =
    true) (p_pins : P .pins = true) (hW0 : Within W P s0 s) : Within W P s0 (State.trcRead s dbg) := by
  unfold State.trcRead
  try dsimp only
  simp (maxDischargeDepth := 60) only [and_self, implies_true, within_ite, State.returnWord_within, State.trcReadOf_within, w0F, w63, w69, p_flue,
      p_pins, hW0]

theorem execTrcWindowRead_within {dbg : Option Hth} {s : State} (w0F : W 0x0F = true) (w63 : W 0x63 = true) (w69 : W 0x69 = true) (p_flue : P .flue =
    true) (p_pins : P .pins = true) {t : State} (e : execTrcWindowRead dbg s = .next t) : Within W P s t := by
  unfold execTrcWindowRead at e
  try dsimp only at e
  cases e
  simp (maxDischargeDepth := 60) only [implies_true, within_refl, State.answered_within, State.trcRead_within, w0F, w63, w69, p_flue, p_pins]

theorem State.trcDone_within {s : State} {h : Hth} (w0F : W 0x0F = true) (p_flue : P .flue = true) (hW0 : Within W P s0 s) : Within W P s0
    (State.trcDone s h) := by
  unfold State.trcDone
  try dsimp only
  simp (maxDischargeDepth := 60) only [and_true, pageOf_lit, pageKind_lit, Nat.reduceDiv, Nat.reduceLeDiff, Nat.reduceAdd, Nat.reduceMod, if_false,
      State.bumpIn_within, State.eventIn_within, State.setIn_within, w0F, p_flue, hW0]

theorem State.trcPut_within {s : State} {h : Hth} {l : List (Word × Word)} (w0F : W 0x0F = true) (p_hA : P .hA = true) (p_hB : P .hB = true) (hW0 :
    Within W P s0 s) : Within W P s0 (State.trcPut s h l) := by
  unfold State.trcPut
  try dsimp only
  simp (maxDischargeDepth := 60) only [and_true, pageOf_lit, pageKind_lit, Nat.reduceDiv, Nat.reduceLeDiff, Nat.reduceAdd, Nat.reduceMod, if_false,
      State.setIn_within, State.putHearth_within, w0F, p_hA, p_hB, hW0]

theorem State.trcSample_within {s : State} {h : Hth} {x : Word × Word} (w0F : W 0x0F = true) (p_flue : P .flue = true) (p_hA : P .hA = true) (p_hB : P
    .hB = true) (hW0 : Within W P s0 s) : Within W P s0 (State.trcSample s h x) := by
  unfold State.trcSample
  try dsimp only
  (repeat' split) <;> (try simp (maxDischargeDepth := 60) only [and_true, pageOf_lit, pageKind_lit, Field.inHearth, Nat.reduceDiv, Nat.reduceLeDiff,
      Nat.reduceAdd, Nat.reduceMod, if_false, State.trcPut_within, State.putHearth_within, State.setIn_within, State.eventIn_within,
      State.trcDone_within, w0F, p_flue, p_hA, p_hB, hW0])

theorem execTrcForceTrigger_within {s : State} (p_hA : P .hA = true) (p_hB : P .hB = true) {t : State} (e : execTrcForceTrigger s = .next t) : Within
    W P s t := by
  unfold execTrcForceTrigger at e
  try dsimp only at e
  cases e
  simp (maxDischargeDepth := 60) only [implies_true, within_refl, State.answered_within, State.eachHearth_within, State.trcForce_within, p_hA, p_hB]

theorem State.traceStrobe_within {s : State} {k : Strobe} (w08 : W 0x08 = true) (w0E : W 0x0E = true) (w0F : W 0x0F = true) (w12 : W 0x12 = true) (w22
    : W 0x22 = true) (p_flue : P .flue = true) (p_hA : P .hA = true) (p_hB : P .hB = true) (hW0 : Within W P s0 s) : Within W P s0 (State.traceStrobe
    s k) := by
  unfold State.traceStrobe
  try dsimp only
  simp (maxDischargeDepth := 60) only [implies_true, within_refl, within_foldl, State.eachHearth_within, State.trcSample_within, w0F, p_flue, p_hA,
      p_hB, hW0]

theorem execTraceStrobe_within {k : Strobe} {s : State} (w08 : W 0x08 = true) (w0E : W 0x0E = true) (w0F : W 0x0F = true) (w12 : W 0x12 = true) (w22 :
    W 0x22 = true) (p_flue : P .flue = true) (p_hA : P .hA = true) (p_hB : P .hB = true) {t : State} (e : execTraceStrobe k s = .next t) : Within W P
    s t := by
  unfold execTraceStrobe at e
  try dsimp only at e
  cases e
  simp (maxDischargeDepth := 60) only [within_refl, State.traceStrobe_within, w08, w0E, w0F, w12, w22, p_flue, p_hA, p_hB]

theorem State.trcConfig_within {s : State} {h : Hth} {k : Fin 6} {v : Word} (w0F : W 0x0F = true) (p_flue : P .flue = true)
    (hW0 : Within W P s0 s) : Within W P s0 (s.trcConfig h k v) := by
  have a : W (pageKind (pageOf (0x0F20 + 4 * k.val))) = true := by
    simp only [pageOf_fin4, pageKind_lit, Nat.reduceMod, Nat.reduceMul, Nat.reduceAdd, Nat.reduceLT, Nat.reduceDiv, Nat.reduceLeDiff,
      false_and, if_false, w0F]
  unfold State.trcConfig
  split
  · exact State.eventIn_within p_flue w0F hW0
  · exact State.putWord_within _ _ _ (by decide) a (State.putWord_within _ _ _ (by cases h <;> decide) a hW0)

theorem State.trcArm_within {s : State} {h : Hth} (w0F : W 0x0F = true) (p_hA : P .hA = true) (p_hB : P .hB = true) (hW0 : Within W P s0 s) : Within W
    P s0 (State.trcArm s h) := by
  unfold State.trcArm
  try dsimp only
  simp (maxDischargeDepth := 60) only [and_true, pageOf_lit, pageKind_lit, Nat.reduceDiv, Nat.reduceLeDiff, Nat.reduceAdd, Nat.reduceMod, if_false,
      State.putHearth_within, State.setIn_within, w0F, p_hA, p_hB, hW0]

theorem State.trcStop_within {s : State} {h : Hth} (w0F : W 0x0F = true) (p_flue : P .flue = true) (p_hA : P .hA = true) (p_hB : P .hB = true) (hW0 :
    Within W P s0 s) : Within W P s0 (State.trcStop s h) := by
  unfold State.trcStop
  try dsimp only
  simp (maxDischargeDepth := 60) only [and_self, implies_true, within_ite, State.trcDone_within, State.putHearth_within, w0F, p_flue, p_hA, p_hB, hW0]

theorem State.trcFreeze_within {s : State} {h : Hth} (w0F : W 0x0F = true) (p_flue : P .flue = true) (p_hA : P .hA = true) (p_hB : P .hB = true) (hW0
    : Within W P s0 s) : Within W P s0 (State.trcFreeze s h) := by
  unfold State.trcFreeze
  try dsimp only
  simp (maxDischargeDepth := 60) only [and_self, and_true, implies_true, within_ite, pageOf_lit, pageKind_lit, Nat.reduceDiv, Nat.reduceLeDiff,
      Nat.reduceAdd, Nat.reduceMod, if_false, State.putHearth_within, State.eventIn_within, State.setIn_within, w0F, p_flue, p_hA, p_hB, hW0]

theorem execTrcStop_within {s : State} (w0F : W 0x0F = true) (p_flue : P .flue = true) (p_hA : P .hA = true) (p_hB : P .hB = true) {t : State} (e :
    execTrcStop s = .next t) : Within W P s t := by
  unfold execTrcStop at e
  try dsimp only at e
  cases e
  simp (maxDischargeDepth := 60) only [implies_true, within_refl, State.answered_within, State.eachHearth_within, State.trcStop_within, w0F, p_flue,
      p_hA, p_hB]

theorem execTrcArm_within {s : State} (w0F : W 0x0F = true) (p_hA : P .hA = true) (p_hB : P .hB = true) {t : State} (e : execTrcArm s = .next t) :
    Within W P s t := by
  unfold execTrcArm at e
  try dsimp only at e
  cases e
  simp (maxDischargeDepth := 60) only [implies_true, within_refl, State.answered_within, State.eachHearth_within, State.trcArm_within, w0F, p_hA,
      p_hB]

theorem execTraceTrigger_within {c : TrcCause} {s : State} (w0F : W 0x0F = true) (p_hA : P .hA = true) (p_hB : P .hB = true) {t : State} (e :
    execTraceTrigger c s = .next t) : Within W P s t := by
  unfold execTraceTrigger at e
  try dsimp only at e
  cases e
  simp (maxDischargeDepth := 60) only [within_refl, State.traceTrigger_within, p_hA, p_hB]

theorem execTrcConfigWrite_within {k : Fin 6} {value : Word} {s : State} (w0F : W 0x0F = true) (p_flue : P .flue = true) {t : State} (e :
    execTrcConfigWrite k value s = .next t) : Within W P s t := by
  unfold execTrcConfigWrite at e
  try dsimp only at e
  cases e
  simp (maxDischargeDepth := 60) only [implies_true, within_refl, State.answered_within, State.eachHearth_within, State.trcConfig_within, w0F, p_flue]

theorem State.traceFreeze_within {s : State} (w0F : W 0x0F = true) (p_flue : P .flue = true) (p_hA : P .hA = true) (p_hB : P .hB = true) (hW0 : Within
    W P s0 s) : Within W P s0 (State.traceFreeze s) := by
  unfold State.traceFreeze
  try dsimp only
  simp (maxDischargeDepth := 60) only [implies_true, within_refl, State.eachHearth_within, State.trcFreeze_within, w0F, p_flue, p_hA, p_hB, hW0]

/-! ### Drt -/

theorem State.envLost_within {s : State} {c : Fin 4} (w09 : W 0x09 = true) (p_flue : P .flue = true) (hW0 : Within W P s0 s) : Within W P s0
    (State.envLost s c) := by
  unfold State.envLost
  try dsimp only
  simp (maxDischargeDepth := 60) only [and_self, and_true, implies_true, within_ite, pageOf_lit, pageKind_lit, pageOf_fin4, Nat.reduceDiv,
      Nat.reduceLeDiff, Nat.reduceMul, Nat.reduceAdd, Nat.reduceMod, Nat.reduceLT, if_false, State.set_within, State.setBit_within,
      State.event_within, w09, p_flue, hW0]

theorem execEnvLost_within {c : Fin 4} {s : State} (w09 : W 0x09 = true) (p_flue : P .flue = true) {t : State} (e : execEnvLost c s = .next t) :
    Within W P s t := by
  unfold execEnvLost at e
  try dsimp only at e
  cases e
  simp (maxDischargeDepth := 60) only [within_refl, State.envLost_within, w09, p_flue]

theorem State.admitPort_within {s : State} {n : Port} (w08 : W 0x08 = true) (w26 : W 0x26 = true) (p_draught : P .draught = true) (p_fnd : P .fnd =
    true) (p_timers : P .timers = true) (hW0 : Within W P s0 s) : Within W P s0 (State.admitPort s n) := by
  unfold State.admitPort
  try dsimp only
  simp (maxDischargeDepth := 60) only [and_true, pageOf_lit, pageKind_lit, Nat.reduceDiv, Nat.reduceLeDiff, Nat.reduceAdd, Nat.reduceMod, if_false,
      State.pathTry_within, State.showQueue_within, State.dropAdmission_within, State.setBit_within, w08, w26, p_draught, p_fnd, p_timers, hW0]

theorem State.publishPort_within {s : State} {p : Plan} {n : Port} (w08 : W 0x08 = true) (w09 : W 0x09 = true) (w22 : W 0x22 = true) (w24 : W 0x24 =
    true) (w26 : W 0x26 = true) (p_draught : P .draught = true) (p_fnd : P .fnd = true) (p_lp : P .lp = true) (p_pol : P .pol = true) (p_timers : P
    .timers = true) (hW0 : Within W P s0 s) : Within W P s0 (State.publishPort s p n) := by
  unfold State.publishPort
  try dsimp only
  simp (maxDischargeDepth := 60) only [and_self, and_true, implies_true, within_ite, within_mk, pageOf_lit, pageKind_lit, pageOf_add, pageOf_fin4,
      pageKind_portPage, Nat.reduceDiv, Nat.reduceLeDiff, Nat.reduceMul, Nat.reduceAdd, Nat.reduceMod, Nat.reduceLT, if_false, true_or, or_true,
      State.set_within, State.modLp_within, State.setBit_within, State.frsShow_within, State.admitPort_within, w08, w09, w22, w24, w26, p_draught,
      p_fnd, p_lp, p_pol, p_timers, hW0]

theorem State.railOrder_within {s : State} {h : Hth} {code : Nat} (w08 : W 0x08 = true) (w0D : W 0x0D = true) (w0E : W 0x0E = true) (p_boundary : P
    .boundary = true) (hW0 : Within W P s0 s) : Within W P s0 (State.railOrder s h code) := by
  unfold State.railOrder
  try dsimp only
  simp (maxDischargeDepth := 60) only [and_self, and_true, implies_true, within_ite, within_mk, pageOf_lit, pageKind_lit, Nat.reduceDiv,
      Nat.reduceLeDiff, Nat.reduceAdd, Nat.reduceMod, if_false, true_or, or_true, State.setIn_within, State.setRail_within, w08, w0D, w0E, p_boundary,
      hW0]

theorem State.publish_within {s : State} (w08 : W 0x08 = true) (w09 : W 0x09 = true) (w0D : W 0x0D = true) (w0E : W 0x0E = true) (w22 : W 0x22 = true)
    (w24 : W 0x24 = true) (w26 : W 0x26 = true) (p_boundary : P .boundary = true) (p_draught : P .draught = true) (p_feeds : P .feeds = true) (p_flue
    : P .flue = true) (p_fnd : P .fnd = true) (p_lp : P .lp = true) (p_pol : P .pol = true) (p_timers : P .timers = true) (hW0 : Within W P s0 s) :
    Within W P s0 (State.publish s) := by
  unfold State.publish
  try dsimp only
  (repeat' split) <;> (try simp (maxDischargeDepth := 60) only [and_true, implies_true, within_refl, within_mk, pageOf_lit, pageKind_lit,
      Nat.reduceDiv, Nat.reduceLeDiff, Nat.reduceAdd, Nat.reduceMod, if_false, true_or, or_true, State.allPorts_within, State.publishPort_within,
      State.railOrder_within, State.setB_within, State.set_within, State.bump_within, State.eventBy_within, w08, w09, w0D, w0E, w22, w24, w26,
      p_boundary, p_draught, p_feeds, p_flue, p_fnd, p_lp, p_pol, p_timers, hW0])

theorem State.predsDrop_within {s : State} {e : Nat} (p_draught : P .draught = true) (hW0 : Within W P s0 s) : Within W P s0 (State.predsDrop s e) :=
    by
  unfold State.predsDrop
  try dsimp only
  simp (maxDischargeDepth := 60) only [within_mk, true_or, or_true, p_draught, hW0]

theorem State.squashNote_within {s : State} {e : Nat} {cause : Nat} (w08 : W 0x08 = true) (w09 : W 0x09 = true) (p_draught : P .draught = true)
    (p_feeds : P .feeds = true) (p_flue : P .flue = true) (hW0 : Within W P s0 s) : Within W P s0 (State.squashNote s e cause) := by
  unfold State.squashNote
  try dsimp only
  simp (maxDischargeDepth := 60) only [and_true, within_mk, pageOf_lit, pageKind_lit, Nat.reduceDiv, Nat.reduceLeDiff, Nat.reduceAdd, Nat.reduceMod,
      if_false, true_or, or_true, State.set_within, State.bump_within, State.eventBy_within, w08, w09, p_draught, p_feeds, p_flue, hW0]

theorem State.squashNow_within {s : State} {cause : Nat} (w08 : W 0x08 = true) (w09 : W 0x09 = true) (p_draught : P .draught = true) (p_feeds : P
    .feeds = true) (p_flue : P .flue = true) (hW0 : Within W P s0 s) : Within W P s0 (State.squashNow s cause) := by
  unfold State.squashNow
  try dsimp only
  (repeat' split) <;> (try simp (maxDischargeDepth := 60) only [and_true, within_mk, pageOf_lit, pageKind_lit, Nat.reduceDiv, Nat.reduceLeDiff,
      Nat.reduceAdd, Nat.reduceMod, if_false, true_or, or_true, State.predsDrop_within, State.squashNote_within, State.set_within, w08, w09,
      p_draught, p_feeds, p_flue, hW0])

theorem State.noFeedWatch_within {s : State} (p_draught : P .draught = true) (p_timers : P .timers = true) (hW0 : Within W P s0 s) : Within W P s0
    (State.noFeedWatch s) := by
  unfold State.noFeedWatch
  try dsimp only
  simp (maxDischargeDepth := 60) only [and_self, implies_true, within_ite, within_mk, true_or, or_true, State.start_within, State.stop_within,
      p_draught, p_timers, hW0]

theorem State.emergencyShed_within {s : State} (w08 : W 0x08 = true) (w09 : W 0x09 = true) (p_draught : P .draught = true) (p_feeds : P .feeds = true)
    (p_flue : P .flue = true) (p_timers : P .timers = true) (hW0 : Within W P s0 s) : Within W P s0 (State.emergencyShed s) := by
  unfold State.emergencyShed
  try dsimp only
  simp (maxDischargeDepth := 60) only [and_self, and_true, implies_true, within_refl, within_ite, within_mk, pageOf_lit, pageKind_lit, pageOf_fin4,
      Nat.reduceDiv, Nat.reduceLeDiff, Nat.reduceMul, Nat.reduceAdd, Nat.reduceMod, Nat.reduceLT, if_false, true_or, or_true, State.squashNow_within,
      State.allPorts_within, State.set_within, State.setB_within, State.noFeedWatch_within, State.event_within, w08, w09, p_draught, p_feeds, p_flue,
      p_timers, hW0]

theorem State.noFeedRecovery_within {s : State} (w00 : W 0x00 = true) (w04 : W 0x04 = true) (w07 : W 0x07 = true) (w08 : W 0x08 = true) (w09 : W 0x09
    = true) (w13 : W 0x13 = true) (w20 : W 0x20 = true) (w21 : W 0x21 = true) (w22 : W 0x22 = true) (w23 : W 0x23 = true) (w24 : W 0x24 = true) (w26 :
    W 0x26 = true) (w27 : W 0x27 = true) (p_auth : P .auth = true) (p_boundary : P .boundary = true) (p_cc : P .cc = true) (p_draught : P .draught =
    true) (p_flue : P .flue = true) (p_fnd : P .fnd = true) (p_fresh : P .fresh = true) (p_lanes : P .lanes = true) (p_lp : P .lp = true) (p_msg : P
    .msg = true) (p_pol : P .pol = true) (p_thn : P .thn = true) (p_timers : P .timers = true) (p_vdm : P .vdm = true) (hW0 : Within W P s0 s) :
    Within W P s0 (State.noFeedRecovery s) := by
  unfold State.noFeedRecovery
  try dsimp only
  simp (maxDischargeDepth := 60) only [and_self, and_true, implies_true, within_refl, within_ite, within_mk, pageOf_lit, pageKind_lit, Nat.reduceDiv,
      Nat.reduceLeDiff, Nat.reduceAdd, Nat.reduceMod, if_false, true_or, or_true, State.stop_within, State.event_within, State.allPorts_within,
      State.errorRecovery_within, w00, w04, w07, w08, w09, w13, w20, w21, w22, w23, w24, w26, w27, p_auth, p_boundary, p_cc, p_draught, p_flue, p_fnd,
      p_fresh, p_lanes, p_lp, p_msg, p_pol, p_thn, p_timers, p_vdm, hW0]

theorem State.placePreds_within {s : State} {recs : Vector Demand 8} {k : Nat} {lc : Nat} {h : Nat} (p_draught : P .draught = true) (hW0 : Within W P
    s0 s) : Within W P s0 (State.placePreds s recs k lc h) := by
  unfold State.placePreds
  try dsimp only
  simp (maxDischargeDepth := 60) only [implies_true, within_refl, within_mk, within_foldl, true_or, or_true, p_draught, hW0]

theorem State.checkPreds_within {s : State} {recs : Vector Demand 8} {k : Nat} {meas : Int} (w09 : W 0x09 = true)
    (p_draught : P .draught = true) (p_flue : P .flue = true) (hW0 : Within W P s0 s) : Within W P s0 (s.checkPreds recs k meas).1 := by
  have h : ∀ f : Field, f.addr / 256 = 9 → W (pageKind (pageOf f.addr)) = true := fun f hf => by rw [pageOf, hf]; exact w09
  unfold State.checkPreds
  extract_lets due tol measured good _ t0 t1 t2
  have g0 : Within W P s0 t0 := by simp only [t0, within_mk, hW0, p_draught, or_true, true_or]
  have g1 : Within W P s0 t1 := State.set_within _ _ (h _ rfl) (State.set_within _ _ (h _ rfl) g0)
  have g2 : Within W P s0 t2 := by
    simp only [t2]
    split
    · exact g1
    · exact State.eventBy_within p_flue (h F.RUN_EVENT_confirmed rfl) g1
  exact g2

theorem State.runEpoch_within {s : State} (w08 : W 0x08 = true) (w09 : W 0x09 = true) (p_draught : P .draught = true) (p_feeds : P .feeds = true)
    (p_flue : P .flue = true) (hW0 : Within W P s0 s) : Within W P s0 s.runEpoch := by
  have drop : ∀ {c : Prop} [Decidable c] {u : State} {k : Nat}, Within W P s0 u → Within W P s0 (if c then u.predsDrop k else u) := by
    intro c _ u k h; split
    · exact State.predsDrop_within p_draught h
    · exact h
  have base : ∀ {c : Prop} [Decidable c] {u : State} {k x : Nat}, Within W P s0 u →
      Within W P s0 (if c then (u.predsDrop k).set F.DRT_LOCAL_STATUS_lc x else u) := by
    intro c _ u k x h; split
    · exact State.set_within _ _ w08 (State.predsDrop_within p_draught h)
    · exact h
  have note : ∀ {c : Prop} [Decidable c] {u : State} {k x : Nat}, Within W P s0 u →
      Within W P s0 (if c then u else u.squashNote k x) := by
    intro c _ u k x h; split
    · exact h
    · apply State.squashNote_within <;> assumption
  have place : ∀ {c : Prop} [Decidable c] {u : State} {r : Vector Demand 8} {k l h : Nat}, Within W P s0 u →
      Within W P s0 (if c then u.placePreds r k l h else u) := by
    intro c _ u r k l h g; split
    · exact State.placePreds_within p_draught g
    · exact g
  have ev : ∀ {c : Prop} [Decidable c] {u : State} {f : Field} {a : Nat}, f.addr / 256 = 8 → Within W P s0 u →
      Within W P s0 (if c then u.eventBy f a else u) := by
    intro c _ u f a hf h; split
    · exact State.eventBy_within p_flue (by rw [pageOf, hf]; exact w08) h
    · exact h
  have dr : ∀ {u : State} {d : Draught}, Within W P s0 u → Within W P s0 { u with draught := d } := fun h => by
    simp only [within_mk, h, p_draught, or_true, true_or]
  unfold State.runEpoch
  extract_lets
  refine dr (ev rfl (State.set_within F.RUN_STATUS_backoff _ w09 (place (note (drop (ev rfl (ev rfl (dr (ev rfl (drop ?_))))))))))
  exact State.checkPreds_within w09 p_draught p_flue (State.showQueue_within w08 (dr (base hW0)))

theorem State.figsLatch_within {s : State} {keepA : Bool} {keepB : Bool} (p_draught : P .draught = true) (hW0 : Within W P s0 s) : Within W P s0
    (State.figsLatch s keepA keepB) := by
  unfold State.figsLatch
  try dsimp only
  simp (maxDischargeDepth := 60) only [within_mk, true_or, or_true, p_draught, hW0]

theorem State.latchInputs_within {s : State} {hi0 : Nat} {per0 : Nat} {hi1 : Nat} {per1 : Nat} (w08 : W 0x08 = true) (w09 : W 0x09 = true) (w0A : W
    0x0A = true) (p_draught : P .draught = true) (p_feeds : P .feeds = true) (p_lp : P .lp = true) (hW0 : Within W P s0 s) : Within W P s0
    (State.latchInputs s hi0 per0 hi1 per1) := by
  unfold State.latchInputs
  try dsimp only
  simp (maxDischargeDepth := 60) only [and_self, and_true, implies_true, within_refl, within_ite, within_mk, pageOf_lit, pageKind_lit, Nat.reduceDiv,
      Nat.reduceLeDiff, Nat.reduceMul, Nat.reduceAdd, Nat.reduceMod, Nat.reduceLT, if_false, true_or, or_true, State.setBit_within, State.set_within,
      State.figsLatch_within, State.allPorts_within, State.modLp_within, w08, w09, w0A, p_draught, p_feeds, p_lp, hW0]

theorem State.epochAllocation_within {s : State} {hi0 : Nat} {per0 : Nat} {hi1 : Nat} {per1 : Nat} (w08 : W 0x08 = true) (w09 : W 0x09 = true) (w0A :
    W 0x0A = true) (w0D : W 0x0D = true) (w0E : W 0x0E = true) (w22 : W 0x22 = true) (w24 : W 0x24 = true) (w26 : W 0x26 = true) (p_boundary : P
    .boundary = true) (p_draught : P .draught = true) (p_feeds : P .feeds = true) (p_flue : P .flue = true) (p_fnd : P .fnd = true) (p_lp : P .lp =
    true) (p_pol : P .pol = true) (p_timers : P .timers = true) (hW0 : Within W P s0 s) : Within W P s0 (State.epochAllocation s hi0 per0 hi1 per1) :=
    by
  unfold State.epochAllocation
  try dsimp only
  simp (maxDischargeDepth := 60) only [and_self, implies_true, within_refl, within_ite, State.publish_within, State.allPorts_within,
      State.clampOff_within, State.runEpoch_within, State.latchInputs_within, State.noFeedWatch_within, w08, w09, w0A, w0D, w0E, w22, w24, w26,
      p_boundary, p_draught, p_feeds, p_flue, p_fnd, p_lp, p_pol, p_timers, hW0]

theorem State.runWrite_within {s : State} {off : Nat} {v : Word} (w09 : W 0x09 = true) (p_flue : P .flue = true)
    (hW0 : Within W P s0 s) : Within W P s0 (s.runWrite off v) := by
  have g : ∀ a : Nat, 0x09 * 256 ≤ a → a < 0x09 * 256 + 256 → W (pageKind (pageOf a)) = true :=
    fun a h1 h2 => page_range _ h1 h2 w09
  unfold State.runWrite
  dsimp only
  repeat' split
  all_goals first
    | exact hW0
    | (refine State.cfgWrite_within p_flue ?_ ?_ hW0
       · simp only [List.forall_mem_cons, List.not_mem_nil, false_implies, implies_true, and_true]
         (repeat' apply And.intro) <;> (apply g <;> first | omega | (dsimp only; omega))
       · apply g <;> first | omega | (dsimp only; omega))

theorem State.drtWrite_within {s : State} {off : Nat} {v : Word} (w08 : W 0x08 = true) (p_flue : P .flue = true)
    (hW0 : Within W P s0 s) : Within W P s0 (s.drtWrite off v) := by
  have g : ∀ a : Nat, 0x08 * 256 ≤ a → a < 0x08 * 256 + 256 → W (pageKind (pageOf a)) = true :=
    fun a h1 h2 => page_range _ h1 h2 w08
  unfold State.drtWrite
  dsimp only
  repeat' split
  all_goals first
    | exact hW0
    | (refine State.cfgWrite_within p_flue ?_ ?_ hW0
       · simp only [List.forall_mem_cons, List.not_mem_nil, false_implies, implies_true, and_true]
         (repeat' apply And.intro) <;> (apply g <;> first | omega | (dsimp only; omega))
       · apply g <;> first | omega | (dsimp only; omega))

theorem State.exchangeLatch_within {s : State} {published : BitVec 8} (p_draught : P .draught = true) (p_flue : P .flue = true) (hW0 : Within W P s0
    s) : Within W P s0 (State.exchangeLatch s published) := by
  unfold State.exchangeLatch
  try dsimp only
  simp (maxDischargeDepth := 60) only [and_self, implies_true, within_refl, within_ite, within_mk, within_foldl, true_or, or_true,
      State.report_within, State.figsLatch_within, p_draught, p_flue, hW0]

theorem State.admissionRequest_within {s : State} {n : Port} (w08 : W 0x08 = true) (w26 : W 0x26 = true) (p_draught : P .draught = true) (p_fnd : P
    .fnd = true) (p_timers : P .timers = true) (hW0 : Within W P s0 s) : Within W P s0 (State.admissionRequest s n) := by
  unfold State.admissionRequest
  try dsimp only
  simp (maxDischargeDepth := 60) only [and_self, implies_true, within_ite, within_mk, true_or, or_true, State.admitPort_within,
      State.showQueue_within, w08, w26, p_draught, p_fnd, p_timers, hW0]

theorem execAdmissionRequest_within {n : Port} {s : State} (w08 : W 0x08 = true) (w26 : W 0x26 = true) (p_draught : P .draught = true) (p_fnd : P .fnd
    = true) (p_timers : P .timers = true) {t : State} (e : execAdmissionRequest n s = .next t) : Within W P s t := by
  unfold execAdmissionRequest at e
  try dsimp only at e
  cases e
  simp (maxDischargeDepth := 60) only [within_refl, State.admissionRequest_within, w08, w26, p_draught, p_fnd, p_timers]

theorem execRunSquashCmd_within {s : State} (w08 : W 0x08 = true) (w09 : W 0x09 = true) (p_draught : P .draught = true) (p_feeds : P .feeds = true)
    (p_flue : P .flue = true) {t : State} (e : execRunSquashCmd s = .next t) : Within W P s t := by
  unfold execRunSquashCmd at e
  try dsimp only at e
  cases e
  simp (maxDischargeDepth := 60) only [implies_true, within_refl, State.answered_within, State.squashNow_within, w08, w09, p_draught, p_feeds, p_flue]

theorem execEmergencyShed_within {s : State} (w08 : W 0x08 = true) (w09 : W 0x09 = true) (p_draught : P .draught = true) (p_feeds : P .feeds = true)
    (p_flue : P .flue = true) (p_timers : P .timers = true) {t : State} (e : execEmergencyShed s = .next t) : Within W P s t := by
  unfold execEmergencyShed at e
  try dsimp only at e
  cases e
  simp (maxDischargeDepth := 60) only [within_refl, State.emergencyShed_within, w08, w09, p_draught, p_feeds, p_flue, p_timers]

theorem execEpochAllocation_within {hi0 : Nat} {per0 : Nat} {hi1 : Nat} {per1 : Nat} {s : State} (w08 : W 0x08 = true) (w09 : W 0x09 = true) (w0A : W
    0x0A = true) (w0D : W 0x0D = true) (w0E : W 0x0E = true) (w22 : W 0x22 = true) (w24 : W 0x24 = true) (w26 : W 0x26 = true) (p_boundary : P
    .boundary = true) (p_draught : P .draught = true) (p_feeds : P .feeds = true) (p_flue : P .flue = true) (p_fnd : P .fnd = true) (p_lp : P .lp =
    true) (p_pol : P .pol = true) (p_timers : P .timers = true) {t : State} (e : execEpochAllocation hi0 per0 hi1 per1 s = .next t) : Within W P s t
    := by
  unfold execEpochAllocation at e
  try dsimp only at e
  cases e
  simp (maxDischargeDepth := 60) only [and_self, implies_true, within_refl, within_ite, State.epochAllocation_within, w08, w09, w0A, w0D, w0E, w22,
      w24, w26, p_boundary, p_draught, p_feeds, p_flue, p_fnd, p_lp, p_pol, p_timers]

theorem execNofeedRecovery_within {s : State} (w00 : W 0x00 = true) (w04 : W 0x04 = true) (w07 : W 0x07 = true) (w08 : W 0x08 = true) (w09 : W 0x09 =
    true) (w13 : W 0x13 = true) (w20 : W 0x20 = true) (w21 : W 0x21 = true) (w22 : W 0x22 = true) (w23 : W 0x23 = true) (w24 : W 0x24 = true) (w26 : W
    0x26 = true) (w27 : W 0x27 = true) (p_auth : P .auth = true) (p_boundary : P .boundary = true) (p_cc : P .cc = true) (p_draught : P .draught =
    true) (p_flue : P .flue = true) (p_fnd : P .fnd = true) (p_fresh : P .fresh = true) (p_lanes : P .lanes = true) (p_lp : P .lp = true) (p_msg : P
    .msg = true) (p_pol : P .pol = true) (p_thn : P .thn = true) (p_timers : P .timers = true) (p_vdm : P .vdm = true) {t : State} (e :
    execNofeedRecovery s = .next t) : Within W P s t := by
  unfold execNofeedRecovery at e
  try dsimp only at e
  cases e
  simp (maxDischargeDepth := 60) only [within_refl, State.noFeedRecovery_within, w00, w04, w07, w08, w09, w13, w20, w21, w22, w23, w24, w26, w27,
      p_auth, p_boundary, p_cc, p_draught, p_flue, p_fnd, p_fresh, p_lanes, p_lp, p_msg, p_pol, p_thn, p_timers, p_vdm]

theorem execEpochExchangeLatch_within {published : BitVec 8} {s : State} (p_draught : P .draught = true) (p_flue : P .flue = true) {t : State} (e :
    execEpochExchangeLatch published s = .next t) : Within W P s t := by
  unfold execEpochExchangeLatch at e
  try dsimp only at e
  cases e
  simp (maxDischargeDepth := 60) only [and_self, implies_true, within_refl, within_ite, State.exchangeLatch_within, p_draught, p_flue]

end Sys2Proof.Machine
end

