-- ==== Sys2Proof/Laws/WithinFend.lean ====
section
/-! SUPPORT. What each operation and command of the Fender, the feeds, the Comparator Array and the Flue can change at most (`Within`): the pages and parts its
hypotheses name. -/

namespace Sys2Proof.Machine
variable {W : Nat → Bool} {P : Part → Bool} {s0 : State}
set_option linter.unusedVariables false

/-! ### Fnd -/

theorem State.regulate_within {s : State} {n : Port} {inward : Bool} (w26 : W 0x26 = true) (p_fnd : P .fnd = true) (hW0 : Within W P s0 s) : Within W
    P s0 (State.regulate s n inward) := by
  unfold State.regulate
  try dsimp only
  simp (maxDischargeDepth := 60) only [pageOf_add, pageKind_portPage, Nat.reduceAdd, Nat.reduceLT, State.modFnd_within, State.set_within, w26, p_fnd,
      hW0]

theorem State.insertionDone_within {s : State} {n : Port} (w26 : W 0x26 = true) (p_boundary : P .boundary = true) (p_fnd : P .fnd = true) (p_timers :
    P .timers = true) (hW0 : Within W P s0 s) : Within W P s0 (State.insertionDone s n) := by
  unfold State.insertionDone
  try dsimp only
  simp (maxDischargeDepth := 60) only [and_self, implies_true, within_ite, pageOf_add, pageKind_portPage, Nat.reduceAdd, Nat.reduceLT,
      State.set_within, State.dschgOff_within, State.stop_within, State.regulate_within, State.start_within, State.modFnd_within, w26, p_boundary,
      p_fnd, p_timers, hW0]

theorem execInsertionComplete_within {n : Port} {s : State} (w26 : W 0x26 = true) (p_boundary : P .boundary = true) (p_fnd : P .fnd = true) (p_timers
    : P .timers = true) {t : State} (e : execInsertionComplete n s = .next t) : Within W P s t := by
  unfold execInsertionComplete at e
  try dsimp only at e
  cases e
  simp (maxDischargeDepth := 60) only [within_refl, State.insertionDone_within, w26, p_boundary, p_fnd, p_timers]

theorem State.ntcWatch_within {s : State} {k : Fin 4} {c : Nat} (p_timers : P .timers = true) (hW0 : Within W P s0 s) : Within W P s0 (State.ntcWatch
    s k c) := by
  unfold State.ntcWatch
  try dsimp only
  simp (maxDischargeDepth := 60) only [and_self, implies_true, within_ite, State.stop_within, State.start_within, p_timers, hW0]

theorem State.offTimeEnd_within {s : State} {n : Port} (w24 : W 0x24 = true) (w26 : W 0x26 = true) (p_flue : P .flue = true) (p_fnd : P .fnd = true)
    (p_lp : P .lp = true) (p_timers : P .timers = true) (hW0 : Within W P s0 s) : Within W P s0 (State.offTimeEnd s n) := by
  unfold State.offTimeEnd
  try dsimp only
  simp (maxDischargeDepth := 60) only [and_self, implies_true, within_ite, pageOf_add, pageKind_portPage, Nat.reduceAdd, Nat.reduceLT,
      State.set_within, State.stop_within, State.pathTry_within, State.modLp_within, State.event_within, State.stageStored_within, w24, w26, p_flue,
      p_fnd, p_lp, p_timers, hW0]

theorem execOfftimeExpiry_within {n : Port} {s : State} (w24 : W 0x24 = true) (w26 : W 0x26 = true) (p_flue : P .flue = true) (p_fnd : P .fnd = true)
    (p_lp : P .lp = true) (p_timers : P .timers = true) {t : State} (e : execOfftimeExpiry n s = .next t) : Within W P s t := by
  unfold execOfftimeExpiry at e
  try dsimp only at e
  cases e
  simp (maxDischargeDepth := 60) only [within_refl, State.offTimeEnd_within, w24, w26, p_flue, p_fnd, p_lp, p_timers]

theorem State.regulateEnd_within {s : State} {n : Port} (w26 : W 0x26 = true) (p_fnd : P .fnd = true) (hW0 : Within W P s0 s) : Within W P s0
    (State.regulateEnd s n) := by
  unfold State.regulateEnd
  try dsimp only
  simp (maxDischargeDepth := 60) only [pageOf_add, pageKind_portPage, Nat.reduceAdd, Nat.reduceLT, State.modFnd_within, State.set_within, w26, p_fnd,
      hW0]

theorem State.guardOpen_within {s : State} {n : Port} (w24 : W 0x24 = true) (w26 : W 0x26 = true) (p_boundary : P .boundary = true) (p_flue : P .flue
    = true) (p_fnd : P .fnd = true) (p_lanes : P .lanes = true) (p_lp : P .lp = true) (p_timers : P .timers = true) (hW0 : Within W P s0 s) : Within W
    P s0 (State.guardOpen s n) := by
  unfold State.guardOpen
  try dsimp only
  simp (maxDischargeDepth := 60) only [and_self, implies_true, within_ite, pageOf_add, pageKind_portPage, Nat.reduceAdd, Nat.reduceLT,
      State.event_within, State.set_within, State.pathTimersStop_within, State.gatesOff_within, State.modLp_within, State.stageOff_within,
      State.regulateEnd_within, State.dschgOn_within, w24, w26, p_boundary, p_flue, p_fnd, p_lanes, p_lp, p_timers, hW0]

theorem State.protectOpen_within {s : State} {n : Port} {ev : Field} (w24 : W 0x24 = true) (w26 : W 0x26 = true) (p_boundary : P .boundary = true)
    (p_flue : P .flue = true) (p_fnd : P .fnd = true) (p_lanes : P .lanes = true) (p_lp : P .lp = true) (p_timers : P .timers = true) (hf_ev : W
    (pageKind (pageOf ev.addr)) = true) (hW0 : Within W P s0 s) : Within W P s0 (State.protectOpen s n ev) := by
  unfold State.protectOpen
  try dsimp only
  simp (maxDischargeDepth := 60) only [and_self, implies_true, within_ite, pageOf_add, pageKind_portPage, Nat.reduceAdd, Nat.reduceLT,
      State.bump_within, State.event_within, State.guardOpen_within, State.set_within, State.start_within, w24, w26, p_boundary, p_flue, p_fnd,
      p_lanes, p_lp, p_timers, hf_ev, hW0]

theorem execInrushTimeout_within {n : Port} {s : State} (w24 : W 0x24 = true) (w26 : W 0x26 = true) (p_boundary : P .boundary = true) (p_flue : P
    .flue = true) (p_fnd : P .fnd = true) (p_lanes : P .lanes = true) (p_lp : P .lp = true) (p_timers : P .timers = true) {t : State} (e :
    execInrushTimeout n s = .next t) : Within W P s t := by
  unfold execInrushTimeout at e
  try dsimp only at e
  cases e
  simp (maxDischargeDepth := 60) only [and_self, implies_true, within_refl, within_ite, pageOf_add, pageKind_portPage, Nat.reduceAdd, Nat.reduceLT,
      State.protectOpen_within, w24, w26, p_boundary, p_flue, p_fnd, p_lanes, p_lp, p_timers]

theorem execCloseCmd_within {n : Port} {s : State} (w26 : W 0x26 = true) (p_boundary : P .boundary = true) (p_fnd : P .fnd = true) (p_timers : P
    .timers = true) {t : State} (e : execCloseCmd n s = .next t) : Within W P s t := by
  unfold execCloseCmd at e
  try dsimp only at e
  cases e
  simp (maxDischargeDepth := 60) only [within_refl, State.closePath_within, w26, p_boundary, p_fnd, p_timers]

theorem State.limitEntry_within {s : State} {n : Port} {inward : Bool} (w26 : W 0x26 = true) (p_fnd : P .fnd = true) (p_timers : P .timers = true)
    (hW0 : Within W P s0 s) : Within W P s0 (State.limitEntry s n inward) := by
  unfold State.limitEntry
  try dsimp only
  simp (maxDischargeDepth := 60) only [and_self, implies_true, within_ite, pageOf_add, pageKind_portPage, Nat.reduceAdd, Nat.reduceLT,
      State.regulate_within, State.stop_within, State.set_within, State.start_within, w26, p_fnd, p_timers, hW0]

theorem execLimitEntry_within {n : Port} {inward : Bool} {s : State} (w26 : W 0x26 = true) (p_fnd : P .fnd = true) (p_timers : P .timers = true) {t :
    State} (e : execLimitEntry n inward s = .next t) : Within W P s t := by
  unfold execLimitEntry at e
  try dsimp only at e
  cases e
  simp (maxDischargeDepth := 60) only [within_refl, State.limitEntry_within, w26, p_fnd, p_timers]

theorem execDschgRequest_within {n : Port} {s : State} (w26 : W 0x26 = true) (p_boundary : P .boundary = true) (p_fnd : P .fnd = true) (p_timers : P
    .timers = true) {t : State} (e : execDschgRequest n s = .next t) : Within W P s t := by
  unfold execDschgRequest at e
  try dsimp only at e
  cases e
  simp (maxDischargeDepth := 60) only [within_refl, State.dschgOn_within, w26, p_boundary, p_fnd, p_timers]

theorem State.thermalHoldEnd_within {s : State} {n : Port} (w24 : W 0x24 = true) (w26 : W 0x26 = true) (w27 : W 0x27 = true) (p_flue : P .flue = true)
    (p_fnd : P .fnd = true) (p_lp : P .lp = true) (p_timers : P .timers = true) (hW0 : Within W P s0 s) : Within W P s0 (State.thermalHoldEnd s n) :=
    by
  unfold State.thermalHoldEnd
  try dsimp only
  simp (maxDischargeDepth := 60) only [and_self, implies_true, within_ite, pageOf_add, pageKind_portPage, Nat.reduceAdd, Nat.reduceLT,
      State.pathTry_within, State.set_within, State.stageStored_within, w24, w26, w27, p_flue, p_fnd, p_lp, p_timers, hW0]

theorem State.rearm_within {s : State} {n : Port} {epoch : Nat} (w04 : W 0x04 = true) (w22 : W 0x22 = true) (w24 : W 0x24 = true) (w26 : W 0x26 =
    true) (p_flue : P .flue = true) (p_fnd : P .fnd = true) (p_lp : P .lp = true) (p_timers : P .timers = true) (hW0 : Within W P s0 s) : Within W P
    s0 (State.rearm s n epoch) := by
  unfold State.rearm
  try dsimp only
  simp (maxDischargeDepth := 60) only [and_self, implies_true, within_ite, pageOf_add, pageKind_portPage, Nat.reduceAdd, Nat.reduceLT,
      State.soot_within, State.eventHost_within, State.pathTry_within, State.leaveLockout_within, w04, w22, w24, w26, p_flue, p_fnd, p_lp, p_timers,
      hW0]

theorem execFndRearm_within {n : Port} {epoch : BitVec 8} {s : State} (w04 : W 0x04 = true) (w22 : W 0x22 = true) (w24 : W 0x24 = true) (w26 : W 0x26
    = true) (p_flue : P .flue = true) (p_fnd : P .fnd = true) (p_lp : P .lp = true) (p_timers : P .timers = true) {t : State} (e : execFndRearm n
    epoch s = .next t) : Within W P s t := by
  unfold execFndRearm at e
  try dsimp only at e
  cases e
  simp (maxDischargeDepth := 60) only [implies_true, within_refl, State.answered_within, State.rearm_within, w04, w22, w24, w26, p_flue, p_fnd, p_lp,
      p_timers]

theorem execRetriesRestore_within {n : Port} {s : State} (w26 : W 0x26 = true) (p_timers : P .timers = true) {t : State} (e : execRetriesRestore n s =
    .next t) : Within W P s t := by
  unfold execRetriesRestore at e
  try dsimp only at e
  cases e
  simp (maxDischargeDepth := 60) only [and_self, implies_true, within_refl, within_ite, pageOf_add, pageKind_portPage, Nat.reduceAdd, Nat.reduceLT,
      State.set_within, State.stop_within, w26, p_timers]

theorem State.thmShow_within {s : State} {n : Port} (w27 : W 0x27 = true) (hW0 : Within W P s0 s) : Within W P s0 (State.thmShow s n) := by
  unfold State.thmShow
  try dsimp only
  simp (maxDischargeDepth := 60) only [pageOf_add, pageKind_portPage, Nat.reduceAdd, Nat.reduceLT, State.setB_within, w27, hW0]

theorem State.ntcRecovered_within {s : State} {k : Fin 4} (w27 : W 0x27 = true) (p_ntcFault : P .ntcFault = true) (p_timers : P .timers = true) (hW0 :
    Within W P s0 s) : Within W P s0 (State.ntcRecovered s k) := by
  unfold State.ntcRecovered
  try dsimp only
  simp (maxDischargeDepth := 60) only [and_self, implies_true, within_refl, within_ite, within_mk, true_or, or_true, State.allPorts_within,
      State.stop_within, State.thmShow_within, w27, p_ntcFault, p_timers, hW0]

theorem execNtcRecover_within {k : Fin 4} {s : State} (w27 : W 0x27 = true) (p_ntcFault : P .ntcFault = true) (p_timers : P .timers = true) {t :
    State} (e : execNtcRecover k s = .next t) : Within W P s t := by
  unfold execNtcRecover at e
  try dsimp only at e
  cases e
  simp (maxDischargeDepth := 60) only [within_refl, State.ntcRecovered_within, w27, p_ntcFault, p_timers]

theorem State.thermalTrip_within {s : State} {n : Port} (w24 : W 0x24 = true) (w26 : W 0x26 = true) (w27 : W 0x27 = true) (p_boundary : P .boundary =
    true) (p_flue : P .flue = true) (p_fnd : P .fnd = true) (p_lanes : P .lanes = true) (p_lp : P .lp = true) (p_timers : P .timers = true) (hW0 :
    Within W P s0 s) : Within W P s0 (State.thermalTrip s n) := by
  unfold State.thermalTrip
  try dsimp only
  simp (maxDischargeDepth := 60) only [and_self, implies_true, within_ite, pageOf_add, pageKind_portPage, Nat.reduceAdd, Nat.reduceLT,
      State.set_within, State.guardOpen_within, State.bump_within, State.event_within, w24, w26, w27, p_boundary, p_flue, p_fnd, p_lanes, p_lp,
      p_timers, hW0]

theorem State.thermalPort_within {s : State} {n : Port} (w26 : W 0x26 = true) (w27 : W 0x27 = true) (p_fnd : P .fnd = true) (hW0 : Within W P s0 s) :
    Within W P s0 (State.thermalPort s n) := by
  unfold State.thermalPort
  try dsimp only
  simp (maxDischargeDepth := 60) only [pageOf_add, pageKind_portPage, Nat.reduceAdd, Nat.reduceLT, State.thmShow_within, State.modFnd_within,
      State.set_within, w26, w27, p_fnd, hW0]

theorem State.thermalModel_within {s : State} (w24 : W 0x24 = true) (w26 : W 0x26 = true) (w27 : W 0x27 = true) (p_boundary : P .boundary = true)
    (p_flue : P .flue = true) (p_fnd : P .fnd = true) (p_lanes : P .lanes = true) (p_lp : P .lp = true) (p_timers : P .timers = true) (hW0 : Within W
    P s0 s) : Within W P s0 (State.thermalModel s) := by
  unfold State.thermalModel
  try dsimp only
  simp (maxDischargeDepth := 60) only [and_self, implies_true, within_refl, within_ite, State.allPorts_within, State.thermalTrip_within,
      State.thermalPort_within, w24, w26, w27, p_boundary, p_flue, p_fnd, p_lanes, p_lp, p_timers, hW0]

theorem State.closedNow_within {s : State} {n : Port} (w26 : W 0x26 = true) (p_fnd : P .fnd = true) (p_timers : P .timers = true) (hW0 : Within W P s0
    s) : Within W P s0 (State.closedNow s n) := by
  unfold State.closedNow
  try dsimp only
  simp (maxDischargeDepth := 60) only [pageOf_add, pageKind_portPage, Nat.reduceAdd, Nat.reduceLT, State.start_within, State.regulateEnd_within,
      State.set_within, w26, p_fnd, p_timers, hW0]

theorem State.dschgForced_within {s : State} {n : Port} (w0F : W 0x0F = true) (w20 : W 0x20 = true) (w22 : W 0x22 = true) (w26 : W 0x26 = true)
    (p_boundary : P .boundary = true) (p_cc : P .cc = true) (p_flue : P .flue = true) (p_fnd : P .fnd = true) (p_hA : P .hA = true) (p_hB : P .hB =
    true) (p_pol : P .pol = true) (p_timers : P .timers = true) (hW0 : Within W P s0 s) : Within W P s0 (State.dschgForced s n) := by
  unfold State.dschgForced
  try dsimp only
  simp (maxDischargeDepth := 60) only [and_self, implies_true, within_ite, State.dschgOff_within, State.reachPoint1_within, State.modFnd_within, w0F,
      w20, w22, w26, p_boundary, p_cc, p_flue, p_fnd, p_hA, p_hB, p_pol, p_timers, hW0]

theorem execDschgForcedOff_within {n : Port} {s : State} (w0F : W 0x0F = true) (w20 : W 0x20 = true) (w22 : W 0x22 = true) (w26 : W 0x26 = true)
    (p_boundary : P .boundary = true) (p_cc : P .cc = true) (p_flue : P .flue = true) (p_fnd : P .fnd = true) (p_hA : P .hA = true) (p_hB : P .hB =
    true) (p_pol : P .pol = true) (p_timers : P .timers = true) {t : State} (e : execDschgForcedOff n s = .next t) : Within W P s t := by
  unfold execDschgForcedOff at e
  try dsimp only at e
  cases e
  simp (maxDischargeDepth := 60) only [within_refl, State.dschgForced_within, w0F, w20, w22, w26, p_boundary, p_cc, p_flue, p_fnd, p_hA, p_hB, p_pol,
      p_timers]

theorem State.fndWrite_within {s : State} {n : Port} {off : Nat} {v : Word} (w26 : W 0x26 = true) (p_flue : P .flue = true) (hW0 : Within W P s0 s) :
    Within W P s0 (State.fndWrite s n off v) := by
  unfold State.fndWrite
  try dsimp only
  (repeat' split) <;> (try simp (maxDischargeDepth := 60) only [and_self, implies_true, pageOf_add, List.forall_mem_cons, List.not_mem_nil,
      pageKind_portPage, Nat.reduceAdd, Nat.reduceLT, false_implies, State.cfgWrite_within, w26, p_flue, hW0])

theorem State.soaExceeded_within {s : State} {n : Port} (w24 : W 0x24 = true) (w26 : W 0x26 = true) (p_boundary : P .boundary = true) (p_flue : P
    .flue = true) (p_fnd : P .fnd = true) (p_lanes : P .lanes = true) (p_lp : P .lp = true) (p_timers : P .timers = true) (hW0 : Within W P s0 s) :
    Within W P s0 (State.soaExceeded s n) := by
  unfold State.soaExceeded
  try dsimp only
  simp (maxDischargeDepth := 60) only [and_self, implies_true, within_ite, pageOf_add, pageKind_portPage, Nat.reduceAdd, Nat.reduceLT,
      State.protectOpen_within, w24, w26, p_boundary, p_flue, p_fnd, p_lanes, p_lp, p_timers, hW0]

theorem State.thmWrite_within {s : State} {n : Port} {off : Nat} {v : Word} (w27 : W 0x27 = true) (p_flue : P .flue = true)
    (hW0 : Within W P s0 s) : Within W P s0 (s.thmWrite n off v) := by
  have g : ∀ a : Nat, portPage n 7 * 256 ≤ a → a < portPage n 7 * 256 + 256 → W (pageKind (pageOf a)) = true :=
    fun a h1 h2 => page_range _ h1 h2 (by rw [pageKind_portPage _ _ (by omega)]; exact w27)
  have gs : ∀ (l : List CfgField) (ok : Bool), (∀ c ∈ l, portPage n 7 * 256 ≤ c.f.addr ∧ c.f.addr < portPage n 7 * 256 + 256) →
      Within W P s0 (s.cfgWrite l (F.THM_EVENT_cfg_refused n) ok v) := fun l ok h =>
    State.cfgWrite_within p_flue (fun c hc => g _ (h c hc).1 (h c hc).2) (g _ (by dsimp only; omega) (by dsimp only; omega)) hW0
  unfold State.thmWrite
  dsimp only
  split
  all_goals try
    (refine gs _ _ ?_
     simp only [List.forall_mem_cons, List.not_mem_nil, false_implies, implies_true, and_true]
     omega)
  split
  · refine gs _ _ ?_
    simp only [List.forall_mem_cons, List.not_mem_nil, false_implies, implies_true, and_true, apply_ite Field.addr]
    refine ⟨?_, ?_⟩ <;> split <;> omega
  · exact hW0

theorem execLimitTimeout_within {n : Port} {s : State} (w24 : W 0x24 = true) (w26 : W 0x26 = true) (p_boundary : P .boundary = true) (p_flue : P .flue
    = true) (p_fnd : P .fnd = true) (p_lanes : P .lanes = true) (p_lp : P .lp = true) (p_timers : P .timers = true) {t : State} (e : execLimitTimeout
    n s = .next t) : Within W P s t := by
  unfold execLimitTimeout at e
  try dsimp only at e
  cases e
  simp (maxDischargeDepth := 60) only [and_self, implies_true, within_refl, within_ite, pageOf_add, pageKind_portPage, Nat.reduceAdd, Nat.reduceLT,
      State.protectOpen_within, w24, w26, p_boundary, p_flue, p_fnd, p_lanes, p_lp, p_timers]

theorem execThermalModelUpdate_within {s : State} (w24 : W 0x24 = true) (w26 : W 0x26 = true) (w27 : W 0x27 = true) (p_boundary : P .boundary = true)
    (p_flue : P .flue = true) (p_fnd : P .fnd = true) (p_lanes : P .lanes = true) (p_lp : P .lp = true) (p_timers : P .timers = true) {t : State} (e :
    execThermalModelUpdate s = .next t) : Within W P s t := by
  unfold execThermalModelUpdate at e
  try dsimp only at e
  cases e
  simp (maxDischargeDepth := 60) only [and_self, implies_true, within_refl, within_ite, State.thermalModel_within, w24, w26, w27, p_boundary, p_flue,
      p_fnd, p_lanes, p_lp, p_timers]

theorem execSoaExceeded_within {n : Port} {s : State} (w24 : W 0x24 = true) (w26 : W 0x26 = true) (p_boundary : P .boundary = true) (p_flue : P .flue
    = true) (p_fnd : P .fnd = true) (p_lanes : P .lanes = true) (p_lp : P .lp = true) (p_timers : P .timers = true) {t : State} (e : execSoaExceeded n
    s = .next t) : Within W P s t := by
  unfold execSoaExceeded at e
  try dsimp only at e
  cases e
  simp (maxDischargeDepth := 60) only [and_self, implies_true, within_refl, within_ite, State.soaExceeded_within, w24, w26, p_boundary, p_flue, p_fnd,
      p_lanes, p_lp, p_timers]

theorem execThermalHoldEnd_within {n : Port} {s : State} (w24 : W 0x24 = true) (w26 : W 0x26 = true) (w27 : W 0x27 = true) (p_flue : P .flue = true)
    (p_fnd : P .fnd = true) (p_lp : P .lp = true) (p_timers : P .timers = true) {t : State} (e : execThermalHoldEnd n s = .next t) : Within W P s t :=
    by
  unfold execThermalHoldEnd at e
  try dsimp only at e
  cases e
  simp (maxDischargeDepth := 60) only [within_refl, State.thermalHoldEnd_within, w24, w26, w27, p_flue, p_fnd, p_lp, p_timers]

theorem State.inrushEnd_within {s : State} {n : Port} (w24 : W 0x24 = true) (w26 : W 0x26 = true) (p_flue : P .flue = true) (p_fnd : P .fnd = true)
    (p_lp : P .lp = true) (p_timers : P .timers = true) (hW0 : Within W P s0 s) : Within W P s0 (State.inrushEnd s n) := by
  unfold State.inrushEnd
  try dsimp only
  simp (maxDischargeDepth := 60) only [and_self, implies_true, within_ite, pageOf_add, pageKind_portPage, Nat.reduceAdd, Nat.reduceLT,
      State.stageStored_within, State.event_within, State.closedNow_within, State.stop_within, w24, w26, p_flue, p_fnd, p_lp, p_timers, hW0]

theorem execInrushEnd_within {n : Port} {s : State} (w24 : W 0x24 = true) (w26 : W 0x26 = true) (p_flue : P .flue = true) (p_fnd : P .fnd = true)
    (p_lp : P .lp = true) (p_timers : P .timers = true) {t : State} (e : execInrushEnd n s = .next t) : Within W P s t := by
  unfold execInrushEnd at e
  try dsimp only at e
  cases e
  simp (maxDischargeDepth := 60) only [within_refl, State.inrushEnd_within, w24, w26, p_flue, p_fnd, p_lp, p_timers]

theorem State.ntcFaulted_within {s : State} {k : Fin 4} (w27 : W 0x27 = true) (p_flue : P .flue = true) (p_ntcFault : P .ntcFault = true) (p_timers :
    P .timers = true) (hW0 : Within W P s0 s) : Within W P s0 (State.ntcFaulted s k) := by
  unfold State.ntcFaulted
  try dsimp only
  simp (maxDischargeDepth := 60) only [and_self, implies_true, within_refl, within_ite, within_mk, pageOf_add, pageKind_portPage, Nat.reduceAdd,
      Nat.reduceLT, true_or, or_true, State.stop_within, State.allPorts_within, State.set_within, State.thmShow_within, State.report_within, w27,
      p_flue, p_ntcFault, p_timers, hW0]

theorem State.dischargeSlow_within {s : State} {n : Port} (w00 : W 0x00 = true) (w04 : W 0x04 = true) (w07 : W 0x07 = true) (w08 : W 0x08 = true) (w09
    : W 0x09 = true) (w13 : W 0x13 = true) (w20 : W 0x20 = true) (w21 : W 0x21 = true) (w22 : W 0x22 = true) (w23 : W 0x23 = true) (w24 : W 0x24 =
    true) (w26 : W 0x26 = true) (w27 : W 0x27 = true) (p_auth : P .auth = true) (p_boundary : P .boundary = true) (p_cc : P .cc = true) (p_draught : P
    .draught = true) (p_flue : P .flue = true) (p_fnd : P .fnd = true) (p_fresh : P .fresh = true) (p_lanes : P .lanes = true) (p_lp : P .lp = true)
    (p_msg : P .msg = true) (p_pol : P .pol = true) (p_thn : P .thn = true) (p_timers : P .timers = true) (p_vdm : P .vdm = true) (hW0 : Within W P s0
    s) : Within W P s0 (State.dischargeSlow s n) := by
  unfold State.dischargeSlow
  try dsimp only
  simp (maxDischargeDepth := 60) only [and_self, implies_true, within_ite, pageOf_add, pageKind_portPage, Nat.reduceAdd, Nat.reduceLT,
      State.modFnd_within, State.stop_within, State.start_within, State.event_within, State.errorRecovery_within, w00, w04, w07, w08, w09, w13, w20,
      w21, w22, w23, w24, w26, w27, p_auth, p_boundary, p_cc, p_draught, p_flue, p_fnd, p_fresh, p_lanes, p_lp, p_msg, p_pol, p_thn, p_timers, p_vdm,
      hW0]

theorem execOpenCmd_within {n : Port} {s : State} (w26 : W 0x26 = true) (w27 : W 0x27 = true) (p_boundary : P .boundary = true) (p_flue : P .flue =
    true) (p_fnd : P .fnd = true) (p_lp : P .lp = true) (p_timers : P .timers = true) {t : State} (e : execOpenCmd n s = .next t) : Within W P s t :=
    by
  unfold execOpenCmd at e
  try dsimp only at e
  cases e
  simp (maxDischargeDepth := 60) only [within_refl, State.openPath_within, w26, w27, p_boundary, p_flue, p_fnd, p_lp, p_timers]

theorem State.pathOvp_within {s : State} {n : Port} (w24 : W 0x24 = true) (w26 : W 0x26 = true) (p_boundary : P .boundary = true) (p_flue : P .flue =
    true) (p_fnd : P .fnd = true) (p_lanes : P .lanes = true) (p_lp : P .lp = true) (p_timers : P .timers = true) (hW0 : Within W P s0 s) : Within W P
    s0 (State.pathOvp s n) := by
  unfold State.pathOvp
  try dsimp only
  simp (maxDischargeDepth := 60) only [and_self, implies_true, within_ite, pageOf_add, pageKind_portPage, Nat.reduceAdd, Nat.reduceLT,
      State.protectOpen_within, w24, w26, p_boundary, p_flue, p_fnd, p_lanes, p_lp, p_timers, hW0]

theorem State.fastTrip_within {s : State} {n : Port} (w24 : W 0x24 = true) (w26 : W 0x26 = true) (w27 : W 0x27 = true) (p_boundary : P .boundary =
    true) (p_flue : P .flue = true) (p_fnd : P .fnd = true) (p_lanes : P .lanes = true) (p_lp : P .lp = true) (p_timers : P .timers = true) (hW0 :
    Within W P s0 s) : Within W P s0 (State.fastTrip s n) := by
  unfold State.fastTrip
  try dsimp only
  simp (maxDischargeDepth := 60) only [and_self, implies_true, within_ite, pageOf_add, pageKind_portPage, Nat.reduceAdd, Nat.reduceLT,
      State.set_within, State.protectOpen_within, State.modFnd_within, State.modLp_within, State.detachPath_within, w24, w26, w27, p_boundary, p_flue,
      p_fnd, p_lanes, p_lp, p_timers, hW0]

theorem execLimitExit_within {n : Port} {s : State} (w26 : W 0x26 = true) (p_fnd : P .fnd = true) (p_timers : P .timers = true) {t : State} (e :
    execLimitExit n s = .next t) : Within W P s t := by
  unfold execLimitExit at e
  try dsimp only at e
  cases e
  simp (maxDischargeDepth := 60) only [and_self, implies_true, within_refl, within_ite, State.closedNow_within, State.stop_within, w26, p_fnd,
      p_timers]

theorem execNtcFault_within {k : Fin 4} {s : State} (w27 : W 0x27 = true) (p_flue : P .flue = true) (p_ntcFault : P .ntcFault = true) (p_timers : P
    .timers = true) {t : State} (e : execNtcFault k s = .next t) : Within W P s t := by
  unfold execNtcFault at e
  try dsimp only at e
  cases e
  simp (maxDischargeDepth := 60) only [within_refl, State.ntcFaulted_within, w27, p_flue, p_ntcFault, p_timers]

theorem execDischargeSlow_within {n : Port} {s : State} (w00 : W 0x00 = true) (w04 : W 0x04 = true) (w07 : W 0x07 = true) (w08 : W 0x08 = true) (w09 :
    W 0x09 = true) (w13 : W 0x13 = true) (w20 : W 0x20 = true) (w21 : W 0x21 = true) (w22 : W 0x22 = true) (w23 : W 0x23 = true) (w24 : W 0x24 = true)
    (w26 : W 0x26 = true) (w27 : W 0x27 = true) (p_auth : P .auth = true) (p_boundary : P .boundary = true) (p_cc : P .cc = true) (p_draught : P
    .draught = true) (p_flue : P .flue = true) (p_fnd : P .fnd = true) (p_fresh : P .fresh = true) (p_lanes : P .lanes = true) (p_lp : P .lp = true)
    (p_msg : P .msg = true) (p_pol : P .pol = true) (p_thn : P .thn = true) (p_timers : P .timers = true) (p_vdm : P .vdm = true) {t : State} (e :
    execDischargeSlow n s = .next t) : Within W P s t := by
  unfold execDischargeSlow at e
  try dsimp only at e
  cases e
  simp (maxDischargeDepth := 60) only [within_refl, State.dischargeSlow_within, w00, w04, w07, w08, w09, w13, w20, w21, w22, w23, w24, w26, w27,
      p_auth, p_boundary, p_cc, p_draught, p_flue, p_fnd, p_fresh, p_lanes, p_lp, p_msg, p_pol, p_thn, p_timers, p_vdm]

theorem State.ntcFit_within {s : State} (w27 : W 0x27 = true) (p_ntcFault : P .ntcFault = true) (p_ntcFitted : P .ntcFitted = true) (hW0 : Within W P
    s0 s) : Within W P s0 (State.ntcFit s) := by
  unfold State.ntcFit
  try dsimp only
  simp (maxDischargeDepth := 60) only [implies_true, within_refl, within_mk, true_or, or_true, State.allPorts_within, State.thmShow_within, w27,
      p_ntcFault, p_ntcFitted, hW0]

/-! ### Fed -/

theorem State.modFed_within {s : State} {g : FeedSel → FeedSel} (p_feeds : P .feeds = true) (hW0 : Within W P s0 s) : Within W P s0 (State.modFed s g)
    := by
  unfold State.modFed
  try dsimp only
  simp (maxDischargeDepth := 60) only [within_mk, true_or, or_true, p_feeds, hW0]

theorem State.fedGate_within {s : State} {f : Nat} {on : Bool} (p_feeds : P .feeds = true) (hW0 : Within W P s0 s) : Within W P s0 (State.fedGate s f
    on) := by
  unfold State.fedGate
  try dsimp only
  simp (maxDischargeDepth := 60) only [State.modFed_within, p_feeds, hW0]

theorem State.noticeDrop_within {s : State} (w08 : W 0x08 = true) (w09 : W 0x09 = true) (w0A : W 0x0A = true) (p_draught : P .draught = true) (p_feeds
    : P .feeds = true) (hW0 : Within W P s0 s) : Within W P s0 (State.noticeDrop s) := by
  unfold State.noticeDrop
  try dsimp only
  simp (maxDischargeDepth := 60) only [and_true, within_mk, pageOf_lit, pageKind_lit, Nat.reduceDiv, Nat.reduceLeDiff, Nat.reduceAdd, Nat.reduceMod,
      if_false, true_or, or_true, State.set_within, State.modFed_within, w08, w09, w0A, p_draught, p_feeds, hW0]

theorem State.switchStop_within {s : State} (w0A : W 0x0A = true) (p_feeds : P .feeds = true) (p_timers : P .timers = true) (hW0 : Within W P s0 s) :
    Within W P s0 (State.switchStop s) := by
  unfold State.switchStop
  try dsimp only
  simp (maxDischargeDepth := 60) only [and_true, pageOf_lit, pageKind_lit, Nat.reduceDiv, Nat.reduceLeDiff, Nat.reduceAdd, Nat.reduceMod, if_false,
      State.stop_within, State.set_within, State.modFed_within, w0A, p_feeds, p_timers, hW0]

theorem State.switchBegin_within {s : State} {dst : Nat} {cause : Nat} (w08 : W 0x08 = true) (w09 : W 0x09 = true) (w0A : W 0x0A = true) (p_draught :
    P .draught = true) (p_feeds : P .feeds = true) (p_flue : P .flue = true) (p_timers : P .timers = true) (hW0 : Within W P s0 s) : Within W P s0
    (State.switchBegin s dst cause) := by
  unfold State.switchBegin
  try dsimp only
  simp (maxDischargeDepth := 60) only [and_self, and_true, implies_true, within_ite, pageOf_lit, pageKind_lit, Nat.reduceDiv, Nat.reduceLeDiff,
      Nat.reduceAdd, Nat.reduceMod, if_false, State.fedGate_within, State.set_within, State.noticeDrop_within, State.switchStop_within,
      State.event_within, State.setB_within, State.modFed_within, State.start_within, w08, w09, w0A, p_draught, p_feeds, p_flue, p_timers, hW0]

theorem State.firstSelection_within {s : State} (w08 : W 0x08 = true) (w09 : W 0x09 = true) (w0A : W 0x0A = true) (p_draught : P .draught = true)
    (p_feeds : P .feeds = true) (p_flue : P .flue = true) (p_timers : P .timers = true) (hW0 : Within W P s0 s) : Within W P s0 (State.firstSelection
    s) := by
  unfold State.firstSelection
  try dsimp only
  simp (maxDischargeDepth := 60) only [and_self, implies_true, within_ite, State.switchBegin_within, w08, w09, w0A, p_draught, p_feeds, p_flue,
      p_timers, hW0]

theorem execFirstSelection_within {s : State} (w08 : W 0x08 = true) (w09 : W 0x09 = true) (w0A : W 0x0A = true) (p_draught : P .draught = true)
    (p_feeds : P .feeds = true) (p_flue : P .flue = true) (p_timers : P .timers = true) {t : State} (e : execFirstSelection s = .next t) : Within W P
    s t := by
  unfold execFirstSelection at e
  try dsimp only at e
  cases e
  simp (maxDischargeDepth := 60) only [within_refl, State.firstSelection_within, w08, w09, w0A, p_draught, p_feeds, p_flue, p_timers]

theorem State.unplannedSwitch_within {s : State} {cause : Nat} (w08 : W 0x08 = true) (w09 : W 0x09 = true) (w0A : W 0x0A = true) (p_draught : P
    .draught = true) (p_feeds : P .feeds = true) (p_flue : P .flue = true) (p_timers : P .timers = true) (hW0 : Within W P s0 s) : Within W P s0
    (State.unplannedSwitch s cause) := by
  unfold State.unplannedSwitch
  try dsimp only
  simp (maxDischargeDepth := 60) only [and_self, and_true, implies_true, within_ite, pageOf_lit, pageKind_lit, Nat.reduceDiv, Nat.reduceLeDiff,
      Nat.reduceAdd, Nat.reduceMod, if_false, State.switchBegin_within, State.event_within, State.set_within, w08, w09, w0A, p_draught, p_feeds,
      p_flue, p_timers, hW0]

theorem State.fedMarkLost_within {s : State} {f : Nat} (w0A : W 0x0A = true) (p_feeds : P .feeds = true) (hW0 : Within W P s0 s) : Within W P s0
    (State.fedMarkLost s f) := by
  unfold State.fedMarkLost
  try dsimp only
  simp (maxDischargeDepth := 60) only [and_true, pageOf_lit, pageKind_lit, Nat.reduceDiv, Nat.reduceLeDiff, Nat.reduceAdd, Nat.reduceMod, if_false,
      State.modFed_within, State.setBit_within, w0A, p_feeds, hW0]

theorem State.switchEnhance_within {s : State} (p_feeds : P .feeds = true) (p_timers : P .timers = true) (hW0 : Within W P s0 s) : Within W P s0
    (State.switchEnhance s) := by
  unfold State.switchEnhance
  try dsimp only
  simp (maxDischargeDepth := 60) only [State.modFed_within, State.fedGate_within, State.stop_within, p_feeds, p_timers, hW0]

theorem State.switchClose_within {s : State} (p_feeds : P .feeds = true) (p_timers : P .timers = true) (hW0 : Within W P s0 s) : Within W P s0
    (State.switchClose s) := by
  unfold State.switchClose
  try dsimp only
  simp (maxDischargeDepth := 60) only [and_self, implies_true, within_ite, State.switchEnhance_within, State.start_within, State.modFed_within,
      State.fedGate_within, p_feeds, p_timers, hW0]

theorem State.switchNext_within {s : State} (w0A : W 0x0A = true) (p_feeds : P .feeds = true) (p_flue : P .flue = true) (p_timers : P .timers = true)
    (hW0 : Within W P s0 s) : Within W P s0 (State.switchNext s) := by
  unfold State.switchNext
  try dsimp only
  simp (maxDischargeDepth := 60) only [and_self, and_true, implies_true, within_ite, pageOf_lit, pageKind_lit, Nat.reduceDiv, Nat.reduceLeDiff,
      Nat.reduceAdd, Nat.reduceMod, if_false, State.stop_within, State.fedGate_within, State.set_within, State.modFed_within, State.event_within,
      State.switchStop_within, State.switchClose_within, w0A, p_feeds, p_flue, p_timers, hW0]

theorem State.feedGone_within {s : State} {f : Nat} {cause : Nat} (w08 : W 0x08 = true) (w09 : W 0x09 = true) (w0A : W 0x0A = true) (p_draught : P
    .draught = true) (p_feeds : P .feeds = true) (p_flue : P .flue = true) (p_timers : P .timers = true) (hW0 : Within W P s0 s) : Within W P s0
    (State.feedGone s f cause) := by
  unfold State.feedGone
  try dsimp only
  simp (maxDischargeDepth := 60) only [and_self, and_true, implies_true, within_ite, pageOf_lit, pageKind_lit, Nat.reduceDiv, Nat.reduceLeDiff,
      Nat.reduceAdd, Nat.reduceMod, if_false, State.fedMarkLost_within, State.noticeDrop_within, State.set_within, State.switchStop_within,
      State.fedGate_within, State.modFed_within, State.switchNext_within, w08, w09, w0A, p_draught, p_feeds, p_flue, p_timers, hW0]

theorem State.feedLost_within {s : State} {f : Feed} (w08 : W 0x08 = true) (w09 : W 0x09 = true) (w0A : W 0x0A = true) (p_draught : P .draught = true)
    (p_feeds : P .feeds = true) (p_flue : P .flue = true) (p_timers : P .timers = true) (hW0 : Within W P s0 s) : Within W P s0 (State.feedLost s f)
    := by
  unfold State.feedLost
  try dsimp only
  simp (maxDischargeDepth := 60) only [and_self, and_true, implies_true, within_ite, pageOf_lit, pageKind_lit, Nat.reduceDiv, Nat.reduceLeDiff,
      Nat.reduceAdd, Nat.reduceMod, if_false, State.feedGone_within, State.eventAs_within, w08, w09, w0A, p_draught, p_feeds, p_flue, p_timers, hW0]

theorem State.feedDrop_within {s : State} {f : Nat} (w08 : W 0x08 = true) (w09 : W 0x09 = true) (w0A : W 0x0A = true) (p_draught : P .draught = true)
    (p_feeds : P .feeds = true) (p_flue : P .flue = true) (p_fresh : P .fresh = true) (p_timers : P .timers = true) (hW0 : Within W P s0 s) : Within W
    P s0 (State.feedDrop s f) := by
  unfold State.feedDrop
  try dsimp only
  simp (maxDischargeDepth := 60) only [and_self, and_true, implies_true, within_ite, within_mk, pageOf_lit, pageKind_lit, Nat.reduceDiv,
      Nat.reduceLeDiff, Nat.reduceAdd, Nat.reduceMod, if_false, true_or, or_true, State.setBit_within, State.modFed_within, State.noticeDrop_within,
      State.set_within, State.switchStop_within, State.fedGate_within, State.switchNext_within, State.unplannedSwitch_within, w08, w09, w0A,
      p_draught, p_feeds, p_flue, p_fresh, p_timers, hW0]

theorem execFeedLost_within {f : Feed} {s : State} (w08 : W 0x08 = true) (w09 : W 0x09 = true) (w0A : W 0x0A = true) (p_draught : P .draught = true)
    (p_feeds : P .feeds = true) (p_flue : P .flue = true) (p_timers : P .timers = true) {t : State} (e : execFeedLost f s = .next t) : Within W P s t
    := by
  unfold execFeedLost at e
  try dsimp only at e
  cases e
  simp (maxDischargeDepth := 60) only [within_refl, State.feedLost_within, w08, w09, w0A, p_draught, p_feeds, p_flue, p_timers]

theorem State.deadTimeEnd_within {s : State} (p_feeds : P .feeds = true) (p_timers : P .timers = true) (hW0 : Within W P s0 s) : Within W P s0
    (State.deadTimeEnd s) := by
  unfold State.deadTimeEnd
  try dsimp only
  simp (maxDischargeDepth := 60) only [and_self, implies_true, within_ite, State.switchClose_within, State.modFed_within, State.stop_within, p_feeds,
      p_timers, hW0]

theorem State.feedRequest_within {s : State} {f : Feed} (w08 : W 0x08 = true) (w09 : W 0x09 = true) (w0A : W 0x0A = true) (p_draught : P .draught =
    true) (p_feeds : P .feeds = true) (p_flue : P .flue = true) (hW0 : Within W P s0 s) : Within W P s0 (State.feedRequest s f) := by
  unfold State.feedRequest
  try dsimp only
  simp (maxDischargeDepth := 60) only [and_self, and_true, implies_true, within_ite, pageOf_lit, pageKind_lit, Nat.reduceDiv, Nat.reduceLeDiff,
      Nat.reduceAdd, Nat.reduceMod, if_false, State.eventHost_within, State.set_within, State.noticeDrop_within, State.modFed_within, w08, w09, w0A,
      p_draught, p_feeds, p_flue, hW0]

theorem State.switchDone_within {s : State} (w0A : W 0x0A = true) (p_feeds : P .feeds = true) (p_timers : P .timers = true) (hW0 : Within W P s0 s) :
    Within W P s0 (State.switchDone s) := by
  unfold State.switchDone
  try dsimp only
  simp (maxDischargeDepth := 60) only [and_self, and_true, implies_true, within_ite, pageOf_lit, pageKind_lit, Nat.reduceDiv, Nat.reduceLeDiff,
      Nat.reduceAdd, Nat.reduceMod, if_false, State.bump_within, State.set_within, State.switchStop_within, State.start_within, State.modFed_within,
      w0A, p_feeds, p_timers, hW0]

theorem State.feedRelease_within {s : State} {f : Nat} (w0A : W 0x0A = true) (p_feeds : P .feeds = true) (p_flue : P .flue = true) (hW0 : Within W P
    s0 s) : Within W P s0 (State.feedRelease s f) := by
  unfold State.feedRelease
  try dsimp only
  simp (maxDischargeDepth := 60) only [and_self, and_true, implies_true, within_ite, pageOf_lit, pageKind_lit, Nat.reduceDiv, Nat.reduceLeDiff,
      Nat.reduceAdd, Nat.reduceMod, if_false, State.modFed_within, State.event_within, State.setBit_within, w0A, p_feeds, p_flue, hW0]

theorem State.feedQualified_within {s : State} {f : Feed} (w0A : W 0x0A = true) (p_feeds : P .feeds = true) (p_flue : P .flue = true) (hW0 : Within W
    P s0 s) : Within W P s0 (State.feedQualified s f) := by
  unfold State.feedQualified
  try dsimp only
  simp (maxDischargeDepth := 60) only [and_self, and_true, implies_true, within_ite, pageOf_lit, pageKind_lit, Nat.reduceDiv, Nat.reduceLeDiff,
      Nat.reduceAdd, Nat.reduceMod, if_false, State.modFed_within, State.setBit_within, State.event_within, w0A, p_feeds, p_flue, hW0]

theorem execFeedReverse_within {s : State} (w08 : W 0x08 = true) (w09 : W 0x09 = true) (w0A : W 0x0A = true) (p_draught : P .draught = true) (p_feeds
    : P .feeds = true) (p_flue : P .flue = true) (p_timers : P .timers = true) {t : State} (e : execFeedReverse s = .next t) : Within W P s t := by
  unfold execFeedReverse at e
  try dsimp only at e
  cases e
  simp (maxDischargeDepth := 60) only [and_self, and_true, implies_true, within_refl, within_ite, pageOf_lit, pageKind_lit, Nat.reduceDiv,
      Nat.reduceLeDiff, Nat.reduceAdd, Nat.reduceMod, if_false, State.feedGone_within, State.eventAs_within, w08, w09, w0A, p_draught, p_feeds,
      p_flue, p_timers]

theorem State.switchFail_within {s : State} {ev : Field} {source : Nat} (w0A : W 0x0A = true) (p_feeds : P .feeds = true) (p_flue : P .flue = true)
    (p_timers : P .timers = true) (hf_ev : W (pageKind (pageOf ev.addr)) = true) (hW0 : Within W P s0 s) : Within W P s0 (State.switchFail s ev
    source) := by
  unfold State.switchFail
  try dsimp only
  simp (maxDischargeDepth := 60) only [State.switchNext_within, State.modFed_within, State.fedMarkLost_within, State.eventAs_within, w0A, p_feeds,
      p_flue, p_timers, hf_ev, hW0]

theorem execFeedInsTimeout_within {s : State} (w0A : W 0x0A = true) (p_feeds : P .feeds = true) (p_flue : P .flue = true) (p_timers : P .timers =
    true) {t : State} (e : execFeedInsTimeout s = .next t) : Within W P s t := by
  unfold execFeedInsTimeout at e
  try dsimp only at e
  cases e
  simp (maxDischargeDepth := 60) only [and_self, and_true, implies_true, within_refl, within_ite, pageOf_lit, pageKind_lit, Nat.reduceDiv,
      Nat.reduceLeDiff, Nat.reduceAdd, Nat.reduceMod, if_false, State.switchFail_within, w0A, p_feeds, p_flue, p_timers]

theorem execFeedOvercurrent_within {s : State} (w08 : W 0x08 = true) (w09 : W 0x09 = true) (w0A : W 0x0A = true) (p_draught : P .draught = true)
    (p_feeds : P .feeds = true) (p_flue : P .flue = true) (p_timers : P .timers = true) {t : State} (e : execFeedOvercurrent s = .next t) : Within W P
    s t := by
  unfold execFeedOvercurrent at e
  try dsimp only at e
  cases e
  simp (maxDischargeDepth := 60) only [and_self, and_true, implies_true, within_refl, within_ite, pageOf_lit, pageKind_lit, Nat.reduceDiv,
      Nat.reduceLeDiff, Nat.reduceAdd, Nat.reduceMod, if_false, State.feedGone_within, State.eventAs_within, w08, w09, w0A, p_draught, p_feeds,
      p_flue, p_timers]

theorem State.fedWrite_within {s : State} {off : Nat} {v : Word} (w0A : W 0x0A = true) (p_flue : P .flue = true)
    (hW0 : Within W P s0 s) : Within W P s0 (s.fedWrite off v) := by
  have g : ∀ a : Nat, 0x0A * 256 ≤ a → a < 0x0A * 256 + 256 → W (pageKind (pageOf a)) = true :=
    fun a h1 h2 => page_range _ h1 h2 w0A
  unfold State.fedWrite
  dsimp only
  repeat' split
  all_goals first
    | exact hW0
    | (refine State.cfgWrite_within p_flue ?_ ?_ hW0
       · simp only [List.forall_mem_cons, List.not_mem_nil, false_implies, implies_true, and_true]
         (repeat' apply And.intro) <;> (apply g <;> first | omega | (dsimp only; omega))
       · apply g <;> first | omega | (dsimp only; omega))

theorem execSwitchComplete_within {s : State} (w0A : W 0x0A = true) (p_feeds : P .feeds = true) (p_timers : P .timers = true) {t : State} (e :
    execSwitchComplete s = .next t) : Within W P s t := by
  unfold execSwitchComplete at e
  try dsimp only at e
  cases e
  simp (maxDischargeDepth := 60) only [within_refl, State.switchDone_within, w0A, p_feeds, p_timers]

theorem execBusMatchReached_within {s : State} (p_feeds : P .feeds = true) (p_timers : P .timers = true) {t : State} (e : execBusMatchReached s =
    .next t) : Within W P s t := by
  unfold execBusMatchReached at e
  try dsimp only at e
  cases e
  simp (maxDischargeDepth := 60) only [and_self, implies_true, within_refl, within_ite, State.switchEnhance_within, p_feeds, p_timers]

theorem execUnplannedSwitch_within {s : State} (w08 : W 0x08 = true) (w09 : W 0x09 = true) (w0A : W 0x0A = true) (p_draught : P .draught = true)
    (p_feeds : P .feeds = true) (p_flue : P .flue = true) (p_timers : P .timers = true) {t : State} (e : execUnplannedSwitch s = .next t) : Within W P
    s t := by
  unfold execUnplannedSwitch at e
  try dsimp only at e
  cases e
  simp (maxDischargeDepth := 60) only [and_self, implies_true, within_refl, within_ite, State.unplannedSwitch_within, w08, w09, w0A, p_draught,
      p_feeds, p_flue, p_timers]

theorem execFedReqSelect_within {f : Feed} {s : State} (w08 : W 0x08 = true) (w09 : W 0x09 = true) (w0A : W 0x0A = true) (p_draught : P .draught =
    true) (p_feeds : P .feeds = true) (p_flue : P .flue = true) {t : State} (e : execFedReqSelect f s = .next t) : Within W P s t := by
  unfold execFedReqSelect at e
  try dsimp only at e
  cases e
  simp (maxDischargeDepth := 60) only [implies_true, within_refl, State.answered_within, State.feedRequest_within, w08, w09, w0A, p_draught, p_feeds,
      p_flue]

theorem State.feedsOpen_within {s : State} (w08 : W 0x08 = true) (w09 : W 0x09 = true) (w0A : W 0x0A = true) (p_draught : P .draught = true) (p_feeds
    : P .feeds = true) (p_timers : P .timers = true) (hW0 : Within W P s0 s) : Within W P s0 (State.feedsOpen s) := by
  unfold State.feedsOpen
  try dsimp only
  simp (maxDischargeDepth := 60) only [and_true, pageOf_lit, pageKind_lit, Nat.reduceDiv, Nat.reduceLeDiff, Nat.reduceAdd, Nat.reduceMod, if_false,
      State.set_within, State.modFed_within, State.switchStop_within, State.noticeDrop_within, w08, w09, w0A, p_draught, p_feeds, p_timers, hW0]

theorem execFeedQualified_within {f : Feed} {s : State} (w0A : W 0x0A = true) (p_feeds : P .feeds = true) (p_flue : P .flue = true) {t : State} (e :
    execFeedQualified f s = .next t) : Within W P s t := by
  unfold execFeedQualified at e
  try dsimp only at e
  cases e
  simp (maxDischargeDepth := 60) only [within_refl, State.feedQualified_within, w0A, p_feeds, p_flue]

theorem State.feedAutomatic_within {s : State} (w08 : W 0x08 = true) (w09 : W 0x09 = true) (w0A : W 0x0A = true) (p_draught : P .draught = true)
    (p_feeds : P .feeds = true) (hW0 : Within W P s0 s) : Within W P s0 (State.feedAutomatic s) := by
  unfold State.feedAutomatic
  try dsimp only
  simp (maxDischargeDepth := 60) only [and_self, and_true, implies_true, within_ite, pageOf_lit, pageKind_lit, Nat.reduceDiv, Nat.reduceLeDiff,
      Nat.reduceAdd, Nat.reduceMod, if_false, State.modFed_within, State.set_within, State.noticeDrop_within, w08, w09, w0A, p_draught, p_feeds, hW0]

theorem execFedReqAutomatic_within {s : State} (w08 : W 0x08 = true) (w09 : W 0x09 = true) (w0A : W 0x0A = true) (p_draught : P .draught = true)
    (p_feeds : P .feeds = true) {t : State} (e : execFedReqAutomatic s = .next t) : Within W P s t := by
  unfold execFedReqAutomatic at e
  try dsimp only at e
  cases e
  simp (maxDischargeDepth := 60) only [implies_true, within_refl, State.answered_within, State.feedAutomatic_within, w08, w09, w0A, p_draught,
      p_feeds]

theorem execDeadTimeExpiry_within {s : State} (p_feeds : P .feeds = true) (p_timers : P .timers = true) {t : State} (e : execDeadTimeExpiry s = .next
    t) : Within W P s t := by
  unfold execDeadTimeExpiry at e
  try dsimp only at e
  cases e
  simp (maxDischargeDepth := 60) only [within_refl, State.deadTimeEnd_within, p_feeds, p_timers]

theorem State.plannedNotice_within {s : State} (w0A : W 0x0A = true) (p_feeds : P .feeds = true) (hW0 : Within W P s0 s) : Within W P s0
    (State.plannedNotice s) := by
  unfold State.plannedNotice
  try dsimp only
  simp (maxDischargeDepth := 60) only [and_self, and_true, implies_true, within_ite, pageOf_lit, pageKind_lit, Nat.reduceDiv, Nat.reduceLeDiff,
      Nat.reduceAdd, Nat.reduceMod, if_false, State.set_within, State.modFed_within, w0A, p_feeds, hW0]

theorem execPlannedSwitchNotice_within {s : State} (w0A : W 0x0A = true) (p_feeds : P .feeds = true) {t : State} (e : execPlannedSwitchNotice s =
    .next t) : Within W P s t := by
  unfold execPlannedSwitchNotice at e
  try dsimp only at e
  cases e
  simp (maxDischargeDepth := 60) only [and_self, implies_true, within_refl, within_ite, State.plannedNotice_within, w0A, p_feeds]

theorem execMatchTimeout_within {s : State} (w0A : W 0x0A = true) (p_feeds : P .feeds = true) (p_flue : P .flue = true) (p_timers : P .timers = true)
    {t : State} (e : execMatchTimeout s = .next t) : Within W P s t := by
  unfold execMatchTimeout at e
  try dsimp only at e
  cases e
  simp (maxDischargeDepth := 60) only [and_self, and_true, implies_true, within_refl, within_ite, pageOf_lit, pageKind_lit, Nat.reduceDiv,
      Nat.reduceLeDiff, Nat.reduceAdd, Nat.reduceMod, if_false, State.switchFail_within, w0A, p_feeds, p_flue, p_timers]

theorem execFeedInsertDone_within {s : State} (p_feeds : P .feeds = true) (p_timers : P .timers = true) {t : State} (e : execFeedInsertDone s = .next
    t) : Within W P s t := by
  unfold execFeedInsertDone at e
  try dsimp only at e
  cases e
  simp (maxDischargeDepth := 60) only [and_self, implies_true, within_refl, within_ite, State.switchEnhance_within, p_feeds, p_timers]

theorem State.fedControlWrite_within {s : State} {v : Word} (w08 : W 0x08 = true) (w09 : W 0x09 = true) (w0A : W 0x0A = true) (p_draught : P .draught
    = true) (p_feeds : P .feeds = true) (p_flue : P .flue = true) (hW0 : Within W P s0 s) : Within W P s0 (State.fedControlWrite s v) := by
  unfold State.fedControlWrite
  try dsimp only
  (repeat' split) <;> (try simp (maxDischargeDepth := 60) only [and_true, pageOf_lit, pageKind_lit, Nat.reduceDiv, Nat.reduceLeDiff, Nat.reduceAdd,
      Nat.reduceMod, if_false, State.feedAutomatic_within, State.eventHost_within, State.feedRequest_within, w08, w09, w0A, p_draught, p_feeds,
      p_flue, hW0])

theorem State.plannedRun_within {s : State} (w08 : W 0x08 = true) (w09 : W 0x09 = true) (w0A : W 0x0A = true) (p_draught : P .draught = true) (p_feeds
    : P .feeds = true) (p_flue : P .flue = true) (p_timers : P .timers = true) (hW0 : Within W P s0 s) : Within W P s0 (State.plannedRun s) := by
  unfold State.plannedRun
  try dsimp only
  simp (maxDischargeDepth := 60) only [and_self, and_true, implies_true, within_ite, within_mk, pageOf_lit, pageKind_lit, Nat.reduceDiv,
      Nat.reduceLeDiff, Nat.reduceAdd, Nat.reduceMod, if_false, true_or, or_true, State.switchBegin_within, State.event_within,
      State.emergencyShed_within, State.squashNow_within, w08, w09, w0A, p_draught, p_feeds, p_flue, p_timers, hW0]

theorem execPlannedSwitchRun_within {s : State} (w08 : W 0x08 = true) (w09 : W 0x09 = true) (w0A : W 0x0A = true) (p_draught : P .draught = true)
    (p_feeds : P .feeds = true) (p_flue : P .flue = true) (p_timers : P .timers = true) {t : State} (e : execPlannedSwitchRun s = .next t) : Within W
    P s t := by
  unfold execPlannedSwitchRun at e
  try dsimp only at e
  cases e
  simp (maxDischargeDepth := 60) only [within_refl, State.plannedRun_within, w08, w09, w0A, p_draught, p_feeds, p_flue, p_timers]

/-! ### Cmp -/

theorem State.cmpMark_within {s : State} {g : CmpArray → CmpArray} (p_array : P .array = true) (hW0 : Within W P s0 s) : Within W P s0 (State.cmpMark
    s g) := by
  unfold State.cmpMark
  try dsimp only
  simp (maxDischargeDepth := 60) only [within_mk, true_or, or_true, p_array, hW0]

theorem State.cmpLatch_within {s : State} {k : Fin 64} {upper : Bool} {access : Nat} (w0B : W 0x0B = true) (w0C : W 0x0C = true) (w0F : W 0x0F = true)
    (p_array : P .array = true) (p_flue : P .flue = true) (p_hA : P .hA = true) (p_hB : P .hB = true)
    (hW0 : Within W P s0 s) : Within W P s0 (s.cmpLatch k upper access) := by
  have g : ∀ off, off < 256 → W (pageKind (pageOf ((0x0B + k.val / 32) * 256 + off))) = true := fun off h => cmp_pages k off h w0B w0C
  unfold State.cmpLatch
  extract_lets t u v w
  have a : Within W P s0 u := State.setB_within (g 0x20 (by decide)) (State.cmpMark_within p_array hW0)
  have b : Within W P s0 v := State.bump_within (f := F.CMP_SEQ_latches (k.val / 32)) (g 0x1C (by decide))
    (State.set_within (cmpBit F.CMP_EVENT_latched k) 1 (g 0x8 (by decide)) a)
  have c : Within W P s0 w := State.traceTrigger_within p_hA p_hB (State.cmpMark_within p_array b)
  split
  · exact a
  · split
    · exact State.report_within p_flue c
    · exact c

theorem State.cmpFired_within {s : State} {k : Fin 64} {upper : Bool} (w0B : W 0x0B = true) (w0C : W 0x0C = true) (w0F : W 0x0F = true) (p_array : P
    .array = true) (p_flue : P .flue = true) (p_hA : P .hA = true) (p_hB : P .hB = true) (hW0 : Within W P s0 s) :
    Within W P s0 (s.cmpFired k upper) :=
  State.cmpLatch_within w0B w0C w0F p_array p_flue p_hA p_hB (State.set_within (cmpBit F.CMP_STATUS_live k) 1 (cmp_pages k 0x4 (by decide) w0B w0C)
      hW0)

theorem State.cmpViolation_within {s : State} {k : Fin 64} {upper : Bool} (w0B : W 0x0B = true) (w0C : W 0x0C = true) (w0F : W 0x0F = true) (w24 : W
    0x24 = true) (w26 : W 0x26 = true) (w27 : W 0x27 = true) (p_array : P .array = true) (p_boundary : P .boundary = true) (p_flue : P .flue = true)
    (p_fnd : P .fnd = true) (p_hA : P .hA = true) (p_hB : P .hB = true) (p_lanes : P .lanes = true) (p_lp : P .lp = true) (p_timers : P .timers =
    true) (hW0 : Within W P s0 s) :
    Within W P s0 (s.cmpViolation k upper) := by
  have a : Within W P s0 (s.cmpFired k upper) := by apply State.cmpFired_within <;> assumption
  unfold State.cmpViolation
  dsimp only
  repeat' split
  all_goals first
    | exact a
    | exact hW0
    | (apply State.fastTrip_within <;> assumption)
    | (apply State.pathOvp_within <;> assumption)

theorem State.cmpCfgWrite_within {s : State} {k : Fin 64} {v : Word} (w0B : W 0x0B = true) (w0C : W 0x0C = true)
    (hW0 : Within W P s0 s) : Within W P s0 (s.cmpCfgWrite k v) := by
  have g : ∀ off, off < 256 → W (pageKind (pageOf ((0x0B + k.val / 32) * 256 + off))) = true := fun off h => cmp_pages k off h w0B w0C
  unfold State.cmpCfgWrite
  extract_lets a old owned t
  have h : Within W P s0 t := State.putWord_within _ _ _ (by decide) (cmp_pages4 k 0x2C (by decide) w0B w0C) hW0
  split
  · exact State.set_within _ _ (g 0x28 (by decide)) hW0
  · split
    · exact State.set_within _ _ (g 0x4 (by decide)) h
    · exact h

theorem execCmpCfgWrite_within {k : Fin 64} {value : Word} {s : State} (w0B : W 0x0B = true) (w0C : W 0x0C = true) {t : State} (e : execCmpCfgWrite k
    value s = .next t) : Within W P s t := by
  unfold execCmpCfgWrite at e
  try dsimp only at e
  cases e
  simp (maxDischargeDepth := 60) only [implies_true, within_refl, State.answered_within, State.cmpCfgWrite_within, w0B, w0C]

theorem State.cmpForce_within {s : State} {page : Fin 2} {v : Word} (w0B : W 0x0B = true) (w0C : W 0x0C = true) (w0F : W 0x0F = true) (p_array : P
    .array = true) (p_flue : P .flue = true) (p_hA : P .hA = true) (p_hB : P .hB = true) (hW0 : Within W P s0 s) : Within W P s0 (State.cmpForce s
    page v) := by
  unfold State.cmpForce
  try dsimp only
  simp (maxDischargeDepth := 60) only [and_self, implies_true, within_refl, within_ite, within_foldl, State.cmpLatch_within, w0B, w0C, w0F, p_array,
      p_flue, p_hA, p_hB, hW0]

theorem execCmpForce_within {page : Fin 2} {value : Word} {s : State} (w0B : W 0x0B = true) (w0C : W 0x0C = true) (w0F : W 0x0F = true) (p_array : P
    .array = true) (p_flue : P .flue = true) (p_hA : P .hA = true) (p_hB : P .hB = true) {t : State} (e : execCmpForce page value s = .next t) :
    Within W P s t := by
  unfold execCmpForce at e
  try dsimp only at e
  cases e
  simp (maxDischargeDepth := 60) only [implies_true, within_refl, State.answered_within, State.cmpForce_within, w0B, w0C, w0F, p_array, p_flue, p_hA,
      p_hB]

theorem State.cmpFall_within {s : State} {k : Fin 64} (w0B : W 0x0B = true) (w0C : W 0x0C = true) (w0F : W 0x0F = true) (p_array : P .array = true)
    (p_hA : P .hA = true) (p_hB : P .hB = true) (hW0 : Within W P s0 s) : Within W P s0 (s.cmpFall k) := by
  unfold State.cmpFall
  split
  · exact State.traceTrigger_within p_hA p_hB (State.cmpMark_within p_array
      (State.set_within (cmpBit F.CMP_EVENT_latched k) 0 (cmp_pages k 0x8 (by decide) w0B w0C) hW0))
  · exact hW0

theorem execFastTrip_within {n : Port} {s : State} (w0B : W 0x0B = true) (w0C : W 0x0C = true) (w0F : W 0x0F = true) (w24 : W 0x24 = true) (w26 : W
    0x26 = true) (w27 : W 0x27 = true) (p_array : P .array = true) (p_boundary : P .boundary = true) (p_flue : P .flue = true) (p_fnd : P .fnd = true)
    (p_hA : P .hA = true) (p_hB : P .hB = true) (p_lanes : P .lanes = true) (p_lp : P .lp = true) (p_timers : P .timers = true) {t : State} (e :
    execFastTrip n s = .next t) : Within W P s t := by
  unfold execFastTrip at e
  try dsimp only at e
  cases e
  simp (maxDischargeDepth := 60) only [and_self, implies_true, within_refl, within_ite, State.fastTrip_within, State.cmpFired_within, w0B, w0C, w0F,
      w24, w26, w27, p_array, p_boundary, p_flue, p_fnd, p_hA, p_hB, p_lanes, p_lp, p_timers]

theorem execPathOvp_within {n : Port} {s : State} (w0B : W 0x0B = true) (w0C : W 0x0C = true) (w0F : W 0x0F = true) (w24 : W 0x24 = true) (w26 : W
    0x26 = true) (p_array : P .array = true) (p_boundary : P .boundary = true) (p_flue : P .flue = true) (p_fnd : P .fnd = true) (p_hA : P .hA = true)
    (p_hB : P .hB = true) (p_lanes : P .lanes = true) (p_lp : P .lp = true) (p_timers : P .timers = true) {t : State} (e : execPathOvp n s = .next t)
    : Within W P s t := by
  unfold execPathOvp at e
  try dsimp only at e
  cases e
  simp (maxDischargeDepth := 60) only [and_self, implies_true, within_refl, within_ite, State.pathOvp_within, State.cmpFired_within, w0B, w0C, w0F,
      w24, w26, p_array, p_boundary, p_flue, p_fnd, p_hA, p_hB, p_lanes, p_lp, p_timers]

theorem execComparatorViolation_within {k : Fin 64} {upper : Bool} {s : State} (w0B : W 0x0B = true) (w0C : W 0x0C = true) (w0F : W 0x0F = true) (w24
    : W 0x24 = true) (w26 : W 0x26 = true) (w27 : W 0x27 = true) (p_array : P .array = true) (p_boundary : P .boundary = true) (p_flue : P .flue =
    true) (p_fnd : P .fnd = true) (p_hA : P .hA = true) (p_hB : P .hB = true) (p_lanes : P .lanes = true) (p_lp : P .lp = true) (p_timers : P .timers
    = true) {t : State} (e : execComparatorViolation k upper s = .next t) : Within W P s t := by
  unfold execComparatorViolation at e
  try dsimp only at e
  cases e
  simp (maxDischargeDepth := 60) only [within_refl, State.cmpViolation_within, w0B, w0C, w0F, w24, w26, w27, p_array, p_boundary, p_flue, p_fnd, p_hA,
      p_hB, p_lanes, p_lp, p_timers]

theorem execComparatorViolationEnd_within {k : Fin 64} {s : State} (w0B : W 0x0B = true) (w0C : W 0x0C = true) {t : State}
    (e : execComparatorViolationEnd k s = .next t) : Within W P s t := by
  unfold execComparatorViolationEnd at e
  injection e with e
  rw [← e]
  exact State.set_within _ _ (cmp_pages k 0x4 (by decide) w0B w0C) (.refl s)

theorem execFenderThresholdLoad_within {n : Port} {s : State} (w0B : W 0x0B = true) (w0C : W 0x0C = true) (w26 : W 0x26 = true) {t : State} (e :
    execFenderThresholdLoad n s = .next t) : Within W P s t := by
  unfold execFenderThresholdLoad at e
  try dsimp only at e
  cases e
  simp (maxDischargeDepth := 60) only [within_refl, State.fenderLoad_within, w0B, w0C, w26]

/-! ### Flue -/

theorem State.ashWrite_within {s : State} {r : Report} {level : Nat} {merges : Nat} {kind : Nat} (w04 : W 0x04 = true) (p_auth : P .auth = true)
    (p_draught : P .draught = true) (p_flue : P .flue = true) (p_fnd : P .fnd = true) (p_hearths : P .hearths = true) (p_inputs : P .inputs = true)
    (p_lanes : P .lanes = true) (p_lp : P .lp = true) (p_msg : P .msg = true) (p_pol : P .pol = true) (p_thn : P .thn = true) (p_timers : P .timers =
    true) (p_vdm : P .vdm = true) (hW0 : Within W P s0 s) : Within W P s0 (State.ashWrite s r level merges kind) := by
  unfold State.ashWrite
  try dsimp only
  simp (maxDischargeDepth := 60) only [and_self, and_true, implies_true, within_ite, within_mk, pageOf_lit, pageKind_lit, Nat.reduceDiv,
      Nat.reduceLeDiff, Nat.reduceAdd, Nat.reduceMod, if_false, true_or, or_true, State.bump_within, State.set_within, w04, p_auth, p_draught, p_flue,
      p_fnd, p_hearths, p_inputs, p_lanes, p_lp, p_msg, p_pol, p_thn, p_timers, p_vdm, hW0]

theorem State.lossRecord_within {s : State} {h : Hth} {c : LossCause} {output : Nat} {port : Nat} (w0D : W 0x0D = true) (p_hearths : P .hearths =
    true) (hW0 : Within W P s0 s) : Within W P s0 (State.lossRecord s h c output port) := by
  unfold State.lossRecord
  try dsimp only
  simp (maxDischargeDepth := 60) only [and_true, within_mk, pageOf_lit, pageKind_lit, Nat.reduceDiv, Nat.reduceLeDiff, Nat.reduceAdd, Nat.reduceMod,
      if_false, true_or, or_true, State.set_within, State.bumpSat_within, w0D, p_hearths, hW0]

theorem State.setRole_within {s : State} {h : Hth} {r : Role} (p_hearths : P .hearths = true) (hW0 : Within W P s0 s) : Within W P s0 (State.setRole s
    h r) := by
  unfold State.setRole
  try dsimp only
  (repeat' split) <;> (try simp (maxDischargeDepth := 60) only [within_mk, true_or, or_true, p_hearths, hW0])

theorem State.copyAbandon_within {s : State} (w0D : W 0x0D = true) (p_hearths : P .hearths = true) (p_timers : P .timers = true) (hW0 : Within W P s0
    s) : Within W P s0 (State.copyAbandon s) := by
  unfold State.copyAbandon
  try dsimp only
  simp (maxDischargeDepth := 60) only [and_self, and_true, implies_true, within_ite, within_mk, pageOf_lit, pageKind_lit, Nat.reduceDiv,
      Nat.reduceLeDiff, Nat.reduceAdd, Nat.reduceMod, if_false, true_or, or_true, State.stop_within, State.set_within, State.roleBump_within,
      State.setRole_within, w0D, p_hearths, p_timers, hW0]

theorem State.enterLevel3_within {s : State} {r : Report} (w03 : W 0x03 = true) (w04 : W 0x04 = true) (w0F : W 0x0F = true) (w20 : W 0x20 = true) (w22
    : W 0x22 = true) (w24 : W 0x24 = true) (w26 : W 0x26 = true) (w27 : W 0x27 = true) (p_auth : P .auth = true) (p_boundary : P .boundary = true)
    (p_cc : P .cc = true) (p_draught : P .draught = true) (p_ember : P .ember = true) (p_flue : P .flue = true) (p_fnd : P .fnd = true) (p_hA : P .hA
    = true) (p_hB : P .hB = true) (p_hearths : P .hearths = true) (p_inputs : P .inputs = true) (p_lanes : P .lanes = true) (p_lp : P .lp = true)
    (p_msg : P .msg = true) (p_pol : P .pol = true) (p_thn : P .thn = true) (p_timers : P .timers = true) (p_vdm : P .vdm = true) (hW0 : Within W P s0
    s) : Within W P s0 (State.enterLevel3 s r) := by
  unfold State.enterLevel3
  try dsimp only
  simp (maxDischargeDepth := 60) only [and_self, and_true, implies_true, within_refl, within_ite, within_mk, pageOf_lit, pageKind_lit, pageOf_add,
      within_foldl, pageKind_portPage, Nat.reduceDiv, Nat.reduceLeDiff, Nat.reduceAdd, Nat.reduceMod, Nat.reduceLT, if_false, true_or, or_true,
      State.openPath_within, State.set_within, State.stageOff_within, State.dschgStart_within, State.dschgOff_within, State.presentNow_within,
      State.vconnOff_within, State.traceFreeze_within, State.ashWrite_within, State.start_within, State.stop_within, w03, w04, w0F, w20, w22, w24,
      w26, w27, p_auth, p_boundary, p_cc, p_draught, p_ember, p_flue, p_fnd, p_hA, p_hB, p_hearths, p_inputs, p_lanes, p_lp, p_msg, p_pol, p_thn,
      p_timers, p_vdm, hW0]

theorem State.portSafe_within {s : State} {n : Port} (w00 : W 0x00 = true) (w04 : W 0x04 = true) (w07 : W 0x07 = true) (w08 : W 0x08 = true) (w09 : W
    0x09 = true) (w13 : W 0x13 = true) (w20 : W 0x20 = true) (w21 : W 0x21 = true) (w22 : W 0x22 = true) (w23 : W 0x23 = true) (w24 : W 0x24 = true)
    (w26 : W 0x26 = true) (w27 : W 0x27 = true) (p_auth : P .auth = true) (p_boundary : P .boundary = true) (p_cc : P .cc = true) (p_draught : P
    .draught = true) (p_flue : P .flue = true) (p_fnd : P .fnd = true) (p_fresh : P .fresh = true) (p_lanes : P .lanes = true) (p_lp : P .lp = true)
    (p_msg : P .msg = true) (p_pol : P .pol = true) (p_thn : P .thn = true) (p_timers : P .timers = true) (p_vdm : P .vdm = true) (hW0 : Within W P s0
    s) : Within W P s0 (State.portSafe s n) := by
  unfold State.portSafe
  try dsimp only
  simp (maxDischargeDepth := 60) only [and_self, implies_true, within_ite, State.modPol_within, State.advanceEpoch_within, State.errorRecovery_within,
      State.collapse_within, w00, w04, w07, w08, w09, w13, w20, w21, w22, w23, w24, w26, w27, p_auth, p_boundary, p_cc, p_draught, p_flue, p_fnd,
      p_fresh, p_lanes, p_lp, p_msg, p_pol, p_thn, p_timers, p_vdm, hW0]

theorem State.fenceRole_within {s : State} {h : Hth} (w00 : W 0x00 = true) (w04 : W 0x04 = true) (w07 : W 0x07 = true) (w08 : W 0x08 = true) (w09 : W
    0x09 = true) (w0D : W 0x0D = true) (w13 : W 0x13 = true) (w20 : W 0x20 = true) (w21 : W 0x21 = true) (w22 : W 0x22 = true) (w23 : W 0x23 = true)
    (w24 : W 0x24 = true) (w26 : W 0x26 = true) (w27 : W 0x27 = true) (p_auth : P .auth = true) (p_boundary : P .boundary = true) (p_cc : P .cc =
    true) (p_draught : P .draught = true) (p_flue : P .flue = true) (p_fnd : P .fnd = true) (p_fresh : P .fresh = true) (p_hearths : P .hearths =
    true) (p_lanes : P .lanes = true) (p_lp : P .lp = true) (p_msg : P .msg = true) (p_pol : P .pol = true) (p_thn : P .thn = true) (p_timers : P
    .timers = true) (p_vdm : P .vdm = true) (hW0 : Within W P s0 s) : Within W P s0 (State.fenceRole s h) := by
  unfold State.fenceRole
  try dsimp only
  (repeat' split) <;> (try simp (maxDischargeDepth := 60) only [and_true, implies_true, within_refl, within_mk, pageOf_lit, pageKind_lit,
      within_foldl, Nat.reduceDiv, Nat.reduceLeDiff, Nat.reduceAdd, Nat.reduceMod, if_false, true_or, or_true, State.roleBump_within,
      State.set_within, State.setRole_within, State.portSafe_within, w00, w04, w07, w08, w09, w0D, w13, w20, w21, w22, w23, w24, w26, w27, p_auth,
      p_boundary, p_cc, p_draught, p_flue, p_fnd, p_fresh, p_hearths, p_lanes, p_lp, p_msg, p_pol, p_thn, p_timers, p_vdm, hW0])

theorem State.hearthLossBy_within {s : State} {h : Hth} {c : LossCause} {output : Nat} {port : Nat} {access : Nat} (w00 : W 0x00 = true) (w03 : W 0x03
    = true) (w04 : W 0x04 = true) (w07 : W 0x07 = true) (w08 : W 0x08 = true) (w09 : W 0x09 = true) (w0D : W 0x0D = true) (w0F : W 0x0F = true) (w13 :
    W 0x13 = true) (w20 : W 0x20 = true) (w21 : W 0x21 = true) (w22 : W 0x22 = true) (w23 : W 0x23 = true) (w24 : W 0x24 = true) (w26 : W 0x26 = true)
    (w27 : W 0x27 = true) (p_auth : P .auth = true) (p_boundary : P .boundary = true) (p_cc : P .cc = true) (p_draught : P .draught = true) (p_ember :
    P .ember = true) (p_flue : P .flue = true) (p_fnd : P .fnd = true) (p_fresh : P .fresh = true) (p_hA : P .hA = true) (p_hB : P .hB = true)
    (p_hearths : P .hearths = true) (p_inputs : P .inputs = true) (p_lanes : P .lanes = true) (p_lp : P .lp = true) (p_msg : P .msg = true) (p_pol : P
    .pol = true) (p_thn : P .thn = true) (p_timers : P .timers = true) (p_vdm : P .vdm = true) (hW0 : Within W P s0 s) : Within W P s0
    (State.hearthLossBy s h c output port access) := by
  unfold State.hearthLossBy
  try dsimp only
  (repeat' split) <;> (try simp (maxDischargeDepth := 60) only [and_true, pageOf_lit, pageKind_lit, Nat.reduceDiv, Nat.reduceLeDiff, Nat.reduceAdd,
      Nat.reduceMod, if_false, State.report_within, State.lossRecord_within, State.copyAbandon_within, State.enterLevel3_within, State.bumpSat_within,
      State.event_within, State.fenceRole_within, State.setRole_within, w00, w03, w04, w07, w08, w09, w0D, w0F, w13, w20, w21, w22, w23, w24, w26,
      w27, p_auth, p_boundary, p_cc, p_draught, p_ember, p_flue, p_fnd, p_fresh, p_hA, p_hB, p_hearths, p_inputs, p_lanes, p_lp, p_msg, p_pol, p_thn,
      p_timers, p_vdm, hW0])

theorem State.react_within {s : State} {a : React} {u : Nat} {rep : Report} (w00 : W 0x00 = true) (w03 : W 0x03 = true) (w04 : W 0x04 = true) (w07 : W
    0x07 = true) (w08 : W 0x08 = true) (w09 : W 0x09 = true) (w0A : W 0x0A = true) (w0D : W 0x0D = true) (w0F : W 0x0F = true) (w13 : W 0x13 = true)
    (w20 : W 0x20 = true) (w21 : W 0x21 = true) (w22 : W 0x22 = true) (w23 : W 0x23 = true) (w24 : W 0x24 = true) (w26 : W 0x26 = true) (w27 : W 0x27
    = true) (p_auth : P .auth = true) (p_boundary : P .boundary = true) (p_cc : P .cc = true) (p_draught : P .draught = true) (p_ember : P .ember =
    true) (p_feeds : P .feeds = true) (p_flue : P .flue = true) (p_fnd : P .fnd = true) (p_fresh : P .fresh = true) (p_hA : P .hA = true) (p_hB : P
    .hB = true) (p_hearths : P .hearths = true) (p_inputs : P .inputs = true) (p_lanes : P .lanes = true) (p_lp : P .lp = true) (p_msg : P .msg =
    true) (p_pol : P .pol = true) (p_thn : P .thn = true) (p_timers : P .timers = true) (p_vdm : P .vdm = true) (hW0 : Within W P s0 s) : Within W P
    s0 (State.react s a u rep) := by
  unfold State.react
  try dsimp only
  (repeat' split) <;> (try simp (maxDischargeDepth := 60) only [State.portSafe_within, State.feedDrop_within, State.hearthLossBy_within,
      State.enterLevel3_within, w00, w03, w04, w07, w08, w09, w0A, w0D, w0F, w13, w20, w21, w22, w23, w24, w26, w27, p_auth, p_boundary, p_cc,
      p_draught, p_ember, p_feeds, p_flue, p_fnd, p_fresh, p_hA, p_hB, p_hearths, p_inputs, p_lanes, p_lp, p_msg, p_pol, p_thn, p_timers, p_vdm, hW0])

theorem State.recLevel2_within {s : State} {r : FlueRecord} {rep : Report} (w00 : W 0x00 = true) (w03 : W 0x03 = true) (w04 : W 0x04 = true) (w07 : W
    0x07 = true) (w08 : W 0x08 = true) (w09 : W 0x09 = true) (w0A : W 0x0A = true) (w0D : W 0x0D = true) (w0F : W 0x0F = true) (w13 : W 0x13 = true)
    (w20 : W 0x20 = true) (w21 : W 0x21 = true) (w22 : W 0x22 = true) (w23 : W 0x23 = true) (w24 : W 0x24 = true) (w26 : W 0x26 = true) (w27 : W 0x27
    = true) (p_auth : P .auth = true) (p_boundary : P .boundary = true) (p_cc : P .cc = true) (p_draught : P .draught = true) (p_ember : P .ember =
    true) (p_feeds : P .feeds = true) (p_flue : P .flue = true) (p_fnd : P .fnd = true) (p_fresh : P .fresh = true) (p_hA : P .hA = true) (p_hB : P
    .hB = true) (p_hearths : P .hearths = true) (p_inputs : P .inputs = true) (p_lanes : P .lanes = true) (p_lp : P .lp = true) (p_msg : P .msg =
    true) (p_pol : P .pol = true) (p_thn : P .thn = true) (p_timers : P .timers = true) (p_vdm : P .vdm = true) (hW0 : Within W P s0 s) : Within W P
    s0 (State.recLevel2 s r rep) := by
  unfold State.recLevel2
  try dsimp only
  simp (maxDischargeDepth := 60) only [and_self, and_true, implies_true, within_refl, within_ite, within_mk, pageOf_lit, pageKind_lit, within_foldl,
      Nat.reduceDiv, Nat.reduceLeDiff, Nat.reduceAdd, Nat.reduceMod, if_false, true_or, or_true, State.traceTrigger_within, State.set_within,
      State.start_within, State.react_within, w00, w03, w04, w07, w08, w09, w0A, w0D, w0F, w13, w20, w21, w22, w23, w24, w26, w27, p_auth, p_boundary,
      p_cc, p_draught, p_ember, p_feeds, p_flue, p_fnd, p_fresh, p_hA, p_hB, p_hearths, p_inputs, p_lanes, p_lp, p_msg, p_pol, p_thn, p_timers, p_vdm,
      hW0]

theorem State.recMerge_within {s : State} {r : FlueRecord} {rep : Report} (w00 : W 0x00 = true) (w03 : W 0x03 = true) (w04 : W 0x04 = true) (w07 : W
    0x07 = true) (w08 : W 0x08 = true) (w09 : W 0x09 = true) (w0A : W 0x0A = true) (w0D : W 0x0D = true) (w0F : W 0x0F = true) (w13 : W 0x13 = true)
    (w20 : W 0x20 = true) (w21 : W 0x21 = true) (w22 : W 0x22 = true) (w23 : W 0x23 = true) (w24 : W 0x24 = true) (w26 : W 0x26 = true) (w27 : W 0x27
    = true) (p_auth : P .auth = true) (p_boundary : P .boundary = true) (p_cc : P .cc = true) (p_draught : P .draught = true) (p_ember : P .ember =
    true) (p_feeds : P .feeds = true) (p_flue : P .flue = true) (p_fnd : P .fnd = true) (p_fresh : P .fresh = true) (p_hA : P .hA = true) (p_hB : P
    .hB = true) (p_hearths : P .hearths = true) (p_inputs : P .inputs = true) (p_lanes : P .lanes = true) (p_lp : P .lp = true) (p_msg : P .msg =
    true) (p_pol : P .pol = true) (p_thn : P .thn = true) (p_timers : P .timers = true) (p_vdm : P .vdm = true) (hW0 : Within W P s0 s) : Within W P
    s0 (State.recMerge s r rep) := by
  unfold State.recMerge
  try dsimp only
  simp (maxDischargeDepth := 60) only [and_self, implies_true, within_ite, within_mk, true_or, or_true, State.stop_within, State.recLevel2_within,
      State.ashWrite_within, State.react_within, State.enterLevel3_within, w00, w03, w04, w07, w08, w09, w0A, w0D, w0F, w13, w20, w21, w22, w23, w24,
      w26, w27, p_auth, p_boundary, p_cc, p_draught, p_ember, p_feeds, p_flue, p_fnd, p_fresh, p_hA, p_hB, p_hearths, p_inputs, p_lanes, p_lp, p_msg,
      p_pol, p_thn, p_timers, p_vdm, hW0]

theorem State.recOpen_within {s : State} {rep : Report} (w00 : W 0x00 = true) (w03 : W 0x03 = true) (w04 : W 0x04 = true) (w07 : W 0x07 = true) (w08 :
    W 0x08 = true) (w09 : W 0x09 = true) (w0A : W 0x0A = true) (w0D : W 0x0D = true) (w0F : W 0x0F = true) (w13 : W 0x13 = true) (w20 : W 0x20 = true)
    (w21 : W 0x21 = true) (w22 : W 0x22 = true) (w23 : W 0x23 = true) (w24 : W 0x24 = true) (w26 : W 0x26 = true) (w27 : W 0x27 = true) (p_auth : P
    .auth = true) (p_boundary : P .boundary = true) (p_cc : P .cc = true) (p_draught : P .draught = true) (p_ember : P .ember = true) (p_feeds : P
    .feeds = true) (p_flue : P .flue = true) (p_fnd : P .fnd = true) (p_fresh : P .fresh = true) (p_hA : P .hA = true) (p_hB : P .hB = true)
    (p_hearths : P .hearths = true) (p_inputs : P .inputs = true) (p_lanes : P .lanes = true) (p_lp : P .lp = true) (p_msg : P .msg = true) (p_pol : P
    .pol = true) (p_thn : P .thn = true) (p_timers : P .timers = true) (p_vdm : P .vdm = true) (hW0 : Within W P s0 s) : Within W P s0 (State.recOpen
    s rep) := by
  unfold State.recOpen
  try dsimp only
  simp (maxDischargeDepth := 60) only [and_self, and_true, implies_true, within_ite, within_mk, pageOf_lit, pageKind_lit, Nat.reduceDiv,
      Nat.reduceLeDiff, Nat.reduceAdd, Nat.reduceMod, if_false, true_or, or_true, State.ashWrite_within, State.bump_within, State.set_within,
      State.enterLevel3_within, State.recLevel2_within, State.start_within, w00, w03, w04, w07, w08, w09, w0A, w0D, w0F, w13, w20, w21, w22, w23, w24,
      w26, w27, p_auth, p_boundary, p_cc, p_draught, p_ember, p_feeds, p_flue, p_fnd, p_fresh, p_hA, p_hB, p_hearths, p_inputs, p_lanes, p_lp, p_msg,
      p_pol, p_thn, p_timers, p_vdm, hW0]

theorem State.takeReport_within {s : State} {rep : Report} (w00 : W 0x00 = true) (w03 : W 0x03 = true) (w04 : W 0x04 = true) (w07 : W 0x07 = true)
    (w08 : W 0x08 = true) (w09 : W 0x09 = true) (w0A : W 0x0A = true) (w0D : W 0x0D = true) (w0F : W 0x0F = true) (w13 : W 0x13 = true) (w20 : W 0x20
    = true) (w21 : W 0x21 = true) (w22 : W 0x22 = true) (w23 : W 0x23 = true) (w24 : W 0x24 = true) (w26 : W 0x26 = true) (w27 : W 0x27 = true)
    (p_auth : P .auth = true) (p_boundary : P .boundary = true) (p_cc : P .cc = true) (p_draught : P .draught = true) (p_ember : P .ember = true)
    (p_feeds : P .feeds = true) (p_flue : P .flue = true) (p_fnd : P .fnd = true) (p_fresh : P .fresh = true) (p_hA : P .hA = true) (p_hB : P .hB =
    true) (p_hearths : P .hearths = true) (p_inputs : P .inputs = true) (p_lanes : P .lanes = true) (p_lp : P .lp = true) (p_msg : P .msg = true)
    (p_pol : P .pol = true) (p_thn : P .thn = true) (p_timers : P .timers = true) (p_vdm : P .vdm = true) (hW0 : Within W P s0 s) : Within W P s0
    (State.takeReport s rep) := by
  unfold State.takeReport
  try dsimp only
  (repeat' split) <;> (try simp (maxDischargeDepth := 60) only [and_true, pageOf_lit, pageKind_lit, Nat.reduceDiv, Nat.reduceLeDiff, Nat.reduceAdd,
      Nat.reduceMod, if_false, State.traceTrigger_within, State.set_within, State.ashWrite_within, State.recMerge_within, State.recOpen_within, w00,
      w03, w04, w07, w08, w09, w0A, w0D, w0F, w13, w20, w21, w22, w23, w24, w26, w27, p_auth, p_boundary, p_cc, p_draught, p_ember, p_feeds, p_flue,
      p_fnd, p_fresh, p_hA, p_hB, p_hearths, p_inputs, p_lanes, p_lp, p_msg, p_pol, p_thn, p_timers, p_vdm, hW0])

theorem State.flueDrain_within {s : State} (w00 : W 0x00 = true) (w03 : W 0x03 = true) (w04 : W 0x04 = true) (w07 : W 0x07 = true) (w08 : W 0x08 =
    true) (w09 : W 0x09 = true) (w0A : W 0x0A = true) (w0D : W 0x0D = true) (w0F : W 0x0F = true) (w13 : W 0x13 = true) (w20 : W 0x20 = true) (w21 : W
    0x21 = true) (w22 : W 0x22 = true) (w23 : W 0x23 = true) (w24 : W 0x24 = true) (w26 : W 0x26 = true) (w27 : W 0x27 = true) (p_auth : P .auth =
    true) (p_boundary : P .boundary = true) (p_cc : P .cc = true) (p_draught : P .draught = true) (p_ember : P .ember = true) (p_feeds : P .feeds =
    true) (p_flue : P .flue = true) (p_fnd : P .fnd = true) (p_fresh : P .fresh = true) (p_hA : P .hA = true) (p_hB : P .hB = true) (p_hearths : P
    .hearths = true) (p_inputs : P .inputs = true) (p_lanes : P .lanes = true) (p_lp : P .lp = true) (p_msg : P .msg = true) (p_pol : P .pol = true)
    (p_thn : P .thn = true) (p_timers : P .timers = true) (p_vdm : P .vdm = true) (hW0 : Within W P s0 s) : Within W P s0 (State.flueDrain s) := by
  unfold State.flueDrain
  try dsimp only
  simp (maxDischargeDepth := 60) only [implies_true, within_refl, within_mk, within_foldl, true_or, or_true, State.takeReport_within, w00, w03, w04,
      w07, w08, w09, w0A, w0D, w0F, w13, w20, w21, w22, w23, w24, w26, w27, p_auth, p_boundary, p_cc, p_draught, p_ember, p_feeds, p_flue, p_fnd,
      p_fresh, p_hA, p_hB, p_hearths, p_inputs, p_lanes, p_lp, p_msg, p_pol, p_thn, p_timers, p_vdm, hW0]

theorem State.reportNow_within {s : State} {source : Nat} (w00 : W 0x00 = true) (w03 : W 0x03 = true) (w04 : W 0x04 = true) (w07 : W 0x07 = true) (w08
    : W 0x08 = true) (w09 : W 0x09 = true) (w0A : W 0x0A = true) (w0D : W 0x0D = true) (w0F : W 0x0F = true) (w13 : W 0x13 = true) (w20 : W 0x20 =
    true) (w21 : W 0x21 = true) (w22 : W 0x22 = true) (w23 : W 0x23 = true) (w24 : W 0x24 = true) (w26 : W 0x26 = true) (w27 : W 0x27 = true) (p_auth
    : P .auth = true) (p_boundary : P .boundary = true) (p_cc : P .cc = true) (p_draught : P .draught = true) (p_ember : P .ember = true) (p_feeds : P
    .feeds = true) (p_flue : P .flue = true) (p_fnd : P .fnd = true) (p_fresh : P .fresh = true) (p_hA : P .hA = true) (p_hB : P .hB = true)
    (p_hearths : P .hearths = true) (p_inputs : P .inputs = true) (p_lanes : P .lanes = true) (p_lp : P .lp = true) (p_msg : P .msg = true) (p_pol : P
    .pol = true) (p_thn : P .thn = true) (p_timers : P .timers = true) (p_vdm : P .vdm = true) (hW0 : Within W P s0 s) : Within W P s0
    (State.reportNow s source) := by
  unfold State.reportNow
  try dsimp only
  simp (maxDischargeDepth := 60) only [State.flueDrain_within, State.report_within, w00, w03, w04, w07, w08, w09, w0A, w0D, w0F, w13, w20, w21, w22,
      w23, w24, w26, w27, p_auth, p_boundary, p_cc, p_draught, p_ember, p_feeds, p_flue, p_fnd, p_fresh, p_hA, p_hB, p_hearths, p_inputs, p_lanes,
      p_lp, p_msg, p_pol, p_thn, p_timers, p_vdm, hW0]

theorem State.portRelease_within {s : State} {n : Port} {fenced : Bool} (w0B : W 0x0B = true) (w0C : W 0x0C = true) (w0F : W 0x0F = true) (w20 : W
    0x20 = true) (w22 : W 0x22 = true) (w24 : W 0x24 = true) (w26 : W 0x26 = true) (p_boundary : P .boundary = true) (p_cc : P .cc = true) (p_flue : P
    .flue = true) (p_fnd : P .fnd = true) (p_hA : P .hA = true) (p_hB : P .hB = true) (p_lp : P .lp = true) (p_pol : P .pol = true) (p_timers : P
    .timers = true) (hW0 : Within W P s0 s) : Within W P s0 (State.portRelease s n fenced) := by
  unfold State.portRelease
  try dsimp only
  simp (maxDischargeDepth := 60) only [and_self, implies_true, within_ite, State.outputsRelease_within, State.modPol_within, State.enablePort_within,
      State.reachPoint1_within, w0B, w0C, w0F, w20, w22, w24, w26, p_boundary, p_cc, p_flue, p_fnd, p_hA, p_hB, p_lp, p_pol, p_timers, hW0]

theorem State.reactRelease_within {s : State} {r : FlueRecord} {u : Nat} (w0A : W 0x0A = true) (w0B : W 0x0B = true) (w0C : W 0x0C = true) (w0F : W
    0x0F = true) (w20 : W 0x20 = true) (w22 : W 0x22 = true) (w24 : W 0x24 = true) (w26 : W 0x26 = true) (p_boundary : P .boundary = true) (p_cc : P
    .cc = true) (p_feeds : P .feeds = true) (p_flue : P .flue = true) (p_fnd : P .fnd = true) (p_hA : P .hA = true) (p_hB : P .hB = true) (p_lp : P
    .lp = true) (p_pol : P .pol = true) (p_timers : P .timers = true) (hW0 : Within W P s0 s) : Within W P s0 (State.reactRelease s r u) := by
  unfold State.reactRelease
  try dsimp only
  (repeat' split) <;> (try simp (maxDischargeDepth := 60) only [State.enablePort_within, State.portRelease_within, State.feedRelease_within, w0A, w0B,
      w0C, w0F, w20, w22, w24, w26, p_boundary, p_cc, p_feeds, p_flue, p_fnd, p_hA, p_hB, p_lp, p_pol, p_timers, hW0])

theorem State.recClose_within {s : State} {r : FlueRecord} {kind : Nat} {master : Nat} {access : Nat} (w04 : W 0x04 = true) (w0A : W 0x0A = true) (w0B
    : W 0x0B = true) (w0C : W 0x0C = true) (w0F : W 0x0F = true) (w20 : W 0x20 = true) (w22 : W 0x22 = true) (w24 : W 0x24 = true) (w26 : W 0x26 =
    true) (p_auth : P .auth = true) (p_boundary : P .boundary = true) (p_cc : P .cc = true) (p_draught : P .draught = true) (p_feeds : P .feeds =
    true) (p_flue : P .flue = true) (p_fnd : P .fnd = true) (p_hA : P .hA = true) (p_hB : P .hB = true) (p_hearths : P .hearths = true) (p_inputs : P
    .inputs = true) (p_lanes : P .lanes = true) (p_lp : P .lp = true) (p_msg : P .msg = true) (p_pol : P .pol = true) (p_thn : P .thn = true)
    (p_timers : P .timers = true) (p_vdm : P .vdm = true) (hW0 : Within W P s0 s) : Within W P s0 (State.recClose s r kind master access) := by
  unfold State.recClose
  try dsimp only
  simp (maxDischargeDepth := 60) only [and_self, implies_true, within_refl, within_ite, within_mk, within_foldl, true_or, or_true,
      State.ashWrite_within, State.stop_within, State.reactRelease_within, w04, w0A, w0B, w0C, w0F, w20, w22, w24, w26, p_auth, p_boundary, p_cc,
      p_draught, p_feeds, p_flue, p_fnd, p_hA, p_hB, p_hearths, p_inputs, p_lanes, p_lp, p_msg, p_pol, p_thn, p_timers, p_vdm, hW0]

theorem State.hearthLoss_within {s : State} {h : Hth} {c : LossCause} {output : Nat} {port : Nat} (w00 : W 0x00 = true) (w03 : W 0x03 = true) (w04 : W
    0x04 = true) (w07 : W 0x07 = true) (w08 : W 0x08 = true) (w09 : W 0x09 = true) (w0D : W 0x0D = true) (w0F : W 0x0F = true) (w13 : W 0x13 = true)
    (w20 : W 0x20 = true) (w21 : W 0x21 = true) (w22 : W 0x22 = true) (w23 : W 0x23 = true) (w24 : W 0x24 = true) (w26 : W 0x26 = true) (w27 : W 0x27
    = true) (p_auth : P .auth = true) (p_boundary : P .boundary = true) (p_cc : P .cc = true) (p_draught : P .draught = true) (p_ember : P .ember =
    true) (p_flue : P .flue = true) (p_fnd : P .fnd = true) (p_fresh : P .fresh = true) (p_hA : P .hA = true) (p_hB : P .hB = true) (p_hearths : P
    .hearths = true) (p_inputs : P .inputs = true) (p_lanes : P .lanes = true) (p_lp : P .lp = true) (p_msg : P .msg = true) (p_pol : P .pol = true)
    (p_thn : P .thn = true) (p_timers : P .timers = true) (p_vdm : P .vdm = true) (hW0 : Within W P s0 s) : Within W P s0 (State.hearthLoss s h c
    output port) := by
  unfold State.hearthLoss
  try dsimp only
  simp (maxDischargeDepth := 60) only [State.hearthLossBy_within, w00, w03, w04, w07, w08, w09, w0D, w0F, w13, w20, w21, w22, w23, w24, w26, w27,
      p_auth, p_boundary, p_cc, p_draught, p_ember, p_flue, p_fnd, p_fresh, p_hA, p_hB, p_hearths, p_inputs, p_lanes, p_lp, p_msg, p_pol, p_thn,
      p_timers, p_vdm, hW0]

end Sys2Proof.Machine
end

