-- ==== Sys2Proof/Laws/WithinHearths.lean ====
section
/-! SUPPORT. What each operation and command of the hearths, the vote and the time base can change at most (`Within`): the pages and parts its
hypotheses name. -/

namespace Sys2Proof.Machine
variable {W : Nat → Bool} {P : Part → Bool} {s0 : State}
set_option linter.unusedVariables false

/-! ### Hearths -/

theorem State.copyRegs_within {s : State} {c d : Nat} {p : Nat → Bool} (wAll : ∀ p, W p = true) (hW0 : Within W P s0 s) :
    Within W P s0 (s.copyRegs c d p) := by
  have sub : ∀ (m : List (Nat × Word)) (x : Nat × Word), x ∈ regsDrop d p m → x ∈ m := by
    intro m
    induction m with
    | nil => exact fun x h => h
    | cons q l ih =>
      intro x h
      unfold regsDrop at h
      split at h
      · exact List.mem_cons_of_mem _ (ih x h)
      · rcases List.mem_cons.mp h with e | e
        · exact e ▸ List.mem_cons_self ..
        · exact List.mem_cons_of_mem _ (ih x e)
  have drop : ∀ m : List (Nat × Word), sparseWf regDefault m = true → sparseWf regDefault (regsDrop d p m) = true := by
    intro m
    induction m with
    | nil => exact id
    | cons q l ih =>
      intro h
      unfold regsDrop
      split
      · exact ih ((sparseWf_cons _ _ _).mp h).2.2
      · have g := (sparseWf_cons _ _ _).mp h
        refine (sparseWf_cons _ _ _).mpr ⟨g.1, fun x hx => g.2.1 x (sub l x hx), ih g.2.2⟩
  have pour : ∀ (l m : List (Nat × Word)), sparseWf regDefault m = true → sparseWf regDefault (regsPour c d p l m) = true := by
    intro l
    induction l with
    | nil => exact fun m h => h
    | cons q l ih =>
      intro m h
      unfold regsPour
      refine ih _ ?_
      split
      · exact sparseWrite_wf _ _ _ _ h
      · exact h
  refine hW0.trans ⟨fun a k _ hw => ?_, fun q _ => by cases q <;> rfl, rfl, fun g => pour _ _ (drop _ g)⟩
  rw [wAll] at hw; cases hw

theorem State.copyDynamic_within {s : State} {src : Hth} {dst : Hth} (wAll : ∀ p, W p = true) (p_hA : P .hA = true) (p_hB : P .hB = true) (hW0 :
    Within W P s0 s) : Within W P s0 (State.copyDynamic s src dst) := by
  unfold State.copyDynamic
  try dsimp only
  simp (maxDischargeDepth := 60) only [implies_true, State.putHearth_within, State.copyRegs_within, wAll, p_hA, p_hB, hW0]

theorem State.aliveHold_within {s : State} {done : Bool} (p_ember : P .ember = true) (p_fresh : P .fresh = true) (hW0 : Within W P s0 s) : Within W P
    s0 (State.aliveHold s done) := by
  unfold State.aliveHold
  try dsimp only
  simp (maxDischargeDepth := 60) only [and_self, implies_true, within_ite, within_mk, true_or, or_true, p_ember, p_fresh, hW0]

theorem State.copyWait_within {s : State} {w : CopyWait} (p_hearths : P .hearths = true) (hW0 : Within W P s0 s) : Within W P s0 (State.copyWait s w)
    := by
  unfold State.copyWait
  try dsimp only
  simp (maxDischargeDepth := 60) only [within_mk, true_or, or_true, p_hearths, hW0]

theorem State.copyPorts_within {s : State} {src : Hth} {dst : Hth} (wAll : ∀ p, W p = true) (hW0 : Within W P s0 s) : Within W P s0 (State.copyPorts s
    src dst) := by
  unfold State.copyPorts
  try dsimp only
  simp (maxDischargeDepth := 60) only [implies_true, within_refl, within_foldl, State.copyRegs_within, wAll, hW0]

theorem State.copyRun_within {s : State} {f : State → Hth → Hth → State} (hf : ∀ t a b, Within W P t (f t a b)) (wAll : ∀ p, W p = true)
    (hW0 : Within W P s0 s) : Within W P s0 (s.copyRun f) := by
  unfold State.copyRun
  extract_lets src
  split
  · exact hW0
  · exact State.copyPorts_within wAll (State.copyPorts_within wAll hW0)
  · exact State.copyPorts_within wAll hW0
  · exact hW0.trans (hf _ _ _)

theorem State.copyBulk_within {s : State} {src : Hth} {dst : Hth} (wAll : ∀ p, W p = true) (p_hA : P .hA = true) (p_hB : P .hB = true) (hW0 : Within W
    P s0 s) : Within W P s0 (State.copyBulk s src dst) := by
  unfold State.copyBulk
  try dsimp only
  simp (maxDischargeDepth := 60) only [implies_true, State.putHearth_within, State.copyRegs_within, wAll, p_hA, p_hB, hW0]

theorem execCopyBulkDone_within {s : State} (wAll : ∀ p, W p = true) (p_fresh : P .fresh = true) (p_hA : P .hA = true) (p_hB : P .hB = true)
    (p_hearths : P .hearths = true) {t : State} (e : execCopyBulkDone s = .next t) : Within W P s t := by
  unfold execCopyBulkDone at e
  try dsimp only at e
  cases e
  simp (maxDischargeDepth := 60) only [and_self, and_true, implies_true, within_refl, within_ite, within_mk, pageOf_lit, pageKind_lit, Nat.reduceDiv,
      Nat.reduceLeDiff, Nat.reduceAdd, Nat.reduceMod, if_false, true_or, or_true, State.copyWait_within, State.set_within, State.copyRun_within,
      State.copyBulk_within, wAll, p_fresh, p_hA, p_hB, p_hearths]

theorem State.hthRefuse_within {s : State} (w0D : W 0x0D = true) (p_flue : P .flue = true) (hW0 : Within W P s0 s) : Within W P s0 (State.hthRefuse s)
    := by
  unfold State.hthRefuse
  try dsimp only
  simp (maxDischargeDepth := 60) only [and_true, pageOf_lit, pageKind_lit, Nat.reduceDiv, Nat.reduceLeDiff, Nat.reduceAdd, Nat.reduceMod, if_false,
      State.eventHost_within, w0D, p_flue, hW0]

theorem State.cmdFence_within {s : State} {key : Bool} {arg : Nat} (w00 : W 0x00 = true) (w03 : W 0x03 = true) (w04 : W 0x04 = true) (w07 : W 0x07 =
    true) (w08 : W 0x08 = true) (w09 : W 0x09 = true) (w0D : W 0x0D = true) (w0F : W 0x0F = true) (w13 : W 0x13 = true) (w20 : W 0x20 = true) (w21 : W
    0x21 = true) (w22 : W 0x22 = true) (w23 : W 0x23 = true) (w24 : W 0x24 = true) (w26 : W 0x26 = true) (w27 : W 0x27 = true) (p_auth : P .auth =
    true) (p_boundary : P .boundary = true) (p_cc : P .cc = true) (p_draught : P .draught = true) (p_ember : P .ember = true) (p_flue : P .flue =
    true) (p_fnd : P .fnd = true) (p_fresh : P .fresh = true) (p_hA : P .hA = true) (p_hB : P .hB = true) (p_hearths : P .hearths = true) (p_inputs :
    P .inputs = true) (p_lanes : P .lanes = true) (p_lp : P .lp = true) (p_msg : P .msg = true) (p_pol : P .pol = true) (p_thn : P .thn = true)
    (p_timers : P .timers = true) (p_vdm : P .vdm = true) (hW0 : Within W P s0 s) : Within W P s0 (State.cmdFence s key arg) := by
  unfold State.cmdFence
  try dsimp only
  simp (maxDischargeDepth := 60) only [and_self, implies_true, within_ite, State.hearthLossBy_within, State.hthRefuse_within, w00, w03, w04, w07, w08,
      w09, w0D, w0F, w13, w20, w21, w22, w23, w24, w26, w27, p_auth, p_boundary, p_cc, p_draught, p_ember, p_flue, p_fnd, p_fresh, p_hA, p_hB,
      p_hearths, p_inputs, p_lanes, p_lp, p_msg, p_pol, p_thn, p_timers, p_vdm, hW0]

theorem State.copyBegin_within {s : State} {goal : CopyGoal} {src : Hth} {phase : Nat} {copying : Bool} (w0D : W 0x0D = true) (w0E : W 0x0E = true)
    (p_hearths : P .hearths = true) (hW0 : Within W P s0 s) : Within W P s0 (State.copyBegin s goal src phase copying) := by
  unfold State.copyBegin
  try dsimp only
  (repeat' split) <;> (try simp (maxDischargeDepth := 60) only [and_true, within_mk, pageOf_lit, pageKind_lit, Nat.reduceDiv, Nat.reduceLeDiff,
      Nat.reduceAdd, Nat.reduceMod, if_false, true_or, or_true, State.set_within, State.roleBump_within, State.setRail_within, State.setRole_within,
      w0D, w0E, p_hearths, hW0])

theorem State.modeStart_within {s : State} {m : HMode} {x : Hth} (w0D : W 0x0D = true) (w0E : W 0x0E = true) (p_hearths : P .hearths = true) (hW0 :
    Within W P s0 s) : Within W P s0 (State.modeStart s m x) := by
  unfold State.modeStart
  try dsimp only
  (repeat' split) <;> (try simp (maxDischargeDepth := 60) only [within_mk, true_or, or_true, State.copyBegin_within, w0D, w0E, p_hearths, hW0])

theorem State.copyRevert_within {s : State} (w0D : W 0x0D = true) (w0E : W 0x0E = true) (p_hearths : P .hearths = true) (hW0 : Within W P s0 s) :
    Within W P s0 (State.copyRevert s) := by
  unfold State.copyRevert
  try dsimp only
  (repeat' split) <;> (try simp (maxDischargeDepth := 60) only [State.roleBump_within, State.setRole_within, State.setRail_within, w0D, w0E,
      p_hearths, hW0])

theorem State.copyFail_within {s : State} (w0D : W 0x0D = true) (w0E : W 0x0E = true) (p_flue : P .flue = true) (p_hearths : P .hearths = true)
    (p_timers : P .timers = true) (hW0 : Within W P s0 s) : Within W P s0 (State.copyFail s) := by
  unfold State.copyFail
  try dsimp only
  simp (maxDischargeDepth := 60) only [and_self, and_true, implies_true, within_ite, within_mk, pageOf_lit, pageKind_lit, Nat.reduceDiv,
      Nat.reduceLeDiff, Nat.reduceAdd, Nat.reduceMod, if_false, true_or, or_true, State.stop_within, State.event_within, State.set_within,
      State.copyRevert_within, w0D, w0E, p_flue, p_hearths, p_timers, hW0]

theorem execKnownAnswerCheck_within {h : Hth} {idle : Bool} {good : Bool} {s : State} (w00 : W 0x00 = true) (w03 : W 0x03 = true) (w04 : W 0x04 =
    true) (w07 : W 0x07 = true) (w08 : W 0x08 = true) (w09 : W 0x09 = true) (w0D : W 0x0D = true) (w0E : W 0x0E = true) (w0F : W 0x0F = true) (w13 : W
    0x13 = true) (w20 : W 0x20 = true) (w21 : W 0x21 = true) (w22 : W 0x22 = true) (w23 : W 0x23 = true) (w24 : W 0x24 = true) (w26 : W 0x26 = true)
    (w27 : W 0x27 = true) (w64 : W 0x64 = true) (w6A : W 0x6A = true) (p_auth : P .auth = true) (p_boundary : P .boundary = true) (p_cc : P .cc =
    true) (p_draught : P .draught = true) (p_ember : P .ember = true) (p_flue : P .flue = true) (p_fnd : P .fnd = true) (p_fresh : P .fresh = true)
    (p_hA : P .hA = true) (p_hB : P .hB = true) (p_hearths : P .hearths = true) (p_inputs : P .inputs = true) (p_lanes : P .lanes = true) (p_lp : P
    .lp = true) (p_msg : P .msg = true) (p_pol : P .pol = true) (p_thn : P .thn = true) (p_timers : P .timers = true) (p_vdm : P .vdm = true) {t :
    State} (e : execKnownAnswerCheck h idle good s = .next t) : Within W P s t := by
  unfold execKnownAnswerCheck at e
  try dsimp only at e
  cases e
  simp (maxDischargeDepth := 60) only [and_self, implies_true, within_refl, within_ite, pageOf_add, pageKind_dbg, dbg_pages, Nat.reduceAdd,
      Nat.reduceLT, State.bumpSat_within, State.report_within, State.copyFail_within, State.hearthLoss_within, w00, w03, w04, w07, w08, w09, w0D, w0E,
      w0F, w13, w20, w21, w22, w23, w24, w26, w27, w64, w6A, p_auth, p_boundary, p_cc, p_draught, p_ember, p_flue, p_fnd, p_fresh, p_hA, p_hB,
      p_hearths, p_inputs, p_lanes, p_lp, p_msg, p_pol, p_thn, p_timers, p_vdm]

theorem State.exchangeRoles_within {s : State} (w0D : W 0x0D = true) (p_hearths : P .hearths = true) (hW0 : Within W P s0 s) : Within W P s0
    (State.exchangeRoles s) := by
  unfold State.exchangeRoles
  try dsimp only
  simp (maxDischargeDepth := 60) only [and_self, implies_true, within_ite, within_mk, true_or, or_true, State.roleBump_within, w0D, p_hearths, hW0]

theorem State.takeRoles_within {s : State} {m : HMode} {x : Hth} (w0D : W 0x0D = true) (w0E : W 0x0E = true) (p_hearths : P .hearths = true) (hW0 :
    Within W P s0 s) : Within W P s0 (State.takeRoles s m x) := by
  unfold State.takeRoles
  try dsimp only
  (repeat' split) <;> (try simp (maxDischargeDepth := 60) only [within_mk, true_or, or_true, State.setRole_within, State.setRail_within, w0D, w0E,
      p_hearths, hW0])

theorem State.hthControl_within {s : State} {epoch : BitVec 8} {act : State → Bool → State} (hf : ∀ t k, Within W P t (act t k))
    (w04 : W 0x04 = true) (w0D : W 0x0D = true) (p_flue : P .flue = true) (hW0 : Within W P s0 s) :
    Within W P s0 (s.hthControl epoch act) := by
  unfold State.hthControl
  split
  · exact (State.set_within _ _ w0D hW0).trans (hf _ _)
  · simp (maxDischargeDepth := 60) only [State.soot_within, State.eventHost_within, State.set_within, pageOf_lit, pageKind_lit, Nat.reduceDiv,
      Nat.reduceLT, Nat.reduceLeDiff, false_and, if_false, w04, w0D, p_flue, hW0]

theorem State.cmdReadmit_within {s : State} {key : Bool} (w0D : W 0x0D = true) (w0E : W 0x0E = true) (p_flue : P .flue = true) (p_hearths : P .hearths
    = true) (hW0 : Within W P s0 s) : Within W P s0 (State.cmdReadmit s key) := by
  unfold State.cmdReadmit
  try dsimp only
  simp (maxDischargeDepth := 60) only [and_self, implies_true, within_ite, State.copyBegin_within, State.hthRefuse_within, w0D, w0E, p_flue,
      p_hearths, hW0]

theorem State.cmdExchange_within {s : State} (w0D : W 0x0D = true) (p_flue : P .flue = true) (p_hearths : P .hearths = true) (hW0 : Within W P s0 s) :
    Within W P s0 (State.cmdExchange s) := by
  unfold State.cmdExchange
  try dsimp only
  simp (maxDischargeDepth := 60) only [and_self, implies_true, within_ite, within_mk, true_or, or_true, State.hthRefuse_within, w0D, p_flue,
      p_hearths, hW0]

theorem State.cmdPowerOff_within {s : State} (w0D : W 0x0D = true) (p_flue : P .flue = true) (p_hearths : P .hearths = true) (hW0 : Within W P s0 s) :
    Within W P s0 (State.cmdPowerOff s) := by
  unfold State.cmdPowerOff
  try dsimp only
  simp (maxDischargeDepth := 60) only [and_self, implies_true, within_ite, within_mk, true_or, or_true, State.hthRefuse_within, w0D, p_flue,
      p_hearths, hW0]

theorem State.railStart_within {s : State} {h : Hth} (w0D : W 0x0D = true) (w0E : W 0x0E = true) (p_hearths : P .hearths = true) (hW0 : Within W P s0
    s) : Within W P s0 (State.railStart s h) := by
  unfold State.railStart
  try dsimp only
  (repeat' split) <;> (try simp (maxDischargeDepth := 60) only [within_mk, true_or, or_true, State.setRail_within, w0D, w0E, p_hearths, hW0])

theorem State.selfcheckFail_within {s : State} {h : Hth} (w0D : W 0x0D = true) (p_flue : P .flue = true) (hW0 : Within W P s0 s) : Within W P s0
    (State.selfcheckFail s h) := by
  unfold State.selfcheckFail
  try dsimp only
  (repeat' split) <;> (try simp (maxDischargeDepth := 60) only [and_true, pageOf_lit, pageKind_lit, Nat.reduceDiv, Nat.reduceLeDiff, Nat.reduceAdd,
      Nat.reduceMod, if_false, State.set_within, State.report_within, w0D, p_flue, hW0])

theorem State.resetHearthContent_within {s : State} {h : Hth} {pass : Bool} (wAll : ∀ p, W p = true) (p_apart : P .apart = true) (p_flue : P .flue =
    true) (p_hA : P .hA = true) (p_hB : P .hB = true) (p_otp : P .otp = true) (hW0 : Within W P s0 s) :
    Within W P s0 (s.resetHearthContent h pass) := by
  have b : ∀ t : State, Within W P t { t with regs := regsRestore t.regs [hthCopy h] (hearthResetWord t.regs) t.regs } := fun t =>
    { pages := fun _ _ _ hw => by rw [wAll] at hw; cases hw
      parts := fun q _ => by cases q <;> rfl
      queue := rfl
      wf := fun g => regsRestore_wf _ _ _ _ g }
  unfold State.resetHearthContent
  extract_lets t1 t2 t3 t4
  have a : Within W P s0 t1 := State.putHearth_within p_hA p_hB hW0
  have c : Within W P s0 t2 := by
    simp only [t2]
    split
    · simp only [within_mk, a, p_apart, true_or, or_true]
    · exact a
  have d : Within W P s0 t3 := c.trans (b t2)
  have g : Within W P s0 t4 := by
    simp only [t4]
    split
    · exact State.setIn_within (wAll _) d
    · exact d
  split
  · exact State.loadSeeds_within (wAll _) (wAll _) (wAll _) (wAll _) p_flue p_hA p_hB (State.keyCheckIn_within (wAll _) p_flue p_otp g)
  · apply State.selfcheckFail_within <;> first | assumption | exact wAll _

theorem State.resetPortHidden_within {s : State} {n : Port} (w04 : W 0x04 = true) (w20 : W 0x20 = true) (w21 : W 0x21 = true) (p_auth : P .auth =
    true) (p_boundary : P .boundary = true) (p_cc : P .cc = true) (p_draught : P .draught = true) (p_flue : P .flue = true) (p_fnd : P .fnd = true)
    (p_inputs : P .inputs = true) (p_lp : P .lp = true) (p_msg : P .msg = true) (p_pol : P .pol = true) (p_thn : P .thn = true) (p_timers : P .timers
    = true) (p_vdm : P .vdm = true) (hW0 : Within W P s0 s) : Within W P s0 (State.resetPortHidden s n) := by
  unfold State.resetPortHidden
  try dsimp only
  simp (maxDischargeDepth := 60) only [within_mk, true_or, or_true, State.policyTimersStop_within, State.rxStop_within, State.txSilence_within,
      State.stop_within, w04, w20, w21, p_auth, p_boundary, p_cc, p_draught, p_flue, p_fnd, p_inputs, p_lp, p_msg, p_pol, p_thn, p_timers, p_vdm, hW0]

theorem State.restartPort_within {s : State} {n : Port} (w0B : W 0x0B = true) (w0C : W 0x0C = true) (w0F : W 0x0F = true) (w20 : W 0x20 = true) (w21 :
    W 0x21 = true) (w22 : W 0x22 = true) (w23 : W 0x23 = true) (w26 : W 0x26 = true) (p_boundary : P .boundary = true) (p_cc : P .cc = true) (p_flue :
    P .flue = true) (p_hA : P .hA = true) (p_hB : P .hB = true) (p_msg : P .msg = true) (p_pol : P .pol = true) (p_timers : P .timers = true) (p_vdm :
    P .vdm = true) (hW0 : Within W P s0 s) : Within W P s0 (State.restartPort s n) := by
  unfold State.restartPort
  try dsimp only
  simp (maxDischargeDepth := 60) only [State.lexActivatePort_within, State.enablePort_within, State.modPol_within, w0B, w0C, w0F, w20, w21, w22, w23,
      w26, p_boundary, p_cc, p_flue, p_hA, p_hB, p_msg, p_pol, p_timers, p_vdm, hW0]

theorem State.heldEnter_within {s : State} (w06 : W 0x06 = true) (p_ember : P .ember = true) (hW0 : Within W P s0 s) : Within W P s0 (State.heldEnter
    s) := by
  unfold State.heldEnter
  try dsimp only
  simp (maxDischargeDepth := 60) only [and_true, within_mk, pageOf_lit, pageKind_lit, Nat.reduceDiv, Nat.reduceLeDiff, Nat.reduceAdd, Nat.reduceMod,
      if_false, true_or, or_true, State.set_within, w06, p_ember, hW0]

theorem State.resetFailed_within {s : State} {h : Hth} {own : List Port} {enabled : List Port} {passOther : Bool} (wAll : ∀ p, W p = true) (p_apart :
    P .apart = true) (p_boundary : P .boundary = true) (p_cc : P .cc = true) (p_ember : P .ember = true) (p_flue : P .flue = true) (p_hA : P .hA =
    true) (p_hB : P .hB = true) (p_hearths : P .hearths = true) (p_msg : P .msg = true) (p_otp : P .otp = true) (p_pol : P .pol = true) (p_timers : P
    .timers = true) (p_vdm : P .vdm = true) (hW0 : Within W P s0 s) : Within W P s0 (State.resetFailed s h own enabled passOther) := by
  unfold State.resetFailed
  try dsimp only
  (repeat' split) <;> (try simp (maxDischargeDepth := 60) only [implies_true, within_refl, within_mk, within_foldl, true_or, or_true,
      State.roleBump_within, State.setRole_within, State.heldEnter_within, State.setRail_within, State.restartPort_within,
      State.resetHearthContent_within, State.selfcheckFail_within, wAll, p_apart, p_boundary, p_cc, p_ember, p_flue, p_hA, p_hB, p_hearths, p_msg,
      p_otp, p_pol, p_timers, p_vdm, hW0])

theorem State.soleReset_within {s : State} {h : Hth} {pass : Bool} {passOther : Bool} (wAll : ∀ p, W p = true) (p_apart : P .apart = true) (p_auth : P
    .auth = true) (p_boundary : P .boundary = true) (p_cc : P .cc = true) (p_draught : P .draught = true) (p_ember : P .ember = true) (p_flue : P
    .flue = true) (p_fnd : P .fnd = true) (p_fresh : P .fresh = true) (p_hA : P .hA = true) (p_hB : P .hB = true) (p_hearths : P .hearths = true)
    (p_inputs : P .inputs = true) (p_lanes : P .lanes = true) (p_lp : P .lp = true) (p_msg : P .msg = true) (p_otp : P .otp = true) (p_pol : P .pol =
    true) (p_thn : P .thn = true) (p_timers : P .timers = true) (p_vdm : P .vdm = true) (hW0 : Within W P s0 s) : Within W P s0 (State.soleReset s h
    pass passOther) := by
  unfold State.soleReset
  try dsimp only
  simp (maxDischargeDepth := 60) only [and_self, implies_true, within_refl, within_ite, within_mk, within_foldl, true_or, or_true,
      State.portSafe_within, State.resetHearthContent_within, State.resetPortHidden_within, State.restartPort_within, State.resetFailed_within, wAll,
      p_apart, p_auth, p_boundary, p_cc, p_draught, p_ember, p_flue, p_fnd, p_fresh, p_hA, p_hB, p_hearths, p_inputs, p_lanes, p_lp, p_msg, p_otp,
      p_pol, p_thn, p_timers, p_vdm, hW0]

theorem State.hearthReset_within {s : State} {h : Hth} {pass : Bool} {passOther : Bool} (wAll : ∀ p, W p = true) (p_apart : P .apart = true) (p_auth :
    P .auth = true) (p_boundary : P .boundary = true) (p_cc : P .cc = true) (p_draught : P .draught = true) (p_ember : P .ember = true) (p_flue : P
    .flue = true) (p_fnd : P .fnd = true) (p_fresh : P .fresh = true) (p_hA : P .hA = true) (p_hB : P .hB = true) (p_hearths : P .hearths = true)
    (p_inputs : P .inputs = true) (p_lanes : P .lanes = true) (p_lp : P .lp = true) (p_msg : P .msg = true) (p_otp : P .otp = true) (p_pol : P .pol =
    true) (p_thn : P .thn = true) (p_timers : P .timers = true) (p_vdm : P .vdm = true) (hW0 : Within W P s0 s) : Within W P s0 (State.hearthReset s h
    pass passOther) := by
  unfold State.hearthReset
  try dsimp only
  simp (maxDischargeDepth := 60) only [and_self, and_true, implies_true, within_ite, pageOf_lit, pageKind_lit, Nat.reduceDiv, Nat.reduceLeDiff,
      Nat.reduceAdd, Nat.reduceMod, if_false, State.set_within, State.railStart_within, State.resetHearthContent_within, State.hearthLossBy_within,
      State.soleReset_within, State.aliveHold_within, wAll, p_apart, p_auth, p_boundary, p_cc, p_draught, p_ember, p_flue, p_fnd, p_fresh, p_hA, p_hB,
      p_hearths, p_inputs, p_lanes, p_lp, p_msg, p_otp, p_pol, p_thn, p_timers, p_vdm, hW0]

theorem State.hearthResetCmd_within {s : State} {key : Bool} {h : Hth} {pass : Bool} {passOther : Bool} (wAll : ∀ p, W p = true) (p_apart : P .apart =
    true) (p_auth : P .auth = true) (p_boundary : P .boundary = true) (p_cc : P .cc = true) (p_draught : P .draught = true) (p_ember : P .ember =
    true) (p_flue : P .flue = true) (p_fnd : P .fnd = true) (p_fresh : P .fresh = true) (p_hA : P .hA = true) (p_hB : P .hB = true) (p_hearths : P
    .hearths = true) (p_inputs : P .inputs = true) (p_lanes : P .lanes = true) (p_lp : P .lp = true) (p_msg : P .msg = true) (p_otp : P .otp = true)
    (p_pol : P .pol = true) (p_thn : P .thn = true) (p_timers : P .timers = true) (p_vdm : P .vdm = true) (hW0 : Within W P s0 s) : Within W P s0
    (State.hearthResetCmd s key h pass passOther) := by
  unfold State.hearthResetCmd
  try dsimp only
  simp (maxDischargeDepth := 60) only [and_self, implies_true, within_ite, State.hearthReset_within, State.hthRefuse_within, wAll, p_apart, p_auth,
      p_boundary, p_cc, p_draught, p_ember, p_flue, p_fnd, p_fresh, p_hA, p_hB, p_hearths, p_inputs, p_lanes, p_lp, p_msg, p_otp, p_pol, p_thn,
      p_timers, p_vdm, hW0]

theorem State.hearthResetBit_within {s : State} {key : Bool} {h : Hth} (wAll : ∀ p, W p = true) (p_apart : P .apart = true) (p_auth : P .auth = true)
    (p_boundary : P .boundary = true) (p_cc : P .cc = true) (p_draught : P .draught = true) (p_ember : P .ember = true) (p_flue : P .flue = true)
    (p_fnd : P .fnd = true) (p_fresh : P .fresh = true) (p_hA : P .hA = true) (p_hB : P .hB = true) (p_hearths : P .hearths = true) (p_inputs : P
    .inputs = true) (p_lanes : P .lanes = true) (p_lp : P .lp = true) (p_msg : P .msg = true) (p_otp : P .otp = true) (p_pol : P .pol = true) (p_thn :
    P .thn = true) (p_timers : P .timers = true) (p_vdm : P .vdm = true) (hW0 : Within W P s0 s) : Within W P s0 (State.hearthResetBit s key h) := by
  unfold State.hearthResetBit
  try dsimp only
  simp (maxDischargeDepth := 60) only [implies_true, within_mk, true_or, or_true, State.hearthResetCmd_within, wAll, p_apart, p_auth, p_boundary,
      p_cc, p_draught, p_ember, p_flue, p_fnd, p_fresh, p_hA, p_hB, p_hearths, p_inputs, p_lanes, p_lp, p_msg, p_otp, p_pol, p_thn, p_timers, p_vdm,
      hW0]

theorem State.hthControlWrite_within {s : State} {v : Word} (wAll : ∀ p, W p = true) (p_apart : P .apart = true) (p_auth : P .auth = true) (p_boundary
    : P .boundary = true) (p_cc : P .cc = true) (p_draught : P .draught = true) (p_ember : P .ember = true) (p_flue : P .flue = true) (p_fnd : P .fnd
    = true) (p_fresh : P .fresh = true) (p_hA : P .hA = true) (p_hB : P .hB = true) (p_hearths : P .hearths = true) (p_inputs : P .inputs = true)
    (p_lanes : P .lanes = true) (p_lp : P .lp = true) (p_msg : P .msg = true) (p_otp : P .otp = true) (p_pol : P .pol = true) (p_thn : P .thn = true)
    (p_timers : P .timers = true) (p_vdm : P .vdm = true) (hW0 : Within W P s0 s) : Within W P s0 (State.hthControlWrite s v) := by
  unfold State.hthControlWrite
  try dsimp only
  (repeat' split) <;> (try simp (maxDischargeDepth := 60) only [implies_true, within_refl, State.hthControl_within, State.cmdReadmit_within,
      State.cmdExchange_within, State.cmdPowerOff_within, State.cmdFence_within, State.hthRefuse_within, State.hearthResetBit_within, wAll, p_apart,
      p_auth, p_boundary, p_cc, p_draught, p_ember, p_flue, p_fnd, p_fresh, p_hA, p_hB, p_hearths, p_inputs, p_lanes, p_lp, p_msg, p_otp, p_pol,
      p_thn, p_timers, p_vdm, hW0])

theorem State.closeHearthRecord_within {s : State} {h : Hth} (w04 : W 0x04 = true) (w0A : W 0x0A = true) (w0B : W 0x0B = true) (w0C : W 0x0C = true)
    (w0F : W 0x0F = true) (w20 : W 0x20 = true) (w22 : W 0x22 = true) (w24 : W 0x24 = true) (w26 : W 0x26 = true) (p_auth : P .auth = true)
    (p_boundary : P .boundary = true) (p_cc : P .cc = true) (p_draught : P .draught = true) (p_feeds : P .feeds = true) (p_flue : P .flue = true)
    (p_fnd : P .fnd = true) (p_hA : P .hA = true) (p_hB : P .hB = true) (p_hearths : P .hearths = true) (p_inputs : P .inputs = true) (p_lanes : P
    .lanes = true) (p_lp : P .lp = true) (p_msg : P .msg = true) (p_pol : P .pol = true) (p_thn : P .thn = true) (p_timers : P .timers = true) (p_vdm
    : P .vdm = true) (hW0 : Within W P s0 s) : Within W P s0 (State.closeHearthRecord s h) := by
  unfold State.closeHearthRecord
  try dsimp only
  (repeat' split) <;> (try simp (maxDischargeDepth := 60) only [State.recClose_within, w04, w0A, w0B, w0C, w0F, w20, w22, w24, w26, p_auth,
      p_boundary, p_cc, p_draught, p_feeds, p_flue, p_fnd, p_hA, p_hB, p_hearths, p_inputs, p_lanes, p_lp, p_msg, p_pol, p_thn, p_timers, p_vdm, hW0])

theorem execHearthReset_within {epoch : BitVec 8} {check : HearthCheck} {s : State} (wAll : ∀ p, W p = true) (p_apart : P .apart = true) (p_auth : P
    .auth = true) (p_boundary : P .boundary = true) (p_cc : P .cc = true) (p_draught : P .draught = true) (p_ember : P .ember = true) (p_flue : P
    .flue = true) (p_fnd : P .fnd = true) (p_fresh : P .fresh = true) (p_hA : P .hA = true) (p_hB : P .hB = true) (p_hearths : P .hearths = true)
    (p_inputs : P .inputs = true) (p_lanes : P .lanes = true) (p_lp : P .lp = true) (p_msg : P .msg = true) (p_otp : P .otp = true) (p_pol : P .pol =
    true) (p_thn : P .thn = true) (p_timers : P .timers = true) (p_vdm : P .vdm = true) {t : State} (e : execHearthReset epoch check s = .next t) :
    Within W P s t := by
  unfold execHearthReset at e
  try dsimp only at e
  cases e
  simp (maxDischargeDepth := 60) only [implies_true, within_refl, State.answered_within, State.hthControl_within, State.hearthResetCmd_within, wAll,
      p_apart, p_auth, p_boundary, p_cc, p_draught, p_ember, p_flue, p_fnd, p_fresh, p_hA, p_hB, p_hearths, p_inputs, p_lanes, p_lp, p_msg, p_otp,
      p_pol, p_thn, p_timers, p_vdm]

theorem execCopySnapshot_within {s : State} (wAll : ∀ p, W p = true) (p_apart : P .apart = true) (p_hA : P .hA = true) (p_hB : P .hB = true)
    (p_hearths : P .hearths = true) {t : State} (e : execCopySnapshot s = .next t) : Within W P s t := by
  unfold execCopySnapshot at e
  try dsimp only at e
  cases e
  simp (maxDischargeDepth := 60) only [and_self, and_true, implies_true, within_refl, within_ite, within_mk, pageOf_lit, pageKind_lit, Nat.reduceDiv,
      Nat.reduceLeDiff, Nat.reduceAdd, Nat.reduceMod, if_false, true_or, or_true, State.copyWait_within, State.set_within, State.copyRun_within,
      State.copyDynamic_within, wAll, p_apart, p_hA, p_hB, p_hearths]

theorem State.trialStart_within {s : State} (w0D : W 0x0D = true) (p_hearths : P .hearths = true) (p_timers : P .timers = true) (hW0 : Within W P s0
    s) : Within W P s0 (State.trialStart s) := by
  unfold State.trialStart
  try dsimp only
  simp (maxDischargeDepth := 60) only [and_self, and_true, implies_true, within_ite, within_mk, pageOf_lit, pageKind_lit, Nat.reduceDiv,
      Nat.reduceLeDiff, Nat.reduceAdd, Nat.reduceMod, if_false, true_or, or_true, State.start_within, State.copyWait_within, State.set_within, w0D,
      p_hearths, p_timers, hW0]

theorem State.splitLeave_within {s : State} (w0B : W 0x0B = true) (w0C : W 0x0C = true) (w0F : W 0x0F = true) (w20 : W 0x20 = true) (w22 : W 0x22 =
    true) (w24 : W 0x24 = true) (w26 : W 0x26 = true) (p_boundary : P .boundary = true) (p_cc : P .cc = true) (p_draught : P .draught = true) (p_flue
    : P .flue = true) (p_fnd : P .fnd = true) (p_hA : P .hA = true) (p_hB : P .hB = true) (p_lp : P .lp = true) (p_pol : P .pol = true) (p_timers : P
    .timers = true) (hW0 : Within W P s0 s) : Within W P s0 (State.splitLeave s) := by
  unfold State.splitLeave
  try dsimp only
  simp (maxDischargeDepth := 60) only [and_self, implies_true, within_refl, within_ite, within_mk, true_or, or_true, State.allPorts_within,
      State.portRelease_within, w0B, w0C, w0F, w20, w22, w24, w26, p_boundary, p_cc, p_draught, p_flue, p_fnd, p_hA, p_hB, p_lp, p_pol, p_timers, hW0]

theorem execHthCmdPowerOff_within {epoch : BitVec 8} {s : State} (w04 : W 0x04 = true) (w0D : W 0x0D = true) (p_flue : P .flue = true) (p_hearths : P
    .hearths = true) {t : State} (e : execHthCmdPowerOff epoch s = .next t) : Within W P s t := by
  unfold execHthCmdPowerOff at e
  try dsimp only at e
  cases e
  simp (maxDischargeDepth := 60) only [implies_true, within_refl, State.answered_within, State.hthControl_within, State.cmdPowerOff_within, w04, w0D,
      p_flue, p_hearths]

theorem State.modeRefuse_within {s : State} {code : Nat} (w0D : W 0x0D = true) (p_flue : P .flue = true) (hW0 : Within W P s0 s) : Within W P s0
    (State.modeRefuse s code) := by
  unfold State.modeRefuse
  try dsimp only
  simp (maxDischargeDepth := 60) only [and_true, pageOf_lit, pageKind_lit, Nat.reduceDiv, Nat.reduceLeDiff, Nat.reduceAdd, Nat.reduceMod, if_false,
      State.set_within, State.eventHost_within, w0D, p_flue, hW0]

theorem State.modeWrite_within {s : State} {v : Word} (w0D : W 0x0D = true) (w0E : W 0x0E = true) (p_flue : P .flue = true) (p_hearths : P .hearths =
    true) (hW0 : Within W P s0 s) : Within W P s0 (State.modeWrite s v) := by
  unfold State.modeWrite
  try dsimp only
  simp (maxDischargeDepth := 60) only [and_self, and_true, implies_true, within_ite, pageOf_lit, pageKind_lit, Nat.reduceDiv, Nat.reduceLeDiff,
      Nat.reduceAdd, Nat.reduceMod, if_false, State.set_within, State.modeRefuse_within, State.modeStart_within, w0D, w0E, p_flue, p_hearths, hW0]

theorem execHthCmdReadmit_within {epoch : BitVec 8} {s : State} (w04 : W 0x04 = true) (w0D : W 0x0D = true) (w0E : W 0x0E = true) (p_flue : P .flue =
    true) (p_hearths : P .hearths = true) {t : State} (e : execHthCmdReadmit epoch s = .next t) : Within W P s t := by
  unfold execHthCmdReadmit at e
  try dsimp only at e
  cases e
  simp (maxDischargeDepth := 60) only [implies_true, within_refl, State.answered_within, State.hthControl_within, State.cmdReadmit_within, w04, w0D,
      w0E, p_flue, p_hearths]

theorem execCopyBringupDone_within {pass : Bool} {s : State} (wAll : ∀ p, W p = true) (p_apart : P .apart = true) (p_flue : P .flue = true) (p_hA : P
    .hA = true) (p_hB : P .hB = true) (p_hearths : P .hearths = true) (p_otp : P .otp = true) (p_timers : P .timers = true) {t : State} (e :
    execCopyBringupDone pass s = .next t) : Within W P s t := by
  unfold execCopyBringupDone at e
  try dsimp only at e
  cases e
  simp (maxDischargeDepth := 60) only [and_self, and_true, implies_true, within_refl, within_ite, pageOf_lit, pageKind_lit, Nat.reduceDiv,
      Nat.reduceLeDiff, Nat.reduceAdd, Nat.reduceMod, if_false, State.set_within, State.resetHearthContent_within, State.copyFail_within,
      State.selfcheckFail_within, wAll, p_apart, p_flue, p_hA, p_hB, p_hearths, p_otp, p_timers]

theorem State.modeHandover_within {s : State} (w0B : W 0x0B = true) (w0C : W 0x0C = true) (w0D : W 0x0D = true) (w0E : W 0x0E = true) (w0F : W 0x0F =
    true) (w20 : W 0x20 = true) (w22 : W 0x22 = true) (w24 : W 0x24 = true) (w26 : W 0x26 = true) (p_boundary : P .boundary = true) (p_cc : P .cc =
    true) (p_draught : P .draught = true) (p_flue : P .flue = true) (p_fnd : P .fnd = true) (p_hA : P .hA = true) (p_hB : P .hB = true) (p_hearths : P
    .hearths = true) (p_lp : P .lp = true) (p_pol : P .pol = true) (p_timers : P .timers = true) (hW0 : Within W P s0 s) : Within W P s0
    (State.modeHandover s) := by
  unfold State.modeHandover
  try dsimp only
  (repeat' split) <;> (try simp (maxDischargeDepth := 60) only [and_true, within_mk, pageOf_lit, pageKind_lit, Nat.reduceDiv, Nat.reduceLeDiff,
      Nat.reduceAdd, Nat.reduceMod, if_false, true_or, or_true, State.takeRoles_within, State.splitLeave_within, State.event_within,
      State.roleBump_within, w0B, w0C, w0D, w0E, w0F, w20, w22, w24, w26, p_boundary, p_cc, p_draught, p_flue, p_fnd, p_hA, p_hB, p_hearths, p_lp,
      p_pol, p_timers, hW0])

theorem State.outputApply_within {s : State} {o : Fin 11} {n : Port} {v : Nat} (w08 : W 0x08 = true) (w09 : W 0x09 = true) (w0A : W 0x0A = true) (w0D
    : W 0x0D = true) (w0E : W 0x0E = true) (w20 : W 0x20 = true) (w22 : W 0x22 = true) (w26 : W 0x26 = true) (w27 : W 0x27 = true) (p_boundary : P
    .boundary = true) (p_cc : P .cc = true) (p_draught : P .draught = true) (p_feeds : P .feeds = true) (p_flue : P .flue = true) (p_fnd : P .fnd =
    true) (p_lp : P .lp = true) (p_timers : P .timers = true) (hW0 : Within W P s0 s) : Within W P s0 (State.outputApply s o n v) := by
  unfold State.outputApply
  try dsimp only
  (repeat' split) <;> (try simp (maxDischargeDepth := 60) only [State.closePath_within, State.openPath_within, State.dschgOn_within,
      State.dschgOff_within, State.present_within, State.vconnOn_within, State.vconnOff_within, State.feedRequest_within, State.noticeDrop_within,
      State.railOrder_within, State.report_within, w08, w09, w0A, w0D, w0E, w20, w22, w26, w27, p_boundary, p_cc, p_draught, p_feeds, p_flue, p_fnd,
      p_lp, p_timers, hW0])

theorem State.outputVote_within {s : State} {h : Hth} {o : Fin 11} {n : Port} {v : Nat} (w00 : W 0x00 = true) (w03 : W 0x03 = true) (w04 : W 0x04 =
    true) (w07 : W 0x07 = true) (w08 : W 0x08 = true) (w09 : W 0x09 = true) (w0A : W 0x0A = true) (w0D : W 0x0D = true) (w0E : W 0x0E = true) (w0F : W
    0x0F = true) (w13 : W 0x13 = true) (w20 : W 0x20 = true) (w21 : W 0x21 = true) (w22 : W 0x22 = true) (w23 : W 0x23 = true) (w24 : W 0x24 = true)
    (w26 : W 0x26 = true) (w27 : W 0x27 = true) (p_auth : P .auth = true) (p_boundary : P .boundary = true) (p_cc : P .cc = true) (p_draught : P
    .draught = true) (p_ember : P .ember = true) (p_feeds : P .feeds = true) (p_flue : P .flue = true) (p_fnd : P .fnd = true) (p_fresh : P .fresh =
    true) (p_hA : P .hA = true) (p_hB : P .hB = true) (p_hearths : P .hearths = true) (p_inputs : P .inputs = true) (p_lanes : P .lanes = true) (p_lp
    : P .lp = true) (p_msg : P .msg = true) (p_pol : P .pol = true) (p_thn : P .thn = true) (p_timers : P .timers = true) (p_vdm : P .vdm = true) (hW0
    : Within W P s0 s) : Within W P s0 (State.outputVote s h o n v) := by
  unfold State.outputVote
  try dsimp only
  simp (maxDischargeDepth := 60) only [and_self, implies_true, within_ite, State.copyFail_within, State.hearthLoss_within, State.outputApply_within,
      w00, w03, w04, w07, w08, w09, w0A, w0D, w0E, w0F, w13, w20, w21, w22, w23, w24, w26, w27, p_auth, p_boundary, p_cc, p_draught, p_ember, p_feeds,
      p_flue, p_fnd, p_fresh, p_hA, p_hB, p_hearths, p_inputs, p_lanes, p_lp, p_msg, p_pol, p_thn, p_timers, p_vdm, hW0]

theorem execHearthFence_within {h : Hth} {cause : LossCause} {output : LostOutput} {port : Port} {s : State} (w00 : W 0x00 = true) (w03 : W 0x03 =
    true) (w04 : W 0x04 = true) (w07 : W 0x07 = true) (w08 : W 0x08 = true) (w09 : W 0x09 = true) (w0A : W 0x0A = true) (w0D : W 0x0D = true) (w0E : W
    0x0E = true) (w0F : W 0x0F = true) (w13 : W 0x13 = true) (w20 : W 0x20 = true) (w21 : W 0x21 = true) (w22 : W 0x22 = true) (w23 : W 0x23 = true)
    (w24 : W 0x24 = true) (w26 : W 0x26 = true) (w27 : W 0x27 = true) (p_auth : P .auth = true) (p_boundary : P .boundary = true) (p_cc : P .cc =
    true) (p_draught : P .draught = true) (p_ember : P .ember = true) (p_feeds : P .feeds = true) (p_flue : P .flue = true) (p_fnd : P .fnd = true)
    (p_fresh : P .fresh = true) (p_hA : P .hA = true) (p_hB : P .hB = true) (p_hearths : P .hearths = true) (p_inputs : P .inputs = true) (p_lanes : P
    .lanes = true) (p_lp : P .lp = true) (p_msg : P .msg = true) (p_pol : P .pol = true) (p_thn : P .thn = true) (p_timers : P .timers = true) (p_vdm
    : P .vdm = true) {t : State} (e : execHearthFence h cause output port s = .next t) : Within W P s t := by
  unfold execHearthFence at e
  try dsimp only at e
  cases e
  simp (maxDischargeDepth := 60) only [and_self, implies_true, within_refl, within_ite, State.outputVote_within, State.hearthLoss_within, w00, w03,
      w04, w07, w08, w09, w0A, w0D, w0E, w0F, w13, w20, w21, w22, w23, w24, w26, w27, p_auth, p_boundary, p_cc, p_draught, p_ember, p_feeds, p_flue,
      p_fnd, p_fresh, p_hA, p_hB, p_hearths, p_inputs, p_lanes, p_lp, p_msg, p_pol, p_thn, p_timers, p_vdm]

theorem State.fencePower_within {s : State} {h : Hth} (w0D : W 0x0D = true) (p_apart : P .apart = true) (p_hearths : P .hearths = true) (hW0 : Within
    W P s0 s) : Within W P s0 (State.fencePower s h) := by
  unfold State.fencePower
  try dsimp only
  (repeat' split) <;> (try simp (maxDischargeDepth := 60) only [and_true, within_mk, pageOf_lit, pageKind_lit, Nat.reduceDiv, Nat.reduceLeDiff,
      Nat.reduceAdd, Nat.reduceMod, if_false, true_or, or_true, State.set_within, w0D, p_apart, p_hearths, hW0])

theorem execFencePowerOff_within {s : State} (w0D : W 0x0D = true) (p_apart : P .apart = true) (p_hearths : P .hearths = true) {t : State} (e :
    execFencePowerOff s = .next t) : Within W P s t := by
  unfold execFencePowerOff at e
  try dsimp only at e
  cases e
  simp (maxDischargeDepth := 60) only [and_self, implies_true, within_refl, within_ite, within_mk, true_or, or_true, State.fencePower_within, w0D,
      p_apart, p_hearths]

theorem execCopySourceLost_within {cause : LossCause} {s : State} (w00 : W 0x00 = true) (w03 : W 0x03 = true) (w04 : W 0x04 = true) (w07 : W 0x07 =
    true) (w08 : W 0x08 = true) (w09 : W 0x09 = true) (w0D : W 0x0D = true) (w0F : W 0x0F = true) (w13 : W 0x13 = true) (w20 : W 0x20 = true) (w21 : W
    0x21 = true) (w22 : W 0x22 = true) (w23 : W 0x23 = true) (w24 : W 0x24 = true) (w26 : W 0x26 = true) (w27 : W 0x27 = true) (p_auth : P .auth =
    true) (p_boundary : P .boundary = true) (p_cc : P .cc = true) (p_draught : P .draught = true) (p_ember : P .ember = true) (p_flue : P .flue =
    true) (p_fnd : P .fnd = true) (p_fresh : P .fresh = true) (p_hA : P .hA = true) (p_hB : P .hB = true) (p_hearths : P .hearths = true) (p_inputs :
    P .inputs = true) (p_lanes : P .lanes = true) (p_lp : P .lp = true) (p_msg : P .msg = true) (p_pol : P .pol = true) (p_thn : P .thn = true)
    (p_timers : P .timers = true) (p_vdm : P .vdm = true) {t : State} (e : execCopySourceLost cause s = .next t) : Within W P s t := by
  unfold execCopySourceLost at e
  try dsimp only at e
  cases e
  simp (maxDischargeDepth := 60) only [and_self, implies_true, within_refl, within_ite, State.hearthLoss_within, w00, w03, w04, w07, w08, w09, w0D,
      w0F, w13, w20, w21, w22, w23, w24, w26, w27, p_auth, p_boundary, p_cc, p_draught, p_ember, p_flue, p_fnd, p_fresh, p_hA, p_hB, p_hearths,
      p_inputs, p_lanes, p_lp, p_msg, p_pol, p_thn, p_timers, p_vdm]

theorem State.replayWatch_within {s : State} (w0D : W 0x0D = true) (w0E : W 0x0E = true) (p_flue : P .flue = true) (p_hearths : P .hearths = true)
    (p_timers : P .timers = true) (hW0 : Within W P s0 s) : Within W P s0 (State.replayWatch s) := by
  unfold State.replayWatch
  try dsimp only
  simp (maxDischargeDepth := 60) only [and_self, implies_true, within_ite, State.copyFail_within, w0D, w0E, p_flue, p_hearths, p_timers, hW0]

theorem execTrialEnd_within {s : State} (w04 : W 0x04 = true) (w0A : W 0x0A = true) (w0B : W 0x0B = true) (w0C : W 0x0C = true) (w0D : W 0x0D = true)
    (w0E : W 0x0E = true) (w0F : W 0x0F = true) (w20 : W 0x20 = true) (w22 : W 0x22 = true) (w24 : W 0x24 = true) (w26 : W 0x26 = true) (p_auth : P
    .auth = true) (p_boundary : P .boundary = true) (p_cc : P .cc = true) (p_draught : P .draught = true) (p_feeds : P .feeds = true) (p_flue : P
    .flue = true) (p_fnd : P .fnd = true) (p_hA : P .hA = true) (p_hB : P .hB = true) (p_hearths : P .hearths = true) (p_inputs : P .inputs = true)
    (p_lanes : P .lanes = true) (p_lp : P .lp = true) (p_msg : P .msg = true) (p_pol : P .pol = true) (p_thn : P .thn = true) (p_timers : P .timers =
    true) (p_vdm : P .vdm = true) {t : State} (e : execTrialEnd s = .next t) : Within W P s t := by
  unfold execTrialEnd at e
  try dsimp only at e
  cases e
  (repeat' split) <;> simp (maxDischargeDepth := 60) only [and_true, within_refl, within_mk, pageOf_lit, pageKind_lit, Nat.reduceDiv,
      Nat.reduceLeDiff, Nat.reduceAdd, Nat.reduceMod, if_false, true_or, or_true, State.stop_within, State.setRole_within, State.set_within,
      State.event_within, State.roleBump_within, State.closeHearthRecord_within, State.modeHandover_within, w04, w0A, w0B, w0C, w0D, w0E, w0F, w20,
      w22, w24, w26, p_auth, p_boundary, p_cc, p_draught, p_feeds, p_flue, p_fnd, p_hA, p_hB, p_hearths, p_inputs, p_lanes, p_lp, p_msg, p_pol, p_thn,
      p_timers, p_vdm]

theorem State.viewSelWrite_within {s : State} {h : Hth} {v : Word} (w60 : W 0x60 = true) (w66 : W 0x66 = true) (p_flue : P .flue = true) (hW0 : Within
    W P s0 s) : Within W P s0 (State.viewSelWrite s h v) := by
  unfold State.viewSelWrite
  try dsimp only
  simp (maxDischargeDepth := 60) only [and_self, implies_true, within_ite, pageOf_add, pageKind_dbg, dbg_pages, Nat.reduceAdd, Nat.reduceLT,
      State.set_within, State.eventHost_within, w60, w66, p_flue, hW0]

theorem execDbgViewSelWrite_within {h : Hth} {value : Word} {s : State} (w60 : W 0x60 = true) (w66 : W 0x66 = true) (p_flue : P .flue = true) {t :
    State} (e : execDbgViewSelWrite h value s = .next t) : Within W P s t := by
  unfold execDbgViewSelWrite at e
  try dsimp only at e
  cases e
  simp (maxDischargeDepth := 60) only [implies_true, within_refl, State.answered_within, State.viewSelWrite_within, w60, w66, p_flue]

theorem execHthCmdExchange_within {epoch : BitVec 8} {s : State} (w04 : W 0x04 = true) (w0D : W 0x0D = true) (p_flue : P .flue = true) (p_hearths : P
    .hearths = true) {t : State} (e : execHthCmdExchange epoch s = .next t) : Within W P s t := by
  unfold execHthCmdExchange at e
  try dsimp only at e
  cases e
  simp (maxDischargeDepth := 60) only [implies_true, within_refl, State.answered_within, State.hthControl_within, State.cmdExchange_within, w04, w0D,
      p_flue, p_hearths]

theorem execCopyLiveReached_within {s : State} (w0D : W 0x0D = true) (w0E : W 0x0E = true) (p_flue : P .flue = true) (p_hearths : P .hearths = true)
    (p_timers : P .timers = true) {t : State} (e : execCopyLiveReached s = .next t) : Within W P s t := by
  unfold execCopyLiveReached at e
  try dsimp only at e
  cases e
  simp (maxDischargeDepth := 60) only [and_self, implies_true, within_refl, within_ite, State.copyFail_within, State.copyWait_within, w0D, w0E,
      p_flue, p_hearths, p_timers]

theorem State.trialCheck_within {s : State} {k : Fin 16} {mine : Option (Int × Int)} {theirs : Option (Int × Int)} (w0D : W 0x0D = true) (w0E : W 0x0E
    = true) (p_flue : P .flue = true) (p_hearths : P .hearths = true) (p_timers : P .timers = true) (hW0 : Within W P s0 s) : Within W P s0
    (State.trialCheck s k mine theirs) := by
  unfold State.trialCheck
  try dsimp only
  (repeat' split) <;> (try simp (maxDischargeDepth := 60) only [within_mk, true_or, or_true, State.copyFail_within, w0D, w0E, p_flue, p_hearths,
      p_timers, hW0])

theorem execHthCmdFence_within {epoch : BitVec 8} {arg : BitVec 16} {s : State} (w00 : W 0x00 = true) (w03 : W 0x03 = true) (w04 : W 0x04 = true) (w07
    : W 0x07 = true) (w08 : W 0x08 = true) (w09 : W 0x09 = true) (w0D : W 0x0D = true) (w0F : W 0x0F = true) (w13 : W 0x13 = true) (w20 : W 0x20 =
    true) (w21 : W 0x21 = true) (w22 : W 0x22 = true) (w23 : W 0x23 = true) (w24 : W 0x24 = true) (w26 : W 0x26 = true) (w27 : W 0x27 = true) (p_auth
    : P .auth = true) (p_boundary : P .boundary = true) (p_cc : P .cc = true) (p_draught : P .draught = true) (p_ember : P .ember = true) (p_flue : P
    .flue = true) (p_fnd : P .fnd = true) (p_fresh : P .fresh = true) (p_hA : P .hA = true) (p_hB : P .hB = true) (p_hearths : P .hearths = true)
    (p_inputs : P .inputs = true) (p_lanes : P .lanes = true) (p_lp : P .lp = true) (p_msg : P .msg = true) (p_pol : P .pol = true) (p_thn : P .thn =
    true) (p_timers : P .timers = true) (p_vdm : P .vdm = true) {t : State} (e : execHthCmdFence epoch arg s = .next t) : Within W P s t := by
  unfold execHthCmdFence at e
  try dsimp only at e
  cases e
  simp (maxDischargeDepth := 60) only [implies_true, within_refl, State.answered_within, State.hthControl_within, State.cmdFence_within, w00, w03,
      w04, w07, w08, w09, w0D, w0F, w13, w20, w21, w22, w23, w24, w26, w27, p_auth, p_boundary, p_cc, p_draught, p_ember, p_flue, p_fnd, p_fresh,
      p_hA, p_hB, p_hearths, p_inputs, p_lanes, p_lp, p_msg, p_pol, p_thn, p_timers, p_vdm]

theorem execCopyAttemptFail_within {s : State} (w0D : W 0x0D = true) (w0E : W 0x0E = true) (p_flue : P .flue = true) (p_hearths : P .hearths = true)
    (p_timers : P .timers = true) {t : State} (e : execCopyAttemptFail s = .next t) : Within W P s t := by
  unfold execCopyAttemptFail at e
  try dsimp only at e
  cases e
  simp (maxDischargeDepth := 60) only [within_refl, State.copyFail_within, w0D, w0E, p_flue, p_hearths, p_timers]

theorem execHthModeWrite_within {value : Word} {s : State} (w0D : W 0x0D = true) (w0E : W 0x0E = true) (p_flue : P .flue = true) (p_hearths : P
    .hearths = true) {t : State} (e : execHthModeWrite value s = .next t) : Within W P s t := by
  unfold execHthModeWrite at e
  try dsimp only at e
  cases e
  simp (maxDischargeDepth := 60) only [implies_true, within_refl, State.answered_within, State.modeWrite_within, w0D, w0E, p_flue, p_hearths]

theorem execModeHandover_within {s : State} (w0B : W 0x0B = true) (w0C : W 0x0C = true) (w0D : W 0x0D = true) (w0E : W 0x0E = true) (w0F : W 0x0F =
    true) (w20 : W 0x20 = true) (w22 : W 0x22 = true) (w24 : W 0x24 = true) (w26 : W 0x26 = true) (p_boundary : P .boundary = true) (p_cc : P .cc =
    true) (p_draught : P .draught = true) (p_flue : P .flue = true) (p_fnd : P .fnd = true) (p_hA : P .hA = true) (p_hB : P .hB = true) (p_hearths : P
    .hearths = true) (p_lp : P .lp = true) (p_pol : P .pol = true) (p_timers : P .timers = true) {t : State} (e : execModeHandover s = .next t) :
    Within W P s t := by
  unfold execModeHandover at e
  try dsimp only at e
  cases e
  (repeat' split) <;> simp (maxDischargeDepth := 60) only [and_true, within_refl, pageOf_lit, pageKind_lit, Nat.reduceDiv, Nat.reduceLeDiff,
      Nat.reduceAdd, Nat.reduceMod, if_false, State.modeHandover_within, State.set_within, State.event_within, State.stop_within, w0B, w0C, w0D, w0E,
      w0F, w20, w22, w24, w26, p_boundary, p_cc, p_draught, p_flue, p_fnd, p_hA, p_hB, p_hearths, p_lp, p_pol, p_timers]

/-! ### Vote -/

theorem State.deadlineMiss_within {s : State} {h : Hth} {n : Port} {volt : Bool} (w04 : W 0x04 = true) (w0E : W 0x0E = true) (w24 : W 0x24 = true)
    (w25 : W 0x25 = true) (p_flue : P .flue = true) (p_lp : P .lp = true) (hW0 : Within W P s0 s) : Within W P s0 (State.deadlineMiss s h n volt) :=
    by
  unfold State.deadlineMiss
  try dsimp only
  (repeat' split) <;> (try simp (maxDischargeDepth := 60) only [and_true, pageOf_lit, pageKind_lit, pageOf_add, Field.inHearth, pageKind_portPage,
      Nat.reduceDiv, Nat.reduceLeDiff, Nat.reduceAdd, Nat.reduceMod, Nat.reduceLT, if_false, State.bumpSat_within, State.eventIn_within,
      State.set_within, State.modLp_within, State.soot_within, State.report_within, w04, w0E, w24, w25, p_flue, p_lp, hW0])

theorem State.ownResult_within {s : State} {h : Hth} {n : Port} {volt : Bool} {latch : Latch} (w12 : W 0x12 = true) (p_lp : P .lp = true) (hW0 :
    Within W P s0 s) : Within W P s0 (State.ownResult s h n volt latch) := by
  unfold State.ownResult
  try dsimp only
  (repeat' split) <;> (try simp (maxDischargeDepth := 60) only [and_true, pageKind_lit, pageOf_fin4, Nat.reduceDiv, Nat.reduceLeDiff, Nat.reduceMul,
      Nat.reduceAdd, Nat.reduceMod, Nat.reduceLT, if_false, State.modLp_within, State.setIn_within, w12, p_lp, hW0])

theorem State.latchShow_within {s : State} {h : Hth} {k : Fin 16} {r : Option (Int × Int)} (w62 : W 0x62 = true) (w68 : W 0x68 = true)
    (hW0 : Within W P s0 s) : Within W P s0 (s.latchShow h k.val r) := by
  cases r <;>
    simp (maxDischargeDepth := 60) only [State.latchShow, State.setBit_within, State.set_within, pageOf_page4, pageOf_add, pageKind_dbg,
      dbg_pages, Nat.reduceMul, Nat.reduceAdd, Nat.reduceLT, w62, w68, hW0]

theorem State.oneSided_within {s : State} {h : Hth} (w62 : W 0x62 = true) (w68 : W 0x68 = true) (p_hearths : P .hearths = true) (hW0 : Within W P s0
    s) : Within W P s0 (State.oneSided s h) := by
  unfold State.oneSided
  try dsimp only
  simp (maxDischargeDepth := 60) only [within_mk, pageOf_add, pageKind_dbg, dbg_pages, Nat.reduceAdd, Nat.reduceLT, true_or, or_true,
      State.bumpSat_within, w62, w68, p_hearths, hW0]

theorem State.captureVolt_within {s : State} {n : Port} {r : LoopResult} {y : Int} (w24 : W 0x24 = true) (p_lp : P .lp = true) (hW0 : Within W P s0 s)
    : Within W P s0 (State.captureVolt s n r y) := by
  unfold State.captureVolt
  try dsimp only
  simp (maxDischargeDepth := 60) only [pageOf_add, pageKind_portPage, Nat.reduceAdd, Nat.reduceLT, State.set_within, State.modLp_within,
      State.setB_within, w24, p_lp, hW0]

theorem State.captureCurrent_within {s : State} {n : Port} {r : LoopResult} {y : Int} (w25 : W 0x25 = true) (p_lp : P .lp = true) (hW0 : Within W P s0
    s) : Within W P s0 (State.captureCurrent s n r y) := by
  unfold State.captureCurrent
  try dsimp only
  simp (maxDischargeDepth := 60) only [pageOf_add, pageKind_portPage, Nat.reduceAdd, Nat.reduceLT, State.modLp_within, State.setB_within,
      State.set_within, w25, p_lp, hW0]

theorem State.keepOutput_within {s : State} {n : Port} {volt : Bool} {r : LoopResult} (p_lp : P .lp = true) (hW0 : Within W P s0 s) : Within W P s0
    (State.keepOutput s n volt r) := by
  unfold State.keepOutput
  try dsimp only
  simp (maxDischargeDepth := 60) only [and_self, implies_true, within_ite, State.modLp_within, p_lp, hW0]

theorem State.vote_within {s : State} {n : Port} {volt : Bool} {x : Hth} {la lb : Option (Int × Int)} (w00 : W 0x00 = true) (w03 : W 0x03 = true) (w04
    : W 0x04 = true) (w07 : W 0x07 = true) (w08 : W 0x08 = true) (w09 : W 0x09 = true) (w0D : W 0x0D = true) (w0F : W 0x0F = true) (w13 : W 0x13 =
    true) (w20 : W 0x20 = true) (w21 : W 0x21 = true) (w22 : W 0x22 = true) (w23 : W 0x23 = true) (w24 : W 0x24 = true) (w26 : W 0x26 = true) (w27 : W
    0x27 = true) (w62 : W 0x62 = true) (w68 : W 0x68 = true) (p_auth : P .auth = true) (p_boundary : P .boundary = true) (p_cc : P .cc = true)
    (p_draught : P .draught = true) (p_ember : P .ember = true) (p_flue : P .flue = true) (p_fnd : P .fnd = true) (p_fresh : P .fresh = true) (p_hA :
    P .hA = true) (p_hB : P .hB = true) (p_hearths : P .hearths = true) (p_inputs : P .inputs = true) (p_lanes : P .lanes = true) (p_lp : P .lp =
    true) (p_msg : P .msg = true) (p_pol : P .pol = true) (p_thn : P .thn = true) (p_timers : P .timers = true) (p_vdm : P .vdm = true)
    (hW0 : Within W P s0 s) : Within W P s0 (s.vote n volt x la lb).2 := by
  have loss : ∀ (t : State) h c o p, Within W P s0 t → Within W P s0 (t.hearthLoss h c o p) := fun t h c o p g => by
    apply State.hearthLoss_within <;> assumption
  have one : ∀ h, Within W P s0 (s.oneSided h) := fun h => by apply State.oneSided_within <;> assumption
  unfold State.vote
  extract_lets out
  repeat' split
  all_goals first
    | exact hW0
    | exact loss _ _ _ _ _ (one _)
    | exact one _
    | exact loss _ _ _ _ _ hW0

theorem loopNo_lt (n : Port) (volt : Bool) : loopNo n volt < 16 := by
  have := n.isLt
  cases volt <;> simp [loopNo, bn] <;> omega

theorem State.updateInstant_within {s : State} {n : Port} {volt : Bool} {a b : Latch} (w00 : W 0x00 = true) (w03 : W 0x03 = true) (w04 : W 0x04 =
    true) (w07 : W 0x07 = true) (w08 : W 0x08 = true) (w09 : W 0x09 = true) (w0D : W 0x0D = true) (w0E : W 0x0E = true) (w0F : W 0x0F = true) (w12 : W
    0x12 = true) (w13 : W 0x13 = true) (w20 : W 0x20 = true) (w21 : W 0x21 = true) (w22 : W 0x22 = true) (w23 : W 0x23 = true) (w24 : W 0x24 = true)
    (w25 : W 0x25 = true) (w26 : W 0x26 = true) (w27 : W 0x27 = true) (w62 : W 0x62 = true) (w68 : W 0x68 = true) (p_auth : P .auth = true)
    (p_boundary : P .boundary = true) (p_cc : P .cc = true) (p_draught : P .draught = true) (p_ember : P .ember = true) (p_flue : P .flue = true)
    (p_fnd : P .fnd = true) (p_fresh : P .fresh = true) (p_hA : P .hA = true) (p_hB : P .hB = true) (p_hearths : P .hearths = true) (p_inputs : P
    .inputs = true) (p_lanes : P .lanes = true) (p_lp : P .lp = true) (p_msg : P .msg = true) (p_pol : P .pol = true) (p_thn : P .thn = true)
    (p_timers : P .timers = true) (p_vdm : P .vdm = true) (hW0 : Within W P s0 s) :
    Within W P s0 (s.updateInstant n volt a b) := by
  have shw : ∀ (t : State) (h : Hth) (r : Option (Int × Int)), Within W P t (t.latchShow h (loopNo n volt) r) := fun t h r =>
    State.latchShow_within (k := ⟨loopNo n volt, loopNo_lt n volt⟩) w62 w68 (.refl t)
  unfold State.updateInstant
  extract_lets u r res latch t1 x
  have a0 : Within W P s0 u := by
    simp only [u]
    exact State.modLp_within p_lp (by apply State.lanesPass_within <;> assumption)
  have a1 : Within W P s0 t1 := by
    refine within_foldl _ _ (fun t h => ?_) a0
    dsimp only
    split
    · have o : ∀ l : Latch, Within W P t ((t.latchShow h (loopNo n volt) (latch h)).ownResult h n volt l) := fun l => by
        apply State.ownResult_within <;> first | assumption | exact shw t h _
      split
      · exact State.deadlineMiss_within w04 w0E w24 w25 p_flue p_lp (o _)
      · exact o _
    · exact .refl t
  have tri : ∀ t : State, Within W P s0 t → Within W P s0 (match u.trialHearth n with
      | some h => t.trialCheck (Fin.ofNat 16 (loopNo n volt)) (latch h) (latch x)
      | none => t) := fun t g => by
    split
    · apply State.trialCheck_within <;> assumption
    · exact g
  have fin : ∀ (y : Option Int) (t : State), Within W P s0 t → Within W P s0 (match y with
      | some y => if volt then t.captureVolt n r y else t.captureCurrent n r y
      | none => t.keepOutput n volt r) := fun y t a2 => by
    split
    · split
      · apply State.captureVolt_within <;> assumption
      · apply State.captureCurrent_within <;> assumption
    · apply State.keepOutput_within <;> assumption
  split
  · exact State.modLp_within p_lp a0
  · split
    next y t e =>
    refine fin y _ (tri t ?_)
    have k : Within W P s0 (y, t).2 := by
      rw [← e]
      split
      · exact State.vote_within (la := latch x) (lb := latch x.other) (x := x) w00 w03 w04 w07 w08 w09 w0D w0F w13 w20 w21 w22 w23 w24 w26 w27 w62 w68
          p_auth p_boundary p_cc p_draught p_ember p_flue p_fnd p_fresh p_hA p_hB p_hearths p_inputs p_lanes p_lp p_msg p_pol p_thn p_timers p_vdm a1
      · exact a1
    exact k

theorem execUpdateInstant_within {n : Port} {volt : Bool} {a : Latch} {b : Latch} {s : State} (w00 : W 0x00 = true) (w03 : W 0x03 = true) (w04 : W
    0x04 = true) (w07 : W 0x07 = true) (w08 : W 0x08 = true) (w09 : W 0x09 = true) (w0D : W 0x0D = true) (w0E : W 0x0E = true) (w0F : W 0x0F = true)
    (w12 : W 0x12 = true) (w13 : W 0x13 = true) (w20 : W 0x20 = true) (w21 : W 0x21 = true) (w22 : W 0x22 = true) (w23 : W 0x23 = true) (w24 : W 0x24
    = true) (w25 : W 0x25 = true) (w26 : W 0x26 = true) (w27 : W 0x27 = true) (w62 : W 0x62 = true) (w68 : W 0x68 = true) (p_auth : P .auth = true)
    (p_boundary : P .boundary = true) (p_cc : P .cc = true) (p_draught : P .draught = true) (p_ember : P .ember = true) (p_flue : P .flue = true)
    (p_fnd : P .fnd = true) (p_fresh : P .fresh = true) (p_hA : P .hA = true) (p_hB : P .hB = true) (p_hearths : P .hearths = true) (p_inputs : P
    .inputs = true) (p_lanes : P .lanes = true) (p_lp : P .lp = true) (p_msg : P .msg = true) (p_pol : P .pol = true) (p_thn : P .thn = true)
    (p_timers : P .timers = true) (p_vdm : P .vdm = true) {t : State} (e : execUpdateInstant n volt a b s = .next t) : Within W P s t := by
  unfold execUpdateInstant at e
  try dsimp only at e
  cases e
  simp (maxDischargeDepth := 60) only [and_self, implies_true, within_refl, within_ite, State.updateInstant_within, w00, w03, w04, w07, w08, w09, w0D,
      w0E, w0F, w12, w13, w20, w21, w22, w23, w24, w25, w26, w27, w62, w68, p_auth, p_boundary, p_cc, p_draught, p_ember, p_flue, p_fnd, p_fresh,
      p_hA, p_hB, p_hearths, p_inputs, p_lanes, p_lp, p_msg, p_pol, p_thn, p_timers, p_vdm]

/-! ### TimeBase -/

theorem State.frameGood_within {s : State} (w02 : W 0x02 = true) (p_flue : P .flue = true) (p_tb : P .tb = true) (hW0 : Within W P s0 s) : Within W P
    s0 (State.frameGood s) := by
  unfold State.frameGood
  try dsimp only
  simp (maxDischargeDepth := 60) only [and_self, and_true, implies_true, within_ite, within_mk, pageOf_lit, pageKind_lit, Nat.reduceDiv,
      Nat.reduceLeDiff, Nat.reduceAdd, Nat.reduceMod, if_false, true_or, or_true, State.set_within, State.event_within, w02, p_flue, p_tb, hW0]

theorem State.frameCount_within {s : State} {e : Nat} (p_tb : P .tb = true) (hW0 : Within W P s0 s) : Within W P s0 (State.frameCount s e) := by
  unfold State.frameCount
  try dsimp only
  simp (maxDischargeDepth := 60) only [and_self, implies_true, within_ite, within_mk, true_or, or_true, p_tb, hW0]

theorem State.frameBad_within {s : State} (w02 : W 0x02 = true) (p_flue : P .flue = true) (p_tb : P .tb = true) (hW0 : Within W P s0 s) : Within W P
    s0 (State.frameBad s) := by
  unfold State.frameBad
  try dsimp only
  simp (maxDischargeDepth := 60) only [and_self, and_true, implies_true, within_ite, within_mk, pageOf_lit, pageKind_lit, Nat.reduceDiv,
      Nat.reduceLeDiff, Nat.reduceAdd, Nat.reduceMod, if_false, true_or, or_true, State.set_within, State.event_within, w02, p_flue, p_tb, hW0]

theorem State.syncEdge_within {s : State} (w02 : W 0x02 = true) (p_flue : P .flue = true) (p_tb : P .tb = true) (hW0 : Within W P s0 s) : Within W P
    s0 (State.syncEdge s) := by
  unfold State.syncEdge
  try dsimp only
  (repeat' split) <;> (try simp (maxDischargeDepth := 60) only [and_true, within_mk, pageOf_lit, pageKind_lit, Nat.reduceDiv, Nat.reduceLeDiff,
      Nat.reduceAdd, Nat.reduceMod, if_false, true_or, or_true, State.set_within, State.frameGood_within, State.frameCount_within,
      State.frameBad_within, w02, p_flue, p_tb, hW0])

theorem State.modCarrier_within {s : State} {n : Port} {f : Carrier → Carrier} (p_tb : P .tb = true) (hW0 : Within W P s0 s) : Within W P s0
    (State.modCarrier s n f) := by
  unfold State.modCarrier
  try dsimp only
  simp (maxDischargeDepth := 60) only [within_mk, true_or, or_true, p_tb, hW0]

theorem State.carrierNow_within {s : State} {n : Port} (w24 : W 0x24 = true) (p_tb : P .tb = true) (hW0 : Within W P s0 s) : Within W P s0
    (State.carrierNow s n) := by
  unfold State.carrierNow
  try dsimp only
  simp (maxDischargeDepth := 60) only [pageOf_add, pageKind_portPage, Nat.reduceAdd, Nat.reduceLT, State.set_within, State.modCarrier_within, w24,
      p_tb, hW0]

theorem State.carrierTake_within {s : State} {n : Port} (w24 : W 0x24 = true) (p_tb : P .tb = true) (hW0 : Within W P s0 s) : Within W P s0
    (State.carrierTake s n) := by
  unfold State.carrierTake
  try dsimp only
  simp (maxDischargeDepth := 60) only [and_self, implies_true, within_ite, State.carrierNow_within, w24, p_tb, hW0]

theorem State.autoPhases_within {s : State} (w24 : W 0x24 = true) (p_tb : P .tb = true) (hW0 : Within W P s0 s) : Within W P s0 (State.autoPhases s)
    := by
  unfold State.autoPhases
  try dsimp only
  simp (maxDischargeDepth := 60) only [and_self, implies_true, within_refl, within_ite, State.allPorts_within, State.carrierTake_within,
      State.modCarrier_within, w24, p_tb, hW0]

theorem State.cmpBoundary_within {s : State} {k : Fin 64} (w0B : W 0x0B = true) (w0C : W 0x0C = true) (w0F : W 0x0F = true) (p_array : P .array =
    true) (p_hA : P .hA = true) (p_hB : P .hB = true) (hW0 : Within W P s0 s) : Within W P s0 (State.cmpBoundary s k) := by
  unfold State.cmpBoundary
  try dsimp only
  (repeat' split) <;> (try simp (maxDischargeDepth := 60) only [State.cmpFall_within, w0B, w0C, w0F, p_array, p_hA, p_hB, hW0])

theorem execSyncFrameMissing_within {s : State} (w02 : W 0x02 = true) (p_flue : P .flue = true) (p_tb : P .tb = true) {t : State} (e :
    execSyncFrameMissing s = .next t) : Within W P s t := by
  unfold execSyncFrameMissing at e
  try dsimp only at e
  cases e
  (repeat' split) <;> simp (maxDischargeDepth := 60) only [within_refl, within_mk, true_or, or_true, State.frameBad_within, State.frameCount_within,
      w02, p_flue, p_tb]

theorem State.changeSource_within {s : State} {src : Nat} (w02 : W 0x02 = true) (p_ember : P .ember = true) (p_flue : P .flue = true) (p_timers : P
    .timers = true) (hW0 : Within W P s0 s) : Within W P s0 (State.changeSource s src) := by
  unfold State.changeSource
  try dsimp only
  simp (maxDischargeDepth := 60) only [and_true, pageOf_lit, pageKind_lit, Nat.reduceDiv, Nat.reduceLeDiff, Nat.reduceAdd, Nat.reduceMod, if_false,
      State.set_within, State.bump_within, State.event_within, State.rescale_within, w02, p_ember, p_flue, p_timers, hW0]

theorem State.refTake_within {s : State} (w02 : W 0x02 = true) (p_ember : P .ember = true) (p_flue : P .flue = true) (p_timers : P .timers = true)
    (hW0 : Within W P s0 s) : Within W P s0 (State.refTake s) := by
  unfold State.refTake
  try dsimp only
  simp (maxDischargeDepth := 60) only [and_self, implies_true, within_ite, State.changeSource_within, w02, p_ember, p_flue, p_timers, hW0]

theorem execRefChangeover_within {khz : Nat} {s : State} (w02 : W 0x02 = true) (p_ember : P .ember = true) (p_flue : P .flue = true) (p_timers : P
    .timers = true) {t : State} (e : execRefChangeover khz s = .next t) : Within W P s t := by
  unfold execRefChangeover at e
  try dsimp only at e
  cases e
  simp (maxDischargeDepth := 60) only [and_self, and_true, implies_true, within_refl, within_ite, pageOf_lit, pageKind_lit, Nat.reduceDiv,
      Nat.reduceLeDiff, Nat.reduceAdd, Nat.reduceMod, if_false, State.refTake_within, State.set_within, w02, p_ember, p_flue, p_timers]

theorem execCapacityMeasure_within {nsA : Nat} {nsB : Nat} {s : State} (w0E : W 0x0E = true) (w64 : W 0x64 = true) (w6A : W 0x6A = true) {t : State}
    (e : execCapacityMeasure nsA nsB s = .next t) : Within W P s t := by
  unfold execCapacityMeasure at e
  try dsimp only at e
  cases e
  simp (maxDischargeDepth := 60) only [and_self, and_true, implies_true, within_refl, within_ite, pageOf_lit, pageKind_lit, pageOf_add, pageKind_dbg,
      dbg_pages, Field.inHearth, Nat.reduceDiv, Nat.reduceLeDiff, Nat.reduceAdd, Nat.reduceMod, Nat.reduceLT, if_false, State.set_within, w0E, w64,
      w6A]

theorem execComparatorLatchClear_within {k : Fin 64} {s : State} (w0B : W 0x0B = true) (w0C : W 0x0C = true) (w0F : W 0x0F = true) (p_array : P .array
    = true) (p_hA : P .hA = true) (p_hB : P .hB = true) {t : State} (e : execComparatorLatchClear k s = .next t) : Within W P s t := by
  unfold execComparatorLatchClear at e
  try dsimp only at e
  cases e
  simp (maxDischargeDepth := 60) only [within_refl, State.cmpBoundary_within, w0B, w0C, w0F, p_array, p_hA, p_hB]

theorem State.periodStart_within {s : State} {n : Port} (w24 : W 0x24 = true) (w25 : W 0x25 = true) (p_lp : P .lp = true) (p_tb : P .tb = true) (hW0 :
    Within W P s0 s) : Within W P s0 (State.periodStart s n) := by
  unfold State.periodStart
  try dsimp only
  simp (maxDischargeDepth := 60) only [and_self, implies_true, within_ite, pageOf_add, pageKind_portPage, Nat.reduceAdd, Nat.reduceLT,
      State.carrierNow_within, State.modCarrier_within, State.modLp_within, State.set_within, State.setB_within, w24, w25, p_lp, p_tb, hW0]

theorem State.lockChecks_within {s : State} (w24 : W 0x24 = true) (hW0 : Within W P s0 s) : Within W P s0 (State.lockChecks s) := by
  unfold State.lockChecks
  try dsimp only
  simp (maxDischargeDepth := 60) only [implies_true, within_refl, pageOf_add, within_foldl, pageKind_portPage, Nat.reduceAdd, Nat.reduceLT,
      State.setB_within, w24, hW0]

theorem State.carrierWrite_within {s : State} {n : Port} {v : Word} (w24 : W 0x24 = true) (p_flue : P .flue = true) (p_tb : P .tb = true) (hW0 :
    Within W P s0 s) : Within W P s0 (State.carrierWrite s n v) := by
  unfold State.carrierWrite
  try dsimp only
  simp (maxDischargeDepth := 60) only [and_self, implies_true, within_ite, pageOf_add, pageKind_portPage, Nat.reduceAdd, Nat.reduceLT,
      State.eventHost_within, State.set_within, State.lockChecks_within, State.carrierTake_within, w24, p_flue, p_tb, hW0]

theorem State.tbConfigWrite_within {s : State} {v : Word} (w02 : W 0x02 = true) (p_ember : P .ember = true) (p_flue : P .flue = true) (p_timers : P
    .timers = true) (hW0 : Within W P s0 s) : Within W P s0 (State.tbConfigWrite s v) := by
  unfold State.tbConfigWrite
  try dsimp only
  simp (maxDischargeDepth := 60) only [and_self, and_true, implies_true, within_ite, pageOf_lit, pageKind_lit, Nat.reduceDiv, Nat.reduceLeDiff,
      Nat.reduceAdd, Nat.reduceMod, if_false, State.eventHost_within, State.changeSource_within, State.set_within, w02, p_ember, p_flue, p_timers,
      hW0]

theorem execTbConfigWrite_within {value : Word} {s : State} (w02 : W 0x02 = true) (p_ember : P .ember = true) (p_flue : P .flue = true) (p_timers : P
    .timers = true) {t : State} (e : execTbConfigWrite value s = .next t) : Within W P s t := by
  unfold execTbConfigWrite at e
  try dsimp only at e
  cases e
  simp (maxDischargeDepth := 60) only [implies_true, within_refl, State.answered_within, State.tbConfigWrite_within, w02, p_ember, p_flue, p_timers]

theorem State.tbaseLoRead_within {s : State} (w02 : W 0x02 = true) (p_pins : P .pins = true) (hW0 : Within W P s0 s) : Within W P s0
    (State.tbaseLoRead s) := by
  unfold State.tbaseLoRead
  try dsimp only
  simp (maxDischargeDepth := 60) only [and_true, pageOf_lit, pageKind_lit, Nat.reduceDiv, Nat.reduceLeDiff, Nat.reduceAdd, Nat.reduceMod, if_false,
      State.returnWord_within, State.set_within, w02, p_pins, hW0]

theorem execTbaseLoRead_within {s : State} (w02 : W 0x02 = true) (p_pins : P .pins = true) {t : State} (e : execTbaseLoRead s = .next t) : Within W P
    s t := by
  unfold execTbaseLoRead at e
  try dsimp only at e
  cases e
  simp (maxDischargeDepth := 60) only [implies_true, within_refl, State.answered_within, State.tbaseLoRead_within, w02, p_pins]

theorem execRefLost_within {s : State} (w02 : W 0x02 = true) (p_ember : P .ember = true) (p_flue : P .flue = true) (p_timers : P .timers = true) {t :
    State} (e : execRefLost s = .next t) : Within W P s t := by
  unfold execRefLost at e
  try dsimp only at e
  cases e
  simp (maxDischargeDepth := 60) only [and_self, and_true, implies_true, within_refl, within_ite, pageOf_lit, pageKind_lit, Nat.reduceDiv,
      Nat.reduceLeDiff, Nat.reduceAdd, Nat.reduceMod, if_false, State.changeSource_within, State.event_within, State.set_within, w02, p_ember, p_flue,
      p_timers]

theorem execSyncInEdge_within {s : State} (w02 : W 0x02 = true) (p_flue : P .flue = true) (p_tb : P .tb = true) {t : State} (e : execSyncInEdge s =
    .next t) : Within W P s t := by
  unfold execSyncInEdge at e
  try dsimp only at e
  cases e
  simp (maxDischargeDepth := 60) only [within_refl, State.syncEdge_within, w02, p_flue, p_tb]

theorem execCarrierWrite_within {n : Port} {value : Word} {s : State} (w24 : W 0x24 = true) (p_flue : P .flue = true) (p_tb : P .tb = true) {t :
    State} (e : execCarrierWrite n value s = .next t) : Within W P s t := by
  unfold execCarrierWrite at e
  try dsimp only at e
  cases e
  simp (maxDischargeDepth := 60) only [implies_true, within_refl, State.answered_within, State.carrierWrite_within, w24, p_flue, p_tb]

theorem State.fitCarriers_within {s : State} (w24 : W 0x24 = true) (p_flue : P .flue = true) (p_tb : P .tb = true) (hW0 : Within W P s0 s) : Within W
    P s0 (State.fitCarriers s) := by
  unfold State.fitCarriers
  try dsimp only
  simp (maxDischargeDepth := 60) only [and_self, implies_true, within_refl, within_ite, pageOf_add, pageKind_portPage, Nat.reduceAdd, Nat.reduceLT,
      State.allPorts_within, State.event_within, State.set_within, State.carrierNow_within, w24, p_flue, p_tb, hW0]

theorem execSwitchingPeriodStart_within {n : Port} {s : State} (w24 : W 0x24 = true) (w25 : W 0x25 = true) (p_lp : P .lp = true) (p_tb : P .tb = true)
    {t : State} (e : execSwitchingPeriodStart n s = .next t) : Within W P s t := by
  unfold execSwitchingPeriodStart at e
  try dsimp only at e
  cases e
  simp (maxDischargeDepth := 60) only [and_self, implies_true, within_refl, within_ite, State.periodStart_within, w24, w25, p_lp, p_tb]

theorem execAutoPhaseRecompute_within {s : State} (w24 : W 0x24 = true) (p_tb : P .tb = true) {t : State} (e : execAutoPhaseRecompute s = .next t) :
    Within W P s t := by
  unfold execAutoPhaseRecompute at e
  try dsimp only at e
  cases e
  simp (maxDischargeDepth := 60) only [and_self, implies_true, within_refl, within_ite, State.autoPhases_within, w24, p_tb]

theorem execCoarseCalibration_within {ticks : Nat} {s : State} (w02 : W 0x02 = true) {t : State} (e : execCoarseCalibration ticks s = .next t) :
    Within W P s t := by
  unfold execCoarseCalibration at e
  try dsimp only at e
  cases e
  simp (maxDischargeDepth := 60) only [and_self, and_true, implies_true, within_refl, within_ite, pageOf_lit, pageKind_lit, Nat.reduceDiv,
      Nat.reduceLeDiff, Nat.reduceAdd, Nat.reduceMod, if_false, State.set_within, w02]

end Sys2Proof.Machine
end

