-- ==== Sys2Proof/Laws/WithinPower.lean ====
section
/-! SUPPORT. What each operation and command of the device states, the resets, and the commands of the Flue and of VDMs can change at most (`Within`): the pages and parts its
hypotheses name. -/

namespace Sys2Proof.Machine
variable {W : Nat → Bool} {P : Part → Bool} {s0 : State}
set_option linter.unusedVariables false

/-! ### Power -/

theorem State.presentCounters_within {s : State} (wAll : ∀ p, W p = true) (hW0 : Within W P s0 s) : Within W P s0 s.presentCounters := by
  unfold State.presentCounters
  refine within_foldl _ _ (fun t c => ?_) hW0
  split
  · exact within_foldl_mem _ _ (fun t k hk => State.putWord_within _ _ _ (s.copies_lt _ k hk) (wAll _) (.refl t)) (.refl t)
  · exact .refl t

theorem State.epochsAdvanced_within {s b : State} (w22 : W 0x22 = true) (hW0 : Within W P s0 s) : Within W P s0 (s.epochsAdvanced b) := by
  have g : ∀ n : Port, W (pageKind (pageOf (F.POL_SEQ_epoch n).addr)) = true := fun n => by
    simp only [pageOf_add, pageKind_portPage, Nat.reduceLT, Nat.reduceAdd, w22]
  have four : ∀ c ∈ [1, 2, emberCopy], c < 4 := by decide
  exact within_foldl _ _ (fun t n => within_foldl_mem _ _ (fun t c hc => State.putWord_within _ _ _ (four c hc) (g n) (.refl t)) (.refl t)) hW0

theorem execWakeDuringEntry_within {w : Wake} {s : State} (p_ember : P .ember = true) {t : State} (e : execWakeDuringEntry w s = .next t) : Within W P
    s t := by
  unfold execWakeDuringEntry at e
  try dsimp only at e
  cases e
  simp (maxDischargeDepth := 60) only [and_self, implies_true, within_refl, within_ite, within_mk, true_or, or_true, p_ember]

theorem State.coldLatchRead_within {s : State} (w00 : W 0x00 = true) (w01 : W 0x01 = true) (p_ember : P .ember = true) (p_flue : P .flue = true) (hW0
    : Within W P s0 s) : Within W P s0 (State.coldLatchRead s) := by
  unfold State.coldLatchRead
  try dsimp only
  simp (maxDischargeDepth := 60) only [and_self, and_true, implies_true, within_ite, within_mk, pageOf_lit, pageKind_lit, Nat.reduceDiv,
      Nat.reduceLeDiff, Nat.reduceAdd, Nat.reduceMod, if_false, true_or, or_true, State.set_within, State.bump_within, State.event_within, w00, w01,
      p_ember, p_flue, hW0]

theorem State.traceKept_within {s : State} {before : State} (w0F : W 0x0F = true) (hW0 : Within W P s0 s) : Within W P s0 (State.traceKept s before)
    := by
  unfold State.traceKept
  try dsimp only
  simp (maxDischargeDepth := 60) only [and_self, and_true, implies_true, within_refl, within_ite, pageOf_lit, pageKind_lit, within_foldl,
      Nat.reduceDiv, Nat.reduceLeDiff, Nat.reduceAdd, Nat.reduceMod, if_false, State.setIn_within, w0F, hW0]

theorem State.kindlingDv_within {s : State} (w24 : W 0x24 = true) (hW0 : Within W P s0 s) : Within W P s0 (State.kindlingDv s) := by
  unfold State.kindlingDv
  try dsimp only
  (repeat' split) <;> (try simp (maxDischargeDepth := 60) only [pageOf_add, pageKind_portPage, Nat.reduceAdd, Nat.reduceLT, State.set_within, w24,
      hW0])

theorem State.deviceReset_within {s : State} {kind : ResetKind} (wAll : ∀ p, W p = true) (pAll : ∀ p, P p = true)
    (hW0 : Within W P s0 s) : Within W P s0 (s.deviceReset kind) := by
  have all : ∀ t : State, t.pending = s.pending → t.regs = regsReset (s.persistKind kind) s.regs → Within W P s0 t := fun t hq hr =>
    hW0.trans (.all wAll pAll hq fun _ => by
      unfold State.Wf
      rw [hr]
      exact regsRestore_wf _ _ _ _ rfl)
  unfold State.deviceReset
  extract_lets stays saved r1 r2 r3 r4 t1 t2 t3 t4 t5
  have g1 : Within W P s0 t1 := all t1 rfl rfl
  have g2 : Within W P s0 t2 := by
    simp only [t2]
    split
    · exact g1
    · exact State.epochsAdvanced_within (wAll _) g1
  have g3 : Within W P s0 t3 := by
    simp only [t3]
    split
    · exact g2
    · exact State.set_within _ _ (wAll _) g2
  have g4 : Within W P s0 t4 := by
    simp only [t4]
    split
    · exact State.traceKept_within (wAll _) g3
    · exact g3
  have g5 : Within W P s0 t5 := by
    simp only [t5]
    split
    · exact State.event_within (pAll _) (wAll _) g4
    · exact g4
  exact State.set_within _ _ (wAll _) (by apply State.kindlingDv_within <;> first | assumption | exact wAll _ | exact pAll _)

theorem State.wakeCold_within {s : State} {w : Wake} {inEntry : Bool} (wAll : ∀ p, W p = true) (pAll : ∀ p, P p = true) (hW0 : Within W P s0 s) :
    Within W P s0 (State.wakeCold s w inEntry) := by
  unfold State.wakeCold
  try dsimp only
  simp (maxDischargeDepth := 60) only [and_true, implies_true, pageOf_lit, pageKind_lit, Nat.reduceDiv, Nat.reduceLeDiff, Nat.reduceAdd,
      Nat.reduceMod, if_false, State.coldLatchRead_within, State.deviceReset_within, State.set_within, State.setB_within, wAll, pAll, hW0]

theorem State.recordWake_within {s : State} {w : Wake} {origin : Nat} {inEntry : Bool} (w01 : W 0x01 = true) (p_flue : P .flue = true) (hW0 : Within W
    P s0 s) : Within W P s0 (State.recordWake s w origin inEntry) := by
  unfold State.recordWake
  try dsimp only
  simp (maxDischargeDepth := 60) only [and_true, pageOf_lit, pageKind_lit, Nat.reduceDiv, Nat.reduceLeDiff, Nat.reduceAdd, Nat.reduceMod, if_false,
      State.set_within, State.setB_within, State.bump_within, State.event_within, w01, p_flue, hW0]

theorem State.wakeSmoulder_within {s : State} {w : Wake} {inEntry : Bool} (wAll : ∀ p, W p = true) (pAll : ∀ p, P p = true) (hW0 : Within W P s0 s) :
    Within W P s0 (State.wakeSmoulder s w inEntry) := by
  unfold State.wakeSmoulder
  try dsimp only
  simp (maxDischargeDepth := 60) only [and_true, implies_true, pageOf_lit, pageKind_lit, Nat.reduceDiv, Nat.reduceLeDiff, Nat.reduceAdd,
      Nat.reduceMod, if_false, State.setB_within, State.recordWake_within, State.deviceReset_within, wAll, pAll, hW0]

theorem State.wakeLatch_within {s : State} {w : Wake} (p_ember : P .ember = true) (hW0 : Within W P s0 s) : Within W P s0 (State.wakeLatch s w) := by
  unfold State.wakeLatch
  try dsimp only
  simp (maxDischargeDepth := 60) only [and_self, implies_true, within_ite, within_mk, true_or, or_true, p_ember, hW0]

theorem execWakeLatchedNoVsys_within {w : Wake} {s : State} (p_ember : P .ember = true) {t : State} (e : execWakeLatchedNoVsys w s = .next t) : Within
    W P s t := by
  unfold execWakeLatchedNoVsys at e
  try dsimp only at e
  cases e
  simp (maxDischargeDepth := 60) only [within_refl, State.wakeLatch_within, p_ember]

theorem execVddioUndervoltage_within {s : State} (w00 : W 0x00 = true) (w01 : W 0x01 = true) (w03 : W 0x03 = true) (w04 : W 0x04 = true) (w07 : W 0x07
    = true) (w08 : W 0x08 = true) (w09 : W 0x09 = true) (w0A : W 0x0A = true) (w0D : W 0x0D = true) (w0F : W 0x0F = true) (w13 : W 0x13 = true) (w20 :
    W 0x20 = true) (w21 : W 0x21 = true) (w22 : W 0x22 = true) (w23 : W 0x23 = true) (w24 : W 0x24 = true) (w26 : W 0x26 = true) (w27 : W 0x27 = true)
    (p_auth : P .auth = true) (p_boundary : P .boundary = true) (p_cc : P .cc = true) (p_draught : P .draught = true) (p_ember : P .ember = true)
    (p_feeds : P .feeds = true) (p_flue : P .flue = true) (p_fnd : P .fnd = true) (p_fresh : P .fresh = true) (p_hA : P .hA = true) (p_hB : P .hB =
    true) (p_hearths : P .hearths = true) (p_inputs : P .inputs = true) (p_lanes : P .lanes = true) (p_lp : P .lp = true) (p_msg : P .msg = true)
    (p_pol : P .pol = true) (p_thn : P .thn = true) (p_timers : P .timers = true) (p_vdm : P .vdm = true) {t : State} (e : execVddioUndervoltage s =
    .next t) : Within W P s t := by
  unfold execVddioUndervoltage at e
  try dsimp only at e
  cases e
  simp (maxDischargeDepth := 60) only [and_self, and_true, implies_true, within_refl, within_ite, pageOf_lit, pageKind_lit, Nat.reduceDiv,
      Nat.reduceLeDiff, Nat.reduceAdd, Nat.reduceMod, if_false, State.setB_within, State.reportNow_within, w00, w01, w03, w04, w07, w08, w09, w0A,
      w0D, w0F, w13, w20, w21, w22, w23, w24, w26, w27, p_auth, p_boundary, p_cc, p_draught, p_ember, p_feeds, p_flue, p_fnd, p_fresh, p_hA, p_hB,
      p_hearths, p_inputs, p_lanes, p_lp, p_msg, p_pol, p_thn, p_timers, p_vdm]

theorem State.allOff_within {s : State} (w08 : W 0x08 = true) (w09 : W 0x09 = true) (w0A : W 0x0A = true) (w24 : W 0x24 = true) (w26 : W 0x26 = true)
    (w27 : W 0x27 = true) (p_boundary : P .boundary = true) (p_draught : P .draught = true) (p_feeds : P .feeds = true) (p_flue : P .flue = true)
    (p_fnd : P .fnd = true) (p_lanes : P .lanes = true) (p_lp : P .lp = true) (p_timers : P .timers = true) (hW0 : Within W P s0 s) : Within W P s0
    (State.allOff s) := by
  unfold State.allOff
  try dsimp only
  simp (maxDischargeDepth := 60) only [implies_true, within_refl, within_foldl, State.stageOff_within, State.openPath_within, State.feedsOpen_within,
      w08, w09, w0A, w24, w26, w27, p_boundary, p_draught, p_feeds, p_flue, p_fnd, p_lanes, p_lp, p_timers, hW0]

theorem State.openFeeds_within {s : State} (w08 : W 0x08 = true) (w09 : W 0x09 = true) (w0A : W 0x0A = true) (p_draught : P .draught = true) (p_feeds
    : P .feeds = true) (p_timers : P .timers = true) (hW0 : Within W P s0 s) : Within W P s0 (State.openFeeds s) := by
  unfold State.openFeeds
  try dsimp only
  simp (maxDischargeDepth := 60) only [State.feedsOpen_within, w08, w09, w0A, p_draught, p_feeds, p_timers, hW0]

theorem State.unpowered_within {s : State} (p_auth : P .auth = true) (p_hA : P .hA = true) (p_hB : P .hB = true) (p_hearths : P .hearths = true)
    (p_inputs : P .inputs = true) (hW0 : Within W P s0 s) : Within W P s0 (State.unpowered s) := by
  unfold State.unpowered
  try dsimp only
  simp (maxDischargeDepth := 60) only [within_mk, true_or, or_true, p_auth, p_hA, p_hB, p_hearths, p_inputs, hW0]

theorem State.enterState_within {s : State} {d : DevState} (w01 : W 0x01 = true) (w08 : W 0x08 = true) (w09 : W 0x09 = true) (w0A : W 0x0A = true)
    (p_auth : P .auth = true) (p_draught : P .draught = true) (p_ember : P .ember = true) (p_feeds : P .feeds = true) (p_hA : P .hA = true) (p_hB : P
    .hB = true) (p_hearths : P .hearths = true) (p_inputs : P .inputs = true) (p_timers : P .timers = true) (hW0 : Within W P s0 s) : Within W P s0
    (State.enterState s d) := by
  unfold State.enterState
  try dsimp only
  (repeat' split) <;> (try simp (maxDischargeDepth := 60) only [and_true, within_mk, pageOf_lit, pageKind_lit, Nat.reduceDiv, Nat.reduceLeDiff,
      Nat.reduceAdd, Nat.reduceMod, if_false, true_or, or_true, State.bump_within, State.stop_within, State.start_within, State.openFeeds_within,
      State.set_within, State.unpowered_within, w01, w08, w09, w0A, p_auth, p_draught, p_ember, p_feeds, p_hA, p_hB, p_hearths, p_inputs, p_timers,
      hW0])

theorem execVsysLoss_within {s : State} (w00 : W 0x00 = true) (w01 : W 0x01 = true) (w03 : W 0x03 = true) (w04 : W 0x04 = true) (w07 : W 0x07 = true)
    (w08 : W 0x08 = true) (w09 : W 0x09 = true) (w0A : W 0x0A = true) (w0D : W 0x0D = true) (w0F : W 0x0F = true) (w13 : W 0x13 = true) (w20 : W 0x20
    = true) (w21 : W 0x21 = true) (w22 : W 0x22 = true) (w23 : W 0x23 = true) (w24 : W 0x24 = true) (w26 : W 0x26 = true) (w27 : W 0x27 = true)
    (p_auth : P .auth = true) (p_boundary : P .boundary = true) (p_cc : P .cc = true) (p_draught : P .draught = true) (p_ember : P .ember = true)
    (p_feeds : P .feeds = true) (p_flue : P .flue = true) (p_fnd : P .fnd = true) (p_fresh : P .fresh = true) (p_hA : P .hA = true) (p_hB : P .hB =
    true) (p_hearths : P .hearths = true) (p_inputs : P .inputs = true) (p_lanes : P .lanes = true) (p_lp : P .lp = true) (p_msg : P .msg = true)
    (p_pol : P .pol = true) (p_thn : P .thn = true) (p_timers : P .timers = true) (p_vdm : P .vdm = true) {t : State} (e : execVsysLoss s = .next t) :
    Within W P s t := by
  unfold execVsysLoss at e
  try dsimp only at e
  cases e
  (repeat' split) <;> simp (maxDischargeDepth := 60) only [and_true, within_refl, within_mk, pageOf_lit, pageKind_lit, Nat.reduceDiv,
      Nat.reduceLeDiff, Nat.reduceAdd, Nat.reduceMod, if_false, true_or, or_true, State.setB_within, State.allOff_within, State.reportNow_within,
      State.enterState_within, w00, w01, w03, w04, w07, w08, w09, w0A, w0D, w0F, w13, w20, w21, w22, w23, w24, w26, w27, p_auth, p_boundary, p_cc,
      p_draught, p_ember, p_feeds, p_flue, p_fnd, p_fresh, p_hA, p_hB, p_hearths, p_inputs, p_lanes, p_lp, p_msg, p_pol, p_thn, p_timers, p_vdm]

theorem execKindlingEnable_within {vbus : BitVec 8} {s : State} (wAll : ∀ p, W p = true) (pAll : ∀ p, P p = true) {t : State} (e : execKindlingEnable
    vbus s = .next t) : Within W P s t := by
  unfold execKindlingEnable at e
  try dsimp only at e
  cases e
  (repeat' split) <;> simp (maxDischargeDepth := 60) only [and_true, implies_true, within_refl, within_mk, pageOf_lit, pageKind_lit, Nat.reduceDiv,
      Nat.reduceLeDiff, Nat.reduceAdd, Nat.reduceMod, if_false, true_or, or_true, State.wakeSmoulder_within, State.wakeCold_within,
      State.coldLatchRead_within, State.deviceReset_within, State.kindlingDv_within, State.set_within, wAll, pAll]

theorem execBankedTjSample_within {code : BitVec 12} {s : State} (w14 : W 0x14 = true) (p_ember : P .ember = true) (p_timers : P .timers = true) {t :
    State} (e : execBankedTjSample code s = .next t) : Within W P s t := by
  unfold execBankedTjSample at e
  try dsimp only at e
  cases e
  simp (maxDischargeDepth := 60) only [and_self, and_true, implies_true, within_refl, within_ite, within_mk, pageOf_lit, pageKind_lit, Nat.reduceDiv,
      Nat.reduceLeDiff, Nat.reduceMul, Nat.reduceAdd, Nat.reduceMod, if_false, true_or, or_true, State.start_within, State.set_within, w14, p_ember,
      p_timers]

theorem execSmoulderCcPoll_within {changed : BitVec 8} {s : State} (p_ember : P .ember = true) (p_timers : P .timers = true) {t : State} (e :
    execSmoulderCcPoll changed s = .next t) : Within W P s t := by
  unfold execSmoulderCcPoll at e
  try dsimp only at e
  cases e
  simp (maxDischargeDepth := 60) only [and_self, implies_true, within_refl, within_ite, within_mk, true_or, or_true, State.start_within, p_ember,
      p_timers]

theorem State.pinsAre_within {s : State} {pins : BitVec 3} (p_pins : P .pins = true) (hW0 : Within W P s0 s) : Within W P s0 (State.pinsAre s pins) :=
    by
  unfold State.pinsAre
  try dsimp only
  simp (maxDischargeDepth := 60) only [within_mk, true_or, or_true, p_pins, hW0]

theorem State.pstateRefuse_within {s : State} {code : Nat} (w01 : W 0x01 = true) (p_flue : P .flue = true) (hW0 : Within W P s0 s) : Within W P s0
    (State.pstateRefuse s code) := by
  unfold State.pstateRefuse
  try dsimp only
  simp (maxDischargeDepth := 60) only [and_true, pageOf_lit, pageKind_lit, Nat.reduceDiv, Nat.reduceLeDiff, Nat.reduceAdd, Nat.reduceMod, if_false,
      State.set_within, State.eventHost_within, w01, p_flue, hW0]

theorem State.wakeBanked_within {s : State} {w : Wake} {inEntry : Bool} (w01 : W 0x01 = true) (p_ember : P .ember = true) (p_flue : P .flue = true)
    (p_timers : P .timers = true) (hW0 : Within W P s0 s) : Within W P s0 (State.wakeBanked s w inEntry) := by
  unfold State.wakeBanked
  try dsimp only
  simp (maxDischargeDepth := 60) only [and_self, implies_true, within_ite, within_mk, true_or, or_true, State.stop_within, State.recordWake_within,
      State.start_within, w01, p_ember, p_flue, p_timers, hW0]

theorem State.pstateLit_within {s : State} (w01 : W 0x01 = true) (p_ember : P .ember = true) (p_flue : P .flue = true) (p_timers : P .timers = true)
    (hW0 : Within W P s0 s) : Within W P s0 (State.pstateLit s) := by
  unfold State.pstateLit
  try dsimp only
  (repeat' split) <;> (try simp (maxDischargeDepth := 60) only [and_true, pageOf_lit, pageKind_lit, Nat.reduceDiv, Nat.reduceLeDiff, Nat.reduceAdd,
      Nat.reduceMod, if_false, State.set_within, State.pstateRefuse_within, State.wakeBanked_within, w01, p_ember, p_flue, p_timers, hW0])

theorem execReqLit_within {s : State} (w01 : W 0x01 = true) (p_ember : P .ember = true) (p_flue : P .flue = true) (p_timers : P .timers = true) {t :
    State} (e : execReqLit s = .next t) : Within W P s t := by
  unfold execReqLit at e
  try dsimp only at e
  cases e
  simp (maxDischargeDepth := 60) only [implies_true, within_refl, State.answered_within, State.pstateLit_within, w01, p_ember, p_flue, p_timers]

theorem State.toStep_within {s : State} {k : Nat} (p_ember : P .ember = true) (hW0 : Within W P s0 s) : Within W P s0 (State.toStep s k) := by
  unfold State.toStep
  try dsimp only
  simp (maxDischargeDepth := 60) only [within_mk, true_or, or_true, p_ember, hW0]

theorem execStartupRegulatorsInRange_within {supplies : BitVec 7} {tj : BitVec 8} {flips : List OtpFlip} {s : State} (w01 : W 0x01 = true) (w05 : W
    0x05 = true) (p_ember : P .ember = true) (p_flue : P .flue = true) (p_otp : P .otp = true)
    {t : State} (e : execStartupRegulatorsInRange supplies tj flips s = .next t) : Within W P s t := by
  unfold execStartupRegulatorsInRange at e
  injection e with e
  rw [← e]
  split
  · apply State.toStep_within <;> first
      | assumption
      | (apply State.otpSense_within <;> first | assumption | exact State.set_within suppliesField _ w01 (.refl s))
  · exact .refl s

theorem execResetNAsserted_within {s : State} (wAll : ∀ p, W p = true) (pAll : ∀ p, P p = true) {t : State} (e : execResetNAsserted s = .next t) :
    Within W P s t := by
  unfold execResetNAsserted at e
  try dsimp only at e
  cases e
  (repeat' split) <;> simp (maxDischargeDepth := 60) only [implies_true, within_refl, within_mk, true_or, or_true, State.wakeCold_within,
      State.wakeLatch_within, State.deviceReset_within, wAll, pAll]

theorem execResetNReleased_within {s : State} (p_ember : P .ember = true) {t : State} (e : execResetNReleased s = .next t) : Within W P s t := by
  unfold execResetNReleased at e
  try dsimp only at e
  cases e
  simp (maxDischargeDepth := 60) only [and_self, implies_true, within_refl, within_ite, within_mk, true_or, or_true, p_ember]

theorem State.portUnused_within {s : State} {n : Port} (w20 : W 0x20 = true) (p_boundary : P .boundary = true) (p_cc : P .cc = true) (p_timers : P
    .timers = true) (hW0 : Within W P s0 s) : Within W P s0 (State.portUnused s n) := by
  unfold State.portUnused
  try dsimp only
  simp (maxDischargeDepth := 60) only [State.present_within, w20, p_boundary, p_cc, p_timers, hW0]

theorem State.enablePorts_within {s : State} (w0A : W 0x0A = true) (w0B : W 0x0B = true) (w0C : W 0x0C = true) (w0F : W 0x0F = true) (w20 : W 0x20 =
    true) (w22 : W 0x22 = true) (w26 : W 0x26 = true) (w27 : W 0x27 = true) (p_boundary : P .boundary = true) (p_cc : P .cc = true) (p_flue : P .flue
    = true) (p_hA : P .hA = true) (p_hB : P .hB = true) (p_ntcFault : P .ntcFault = true) (p_ntcFitted : P .ntcFitted = true) (p_pol : P .pol = true)
    (p_timers : P .timers = true) (hW0 : Within W P s0 s) : Within W P s0 (State.enablePorts s) := by
  unfold State.enablePorts
  try dsimp only
  simp (maxDischargeDepth := 60) only [and_self, and_true, implies_true, within_refl, within_ite, pageOf_lit, pageKind_lit, pageOf_add, within_foldl,
      pageKind_portPage, Nat.reduceDiv, Nat.reduceLeDiff, Nat.reduceAdd, Nat.reduceMod, Nat.reduceLT, if_false, State.ntcFit_within, State.set_within,
      State.portUnused_within, State.ownTake_within, State.present_within, State.enablePort_within, w0A, w0B, w0C, w0F, w20, w22, w26, w27,
      p_boundary, p_cc, p_flue, p_hA, p_hB, p_ntcFault, p_ntcFitted, p_pol, p_timers, hW0]

theorem execStartupTablesLoaded_within {s : State} (w0A : W 0x0A = true) (w0B : W 0x0B = true) (w0C : W 0x0C = true) (w0F : W 0x0F = true) (w20 : W
    0x20 = true) (w22 : W 0x22 = true) (w26 : W 0x26 = true) (w27 : W 0x27 = true) (p_boundary : P .boundary = true) (p_cc : P .cc = true) (p_ember :
    P .ember = true) (p_flue : P .flue = true) (p_hA : P .hA = true) (p_hB : P .hB = true) (p_ntcFault : P .ntcFault = true) (p_ntcFitted : P
    .ntcFitted = true) (p_pol : P .pol = true) (p_timers : P .timers = true) {t : State} (e : execStartupTablesLoaded s = .next t) : Within W P s t :=
    by
  unfold execStartupTablesLoaded at e
  try dsimp only at e
  cases e
  simp (maxDischargeDepth := 60) only [and_self, implies_true, within_refl, within_ite, State.toStep_within, State.enablePorts_within, w0A, w0B, w0C,
      w0F, w20, w22, w26, w27, p_boundary, p_cc, p_ember, p_flue, p_hA, p_hB, p_ntcFault, p_ntcFitted, p_pol, p_timers]

theorem State.pstateRequest_within {s : State} {target : DevState} {needKey : Bool} (w01 : W 0x01 = true) (p_ember : P .ember = true) (p_flue : P
    .flue = true) (p_timers : P .timers = true) (hW0 : Within W P s0 s) : Within W P s0 (State.pstateRequest s target needKey) := by
  unfold State.pstateRequest
  try dsimp only
  simp (maxDischargeDepth := 60) only [and_self, and_true, implies_true, within_ite, within_mk, pageOf_lit, pageKind_lit, Nat.reduceDiv,
      Nat.reduceLeDiff, Nat.reduceAdd, Nat.reduceMod, if_false, true_or, or_true, State.set_within, State.pstateRefuse_within, State.start_within,
      w01, p_ember, p_flue, p_timers, hW0]

theorem execKindlingStop_within {s : State} (wAll : ∀ p, W p = true) (pAll : ∀ p, P p = true) {t : State}
    (e : execKindlingStop s = .next t) : Within W P s t := by
  have r : Within W P s s := .refl s
  unfold execKindlingStop at e
  injection e with e
  rw [← e]
  split
  · next n _ =>
    have o : Within W P s (s.openPath n) := by apply State.openPath_within <;> first | assumption | exact wAll _ | exact pAll _
    have a : Within W P s ((s.openPath n).stageOff n) := by apply State.stageOff_within <;> first | assumption | exact wAll _ | exact pAll _
    extract_lets t1 t2
    split
    · have b0 : Within W P s (t1.set F.EMB_STATUS_src_kindle 0) := State.set_within _ _ (wAll _) a
      have b : Within W P s t2 := by apply State.enterState_within <;> first | assumption | exact wAll _ | exact pAll _
      exact b.trans (.all wAll pAll rfl id)
    · exact .all wAll pAll rfl fun _ => rfl
  · exact r

theorem State.bootDone_within {s : State} (w00 : W 0x00 = true) (w26 : W 0x26 = true) (p_ember : P .ember = true) (p_flue : P .flue = true) (p_fnd : P
    .fnd = true) (p_timers : P .timers = true) (hW0 : Within W P s0 s) : Within W P s0 (State.bootDone s) := by
  unfold State.bootDone
  try dsimp only
  simp (maxDischargeDepth := 60) only [and_true, implies_true, within_refl, within_mk, pageOf_lit, pageKind_lit, Nat.reduceDiv, Nat.reduceLeDiff,
      Nat.reduceAdd, Nat.reduceMod, if_false, true_or, or_true, State.bump_within, State.event_within, State.allPorts_within, State.start_within,
      State.pathTry_within, w00, w26, p_ember, p_flue, p_fnd, p_timers, hW0]

theorem execStartupPortsEnabled_within {s : State} (w00 : W 0x00 = true) (w26 : W 0x26 = true) (p_ember : P .ember = true) (p_flue : P .flue = true)
    (p_fnd : P .fnd = true) (p_timers : P .timers = true) {t : State} (e : execStartupPortsEnabled s = .next t) : Within W P s t := by
  unfold execStartupPortsEnabled at e
  try dsimp only at e
  cases e
  simp (maxDischargeDepth := 60) only [and_self, implies_true, within_refl, within_ite, State.bootDone_within, w00, w26, p_ember, p_flue, p_fnd,
      p_timers]

theorem execStateEntryComplete_within {s : State} (wAll : ∀ p, W p = true) (pAll : ∀ p, P p = true) {t : State} (e : execStateEntryComplete s = .next
    t) : Within W P s t := by
  unfold execStateEntryComplete at e
  try dsimp only at e
  cases e
  (repeat' split) <;> simp (maxDischargeDepth := 60) only [implies_true, within_refl, within_mk, true_or, or_true, State.enterState_within,
      State.wakeBanked_within, State.wakeSmoulder_within, State.wakeCold_within, wAll, pAll]

theorem State.sampleAddr_within {s : State} {pins : BitVec 3} (w06 : W 0x06 = true) (hW0 : Within W P s0 s) : Within W P s0 (State.sampleAddr s pins)
    := by
  unfold State.sampleAddr
  try dsimp only
  simp (maxDischargeDepth := 60) only [and_true, pageOf_lit, pageKind_lit, Nat.reduceDiv, Nat.reduceLeDiff, Nat.reduceAdd, Nat.reduceMod, if_false,
      State.setB_within, State.set_within, w06, hW0]

theorem execStartupSensingComplete_within {pins : BitVec 3} {s : State} (w02 : W 0x02 = true) (w05 : W 0x05 = true) (w06 : W 0x06 = true) (w08 : W
    0x08 = true) (w0A : W 0x0A = true) (w0D : W 0x0D = true) (w20 : W 0x20 = true) (w24 : W 0x24 = true) (w26 : W 0x26 = true) (p_ember : P .ember =
    true) (p_fallbackI : P .fallbackI = true) (p_fallbackV : P .fallbackV = true) (p_flue : P .flue = true) (p_otp : P .otp = true) (p_pins : P .pins
    = true) {t : State} (e : execStartupSensingComplete pins s = .next t) : Within W P s t := by
  unfold execStartupSensingComplete at e
  try dsimp only at e
  cases e
  (repeat' split) <;> simp (maxDischargeDepth := 60) only [and_true, within_refl, within_mk, pageOf_lit, pageKind_lit, Nat.reduceDiv,
      Nat.reduceLeDiff, Nat.reduceAdd, Nat.reduceMod, if_false, true_or, or_true, State.sampleAddr_within, State.otpDeliver_within,
      State.pinsAre_within, State.set_within, State.toStep_within, w02, w05, w06, w08, w0A, w0D, w20, w24, w26, p_ember, p_fallbackI, p_fallbackV,
      p_flue, p_otp, p_pins]

theorem execWakeFromBanked_within {w : Wake} {s : State} (w01 : W 0x01 = true) (p_ember : P .ember = true) (p_flue : P .flue = true) (p_timers : P
    .timers = true) {t : State} (e : execWakeFromBanked w s = .next t) : Within W P s t := by
  unfold execWakeFromBanked at e
  try dsimp only at e
  cases e
  simp (maxDischargeDepth := 60) only [and_self, implies_true, within_refl, within_ite, State.wakeBanked_within, w01, p_ember, p_flue, p_timers]

theorem execKindleStall_within {s : State} (w00 : W 0x00 = true) (w03 : W 0x03 = true) (w04 : W 0x04 = true) (w07 : W 0x07 = true) (w08 : W 0x08 =
    true) (w09 : W 0x09 = true) (w0A : W 0x0A = true) (w0D : W 0x0D = true) (w0F : W 0x0F = true) (w13 : W 0x13 = true) (w20 : W 0x20 = true) (w21 : W
    0x21 = true) (w22 : W 0x22 = true) (w23 : W 0x23 = true) (w24 : W 0x24 = true) (w26 : W 0x26 = true) (w27 : W 0x27 = true) (p_auth : P .auth =
    true) (p_boundary : P .boundary = true) (p_cc : P .cc = true) (p_draught : P .draught = true) (p_ember : P .ember = true) (p_feeds : P .feeds =
    true) (p_flue : P .flue = true) (p_fnd : P .fnd = true) (p_fresh : P .fresh = true) (p_hA : P .hA = true) (p_hB : P .hB = true) (p_hearths : P
    .hearths = true) (p_inputs : P .inputs = true) (p_lanes : P .lanes = true) (p_lp : P .lp = true) (p_msg : P .msg = true) (p_pol : P .pol = true)
    (p_thn : P .thn = true) (p_timers : P .timers = true) (p_vdm : P .vdm = true) {t : State} (e : execKindleStall s = .next t) : Within W P s t := by
  unfold execKindleStall at e
  try dsimp only at e
  cases e
  (repeat' split) <;> simp (maxDischargeDepth := 60) only [within_refl, State.stageOff_within, State.stop_within, State.reportNow_within, w00, w03,
      w04, w07, w08, w09, w0A, w0D, w0F, w13, w20, w21, w22, w23, w24, w26, w27, p_auth, p_boundary, p_cc, p_draught, p_ember, p_feeds, p_flue, p_fnd,
      p_fresh, p_hA, p_hB, p_hearths, p_inputs, p_lanes, p_lp, p_msg, p_pol, p_thn, p_timers, p_vdm]

theorem execReqCold_within {s : State} (w01 : W 0x01 = true) (p_ember : P .ember = true) (p_flue : P .flue = true) (p_timers : P .timers = true) {t :
    State} (e : execReqCold s = .next t) : Within W P s t := by
  unfold execReqCold at e
  try dsimp only at e
  cases e
  simp (maxDischargeDepth := 60) only [implies_true, within_refl, State.answered_within, State.pstateRequest_within, w01, p_ember, p_flue, p_timers]

theorem State.vsysRise_within {s : State} (wAll : ∀ p, W p = true) (pAll : ∀ p, P p = true) (hW0 : Within W P s0 s) : Within W P s0 (State.vsysRise s)
    := by
  unfold State.vsysRise
  try dsimp only
  (repeat' split) <;> (try simp (maxDischargeDepth := 60) only [and_true, implies_true, pageOf_lit, pageKind_lit, Nat.reduceDiv, Nat.reduceLeDiff,
      Nat.reduceAdd, Nat.reduceMod, if_false, State.setB_within, State.wakeSmoulder_within, State.wakeCold_within, wAll, pAll, hW0])

theorem execEdramRefresh_within {s : State} (p_timers : P .timers = true) {t : State} (e : execEdramRefresh s = .next t) : Within W P s t := by
  unfold execEdramRefresh at e
  try dsimp only at e
  cases e
  simp (maxDischargeDepth := 60) only [and_self, implies_true, within_refl, within_ite, State.start_within, p_timers]

theorem execKindleHandover_within {s : State} (w00 : W 0x00 = true) (w01 : W 0x01 = true) (w0A : W 0x0A = true) (w0B : W 0x0B = true) (w0C : W 0x0C =
    true) (w0D : W 0x0D = true) (w0E : W 0x0E = true) (w0F : W 0x0F = true) (w20 : W 0x20 = true) (w22 : W 0x22 = true) (w26 : W 0x26 = true) (w27 : W
    0x27 = true) (p_boundary : P .boundary = true) (p_cc : P .cc = true) (p_ember : P .ember = true) (p_flue : P .flue = true) (p_fnd : P .fnd = true)
    (p_hA : P .hA = true) (p_hB : P .hB = true) (p_hearths : P .hearths = true) (p_ntcFault : P .ntcFault = true) (p_ntcFitted : P .ntcFitted = true)
    (p_pol : P .pol = true) (p_timers : P .timers = true) {t : State} (e : execKindleHandover s = .next t) : Within W P s t := by
  unfold execKindleHandover at e
  try dsimp only at e
  cases e
  (repeat' split) <;> simp (maxDischargeDepth := 60) only [and_true, within_refl, within_mk, pageOf_lit, pageKind_lit, Nat.reduceDiv,
      Nat.reduceLeDiff, Nat.reduceAdd, Nat.reduceMod, if_false, true_or, or_true, State.set_within, State.bootDone_within, State.enablePorts_within,
      State.stop_within, State.modeStart_within, w00, w01, w0A, w0B, w0C, w0D, w0E, w0F, w20, w22, w26, w27, p_boundary, p_cc, p_ember, p_flue, p_fnd,
      p_hA, p_hB, p_hearths, p_ntcFault, p_ntcFitted, p_pol, p_timers]

theorem execVdrvUndervoltage_within {s : State} (w00 : W 0x00 = true) (w01 : W 0x01 = true) (w03 : W 0x03 = true) (w04 : W 0x04 = true) (w07 : W 0x07
    = true) (w08 : W 0x08 = true) (w09 : W 0x09 = true) (w0A : W 0x0A = true) (w0D : W 0x0D = true) (w0F : W 0x0F = true) (w13 : W 0x13 = true) (w20 :
    W 0x20 = true) (w21 : W 0x21 = true) (w22 : W 0x22 = true) (w23 : W 0x23 = true) (w24 : W 0x24 = true) (w26 : W 0x26 = true) (w27 : W 0x27 = true)
    (p_auth : P .auth = true) (p_boundary : P .boundary = true) (p_cc : P .cc = true) (p_draught : P .draught = true) (p_ember : P .ember = true)
    (p_feeds : P .feeds = true) (p_flue : P .flue = true) (p_fnd : P .fnd = true) (p_fresh : P .fresh = true) (p_hA : P .hA = true) (p_hB : P .hB =
    true) (p_hearths : P .hearths = true) (p_inputs : P .inputs = true) (p_lanes : P .lanes = true) (p_lp : P .lp = true) (p_msg : P .msg = true)
    (p_pol : P .pol = true) (p_thn : P .thn = true) (p_timers : P .timers = true) (p_vdm : P .vdm = true) {t : State} (e : execVdrvUndervoltage s =
    .next t) : Within W P s t := by
  unfold execVdrvUndervoltage at e
  try dsimp only at e
  cases e
  simp (maxDischargeDepth := 60) only [and_self, and_true, implies_true, within_refl, within_ite, pageOf_lit, pageKind_lit, Nat.reduceDiv,
      Nat.reduceLeDiff, Nat.reduceAdd, Nat.reduceMod, if_false, State.setB_within, State.reportNow_within, w00, w01, w03, w04, w07, w08, w09, w0A,
      w0D, w0F, w13, w20, w21, w22, w23, w24, w26, w27, p_auth, p_boundary, p_cc, p_draught, p_ember, p_feeds, p_flue, p_fnd, p_fresh, p_hA, p_hB,
      p_hearths, p_inputs, p_lanes, p_lp, p_msg, p_pol, p_thn, p_timers, p_vdm]

theorem State.softReset_within {s : State} (wAll : ∀ p, W p = true) (pAll : ∀ p, P p = true) (hW0 : Within W P s0 s) : Within W P s0 (State.softReset
    s) := by
  unfold State.softReset
  try dsimp only
  simp (maxDischargeDepth := 60) only [and_self, and_true, implies_true, within_ite, pageOf_lit, pageKind_lit, Nat.reduceDiv, Nat.reduceLeDiff,
      Nat.reduceAdd, Nat.reduceMod, if_false, State.set_within, State.eventHost_within, State.sampleAddr_within, State.deviceReset_within, wAll, pAll,
      hW0]

theorem execSoftReset_within {pins : BitVec 3} {s : State} (wAll : ∀ p, W p = true) (pAll : ∀ p, P p = true) {t : State} (e : execSoftReset pins s =
    .next t) : Within W P s t := by
  unfold execSoftReset at e
  try dsimp only at e
  cases e
  simp (maxDischargeDepth := 60) only [implies_true, within_refl, State.answered_within, State.softReset_within, State.pinsAre_within, wAll, pAll]

theorem State.bootRoles_within {s : State} {m : HMode} {a : Role} {b : Role} {fenced : Bool} (w0D : W 0x0D = true) (w0E : W 0x0E = true) (p_apart : P
    .apart = true) (p_hearths : P .hearths = true) (hW0 : Within W P s0 s) : Within W P s0 (State.bootRoles s m a b fenced) := by
  unfold State.bootRoles
  try dsimp only
  simp (maxDischargeDepth := 60) only [within_mk, true_or, or_true, State.setRail_within, State.roleBump_within, w0D, w0E, p_apart, p_hearths, hW0]

theorem execWakeFromSmoulder_within {w : Wake} {s : State} (wAll : ∀ p, W p = true) (pAll : ∀ p, P p = true) {t : State} (e : execWakeFromSmoulder w s
    = .next t) : Within W P s t := by
  unfold execWakeFromSmoulder at e
  try dsimp only at e
  cases e
  simp (maxDischargeDepth := 60) only [and_self, implies_true, within_refl, within_ite, State.vsysRise_within, State.wakeSmoulder_within,
      State.wakeLatch_within, wAll, pAll]

theorem execEmberSourceLost_within {src : Fin 3} {s : State} (w01 : W 0x01 = true) (p_flue : P .flue = true) {t : State} (e : execEmberSourceLost src
    s = .next t) : Within W P s t := by
  unfold execEmberSourceLost at e
  try dsimp only at e
  cases e
  simp (maxDischargeDepth := 60) only [and_true, within_refl, pageOf_lit, pageKind_lit, Nat.reduceDiv, Nat.reduceLeDiff, Nat.reduceAdd, Nat.reduceMod,
      if_false, State.event_within, State.set_within, w01, p_flue]

theorem execReqSmoulder_within {s : State} (w01 : W 0x01 = true) (p_ember : P .ember = true) (p_flue : P .flue = true) (p_timers : P .timers = true)
    {t : State} (e : execReqSmoulder s = .next t) : Within W P s t := by
  unfold execReqSmoulder at e
  try dsimp only at e
  cases e
  simp (maxDischargeDepth := 60) only [implies_true, within_refl, State.answered_within, State.pstateRequest_within, w01, p_ember, p_flue, p_timers]

theorem execEmberSupplyLost_within {s : State} (wAll : ∀ p, W p = true) (pAll : ∀ p, P p = true) {t : State}
    (e : execEmberSupplyLost s = .next t) : Within W P s t := by
  unfold execEmberSupplyLost at e
  injection e with e
  rw [← e]
  exact .all wAll pAll rfl fun _ => rfl

theorem execCoarseAlarm_within {s : State} (wAll : ∀ p, W p = true) (pAll : ∀ p, P p = true) {t : State} (e : execCoarseAlarm s = .next t) : Within W
    P s t := by
  unfold execCoarseAlarm at e
  try dsimp only at e
  cases e
  simp (maxDischargeDepth := 60) only [and_self, and_true, implies_true, within_refl, within_ite, within_mk, pageOf_lit, pageKind_lit, Nat.reduceDiv,
      Nat.reduceLeDiff, Nat.reduceAdd, Nat.reduceMod, if_false, true_or, or_true, State.set_within, State.wakeSmoulder_within, wAll, pAll]

theorem execReqBanked_within {s : State} (w01 : W 0x01 = true) (p_ember : P .ember = true) (p_flue : P .flue = true) (p_timers : P .timers = true) {t
    : State} (e : execReqBanked s = .next t) : Within W P s t := by
  unfold execReqBanked at e
  try dsimp only at e
  cases e
  simp (maxDischargeDepth := 60) only [implies_true, within_refl, State.answered_within, State.pstateRequest_within, w01, p_ember, p_flue, p_timers]

theorem State.pstateReserved_within {s : State} (w01 : W 0x01 = true) (p_flue : P .flue = true) (hW0 : Within W P s0 s) : Within W P s0
    (State.pstateReserved s) := by
  unfold State.pstateReserved
  try dsimp only
  simp (maxDischargeDepth := 60) only [and_true, pageOf_lit, pageKind_lit, Nat.reduceDiv, Nat.reduceLeDiff, Nat.reduceAdd, Nat.reduceMod, if_false,
      State.pstateRefuse_within, State.set_within, w01, p_flue, hW0]

theorem State.fuseHoldEnter_within {s : State} (w03 : W 0x03 = true) (w05 : W 0x05 = true) (w06 : W 0x06 = true) (p_auth : P .auth = true) (p_ember :
    P .ember = true) (p_hA : P .hA = true) (p_hB : P .hB = true) (p_hearths : P .hearths = true) (p_inputs : P .inputs = true) (p_timers : P .timers =
    true) (hW0 : Within W P s0 s) : Within W P s0 (State.fuseHoldEnter s) := by
  unfold State.fuseHoldEnter
  try dsimp only
  simp (maxDischargeDepth := 60) only [and_true, within_mk, pageOf_lit, pageKind_lit, Nat.reduceDiv, Nat.reduceLeDiff, Nat.reduceAdd, Nat.reduceMod,
      if_false, true_or, or_true, State.unpowered_within, State.stop_within, State.set_within, w03, w05, w06, p_auth, p_ember, p_hA, p_hB, p_hearths,
      p_inputs, p_timers, hW0]

theorem execBankedExitResense_within {flips : List OtpFlip} {s : State} (w03 : W 0x03 = true) (w05 : W 0x05 = true) (w06 : W 0x06 = true) (w26 : W
    0x26 = true) (p_auth : P .auth = true) (p_ember : P .ember = true) (p_flue : P .flue = true) (p_fnd : P .fnd = true) (p_hA : P .hA = true) (p_hB :
    P .hB = true) (p_hearths : P .hearths = true) (p_inputs : P .inputs = true) (p_otp : P .otp = true) (p_timers : P .timers = true) {t : State} (e :
    execBankedExitResense flips s = .next t) : Within W P s t := by
  unfold execBankedExitResense at e
  try dsimp only at e
  cases e
  simp (maxDischargeDepth := 60) only [and_self, implies_true, within_refl, within_ite, within_mk, true_or, or_true, State.otpResense_within,
      State.fuseHoldEnter_within, State.allPorts_within, State.pathTry_within, w03, w05, w06, w26, p_auth, p_ember, p_flue, p_fnd, p_hA, p_hB,
      p_hearths, p_inputs, p_otp, p_timers]

theorem execWakeFromCold_within {w : Wake} {s : State} (wAll : ∀ p, W p = true) (pAll : ∀ p, P p = true) {t : State} (e : execWakeFromCold w s = .next
    t) : Within W P s t := by
  unfold execWakeFromCold at e
  try dsimp only at e
  cases e
  simp (maxDischargeDepth := 60) only [and_self, implies_true, within_refl, within_ite, State.vsysRise_within, State.wakeCold_within,
      State.wakeLatch_within, wAll, pAll]

theorem execPowerOnReset_within {s : State} (wAll : ∀ p, W p = true) (pAll : ∀ p, P p = true) {t : State} (e : execPowerOnReset s = .next t) : Within
    W P s t := by
  unfold execPowerOnReset at e
  try dsimp only at e
  cases e
  simp (maxDischargeDepth := 60) only [implies_true, within_refl, State.coldLatchRead_within, State.deviceReset_within, wAll, pAll]

theorem execKindlePathClose_within {s : State} (w24 : W 0x24 = true) (w26 : W 0x26 = true) (p_boundary : P .boundary = true) (p_ember : P .ember =
    true) (p_flue : P .flue = true) (p_fnd : P .fnd = true) (p_lp : P .lp = true) (p_timers : P .timers = true) {t : State} (e : execKindlePathClose s
    = .next t) : Within W P s t := by
  unfold execKindlePathClose at e
  try dsimp only at e
  cases e
  (repeat' split) <;> simp (maxDischargeDepth := 60) only [within_refl, within_mk, true_or, or_true, State.stageRun_within, State.closePath_within,
      State.start_within, w24, w26, p_boundary, p_ember, p_flue, p_fnd, p_lp, p_timers]

/-! ### FlueCmd -/

theorem State.reportPath_within {s : State} {c : Nat} {u : Nat} {access : Nat} (w03 : W 0x03 = true) (p_flue : P .flue = true) (hW0 : Within W P s0 s)
    : Within W P s0 (State.reportPath s c u access) := by
  unfold State.reportPath
  try dsimp only
  simp (maxDischargeDepth := 60) only [and_true, pageOf_lit, pageKind_lit, Nat.reduceDiv, Nat.reduceLeDiff, Nat.reduceAdd, Nat.reduceMod, if_false,
      State.report_within, State.set_within, w03, p_flue, hW0]

theorem State.reportPathBroken_within {s : State} {c : Nat} {u : Nat} {access : Nat} (w03 : W 0x03 = true) (p_flue : P .flue = true) (hW0 : Within W P
    s0 s) : Within W P s0 (State.reportPathBroken s c u access) := by
  unfold State.reportPathBroken
  try dsimp only
  simp (maxDischargeDepth := 60) only [and_self, implies_true, within_ite, within_mk, true_or, or_true, State.reportPath_within, w03, p_flue, hW0]

theorem execReportPathBroken_within {source : BitVec 8} {unit : BitVec 8} {s : State} (w03 : W 0x03 = true) (p_flue : P .flue = true) {t : State} (e :
    execReportPathBroken source unit s = .next t) : Within W P s t := by
  unfold execReportPathBroken at e
  try dsimp only at e
  cases e
  simp (maxDischargeDepth := 60) only [within_refl, State.reportPathBroken_within, w03, p_flue]

theorem State.sootClear_within {s : State} {key : Bool} (w04 : W 0x04 = true) (hW0 : Within W P s0 s) : Within W P s0 (State.sootClear s key) := by
  unfold State.sootClear
  try dsimp only
  simp (maxDischargeDepth := 60) only [and_self, and_true, implies_true, within_refl, within_ite, pageKind_lit, pageOf_fin4, within_foldl_range,
      Nat.reduceDiv, Nat.reduceLeDiff, Nat.reduceMul, Nat.reduceAdd, Nat.reduceMod, Nat.reduceLT, if_false, State.set_within, w04, hW0]

theorem execAshSootClear_within {s : State} (w04 : W 0x04 = true) {t : State} (e : execAshSootClear s = .next t) : Within W P s t := by
  unfold execAshSootClear at e
  try dsimp only at e
  cases e
  simp (maxDischargeDepth := 60) only [and_true, implies_true, within_refl, pageOf_lit, pageKind_lit, Nat.reduceDiv, Nat.reduceLeDiff, Nat.reduceAdd,
      Nat.reduceMod, if_false, State.answered_within, State.sootClear_within, State.set_within, w04]

theorem State.testHold_within {s : State} (w03 : W 0x03 = true) (p_flue : P .flue = true) (hW0 : Within W P s0 s) : Within W P s0 (State.testHold s)
    := by
  unfold State.testHold
  try dsimp only
  simp (maxDischargeDepth := 60) only [and_self, implies_true, within_ite, within_mk, true_or, or_true, State.reportPath_within, w03, p_flue, hW0]

theorem State.portFence_within {s : State} {n : Port} (w04 : W 0x04 = true) (w07 : W 0x07 = true) (w08 : W 0x08 = true) (w09 : W 0x09 = true) (w0B : W
    0x0B = true) (w0C : W 0x0C = true) (w13 : W 0x13 = true) (w20 : W 0x20 = true) (w21 : W 0x21 = true) (w22 : W 0x22 = true) (w23 : W 0x23 = true)
    (w24 : W 0x24 = true) (w26 : W 0x26 = true) (w27 : W 0x27 = true) (p_auth : P .auth = true) (p_boundary : P .boundary = true) (p_cc : P .cc =
    true) (p_draught : P .draught = true) (p_flue : P .flue = true) (p_fnd : P .fnd = true) (p_fresh : P .fresh = true) (p_lanes : P .lanes = true)
    (p_lp : P .lp = true) (p_msg : P .msg = true) (p_pol : P .pol = true) (p_thn : P .thn = true) (p_timers : P .timers = true) (p_vdm : P .vdm =
    true) (hW0 : Within W P s0 s) : Within W P s0 (State.portFence s n) := by
  unfold State.portFence
  try dsimp only
  simp (maxDischargeDepth := 60) only [State.disablePort_within, State.modPol_within, State.advanceEpoch_within, w04, w07, w08, w09, w0B, w0C, w13,
      w20, w21, w22, w23, w24, w26, w27, p_auth, p_boundary, p_cc, p_draught, p_flue, p_fnd, p_fresh, p_lanes, p_lp, p_msg, p_pol, p_thn, p_timers,
      p_vdm, hW0]

theorem State.closeAll_within {s : State} (w00 : W 0x00 = true) (w03 : W 0x03 = true) (w04 : W 0x04 = true) (w07 : W 0x07 = true) (w08 : W 0x08 =
    true) (w09 : W 0x09 = true) (w0A : W 0x0A = true) (w0B : W 0x0B = true) (w0C : W 0x0C = true) (w0D : W 0x0D = true) (w0F : W 0x0F = true) (w13 : W
    0x13 = true) (w20 : W 0x20 = true) (w21 : W 0x21 = true) (w22 : W 0x22 = true) (w23 : W 0x23 = true) (w24 : W 0x24 = true) (w26 : W 0x26 = true)
    (w27 : W 0x27 = true) (p_auth : P .auth = true) (p_boundary : P .boundary = true) (p_cc : P .cc = true) (p_draught : P .draught = true) (p_ember :
    P .ember = true) (p_feeds : P .feeds = true) (p_flue : P .flue = true) (p_fnd : P .fnd = true) (p_fresh : P .fresh = true) (p_hA : P .hA = true)
    (p_hB : P .hB = true) (p_hearths : P .hearths = true) (p_inputs : P .inputs = true) (p_lanes : P .lanes = true) (p_lp : P .lp = true) (p_msg : P
    .msg = true) (p_pol : P .pol = true) (p_thn : P .thn = true) (p_timers : P .timers = true) (p_vdm : P .vdm = true) (hW0 : Within W P s0 s) :
    Within W P s0 (State.closeAll s) := by
  unfold State.closeAll
  try dsimp only
  simp (maxDischargeDepth := 60) only [and_self, and_true, implies_true, within_refl, within_ite, pageOf_lit, pageKind_lit, within_foldl,
      Nat.reduceDiv, Nat.reduceLeDiff, Nat.reduceAdd, Nat.reduceMod, if_false, State.flueDrain_within, State.set_within, State.recClose_within, w00,
      w03, w04, w07, w08, w09, w0A, w0B, w0C, w0D, w0F, w13, w20, w21, w22, w23, w24, w26, w27, p_auth, p_boundary, p_cc, p_draught, p_ember, p_feeds,
      p_flue, p_fnd, p_fresh, p_hA, p_hB, p_hearths, p_inputs, p_lanes, p_lp, p_msg, p_pol, p_thn, p_timers, p_vdm, hW0]

theorem State.fluKeyClear_within {s : State} (w03 : W 0x03 = true) (hW0 : Within W P s0 s) : Within W P s0 (State.fluKeyClear s) := by
  unfold State.fluKeyClear
  try dsimp only
  simp (maxDischargeDepth := 60) only [and_true, pageOf_lit, pageKind_lit, Nat.reduceDiv, Nat.reduceLeDiff, Nat.reduceAdd, Nat.reduceMod, if_false,
      State.set_within, w03, hW0]

theorem execFluCloseAll_within {s : State} (w00 : W 0x00 = true) (w03 : W 0x03 = true) (w04 : W 0x04 = true) (w07 : W 0x07 = true) (w08 : W 0x08 =
    true) (w09 : W 0x09 = true) (w0A : W 0x0A = true) (w0B : W 0x0B = true) (w0C : W 0x0C = true) (w0D : W 0x0D = true) (w0F : W 0x0F = true) (w13 : W
    0x13 = true) (w20 : W 0x20 = true) (w21 : W 0x21 = true) (w22 : W 0x22 = true) (w23 : W 0x23 = true) (w24 : W 0x24 = true) (w26 : W 0x26 = true)
    (w27 : W 0x27 = true) (p_auth : P .auth = true) (p_boundary : P .boundary = true) (p_cc : P .cc = true) (p_draught : P .draught = true) (p_ember :
    P .ember = true) (p_feeds : P .feeds = true) (p_flue : P .flue = true) (p_fnd : P .fnd = true) (p_fresh : P .fresh = true) (p_hA : P .hA = true)
    (p_hB : P .hB = true) (p_hearths : P .hearths = true) (p_inputs : P .inputs = true) (p_lanes : P .lanes = true) (p_lp : P .lp = true) (p_msg : P
    .msg = true) (p_pol : P .pol = true) (p_thn : P .thn = true) (p_timers : P .timers = true) (p_vdm : P .vdm = true) {t : State} (e :
    execFluCloseAll s = .next t) : Within W P s t := by
  unfold execFluCloseAll at e
  try dsimp only at e
  cases e
  simp (maxDischargeDepth := 60) only [implies_true, within_refl, State.answered_within, State.closeAll_within, State.fluKeyClear_within, w00, w03,
      w04, w07, w08, w09, w0A, w0B, w0C, w0D, w0F, w13, w20, w21, w22, w23, w24, w26, w27, p_auth, p_boundary, p_cc, p_draught, p_ember, p_feeds,
      p_flue, p_fnd, p_fresh, p_hA, p_hB, p_hearths, p_inputs, p_lanes, p_lp, p_msg, p_pol, p_thn, p_timers, p_vdm]

theorem execLevel3AutoReset_within {s : State} (wAll : ∀ p, W p = true) (pAll : ∀ p, P p = true) {t : State} (e : execLevel3AutoReset s = .next t) :
    Within W P s t := by
  unfold execLevel3AutoReset at e
  try dsimp only at e
  cases e
  simp (maxDischargeDepth := 60) only [and_self, and_true, implies_true, within_refl, within_ite, pageOf_lit, pageKind_lit, Nat.reduceDiv,
      Nat.reduceLeDiff, Nat.reduceAdd, Nat.reduceMod, if_false, State.deviceReset_within, State.bumpSat_within, wAll, pAll]

theorem State.hostClose_within {s : State} {g : Nat} {u : Nat} (w00 : W 0x00 = true) (w03 : W 0x03 = true) (w04 : W 0x04 = true) (w07 : W 0x07 = true)
    (w08 : W 0x08 = true) (w09 : W 0x09 = true) (w0A : W 0x0A = true) (w0B : W 0x0B = true) (w0C : W 0x0C = true) (w0D : W 0x0D = true) (w0F : W 0x0F
    = true) (w13 : W 0x13 = true) (w20 : W 0x20 = true) (w21 : W 0x21 = true) (w22 : W 0x22 = true) (w23 : W 0x23 = true) (w24 : W 0x24 = true) (w26 :
    W 0x26 = true) (w27 : W 0x27 = true) (p_auth : P .auth = true) (p_boundary : P .boundary = true) (p_cc : P .cc = true) (p_draught : P .draught =
    true) (p_ember : P .ember = true) (p_feeds : P .feeds = true) (p_flue : P .flue = true) (p_fnd : P .fnd = true) (p_fresh : P .fresh = true) (p_hA
    : P .hA = true) (p_hB : P .hB = true) (p_hearths : P .hearths = true) (p_inputs : P .inputs = true) (p_lanes : P .lanes = true) (p_lp : P .lp =
    true) (p_msg : P .msg = true) (p_pol : P .pol = true) (p_thn : P .thn = true) (p_timers : P .timers = true) (p_vdm : P .vdm = true) (hW0 : Within
    W P s0 s) : Within W P s0 (State.hostClose s g u) := by
  unfold State.hostClose
  try dsimp only
  (repeat' split) <;> (try simp (maxDischargeDepth := 60) only [and_true, pageOf_lit, pageKind_lit, Nat.reduceDiv, Nat.reduceLeDiff, Nat.reduceAdd,
      Nat.reduceMod, if_false, State.flueDrain_within, State.set_within, State.recClose_within, w00, w03, w04, w07, w08, w09, w0A, w0B, w0C, w0D, w0F,
      w13, w20, w21, w22, w23, w24, w26, w27, p_auth, p_boundary, p_cc, p_draught, p_ember, p_feeds, p_flue, p_fnd, p_fresh, p_hA, p_hB, p_hearths,
      p_inputs, p_lanes, p_lp, p_msg, p_pol, p_thn, p_timers, p_vdm, hW0])

theorem execFluCloseRecord_within {group : Fin 16} {unit : BitVec 8} {s : State} (w00 : W 0x00 = true) (w03 : W 0x03 = true) (w04 : W 0x04 = true)
    (w07 : W 0x07 = true) (w08 : W 0x08 = true) (w09 : W 0x09 = true) (w0A : W 0x0A = true) (w0B : W 0x0B = true) (w0C : W 0x0C = true) (w0D : W 0x0D
    = true) (w0F : W 0x0F = true) (w13 : W 0x13 = true) (w20 : W 0x20 = true) (w21 : W 0x21 = true) (w22 : W 0x22 = true) (w23 : W 0x23 = true) (w24 :
    W 0x24 = true) (w26 : W 0x26 = true) (w27 : W 0x27 = true) (p_auth : P .auth = true) (p_boundary : P .boundary = true) (p_cc : P .cc = true)
    (p_draught : P .draught = true) (p_ember : P .ember = true) (p_feeds : P .feeds = true) (p_flue : P .flue = true) (p_fnd : P .fnd = true) (p_fresh
    : P .fresh = true) (p_hA : P .hA = true) (p_hB : P .hB = true) (p_hearths : P .hearths = true) (p_inputs : P .inputs = true) (p_lanes : P .lanes =
    true) (p_lp : P .lp = true) (p_msg : P .msg = true) (p_pol : P .pol = true) (p_thn : P .thn = true) (p_timers : P .timers = true) (p_vdm : P .vdm
    = true) {t : State} (e : execFluCloseRecord group unit s = .next t) : Within W P s t := by
  unfold execFluCloseRecord at e
  try dsimp only at e
  cases e
  simp (maxDischargeDepth := 60) only [implies_true, within_refl, State.answered_within, State.hostClose_within, State.fluKeyClear_within, w00, w03,
      w04, w07, w08, w09, w0A, w0B, w0C, w0D, w0F, w13, w20, w21, w22, w23, w24, w26, w27, p_auth, p_boundary, p_cc, p_draught, p_ember, p_feeds,
      p_flue, p_fnd, p_fresh, p_hA, p_hB, p_hearths, p_inputs, p_lanes, p_lp, p_msg, p_pol, p_thn, p_timers, p_vdm]

theorem State.quietExpiry_within {s : State} {g : Nat} {u : Nat} (w00 : W 0x00 = true) (w03 : W 0x03 = true) (w04 : W 0x04 = true) (w07 : W 0x07 =
    true) (w08 : W 0x08 = true) (w09 : W 0x09 = true) (w0A : W 0x0A = true) (w0B : W 0x0B = true) (w0C : W 0x0C = true) (w0D : W 0x0D = true) (w0F : W
    0x0F = true) (w13 : W 0x13 = true) (w20 : W 0x20 = true) (w21 : W 0x21 = true) (w22 : W 0x22 = true) (w23 : W 0x23 = true) (w24 : W 0x24 = true)
    (w26 : W 0x26 = true) (w27 : W 0x27 = true) (p_auth : P .auth = true) (p_boundary : P .boundary = true) (p_cc : P .cc = true) (p_draught : P
    .draught = true) (p_ember : P .ember = true) (p_feeds : P .feeds = true) (p_flue : P .flue = true) (p_fnd : P .fnd = true) (p_fresh : P .fresh =
    true) (p_hA : P .hA = true) (p_hB : P .hB = true) (p_hearths : P .hearths = true) (p_inputs : P .inputs = true) (p_lanes : P .lanes = true) (p_lp
    : P .lp = true) (p_msg : P .msg = true) (p_pol : P .pol = true) (p_thn : P .thn = true) (p_timers : P .timers = true) (p_vdm : P .vdm = true) (hW0
    : Within W P s0 s) : Within W P s0 (State.quietExpiry s g u) := by
  unfold State.quietExpiry
  try dsimp only
  (repeat' split) <;> (try simp (maxDischargeDepth := 60) only [and_true, pageOf_lit, pageKind_lit, pageOf_rcv, Nat.reduceDiv, Nat.reduceLeDiff,
      Nat.reduceAdd, Nat.reduceMod, if_false, State.flueDrain_within, State.set_within, State.recClose_within, w00, w03, w04, w07, w08, w09, w0A, w0B,
      w0C, w0D, w0F, w13, w20, w21, w22, w23, w24, w26, w27, p_auth, p_boundary, p_cc, p_draught, p_ember, p_feeds, p_flue, p_fnd, p_fresh, p_hA,
      p_hB, p_hearths, p_inputs, p_lanes, p_lp, p_msg, p_pol, p_thn, p_timers, p_vdm, hW0])

theorem execQuietExpiry_within {group : Fin 13} {unit : BitVec 8} {s : State} (w00 : W 0x00 = true) (w03 : W 0x03 = true) (w04 : W 0x04 = true) (w07 :
    W 0x07 = true) (w08 : W 0x08 = true) (w09 : W 0x09 = true) (w0A : W 0x0A = true) (w0B : W 0x0B = true) (w0C : W 0x0C = true) (w0D : W 0x0D = true)
    (w0F : W 0x0F = true) (w13 : W 0x13 = true) (w20 : W 0x20 = true) (w21 : W 0x21 = true) (w22 : W 0x22 = true) (w23 : W 0x23 = true) (w24 : W 0x24
    = true) (w26 : W 0x26 = true) (w27 : W 0x27 = true) (p_auth : P .auth = true) (p_boundary : P .boundary = true) (p_cc : P .cc = true) (p_draught :
    P .draught = true) (p_ember : P .ember = true) (p_feeds : P .feeds = true) (p_flue : P .flue = true) (p_fnd : P .fnd = true) (p_fresh : P .fresh =
    true) (p_hA : P .hA = true) (p_hB : P .hB = true) (p_hearths : P .hearths = true) (p_inputs : P .inputs = true) (p_lanes : P .lanes = true) (p_lp
    : P .lp = true) (p_msg : P .msg = true) (p_pol : P .pol = true) (p_thn : P .thn = true) (p_timers : P .timers = true) (p_vdm : P .vdm = true) {t :
    State} (e : execQuietExpiry group unit s = .next t) : Within W P s t := by
  unfold execQuietExpiry at e
  try dsimp only at e
  cases e
  simp (maxDischargeDepth := 60) only [within_refl, State.quietExpiry_within, w00, w03, w04, w07, w08, w09, w0A, w0B, w0C, w0D, w0F, w13, w20, w21,
      w22, w23, w24, w26, w27, p_auth, p_boundary, p_cc, p_draught, p_ember, p_feeds, p_flue, p_fnd, p_fresh, p_hA, p_hB, p_hearths, p_inputs,
      p_lanes, p_lp, p_msg, p_pol, p_thn, p_timers, p_vdm]

theorem State.injectHearth_within {s : State} {c : Nat} {h : Hth} (w03 : W 0x03 = true) (p_flue : P .flue = true) (hW0 : Within W P s0 s) : Within W P
    s0 (State.injectHearth s c h) := by
  unfold State.injectHearth
  try dsimp only
  simp (maxDischargeDepth := 60) only [and_self, and_true, implies_true, within_ite, pageOf_lit, pageKind_lit, Nat.reduceDiv, Nat.reduceLeDiff,
      Nat.reduceAdd, Nat.reduceMod, if_false, State.report_within, State.set_within, w03, p_flue, hW0]

theorem State.inject_within {s : State} {v : Nat} (w03 : W 0x03 = true) (p_flue : P .flue = true) (hW0 : Within W P s0 s) : Within W P s0
    (State.inject s v) := by
  unfold State.inject
  try dsimp only
  simp (maxDischargeDepth := 60) only [and_self, implies_true, within_ite, State.fluKeyClear_within, State.report_within, State.injectHearth_within,
      State.testHold_within, w03, p_flue, hW0]

theorem execFluInject_within {value : Word} {s : State} (w03 : W 0x03 = true) (p_flue : P .flue = true) {t : State} (e : execFluInject value s = .next
    t) : Within W P s t := by
  unfold execFluInject at e
  try dsimp only at e
  cases e
  simp (maxDischargeDepth := 60) only [implies_true, within_refl, State.answered_within, State.inject_within, w03, p_flue]

theorem State.quietWatch_within {s : State} {r : FlueRecord} (p_timers : P .timers = true) (hW0 : Within W P s0 s) : Within W P s0 (State.quietWatch s
    r) := by
  unfold State.quietWatch
  try dsimp only
  simp (maxDischargeDepth := 60) only [and_self, implies_true, within_ite, State.stop_within, State.start_within, p_timers, hW0]

theorem flueTake_within {s : State} {c u : Nat} {l : List Report} (hf : ∀ (t : State) r, Within W P t (t.takeReport r)) (hW0 : Within W P s0 s) :
    Within W P s0 (flueTake c u l s).1 := by
  induction l generalizing s with
  | nil => exact hW0
  | cons r l ih =>
    unfold flueTake
    split
    · exact hW0.trans (hf _ _)
    · exact ih (hW0.trans (hf _ _))

theorem State.flueReport_within {s : State} {c u d : Nat} (w00 : W 0x00 = true) (w03 : W 0x03 = true) (w04 : W 0x04 = true) (w07 : W 0x07 = true) (w08
    : W 0x08 = true) (w09 : W 0x09 = true) (w0A : W 0x0A = true) (w0D : W 0x0D = true) (w0F : W 0x0F = true) (w13 : W 0x13 = true) (w20 : W 0x20 =
    true) (w21 : W 0x21 = true) (w22 : W 0x22 = true) (w23 : W 0x23 = true) (w24 : W 0x24 = true) (w26 : W 0x26 = true) (w27 : W 0x27 = true) (p_auth
    : P .auth = true) (p_boundary : P .boundary = true) (p_cc : P .cc = true) (p_draught : P .draught = true) (p_ember : P .ember = true) (p_feeds : P
    .feeds = true) (p_flue : P .flue = true) (p_fnd : P .fnd = true) (p_fresh : P .fresh = true) (p_hA : P .hA = true) (p_hB : P .hB = true)
    (p_hearths : P .hearths = true) (p_inputs : P .inputs = true) (p_lanes : P .lanes = true) (p_lp : P .lp = true) (p_msg : P .msg = true) (p_pol : P
    .pol = true) (p_thn : P .thn = true) (p_timers : P .timers = true) (p_vdm : P .vdm = true) (hW0 : Within W P s0 s) :
    Within W P s0 (s.flueReport c u d) := by
  have lit : ∀ (t : State) (x : Flue), Within W P t { t with flue := x } := fun t x => by simp only [within_mk, within_refl, p_flue, true_or, or_true]
  unfold State.flueReport
  extract_lets f1 s1 s2 later f2
  have a : Within W P s0 s2 := by
    have : Within W P s0 s1 := hW0.trans (lit s _)
    simp only [s2]
    split
    · exact this
    · exact State.report_within p_flue this
  have b := flueTake_within (c := c) (u := u) (l := reportSort (s2.flue.rails.filter s2.presented))
    (fun t r => by apply State.takeReport_within <;> first | assumption | exact .refl t) (a.trans (lit s2 { s2.flue with rails := [] }))
  split
  next t rest e =>
  have b' : Within W P s0 (t, rest).1 := e ▸ b
  exact b'.trans (lit t _)

theorem execFlueReport_within {source : BitVec 8} {unit : BitVec 8} {detail : BitVec 8} {s : State} (w00 : W 0x00 = true) (w03 : W 0x03 = true) (w04 :
    W 0x04 = true) (w07 : W 0x07 = true) (w08 : W 0x08 = true) (w09 : W 0x09 = true) (w0A : W 0x0A = true) (w0D : W 0x0D = true) (w0F : W 0x0F = true)
    (w13 : W 0x13 = true) (w20 : W 0x20 = true) (w21 : W 0x21 = true) (w22 : W 0x22 = true) (w23 : W 0x23 = true) (w24 : W 0x24 = true) (w26 : W 0x26
    = true) (w27 : W 0x27 = true) (p_auth : P .auth = true) (p_boundary : P .boundary = true) (p_cc : P .cc = true) (p_draught : P .draught = true)
    (p_ember : P .ember = true) (p_feeds : P .feeds = true) (p_flue : P .flue = true) (p_fnd : P .fnd = true) (p_fresh : P .fresh = true) (p_hA : P
    .hA = true) (p_hB : P .hB = true) (p_hearths : P .hearths = true) (p_inputs : P .inputs = true) (p_lanes : P .lanes = true) (p_lp : P .lp = true)
    (p_msg : P .msg = true) (p_pol : P .pol = true) (p_thn : P .thn = true) (p_timers : P .timers = true) (p_vdm : P .vdm = true) {t : State} (e :
    execFlueReport source unit detail s = .next t) : Within W P s t := by
  unfold execFlueReport at e
  try dsimp only at e
  cases e
  simp (maxDischargeDepth := 60) only [within_refl, State.flueReport_within, w00, w03, w04, w07, w08, w09, w0A, w0D, w0F, w13, w20, w21, w22, w23,
      w24, w26, w27, p_auth, p_boundary, p_cc, p_draught, p_ember, p_feeds, p_flue, p_fnd, p_fresh, p_hA, p_hB, p_hearths, p_inputs, p_lanes, p_lp,
      p_msg, p_pol, p_thn, p_timers, p_vdm]

theorem State.zeroRecovery_within {s : State} {g : Nat} (w03 : W 0x03 = true) (hW0 : Within W P s0 s) : Within W P s0 (State.zeroRecovery s g) := by
  unfold State.zeroRecovery
  try dsimp only
  simp (maxDischargeDepth := 60) only [and_self, and_true, implies_true, within_refl, within_ite, pageKind_lit, pageOf_rcv, within_foldl,
      Nat.reduceLeDiff, Nat.reduceAdd, Nat.reduceMod, if_false, State.set_within, w03, hW0]

theorem State.persistExpiry_within {s : State} {g : Nat} {u : Nat} (w00 : W 0x00 = true) (w03 : W 0x03 = true) (w04 : W 0x04 = true) (w07 : W 0x07 =
    true) (w08 : W 0x08 = true) (w09 : W 0x09 = true) (w0A : W 0x0A = true) (w0B : W 0x0B = true) (w0C : W 0x0C = true) (w0D : W 0x0D = true) (w0F : W
    0x0F = true) (w13 : W 0x13 = true) (w20 : W 0x20 = true) (w21 : W 0x21 = true) (w22 : W 0x22 = true) (w23 : W 0x23 = true) (w24 : W 0x24 = true)
    (w26 : W 0x26 = true) (w27 : W 0x27 = true) (p_auth : P .auth = true) (p_boundary : P .boundary = true) (p_cc : P .cc = true) (p_draught : P
    .draught = true) (p_ember : P .ember = true) (p_feeds : P .feeds = true) (p_flue : P .flue = true) (p_fnd : P .fnd = true) (p_fresh : P .fresh =
    true) (p_hA : P .hA = true) (p_hB : P .hB = true) (p_hearths : P .hearths = true) (p_inputs : P .inputs = true) (p_lanes : P .lanes = true) (p_lp
    : P .lp = true) (p_msg : P .msg = true) (p_pol : P .pol = true) (p_thn : P .thn = true) (p_timers : P .timers = true) (p_vdm : P .vdm = true) (hW0
    : Within W P s0 s) : Within W P s0 (State.persistExpiry s g u) := by
  unfold State.persistExpiry
  try dsimp only
  (repeat' split) <;> (try simp (maxDischargeDepth := 60) only [and_true, implies_true, within_refl, within_mk, pageOf_lit, pageKind_lit,
      within_foldl, Nat.reduceDiv, Nat.reduceLeDiff, Nat.reduceAdd, Nat.reduceMod, if_false, true_or, or_true, State.flueDrain_within,
      State.stop_within, State.ashWrite_within, State.set_within, State.portFence_within, w00, w03, w04, w07, w08, w09, w0A, w0B, w0C, w0D, w0F, w13,
      w20, w21, w22, w23, w24, w26, w27, p_auth, p_boundary, p_cc, p_draught, p_ember, p_feeds, p_flue, p_fnd, p_fresh, p_hA, p_hB, p_hearths,
      p_inputs, p_lanes, p_lp, p_msg, p_pol, p_thn, p_timers, p_vdm, hW0])

theorem State.forceBit_within {s : State} {page : Nat} {bit : Nat} (wAll : ∀ p, W p = true) (p_auth : P .auth = true) (p_boundary : P .boundary =
    true) (p_cc : P .cc = true) (p_draught : P .draught = true) (p_ember : P .ember = true) (p_flue : P .flue = true) (p_fnd : P .fnd = true) (p_fresh
    : P .fresh = true) (p_hA : P .hA = true) (p_hB : P .hB = true) (p_hearths : P .hearths = true) (p_inputs : P .inputs = true) (p_lanes : P .lanes =
    true) (p_lp : P .lp = true) (p_msg : P .msg = true) (p_pol : P .pol = true) (p_thn : P .thn = true) (p_timers : P .timers = true) (p_vdm : P .vdm
    = true) (hW0 : Within W P s0 s) : Within W P s0 (State.forceBit s page bit) := by
  unfold State.forceBit
  try dsimp only
  simp (maxDischargeDepth := 60) only [and_self, and_true, implies_true, within_ite, within_mk, pageOf_lit, pageKind_lit, Nat.reduceDiv,
      Nat.reduceLeDiff, Nat.reduceAdd, Nat.reduceMod, if_false, true_or, or_true, State.hearthLossBy_within, State.eventHost_within, State.set_within,
      State.eventAs_within, State.eventBy_within, wAll, p_auth, p_boundary, p_cc, p_draught, p_ember, p_flue, p_fnd, p_fresh, p_hA, p_hB, p_hearths,
      p_inputs, p_lanes, p_lp, p_msg, p_pol, p_thn, p_timers, p_vdm, hW0]

theorem execL3ResetsClear_within {s : State} (w03 : W 0x03 = true) (p_timers : P .timers = true) {t : State} (e : execL3ResetsClear s = .next t) :
    Within W P s t := by
  unfold execL3ResetsClear at e
  try dsimp only at e
  cases e
  simp (maxDischargeDepth := 60) only [and_self, and_true, implies_true, within_refl, within_ite, pageOf_lit, pageKind_lit, Nat.reduceDiv,
      Nat.reduceLeDiff, Nat.reduceAdd, Nat.reduceMod, if_false, State.set_within, State.stop_within, w03, p_timers]

theorem State.graceExpiry_within {s : State} {g : Nat} {u : Nat} (w00 : W 0x00 = true) (w03 : W 0x03 = true) (w04 : W 0x04 = true) (w07 : W 0x07 =
    true) (w08 : W 0x08 = true) (w09 : W 0x09 = true) (w0A : W 0x0A = true) (w0D : W 0x0D = true) (w0F : W 0x0F = true) (w13 : W 0x13 = true) (w20 : W
    0x20 = true) (w21 : W 0x21 = true) (w22 : W 0x22 = true) (w23 : W 0x23 = true) (w24 : W 0x24 = true) (w26 : W 0x26 = true) (w27 : W 0x27 = true)
    (p_auth : P .auth = true) (p_boundary : P .boundary = true) (p_cc : P .cc = true) (p_draught : P .draught = true) (p_ember : P .ember = true)
    (p_feeds : P .feeds = true) (p_flue : P .flue = true) (p_fnd : P .fnd = true) (p_fresh : P .fresh = true) (p_hA : P .hA = true) (p_hB : P .hB =
    true) (p_hearths : P .hearths = true) (p_inputs : P .inputs = true) (p_lanes : P .lanes = true) (p_lp : P .lp = true) (p_msg : P .msg = true)
    (p_pol : P .pol = true) (p_thn : P .thn = true) (p_timers : P .timers = true) (p_vdm : P .vdm = true) (hW0 : Within W P s0 s) : Within W P s0
    (State.graceExpiry s g u) := by
  unfold State.graceExpiry
  try dsimp only
  (repeat' split) <;> (try simp (maxDischargeDepth := 60) only [within_mk, true_or, or_true, State.flueDrain_within, State.stop_within,
      State.enterLevel3_within, State.recLevel2_within, State.ashWrite_within, w00, w03, w04, w07, w08, w09, w0A, w0D, w0F, w13, w20, w21, w22, w23,
      w24, w26, w27, p_auth, p_boundary, p_cc, p_draught, p_ember, p_feeds, p_flue, p_fnd, p_fresh, p_hA, p_hB, p_hearths, p_inputs, p_lanes, p_lp,
      p_msg, p_pol, p_thn, p_timers, p_vdm, hW0])

theorem State.l3Command_within {s : State} {key : Bool} (wAll : ∀ p, W p = true) (pAll : ∀ p, P p = true) (hW0 : Within W P s0 s) : Within W P s0
    (State.l3Command s key) := by
  unfold State.l3Command
  try dsimp only
  simp (maxDischargeDepth := 60) only [and_self, and_true, implies_true, within_ite, pageOf_lit, pageKind_lit, Nat.reduceDiv, Nat.reduceLeDiff,
      Nat.reduceAdd, Nat.reduceMod, if_false, State.deviceReset_within, State.set_within, wAll, pAll, hW0]

theorem execFluL3DeviceReset_within {s : State} (wAll : ∀ p, W p = true) (pAll : ∀ p, P p = true) {t : State} (e : execFluL3DeviceReset s = .next t) :
    Within W P s t := by
  unfold execFluL3DeviceReset at e
  try dsimp only at e
  cases e
  simp (maxDischargeDepth := 60) only [implies_true, within_refl, State.answered_within, State.l3Command_within, State.fluKeyClear_within, wAll, pAll]

theorem State.ashClear_within {s : State} {key : Bool} (p_flue : P .flue = true) (hW0 : Within W P s0 s) : Within W P s0 (State.ashClear s key) := by
  unfold State.ashClear
  try dsimp only
  simp (maxDischargeDepth := 60) only [and_self, implies_true, within_ite, within_mk, true_or, or_true, p_flue, hW0]

theorem execGraceExpiry_within {group : Fin 13} {unit : BitVec 8} {s : State} (w00 : W 0x00 = true) (w03 : W 0x03 = true) (w04 : W 0x04 = true) (w07 :
    W 0x07 = true) (w08 : W 0x08 = true) (w09 : W 0x09 = true) (w0A : W 0x0A = true) (w0D : W 0x0D = true) (w0F : W 0x0F = true) (w13 : W 0x13 = true)
    (w20 : W 0x20 = true) (w21 : W 0x21 = true) (w22 : W 0x22 = true) (w23 : W 0x23 = true) (w24 : W 0x24 = true) (w26 : W 0x26 = true) (w27 : W 0x27
    = true) (p_auth : P .auth = true) (p_boundary : P .boundary = true) (p_cc : P .cc = true) (p_draught : P .draught = true) (p_ember : P .ember =
    true) (p_feeds : P .feeds = true) (p_flue : P .flue = true) (p_fnd : P .fnd = true) (p_fresh : P .fresh = true) (p_hA : P .hA = true) (p_hB : P
    .hB = true) (p_hearths : P .hearths = true) (p_inputs : P .inputs = true) (p_lanes : P .lanes = true) (p_lp : P .lp = true) (p_msg : P .msg =
    true) (p_pol : P .pol = true) (p_thn : P .thn = true) (p_timers : P .timers = true) (p_vdm : P .vdm = true) {t : State} (e : execGraceExpiry group
    unit s = .next t) : Within W P s t := by
  unfold execGraceExpiry at e
  try dsimp only at e
  cases e
  simp (maxDischargeDepth := 60) only [within_refl, State.graceExpiry_within, w00, w03, w04, w07, w08, w09, w0A, w0D, w0F, w13, w20, w21, w22, w23,
      w24, w26, w27, p_auth, p_boundary, p_cc, p_draught, p_ember, p_feeds, p_flue, p_fnd, p_fresh, p_hA, p_hB, p_hearths, p_inputs, p_lanes, p_lp,
      p_msg, p_pol, p_thn, p_timers, p_vdm]

theorem State.firstClear_within {s : State} (p_flue : P .flue = true) (hW0 : Within W P s0 s) : Within W P s0 (State.firstClear s) := by
  unfold State.firstClear
  try dsimp only
  simp (maxDischargeDepth := 60) only [within_mk, true_or, or_true, p_flue, hW0]

theorem State.forceWrite_within {s : State} {page : Nat} {v : Nat} (wAll : ∀ p, W p = true) (p_array : P .array = true) (p_auth : P .auth = true)
    (p_boundary : P .boundary = true) (p_cc : P .cc = true) (p_draught : P .draught = true) (p_ember : P .ember = true) (p_flue : P .flue = true)
    (p_fnd : P .fnd = true) (p_fresh : P .fresh = true) (p_hA : P .hA = true) (p_hB : P .hB = true) (p_hearths : P .hearths = true) (p_inputs : P
    .inputs = true) (p_lanes : P .lanes = true) (p_lp : P .lp = true) (p_msg : P .msg = true) (p_pol : P .pol = true) (p_thn : P .thn = true)
    (p_timers : P .timers = true) (p_vdm : P .vdm = true) (hW0 : Within W P s0 s) : Within W P s0 (State.forceWrite s page v) := by
  unfold State.forceWrite
  try dsimp only
  simp (maxDischargeDepth := 60) only [and_self, implies_true, within_refl, within_ite, within_foldl, State.cmpForce_within, State.forceBit_within,
      wAll, p_array, p_auth, p_boundary, p_cc, p_draught, p_ember, p_flue, p_fnd, p_fresh, p_hA, p_hB, p_hearths, p_inputs, p_lanes, p_lp, p_msg,
      p_pol, p_thn, p_timers, p_vdm, hW0]

theorem execAshFirstClear_within {s : State} (w04 : W 0x04 = true) (p_flue : P .flue = true) {t : State} (e : execAshFirstClear s = .next t) : Within
    W P s t := by
  unfold execAshFirstClear at e
  try dsimp only at e
  cases e
  simp (maxDischargeDepth := 60) only [and_true, implies_true, within_refl, pageOf_lit, pageKind_lit, Nat.reduceDiv, Nat.reduceLeDiff, Nat.reduceAdd,
      Nat.reduceMod, if_false, State.answered_within, State.firstClear_within, State.set_within, w04, p_flue]

theorem State.fluControlWrite_within {s : State} {v : Word} (wAll : ∀ p, W p = true) (pAll : ∀ p, P p = true) (hW0 : Within W P s0 s) : Within W P s0
    (State.fluControlWrite s v) := by
  unfold State.fluControlWrite
  try dsimp only
  (repeat' split) <;> (try simp (maxDischargeDepth := 60) only [and_true, implies_true, pageOf_lit, pageKind_lit, Nat.reduceDiv, Nat.reduceLeDiff,
      Nat.reduceAdd, Nat.reduceMod, if_false, State.fluKeyClear_within, State.hostClose_within, State.zeroRecovery_within, State.closeAll_within,
      State.l3Command_within, State.set_within, wAll, pAll, hW0])

theorem execPersistExpiry_within {group : Fin 13} {unit : BitVec 8} {s : State} (w00 : W 0x00 = true) (w03 : W 0x03 = true) (w04 : W 0x04 = true) (w07
    : W 0x07 = true) (w08 : W 0x08 = true) (w09 : W 0x09 = true) (w0A : W 0x0A = true) (w0B : W 0x0B = true) (w0C : W 0x0C = true) (w0D : W 0x0D =
    true) (w0F : W 0x0F = true) (w13 : W 0x13 = true) (w20 : W 0x20 = true) (w21 : W 0x21 = true) (w22 : W 0x22 = true) (w23 : W 0x23 = true) (w24 : W
    0x24 = true) (w26 : W 0x26 = true) (w27 : W 0x27 = true) (p_auth : P .auth = true) (p_boundary : P .boundary = true) (p_cc : P .cc = true)
    (p_draught : P .draught = true) (p_ember : P .ember = true) (p_feeds : P .feeds = true) (p_flue : P .flue = true) (p_fnd : P .fnd = true) (p_fresh
    : P .fresh = true) (p_hA : P .hA = true) (p_hB : P .hB = true) (p_hearths : P .hearths = true) (p_inputs : P .inputs = true) (p_lanes : P .lanes =
    true) (p_lp : P .lp = true) (p_msg : P .msg = true) (p_pol : P .pol = true) (p_thn : P .thn = true) (p_timers : P .timers = true) (p_vdm : P .vdm
    = true) {t : State} (e : execPersistExpiry group unit s = .next t) : Within W P s t := by
  unfold execPersistExpiry at e
  try dsimp only at e
  cases e
  simp (maxDischargeDepth := 60) only [within_refl, State.persistExpiry_within, w00, w03, w04, w07, w08, w09, w0A, w0B, w0C, w0D, w0F, w13, w20, w21,
      w22, w23, w24, w26, w27, p_auth, p_boundary, p_cc, p_draught, p_ember, p_feeds, p_flue, p_fnd, p_fresh, p_hA, p_hB, p_hearths, p_inputs,
      p_lanes, p_lp, p_msg, p_pol, p_thn, p_timers, p_vdm]

theorem execFluZeroRecovery_within {group : Fin 16} {s : State} (w03 : W 0x03 = true) {t : State} (e : execFluZeroRecovery group s = .next t) : Within
    W P s t := by
  unfold execFluZeroRecovery at e
  try dsimp only at e
  cases e
  simp (maxDischargeDepth := 60) only [implies_true, within_refl, State.answered_within, State.zeroRecovery_within, State.fluKeyClear_within, w03]

theorem execAshClear_within {s : State} (w04 : W 0x04 = true) (p_flue : P .flue = true) {t : State} (e : execAshClear s = .next t) : Within W P s t :=
    by
  unfold execAshClear at e
  try dsimp only at e
  cases e
  simp (maxDischargeDepth := 60) only [and_true, implies_true, within_refl, pageOf_lit, pageKind_lit, Nat.reduceDiv, Nat.reduceLeDiff, Nat.reduceAdd,
      Nat.reduceMod, if_false, State.answered_within, State.ashClear_within, State.set_within, w04, p_flue]

theorem execLevel3Entry_within {source : BitVec 8} {unit : BitVec 8} {s : State} (w03 : W 0x03 = true) (w04 : W 0x04 = true) (w0F : W 0x0F = true)
    (w20 : W 0x20 = true) (w22 : W 0x22 = true) (w24 : W 0x24 = true) (w26 : W 0x26 = true) (w27 : W 0x27 = true) (p_auth : P .auth = true)
    (p_boundary : P .boundary = true) (p_cc : P .cc = true) (p_draught : P .draught = true) (p_ember : P .ember = true) (p_flue : P .flue = true)
    (p_fnd : P .fnd = true) (p_hA : P .hA = true) (p_hB : P .hB = true) (p_hearths : P .hearths = true) (p_inputs : P .inputs = true) (p_lanes : P
    .lanes = true) (p_lp : P .lp = true) (p_msg : P .msg = true) (p_pol : P .pol = true) (p_thn : P .thn = true) (p_timers : P .timers = true) (p_vdm
    : P .vdm = true) {t : State} (e : execLevel3Entry source unit s = .next t) : Within W P s t := by
  unfold execLevel3Entry at e
  try dsimp only at e
  cases e
  simp (maxDischargeDepth := 60) only [and_self, implies_true, within_refl, within_ite, State.enterLevel3_within, w03, w04, w0F, w20, w22, w24, w26,
      w27, p_auth, p_boundary, p_cc, p_draught, p_ember, p_flue, p_fnd, p_hA, p_hB, p_hearths, p_inputs, p_lanes, p_lp, p_msg, p_pol, p_thn, p_timers,
      p_vdm]

theorem State.ashControlWrite_within {s : State} {v : Nat} (w04 : W 0x04 = true) (p_flue : P .flue = true) (hW0 : Within W P s0 s) : Within W P s0
    (State.ashControlWrite s v) := by
  unfold State.ashControlWrite
  try dsimp only
  simp (maxDischargeDepth := 60) only [and_self, and_true, implies_true, within_ite, pageOf_lit, pageKind_lit, Nat.reduceDiv, Nat.reduceLeDiff,
      Nat.reduceAdd, Nat.reduceMod, if_false, State.set_within, State.sootClear_within, State.firstClear_within, State.ashClear_within, w04, p_flue,
      hW0]

theorem execForceWrite_within {page : BitVec 8} {value : Word} {s : State} (wAll : ∀ p, W p = true) (p_array : P .array = true) (p_auth : P .auth =
    true) (p_boundary : P .boundary = true) (p_cc : P .cc = true) (p_draught : P .draught = true) (p_ember : P .ember = true) (p_flue : P .flue =
    true) (p_fnd : P .fnd = true) (p_fresh : P .fresh = true) (p_hA : P .hA = true) (p_hB : P .hB = true) (p_hearths : P .hearths = true) (p_inputs :
    P .inputs = true) (p_lanes : P .lanes = true) (p_lp : P .lp = true) (p_msg : P .msg = true) (p_pol : P .pol = true) (p_thn : P .thn = true)
    (p_timers : P .timers = true) (p_vdm : P .vdm = true) {t : State} (e : execForceWrite page value s = .next t) : Within W P s t := by
  unfold execForceWrite at e
  try dsimp only at e
  cases e
  simp (maxDischargeDepth := 60) only [implies_true, within_refl, State.answered_within, State.forceWrite_within, wAll, p_array, p_auth, p_boundary,
      p_cc, p_draught, p_ember, p_flue, p_fnd, p_fresh, p_hA, p_hB, p_hearths, p_inputs, p_lanes, p_lp, p_msg, p_pol, p_thn, p_timers, p_vdm]

/-! ### VdmCmd -/

theorem State.vdmCommand_within {s : State} {n : Port} {epoch : BitVec 8} {f : State → State} (hf : ∀ t, Within W P t (f t))
    (w00 : W 0x00 = true) (w04 : W 0x04 = true) (w07 : W 0x07 = true) (w08 : W 0x08 = true) (w09 : W 0x09 = true) (w0F : W 0x0F = true) (w13 : W 0x13
        = true) (w20 : W 0x20 = true) (w21 : W 0x21 = true) (w22 : W 0x22 = true) (w23 : W 0x23 = true) (w24 : W 0x24 = true) (w26 : W 0x26 = true)
        (w27 : W 0x27 = true) (p_auth : P .auth = true) (p_boundary : P .boundary = true) (p_cc : P .cc = true) (p_draught : P .draught = true)
        (p_flue : P .flue = true) (p_fnd : P .fnd = true) (p_fresh : P .fresh = true) (p_hA : P .hA = true) (p_hB : P .hB = true) (p_inputs : P
        .inputs = true) (p_lanes : P .lanes = true) (p_lp : P .lp = true) (p_msg : P .msg = true) (p_pol : P .pol = true) (p_thn : P .thn = true)
        (p_timers : P .timers = true) (p_vdm : P .vdm = true) (hW0 : Within W P s0 s) : Within W P s0 (s.vdmCommand n epoch f) := by
  unfold State.vdmCommand
  refine State.answered_within (fun u => ?_) hW0
  extract_lets t
  have r : Within W P u u := .refl u
  have g : Within W P u t := by apply State.policyBefore_within <;> assumption
  split
  · exact g.trans (hf t)
  · simp (maxDischargeDepth := 60) only [State.soot_within, State.eventHost_within, pageOf_add, pageKind_portPage, Nat.reduceLT, Nat.reduceAdd,
      w04, w23, p_flue, g]

theorem execVdmCmdEnterHostMode_within {n : Port} {epoch : BitVec 8} {arg : BitVec 16} {s : State} (w00 : W 0x00 = true) (w04 : W 0x04 = true) (w07 :
    W 0x07 = true) (w08 : W 0x08 = true) (w09 : W 0x09 = true) (w0F : W 0x0F = true) (w13 : W 0x13 = true) (w20 : W 0x20 = true) (w21 : W 0x21 = true)
    (w22 : W 0x22 = true) (w23 : W 0x23 = true) (w24 : W 0x24 = true) (w26 : W 0x26 = true) (w27 : W 0x27 = true) (p_auth : P .auth = true)
    (p_boundary : P .boundary = true) (p_cc : P .cc = true) (p_draught : P .draught = true) (p_flue : P .flue = true) (p_fnd : P .fnd = true) (p_fresh
    : P .fresh = true) (p_hA : P .hA = true) (p_hB : P .hB = true) (p_inputs : P .inputs = true) (p_lanes : P .lanes = true) (p_lp : P .lp = true)
    (p_msg : P .msg = true) (p_pol : P .pol = true) (p_thn : P .thn = true) (p_timers : P .timers = true) (p_vdm : P .vdm = true) {t : State} (e :
    execVdmCmdEnterHostMode n epoch arg s = .next t) : Within W P s t := by
  unfold execVdmCmdEnterHostMode at e
  try dsimp only at e
  cases e
  simp (maxDischargeDepth := 60) only [implies_true, within_refl, State.vdmCommand_within, State.hostModeCmd_within, w00, w04, w07, w08, w09, w0F,
      w13, w20, w21, w22, w23, w24, w26, w27, p_auth, p_boundary, p_cc, p_draught, p_flue, p_fnd, p_fresh, p_hA, p_hB, p_inputs, p_lanes, p_lp, p_msg,
      p_pol, p_thn, p_timers, p_vdm]

theorem execDiscoveryStep_within {n : Port} {s : State} (w00 : W 0x00 = true) (w04 : W 0x04 = true) (w07 : W 0x07 = true) (w08 : W 0x08 = true) (w09 :
    W 0x09 = true) (w0F : W 0x0F = true) (w13 : W 0x13 = true) (w20 : W 0x20 = true) (w21 : W 0x21 = true) (w22 : W 0x22 = true) (w23 : W 0x23 = true)
    (w24 : W 0x24 = true) (w26 : W 0x26 = true) (w27 : W 0x27 = true) (p_auth : P .auth = true) (p_boundary : P .boundary = true) (p_cc : P .cc =
    true) (p_draught : P .draught = true) (p_flue : P .flue = true) (p_fnd : P .fnd = true) (p_fresh : P .fresh = true) (p_hA : P .hA = true) (p_hB :
    P .hB = true) (p_inputs : P .inputs = true) (p_lanes : P .lanes = true) (p_lp : P .lp = true) (p_msg : P .msg = true) (p_pol : P .pol = true)
    (p_thn : P .thn = true) (p_timers : P .timers = true) (p_vdm : P .vdm = true) {t : State} (e : execDiscoveryStep n s = .next t) : Within W P s t
    := by
  unfold execDiscoveryStep at e
  try dsimp only at e
  cases e
  simp (maxDischargeDepth := 60) only [within_refl, State.takeNext_within, w00, w04, w07, w08, w09, w0F, w13, w20, w21, w22, w23, w24, w26, w27,
      p_auth, p_boundary, p_cc, p_draught, p_flue, p_fnd, p_fresh, p_hA, p_hB, p_inputs, p_lanes, p_lp, p_msg, p_pol, p_thn, p_timers, p_vdm]

theorem execVdmReceived_within {n : Port} {s : State} (w00 : W 0x00 = true) (w04 : W 0x04 = true) (w07 : W 0x07 = true) (w08 : W 0x08 = true) (w09 : W
    0x09 = true) (w0F : W 0x0F = true) (w13 : W 0x13 = true) (w20 : W 0x20 = true) (w21 : W 0x21 = true) (w22 : W 0x22 = true) (w23 : W 0x23 = true)
    (w24 : W 0x24 = true) (w26 : W 0x26 = true) (w27 : W 0x27 = true) (p_auth : P .auth = true) (p_boundary : P .boundary = true) (p_cc : P .cc =
    true) (p_draught : P .draught = true) (p_flue : P .flue = true) (p_fnd : P .fnd = true) (p_fresh : P .fresh = true) (p_hA : P .hA = true) (p_hB :
    P .hB = true) (p_inputs : P .inputs = true) (p_lanes : P .lanes = true) (p_lp : P .lp = true) (p_msg : P .msg = true) (p_pol : P .pol = true)
    (p_thn : P .thn = true) (p_timers : P .timers = true) (p_vdm : P .vdm = true) {t : State} (e : execVdmReceived n s = .next t) : Within W P s t :=
    by
  unfold execVdmReceived at e
  try dsimp only at e
  cases e
  simp (maxDischargeDepth := 60) only [within_refl, State.takeNext_within, w00, w04, w07, w08, w09, w0F, w13, w20, w21, w22, w23, w24, w26, w27,
      p_auth, p_boundary, p_cc, p_draught, p_flue, p_fnd, p_fresh, p_hA, p_hB, p_inputs, p_lanes, p_lp, p_msg, p_pol, p_thn, p_timers, p_vdm]

theorem execVdmCmdDiscovery_within {n : Port} {epoch : BitVec 8} {s : State} (w00 : W 0x00 = true) (w04 : W 0x04 = true) (w07 : W 0x07 = true) (w08 :
    W 0x08 = true) (w09 : W 0x09 = true) (w0F : W 0x0F = true) (w13 : W 0x13 = true) (w20 : W 0x20 = true) (w21 : W 0x21 = true) (w22 : W 0x22 = true)
    (w23 : W 0x23 = true) (w24 : W 0x24 = true) (w26 : W 0x26 = true) (w27 : W 0x27 = true) (p_auth : P .auth = true) (p_boundary : P .boundary =
    true) (p_cc : P .cc = true) (p_draught : P .draught = true) (p_flue : P .flue = true) (p_fnd : P .fnd = true) (p_fresh : P .fresh = true) (p_hA :
    P .hA = true) (p_hB : P .hB = true) (p_inputs : P .inputs = true) (p_lanes : P .lanes = true) (p_lp : P .lp = true) (p_msg : P .msg = true) (p_pol
    : P .pol = true) (p_thn : P .thn = true) (p_timers : P .timers = true) (p_vdm : P .vdm = true) {t : State} (e : execVdmCmdDiscovery n epoch s =
    .next t) : Within W P s t := by
  unfold execVdmCmdDiscovery at e
  try dsimp only at e
  cases e
  simp (maxDischargeDepth := 60) only [implies_true, within_refl, State.vdmCommand_within, State.vdmDiscover_within, w00, w04, w07, w08, w09, w0F,
      w13, w20, w21, w22, w23, w24, w26, w27, p_auth, p_boundary, p_cc, p_draught, p_flue, p_fnd, p_fresh, p_hA, p_hB, p_inputs, p_lanes, p_lp, p_msg,
      p_pol, p_thn, p_timers, p_vdm]

theorem State.cableResend_within {s : State} {n : Port} {a : VdmAsk} (w20 : W 0x20 = true) (w21 : W 0x21 = true) (w22 : W 0x22 = true) (w23 : W 0x23 =
    true) (p_boundary : P .boundary = true) (p_cc : P .cc = true) (p_flue : P .flue = true) (p_msg : P .msg = true) (p_pol : P .pol = true) (p_timers
    : P .timers = true) (p_vdm : P .vdm = true) (hW0 : Within W P s0 s) : Within W P s0 (State.cableResend s n a) := by
  unfold State.cableResend
  try dsimp only
  simp (maxDischargeDepth := 60) only [and_self, implies_true, within_ite, State.stop_within, State.vdmAskEnd_within, State.cableSet_within,
      State.askWaits_within, State.vdmSend_within, w20, w21, w22, w23, p_boundary, p_cc, p_flue, p_msg, p_pol, p_timers, p_vdm, hW0]

theorem execVdmBusyRetry_within {n : Port} {s : State} (w00 : W 0x00 = true) (w04 : W 0x04 = true) (w07 : W 0x07 = true) (w08 : W 0x08 = true) (w09 :
    W 0x09 = true) (w0F : W 0x0F = true) (w13 : W 0x13 = true) (w20 : W 0x20 = true) (w21 : W 0x21 = true) (w22 : W 0x22 = true) (w23 : W 0x23 = true)
    (w24 : W 0x24 = true) (w26 : W 0x26 = true) (w27 : W 0x27 = true) (p_auth : P .auth = true) (p_boundary : P .boundary = true) (p_cc : P .cc =
    true) (p_draught : P .draught = true) (p_flue : P .flue = true) (p_fnd : P .fnd = true) (p_fresh : P .fresh = true) (p_hA : P .hA = true) (p_hB :
    P .hB = true) (p_inputs : P .inputs = true) (p_lanes : P .lanes = true) (p_lp : P .lp = true) (p_msg : P .msg = true) (p_pol : P .pol = true)
    (p_thn : P .thn = true) (p_timers : P .timers = true) (p_vdm : P .vdm = true) {t : State} (e : execVdmBusyRetry n s = .next t) : Within W P s t :=
    by
  unfold execVdmBusyRetry at e
  try dsimp only at e
  cases e
  simp (maxDischargeDepth := 60) only [within_refl, State.vdmBusyRetry_within, State.policyBefore_within, w00, w04, w07, w08, w09, w0F, w13, w20, w21,
      w22, w23, w24, w26, w27, p_auth, p_boundary, p_cc, p_draught, p_flue, p_fnd, p_fresh, p_hA, p_hB, p_inputs, p_lanes, p_lp, p_msg, p_pol, p_thn,
      p_timers, p_vdm]

theorem execVdmCmdSendTx_within {n : Port} {epoch : BitVec 8} {arg : BitVec 16} {s : State} (w00 : W 0x00 = true) (w04 : W 0x04 = true) (w07 : W 0x07
    = true) (w08 : W 0x08 = true) (w09 : W 0x09 = true) (w0F : W 0x0F = true) (w13 : W 0x13 = true) (w20 : W 0x20 = true) (w21 : W 0x21 = true) (w22 :
    W 0x22 = true) (w23 : W 0x23 = true) (w24 : W 0x24 = true) (w26 : W 0x26 = true) (w27 : W 0x27 = true) (p_auth : P .auth = true) (p_boundary : P
    .boundary = true) (p_cc : P .cc = true) (p_draught : P .draught = true) (p_flue : P .flue = true) (p_fnd : P .fnd = true) (p_fresh : P .fresh =
    true) (p_hA : P .hA = true) (p_hB : P .hB = true) (p_inputs : P .inputs = true) (p_lanes : P .lanes = true) (p_lp : P .lp = true) (p_msg : P .msg
    = true) (p_pol : P .pol = true) (p_thn : P .thn = true) (p_timers : P .timers = true) (p_vdm : P .vdm = true) {t : State} (e : execVdmCmdSendTx n
    epoch arg s = .next t) : Within W P s t := by
  unfold execVdmCmdSendTx at e
  try dsimp only at e
  cases e
  simp (maxDischargeDepth := 60) only [implies_true, within_refl, State.vdmCommand_within, State.hostSend_within, w00, w04, w07, w08, w09, w0F, w13,
      w20, w21, w22, w23, w24, w26, w27, p_auth, p_boundary, p_cc, p_draught, p_flue, p_fnd, p_fresh, p_hA, p_hB, p_inputs, p_lanes, p_lp, p_msg,
      p_pol, p_thn, p_timers, p_vdm]

theorem State.vdmResponseExpiry_within {s : State} {n : Port} (w20 : W 0x20 = true) (w21 : W 0x21 = true) (w22 : W 0x22 = true) (w23 : W 0x23 = true)
    (p_boundary : P .boundary = true) (p_cc : P .cc = true) (p_flue : P .flue = true) (p_msg : P .msg = true) (p_pol : P .pol = true) (p_timers : P
    .timers = true) (p_vdm : P .vdm = true) (hW0 : Within W P s0 s) : Within W P s0 (State.vdmResponseExpiry s n) := by
  unfold State.vdmResponseExpiry
  try dsimp only
  simp (maxDischargeDepth := 60) only [and_self, implies_true, within_ite, State.vdmTimeout_within, w20, w21, w22, w23, p_boundary, p_cc, p_flue,
      p_msg, p_pol, p_timers, p_vdm, hW0]

theorem execVdmResponseTimeout_within {n : Port} {s : State} (w00 : W 0x00 = true) (w04 : W 0x04 = true) (w07 : W 0x07 = true) (w08 : W 0x08 = true)
    (w09 : W 0x09 = true) (w0F : W 0x0F = true) (w13 : W 0x13 = true) (w20 : W 0x20 = true) (w21 : W 0x21 = true) (w22 : W 0x22 = true) (w23 : W 0x23
    = true) (w24 : W 0x24 = true) (w26 : W 0x26 = true) (w27 : W 0x27 = true) (p_auth : P .auth = true) (p_boundary : P .boundary = true) (p_cc : P
    .cc = true) (p_draught : P .draught = true) (p_flue : P .flue = true) (p_fnd : P .fnd = true) (p_fresh : P .fresh = true) (p_hA : P .hA = true)
    (p_hB : P .hB = true) (p_inputs : P .inputs = true) (p_lanes : P .lanes = true) (p_lp : P .lp = true) (p_msg : P .msg = true) (p_pol : P .pol =
    true) (p_thn : P .thn = true) (p_timers : P .timers = true) (p_vdm : P .vdm = true) {t : State} (e : execVdmResponseTimeout n s = .next t) :
    Within W P s t := by
  unfold execVdmResponseTimeout at e
  try dsimp only at e
  cases e
  simp (maxDischargeDepth := 60) only [within_refl, State.vdmResponseExpiry_within, State.policyBefore_within, w00, w04, w07, w08, w09, w0F, w13, w20,
      w21, w22, w23, w24, w26, w27, p_auth, p_boundary, p_cc, p_draught, p_flue, p_fnd, p_fresh, p_hA, p_hB, p_inputs, p_lanes, p_lp, p_msg, p_pol,
      p_thn, p_timers, p_vdm]

theorem execVdmCmdEnterThatin_within {n : Port} {epoch : BitVec 8} {s : State} (w00 : W 0x00 = true) (w04 : W 0x04 = true) (w07 : W 0x07 = true) (w08
    : W 0x08 = true) (w09 : W 0x09 = true) (w0F : W 0x0F = true) (w13 : W 0x13 = true) (w20 : W 0x20 = true) (w21 : W 0x21 = true) (w22 : W 0x22 =
    true) (w23 : W 0x23 = true) (w24 : W 0x24 = true) (w26 : W 0x26 = true) (w27 : W 0x27 = true) (p_auth : P .auth = true) (p_boundary : P .boundary
    = true) (p_cc : P .cc = true) (p_draught : P .draught = true) (p_flue : P .flue = true) (p_fnd : P .fnd = true) (p_fresh : P .fresh = true) (p_hA
    : P .hA = true) (p_hB : P .hB = true) (p_inputs : P .inputs = true) (p_lanes : P .lanes = true) (p_lp : P .lp = true) (p_msg : P .msg = true)
    (p_pol : P .pol = true) (p_thn : P .thn = true) (p_timers : P .timers = true) (p_vdm : P .vdm = true) {t : State} (e : execVdmCmdEnterThatin n
    epoch s = .next t) : Within W P s t := by
  unfold execVdmCmdEnterThatin at e
  try dsimp only at e
  cases e
  simp (maxDischargeDepth := 60) only [implies_true, within_refl, State.vdmCommand_within, State.thatinCmd_within, w00, w04, w07, w08, w09, w0F, w13,
      w20, w21, w22, w23, w24, w26, w27, p_auth, p_boundary, p_cc, p_draught, p_flue, p_fnd, p_fresh, p_hA, p_hB, p_inputs, p_lanes, p_lp, p_msg,
      p_pol, p_thn, p_timers, p_vdm]

theorem execVdmCmdProposeTracking_within {n : Port} {epoch : BitVec 8} {s : State} (w00 : W 0x00 = true) (w04 : W 0x04 = true) (w07 : W 0x07 = true)
    (w08 : W 0x08 = true) (w09 : W 0x09 = true) (w0F : W 0x0F = true) (w13 : W 0x13 = true) (w20 : W 0x20 = true) (w21 : W 0x21 = true) (w22 : W 0x22
    = true) (w23 : W 0x23 = true) (w24 : W 0x24 = true) (w26 : W 0x26 = true) (w27 : W 0x27 = true) (p_auth : P .auth = true) (p_boundary : P
    .boundary = true) (p_cc : P .cc = true) (p_draught : P .draught = true) (p_flue : P .flue = true) (p_fnd : P .fnd = true) (p_fresh : P .fresh =
    true) (p_hA : P .hA = true) (p_hB : P .hB = true) (p_inputs : P .inputs = true) (p_lanes : P .lanes = true) (p_lp : P .lp = true) (p_msg : P .msg
    = true) (p_pol : P .pol = true) (p_thn : P .thn = true) (p_timers : P .timers = true) (p_vdm : P .vdm = true) {t : State} (e :
    execVdmCmdProposeTracking n epoch s = .next t) : Within W P s t := by
  unfold execVdmCmdProposeTracking at e
  try dsimp only at e
  cases e
  simp (maxDischargeDepth := 60) only [implies_true, within_refl, State.vdmCommand_within, State.proposeTracking_within, w00, w04, w07, w08, w09, w0F,
      w13, w20, w21, w22, w23, w24, w26, w27, p_auth, p_boundary, p_cc, p_draught, p_flue, p_fnd, p_fresh, p_hA, p_hB, p_inputs, p_lanes, p_lp, p_msg,
      p_pol, p_thn, p_timers, p_vdm]

theorem State.cableDiscover_within {s : State} {n : Port} (w00 : W 0x00 = true) (w04 : W 0x04 = true) (w07 : W 0x07 = true) (w08 : W 0x08 = true) (w09
    : W 0x09 = true) (w0F : W 0x0F = true) (w13 : W 0x13 = true) (w20 : W 0x20 = true) (w21 : W 0x21 = true) (w22 : W 0x22 = true) (w23 : W 0x23 =
    true) (w24 : W 0x24 = true) (w26 : W 0x26 = true) (w27 : W 0x27 = true) (p_auth : P .auth = true) (p_boundary : P .boundary = true) (p_cc : P .cc
    = true) (p_draught : P .draught = true) (p_flue : P .flue = true) (p_fnd : P .fnd = true) (p_fresh : P .fresh = true) (p_hA : P .hA = true) (p_hB
    : P .hB = true) (p_inputs : P .inputs = true) (p_lanes : P .lanes = true) (p_lp : P .lp = true) (p_msg : P .msg = true) (p_pol : P .pol = true)
    (p_thn : P .thn = true) (p_timers : P .timers = true) (p_vdm : P .vdm = true) (hW0 : Within W P s0 s) : Within W P s0 (State.cableDiscover s n) :=
    by
  unfold State.cableDiscover
  try dsimp only
  (repeat' split) <;> (try simp (maxDischargeDepth := 60) only [State.takeNext_within, State.cableResend_within, State.policyBefore_within,
      State.cableIdentify_within, w00, w04, w07, w08, w09, w0F, w13, w20, w21, w22, w23, w24, w26, w27, p_auth, p_boundary, p_cc, p_draught, p_flue,
      p_fnd, p_fresh, p_hA, p_hB, p_inputs, p_lanes, p_lp, p_msg, p_pol, p_thn, p_timers, p_vdm, hW0])

theorem execVdmCmdEndTracking_within {n : Port} {epoch : BitVec 8} {s : State} (w00 : W 0x00 = true) (w04 : W 0x04 = true) (w07 : W 0x07 = true) (w08
    : W 0x08 = true) (w09 : W 0x09 = true) (w0F : W 0x0F = true) (w13 : W 0x13 = true) (w20 : W 0x20 = true) (w21 : W 0x21 = true) (w22 : W 0x22 =
    true) (w23 : W 0x23 = true) (w24 : W 0x24 = true) (w26 : W 0x26 = true) (w27 : W 0x27 = true) (p_auth : P .auth = true) (p_boundary : P .boundary
    = true) (p_cc : P .cc = true) (p_draught : P .draught = true) (p_flue : P .flue = true) (p_fnd : P .fnd = true) (p_fresh : P .fresh = true) (p_hA
    : P .hA = true) (p_hB : P .hB = true) (p_inputs : P .inputs = true) (p_lanes : P .lanes = true) (p_lp : P .lp = true) (p_msg : P .msg = true)
    (p_pol : P .pol = true) (p_thn : P .thn = true) (p_timers : P .timers = true) (p_vdm : P .vdm = true) {t : State} (e : execVdmCmdEndTracking n
    epoch s = .next t) : Within W P s t := by
  unfold execVdmCmdEndTracking at e
  try dsimp only at e
  cases e
  simp (maxDischargeDepth := 60) only [implies_true, within_refl, State.vdmCommand_within, State.endTracking_within, w00, w04, w07, w08, w09, w0F,
      w13, w20, w21, w22, w23, w24, w26, w27, p_auth, p_boundary, p_cc, p_draught, p_flue, p_fnd, p_fresh, p_hA, p_hB, p_inputs, p_lanes, p_lp, p_msg,
      p_pol, p_thn, p_timers, p_vdm]

theorem execHostVdmResponseTimeout_within {n : Port} {s : State} (w00 : W 0x00 = true) (w04 : W 0x04 = true) (w07 : W 0x07 = true) (w08 : W 0x08 =
    true) (w09 : W 0x09 = true) (w0F : W 0x0F = true) (w13 : W 0x13 = true) (w20 : W 0x20 = true) (w21 : W 0x21 = true) (w22 : W 0x22 = true) (w23 : W
    0x23 = true) (w24 : W 0x24 = true) (w26 : W 0x26 = true) (w27 : W 0x27 = true) (p_auth : P .auth = true) (p_boundary : P .boundary = true) (p_cc :
    P .cc = true) (p_draught : P .draught = true) (p_flue : P .flue = true) (p_fnd : P .fnd = true) (p_fresh : P .fresh = true) (p_hA : P .hA = true)
    (p_hB : P .hB = true) (p_inputs : P .inputs = true) (p_lanes : P .lanes = true) (p_lp : P .lp = true) (p_msg : P .msg = true) (p_pol : P .pol =
    true) (p_thn : P .thn = true) (p_timers : P .timers = true) (p_vdm : P .vdm = true) {t : State} (e : execHostVdmResponseTimeout n s = .next t) :
    Within W P s t := by
  unfold execHostVdmResponseTimeout at e
  try dsimp only at e
  cases e
  simp (maxDischargeDepth := 60) only [within_refl, State.hostVdmTimeout_within, State.policyBefore_within, w00, w04, w07, w08, w09, w0F, w13, w20,
      w21, w22, w23, w24, w26, w27, p_auth, p_boundary, p_cc, p_draught, p_flue, p_fnd, p_fresh, p_hA, p_hB, p_inputs, p_lanes, p_lp, p_msg, p_pol,
      p_thn, p_timers, p_vdm]

theorem execVdmCmdExitHostMode_within {n : Port} {epoch : BitVec 8} {arg : BitVec 16} {s : State} (w00 : W 0x00 = true) (w04 : W 0x04 = true) (w07 : W
    0x07 = true) (w08 : W 0x08 = true) (w09 : W 0x09 = true) (w0F : W 0x0F = true) (w13 : W 0x13 = true) (w20 : W 0x20 = true) (w21 : W 0x21 = true)
    (w22 : W 0x22 = true) (w23 : W 0x23 = true) (w24 : W 0x24 = true) (w26 : W 0x26 = true) (w27 : W 0x27 = true) (p_auth : P .auth = true)
    (p_boundary : P .boundary = true) (p_cc : P .cc = true) (p_draught : P .draught = true) (p_flue : P .flue = true) (p_fnd : P .fnd = true) (p_fresh
    : P .fresh = true) (p_hA : P .hA = true) (p_hB : P .hB = true) (p_inputs : P .inputs = true) (p_lanes : P .lanes = true) (p_lp : P .lp = true)
    (p_msg : P .msg = true) (p_pol : P .pol = true) (p_thn : P .thn = true) (p_timers : P .timers = true) (p_vdm : P .vdm = true) {t : State} (e :
    execVdmCmdExitHostMode n epoch arg s = .next t) : Within W P s t := by
  unfold execVdmCmdExitHostMode at e
  try dsimp only at e
  cases e
  simp (maxDischargeDepth := 60) only [implies_true, within_refl, State.vdmCommand_within, State.hostModeCmd_within, w00, w04, w07, w08, w09, w0F,
      w13, w20, w21, w22, w23, w24, w26, w27, p_auth, p_boundary, p_cc, p_draught, p_flue, p_fnd, p_fresh, p_hA, p_hB, p_inputs, p_lanes, p_lp, p_msg,
      p_pol, p_thn, p_timers, p_vdm]

theorem execCableDiscoverIdentity_within {n : Port} {s : State} (w00 : W 0x00 = true) (w04 : W 0x04 = true) (w07 : W 0x07 = true) (w08 : W 0x08 =
    true) (w09 : W 0x09 = true) (w0F : W 0x0F = true) (w13 : W 0x13 = true) (w20 : W 0x20 = true) (w21 : W 0x21 = true) (w22 : W 0x22 = true) (w23 : W
    0x23 = true) (w24 : W 0x24 = true) (w26 : W 0x26 = true) (w27 : W 0x27 = true) (p_auth : P .auth = true) (p_boundary : P .boundary = true) (p_cc :
    P .cc = true) (p_draught : P .draught = true) (p_flue : P .flue = true) (p_fnd : P .fnd = true) (p_fresh : P .fresh = true) (p_hA : P .hA = true)
    (p_hB : P .hB = true) (p_inputs : P .inputs = true) (p_lanes : P .lanes = true) (p_lp : P .lp = true) (p_msg : P .msg = true) (p_pol : P .pol =
    true) (p_thn : P .thn = true) (p_timers : P .timers = true) (p_vdm : P .vdm = true) {t : State} (e : execCableDiscoverIdentity n s = .next t) :
    Within W P s t := by
  unfold execCableDiscoverIdentity at e
  try dsimp only at e
  cases e
  simp (maxDischargeDepth := 60) only [within_refl, State.cableDiscover_within, w00, w04, w07, w08, w09, w0F, w13, w20, w21, w22, w23, w24, w26, w27,
      p_auth, p_boundary, p_cc, p_draught, p_flue, p_fnd, p_fresh, p_hA, p_hB, p_inputs, p_lanes, p_lp, p_msg, p_pol, p_thn, p_timers, p_vdm]

theorem execVdmCmdExitThatin_within {n : Port} {epoch : BitVec 8} {s : State} (w00 : W 0x00 = true) (w04 : W 0x04 = true) (w07 : W 0x07 = true) (w08 :
    W 0x08 = true) (w09 : W 0x09 = true) (w0F : W 0x0F = true) (w13 : W 0x13 = true) (w20 : W 0x20 = true) (w21 : W 0x21 = true) (w22 : W 0x22 = true)
    (w23 : W 0x23 = true) (w24 : W 0x24 = true) (w26 : W 0x26 = true) (w27 : W 0x27 = true) (p_auth : P .auth = true) (p_boundary : P .boundary =
    true) (p_cc : P .cc = true) (p_draught : P .draught = true) (p_flue : P .flue = true) (p_fnd : P .fnd = true) (p_fresh : P .fresh = true) (p_hA :
    P .hA = true) (p_hB : P .hB = true) (p_inputs : P .inputs = true) (p_lanes : P .lanes = true) (p_lp : P .lp = true) (p_msg : P .msg = true) (p_pol
    : P .pol = true) (p_thn : P .thn = true) (p_timers : P .timers = true) (p_vdm : P .vdm = true) {t : State} (e : execVdmCmdExitThatin n epoch s =
    .next t) : Within W P s t := by
  unfold execVdmCmdExitThatin at e
  try dsimp only at e
  cases e
  simp (maxDischargeDepth := 60) only [implies_true, within_refl, State.vdmCommand_within, State.thatinExitCmd_within, w00, w04, w07, w08, w09, w0F,
      w13, w20, w21, w22, w23, w24, w26, w27, p_auth, p_boundary, p_cc, p_draught, p_flue, p_fnd, p_fresh, p_hA, p_hB, p_inputs, p_lanes, p_lp, p_msg,
      p_pol, p_thn, p_timers, p_vdm]

theorem execSecurityRequestReceived_within {n : Port} {s : State} (w00 : W 0x00 = true) (w04 : W 0x04 = true) (w07 : W 0x07 = true) (w08 : W 0x08 =
    true) (w09 : W 0x09 = true) (w0F : W 0x0F = true) (w13 : W 0x13 = true) (w20 : W 0x20 = true) (w21 : W 0x21 = true) (w22 : W 0x22 = true) (w23 : W
    0x23 = true) (w24 : W 0x24 = true) (w26 : W 0x26 = true) (w27 : W 0x27 = true) (p_auth : P .auth = true) (p_boundary : P .boundary = true) (p_cc :
    P .cc = true) (p_draught : P .draught = true) (p_flue : P .flue = true) (p_fnd : P .fnd = true) (p_fresh : P .fresh = true) (p_hA : P .hA = true)
    (p_hB : P .hB = true) (p_inputs : P .inputs = true) (p_lanes : P .lanes = true) (p_lp : P .lp = true) (p_msg : P .msg = true) (p_pol : P .pol =
    true) (p_thn : P .thn = true) (p_timers : P .timers = true) (p_vdm : P .vdm = true) {t : State} (e : execSecurityRequestReceived n s = .next t) :
    Within W P s t := by
  unfold execSecurityRequestReceived at e
  try dsimp only at e
  cases e
  simp (maxDischargeDepth := 60) only [within_refl, State.takeNext_within, w00, w04, w07, w08, w09, w0F, w13, w20, w21, w22, w23, w24, w26, w27,
      p_auth, p_boundary, p_cc, p_draught, p_flue, p_fnd, p_fresh, p_hA, p_hB, p_inputs, p_lanes, p_lp, p_msg, p_pol, p_thn, p_timers, p_vdm]

end Sys2Proof.Machine
end

