-- ==== Sys2Proof/Laws/WithinBus.lean ====
section
/-! SUPPORT. What each operation and command of register access, the ADC, the bus, start-up, the thatin commands and the tick can change at most (`Within`): the pages and parts its
hypotheses name. -/

namespace Sys2Proof.Machine
variable {W : Nat → Bool} {P : Part → Bool} {s0 : State}
set_option linter.unusedVariables false

/-! ### Access -/

theorem State.idnControlWrite_within {s : State} {v : Nat} (w07 : W 0x07 = true) (p_flue : P .flue = true) (p_hA : P .hA = true) (p_hB : P .hB = true)
    (hW0 : Within W P s0 s) : Within W P s0 (State.idnControlWrite s v) := by
  unfold State.idnControlWrite
  try dsimp only
  simp (maxDischargeDepth := 60) only [and_self, implies_true, within_refl, within_ite, State.idnKeyed_within, State.idnLoadBegin_within,
      State.idnCommit_within, State.idnAbort_within, w07, p_flue, p_hA, p_hB, hW0]

theorem State.alertCause_within {s : State} (w06 : W 0x06 = true) (hW0 : Within W P s0 s) : Within W P s0 (State.alertCause s) := by
  unfold State.alertCause
  try dsimp only
  simp (maxDischargeDepth := 60) only [and_self, and_true, implies_true, within_ite, pageOf_lit, pageKind_lit, Nat.reduceDiv, Nat.reduceLeDiff,
      Nat.reduceAdd, Nat.reduceMod, if_false, State.set_within, w06, hW0]

theorem execAlertCause_within {page : BitVec 8} {bit : Fin 32} {s : State} (w06 : W 0x06 = true) {t : State} (e : execAlertCause page bit s = .next t)
    : Within W P s t := by
  unfold execAlertCause at e
  try dsimp only at e
  cases e
  simp (maxDischargeDepth := 60) only [and_self, implies_true, within_refl, within_ite, State.alertCause_within, w06]

theorem State.idnRead_within {s : State} (w07 : W 0x07 = true) (p_pins : P .pins = true) (hW0 : Within W P s0 s) : Within W P s0 (State.idnRead s) :=
    by
  unfold State.idnRead
  try dsimp only
  simp (maxDischargeDepth := 60) only [and_true, pageOf_lit, pageKind_lit, Nat.reduceDiv, Nat.reduceLeDiff, Nat.reduceAdd, Nat.reduceMod, if_false,
      State.set_within, State.returnBytes_within, w07, p_pins, hW0]

theorem State.tabControlWrite_within {s : State} {phb : Bool} {v : Nat} (w09 : W 0x09 = true) (w0F : W 0x0F = true) (w10 : W 0x10 = true) (w11 : W
    0x11 = true) (w13 : W 0x13 = true) (w20 : W 0x20 = true) (w21 : W 0x21 = true) (w22 : W 0x22 = true) (w23 : W 0x23 = true) (p_boundary : P
    .boundary = true) (p_cc : P .cc = true) (p_draught : P .draught = true) (p_flue : P .flue = true) (p_hA : P .hA = true) (p_hB : P .hB = true)
    (p_msg : P .msg = true) (p_pol : P .pol = true) (p_thn : P .thn = true) (p_timers : P .timers = true) (p_vdm : P .vdm = true) (hW0 : Within W P s0
    s) : Within W P s0 (State.tabControlWrite s phb v) := by
  unfold State.tabControlWrite
  try dsimp only
  simp (maxDischargeDepth := 60) only [and_self, implies_true, within_refl, within_ite, State.tabKeyed_within, State.tabBegin_within,
      State.phbCommitNow_within, State.tabCommit_within, State.tabAbort_within, State.tabRevert_within, w09, w0F, w10, w11, w13, w20, w21, w22, w23,
      p_boundary, p_cc, p_draught, p_flue, p_hA, p_hB, p_msg, p_pol, p_thn, p_timers, p_vdm, hW0]

theorem State.windowWrite_within {s : State} {page : Nat} {l : List Byte} (w07 : W 0x07 = true) (w0F : W 0x0F = true) (w10 : W 0x10 = true) (w11 : W
    0x11 = true) (w12 : W 0x12 = true) (p_flue : P .flue = true) (p_hA : P .hA = true) (p_hB : P .hB = true) (hW0 : Within W P s0 s) : Within W P s0
    (State.windowWrite s page l) := by
  unfold State.windowWrite
  try dsimp only
  (repeat' split) <;> (try simp (maxDischargeDepth := 60) only [and_true, pageOf_lit, pageKind_lit, Nat.reduceDiv, Nat.reduceLeDiff, Nat.reduceAdd,
      Nat.reduceMod, if_false, State.idnWindowWrite_within, State.tabWrite_within, State.opcWrite_within, State.eventIn_within, w07, w0F, w10, w11,
      w12, p_flue, p_hA, p_hB, hW0])

theorem State.alertSettle_within {s : State} (w06 : W 0x06 = true) (hW0 : Within W P s0 s) : Within W P s0 (State.alertSettle s) := by
  unfold State.alertSettle
  try dsimp only
  simp (maxDischargeDepth := 60) only [and_self, and_true, implies_true, within_ite, pageOf_lit, pageKind_lit, Nat.reduceDiv, Nat.reduceLeDiff,
      Nat.reduceAdd, Nat.reduceMod, if_false, State.set_within, w06, hW0]

theorem State.eventClear_within {s : State} {page : Nat} {v : Nat} (wAll : ∀ p, W p = true) (p_array : P .array = true) (p_hA : P .hA = true) (p_hB :
    P .hB = true) (hW0 : Within W P s0 s) : Within W P s0 (State.eventClear s page v) := by
  unfold State.eventClear
  try dsimp only
  simp (maxDischargeDepth := 60) only [and_self, and_true, implies_true, within_refl, within_ite, pageOf_lit, pageKind_lit, within_foldl,
      Nat.reduceDiv, Nat.reduceLeDiff, Nat.reduceAdd, Nat.reduceMod, if_false, State.cmpFall_within, State.set_within, State.alertSettle_within, wAll,
      p_array, p_hA, p_hB, hW0]

theorem State.lockDisable_within {s : State} (w02 : W 0x02 = true) (p_tb : P .tb = true) (hW0 : Within W P s0 s) : Within W P s0 (State.lockDisable s)
    := by
  unfold State.lockDisable
  try dsimp only
  simp (maxDischargeDepth := 60) only [and_self, and_true, implies_true, within_ite, within_mk, pageOf_lit, pageKind_lit, Nat.reduceDiv,
      Nat.reduceLeDiff, Nat.reduceAdd, Nat.reduceMod, if_false, true_or, or_true, State.set_within, w02, p_tb, hW0]

theorem State.syncWrite_within {s : State} {off : Nat} {v : Word} (w02 : W 0x02 = true) (w24 : W 0x24 = true) (p_flue : P .flue = true) (p_tb : P .tb
    = true) (hW0 : Within W P s0 s) : Within W P s0 (State.syncWrite s off v) := by
  unfold State.syncWrite
  try dsimp only
  simp (maxDischargeDepth := 60) only [and_self, and_true, implies_true, within_ite, pageOf_lit, pageKind_lit, List.forall_mem_cons, List.not_mem_nil,
      Nat.reduceDiv, Nat.reduceLeDiff, Nat.reduceAdd, Nat.reduceMod, if_false, false_implies, State.lockChecks_within, State.lockDisable_within,
      State.cfgWrite_within, w02, w24, p_flue, p_tb, hW0]

theorem State.windowWrites_within {s : State} {page unit k : Nat} {l : List Byte} (hf : ∀ (t : State) b, Within W P t (t.windowWrite page b))
    (hW0 : Within W P s0 s) : Within W P s0 (s.windowWrites page unit k l) := by
  induction k generalizing s l with
  | zero => exact hW0
  | succ k ih => exact ih (hW0.trans (hf s _))

theorem State.voteCfgWrite_within {s : State} {v : Word} (w0D : W 0x0D = true) (p_flue : P .flue = true) (hW0 : Within W P s0 s) : Within W P s0
    (State.voteCfgWrite s v) := by
  unfold State.voteCfgWrite
  try dsimp only
  simp (maxDischargeDepth := 60) only [and_self, and_true, implies_true, pageOf_lit, pageKind_lit, List.forall_mem_cons, List.not_mem_nil,
      Nat.reduceDiv, Nat.reduceLeDiff, Nat.reduceAdd, Nat.reduceMod, if_false, false_implies, State.cfgWrite_within, w0D, p_flue, hW0]

theorem execEventW1cWrite_within {page : BitVec 8} {value : Word} {s : State} (wAll : ∀ p, W p = true) (p_array : P .array = true) (p_hA : P .hA =
    true) (p_hB : P .hB = true) {t : State} (e : execEventW1cWrite page value s = .next t) : Within W P s t := by
  unfold execEventW1cWrite at e
  try dsimp only at e
  cases e
  simp (maxDischargeDepth := 60) only [implies_true, within_refl, State.answered_within, State.eventClear_within, wAll, p_array, p_hA, p_hB]

theorem State.eventEnable_within {s : State} {page v : Nat} (w06 : W 0x06 = true) (hp : W (pageKind page) = true) (hW0 : Within W P s0 s) :
    Within W P s0 (s.eventEnable page v) := by
  unfold State.eventEnable
  split
  · exact hW0
  · split
    · exact hW0
    · extract_lets f new fresh t t'
      have a : Within W P s0 t := State.set_within _ _ (page_range page (by dsimp only [f]; omega) (by dsimp only [f]; omega) hp) hW0
      have b : Within W P s0 t' := by
        simp only [t']
        split
        · exact State.alertCause_within w06 a
        · exact a
      exact State.alertSettle_within w06 b

theorem State.realert_within {s : State} (w06 : W 0x06 = true) (hW0 : Within W P s0 s) : Within W P s0 (State.realert s) := by
  unfold State.realert
  try dsimp only
  simp (maxDischargeDepth := 60) only [and_self, implies_true, within_ite, State.alertCause_within, w06, hW0]

theorem execSmbRealert_within {s : State} (w06 : W 0x06 = true) {t : State} (e : execSmbRealert s = .next t) : Within W P s t := by
  unfold execSmbRealert at e
  try dsimp only at e
  cases e
  simp (maxDischargeDepth := 60) only [implies_true, within_refl, State.answered_within, State.realert_within, w06]

theorem State.tbaseSample_within {s : State} {addr : Nat} (w02 : W 0x02 = true) (hW0 : Within W P s0 s) : Within W P s0 (State.tbaseSample s addr) :=
    by
  unfold State.tbaseSample
  try dsimp only
  simp (maxDischargeDepth := 60) only [and_self, and_true, implies_true, within_ite, pageOf_lit, pageKind_lit, Nat.reduceDiv, Nat.reduceLeDiff,
      Nat.reduceAdd, Nat.reduceMod, if_false, State.set_within, w02, hW0]

theorem State.plainWrite_within {s : State} {addr : Nat} {home : Home} {v : Word} (hw : W (pageKind (pageOf addr)) = true)
    (hW0 : Within W P s0 s) : Within W P s0 (s.plainWrite addr home v) := by
  unfold State.plainWrite
  split
  · exact hW0
  · split
    · exact hW0
    · exact within_foldl_mem _ _ (fun t c hc => State.putWord_within _ _ _ (s.copies_lt home c hc) hw (.refl t)) hW0

theorem State.portRegWrite_within {s : State} {page : Nat} {off : Nat} {v : Word} (wAll : ∀ p, W p = true) (p_flue : P .flue = true) (p_tb : P .tb =
    true) (hW0 : Within W P s0 s) : Within W P s0 (State.portRegWrite s page off v) := by
  unfold State.portRegWrite
  try dsimp only
  (repeat' split) <;> (try simp (maxDischargeDepth := 60) only [pageOf_add, pageKind_portPage, Nat.reduceAdd, Nat.reduceLT,
      State.ccConfigWrite_within, State.vconnCfgWrite_within, State.set_within, State.msgConfigWrite_within, State.capsCfgWrite_within,
      State.plainWrite_within, State.carrierWrite_within, State.timingWrite_within, State.stgConfigWrite_within, State.spManualWrite_within,
      State.bankWrite_within, State.fndWrite_within, State.thmWrite_within, wAll, p_flue, p_tb, hW0])

theorem State.graceWrite_within {s : State} {g : Nat} {v : Word} (w03 : W 0x03 = true) (hg : g < 13) (hW0 : Within W P s0 s) :
    Within W P s0 (s.graceWrite g v) := by
  have h : ∀ f : Field, f.addr / 256 = 3 → W (pageKind (pageOf f.addr)) = true := fun f hf => by rw [pageOf, hf]; exact w03
  unfold State.graceWrite
  extract_lets half l
  have hl : ∀ c ∈ l, c.f.addr / 256 = 3 := by
    intro c hc
    simp only [l, half, List.mem_append] at hc
    rcases hc with hc | hc <;>
      (split at hc
       · cases hc
       · rw [List.mem_singleton] at hc; rw [hc]; dsimp only; omega)
  split
  · exact within_foldl_mem _ _ (fun t c hc => State.set_within _ _ (h _ (hl c hc)) (.refl t)) hW0
  · exact State.set_within _ _ (h _ rfl) hW0

theorem State.fluWrite_within {s : State} {off : Nat} {v : Word} (wAll : ∀ p, W p = true) (p_flue : P .flue = true) (hW0 : Within W P s0 s) :
    Within W P s0 (s.fluWrite off v) := by
  have w03 := wAll 3
  have h : ∀ f : Field, f.addr / 256 = 3 → W (pageKind (pageOf f.addr)) = true := fun f hf => by rw [pageOf, hf]; exact w03
  unfold State.fluWrite
  split
  · extract_lets l
    have hl : ∀ c ∈ l, c.f.addr / 256 = 3 := by
      simp only [l, List.forall_mem_cons, List.not_mem_nil, false_implies, implies_true, Nat.reduceDiv, and_self]
    split
    · exact within_foldl_mem _ _ (fun t c hc => State.set_within _ _ (h _ (hl c hc)) (.refl t)) hW0
    · exact State.set_within _ _ (h _ rfl) hW0
  · split
    · exact State.graceWrite_within w03 (by omega) hW0
    · split
      · exact State.inject_within w03 p_flue hW0
      · exact State.plainWrite_within (wAll _) hW0

theorem State.smbConfigWrite_within {s : State} {v : Word} (w06 : W 0x06 = true) (p_flue : P .flue = true) (hW0 : Within W P s0 s) : Within W P s0
    (State.smbConfigWrite s v) := by
  unfold State.smbConfigWrite
  try dsimp only
  simp (maxDischargeDepth := 60) only [and_self, and_true, implies_true, pageOf_lit, pageKind_lit, List.forall_mem_cons, List.not_mem_nil,
      Nat.reduceDiv, Nat.reduceLeDiff, Nat.reduceAdd, Nat.reduceMod, if_false, false_implies, State.cfgWrite_within, w06, p_flue, hW0]

theorem execEventEnWrite_within {page : BitVec 8} {value : Word} {s : State} (w06 : W 0x06 = true) (hp : W (pageKind page.toNat) = true)
    {t : State} (e : execEventEnWrite page value s = .next t) : Within W P s t := by
  unfold execEventEnWrite at e
  injection e with e
  rw [← e]
  exact State.answered_within (fun u => State.eventEnable_within w06 hp (.refl u)) (.refl s)

theorem State.readEffect_within {s : State} {addr : Nat} (w00 : W 0x00 = true) (w21 : W 0x21 = true) (hW0 : Within W P s0 s) : Within W P s0
    (State.readEffect s addr) := by
  unfold State.readEffect
  try dsimp only
  simp (maxDischargeDepth := 60) only [and_self, and_true, implies_true, within_ite, pageOf_lit, pageKind_lit, pageOf_add, pageKind_portPage,
      Nat.reduceDiv, Nat.reduceLeDiff, Nat.reduceAdd, Nat.reduceMod, Nat.reduceLT, if_false, State.set_within, w00, w21, hW0]

theorem execLowWaterRead_within {n : Port} {s : State} (w00 : W 0x00 = true) (w21 : W 0x21 = true) (p_auth : P .auth = true) (p_draught : P .draught =
    true) (p_fnd : P .fnd = true) (p_hearths : P .hearths = true) (p_inputs : P .inputs = true) (p_lanes : P .lanes = true) (p_lp : P .lp = true)
    (p_msg : P .msg = true) (p_pins : P .pins = true) (p_pol : P .pol = true) (p_thn : P .thn = true) (p_timers : P .timers = true) (p_vdm : P .vdm =
    true) {t : State} (e : execLowWaterRead n s = .next t) : Within W P s t := by
  unfold execLowWaterRead at e
  try dsimp only at e
  cases e
  simp (maxDischargeDepth := 60) only [within_refl, State.readEffect_within, State.returnWord_within, w00, w21, p_pins]

theorem State.windowRead_within {s : State} {page : Nat} (w07 : W 0x07 = true) (w0F : W 0x0F = true) (w10 : W 0x10 = true) (w11 : W 0x11 = true) (w12
    : W 0x12 = true) (w63 : W 0x63 = true) (w69 : W 0x69 = true) (p_flue : P .flue = true) (p_pins : P .pins = true) (hW0 : Within W P s0 s) : Within
    W P s0 (State.windowRead s page) := by
  unfold State.windowRead
  try dsimp only
  (repeat' split) <;> (try simp (maxDischargeDepth := 60) only [State.idnRead_within, State.tabRead_within, State.opcRead_within,
      State.trcRead_within, w07, w0F, w10, w11, w12, w63, w69, p_flue, p_pins, hW0])

theorem State.ccControlWrite_within {s : State} {n : Port} {v : Word} (w20 : W 0x20 = true) (w22 : W 0x22 = true) (p_boundary : P .boundary = true)
    (p_cc : P .cc = true) (p_flue : P .flue = true) (p_timers : P .timers = true) (hW0 : Within W P s0 s) : Within W P s0 (State.ccControlWrite s n v)
    := by
  unfold State.ccControlWrite
  try dsimp only
  simp (maxDischargeDepth := 60) only [and_self, implies_true, within_ite, pageOf_add, pageKind_portPage, Nat.reduceAdd, Nat.reduceLT,
      State.set_within, State.ovRelease_within, w20, w22, p_boundary, p_cc, p_flue, p_timers, hW0]

theorem State.vdmControlWrite_within {s : State} {n : Port} {v : Word} (w00 : W 0x00 = true) (w04 : W 0x04 = true) (w07 : W 0x07 = true) (w08 : W 0x08
    = true) (w09 : W 0x09 = true) (w0F : W 0x0F = true) (w13 : W 0x13 = true) (w20 : W 0x20 = true) (w21 : W 0x21 = true) (w22 : W 0x22 = true) (w23 :
    W 0x23 = true) (w24 : W 0x24 = true) (w26 : W 0x26 = true) (w27 : W 0x27 = true) (p_auth : P .auth = true) (p_boundary : P .boundary = true) (p_cc
    : P .cc = true) (p_draught : P .draught = true) (p_flue : P .flue = true) (p_fnd : P .fnd = true) (p_fresh : P .fresh = true) (p_hA : P .hA =
    true) (p_hB : P .hB = true) (p_inputs : P .inputs = true) (p_lanes : P .lanes = true) (p_lp : P .lp = true) (p_msg : P .msg = true) (p_pol : P
    .pol = true) (p_thn : P .thn = true) (p_timers : P .timers = true) (p_vdm : P .vdm = true) (hW0 : Within W P s0 s) : Within W P s0
    (State.vdmControlWrite s n v) := by
  unfold State.vdmControlWrite
  try dsimp only
  (repeat' split) <;> (try simp (maxDischargeDepth := 60) only [implies_true, within_refl, State.vdmCommand_within, State.vdmDiscover_within,
      State.hostModeCmd_within, State.hostSend_within, State.thatinCmd_within, State.thatinExitCmd_within, State.proposeTracking_within,
      State.endTracking_within, State.vdmRefuse_within, w00, w04, w07, w08, w09, w0F, w13, w20, w21, w22, w23, w24, w26, w27, p_auth, p_boundary,
      p_cc, p_draught, p_flue, p_fnd, p_fresh, p_hA, p_hB, p_inputs, p_lanes, p_lp, p_msg, p_pol, p_thn, p_timers, p_vdm, hW0])

theorem State.trcControlWrite_within {s : State} {v : Nat} (w0F : W 0x0F = true) (p_flue : P .flue = true) (p_hA : P .hA = true) (p_hB : P .hB = true)
    (hW0 : Within W P s0 s) : Within W P s0 (State.trcControlWrite s v) := by
  unfold State.trcControlWrite
  try dsimp only
  simp (maxDischargeDepth := 60) only [and_self, implies_true, within_refl, within_ite, State.eachHearth_within, State.trcArm_within,
      State.trcStop_within, State.trcForce_within, w0F, p_flue, p_hA, p_hB, hW0]

theorem State.controlWrite_within {s : State} {page : Nat} {v : Word} (wAll : ∀ p, W p = true) (pAll : ∀ p, P p = true) (hW0 : Within W P s0 s) :
    Within W P s0 (State.controlWrite s page v) := by
  unfold State.controlWrite
  try dsimp only
  (repeat' split) <;> (try simp (maxDischargeDepth := 60) only [and_true, implies_true, pageOf_lit, pageKind_lit, Nat.reduceDiv, Nat.reduceLeDiff,
      Nat.reduceAdd, Nat.reduceMod, if_false, State.ccControlWrite_within, State.msgFlush_within, State.polHost_within, State.vdmControlWrite_within,
      State.rearm_within, State.softReset_within, State.set_within, State.fluControlWrite_within, State.ashControlWrite_within, State.realert_within,
      State.idnControlWrite_within, State.squashNow_within, State.fedControlWrite_within, State.hthControlWrite_within, State.trcControlWrite_within,
      State.tabControlWrite_within, State.opcControl_within, wAll, pAll, hW0])

theorem State.thnWrite_within {s : State} {off : Nat} {v : Word} (w13 : W 0x13 = true) (p_flue : P .flue = true)
    (hW0 : Within W P s0 s) : Within W P s0 (s.thnWrite off v) := by
  have g : ∀ a : Nat, 0x13 * 256 ≤ a → a < 0x13 * 256 + 256 → W (pageKind (pageOf a)) = true :=
    fun a h1 h2 => page_range _ h1 h2 w13
  unfold State.thnWrite
  dsimp only
  repeat' split
  all_goals first
    | exact hW0
    | (refine State.cfgWrite_within p_flue ?_ ?_ hW0
       · simp only [List.forall_mem_cons, List.not_mem_nil, false_implies, implies_true, and_true]
         (repeat' apply And.intro) <;> (apply g <;> first | omega | (dsimp only; omega))
       · apply g <;> first | omega | (dsimp only; omega))

theorem State.pstateWrite_within {s : State} {v : Word} (w01 : W 0x01 = true) (p_ember : P .ember = true) (p_flue : P .flue = true) (p_timers : P
    .timers = true) (hW0 : Within W P s0 s) : Within W P s0 (State.pstateWrite s v) := by
  unfold State.pstateWrite
  try dsimp only
  (repeat' split) <;> (try simp (maxDischargeDepth := 60) only [and_true, pageOf_lit, pageKind_lit, Nat.reduceDiv, Nat.reduceLeDiff, Nat.reduceAdd,
      Nat.reduceMod, if_false, State.set_within, State.pstateLit_within, State.pstateRequest_within, State.pstateReserved_within, w01, p_ember,
      p_flue, p_timers, hW0])

theorem State.devRegWrite_within {s : State} {page : Nat} {off : Nat} {v : Word} (wAll : ∀ p, W p = true) (p_ember : P .ember = true) (p_flue : P
    .flue = true) (p_hA : P .hA = true) (p_hB : P .hB = true) (p_hearths : P .hearths = true) (p_lp : P .lp = true) (p_otp : P .otp = true) (p_tb : P
    .tb = true) (p_timers : P .timers = true) (hW0 : Within W P s0 s) : Within W P s0 (State.devRegWrite s page off v) := by
  unfold State.devRegWrite
  try dsimp only
  (repeat' split) <;> (try simp (maxDischargeDepth := 60) only [implies_true, within_refl, pageOf_add, pageKind_dbg, dbg_pages, Nat.reduceMul,
      Nat.reduceAdd, Nat.reduceLT, State.plainWrite_within, State.pstateWrite_within, State.tbConfigWrite_within, State.syncWrite_within,
      State.fluWrite_within, State.otpCmdWrite_within, State.smbConfigWrite_within, State.certLenWrite_within, State.drtWrite_within,
      State.runWrite_within, State.fedWrite_within, State.set_within, State.cmpCfgWrite_within, State.modeWrite_within, State.voteCfgWrite_within,
      State.eachHearth_within, State.trcConfig_within, State.opcWindowCfg_within, State.opcModel_within, State.thnWrite_within,
      State.viewSelWrite_within, wAll, p_ember, p_flue, p_hA, p_hB, p_hearths, p_lp, p_otp, p_tb, p_timers, hW0])

theorem State.hostWrite_within {s : State} {addr : Nat} {v : Word} (wAll : ∀ p, W p = true) (pAll : ∀ p, P p = true) (hW0 : Within W P s0 s) : Within
    W P s0 (State.hostWrite s addr v) := by
  unfold State.hostWrite
  try dsimp only
  (repeat' split) <;> (try simp (maxDischargeDepth := 60) only [implies_true, State.eventClear_within, State.eventEnable_within,
      State.forceWrite_within, State.controlWrite_within, State.set_within, State.portRegWrite_within, State.devRegWrite_within, wAll, pAll, hW0])

theorem execRegisterWrite_within {addr : Nat} {value : Word} {s : State} (wAll : ∀ p, W p = true) (pAll : ∀ p, P p = true) {t : State} (e :
    execRegisterWrite addr value s = .next t) : Within W P s t := by
  unfold execRegisterWrite at e
  try dsimp only at e
  cases e
  simp (maxDischargeDepth := 60) only [implies_true, within_refl, State.hostWrite_within, wAll, pAll]

theorem execResetCauseRead_within {s : State} (w00 : W 0x00 = true) (w21 : W 0x21 = true) (p_auth : P .auth = true) (p_draught : P .draught = true)
    (p_fnd : P .fnd = true) (p_hearths : P .hearths = true) (p_inputs : P .inputs = true) (p_lanes : P .lanes = true) (p_lp : P .lp = true) (p_msg : P
    .msg = true) (p_pins : P .pins = true) (p_pol : P .pol = true) (p_thn : P .thn = true) (p_timers : P .timers = true) (p_vdm : P .vdm = true) {t :
    State} (e : execResetCauseRead s = .next t) : Within W P s t := by
  unfold execResetCauseRead at e
  try dsimp only at e
  cases e
  simp (maxDischargeDepth := 60) only [within_refl, State.readEffect_within, State.returnWord_within, w00, w21, p_pins]

theorem execSmbConfigWrite_within {value : Word} {s : State} (w06 : W 0x06 = true) (p_flue : P .flue = true) {t : State} (e : execSmbConfigWrite value
    s = .next t) : Within W P s t := by
  unfold execSmbConfigWrite at e
  try dsimp only at e
  cases e
  simp (maxDischargeDepth := 60) only [implies_true, within_refl, State.answered_within, State.smbConfigWrite_within, w06, p_flue]

/-! ### Adc -/

theorem State.pathSample_within {s : State} {n : Port} {c : Nat} (w26 : W 0x26 = true) (p_fnd : P .fnd = true) (hW0 : Within W P s0 s) : Within W P s0
    (State.pathSample s n c) := by
  unfold State.pathSample
  try dsimp only
  simp (maxDischargeDepth := 60) only [pageOf_add, pageKind_portPage, Nat.reduceAdd, Nat.reduceLT, State.modFnd_within, State.set_within, w26, p_fnd,
      hW0]

theorem State.pairShow_within {s : State} {n : Port} (w26 : W 0x26 = true) (hW0 : Within W P s0 s) : Within W P s0 (State.pairShow s n) := by
  unfold State.pairShow
  try dsimp only
  simp (maxDischargeDepth := 60) only [pageOf_add, pageKind_portPage, Nat.reduceAdd, Nat.reduceLT, State.set_within, w26, hW0]

theorem State.l3Discharged_within {s : State} {n : Port} (w26 : W 0x26 = true) (p_boundary : P .boundary = true) (p_fnd : P .fnd = true) (p_timers : P
    .timers = true) (hW0 : Within W P s0 s) : Within W P s0 (State.l3Discharged s n) := by
  unfold State.l3Discharged
  try dsimp only
  simp (maxDischargeDepth := 60) only [and_self, implies_true, within_ite, State.dschgOff_within, w26, p_boundary, p_fnd, p_timers, hW0]

theorem State.feedWindow_within {s : State} {f : Feed} {mv : Nat} (p_feeds : P .feeds = true) (hW0 : Within W P s0 s) : Within W P s0
    (State.feedWindow s f mv) := by
  unfold State.feedWindow
  try dsimp only
  simp (maxDischargeDepth := 60) only [State.modFed_within, p_feeds, hW0]

theorem State.feedSample_within {s : State} {f c : Nat} (hf : f < 4) (w0A : W 0x0A = true) (p_feeds : P .feeds = true) (hW0 : Within W P s0 s) :
    Within W P s0 (s.feedSample f c) := by
  have a : Within W P s0 (s.set (F.FED_MEAS_i f) (unsigned 16 (s.feedCurrent f c / 100))) :=
    State.set_within _ _ (page_range 0x0A (by dsimp only; omega) (by dsimp only; omega) w0A) hW0
  have lit : ∀ (t : State) (x : FeedSel), Within W P t { t with feeds := x } := fun t x => by
    simp only [within_mk, within_refl, p_feeds, true_or, or_true]
  unfold State.feedSample
  extract_lets i t
  split
  · exact a.trans (lit t _)
  · exact a

theorem State.supplySample_within {s : State} {ch : Nat} {c : Nat} (w01 : W 0x01 = true) (w20 : W 0x20 = true) (hW0 : Within W P s0 s) : Within W P s0
    (State.supplySample s ch c) := by
  unfold State.supplySample
  try dsimp only
  simp (maxDischargeDepth := 60) only [and_self, and_true, implies_true, within_refl, within_ite, pageOf_lit, pageKind_lit, Nat.reduceDiv,
      Nat.reduceLeDiff, Nat.reduceAdd, Nat.reduceMod, if_false, State.set_within, State.allPorts_within, State.vconnRevShow_within, w01, w20, hW0]

theorem State.slotUse_within {s : State} {ch c : Nat} (w01 : W 0x01 = true) (w0A : W 0x0A = true) (w20 : W 0x20 = true) (w26 : W 0x26 = true)
    (p_boundary : P .boundary = true) (p_draught : P .draught = true) (p_feeds : P .feeds = true) (p_fnd : P .fnd = true) (p_timers : P .timers =
    true) (hW0 : Within W P s0 s) : Within W P s0 (s.slotUse ch c) := by
  have win : ∀ (u : State) n, Within W P s0 u → Within W P s0 (u.windowsFollow n) := fun u n h => by
    apply State.windowsFollow_within <;> assumption
  unfold State.slotUse
  split
  · apply State.pathSample_within <;> assumption
  split
  · exact hW0.trans (by simp only [within_mk, within_refl, p_draught, true_or, or_true])
  split
  · exact hW0.trans (by simp only [within_mk, within_refl, p_draught, true_or, or_true])
  split
  · extract_lets n
    have a : Within W P s0 (if 15 * c ≤ 800 then s.l3Discharged n else s) := by
      split
      · apply State.l3Discharged_within <;> assumption
      · exact hW0
    have b : Within W P s0 ((if 15 * c ≤ 800 then s.l3Discharged n else s).sinkDetachTimer n (15 * c)) := by
      apply State.sinkDetachTimer_within <;> assumption
    exact State.pairShow_within w26 (win _ _ b)
  split
  · exact State.pairShow_within w26 (win _ _ hW0)
  split
  · exact State.feedWindow_within p_feeds
      (State.set_within _ _ (page_range 0x0A (by dsimp only; omega) (by dsimp only; omega) w0A) hW0)
  split
  · apply State.feedSample_within (by omega) <;> assumption
  split
  · exact State.set_within _ _ w0A hW0
  split
  · apply State.ntcWatch_within <;> assumption
  · apply State.supplySample_within <;> assumption

theorem slotChannel_lt (s : Nat) : slotChannel s < 48 := by
  unfold slotChannel
  repeat' split
  all_goals omega

theorem State.slotEnd_within {s : State} {c : Nat} (w01 : W 0x01 = true) (w0A : W 0x0A = true) (w14 : W 0x14 = true) (w20 : W 0x20 = true) (w26 : W
    0x26 = true) (p_boundary : P .boundary = true) (p_draught : P .draught = true) (p_feeds : P .feeds = true) (p_flue : P .flue = true) (p_fnd : P
    .fnd = true) (p_timers : P .timers = true) (hW0 : Within W P s0 s) : Within W P s0 (s.slotEnd c) := by
  have k := slotChannel_lt s.slotNow
  unfold State.slotEnd
  extract_lets ch t1 t2 t3
  have a1 : Within W P s0 t1 := by
    refine State.set_within F.ADC_STATUS_last _ w14 (State.set_within _ _ ?_ hW0)
    unfold adcField
    split <;> exact page_range 0x14 (by dsimp only; omega) (by dsimp only; omega) w14
  have a2 : Within W P s0 t2 := by
    simp only [t2]
    split
    · exact State.event_within p_flue w14 a1
    · exact a1
  have a3 : Within W P s0 t3 := by
    simp only [t3]
    split
    · exact State.bump_within w14 a2
    · exact a2
  apply State.slotUse_within <;> assumption

theorem execHousekeepingSlot_within {code : BitVec 12} {s : State} (w01 : W 0x01 = true) (w0A : W 0x0A = true) (w14 : W 0x14 = true) (w20 : W 0x20 =
    true) (w26 : W 0x26 = true) (p_boundary : P .boundary = true) (p_draught : P .draught = true) (p_feeds : P .feeds = true) (p_flue : P .flue =
    true) (p_fnd : P .fnd = true) (p_timers : P .timers = true) {t : State} (e : execHousekeepingSlot code s = .next t) : Within W P s t := by
  unfold execHousekeepingSlot at e
  try dsimp only at e
  cases e
  simp (maxDischargeDepth := 60) only [within_refl, State.slotEnd_within, w01, w0A, w14, w20, w26, p_boundary, p_draught, p_feeds, p_flue, p_fnd,
      p_timers]

/-! ### Smb -/

theorem State.txnStart_within {s : State} (w06 : W 0x06 = true) (p_ember : P .ember = true) (p_pins : P .pins = true) (hW0 : Within W P s0 s) : Within
    W P s0 (State.txnStart s) := by
  unfold State.txnStart
  try dsimp only
  (repeat' split) <;> (try simp (maxDischargeDepth := 60) only [within_mk, true_or, or_true, State.sampleAddr_within, w06, p_ember, p_pins, hW0])

theorem State.onBus_within {s : State} {i : Instr} {f : State → State} (hf : ∀ t, Within W P t (f t)) (w06 : W 0x06 = true) (p_ember : P .ember =
    true) (p_pins : P .pins = true)
    (hW0 : Within W P s0 s) : Within W P s0 (s.onBus i f) := by
  have a : Within W P s0 s.txnStart := by apply State.txnStart_within <;> assumption
  unfold State.onBus
  split
  · exact a.trans (hf _)
  · split
    · exact State.set_within _ _ w06 (by simp only [within_mk, hW0, p_pins, true_or, or_true])
    · exact hW0

theorem State.codeTaken_within {s : State} {code : Nat} (w01 : W 0x01 = true) (p_ember : P .ember = true) (p_flue : P .flue = true) (p_timers : P
    .timers = true) (hW0 : Within W P s0 s) : Within W P s0 (State.codeTaken s code) := by
  unfold State.codeTaken
  try dsimp only
  simp (maxDischargeDepth := 60) only [and_self, implies_true, within_ite, State.wakeBanked_within, w01, p_ember, p_flue, p_timers, hW0]

theorem State.txn_within {s : State} {i : Instr} {code : Nat} {f : State → State} (hf : ∀ t, Within W P t (f t)) (w01 : W 0x01 = true) (w06 : W 0x06 =
    true) (p_ember : P .ember = true) (p_flue : P .flue = true) (p_pins : P .pins = true) (p_timers : P .timers = true)
    (hW0 : Within W P s0 s) : Within W P s0 (s.txn i code f) := by
  refine State.onBus_within (fun t => ?_) w06 p_ember p_pins hW0
  have r : Within W P t t := .refl t
  have g : Within W P t (t.codeTaken code) := by apply State.codeTaken_within <;> assumption
  exact g.trans (hf _)

theorem State.smbErr_within {s : State} {reason code bytes : Nat} (w04 : W 0x04 = true) (w06 : W 0x06 = true) (p_flue : P .flue = true) (hW0 : Within
    W P s0 s) :
    Within W P s0 (s.smbErr reason code bytes) := by
  have e : W (pageKind (pageOf (errEvent reason).addr)) = true := by
    unfold errEvent
    split <;> exact w06
  unfold State.smbErr
  extract_lets t1 t2 t3
  have a1 : Within W P s0 t1 := State.eventHost_within p_flue e hW0
  have a2 : Within W P s0 t2 := by
    simp only [t2]
    split
    · exact State.soot_within w04 (by omega) a1
    · exact a1
  exact State.bumpSat_within w06 (State.set_within _ _ w06 (State.set_within _ _ w06 (State.set_within _ _ w06 (State.set_within _ _ w06 a2))))

theorem State.smbCommit_within {s : State} {act : State → State} (hf : ∀ t, Within W P t (act t)) (w06 : W 0x06 = true) (hW0 : Within W P s0 s) :
    Within W P s0 (s.smbCommit act) :=
  (State.bumpSat_within w06 (State.bump_within w06 hW0)).trans (hf _)

theorem State.smbWrite_within {s : State} {code len : Nat} {wire stream : List Byte} {act : List Byte → State → State}
    (hf : ∀ l t, Within W P t (act l t)) (w04 : W 0x04 = true) (w06 : W 0x06 = true) (p_flue : P .flue = true) (hW0 : Within W P s0 s) :
    Within W P s0 (s.smbWrite code len wire stream act) := by
  have c : Within W P s0 (s.smbCommit (act (stream.take len))) := State.smbCommit_within (fun t => hf _ t) w06 hW0
  have sur : ∀ rest : List Byte, Within W P s0 (if rest.isEmpty ∨ ¬ (s.smbCommit (act (stream.take len))).targetAnswers then
      s.smbCommit (act (stream.take len)) else (s.smbCommit (act (stream.take len))).smbErr 7 code len) := fun rest => by
    split
    · exact c
    · exact State.smbErr_within w04 w06 p_flue c
  unfold State.smbWrite
  split
  · exact State.smbErr_within w04 w06 p_flue hW0
  · dsimp only
    split
    · exact sur _
    · split
      · exact State.smbErr_within w04 w06 p_flue hW0
      · exact c
    · split
      · exact sur _
      · exact State.smbErr_within w04 w06 p_flue hW0

theorem State.writeWords_within {s : State} {addr : Nat} {l : List Word} (wAll : ∀ p, W p = true) (pAll : ∀ p, P p = true) (hW0 : Within W P s0 s) :
    Within W P s0 (s.writeWords addr l) := by
  induction l generalizing s addr with
  | nil => exact hW0
  | cons w l ih => exact ih (by apply State.hostWrite_within <;> assumption)

theorem execBlockWrite_within {reg : Fin 64} {count : BitVec 8} {stream : List Byte} {s : State} (wAll : ∀ p, W p = true) (pAll : ∀ p, P p = true) {t
    : State} (e : execBlockWrite reg count stream s = .next t) : Within W P s t := by
  unfold execBlockWrite at e
  try dsimp only at e
  cases e
  simp (maxDischargeDepth := 60) only [and_self, implies_true, within_refl, within_ite, State.txn_within, State.smbErr_within, State.smbWrite_within,
      State.writeWords_within, wAll, pAll]

theorem execTransactionAbandoned_within {how : TxnEnd} {code : Option Byte} {bytes : Nat} {s : State} (w04 : W 0x04 = true) (w06 : W 0x06 = true)
    (p_ember : P .ember = true) (p_flue : P .flue = true) (p_pins : P .pins = true) {t : State} (e : execTransactionAbandoned how code bytes s = .next
    t) : Within W P s t := by
  unfold execTransactionAbandoned at e
  try dsimp only at e
  cases e
  simp (maxDischargeDepth := 60) only [and_self, implies_true, within_refl, within_ite, State.smbErr_within, State.txnStart_within, w04, w06, p_ember,
      p_flue, p_pins]

theorem execTablePortWrite_within {count : BitVec 8} {stream : List Byte} {s : State} (w01 : W 0x01 = true) (w04 : W 0x04 = true) (w06 : W 0x06 =
    true) (w07 : W 0x07 = true) (w0F : W 0x0F = true) (w10 : W 0x10 = true) (w11 : W 0x11 = true) (w12 : W 0x12 = true) (p_ember : P .ember = true)
    (p_flue : P .flue = true) (p_hA : P .hA = true) (p_hB : P .hB = true) (p_pins : P .pins = true) (p_timers : P .timers = true) {t : State}
    (e : execTablePortWrite count stream s = .next t) : Within W P s t := by
  unfold execTablePortWrite at e
  injection e with e
  rw [← e]
  refine State.txn_within (fun t => ?_) w01 w06 p_ember p_flue p_pins p_timers (.refl s)
  dsimp only
  split
  · exact State.smbErr_within w04 w06 p_flue (.refl t)
  · split
    · exact State.smbErr_within w04 w06 p_flue (.refl t)
    · split
      · exact .refl t
      · refine State.smbWrite_within (fun l u => ?_) w04 w06 p_flue (.refl t)
        split
        · exact State.windowWrites_within (fun u b => by apply State.windowWrite_within <;> first | assumption | exact .refl u) (.refl u)
        · exact .refl u

theorem State.readBytes_within {s : State} {code : Nat} {take : Nat} {payload : List Byte} (p_pins : P .pins = true) (hW0 : Within W P s0 s) : Within
    W P s0 (State.readBytes s code take payload) := by
  unfold State.readBytes
  try dsimp only
  simp (maxDischargeDepth := 60) only [State.returnBytes_within, p_pins, hW0]

theorem execRegWrite32_within {reg : Fin 64} {value : Word} {tail : List Byte} {s : State} (wAll : ∀ p, W p = true) (pAll : ∀ p, P p = true) {t :
    State} (e : execRegWrite32 reg value tail s = .next t) : Within W P s t := by
  unfold execRegWrite32 at e
  try dsimp only at e
  cases e
  simp (maxDischargeDepth := 60) only [implies_true, within_refl, State.txn_within, State.smbWrite_within, State.writeWords_within, wAll, pAll]

theorem execPageSelect_within {page : BitVec 8} {byte1 : BitVec 8} {tail : List Byte} {s : State} (w01 : W 0x01 = true) (w04 : W 0x04 = true) (w06 : W
    0x06 = true) (p_ember : P .ember = true) (p_flue : P .flue = true) (p_pins : P .pins = true) (p_timers : P .timers = true) {t : State} (e :
    execPageSelect page byte1 tail s = .next t) : Within W P s t := by
  unfold execPageSelect at e
  try dsimp only at e
  cases e
  simp (maxDischargeDepth := 60) only [and_self, and_true, implies_true, within_refl, within_ite, pageOf_lit, pageKind_lit, Nat.reduceDiv,
      Nat.reduceLeDiff, Nat.reduceAdd, Nat.reduceMod, if_false, State.txn_within, State.smbErr_within, State.smbWrite_within, State.set_within, w01,
      w04, w06, p_ember, p_flue, p_pins, p_timers]

theorem State.dialectWrite_within {s : State} {major : Nat} (w00 : W 0x00 = true) (p_flue : P .flue = true) (hW0 : Within W P s0 s) : Within W P s0
    (State.dialectWrite s major) := by
  unfold State.dialectWrite
  try dsimp only
  simp (maxDischargeDepth := 60) only [and_self, and_true, implies_true, within_ite, pageOf_lit, pageKind_lit, Nat.reduceDiv, Nat.reduceLeDiff,
      Nat.reduceAdd, Nat.reduceMod, if_false, State.set_within, State.eventHost_within, w00, p_flue, hW0]

theorem execDialectWrite_within {major : BitVec 8} {tail : List Byte} {s : State} (w00 : W 0x00 = true) (w01 : W 0x01 = true) (w04 : W 0x04 = true)
    (w06 : W 0x06 = true) (p_ember : P .ember = true) (p_flue : P .flue = true) (p_pins : P .pins = true) (p_timers : P .timers = true) {t : State} (e
    : execDialectWrite major tail s = .next t) : Within W P s t := by
  unfold execDialectWrite at e
  try dsimp only at e
  cases e
  simp (maxDischargeDepth := 60) only [implies_true, within_refl, State.txn_within, State.smbWrite_within, State.dialectWrite_within, w00, w01, w04,
      w06, p_ember, p_flue, p_pins, p_timers]

theorem execRegRead32_within {reg : Fin 64} {take : Nat} {s : State} (w00 : W 0x00 = true) (w01 : W 0x01 = true) (w02 : W 0x02 = true) (w06 : W 0x06 =
    true) (w21 : W 0x21 = true) (p_auth : P .auth = true) (p_draught : P .draught = true) (p_ember : P .ember = true) (p_flue : P .flue = true) (p_fnd
    : P .fnd = true) (p_hearths : P .hearths = true) (p_inputs : P .inputs = true) (p_lanes : P .lanes = true) (p_lp : P .lp = true) (p_msg : P .msg =
    true) (p_pins : P .pins = true) (p_pol : P .pol = true) (p_thn : P .thn = true) (p_timers : P .timers = true) (p_vdm : P .vdm = true) {t : State}
    (e : execRegRead32 reg take s = .next t) : Within W P s t := by
  unfold execRegRead32 at e
  try dsimp only at e
  cases e
  simp (maxDischargeDepth := 60) only [and_self, implies_true, within_refl, within_ite, State.txn_within, State.tbaseSample_within,
      State.readBytes_within, State.readEffect_within, w00, w01, w02, w06, w21, p_ember, p_flue, p_pins, p_timers]

theorem State.readEffects_within {s : State} {a k : Nat} (w00 : W 0x00 = true) (w21 : W 0x21 = true) (hW0 : Within W P s0 s) : Within W P s0
    (s.readEffects a k) := by
  induction k generalizing s a with
  | zero => exact hW0
  | succ k ih => exact ih (by apply State.readEffect_within <;> assumption)

theorem execBlockRead_within {reg : Fin 64} {take : Nat} {s : State} (w00 : W 0x00 = true) (w01 : W 0x01 = true) (w02 : W 0x02 = true) (w06 : W 0x06 =
    true) (w21 : W 0x21 = true) (p_auth : P .auth = true) (p_draught : P .draught = true) (p_ember : P .ember = true) (p_flue : P .flue = true) (p_fnd
    : P .fnd = true) (p_hearths : P .hearths = true) (p_inputs : P .inputs = true) (p_lanes : P .lanes = true) (p_lp : P .lp = true) (p_msg : P .msg =
    true) (p_pins : P .pins = true) (p_pol : P .pol = true) (p_thn : P .thn = true) (p_timers : P .timers = true) (p_vdm : P .vdm = true) {t : State}
    (e : execBlockRead reg take s = .next t) : Within W P s t := by
  unfold execBlockRead at e
  try dsimp only at e
  cases e
  simp (maxDischargeDepth := 60) only [implies_true, within_refl, within_foldl, State.txn_within, State.tbaseSample_within, State.readEffects_within,
      State.readBytes_within, w00, w01, w02, w06, w21, p_ember, p_flue, p_pins, p_timers]

theorem execPageSelectRead_within {take : Nat} {s : State} (w01 : W 0x01 = true) (w06 : W 0x06 = true) (p_ember : P .ember = true) (p_flue : P .flue =
    true) (p_pins : P .pins = true) (p_timers : P .timers = true) {t : State} (e : execPageSelectRead take s = .next t) : Within W P s t := by
  unfold execPageSelectRead at e
  try dsimp only at e
  cases e
  simp (maxDischargeDepth := 60) only [implies_true, within_refl, State.txn_within, State.readBytes_within, w01, w06, p_ember, p_flue, p_pins,
      p_timers]

theorem execDialectRead_within {take : Nat} {s : State} (w01 : W 0x01 = true) (w06 : W 0x06 = true) (p_ember : P .ember = true) (p_flue : P .flue =
    true) (p_pins : P .pins = true) (p_timers : P .timers = true) {t : State} (e : execDialectRead take s = .next t) : Within W P s t := by
  unfold execDialectRead at e
  try dsimp only at e
  cases e
  simp (maxDischargeDepth := 60) only [implies_true, within_refl, State.txn_within, State.readBytes_within, w01, w06, p_ember, p_flue, p_pins,
      p_timers]

theorem State.alertRelease_within {s : State} (w06 : W 0x06 = true) (p_pins : P .pins = true) (hW0 : Within W P s0 s) : Within W P s0
    (State.alertRelease s) := by
  unfold State.alertRelease
  try dsimp only
  simp (maxDischargeDepth := 60) only [and_self, and_true, implies_true, within_ite, within_mk, pageOf_lit, pageKind_lit, Nat.reduceDiv,
      Nat.reduceLeDiff, Nat.reduceAdd, Nat.reduceMod, if_false, true_or, or_true, State.set_within, w06, p_pins, hW0]

theorem execAlertSourceRead_within {take : Nat} {s : State} (w01 : W 0x01 = true) (w06 : W 0x06 = true) (p_ember : P .ember = true) (p_flue : P .flue
    = true) (p_pins : P .pins = true) (p_timers : P .timers = true) {t : State} (e : execAlertSourceRead take s = .next t) : Within W P s t := by
  unfold execAlertSourceRead at e
  try dsimp only at e
  cases e
  simp (maxDischargeDepth := 60) only [and_self, implies_true, within_refl, within_ite, State.txn_within, State.readBytes_within,
      State.alertRelease_within, w01, w06, p_ember, p_flue, p_pins, p_timers]

theorem State.windowReads_within {s : State} {page k : Nat} (hf : ∀ t : State, Within W P t (t.windowRead page)) (hW0 : Within W P s0 s) :
    Within W P s0 (s.windowReads page k).2 := by
  induction k generalizing s with
  | zero => exact hW0
  | succ k ih => exact ih (hW0.trans (hf s))

theorem execTablePortRead_within {take : Nat} {s : State} (w01 : W 0x01 = true) (w04 : W 0x04 = true) (w06 : W 0x06 = true) (w07 : W 0x07 = true) (w0F
    : W 0x0F = true) (w10 : W 0x10 = true) (w11 : W 0x11 = true) (w12 : W 0x12 = true) (w63 : W 0x63 = true) (w69 : W 0x69 = true) (p_ember : P .ember
    = true) (p_flue : P .flue = true) (p_pins : P .pins = true) (p_timers : P .timers = true) {t : State}
    (e : execTablePortRead take s = .next t) : Within W P s t := by
  unfold execTablePortRead at e
  injection e with e
  rw [← e]
  refine State.txn_within (fun t => ?_) w01 w06 p_ember p_flue p_pins p_timers (.refl s)
  dsimp only
  split
  · exact State.smbErr_within w04 w06 p_flue (.refl t)
  · split
    · exact State.readBytes_within p_pins (State.windowReads_within (fun u => by apply State.windowRead_within <;> first | assumption | exact .refl u)
        (.refl t))
    · exact State.readBytes_within p_pins (.refl t)

theorem execQuickCommand_within {s : State} (w06 : W 0x06 = true) (p_ember : P .ember = true) (p_pins : P .pins = true) {t : State} (e :
    execQuickCommand s = .next t) : Within W P s t := by
  unfold execQuickCommand at e
  try dsimp only at e
  cases e
  simp (maxDischargeDepth := 60) only [implies_true, within_refl, State.onBus_within, w06, p_ember, p_pins]

theorem execReadWithoutCommand_within {len : Nat} {s : State} (w04 : W 0x04 = true) (w06 : W 0x06 = true) (p_ember : P .ember = true) (p_flue : P
    .flue = true) (p_pins : P .pins = true) {t : State} (e : execReadWithoutCommand len s = .next t) : Within W P s t := by
  unfold execReadWithoutCommand at e
  try dsimp only at e
  cases e
  simp (maxDischargeDepth := 60) only [implies_true, within_refl, State.onBus_within, State.smbErr_within, State.returnBytes_within, w04, w06,
      p_ember, p_flue, p_pins]

theorem State.txnRun_within {s : State} {i : Instr} (wAll : ∀ p, W p = true) (pAll : ∀ p, P p = true) (hW0 : Within W P s0 s) : Within W P s0
    (s.txnRun i) := by
  have step : ∀ o : Host.Outcome State Fault Refusal, (∀ t, o = .next t → Within W P s t) →
      Within W P s0 (match o with | .next t => t | _ => s) := fun o h => by
    cases o with
    | next t => exact hW0.trans (h t rfl)
    | _ => exact hW0
  unfold State.txnRun
  refine step _ fun t e => ?_
  split at e
  · apply execRegWrite32_within (e := e) <;> assumption
  · apply execBlockWrite_within (e := e) <;> assumption
  · apply execPageSelect_within (e := e) <;> first | assumption | exact wAll _ | exact pAll _
  · apply execDialectWrite_within (e := e) <;> first | assumption | exact wAll _ | exact pAll _
  · apply execRegRead32_within (e := e) <;> first | assumption | exact wAll _ | exact pAll _
  · apply execBlockRead_within (e := e) <;> first | assumption | exact wAll _ | exact pAll _
  · apply execPageSelectRead_within (e := e) <;> first | assumption | exact wAll _ | exact pAll _
  · apply execDialectRead_within (e := e) <;> first | assumption | exact wAll _ | exact pAll _
  · apply execAlertSourceRead_within (e := e) <;> first | assumption | exact wAll _ | exact pAll _
  · apply execTablePortWrite_within (e := e) <;> first | assumption | exact wAll _ | exact pAll _
  · apply execTablePortRead_within (e := e) <;> first | assumption | exact wAll _ | exact pAll _
  · apply execQuickCommand_within (e := e) <;> first | assumption | exact wAll _ | exact pAll _
  · apply execReadWithoutCommand_within (e := e) <;> first | assumption | exact wAll _ | exact pAll _
  · cases e; exact .refl s

theorem execSdaStuck_within {self : Bool} {code : Option Byte} {bytes : Nat} {s : State} (w04 : W 0x04 = true) (w06 : W 0x06 = true) (p_ember : P
    .ember = true) (p_flue : P .flue = true) (p_pins : P .pins = true) {t : State} (e : execSdaStuck self code bytes s = .next t) : Within W P s t :=
    by
  unfold execSdaStuck at e
  try dsimp only at e
  cases e
  simp (maxDischargeDepth := 60) only [and_self, and_true, implies_true, within_refl, within_ite, pageOf_lit, pageKind_lit, Nat.reduceDiv,
      Nat.reduceLeDiff, Nat.reduceAdd, Nat.reduceMod, if_false, State.smbErr_within, State.setB_within, State.txnStart_within, w04, w06, p_ember,
      p_flue, p_pins]

theorem execAlertResponse_within {rival : Option Byte} {take : Nat} {s : State} (w06 : W 0x06 = true) (p_ember : P .ember = true) (p_flue : P .flue =
    true) (p_pins : P .pins = true) {t : State} (e : execAlertResponse rival take s = .next t) : Within W P s t := by
  unfold execAlertResponse at e
  try dsimp only at e
  cases e
  simp (maxDischargeDepth := 60) only [and_self, and_true, implies_true, within_refl, within_ite, pageOf_lit, pageKind_lit, Nat.reduceDiv,
      Nat.reduceLeDiff, Nat.reduceAdd, Nat.reduceMod, if_false, State.txnStart_within, State.event_within, State.returnBytes_within,
      State.alertRelease_within, w06, p_ember, p_flue, p_pins]

theorem execSclTimeout_within {code : Option Byte} {bytes : Nat} {s : State} (w04 : W 0x04 = true) (w06 : W 0x06 = true) (p_ember : P .ember = true)
    (p_flue : P .flue = true) (p_pins : P .pins = true) {t : State} (e : execSclTimeout code bytes s = .next t) : Within W P s t := by
  unfold execSclTimeout at e
  try dsimp only at e
  cases e
  simp (maxDischargeDepth := 60) only [and_self, implies_true, within_refl, within_ite, State.smbErr_within, State.txnStart_within, w04, w06, p_ember,
      p_flue, p_pins]

theorem execAddressMatchWake_within {addr : BitVec 7} {s : State} (wAll : ∀ p, W p = true) (pAll : ∀ p, P p = true) {t : State} (e :
    execAddressMatchWake addr s = .next t) : Within W P s t := by
  unfold execAddressMatchWake at e
  try dsimp only at e
  cases e
  simp (maxDischargeDepth := 60) only [and_self, and_true, implies_true, within_refl, within_ite, within_mk, pageOf_lit, pageKind_lit, Nat.reduceDiv,
      Nat.reduceLeDiff, Nat.reduceAdd, Nat.reduceMod, if_false, true_or, or_true, State.set_within, State.wakeSmoulder_within, wAll, pAll]

theorem execBankedHearthAccess_within {code : BitVec 8} {s : State} (w01 : W 0x01 = true) (p_ember : P .ember = true) (p_flue : P .flue = true)
    (p_timers : P .timers = true) {t : State} (e : execBankedHearthAccess code s = .next t) : Within W P s t := by
  unfold execBankedHearthAccess at e
  try dsimp only at e
  cases e
  simp (maxDischargeDepth := 60) only [within_refl, State.codeTaken_within, w01, p_ember, p_flue, p_timers]

/-! ### Startup -/

theorem State.heldRun_within {s : State} (wAll : ∀ p, W p = true) (pAll : ∀ p, P p = true) (hW0 : Within W P s0 s) : Within W P s0 (State.heldRun s)
    := by
  unfold State.heldRun
  try dsimp only
  (repeat' split) <;> (try simp (maxDischargeDepth := 60) only [implies_true, within_mk, true_or, or_true, State.txnRun_within, wAll, pAll, hW0])

theorem execStartupHearthsReady_within {s : State} (wAll : ∀ p, W p = true) (pAll : ∀ p, P p = true) {t : State} (e : execStartupHearthsReady s =
    .next t) : Within W P s t := by
  unfold execStartupHearthsReady at e
  try dsimp only at e
  cases e
  (repeat' split) <;> simp (maxDischargeDepth := 60) only [and_true, implies_true, within_refl, within_mk, pageOf_lit, pageKind_lit, Nat.reduceDiv,
      Nat.reduceLeDiff, Nat.reduceAdd, Nat.reduceMod, if_false, true_or, or_true, State.loadSeeds_within, State.otpDefaults_within,
      State.lockChecks_within, State.fitCarriers_within, State.presentCounters_within, State.event_within, State.set_within, State.setTypec_within,
      State.point0_within, State.heldRun_within, State.toStep_within, wAll, pAll]

theorem execStartupDigestsGood_within {passA : Bool} {passB : Bool} {s : State} (wAll : ∀ p, W p = true) (pAll : ∀ p, P p = true) {t : State} (e :
    execStartupDigestsGood passA passB s = .next t) : Within W P s t := by
  unfold execStartupDigestsGood at e
  try dsimp only at e
  cases e
  (repeat' split) <;> simp (maxDischargeDepth := 60) only [implies_true, within_refl, State.toStep_within, State.bootRoles_within,
      State.keyCheck_within, State.selfcheckFail_within, State.heldRun_within, State.heldEnter_within, wAll, pAll]

theorem execStartupDeliveryComplete_within {s : State} (wAll : ∀ p, W p = true) (pAll : ∀ p, P p = true) {t : State} (e : execStartupDeliveryComplete
    s = .next t) : Within W P s t := by
  unfold execStartupDeliveryComplete at e
  try dsimp only at e
  cases e
  simp (maxDischargeDepth := 60) only [and_self, implies_true, within_refl, within_ite, State.toStep_within, State.otpCheckRegions_within,
      State.heldRun_within, State.fuseHoldEnter_within, wAll, pAll]

/-! ### Thatin -/

theorem State.trackingActive_within {s : State} {n : Port} {k : TrkTerms} (w13 : W 0x13 = true) (p_flue : P .flue = true) (p_thn : P .thn = true)
    (p_timers : P .timers = true) (hW0 : Within W P s0 s) : Within W P s0 (State.trackingActive s n k) := by
  unfold State.trackingActive
  try dsimp only
  simp (maxDischargeDepth := 60) only [and_true, pageOf_lit, pageKind_lit, pageOf_fin4, Nat.reduceDiv, Nat.reduceLeDiff, Nat.reduceMul, Nat.reduceAdd,
      Nat.reduceMod, Nat.reduceLT, if_false, State.modThn_within, State.set_within, State.setBit_within, State.event_within, State.stop_within, w13,
      p_flue, p_thn, p_timers, hW0]

theorem State.sbuTold_within {s : State} {n : Port} {type : Nat} {l : List Byte} (w09 : W 0x09 = true) (w13 : W 0x13 = true) (p_draught : P .draught =
    true) (p_flue : P .flue = true) (p_thn : P .thn = true) (p_timers : P .timers = true) (hW0 : Within W P s0 s) : Within W P s0 (State.sbuTold s n
    type l) := by
  unfold State.sbuTold
  try dsimp only
  (repeat' split) <;> (try simp (maxDischargeDepth := 60) only [and_true, pageOf_lit, pageKind_lit, pageOf_fin4, Nat.reduceDiv, Nat.reduceLeDiff,
      Nat.reduceMul, Nat.reduceAdd, Nat.reduceMod, Nat.reduceLT, if_false, State.set_within, State.modThn_within, State.trackingActive_within,
      State.event_within, State.collapse_within, w09, w13, p_draught, p_flue, p_thn, p_timers, hW0])

theorem State.linkLost_within {s : State} {n : Port} (w09 : W 0x09 = true) (w13 : W 0x13 = true) (p_draught : P .draught = true) (p_flue : P .flue =
    true) (p_thn : P .thn = true) (p_timers : P .timers = true) (hW0 : Within W P s0 s) : Within W P s0 (State.linkLost s n) := by
  unfold State.linkLost
  try dsimp only
  simp (maxDischargeDepth := 60) only [and_self, and_true, implies_true, within_ite, pageOf_lit, pageKind_lit, Nat.reduceDiv, Nat.reduceLeDiff,
      Nat.reduceAdd, Nat.reduceMod, if_false, State.event_within, State.collapse_within, State.setBit_within, w09, w13, p_draught, p_flue, p_thn,
      p_timers, hW0]

theorem State.sbuSend_within {s : State} {n : Port} {type : Nat} {payload : List Byte} (p_thn : P .thn = true) (hW0 : Within W P s0 s) : Within W P s0
    (State.sbuSend s n type payload) := by
  unfold State.sbuSend
  try dsimp only
  simp (maxDischargeDepth := 60) only [State.modThn_within, p_thn, hW0]

theorem State.sbuPropose_within {s : State} {n : Port} {k : TrkTerms} (w13 : W 0x13 = true) (p_thn : P .thn = true) (hW0 : Within W P s0 s) : Within W
    P s0 (State.sbuPropose s n k) := by
  unfold State.sbuPropose
  try dsimp only
  simp (maxDischargeDepth := 60) only [and_true, pageKind_lit, pageOf_fin4, Nat.reduceDiv, Nat.reduceLeDiff, Nat.reduceMul, Nat.reduceAdd,
      Nat.reduceMod, Nat.reduceLT, if_false, State.set_within, State.modThn_within, State.sbuSend_within, w13, p_thn, hW0]

theorem State.sbuTurn_within {s : State} {n : Port} (w13 : W 0x13 = true) (p_thn : P .thn = true) (hW0 : Within W P s0 s) : Within W P s0
    (State.sbuTurn s n) := by
  unfold State.sbuTurn
  try dsimp only
  (repeat' split) <;> (try simp (maxDischargeDepth := 60) only [State.sbuSend_within, State.modThn_within, State.sbuPropose_within, w13, p_thn, hW0])

theorem execThatinExit_within {n : Port} {s : State} (w09 : W 0x09 = true) (w13 : W 0x13 = true) (w20 : W 0x20 = true) (w23 : W 0x23 = true)
    (p_draught : P .draught = true) (p_flue : P .flue = true) (p_thn : P .thn = true) (p_timers : P .timers = true) {t : State} (e : execThatinExit n
    s = .next t) : Within W P s t := by
  unfold execThatinExit at e
  try dsimp only at e
  cases e
  simp (maxDischargeDepth := 60) only [within_refl, State.thatinExit_within, w09, w13, w20, w23, p_draught, p_flue, p_thn, p_timers]

theorem State.thatinPoll_within {s : State} {n : Port} (w13 : W 0x13 = true) (p_thn : P .thn = true) (p_timers : P .timers = true) (hW0 : Within W P
    s0 s) : Within W P s0 (State.thatinPoll s n) := by
  unfold State.thatinPoll
  try dsimp only
  simp (maxDischargeDepth := 60) only [and_self, implies_true, within_ite, State.start_within, State.modThn_within, State.sbuTurn_within, w13, p_thn,
      p_timers, hW0]

theorem State.sbuAccept_within {s : State} {n : Port} {k : TrkTerms} (p_thn : P .thn = true) (p_timers : P .timers = true) (hW0 : Within W P s0 s) :
    Within W P s0 (State.sbuAccept s n k) := by
  unfold State.sbuAccept
  try dsimp only
  simp (maxDischargeDepth := 60) only [State.sbuSend_within, State.modThn_within, State.start_within, p_thn, p_timers, hW0]

theorem State.sbuAnswer_within {s : State} {n : Port} {k : TrkTerms} (w13 : W 0x13 = true) (p_thn : P .thn = true) (p_timers : P .timers = true) (hW0
    : Within W P s0 s) : Within W P s0 (State.sbuAnswer s n k) := by
  unfold State.sbuAnswer
  try dsimp only
  (repeat' split) <;> (try simp (maxDischargeDepth := 60) only [and_true, pageKind_lit, pageOf_fin4, Nat.reduceDiv, Nat.reduceLeDiff, Nat.reduceMul,
      Nat.reduceAdd, Nat.reduceMod, Nat.reduceLT, if_false, State.set_within, State.sbuAccept_within, State.sbuSend_within, w13, p_thn, p_timers,
      hW0])

theorem execThatinPoll_within {n : Port} {s : State} (w13 : W 0x13 = true) (p_thn : P .thn = true) (p_timers : P .timers = true) {t : State} (e :
    execThatinPoll n s = .next t) : Within W P s t := by
  unfold execThatinPoll at e
  try dsimp only at e
  cases e
  simp (maxDischargeDepth := 60) only [within_refl, State.thatinPoll_within, w13, p_thn, p_timers]

theorem State.sbuAct_within {s : State} {n : Port} {type : Nat} {l : List Byte} (w09 : W 0x09 = true) (w13 : W 0x13 = true) (p_draught : P .draught =
    true) (p_flue : P .flue = true) (p_thn : P .thn = true) (p_timers : P .timers = true) (hW0 : Within W P s0 s) : Within W P s0 (State.sbuAct s n
    type l) := by
  unfold State.sbuAct
  try dsimp only
  simp (maxDischargeDepth := 60) only [and_self, implies_true, within_ite, State.sbuTold_within, State.sbuAnswer_within, State.sbuTurn_within, w09,
      w13, p_draught, p_flue, p_thn, p_timers, hW0]

theorem State.linkUp_within {s : State} {n : Port} (w13 : W 0x13 = true) (p_flue : P .flue = true) (p_thn : P .thn = true) (hW0 : Within W P s0 s) :
    Within W P s0 (State.linkUp s n) := by
  unfold State.linkUp
  try dsimp only
  simp (maxDischargeDepth := 60) only [and_self, and_true, implies_true, within_ite, pageOf_lit, pageKind_lit, Nat.reduceDiv, Nat.reduceLeDiff,
      Nat.reduceAdd, Nat.reduceMod, if_false, State.modThn_within, State.event_within, State.setBit_within, w13, p_flue, p_thn, hW0]

theorem State.sbuReceived_within {s : State} {n : Port} {f : SbuFrame} (w04 : W 0x04 = true) (w09 : W 0x09 = true) (w13 : W 0x13 = true) (p_draught :
    P .draught = true) (p_flue : P .flue = true) (p_thn : P .thn = true) (p_timers : P .timers = true) (hW0 : Within W P s0 s) : Within W P s0
    (State.sbuReceived s n f) := by
  unfold State.sbuReceived
  try dsimp only
  simp (maxDischargeDepth := 60) only [and_self, and_true, implies_true, within_ite, pageOf_lit, pageKind_lit, Nat.reduceDiv, Nat.reduceLeDiff,
      Nat.reduceAdd, Nat.reduceMod, Nat.reduceLT, if_false, State.sbuAct_within, State.linkUp_within, State.soot_within, State.event_within, w04, w09,
      w13, p_draught, p_flue, p_thn, p_timers, hW0]

theorem State.trkAccepted_within {s : State} {n : Port} (w13 : W 0x13 = true) (p_flue : P .flue = true) (p_thn : P .thn = true) (p_timers : P .timers
    = true) (hW0 : Within W P s0 s) : Within W P s0 (State.trkAccepted s n) := by
  unfold State.trkAccepted
  try dsimp only
  (repeat' split) <;> (try simp (maxDischargeDepth := 60) only [State.modThn_within, State.trackingActive_within, w13, p_flue, p_thn, p_timers, hW0])

theorem execThatinLinkLost_within {n : Port} {s : State} (w09 : W 0x09 = true) (w13 : W 0x13 = true) (p_draught : P .draught = true) (p_flue : P .flue
    = true) (p_thn : P .thn = true) (p_timers : P .timers = true) {t : State} (e : execThatinLinkLost n s = .next t) : Within W P s t := by
  unfold execThatinLinkLost at e
  try dsimp only at e
  cases e
  simp (maxDischargeDepth := 60) only [within_refl, State.linkLost_within, w09, w13, p_draught, p_flue, p_thn, p_timers]

theorem execSbu2FrameReceived_within {n : Port} {f : SbuFrame} {s : State} (w04 : W 0x04 = true) (w09 : W 0x09 = true) (w13 : W 0x13 = true)
    (p_draught : P .draught = true) (p_flue : P .flue = true) (p_thn : P .thn = true) (p_timers : P .timers = true) {t : State} (e :
    execSbu2FrameReceived n f s = .next t) : Within W P s t := by
  unfold execSbu2FrameReceived at e
  try dsimp only at e
  cases e
  simp (maxDischargeDepth := 60) only [within_refl, State.sbuReceived_within, w04, w09, w13, p_draught, p_flue, p_thn, p_timers]

theorem execTrackingCollapse_within {n : Port} {reason : Fin 7} {s : State} (w09 : W 0x09 = true) (w13 : W 0x13 = true) (p_draught : P .draught =
    true) (p_flue : P .flue = true) (p_thn : P .thn = true) (p_timers : P .timers = true) {t : State} (e : execTrackingCollapse n reason s = .next t)
    : Within W P s t := by
  unfold execTrackingCollapse at e
  try dsimp only at e
  cases e
  simp (maxDischargeDepth := 60) only [within_refl, State.collapse_within, w09, w13, p_draught, p_flue, p_thn, p_timers]

theorem execVthRestoreAfterCollapse_within {n : Port} {s : State} (p_timers : P .timers = true) {t : State} (e : execVthRestoreAfterCollapse n s =
    .next t) : Within W P s t := by
  unfold execVthRestoreAfterCollapse at e
  try dsimp only at e
  cases e
  simp (maxDischargeDepth := 60) only [within_refl, State.stop_within, p_timers]

/-! ### Tick -/

theorem State.epochTick_within {s : State} (w02 : W 0x02 = true) (w0D : W 0x0D = true) (w20 : W 0x20 = true) (p_ember : P .ember = true) (p_flue : P
    .flue = true) (p_fresh : P .fresh = true) (p_hearths : P .hearths = true) (p_timers : P .timers = true) (hW0 : Within W P s0 s) : Within W P s0
    (State.epochTick s) := by
  unfold State.epochTick
  try dsimp only
  simp (maxDischargeDepth := 60) only [and_self, implies_true, within_ite, State.vconnMeasure_within, State.trialStart_within,
      State.exchangeRoles_within, State.refTake_within, w02, w0D, w20, p_ember, p_flue, p_fresh, p_hearths, p_timers, hW0]

theorem State.aliveTick_within {s : State} (p_ember : P .ember = true) (hW0 : Within W P s0 s) : Within W P s0 (State.aliveTick s) := by
  unfold State.aliveTick
  try dsimp only
  simp (maxDischargeDepth := 60) only [and_self, implies_true, within_ite, within_mk, true_or, or_true, p_ember, hW0]

theorem State.viewsTake_within {s : State} (w12 : W 0x12 = true) (p_hA : P .hA = true) (p_hB : P .hB = true) (p_lp : P .lp = true) (hW0 : Within W P
    s0 s) : Within W P s0 (State.viewsTake s) := by
  unfold State.viewsTake
  try dsimp only
  simp (maxDischargeDepth := 60) only [implies_true, within_refl, within_mk, true_or, or_true, State.allPorts_within, State.modLp_within, p_hA, p_hB,
      p_lp, hW0]

theorem State.alertPrune_within {s : State} (p_pins : P .pins = true) (hW0 : Within W P s0 s) : Within W P s0 (State.alertPrune s) := by
  unfold State.alertPrune
  try dsimp only
  simp (maxDischargeDepth := 60) only [within_mk, true_or, or_true, p_pins, hW0]

theorem State.timerDue_within {s : State} {t : Timer} (w13 : W 0x13 = true) (w20 : W 0x20 = true) (p_cc : P .cc = true) (p_flue : P .flue = true)
    (p_inputs : P .inputs = true) (p_thn : P .thn = true) (p_timers : P .timers = true) (hW0 : Within W P s0 s) : Within W P s0 (State.timerDue s t)
    := by
  unfold State.timerDue
  try dsimp only
  (repeat' split) <;> (try simp (maxDischargeDepth := 60) only [State.stop_within, State.rpSecond_within, State.policyInput_within,
      State.trkAccepted_within, w13, w20, p_cc, p_flue, p_inputs, p_thn, p_timers, hW0])

theorem State.timersTick_within {s : State} (w13 : W 0x13 = true) (w20 : W 0x20 = true) (p_cc : P .cc = true) (p_flue : P .flue = true) (p_inputs : P
    .inputs = true) (p_thn : P .thn = true) (p_timers : P .timers = true) (hW0 : Within W P s0 s) : Within W P s0 (State.timersTick s) := by
  unfold State.timersTick
  try dsimp only
  simp (maxDischargeDepth := 60) only [implies_true, within_refl, within_mk, within_foldl, true_or, or_true, State.timerDue_within, w13, w20, p_cc,
      p_flue, p_inputs, p_thn, p_timers, hW0]

theorem State.coarseTick_within {s : State} (w01 : W 0x01 = true) (p_ember : P .ember = true) (hW0 : Within W P s0 s) : Within W P s0
    (State.coarseTick s) := by
  unfold State.coarseTick
  try dsimp only
  simp (maxDischargeDepth := 60) only [and_self, and_true, implies_true, within_ite, within_mk, pageOf_lit, pageKind_lit, Nat.reduceDiv,
      Nat.reduceLeDiff, Nat.reduceAdd, Nat.reduceMod, if_false, true_or, or_true, State.bump_within, w01, p_ember, hW0]

theorem State.tbaseTick_within {s : State} (w00 : W 0x00 = true) (w01 : W 0x01 = true) (w02 : W 0x02 = true) (w03 : W 0x03 = true) (w04 : W 0x04 =
    true) (w07 : W 0x07 = true) (w08 : W 0x08 = true) (w09 : W 0x09 = true) (w0A : W 0x0A = true) (w0D : W 0x0D = true) (w0E : W 0x0E = true) (w0F : W
    0x0F = true) (w12 : W 0x12 = true) (w13 : W 0x13 = true) (w20 : W 0x20 = true) (w21 : W 0x21 = true) (w22 : W 0x22 = true) (w23 : W 0x23 = true)
    (w24 : W 0x24 = true) (w26 : W 0x26 = true) (w27 : W 0x27 = true) (pAll : ∀ p, P p = true) (hW0 : Within W P s0 s) : Within W P s0
    (State.tbaseTick s) := by
  unfold State.tbaseTick
  try dsimp only
  simp (maxDischargeDepth := 60) only [implies_true, within_refl, within_mk, within_foldl, true_or, or_true, State.viewsTake_within,
      State.flueDrain_within, State.alertPrune_within, State.replayWatch_within, State.epochTick_within, State.timersTick_within,
      State.quietWatch_within, State.coarseTick_within, State.aliveTick_within, w00, w01, w02, w03, w04, w07, w08, w09, w0A, w0D, w0E, w0F, w12, w13,
      w20, w21, w22, w23, w24, w26, w27, pAll, hW0]

theorem State.smoulderTick_within {s : State} (w01 : W 0x01 = true) (p_timers : P .timers = true) (hW0 : Within W P s0 s) : Within W P s0
    (State.smoulderTick s) := by
  unfold State.smoulderTick
  try dsimp only
  simp (maxDischargeDepth := 60) only [and_true, within_mk, pageOf_lit, pageKind_lit, Nat.reduceDiv, Nat.reduceLeDiff, Nat.reduceAdd, Nat.reduceMod,
      if_false, true_or, or_true, State.bump_within, w01, p_timers, hW0]

theorem State.idleTick_within {s : State} (w00 : W 0x00 = true) (w01 : W 0x01 = true) (w02 : W 0x02 = true) (w03 : W 0x03 = true) (w04 : W 0x04 =
    true) (w07 : W 0x07 = true) (w08 : W 0x08 = true) (w09 : W 0x09 = true) (w0A : W 0x0A = true) (w0D : W 0x0D = true) (w0E : W 0x0E = true) (w0F : W
    0x0F = true) (w12 : W 0x12 = true) (w13 : W 0x13 = true) (w20 : W 0x20 = true) (w21 : W 0x21 = true) (w22 : W 0x22 = true) (w23 : W 0x23 = true)
    (w24 : W 0x24 = true) (w26 : W 0x26 = true) (w27 : W 0x27 = true) (pAll : ∀ p, P p = true) (hW0 : Within W P s0 s) : Within W P s0 (State.idleTick
    s) := by
  unfold State.idleTick
  try dsimp only
  (repeat' split) <;> (try simp (maxDischargeDepth := 60) only [implies_true, State.smoulderTick_within, State.tbaseTick_within, w00, w01, w02, w03,
      w04, w07, w08, w09, w0A, w0D, w0E, w0F, w12, w13, w20, w21, w22, w23, w24, w26, w27, pAll, hW0])

/-- With no transaction held the release changes nothing. -/
theorem State.heldRun_unheld {s : State} (np : P .pins = false) (h0 : s0.pins.held = none) (h : Within W P s0 s) : Within W P s0 s.heldRun := by
  unfold State.heldRun
  rw [show s.pins = s0.pins from h.parts .pins np, h0]
  exact h

theorem execStartupDeliveryComplete_unheld {s : State} (w03 : W 0x03 = true) (w05 : W 0x05 = true) (w06 : W 0x06 = true) (pauth : P .auth = true)
    (pember : P .ember = true) (phA : P .hA = true) (phB : P .hB = true) (phearths : P .hearths = true) (pinputs : P .inputs = true)
    (ptimers : P .timers = true) (np : P .pins = false) (h0 : s.pins.held = none) {t : State} (e : execStartupDeliveryComplete s = .next t) :
    Within W P s t := by
  unfold execStartupDeliveryComplete at e
  dsimp only at e
  cases e
  have a : Within W P s (s.otpCheckRegions.toStep 4) := by
    simp only [State.toStep_within, State.otpCheckRegions_within, within_refl, w05, pember]
  split
  · split
    · exact State.heldRun_unheld np h0 (State.fuseHoldEnter_within w03 w05 w06 pauth pember phA phB phearths pinputs ptimers a)
    · exact a
  · exact Within.refl s

theorem execStartupDigestsGood_unheld {passA passB : Bool} {s : State} (w06 : W 0x06 = true) (w07 : W 0x07 = true) (w0D : W 0x0D = true)
    (w0E : W 0x0E = true) (papart : P .apart = true) (pember : P .ember = true) (pflue : P .flue = true) (phearths : P .hearths = true) (potp : P .otp
        = true)
    (np : P .pins = false) (h0 : s.pins.held = none) {t : State} (e : execStartupDigestsGood passA passB s = .next t) : Within W P s t := by
  unfold execStartupDigestsGood at e
  dsimp only at e
  cases e
  have r : ∀ u : State, Within W P s u → Within W P s u.heldRun := fun u => State.heldRun_unheld np h0
  (repeat' split) <;> simp (maxDischargeDepth := 60) only [r, State.toStep_within, State.bootRoles_within, State.keyCheck_within,
      State.selfcheckFail_within,
    State.heldEnter_within, within_refl, w06, w07, w0D, w0E, papart, pember, pflue, potp, phearths]

theorem execStartupHearthsReady_unheld {s : State} (wAll : ∀ p, W p = true) (pember : P .ember = true) (pflue : P .flue = true) (phA : P .hA = true)
    (phB : P .hB = true) (ppol : P .pol = true) (ptb : P .tb = true) (popctLost : P .opctLost = true) (np : P .pins = false)
    (h0 : s.pins.held = none) {t : State} (e : execStartupHearthsReady s = .next t) : Within W P s t := by
  unfold execStartupHearthsReady at e
  dsimp only at e
  cases e
  split
  · apply State.heldRun_unheld np h0
    (repeat' split) <;> simp (maxDischargeDepth := 60) only [State.loadSeeds_within, State.otpDefaults_within, State.fitCarriers_within,
        State.lockChecks_within, State.presentCounters_within, State.event_within, State.set_within, State.setTypec_within, State.point0_within,
        State.toStep_within,
      within_mk, within_refl, wAll, pember, pflue, phA, phB, ppol, ptb, popctLost, true_or, or_true, implies_true, if_false, Nat.reduceDiv,
          Nat.reduceMod, Nat.reduceAdd, Nat.reduceLeDiff, pageOf_lit, pageKind_lit, and_true]
  · exact Within.refl s

end Sys2Proof.Machine
end

