-- ==== Sys2Proof/Tests/Wit.lean ====
section
/-! SUPPORT. Small states for the tests: a state changed in one place. -/

namespace Sys2Proof.Tests

open Sys2Proof Sys2Proof.Machine

/-- `s` with the device in another state. -/
def inDev (d : DevState) (s : State) : State := { s with ember := { s.ember with dev := d } }

/-- `s` in Lit. -/
def lit (s : State) : State := { s with ember := { s.ember with dev := .lit, entry := none, kindling := none } }


/-- `s` with an edge of SYNC_IN at tick `e`, and TBASE 512 ticks on. -/
def setEdge (s : State) (e : Nat) : State :=
  { s with tbase := BitVec.ofNat 48 (e + 512), tb := { s.tb with lastEdge := some e } }

/-- `s` at an epoch tick. -/
def onEpoch (s : State) : State := { s with tbase := 4096 }

/-- `s` with no period of port `n` started yet, its anchor and phase 0, at a tick at which one may start. -/
def periodNow (n : Port) (s : State) : State :=
  let t : State := { s with tbase := 0 }
  (((t.modCarrier n fun c => { c with anchor := 0, lastStart := none }).set (F.STG_CARRIER_auto n) 0).set (F.STG_CARRIER_phase n) 0).set
    F.TB_STATUS_lock 0

/-- `s` at a sample instant of port `n`. -/
def sampling (n : Port) (s : State) : State :=
  let t := (s.modCarrier n fun c => { c with lastStart := some 0 }).modLp n fun l => { l with sampled := none }
  { t with tbase := BitVec.ofNat 48 (min (t.lp.get n).sOff (t.nInForce n - 1)) }

/-- `s` with the configuration that a sample of port `n` takes on this tick changed. -/
def begunCfg (n : Port) (f : StageCfg → StageCfg) (s : State) : State :=
  s.modLp n fun l => { l with begun := { l.begun with cfg := f l.begun.cfg } }

/-- `s` with the edges of every comparator's latched output on this tick. -/
def edged (s : State) : State := { s with array := { tick := some s.tbase.toNat, fired := 0, rose := BitVec.allOnes 64, fell := BitVec.allOnes 64 } }

/-- `s` with an evaluation of port `n` in a lane. -/
def evaluating (n : Port) (volt : Bool) (s : State) : State :=
  { s with lanes := { waiting := [], busy := [{ port := n, volt := volt, due := 0, late := false }] } }

/-- `s` at an update instant of port `n`. -/
def updating (n : Port) (s : State) : State := s.modLp n fun l => { l with dueV := some s.tbase.toNat, dueI := some s.tbase.toNat }

/-- `s` in Split, both hearths Owner. -/
def owners (s : State) : State := { s with hearths := { s.hearths with mode := .split, roleA := .owner, roleB := .owner } }


/-- `s` changed for each port in turn. -/
def eachPort (f : State → Port → State) (s : State) : State := (List.finRange 8).foldl f s

/-- `s` in Lit with every path open, VCONN off and no OTP command running: a low power state may be entered. -/
def leaving (s : State) : State :=
  lit ((eachPort (fun t n => (t.set (F.FND_STATUS_state n) 0).set (F.CC_STATUS_vconn_on n) 0) s).set F.OTP_STATUS_busy 0)

/-- `s` with an entry under way and nothing latched. -/
def entering (d : DevState) (s : State) : State := { s with ember := { s.ember with entry := some d, latched := none } }

/-- `s` in a low power state, all wake sources enabled. -/
def low (d : DevState) (s : State) : State :=
  { s with ember := { s.ember with dev := d, entry := none, latched := none, vsysArmed := true } }

/-- `s` at a step of start-up. -/
def atStep (k : Nat) (s : State) : State :=
  { s with ember := { s.ember with dev := .startup, step := k, kindling := none, resetHeld := false },
           pins := { s.pins with wakeAddr := none } }

/-- `s` with no transaction held. -/
def noHeld (s : State) : State := { s with pins := { s.pins with held := none } }

/-- `s` with Kindling under way on port `n`, at step 6. -/
def kindled (n : Port) (s : State) : State :=
  { atStep 6 s with ember := { (atStep 6 s).ember with kindling := some n, kindleClosed := false } }


/-- `s` in Solo on Hearth A. -/
def actA (s : State) : State :=
  { s with hearths := { s.hearths with mode := .solo, roleA := .solo, roleB := .off, offA := false } }

/-- `s` with the re-sense of Banked exit to come. -/
def resense (s : State) : State := { s with ember := { s.ember with resensePending := true } }


/-- `s` with port `n` unattached, Rd on both pins, both open. -/
def unattached (n : Port) (s : State) : State :=
  let t := s.modCc n fun c => { c with attached := false, iso1 := false, iso2 := false, busy := false, mv1 := 0, mv2 := 0, thr := 3 }
  let t := t.modPol n fun p => { p with trying := 0 }
  (((t.set (F.CC_STATUS_pres1 n) 1).set (F.CC_STATUS_pres2 n) 1).set (F.CC_STATUS_lvl1 n) 4).set (F.CC_STATUS_lvl2 n) 4

/-- `s` with port `n` attached as a type, orientation 0. -/
def attachedAs (n : Port) (type : Nat) (s : State) : State :=
  let t := s.modCc n fun c => { c with attached := true, iso1 := false, iso2 := false, busy := false, thr := 3 }
  (t.set (F.CC_STATUS_attach n) type).set (F.CC_STATUS_orient n) 0

/-- `s` with no VCONN on port `n` and neither pin isolated. -/
def noVconn (n : Port) (s : State) : State :=
  (s.modCc n fun c => { c with iso1 := false, iso2 := false }).set (F.CC_STATUS_vconn_on n) 0

/-- `s` with port `n` ready to take a VCONN enable, no other port's VCONN on. -/
def vconnReady (n : Port) (s : State) : State :=
  let t := eachPort (fun t m => t.set (F.CC_STATUS_vconn_on m) 0) (attachedAs n 2 s)
  let t := (t.modPol n fun p => { p with safeHeld := false }).modCc n fun c => { c with detachTick := none }
  (t.set F.EMB_STATUS_vconn_in_ok 1).set F.FLU_STATUS_l3 0

/-- `s` with one CC pin of port `n` isolated and the other not. -/
def isolated (n : Port) (cc2 : Bool) (s : State) : State := s.modCc n fun c => { c with iso1 := !cc2, iso2 := cc2 }


/-- A control message on SOP that holds a shared slot. -/
def aMsg (s : State) : Msg :=
  { port := 1, sop := 0, critical := false, epoch := 0, retries := 0, tbase := s.tbase.toNat % 2 ^ 32, header := 8, data := [], chunk := 0,
    purpose := .plain, slot := .shared, waited := false, granted := 0, rev := 2, heldNg := false, unacked := false }

/-- `s` with shared slots free for port `n`. -/
def roomy (n : Port) (s : State) : State :=
  (eachPort (fun t k => t.modMsg k fun x => { x with current := none, assembly := none, queue := if k = n then x.queue else [] })
    { s with inputs := [] }).set (F.MSG_POOL_CFG_max_shared n) 8


/-- `s` with a message of port `n` as its only pending input. -/
def withMsg (n : Port) (m : Msg) (s : State) : State :=
  { ((s.set (F.POL_SEQ_epoch n) m.epoch).modPol n fun p => { p with seq := .idle }) with inputs := [{ tick := s.tbase.toNat, port := n, kind := .message m }] }

/-- `s` with no Lexicon loading and these clauses in force in both hearths. -/
def lexOf (l : List Entry64) (s : State) : State :=
  let t := s.set F.LEX_STATUS_state 0
  { t with hA := { t.hA with lex := l.zipIdx.map fun a => (a.2, a.1) }, hB := { t.hB with lex := l.zipIdx.map fun a => (a.2, a.1) } }

/-- `s` with an empty Lexicon in force. -/
def noLex (s : State) : State := lexOf [] s

/-- An unconditional clause for every port. -/
def lexClause (point op operand : Nat) : Entry64 := BitVec.ofNat 64 (op * 2 ^ 58 + 255 * 2 ^ 50 + point * 2 ^ 44 + operand)

/-- `s` with port `n` a source, or a sink, attached. -/
def asSource (n : Port) (s : State) : State :=
  (((s.modCc n fun c => { c with attached := true }).set (F.CC_STATUS_attach n) 1).set (F.POL_STATUS_power_role n) 1).set
    (F.POL_STATUS_typec n) 6
def asSink (n : Port) (s : State) : State :=
  (((s.modCc n fun c => { c with attached := true }).set (F.CC_STATUS_attach n) 6).set (F.POL_STATUS_power_role n) 0).set
    (F.POL_STATUS_typec n) 5

/-- `s` with no alternate mode entered on port `n`. -/
def noModes (n : Port) (s : State) : State :=
  (((s.set (F.VDM_STATUS_thatin n) 0).set (F.VDM_STATUS_host_entered n) 0).setBit F.THN_STATUS_entered n.val false)

/-- `s` with no input pending. -/
def noInputs (s : State) : State := { s with inputs := [] }

/-- `s` with port `n` attached and idle, free to take a command tagged `e`. -/
def cmdReady (n : Port) (e : BitVec 8) (s : State) : State :=
  let t := (lit (noInputs s)).modPol n fun p => { p with safeHeld := false, seq := .idle }
  (((t.modCc n fun c => { c with attached := true }).set (F.POL_SEQ_epoch n) e.toNat).set (F.POL_STATUS_cmd_held n) 0).set
    (F.POL_STATUS_ams n) 0

/-- `s` with no report waiting for Flue and no comparator that fired on this tick. -/
def noReports (s : State) : State := { s with flue := { s.flue with rails := [] }, array := { s.array with tick := none } }

/-- `s` with no Flue record open. -/
def noRecords (s : State) : State := { s with flue := { s.flue with records := [] } }


/-- `s` with empty seeds in the OTP array. -/
def blankSeed (s : State) : State := { s with otp := { s.otp with shadow := [] } }

/-- `s` with an image staged and committed: one NOP clause. -/
def goodImage (s : State) : State :=
  let t := ((s.set (F.LEX_IMG_HDR_hdr 0) 0x4C580100).set (F.LEX_IMG_HDR_hdr 2) 1).set (F.LEX_IMG_HDR_hdr 3) (crc32 (List.replicate 8 0)).toNat
  let t := t.set F.LEX_STATUS_state 2
  { t with hA := { t.hA with lex := [] }, hB := { t.hB with lex := [] } }

/-- `s` with a Phrasebook image staged: one empty entry. -/
def goodPhb (s : State) : State :=
  let t := ((s.set (F.PHB_IMG_HDR_hdr 0) 0x50420100).set (F.PHB_IMG_HDR_hdr 2) 1).set (F.PHB_IMG_HDR_hdr 3) (crc32 (List.replicate 8 0)).toNat
  let t := t.set F.PHB_STATUS_state 1
  { t with hA := { t.hA with phb := [] }, hB := { t.hB with phb := [] } }


/-- `s` with port `n` a sink that may arm for Fast Role Swap. -/
def frsReady (n : Port) (s : State) : State :=
  let t := (asSink n s).modPol n fun p => { p with frsWanted := true }
  { (t.set F.FED_STATUS_selected 1) with draught := { t.draught with reserve := Vector.replicate 8 5 } }

/-- `s` with port `n` a DFP with an explicit contract, free to send a VDM tagged `e`. -/
def vdmReady (n : Port) (e : BitVec 8) (s : State) : State :=
  let t := ((s.set (F.POL_SEQ_epoch n) e.toNat).set (F.POL_STATUS_ams n) 0).set F.PHB_STATUS_state 0
  let t := (t.set (F.POL_STATUS_data_role n) 1).set (F.POL_STATUS_explicit n) 1
  (t.modVdm n fun _ => VdmPort.empty).modPol n fun p => { p with todo := [], draft := none }

/-- `s` with these entries in force in both hearths' Phrasebooks. -/
def phbWith (l : List Entry64) (s : State) : State :=
  { s with hA := { s.hA with phb := l.zipIdx.map fun a => (a.2, a.1) }, hB := { s.hB with phb := l.zipIdx.map fun a => (a.2, a.1) } }

/-- A MODE entry of host SVID 0x1234 for every port, object position 1. -/
def hostMode : Entry64 := 0x2FF1123400000007#64

/-- A structured VDM on SOP: its header and payload words. -/
def vdmMsg (s : State) (e : BitVec 8) (l : List Word) : Msg := { aMsg s with epoch := e.toNat, header := 0x100F, data := wordsBytes l }

/-- `s` with Thatin entered on port `n`, a master or a slave of version 2. -/
def thatinOn (n : Port) (master : Bool) (s : State) : State :=
  let t := ((s.setBit F.THN_STATUS_entered n.val true).setB (F.THN_PORT_STATUS_master n.val) master).set (F.THN_PORT_STATUS_version n.val) 2
  (t.set (F.CC_SBU_STATUS_sbu2_conn n) 1).modThn n fun _ => ThnPort.empty

/-- Terms of a tracking contract. -/
def someTerms : TrkTerms := { vlo := 150, vhi := 250, slew := 10, id := 0, ptrk := 50 }

/-- An SBU2 frame with a good CRC. -/
def sbuFrame (type : Nat) (l : List Byte) : SbuFrame :=
  { header := BitVec.ofNat 8 (16 * type), len := BitVec.ofNat 8 l.length, payload := l,
    crc := crc16 (BitVec.ofNat 8 (16 * type) :: BitVec.ofNat 8 l.length :: l), ticks := 400 }

/-- `s` with port `n` ready to propose tracking. -/
def trackable (n : Port) (e : BitVec 8) (s : State) : State :=
  let t := (thatinOn n true (vdmReady n e s)).setBit F.THN_STATUS_link n.val true
  let t := ((t.set (F.THN_TRK_REQ_vlo n.val) 200).set (F.THN_TRK_REQ_vhi n.val) 280).set (F.THN_TRK_REQ_slew n.val) 10
  let t := (t.set F.THN_CONFIG_slew_max 20).set F.THN_CONFIG_trk_src_en 1
  (t.modVdm n fun v => { v with partnerVdo := 0x11FFF000#32 }).modPol n fun p =>
    { p with cur := some { pos := 1, kind := 3, epr := true, mv := 24000, ma := 0, lo := 15000, hi := 28000, pdp := 140 } }

/-- `s` with the port's hearth ready to answer an authentication request: key good, no load, the digest known. -/
def authReady (n : Port) (s : State) : State :=
  let d : List Byte := List.replicate 32 0x5A
  let t : State := { s with hA := { s.hA with digest := some d }, hB := { s.hB with digest := some d }, auth := [] }
  [Hth.A, Hth.B].foldl (fun t h => ((t.set (F.IDN_STATUS_key_ok.inHearth h) 1).set (F.IDN_STATUS_state.inHearth h) 0).set
    (F.IDN_STATUS_digest_busy.inHearth h) 0) (t.setBit F.IDN_STATUS_pending n.val false)

/-- A Security_Request on SOP. -/
def secMsg (s : State) (l : List Byte) : Msg := { aMsg s with header := 0x8008, data := l }

/-- A challenge of port `n`. -/
def aChallenge (n : Port) : Challenge := { port := n, epoch := 0, request := [], salt := [7], chain := [] }

/-- `s` with the stage of port `n` free to start: no close command, nothing held, every bank in use. -/
def stageReady (n : Port) (s : State) : State :=
  let t := ((s.set (F.FND_STATUS_close_cmd n) 0).set F.FLU_STATUS_l3 0).set (F.STG_STATUS_state n) 0
  let t := ((t.set (F.STG_VBANK0_half_words n 0) 5).set (F.STG_VBANK1_half_words n 0) 5).set (F.ILP_IBANK0_half_words n 0) 5
  let t := (t.set (F.ILP_IBANK1_half_words n 0) 5).modLp n fun l => { l with tripHold := false }
  { t with ember := { t.ember with kindling := none } }

/-- A loop result. -/
def aResult : LoopResult := { y := 77, pred := 70, e0 := 3, ff := 0, lo := -32768, hi := 32767 }

/-- `s` with no hearth's table listing anything. -/
def noTables (s : State) : State := { s with hA := { s.hA with opct := [], trace := [] }, hB := { s.hB with opct := [], trace := [] } }

/-- `s` with both hearths' captures in a state, no trigger pending. -/
def tracing (k : Nat) (s : State) : State :=
  let t : State := { s with hA := { s.hA with trigger := 0 }, hB := { s.hB with trigger := 0 } }
  [Hth.A, Hth.B].foldl (fun t h => t.set (F.TRC_STATUS_state.inHearth h) k) t

/-- `s` with a field of a device-wide page at a value in both hearths. -/
def both (f : Field) (v : Nat) (s : State) : State := [Hth.A, Hth.B].foldl (fun t h => t.set (f.inHearth h) v) s

/-- `s` with the path of port `n` in a state. -/
def pathAt (n : Port) (k : Nat) (s : State) : State := s.set (F.FND_STATUS_state n) k

/-- `s` with port `n` ready to ask for admission. -/
def asking (n : Port) (s : State) : State :=
  let t := ((s.modCc n fun c => { c with attached := true }).modPol n fun p => { p with safeHeld := false }).set (F.FND_STATUS_close_cmd n) 1
  let t := t.setBit F.DRT_STATUS_admitted n.val false
  { t with ember := { t.ember with kindling := none }, draught := { t.draught with queue := [] } }

/-- `s` with port `n` admitted, so that a close command may act. -/
def closable (n : Port) (s : State) : State :=
  let t := ((lit s).setBit F.DRT_STATUS_admitted n.val true).modPol n fun p => { p with safeHeld := false }
  let t := (t.set F.OTP_STATUS_busy 0).set F.FLU_STATUS_l3 0
  { t with ember := { t.ember with resensePending := false } }

/-- `s` in Lit, feeds selected, these feeds qualified and `sel` selected and connected. -/
def fedOn (qual sel : Nat) (s : State) : State :=
  let t := (((lit s).set F.FLU_STATUS_l3 0).set F.FED_STATUS_qualified qual).set F.FED_STATUS_selected sel
  let t := (t.set F.FED_STATUS_enabled 15).set F.FED_STATUS_notice 0
  { t with feeds := { t.feeds with step := 0, gate := BitVec.ofNat 4 (2 ^ sel), planned := 4, dropped := 0, held := BitVec.ofNat 4 qual } }

/-- `s` with a switch to feed 1 at a step. -/
def fedStep (k : Nat) (s : State) : State :=
  let t := fedOn 3 1 s
  { t with feeds := { t.feeds with step := k } }

/-- A port's part of a plan, and a plan. -/
def aPart : PortPlan :=
  { pc := 15, gc := 150, gp := 0, bus := 20000, trkCommitted := 0, trkPublished := 0, trkProv := false, dv := 16, heat := 1000,
    reserve := 0, admits := false }
def aPlan : Plan :=
  { ports := Vector.replicate 8 aPart, feed := 0, s := 1000, x := 900, m := 0, h := 900, lc := 100, isOver := false, railA := 5,
    railB := 5, railProv := false, dvProv := false, provLocal := 0, provTotal := 0, hold := false }

/-- `s` in Mirror, Hearth A Active and Hearth B in a role, nothing under way. -/
def mirrorB (b : Role) (s : State) : State :=
  let x : Hearths := { s.hearths with mode := .mirror, roleA := .active, roleB := b, offA := false, offB := false, goal := none }
  let t := { s with hearths := { x with exchange := false, startFence := false } }
  { t with ember := { t.ember with kindling := none } }

/-- `s` with HTH.KEY holding its code and HTH.SEQ at `e`. -/
def hthKeyed (e : BitVec 8) (s : State) : State := (s.set F.HTH_KEY_key 0x48).set F.HTH_SEQ_epoch e.toNat

/-- `s` with a copy under way at a phase: Hearth A re-admits Hearth B. -/
def copying (phase : Nat) (s : State) : State :=
  let t := mirrorB .copying s
  ({ t with hearths := { t.hearths with goal := some .readmit, source := .A, wait := .nothing } } : State).set F.HTH_COPY_STATUS_phase phase

/-- A comparator's configuration: enabled, input 1, both thresholds in use, period 1. -/
def cmpOn (k : Fin 64) (s : State) : State :=
  let t := ((s.set (cmpCfg F.CMP_CFG_en k) 1).set (cmpCfg F.CMP_CFG_input k) 1).set (cmpCfg F.CMP_CFG_hi k) 200
  (((t.set (cmpCfg F.CMP_CFG_lo k) 50).set (cmpCfg F.CMP_CFG_period k) 1).set (cmpBit F.CMP_EVENT_latched k) 0).set (cmpBit F.CMP_STATUS_live k) 0

/-- A record of a port's path at a level. -/
def aRecord (n : Port) (level : Nat) : FlueRecord :=
  { group := 6, unit := n.val, source := 0x38, merged := [], level := level, merges := 0, serial := 7, units := [n.val], mergeTick := none, detail := 0, bit := none }

/-- `s` with these records, and nothing on the rails. -/
def flueWith (l : List FlueRecord) (s : State) : State :=
  { s with flue := { s.flue with records := l, rails := [], broken := [] } }

/-- `s` with the OTP Store ready for a command: key held, conditions met, nothing blown or locked. -/
def otpReady (s : State) : State :=
  let t := ((s.set F.OTP_KEY_key 0xB5).set F.OTP_STATUS_busy 0).set (adcField 39) 3200
  let t := (eachPort (fun t n => t.set (F.FND_STATUS_state n) 0) t).set (adcField 47) 2184
  { t with otp := { t.otp with cells := [], weak := [], fin := 0, wlock := 0, rlock := 0, run := none },
           ember := { t.ember with kindling := none } }

/-- `s` with an OTP command running. -/
def otpRuns (cmd word region : Nat) (s : State) : State :=
  let t := (otpReady s).set F.OTP_STATUS_busy 1
  { t with otp := { t.otp with run := some { cmd := cmd, word := word, region := region, data := 0x1234#32 } } }

/-- `s` with the SMBus target ready for a transaction, PEC off. -/
def busWith (s : State) : State :=
  let t := (lit s).set F.SMB_CONFIG_pec 0
  { t with ember := { t.ember with addrNext := none }, pins := { t.pins with wakeAddr := none } }

/-- `s` ready, with an enabled event of page SMB and its alert. -/
def alerting (s : State) : State :=
  let t := ((busWith s).set F.SMB_CONFIG_alert_mode 0).set F.SMB_STATUS_alert 1
  (t.set F.SMB_EVENT_pec_fail 1).set ⟨.single, 0x060C, 0, 32⟩ 1


end Sys2Proof.Tests
end

