-- ==== Sys2Proof/WellFormed.lean ====
section
/-! DEFINITION. Which commands are well formed: an operand that its type alone does not bound lies within what the spec gives it. -/

namespace Sys2Proof

/-- A register address of the fabric: a byte address of 16 bits (R423). -/
def addrOk (a : Nat) : Bool := a < 0x10000

/-- A difference that a sense of the antifuse array can see: a bit of one of its cells (R384, R386). -/
def OtpFlip.ok (f : OtpFlip) : Bool := f.word < 1114 && f.bit < 39

/-- A measured reference, in kHz: 12-50 MHz as declared, and at most 2 % off when it qualifies (Table 4.1, R69). -/
def khzOk (khz : Nat) : Bool := 11760 ≤ khz && khz ≤ 51000

/-- The reference ticks in 32,768 coarse ticks, which take a second within 2 % (R73). -/
def secondOk (ticks : Nat) : Bool := ticks ≤ 52000000

/-- One evaluation takes at most 260 ns (R460). -/
def evalOk (ns : Nat) : Bool := ns ≤ 260

/-- A pin voltage in mV, as 16 bits hold it (the model's bound; the spec bounds no measurement). -/
def mvOk (mv : Nat) : Bool := mv < 0x10000

/-- The data of a message: at most 260 bytes (R128). -/
def dataOk (l : List Byte) : Bool := l.length ≤ 260

/-- What one received frame carries behind its header: up to seven data objects, or an extended header and one chunk (R116, R128). -/
def Frame.ok (f : Frame) : Bool := f.data.length ≤ 28

/-- A frame of the SBU2 link carries at most what its length byte can say (R207). -/
def SbuFrame.ok (f : SbuFrame) : Bool := f.payload.length ≤ 255

/-- A reading of a pulse train: the time spent high is within the period (R291). -/
def pulseOk (hi per : Nat) : Bool := hi ≤ per

/-- A command is well formed when its operands lie in the ranges the spec gives them. -/
def Instr.wellFormed : Instr → Bool
  | .registerWrite addr _ => addrOk addr
  | .bankedExitResense flips | .startupRegulatorsInRange _ _ flips | .otpRead _ _ flips | .otpFinalise _ flips => flips.all OtpFlip.ok
  | .refChangeover khz => khzOk khz
  | .coarseCalibration ticks => secondOk ticks
  | .capacityMeasure a b => evalOk a && evalOk b
  | .ccLevelChange _ _ mv | .otherPinChange _ mv | .ccOv _ _ mv | .ccOvAutoRelease _ _ mv => mvOk mv
  | .messageHandover _ _ _ data => dataOk data
  | .frameReceived _ frame => frame.ok
  | .sbu2FrameReceived _ f => f.ok
  | .epochAllocation hi0 per0 hi1 per1 => pulseOk hi0 per0 && pulseOk hi1 per1
  | _ => true

end Sys2Proof
end

