-- ==== Sys2Proof/Tests/Slice0.lean ====
section
/-! SUPPORT. The model's own tests: ill-formed commands that the check refuses, worked examples of the spec, and for every statement with
hypotheses a state and operands that meet them. -/

namespace Sys2Proof.Tests
open Sys2Proof Sys2Proof.Machine
set_option maxRecDepth 20000
set_option linter.unusedVariables false

/-! ### Ill-formed commands -/

theorem test_ill_address : (Instr.registerWrite 0x10000 0).wellFormed = false := by decide
theorem test_well_address : (Instr.registerWrite 0xFFFC 0).wellFormed = true := by decide
theorem test_ill_flip_word : (Instr.bankedExitResense [⟨1114, 0, false⟩]).wellFormed = false := by decide
theorem test_ill_flip_bit : (Instr.otpRead 0 0 [⟨3, 39, true⟩]).wellFormed = false := by decide
theorem test_ill_reference : (Instr.refChangeover 60000).wellFormed = false := by decide
theorem test_ill_second : (Instr.coarseCalibration 52000001).wellFormed = false := by decide
theorem test_ill_evaluation : (Instr.capacityMeasure 100 261).wellFormed = false := by decide
theorem test_ill_voltage : (Instr.ccLevelChange 0 false 65536).wellFormed = false := by decide
theorem test_ill_message : (Instr.messageHandover 0 0 1 (List.replicate 261 0)).wellFormed = false := by decide
theorem test_ill_frame : (Instr.frameReceived 0 ⟨0, true, 0, List.replicate 29 0, 0⟩).wellFormed = false := by decide
theorem test_ill_sbu_frame : (Instr.sbu2FrameReceived 0 ⟨0, 0, List.replicate 256 0, 0, 0⟩).wellFormed = false := by decide
theorem test_ill_pulse : (Instr.epochAllocation 5 4 0 0).wellFormed = false := by decide

/-! ### Worked examples of the spec -/

/-- Chapter 5 at R91: a pin at 0.20 V reads 0x2 while the port presents Rp default, and at 1.60 V 0x3. -/
theorem test_cc_edges : ccCode 3 3 200 = 2 ∧ ccCode 3 3 199 = 1 ∧ ccCode 3 3 1600 = 3 ∧ ccCode 3 3 1599 = 2 := by decide

/-- Chapter 11: 48 V is the setpoint code 25,600. -/
theorem test_volt_code : qOfMv 48000 = 25600 := by decide

/-- Chapter 11: with I_fs = 20 A, a limit of 5 A is the code 8,192. -/
theorem test_limit_code : StageCfg.reset.qOfLimit 500 = 8192 := by decide

/-- Chapter 14 at R308: 6 A on 2 mΩ at 30 mV full scale is code 410; twice that is 819, at k = 1.5 of 12 A 1,229. -/
theorem test_sense_codes : senseCode 240 200 1 1 1 = 410 ∧ senseCode 240 200 1 2 1 = 819 ∧ senseCode 480 200 1 3 2 = 1229 := by decide

/-- Chapter 14 at R319: at 24.576 MHz a pole of 1 ms has α = 1,341,432. -/
theorem test_foster_alpha : fosterAlpha 24576 10 = 1341432 := by decide +kernel

/-- Table 19.7: the PEC bytes of the two transactions, and the same transactions on the model. -/
theorem test_pec : crc8 [0xC0, 0xE0, 0x3E, 0x00] = 0x4B ∧ crc8 [0xC0, 0x09, 0xF0, 0x00, 0x28, 0x80] = 0x6D := by decide

/-- The state before the transactions of Table 19.7: in Lit, at address 0x60, PEC optional. -/
def beforeTable197 : State := ((busWith State.reset).set F.SMB_STATUS_addr 0x60).set F.SMB_CONFIG_pec 1

theorem test_page_select : (match exec (.pageSelect 0x3E 0 [0x4B]) beforeTable197 with | .next t => t.get F.SMB_STATUS_page | _ => 0) = 0x3E := by
  decide +kernel

theorem test_write_32 : (match exec (.regWrite32 9 0x802800F0 [0x6D]) (beforeTable197.set F.SMB_STATUS_page 0x3E) with
    | .next t => t.get F.SMB_SEQ_commits | _ => 0) = 1 := by decide +kernel

theorem test_write_32_glitch : (match exec (.regWrite32 9 0x802900F0 [0x6D]) (beforeTable197.set F.SMB_STATUS_page 0x3E) with
    | .next t => (t.get F.SMB_SEQ_commits, t.get F.SMB_EVENT_pec_fail, t.get F.SMB_STATUS_page) | _ => (0, 0, 0)) = (0, 1, 0x3E) := by
  decide +kernel

/-- R416: address 0x64 answers the alert response with 0xC8. -/
theorem test_alert_address : (State.reset.set F.SMB_STATUS_addr 0x64).addrByte false = 0xC8 := by decide

/-- The ports of Table 13.4: priority, weight and, by column, what each may use, its m_n and its floor. -/
def soundBar : State :=
  let w : List (Nat × Nat) := [(0, 4), (0, 2), (0, 2), (0, 2), (0, 2), (1, 1), (1, 1), (1, 1)]
  (List.range 8).foldl (fun s k => (s.set (F.DRT_PORT_CFG_prio k) (w.getD k (0, 0)).1).set (F.DRT_PORT_CFG_weight k) (w.getD k (0, 0)).2) State.reset

def nth (l : List Nat) (n : Port) : Nat := l.getD n.val 0

/-- Table 13.4, column A: X = 600 W, M = 495 W. -/
theorem test_allocation_a : (soundBar.allocate [0, 1, 2, 3, 4, 5, 6] (nth [168, 60, 60, 60, 60, 27, 60, 0]) (nth [15, 15, 15, 15, 15, 15, 15, 0])
    (nth [240, 180, 180, 180, 180, 45, 65, 0]) (fun _ => 255) 4950 6000 9000).1.toList = [204, 78, 77, 77, 77, 27, 60, 0] := by decide +kernel

/-- Table 13.4, column B: P7's floor is in M. -/
theorem test_allocation_b : (soundBar.allocate [0, 1, 2, 3, 4, 5, 6, 7] (nth [168, 60, 60, 60, 60, 27, 60, 15]) (nth [15, 15, 15, 15, 15, 15, 15, 15])
    (nth [240, 180, 180, 180, 180, 45, 65, 45]) (fun _ => 255) 5100 6000 9000).1.toList = [198, 75, 75, 75, 75, 27, 60, 15] := by decide +kernel

/-- Table 13.4, column C: S − L_c = 340 W falls short of M = 510 W. -/
theorem test_allocation_c : (soundBar.allocate [0, 1, 2, 3, 4, 5, 6, 7] (nth [168, 60, 60, 60, 60, 27, 60, 15]) (nth [15, 15, 15, 15, 15, 15, 15, 15])
    (nth [240, 180, 180, 180, 180, 45, 65, 45]) (fun _ => 255) 5100 1000 3400).1.toList = [101, 40, 40, 40, 40, 21, 40, 15] := by decide +kernel

/-! ### Every statement's hypotheses are met somewhere -/

/-- A command answers a next state on every state (the hypothesis of the frames). -/
theorem witness_frames : ∃ t, exec (.emberSourceLost 1) State.reset = .next t := ⟨_, rfl⟩

theorem witness_KeptParts : ∃ t, exec .copySnapshot State.reset = .next t := ⟨_, rfl⟩

theorem witness_StepKept : ∃ t, State.reset.Wf ∧ step State.reset = .next t := ⟨_, by decide, rfl⟩

theorem witness_TimeMovesByTicks : ∃ t, setsTime (.emberSourceLost 1) = false ∧ exec (.emberSourceLost 1) State.reset = .next t := ⟨_, rfl, rfl⟩

theorem witness_IdleTick_1 : ∃ s : State, s.pending = [] ∧ (s.ember.dev = .unpowered ∨ s.ember.dev = .cold) :=
  ⟨inDev .cold State.reset, by decide⟩

theorem witness_IdleTick_2 : ∃ s : State, s.pending = [] ∧ s.ember.dev = .smoulder := ⟨inDev .smoulder State.reset, by decide⟩

theorem witness_IdleTick_3 : ∃ s : State, s.pending = [] ∧ (s.ember.dev = .lit ∨ s.ember.dev = .banked ∨ s.ember.dev = .startup ∨
    s.ember.dev = .fuseHold ∨ s.ember.dev = .held) := ⟨State.reset, by decide⟩

theorem witness_OtpOneWay : ∃ (s t : State), step s = .next t ∧ (sparseRead (fun _ => 0) s.otp.cells 3).getLsbD 5 = true :=
  ⟨{ State.reset with otp := { State.reset.otp with cells := [(3, 32)] } }, _, rfl, by decide⟩

theorem witness_SupplyEvents_4 : ∃ (s : State),
    ((s.ember.dev = .lit ∨ s.ember.dev = .banked ∨ s.ember.dev = .startup)) ∧
    s.ember.kindling = none :=
  ⟨(lit State.reset), by decide⟩

theorem witness_SupplyEvents_5 : ∃ (s : State),
    s.ember.dev = .lit ∧
    s.pairEqual 0x10 0 = false ∧
    s.pairDue (0x10, 0, 0) = s.tbase.toNat :=
  ⟨(lit State.reset), by decide⟩

theorem witness_SupplyEvents_6 : ∃ (s : State),
    s.ember.dev = .lit ∧
    s.ember.kindling = none ∧
    s.pairEqual 0x11 0 = false ∧
    s.pairDue (0x11, 0, 0) = s.tbase.toNat :=
  ⟨(lit State.reset), by decide⟩

theorem witness_PowerRequests_1 : ∃ (s : State),
    s.mayLeaveLit :=
  ⟨(leaving State.reset), by decide⟩

theorem witness_PowerRequests_2 : ∃ (s : State),
    s.mayLeaveLit ∧
    s.get F.EMB_KEY_key = 0xC5 :=
  ⟨((leaving State.reset).set F.EMB_KEY_key 0xC5), by decide⟩

theorem witness_PowerRequests_3 : ∃ (s : State),
    s.mayLeaveLit ∧
    s.get F.EMB_KEY_key = 0xC5 :=
  ⟨((leaving State.reset).set F.EMB_KEY_key 0xC5), by decide⟩

theorem witness_PowerRequests_4 : ∃ (s : State),
    s.ember.dev = .banked ∧
    s.ember.entry = none :=
  ⟨(low .banked State.reset), by decide⟩

theorem witness_PowerRequests_5 : ∃ (s : State) (n : Port) (c : Instr),
    s.pageAnswers 1 = true ∧
    s.ember.kindling = none ∧
    s.pathIsOpen n = false ∧
    c ∈ [Instr.reqBanked, .reqSmoulder, .reqCold] :=
  ⟨((lit State.reset).set (F.FND_STATUS_state (2 : Port)) 3), (2 : Port), (.reqBanked : Instr), by decide⟩

theorem witness_PowerRequests_6 : ∃ (s : State) (d : DevState),
    ((d = .banked ∨ d = .smoulder ∨ d = .cold)) ∧
    s.ember.entry = some d ∧
    s.ember.latched = none :=
  ⟨(entering (.banked : DevState) State.reset), (.banked : DevState), by decide⟩

theorem witness_PowerRequests_7 : ∃ (s : State) (w : Wake),
    s.ember.entry = some .banked ∧
    bankedWake w = true ∧
    s.ember.latched = none :=
  ⟨(entering .banked State.reset), (.wakeN : Wake), by decide⟩

theorem witness_PowerWakes_1 : ∃ (s : State) (w : Wake),
    s.ember.dev = .banked ∧
    s.ember.entry = none ∧
    bankedWake w = true :=
  ⟨(low .banked State.reset), (.wakeN : Wake), by decide⟩

theorem witness_PowerWakes_2 : ∃ (s : State) (w : Wake),
    s.ember.dev = .smoulder ∧
    s.smoulderWakes w = true ∧
    s.flag F.EMB_STATUS_vsys_ok = true :=
  ⟨(((low .smoulder State.reset).set F.EMB_STATUS_vsys_ok 1).set F.EMB_WAKE_EN_wake_n 1), (.wakeN : Wake), by decide⟩

theorem witness_PowerWakes_3 : ∃ (s : State) (w : Wake),
    s.ember.dev = .cold ∧
    coldWakes w = true ∧
    s.flag F.EMB_STATUS_vsys_ok = true :=
  ⟨((low .cold State.reset).set F.EMB_STATUS_vsys_ok 1), (.wakeN : Wake), by decide⟩

theorem witness_PowerWakes_4 : ∃ (s : State) (w : Wake),
    s.ember.dev = .smoulder ∧
    s.smoulderWakes w = true ∧
    s.flag F.EMB_STATUS_vsys_ok = false ∧
    w ≠ .smbus ∧
    s.ember.latched = none :=
  ⟨(((low .smoulder State.reset).set F.EMB_STATUS_vsys_ok 0).set F.EMB_WAKE_EN_wake_n 1), (.wakeN : Wake), by decide⟩

theorem witness_PowerWakes_5 : ∃ (s : State) (changed : BitVec 8),
    s.ember.dev = .smoulder :=
  ⟨(low .smoulder State.reset), (5 : BitVec 8), by decide⟩

theorem witness_PowerWakes_6 : ∃ (s : State),
    s.ember.dev = .smoulder ∧
    s.get F.EMB_ALARM_ticks ≠ 0 ∧
    s.flag F.EMB_WAKE_EN_alarm = true ∧
    s.flag F.EMB_STATUS_vsys_ok = true :=
  ⟨((((low .smoulder State.reset).set F.EMB_ALARM_ticks 5).set F.EMB_WAKE_EN_alarm 1).set F.EMB_STATUS_vsys_ok 1), by decide⟩

theorem witness_PowerWakes_7 : ∃ (s : State),
    s.ember.dev = .banked :=
  ⟨(low .banked State.reset), by decide⟩

theorem witness_PowerWakes_8 : ∃ (s : State) (code : BitVec 12),
    s.ember.dev = .banked :=
  ⟨(low .banked State.reset), (2700 : BitVec 12), by decide⟩

theorem witness_StartUpSteps_1 : ∃ (s : State) (supplies : BitVec 7) (tj : BitVec 8) (flips : List OtpFlip),
    s.ember.dev = .startup ∧
    s.ember.step = 1 ∧
    s.ember.resetHeld = false ∧
    supplies.getLsbD 3 = true :=
  ⟨(atStep 1 State.reset), (0x7F : BitVec 7), (65 : BitVec 8), ([] : List OtpFlip), by decide⟩

theorem witness_StartUpSteps_2 : ∃ (s : State) (pins : BitVec 3),
    s.ember.dev = .startup ∧
    s.ember.step = 2 ∧
    s.pins.wakeAddr = none :=
  ⟨(atStep 2 State.reset), (3 : BitVec 3), by decide⟩

theorem witness_StartUpSteps_3 : ∃ (s : State),
    s.ember.dev = .startup ∧
    s.ember.step = 3 ∧
    s.pins.held = none :=
  ⟨(noHeld (atStep 3 State.reset)), by decide⟩

theorem witness_StartUpSteps_4 : ∃ (s : State) (passA : Bool) (passB : Bool),
    s.ember.dev = .startup ∧
    s.ember.step = 4 ∧
    s.pins.held = none ∧
    s.bootMode = .mirror :=
  ⟨((noHeld (atStep 4 State.reset)).set F.HTH_MODE_mode 2), (true : Bool), (true : Bool), by decide⟩

theorem witness_StartUpSteps_5 : ∃ (s : State),
    s.ember.dev = .startup ∧
    s.ember.step = 5 ∧
    s.powered .A = true ∧
    s.pins.held = none :=
  ⟨(actA (noHeld (atStep 5 State.reset))), by decide⟩

theorem witness_StartUpSteps_6 : ∃ (s : State),
    s.ember.dev = .startup ∧
    s.ember.step = 6 ∧
    s.ember.kindling = none :=
  ⟨(atStep 6 State.reset), by decide⟩

theorem witness_StartUpSteps_7 : ∃ (s : State),
    s.ember.dev = .startup ∧
    s.ember.step = 7 :=
  ⟨(atStep 7 State.reset), by decide⟩

theorem witness_StartUpSteps_8 : ∃ (s : State) (flips : List OtpFlip),
    s.ember.resensePending = true :=
  ⟨(resense State.reset), ([] : List OtpFlip), by decide⟩

theorem witness_ResetsAndKindling_1 : ∃ (s : State),
    s.ember.dev ≠ .unpowered ∧
    s.ember.dev ≠ .cold ∧
    s.ember.dev ≠ .smoulder :=
  ⟨(atStep 2 State.reset), by decide⟩

theorem witness_ResetsAndKindling_2 : ∃ (s : State),
    s.ember.resetHeld = true :=
  ⟨({ State.reset with ember := { State.reset.ember with resetHeld := true } }), by decide⟩

theorem witness_ResetsAndKindling_3 : ∃ (s : State) (pins : BitVec 3),
    s.pageAnswers 0 = true ∧
    s.ember.dev ≠ .fuseHold ∧
    s.get F.DEV_KEY_key = 0xA5 :=
  ⟨((lit State.reset).set F.DEV_KEY_key 0xA5), (1 : BitVec 3), by decide⟩

theorem witness_ResetsAndKindling_4 : ∃ (s : State) (pins : BitVec 3),
    s.pageAnswers 0 = true ∧
    s.ember.dev ≠ .fuseHold ∧
    s.get F.DEV_KEY_key ≠ 0xA5 :=
  ⟨((lit State.reset).set F.DEV_KEY_key 0), (1 : BitVec 3), by decide⟩

theorem witness_ResetsAndKindling_5 : ∃ (s : State) (vbus : BitVec 8) (n : Port),
    s.ember.dev = .unpowered ∧
    s.kindlePort vbus = some n ∧
    s.otpKindleOff = false :=
  ⟨(inDev .unpowered State.reset), (4 : BitVec 8), (2 : Port), by decide⟩

theorem witness_ResetsAndKindling_6 : ∃ (s : State) (n : Port),
    s.ember.kindling = some n ∧
    s.ember.dev = .startup ∧
    s.ember.step = 6 ∧
    s.ember.kindleClosed = false :=
  ⟨(kindled (2 : Port) State.reset), (2 : Port), by decide⟩

theorem witness_ResetsAndKindling_7 : ∃ (s : State) (n : Port),
    s.ember.kindling = some n ∧
    s.ember.dev = .startup ∧
    s.ember.step = 6 :=
  ⟨(kindled (2 : Port) State.reset), (2 : Port), by decide⟩

theorem witness_ResetsAndKindling_8 : ∃ (s : State) (n : Port),
    s.ember.kindling = some n ∧
    s.running .kindleStall 0 = true ∧
    s.pairEqual 3 0 = false ∧
    s.pairDue (3, 0, 0) = s.tbase.toNat :=
  ⟨((kindled (2 : Port) State.reset).start .kindleStall 0 5), (2 : Port), by decide⟩

theorem witness_ResetsAndKindling_9 : ∃ (s : State) (n : Port),
    s.ember.kindling = some n ∧
    s.flag F.EMB_STATUS_src_vstby = true :=
  ⟨((kindled (2 : Port) State.reset).set F.EMB_STATUS_src_vstby 1), (2 : Port), by decide⟩

theorem witness_ReferenceCommands_1 : ∃ (s : State) (khz : Nat),
    s.get F.TB_STATUS_ref_src = 2 ∧
    98 * s.get F.TB_CONFIG_ref_khz ≤ 100 * khz ∧
    100 * khz ≤ 102 * s.get F.TB_CONFIG_ref_khz ∧
    khz < 65536 ∧
    s.atEpoch = true :=
  ⟨(onEpoch ((State.reset.set F.TB_STATUS_ref_src 2).set F.TB_CONFIG_ref_khz 24576)), (24576 : Nat), by decide⟩

theorem witness_ReferenceCommands_2 : ∃ (s : State) (khz : Nat),
    s.get F.TB_STATUS_ref_src = 2 ∧
    98 * s.get F.TB_CONFIG_ref_khz ≤ 100 * khz ∧
    100 * khz ≤ 102 * s.get F.TB_CONFIG_ref_khz ∧
    khz < 65536 ∧
    s.atEpoch = false :=
  ⟨({ onEpoch ((State.reset.set F.TB_STATUS_ref_src 2).set F.TB_CONFIG_ref_khz 24576) with tbase := 5 }), (24576 : Nat), by decide⟩

theorem witness_ReferenceCommands_3 : ∃ (s : State),
    s.get F.TB_STATUS_ref_src ≠ 2 :=
  ⟨(State.reset.set F.TB_STATUS_ref_src 0), by decide⟩

theorem witness_ReferenceCommands_4 : ∃ (s : State) (v : Word),
    ((bitsGet v 16 16 = 0 ∨ bitsGet v 16 16 = s.get F.TB_CONFIG_ref_khz)) ∧
    ((12000 ≤ s.get F.TB_CONFIG_ref_khz ∧ s.get F.TB_CONFIG_ref_khz ≤ 50000)) ∧
    bitsGet v 0 2 = s.get F.TB_CONFIG_ref_sel ∧
    bitsGet v 0 2 < 2 ∧
    ((bitsGet v 0 2 = 0 ∨ bitsGet v 8 3 = s.get F.TB_CONFIG_ref_port)) ∧
    s.pageAnswers 2 = true :=
  ⟨(lit (((State.reset.set F.TB_CONFIG_ref_khz 24576).set F.TB_CONFIG_ref_sel 0))), (0x00000100#32 : Word), by decide⟩

theorem witness_ReferenceCommands_5 : ∃ (s : State) (v : Word),
    bitsGet v 16 16 ≠ 0 ∧
    ((bitsGet v 16 16 < 12000 ∨ 50000 < bitsGet v 16 16 ∨ (bitsGet v 16 16 ≠ s.get F.TB_CONFIG_ref_khz ∧ ∃ n : Port, 1250 * s.get (F.STG_CARRIER_n_div
      n) < bitsGet v 16 16))) ∧
    s.pageAnswers 2 = true :=
  ⟨(lit (State.reset)), (0x27100000#32 : Word), by decide⟩

theorem witness_ReferenceCommands_6 : ∃ (s : State),
    s.pageAnswers 2 = true :=
  ⟨(lit (State.reset)), by decide⟩

theorem witness_ReferenceCommands_7 : ∃ (s : State) (ticks : Nat),
    s.ember.dev = .lit ∧
    s.get F.TB_STATUS_ref_src ≠ 2 ∧
    s.flag F.TB_STATUS_qualified = true ∧
    2 * ticks < 2 ^ 32 :=
  ⟨(lit ((State.reset.set F.TB_STATUS_ref_src 0).set F.TB_STATUS_qualified 1)), (20000000 : Nat), by decide⟩

theorem witness_ReferenceCommands_8 : ∃ (s : State) (nsA : Nat) (nsB : Nat),
    1 ≤ nsA ∧
    nsA ≤ 260 ∧
    4 ≤ nsA ∧
    4 ≤ nsB ∧
    nsB ≤ 260 ∧
    s.atEpoch = true :=
  ⟨(onEpoch State.reset), (140 : Nat), (260 : Nat), by decide⟩

theorem witness_CarrierCommands_1 : ∃ (s : State) (n : Port) (v : Word),
    20 ≤ bitsGet v 0 7 ∧
    bitsGet v 0 7 ≤ 98 ∧
    s.get F.TB_CONFIG_ref_khz ≤ 1250 * bitsGet v 0 7 ∧
    ((bitsGet v 24 1 = 1 ∨ bitsGet v 8 7 < bitsGet v 0 7)) ∧
    s.pageAnswers (portPage n 4) = true :=
  ⟨(lit (State.reset.set F.TB_CONFIG_ref_khz 24576)), (1 : Port), (0x00000014#32 : Word), by decide⟩

theorem witness_CarrierCommands_2 : ∃ (s : State) (n : Port) (v : Word),
    bitsGet v 0 7 ≠ 0 ∧
    ((bitsGet v 0 7 < 20 ∨ 98 < bitsGet v 0 7 ∨ 1250 * bitsGet v 0 7 < s.get F.TB_CONFIG_ref_khz)) ∧
    s.pageAnswers (portPage n 4) = true :=
  ⟨(lit (State.reset)), (1 : Port), (0x00000013#32 : Word), by decide⟩

theorem witness_CarrierCommands_3 : ∃ (s : State) (n : Port),
    s.flag (F.STG_CARRIER_auto n) = true ∧
    s.get (F.POL_STATUS_typec n) ≠ 0 ∧
    ((∀ m : Port, m ≠ n → s.flag (F.STG_CARRIER_auto m) = false ∨ s.get (F.POL_STATUS_typec m) = 0 ∨ s.get (F.STG_CARRIER_n_div m) ≠ s.get
      (F.STG_CARRIER_n_div n))) ∧
    s.atEpoch = true ∧
    (s.lp.get n).switching = false :=
  ⟨((onEpoch (((State.reset.set (F.STG_CARRIER_auto (1 : Port)) 1).set (F.POL_STATUS_typec (1 : Port)) 1).set (F.STG_CARRIER_n_div (1 : Port)) 21)).modLp (1 : Port) fun l => { l with switching := false }), (1 : Port), by decide⟩

theorem witness_CarrierCommands_4 : ∃ (s : State) (n : Port),
    s.periodDue n = true :=
  ⟨(periodNow (1 : Port) State.reset), (1 : Port), by decide⟩

theorem witness_CarrierCommands_5 : ∃ (s : State) (n : Port),
    s.periodDue n = false :=
  ⟨({ periodNow (1 : Port) State.reset with tbase := 1 }), (1 : Port), by decide⟩

theorem witness_CarrierCommands_6 : ∃ (s : State) (n : Port) (b : Nat),
    (s.tb.carriers.get n).lastStart = some b ∧
    s.since b + 1 < s.get (F.STG_CARRIER_n_div n) :=
  ⟨({ (periodNow (1 : Port) State.reset).modCarrier (1 : Port) fun c => { c with lastStart := some 100 } with tbase := 110 }), (1 : Port), (100 : Nat), by decide⟩

theorem witness_CarrierCommands_7 : ∃ (s : State) (e : Nat),
    s.tb.lastEdge = some e ∧
    s.get F.TB_SYNC_CFG_frame_ticks ≠ 0 ∧
    s.flag F.TB_STATUS_lock = false ∧
    (s.tbase - BitVec.ofNat 48 e).toNat = s.get F.TB_SYNC_CFG_frame_ticks ∧
    s.get F.TB_FRAME_MEAS_good = 7 :=
  ⟨((((setEdge State.reset (100 : Nat)).set F.TB_SYNC_CFG_frame_ticks (512)).set F.TB_STATUS_lock 0).set F.TB_FRAME_MEAS_good 7), (100 : Nat), by decide⟩

theorem witness_CarrierCommands_8 : ∃ (s : State) (e : Nat),
    s.tb.lastEdge = some e ∧
    s.get F.TB_SYNC_CFG_frame_ticks ≠ 0 :=
  ⟨((setEdge State.reset (100 : Nat)).set F.TB_SYNC_CFG_frame_ticks 512), (100 : Nat), by decide⟩

theorem witness_CarrierCommands_9 : ∃ (s : State) (published : BitVec 8),
    s.hearths.mode = .split ∧
    s.hearths.roleA = .owner ∧
    s.hearths.roleB = .owner ∧
    published = 0xFF ∧
    s.atEpoch = true :=
  ⟨(onEpoch (owners State.reset)), (0xFF#8 : BitVec 8), by decide⟩

theorem witness_AttachAndDetach_1 : ∃ (s : State) (n : Port) (mv : Nat),
    (s.cc.get n).attached = false ∧
    (s.cc.get n).iso2 = false ∧
    (s.cc.get n).busy = false ∧
    (s.pol.get n).trying = 0 ∧
    s.get (F.CC_STATUS_pres2 n) = 1 ∧
    s.get (F.CC_STATUS_pres1 n) = 1 ∧
    s.get (F.CC_STATUS_lvl1 n) = 4 ∧
    s.get (F.CC_STATUS_lvl2 n) = 4 ∧
    s.flag (F.CC_STATUS_vbus_present n) = true ∧
    200 ≤ mv ∧
    mv < 660 :=
  ⟨((unattached (1 : Port) State.reset).set (F.CC_STATUS_vbus_present (1 : Port)) 1), (1 : Port), (500 : Nat), by decide⟩

theorem witness_AttachAndDetach_2 : ∃ (s : State) (n : Port),
    s.running .attach n.val = true ∧
    (s.cc.get n).attached = false ∧
    s.get (F.CC_STATUS_pres1 n) = 1 ∧
    s.get (F.CC_STATUS_pres2 n) = 1 ∧
    s.get (F.CC_STATUS_lvl1 n) = 4 ∧
    s.get (F.CC_STATUS_lvl2 n) = 5 ∧
    s.flag (F.CC_STATUS_vbus_present n) = true :=
  ⟨((((unattached (1 : Port) State.reset).set (F.CC_STATUS_vbus_present (1 : Port)) 1).set (F.CC_STATUS_lvl2 (1 : Port)) 5).start .attach (1 : Port).val 9), (1 : Port), by decide⟩

theorem witness_AttachAndDetach_3 : ∃ (s : State) (n : Port),
    (s.cc.get n).attached = true ∧
    s.get (F.CC_STATUS_attach n) = 1 ∧
    s.flag (F.CC_STATUS_orient n) = false ∧
    s.get (F.CC_STATUS_lvl1 n) = 3 ∧
    s.running .detach n.val = true :=
  ⟨(((attachedAs (1 : Port) 1 State.reset).set (F.CC_STATUS_lvl1 (1 : Port)) 3).start .detach (1 : Port).val 5), (1 : Port), by decide⟩

theorem witness_AttachAndDetach_4 : ∃ (s : State) (n : Port),
    (s.cc.get n).attached = true ∧
    s.get (F.CC_STATUS_attach n) = 1 ∧
    s.flag (F.CC_STATUS_orient n) = false ∧
    s.get (F.CC_STATUS_lvl1 n) = 3 ∧
    (s.cc.get n).busy = false :=
  ⟨((attachedAs (1 : Port) 1 State.reset).set (F.CC_STATUS_lvl1 (1 : Port)) 3), (1 : Port), by decide⟩

theorem witness_AttachAndDetach_5 : ∃ (s : State) (n : Port),
    (s.cc.get n).attached = false ∧
    s.flag (F.CC_STATUS_vbus_present n) = true ∧
    s.get (F.CC_STATUS_lvl1 n) = 4 ∧
    s.get (F.CC_STATUS_lvl2 n) = 4 :=
  ⟨((unattached (1 : Port) State.reset).set (F.CC_STATUS_vbus_present (1 : Port)) 1), (1 : Port), by decide⟩

theorem witness_AttachAndDetach_6 : ∃ (s : State) (n : Port) (mv : Nat),
    (s.cc.get n).attached = true ∧
    s.get (F.CC_STATUS_attach n) = 1 ∧
    s.flag (F.CC_STATUS_orient n) = false ∧
    (s.cc.get n).iso2 = false ∧
    (s.cc.get n).busy = false ∧
    s.get (F.CC_STATUS_pres2 n) = 3 ∧
    (s.cc.get n).thr = 3 ∧
    s.get (F.CC_STATUS_lvl2 n) = 3 ∧
    mv < 200 :=
  ⟨(((attachedAs (1 : Port) 1 State.reset).set (F.CC_STATUS_pres2 (1 : Port)) 3).set (F.CC_STATUS_lvl2 (1 : Port)) 3), (1 : Port), (20 : Nat), by decide⟩

theorem witness_AttachAndDetach_7 : ∃ (s : State) (n : Port),
    (s.cc.get n).attached = true ∧
    s.get (F.CC_STATUS_attach n) = 6 ∧
    s.flag (F.CC_STATUS_orient n) = false ∧
    s.get (F.CC_STATUS_lvl1 n) = 7 ∧
    s.get (F.CC_STATUS_rp_level n) ≠ 3 ∧
    s.running .rpLevel n.val = true :=
  ⟨(((attachedAs (1 : Port) 6 State.reset).set (F.CC_STATUS_lvl1 (1 : Port)) 7).start .rpLevel (1 : Port).val 5), (1 : Port), by decide⟩

theorem witness_AttachAndDetach_8 : ∃ (s : State) (n : Port),
    (s.cc.get n).attached = true ∧
    s.get (F.CC_STATUS_attach n) = 6 ∧
    s.flag (F.CC_STATUS_orient n) = false ∧
    s.get (F.CC_STATUS_lvl1 n) = 6 ∧
    s.get (F.CC_STATUS_rp_level n) = 3 ∧
    s.running .rpLevel n.val = true :=
  ⟨((((attachedAs (1 : Port) 6 State.reset).set (F.CC_STATUS_lvl1 (1 : Port)) 6).set (F.CC_STATUS_rp_level (1 : Port)) 3).start .rpLevel (1 : Port).val 5), (1 : Port), by decide⟩

theorem witness_AttachAndDetach_9 : ∃ (s : State) (n : Port) (on : Bool),
    (s.cc.get n).attached = true :=
  ⟨(attachedAs (1 : Port) 6 State.reset), (1 : Port), (true : Bool), by decide⟩

theorem witness_PresentationAndVconn_1 : ∃ (s : State) (n : Port),
    s.higherHeld n = false ∧
    (s.cc.get n).iso1 = false ∧
    (s.cc.get n).iso2 = false ∧
    s.flag (F.CC_STATUS_vconn_on n) = false :=
  ⟨(((noVconn (1 : Port) State.reset).set F.FLU_STATUS_l3 0).modPol (1 : Port) fun p => { p with safeHeld := false }), (1 : Port), by decide⟩

theorem witness_PresentationAndVconn_2 : ∃ (s : State) (n : Port),
    s.higherHeld n = false ∧
    (s.cc.get n).iso1 = false ∧
    (s.cc.get n).iso2 = false ∧
    s.flag (F.CC_STATUS_vconn_on n) = false :=
  ⟨(((noVconn (1 : Port) State.reset).set F.FLU_STATUS_l3 0).modPol (1 : Port) fun p => { p with safeHeld := false }), (1 : Port), by decide⟩

theorem witness_PresentationAndVconn_3 : ∃ (s : State) (n : Port) (l : Fin 3),
    (s.cc.get n).cmd = .toggle l ∧
    s.flag (F.CC_STATUS_toggling n) = true ∧
    (s.cc.get n).iso1 = false ∧
    (s.cc.get n).iso2 = false ∧
    s.flag (F.CC_STATUS_vconn_on n) = false ∧
    s.get (F.CC_STATUS_pres1 n) = 3 + l.val ∧
    s.get (F.CC_STATUS_pres2 n) = 3 + l.val :=
  ⟨(((((noVconn (1 : Port) State.reset).modCc (1 : Port) fun c => { c with cmd := .toggle (1 : Fin 3) }).set (F.CC_STATUS_toggling (1 : Port)) 1).set (F.CC_STATUS_pres1 (1 : Port)) (3 + (1 : Fin 3).val)).set (F.CC_STATUS_pres2 (1 : Port)) (3 + (1 : Fin 3).val)), (1 : Port), (1 : Fin 3), by decide⟩

theorem witness_PresentationAndVconn_4 : ∃ (s : State) (n : Port) (l : Fin 3),
    (s.cc.get n).cmd = .toggle l ∧
    s.flag (F.CC_STATUS_toggling n) = true ∧
    (s.cc.get n).iso1 = false ∧
    (s.cc.get n).iso2 = false ∧
    s.flag (F.CC_STATUS_vconn_on n) = false ∧
    s.get (F.CC_STATUS_pres1 n) = 1 ∧
    s.get (F.CC_STATUS_pres2 n) = 1 :=
  ⟨(((((noVconn (1 : Port) State.reset).modCc (1 : Port) fun c => { c with cmd := .toggle (1 : Fin 3) }).set (F.CC_STATUS_toggling (1 : Port)) 1).set (F.CC_STATUS_pres1 (1 : Port)) 1).set (F.CC_STATUS_pres2 (1 : Port)) 1), (1 : Port), (1 : Fin 3), by decide⟩

theorem witness_PresentationAndVconn_5 : ∃ (s : State) (n : Port) (v : Word),
    100 ≤ bitsGet v 0 8 ∧
    bitsGet v 0 8 ≤ 200 ∧
    10 ≤ bitsGet v 8 8 ∧
    bitsGet v 8 8 ≤ 20 ∧
    4 ≤ bitsGet v 16 8 ∧
    bitsGet v 16 8 ≤ 24 ∧
    s.pageAnswers (portPage n 0) = true :=
  ⟨(lit (State.reset)), (1 : Port), (0x00080A64#32 : Word), by decide⟩

theorem witness_PresentationAndVconn_6 : ∃ (s : State) (n : Port) (v : Word),
    bitsGet v 0 8 ≠ 0 ∧
    ((bitsGet v 0 8 < 100 ∨ 200 < bitsGet v 0 8)) ∧
    s.pageAnswers (portPage n 0) = true :=
  ⟨(lit (State.reset)), (1 : Port), (0x00080A63#32 : Word), by decide⟩

theorem witness_PresentationAndVconn_7 : ∃ (s : State) (n : Port),
    s.flag F.FLU_STATUS_l3 = false ∧
    s.flag (F.CC_STATUS_vconn_on n) = false ∧
    (s.cc.get n).attached = true ∧
    s.get (F.CC_STATUS_attach n) = 2 ∧
    s.flag (F.CC_STATUS_orient n) = false ∧
    s.flag F.EMB_STATUS_vconn_in_ok = true ∧
    (s.pol.get n).safeHeld = false ∧
    (s.cc.get n).detachTick ≠ some s.tbase.toNat ∧
    25 * s.vconnSum n (s.get (F.CC_VCONN_CFG_ilim n)) ≤ 1200 ∧
    (s.cc.get n).iso2 = false :=
  ⟨(vconnReady (1 : Port) State.reset), (1 : Port), by decide⟩

theorem witness_PresentationAndVconn_8 : ∃ (s : State) (n : Port),
    s.flag F.FLU_STATUS_l3 = false ∧
    s.flag (F.CC_STATUS_vconn_on n) = false ∧
    s.flag F.EMB_STATUS_vconn_in_ok = false ∧
    (s.pol.get n).safeHeld = false ∧
    (s.cc.get n).detachTick ≠ some s.tbase.toNat :=
  ⟨((vconnReady (1 : Port) State.reset).set F.EMB_STATUS_vconn_in_ok 0), (1 : Port), by decide⟩

theorem witness_PresentationAndVconn_9 : ∃ (s : State) (n : Port),
    s.flag (F.CC_STATUS_vconn_on n) = true :=
  ⟨(State.reset.set (F.CC_STATUS_vconn_on (1 : Port)) 1), (1 : Port), by decide⟩

theorem witness_PresentationAndVconn_10 : ∃ (s : State) (n : Port) (held : Nat),
    s.flag (F.CC_STATUS_vconn_on n) = true ∧
    s.vconnOcTicks n ≤ held :=
  ⟨(State.reset.set (F.CC_STATUS_vconn_on (1 : Port)) 1), (1 : Port), (1000000 : Nat), by decide⟩

theorem witness_PresentationAndVconn_11 : ∃ (s : State) (n : Port),
    s.flag (F.CC_STATUS_vconn_on n) = true :=
  ⟨(State.reset.set (F.CC_STATUS_vconn_on (1 : Port)) 1), (1 : Port), by decide⟩

theorem witness_PresentationAndVconn_12 : ∃ (s : State) (n : Port) (v : Word),
    1 ≤ bitsGet v 0 4 ∧
    bitsGet v 0 4 ≤ 12 ∧
    1 ≤ bitsGet v 8 8 ∧
    bitsGet v 8 8 ≤ 100 ∧
    s.flag (F.CC_STATUS_vconn_on n) = false ∧
    s.pageAnswers (portPage n 0) = true :=
  ⟨(lit (State.reset.set (F.CC_STATUS_vconn_on (1 : Port)) 0)), (1 : Port), (0x00000A04#32 : Word), by decide⟩

theorem witness_PresentationAndVconn_13 : ∃ (s : State) (n : Port) (v : Word),
    s.flag (F.CC_STATUS_vconn_on n) = true ∧
    s.get (F.CC_VCONN_CFG_ilim n) < bitsGet v 0 4 ∧
    1200 < 25 * s.vconnSum n (bitsGet v 0 4) ∧
    s.pageAnswers (portPage n 0) = true :=
  ⟨(lit ((eachPort (fun t m => (t.set (F.CC_STATUS_vconn_on m) 1).set (F.CC_VCONN_CFG_ilim m) 8) State.reset))), (1 : Port), (0x0000000C#32 : Word), by decide⟩

theorem witness_CcOvervoltage_2 : ∃ (s : State) (n : Port) (cc2 : Bool) (mv : Nat),
    s.pinIso n cc2 = true ∧
    s.flag (F.CC_CONTROL_cc_ov_auto n) = true ∧
    mv < 5500 ∧
    s.pinIso n (!cc2) = false :=
  ⟨((isolated (1 : Port) (true : Bool) State.reset).set (F.CC_CONTROL_cc_ov_auto (1 : Port)) 1), (1 : Port), (true : Bool), (5000 : Nat), by decide⟩

theorem witness_CcOvervoltage_3 : ∃ (s : State) (n : Port),
    s.pinIso n true = true ∧
    s.pinIso n false = false ∧
    (s.cc.get n).mv2 < 5500 ∧
    s.pageAnswers (portPage n 0) = true :=
  ⟨(lit ((isolated (1 : Port) true State.reset).modCc (1 : Port) fun c => { c with mv2 := 3000 })), (1 : Port), by decide⟩

theorem witness_CcOvervoltage_4 : ∃ (s : State) (n : Port),
    s.pinIso n true = true ∧
    5500 ≤ (s.cc.get n).mv2 :=
  ⟨((isolated (1 : Port) true State.reset).modCc (1 : Port) fun c => { c with mv2 := 5500 }), (1 : Port), by decide⟩

theorem witness_MessageSending_1 : ∃ (s : State) (n : Port) (sop : Fin 3) (ty : BitVec 7) (data : List Byte),
    ty.toNat < 32 :=
  ⟨(State.reset), (1 : Port), (0 : Fin 3), (3 : BitVec 7), ([] : List Byte), by decide⟩

theorem witness_MessageSending_2 : ∃ (s : State) (n : Port) (m : Msg),
    (s.msg.get n).queue = [m] ∧
    m.slot = .waiting ∧
    s.sharedOk n = true ∧
    ((∀ k : Port, k ≠ n → (s.msg.get k).queue = [])) :=
  ⟨(roomy (1 : Port) (eachPort (fun t k => t.modMsg k fun x => { x with queue := if k = (1 : Port) then [({ aMsg State.reset with slot := .waiting, port := 1 } : Msg)] else [], current := none, assembly := none }) { State.reset with inputs := [] })), (1 : Port), ({ aMsg State.reset with slot := .waiting, port := 1 } : Msg), by decide⟩

theorem witness_MessageSending_3 : ∃ (s : State) (n : Port) (m : Msg),
    (s.msg.get n).sigOn = false ∧
    (s.msg.get n).phase = .idle ∧
    (s.msg.get n).signal = .empty ∧
    (s.msg.get n).current = none ∧
    (s.msg.get n).queue = [m] ∧
    m.slot = .shared ∧
    s.sinkTxHeld n m = false ∧
    m.heldNg = false ∧
    ((s.startsAms n m = false ∨ s.sinking n = false)) ∧
    s.sopOpen n m.sop = true ∧
    m.extended = false ∧
    s.pinIso n (s.bmcPin n) = false ∧
    m.epoch = s.get (F.POL_SEQ_epoch n) ∧
    (s.msg.get n).aside = none ∧
    s.higherHeld n = false :=
  ⟨(((lit State.reset).set (F.POL_SEQ_epoch (1 : Port)) 0).modMsg (1 : Port) fun x => { x with sigOn := false, phase := .idle, signal := .empty, current := none, queue := [(aMsg State.reset : Msg)], aside := none }), (1 : Port), (aMsg State.reset : Msg), by decide⟩

theorem witness_MessageSending_4 : ∃ (s : State) (n : Port) (m : Msg),
    (s.msg.get n).sigOn = false ∧
    (s.msg.get n).phase = .idle ∧
    (s.msg.get n).signal = .empty ∧
    (s.msg.get n).current = some m ∧
    m.purpose = .ask ∧
    m.sop = 0 ∧
    m.extended = false ∧
    m.epoch = s.get (F.POL_SEQ_epoch n) ∧
    s.seqOf n = .asked ∧
    (s.pol.get n).asking = pdPrSwap ∧
    s.pinIso n (s.bmcPin n) = false ∧
    s.higherHeld n = false :=
  ⟨((((lit State.reset).set (F.POL_SEQ_epoch (1 : Port)) 0).modPol (1 : Port) fun p => { p with seq := .asked, asking := pdPrSwap }).modMsg (1 : Port) fun x => { x with sigOn := false, phase := .idle, signal := .empty, current := some ({ aMsg State.reset with purpose := .ask, header := 10 } : Msg) }), (1 : Port), ({ aMsg State.reset with purpose := .ask, header := 10 } : Msg), by decide⟩

theorem witness_MessageSending_5 : ∃ (s : State) (n : Port) (m : Msg),
    (s.msg.get n).sigOn = false ∧
    (s.msg.get n).phase = .idle ∧
    (s.msg.get n).signal = .empty ∧
    (s.msg.get n).current = none ∧
    (s.msg.get n).queue = [m] ∧
    m.slot = .shared ∧
    m.purpose = .plain ∧
    m.initiates = false ∧
    m.heldNg = false ∧
    s.sopOpen n m.sop = true ∧
    m.epoch ≠ s.get (F.POL_SEQ_epoch n) ∧
    (s.msg.get n).aside = none :=
  ⟨((State.reset.set (F.POL_SEQ_epoch (1 : Port)) 7).modMsg (1 : Port) fun x => { x with sigOn := false, phase := .idle, signal := .empty, current := none, queue := [({ aMsg State.reset with header := 3 } : Msg)], aside := none }), (1 : Port), ({ aMsg State.reset with header := 3 } : Msg), by decide⟩

theorem witness_MessageSending_6 : ∃ (s : State) (n : Port) (i : Nat) (m : Msg),
    (s.msg.get n).queue[i]? = some m ∧
    m.purpose = .plain :=
  ⟨(State.reset.modMsg (1 : Port) fun x => { x with queue := [(aMsg State.reset : Msg), (aMsg State.reset : Msg)] }), (1 : Port), (1 : Nat), (aMsg State.reset : Msg), by decide⟩

theorem witness_MessageSending_7 : ∃ (s : State) (n : Port) (epoch : BitVec 8),
    epoch.toNat = s.get (F.POL_SEQ_epoch n) ∧
    s.pageAnswers (portPage n 1) = true :=
  ⟨(lit ((State.reset.set (F.POL_SEQ_epoch (1 : Port)) (5 : BitVec 8).toNat).modMsg (1 : Port) fun x => { x with queue := [aMsg State.reset, aMsg State.reset] })), (1 : Port), (5 : BitVec 8), by decide⟩

theorem witness_MessageSending_8 : ∃ (s : State) (n : Port) (epoch : BitVec 8),
    epoch.toNat ≠ s.get (F.POL_SEQ_epoch n) ∧
    s.pageAnswers (portPage n 1) = true :=
  ⟨(lit ((State.reset.set (F.POL_SEQ_epoch (1 : Port)) 4))), (1 : Port), (5 : BitVec 8), by decide⟩

theorem witness_MessageSending_9 : ∃ (s : State) (n : Port) (sop : Nat) (id : Nat),
    (s.msg.get n).signal = .goodcrc sop id ∧
    (s.msg.get n).sigOn = false ∧
    s.pinIso n (s.bmcPin n) = false ∧
    s.higherHeld n = false :=
  ⟨((lit State.reset).modMsg (1 : Port) fun x => { x with signal := .goodcrc (0 : Nat) (3 : Nat), sigOn := false }), (1 : Port), (0 : Nat), (3 : Nat), by decide⟩

theorem witness_MessageSending_10 : ∃ (s : State) (n : Port) (m : Msg),
    (s.msg.get n).sigOn = false ∧
    (s.msg.get n).phase = .frame ∧
    (s.msg.get n).current = some m :=
  ⟨(State.reset.modMsg (1 : Port) fun x => { x with sigOn := false, phase := .frame, current := some (aMsg State.reset : Msg) }), (1 : Port), (aMsg State.reset : Msg), by decide⟩

theorem witness_MessageSending_12 : ∃ (s : State) (n : Port) (v : Word),
    25 ≤ bitsGet v 8 8 ∧
    bitsGet v 8 8 ≤ 40 ∧
    bitsGet v 2 2 = 2 ∧
    s.pageAnswers (portPage n 1) = true :=
  ⟨(lit (State.reset)), (1 : Port), (0x00001C09#32 : Word), by decide⟩

theorem witness_MessageSending_13 : ∃ (s : State) (n : Port) (v : Word),
    bitsGet v 0 5 ≠ 0 ∧
    16 < bitsGet v 0 5 ∧
    s.pageAnswers (portPage n 1) = true :=
  ⟨(lit (State.reset)), (1 : Port), (17#32 : Word), by decide⟩

theorem witness_MessageLosses_1 : ∃ (s : State) (n : Port) (m : Msg),
    (s.msg.get n).phase = .awaiting ∧
    (s.msg.get n).current = some m ∧
    m.retries < m.retryCount :=
  ⟨(State.reset.modMsg (1 : Port) fun x => { x with phase := .awaiting, current := some (aMsg State.reset : Msg) }), (1 : Port), (aMsg State.reset : Msg), by decide⟩

theorem witness_MessageLosses_2 : ∃ (s : State) (n : Port) (m : Msg),
    (s.msg.get n).phase = .awaiting ∧
    (s.msg.get n).current = some m ∧
    m.retries = m.retryCount ∧
    m.purpose = .chunkRequest ∧
    m.sop = 0 :=
  ⟨((State.reset.set (F.MSG_STATUS_rev_sop (1 : Port)) 2).modMsg (1 : Port) fun x => { x with phase := .awaiting, current := some ({ aMsg State.reset with retries := 2, purpose := .chunkRequest } : Msg) }), (1 : Port), ({ aMsg State.reset with retries := 2, purpose := .chunkRequest } : Msg), by decide⟩

theorem witness_MessageLosses_3 : ∃ (s : State) (n : Port) (m : Msg),
    (s.msg.get n).phase = .awaiting ∧
    (s.msg.get n).current = some m ∧
    m.purpose = .plain ∧
    m.epoch ≠ s.get (F.POL_SEQ_epoch n) :=
  ⟨((State.reset.set (F.POL_SEQ_epoch (1 : Port)) 7).modMsg (1 : Port) fun x => { x with phase := .awaiting, current := some (aMsg State.reset : Msg) }), (1 : Port), (aMsg State.reset : Msg), by decide⟩

theorem witness_MessageLosses_5 : ∃ (s : State) (n : Port),
    2 ≤ (s.pol.get n).cableFails ∧
    (s.pol.get n).cableSeen = true ∧
    s.flag (F.POL_STATUS_vconn_src n) = true ∧
    (s.msg.get n).signal ≠ .hardReset ∧
    (s.msg.get n).phase ≠ .frame :=
  ⟨(((State.reset.modPol (1 : Port) fun p => { p with cableFails := 2, cableSeen := true }).set (F.POL_STATUS_vconn_src (1 : Port)) 1).modMsg (1 : Port) fun x => { x with phase := .awaiting, current := some (aMsg State.reset), signal := .empty }), (1 : Port), by decide⟩

theorem witness_MessageLosses_6 : ∃ (s : State) (n : Port) (m : Msg),
    2 ≤ (s.pol.get n).cableFails ∧
    (s.pol.get n).cableSeen = true ∧
    s.flag (F.POL_STATUS_vconn_src n) = true ∧
    (s.msg.get n).signal ≠ .hardReset ∧
    (s.msg.get n).phase = .frame ∧
    (s.msg.get n).current = some m ∧
    m.purpose = .chunkRequest :=
  ⟨(((State.reset.modPol (1 : Port) fun p => { p with cableFails := 2, cableSeen := true }).set (F.POL_STATUS_vconn_src (1 : Port)) 1).modMsg (1 : Port) fun x => { x with phase := .frame, current := some ({ aMsg State.reset with purpose := .chunkRequest } : Msg), signal := .empty }), (1 : Port), ({ aMsg State.reset with purpose := .chunkRequest } : Msg), by decide⟩

theorem witness_MessageLosses_7 : ∃ (s : State) (n : Port),
    s.running .cableReset n.val = true ∧
    s.flag (F.CC_STATUS_vconn_on n) = false ∧
    s.vconnAllowed n = true ∧
    s.higherHeld n = false ∧
    (s.cc.get n).detachTick ≠ some s.tbase.toNat ∧
    s.pinIso n (!s.bmcPin n) = false ∧
    s.inputFirst n 2 :=
  ⟨(noInputs ((vconnReady (1 : Port) State.reset).start .cableReset (1 : Port).val 1)), (1 : Port), by decide⟩

theorem witness_MessageLosses_8 : ∃ (s : State) (n : Port),
    (s.cc.get n).attached = true ∧
    s.inputFirst n 1 ∧
    s.running .noResponse n.val = false :=
  ⟨(noInputs (((attachedAs (1 : Port) 1 State.reset).setSeq (1 : Port) .idle).stop .noResponse (1 : Port).val)), (1 : Port), by decide⟩

theorem witness_MessageLosses_9 : ∃ (s : State) (n : Port),
    (s.cc.get n).attached = true ∧
    s.inputFirst n 1 ∧
    s.running .noResponse n.val = true ∧
    s.seqOf n = .hrSink ∧
    (s.pol.get n).hrKind = 1 :=
  ⟨(noInputs (((attachedAs (1 : Port) 1 State.reset).modPol (1 : Port) fun p => { p with seq := .hrSink, hrKind := 1 }).start .noResponse (1 : Port).val 9)), (1 : Port), by decide⟩

theorem witness_MessageLosses_10 : ∃ (s : State) (n : Port) (m : Msg),
    (s.msg.get n).phase = .chunkWait ∧
    (s.msg.get n).current = some m ∧
    m.purpose = .chunkRequest ∧
    m.sop = 0 :=
  ⟨(State.reset.modMsg (1 : Port) fun x => { x with phase := .chunkWait, current := some ({ aMsg State.reset with purpose := .chunkRequest } : Msg) }), (1 : Port), ({ aMsg State.reset with purpose := .chunkRequest } : Msg), by decide⟩

theorem witness_MessageLosses_11 : ∃ (s : State) (n : Port),
    (s.msg.get n).assembly ≠ none :=
  ⟨(State.reset.modMsg (1 : Port) fun x => { x with assembly := some (aMsg State.reset) }), (1 : Port), by decide⟩

theorem witness_FrameReception_1 : ∃ (s : State) (n : Port) (f : Frame),
    (s.cc.get n).attached = true ∧
    s.pinIso n (s.bmcPin n) = false ∧
    f.ticks * 2 * 300 = 126 * s.tickKhz ∧
    f.good = false ∧
    0 < f.ticks ∧
    (s.msg.get n).signal = .empty :=
  ⟨(((attachedAs (1 : Port) 1 State.reset).set F.TB_STATUS_ref_src 0 |>.set F.TB_CONFIG_ref_khz 24000).modMsg (1 : Port) fun x => { x with signal := .empty }), (1 : Port), ({ sop := 0, good := false, header := 0x01A3, data := [], ticks := 5040 } : Frame), by decide⟩

theorem witness_FrameReception_2 : ∃ (s : State) (n : Port) (f : Frame),
    (s.cc.get n).attached = true ∧
    s.pinIso n (s.bmcPin n) = false ∧
    f.ticks * 2 * 300 = 126 * s.tickKhz ∧
    f.good = true ∧
    0 < f.ticks ∧
    3 ≤ f.sop.val ∧
    (s.msg.get n).signal = .empty :=
  ⟨(((attachedAs (1 : Port) 1 State.reset).set F.TB_STATUS_ref_src 0 |>.set F.TB_CONFIG_ref_khz 24000).modMsg (1 : Port) fun x => { x with signal := .empty }), (1 : Port), ({ sop := 3, good := true, header := 0x01A3, data := [], ticks := 5040 } : Frame), by decide⟩

theorem witness_FrameReception_3 : ∃ (s : State) (n : Port) (f : Frame),
    (s.cc.get n).attached = true ∧
    s.pinIso n (s.bmcPin n) = false ∧
    f.ticks * 2 * 300 = 126 * s.tickKhz ∧
    f.good = true ∧
    0 < f.ticks ∧
    f.sop = 0 ∧
    f.header = 0x0183#16 ∧
    (s.msg.get n).signal = .empty ∧
    (s.msg.get n).phase = .idle ∧
    (s.msg.get n).rxId.get 0 ≠ 0 ∧
    s.sharedOk n = true :=
  ⟨(roomy (1 : Port) (((attachedAs (1 : Port) 1 State.reset).set F.TB_STATUS_ref_src 0 |>.set F.TB_CONFIG_ref_khz 24000).modMsg (1 : Port) fun x => { x with signal := .empty, phase := .idle, rxId := Vector.replicate 3 8 })), (1 : Port), ({ sop := 0, good := true, header := 0x0183, data := [], ticks := 5040 } : Frame), by decide⟩

theorem witness_FrameReception_4 : ∃ (s : State) (n : Port) (f : Frame),
    (s.cc.get n).attached = true ∧
    s.pinIso n (s.bmcPin n) = false ∧
    f.ticks * 2 * 300 = 126 * s.tickKhz ∧
    f.good = true ∧
    0 < f.ticks ∧
    f.sop = 0 ∧
    f.header = 0x0183#16 ∧
    (s.msg.get n).signal = .empty ∧
    (s.msg.get n).rxId.get 0 = 0 :=
  ⟨(((attachedAs (1 : Port) 1 State.reset).set F.TB_STATUS_ref_src 0 |>.set F.TB_CONFIG_ref_khz 24000).modMsg (1 : Port) fun x => { x with signal := .empty, rxId := Vector.replicate 3 0 }), (1 : Port), ({ sop := 0, good := true, header := 0x0183, data := [], ticks := 5040 } : Frame), by decide⟩

theorem witness_FrameReception_5 : ∃ (s : State) (n : Port) (f : Frame) (m : Msg),
    (s.cc.get n).attached = true ∧
    s.pinIso n (s.bmcPin n) = false ∧
    f.ticks * 2 * 300 = 126 * s.tickKhz ∧
    f.good = true ∧
    0 < f.ticks ∧
    f.sop = 0 ∧
    f.header = 0x0181#16 ∧
    (s.msg.get n).signal = .empty ∧
    (s.msg.get n).phase = .awaiting ∧
    (s.msg.get n).current = some m ∧
    m.sop = 0 ∧
    m.purpose = .plain ∧
    m.header < 32768 ∧
    (s.msg.get n).txId.get 0 = 0 :=
  ⟨(((attachedAs (1 : Port) 1 State.reset).set F.TB_STATUS_ref_src 0 |>.set F.TB_CONFIG_ref_khz 24000).modMsg (1 : Port) fun x => { x with signal := .empty, txId := Vector.replicate 3 0, phase := .awaiting, current := some (aMsg State.reset : Msg) }), (1 : Port), ({ sop := 0, good := true, header := 0x0181, data := [], ticks := 5040 } : Frame), (aMsg State.reset : Msg), by decide⟩

theorem witness_PolicyInputs_1 : ∃ (s : State) (h : Hth) (n : Port),
    s.inputs = [{ tick := s.tbase.toNat, port := n, kind := .detach }] ∧
    s.driver n = h ∧
    s.get (F.POL_STATUS_typec n) ≠ 0 ∧
    s.flag (F.FND_STATUS_dschg n) = false :=
  ⟨({ ((State.reset.set (F.POL_STATUS_typec (2 : Port)) 5).set (F.FND_STATUS_dschg (2 : Port)) 0) with inputs := [{ tick := State.reset.tbase.toNat, port := (2 : Port), kind := .detach }] }), ((State.reset.driver 2) : Hth), (2 : Port), by decide⟩

theorem witness_PolicyInputs_2 : ∃ (s : State) (n : Port) (m : Msg) (c : Contract),
    s.onlyMsg n m ∧
    m.header = 0x1082 ∧
    (s.pol.get n).offered = true ∧
    checkRequest (s.offerRegs n) (m.words.head?.getD 0) = some c ∧
    c.mw ≤ s.get (F.POL_BUDGET_pc n) * 100 ∧
    s.tracking n = false ∧
    s.inSwap n = false ∧
    s.noClause n 5 :=
  ⟨(withMsg (1 : Port) ({ aMsg State.reset with header := 0x1082, data := wordsBytes [0x10019064#32] } : Msg) (noLex ((((State.reset.set (F.POL_OFFER_pdo (1 : Port) 0) (pdoFixed 50 3000)).set (F.POL_BUDGET_pc (1 : Port)) 150).modPol (1 : Port) fun p => { p with offered := true, seq := .idle }).modThn (1 : Port) fun x => { x with terms := none }))), (1 : Port), ({ aMsg State.reset with header := 0x1082, data := wordsBytes [0x10019064#32] } : Msg), ({ pos := 1, kind := 1, epr := false, mv := 5000, ma := 1000, lo := 5000, hi := 5000, pdp := 0 } : Contract), by decide⟩

theorem witness_PolicyInputs_3 : ∃ (s : State) (n : Port) (m : Msg),
    s.onlyMsg n m ∧
    m.header = 0x1082 ∧
    (s.pol.get n).offered = true ∧
    checkRequest (s.offerRegs n) (m.words.head?.getD 0) = none ∧
    s.loadPolicy n = false ∧
    s.inSwap n = false :=
  ⟨(withMsg (1 : Port) ({ aMsg State.reset with header := 0x1082, data := wordsBytes [0x10019064#32] } : Msg) (noLex (((State.reset.set (F.POL_OFFER_pdo (1 : Port) 0) 0)).modPol (1 : Port) fun p => { p with offered := true, seq := .idle }))), (1 : Port), ({ aMsg State.reset with header := 0x1082, data := wordsBytes [0x10019064#32] } : Msg), by decide⟩

theorem witness_PolicyInputs_4 : ∃ (s : State) (n : Port) (m : Msg) (w : Word),
    s.onlyMsg n m ∧
    m.header = 0x1081 ∧
    m.words = [w] ∧
    s.sourcing n = false ∧
    s.inEpr n = false :=
  ⟨(withMsg (1 : Port) ({ aMsg State.reset with header := 0x1081, data := wordsBytes [0x0A01912C#32] } : Msg) ((noLex (asSink (1 : Port) (State.reset.modPol (1 : Port) fun p => { p with seq := .idle }))))), (1 : Port), ({ aMsg State.reset with header := 0x1081, data := wordsBytes [0x0A01912C#32] } : Msg), (0x0A01912C#32 : Word), by decide⟩

theorem witness_PolicyInputs_5 : ∃ (s : State) (n : Port) (m : Msg),
    s.onlyMsg n m ∧
    m.header = 0x108A ∧
    m.words = [0x01000000] ∧
    s.sourcing n = true ∧
    (s.pol.get n).cableEpr = true ∧
    (s.pol.get n).partnerEpr = true ∧
    s.flag (F.POL_STATUS_vconn_src n) = true ∧
    s.soleClause n 4 0x10 ∧
    ((s.clausesAt n 4).all fun c => (templateOf (clauseOperand c)).kind = 1) = true ∧
    s.soleClause n 11 0x18 :=
  ⟨(withMsg (1 : Port) ({ aMsg State.reset with header := 0x108A, data := wordsBytes [0x01000000#32] } : Msg) (lexOf [lexClause 4 0x10 (2 ^ 21 + 280 * 4096), lexClause 11 0x18 0] (asSource (1 : Port) ((State.reset.modPol (1 : Port) fun p => { p with seq := .idle, cableEpr := true, partnerEpr := true }).set (F.POL_STATUS_vconn_src (1 : Port)) 1)))), (1 : Port), ({ aMsg State.reset with header := 0x108A, data := wordsBytes [0x01000000#32] } : Msg), by decide⟩

theorem witness_PolicyInputs_6 : ∃ (s : State) (n : Port) (m : Msg),
    s.onlyMsg n m ∧
    m.header = 0x0082 + 8 ∧
    s.inEpr n = false ∧
    s.sourcing n = true ∧
    s.flag (F.CC_CONFIG_src_only n) = false ∧
    s.soleClause n 8 0x18 :=
  ⟨(withMsg (1 : Port) ({ aMsg State.reset with header := 0x008A } : Msg) (lexOf [lexClause 8 0x18 0] (asSource (1 : Port) (State.reset.modPol (1 : Port) fun p => { p with seq := .idle })))), (1 : Port), ({ aMsg State.reset with header := 0x008A } : Msg), by decide⟩

theorem witness_PolicyInputs_7 : ∃ (s : State) (n : Port) (m : Msg),
    s.onlyMsg n m ∧
    m.header = 0x008A ∧
    s.inEpr n = false ∧
    s.sourcing n = true ∧
    s.flag (F.CC_CONFIG_src_only n) = false ∧
    s.noClause n 8 :=
  ⟨(withMsg (1 : Port) ({ aMsg State.reset with header := 0x008A } : Msg) (noLex (asSource (1 : Port) (State.reset.modPol (1 : Port) fun p => { p with seq := .idle })))), (1 : Port), ({ aMsg State.reset with header := 0x008A } : Msg), by decide⟩

theorem witness_PolicyInputs_8 : ∃ (s : State) (n : Port) (m : Msg),
    s.onlyMsg n m ∧
    m.header = 0x0089 ∧
    s.modeEntered n = false ∧
    s.soleClause n 9 0x18 :=
  ⟨(withMsg (1 : Port) ({ aMsg State.reset with header := 0x0089 } : Msg) (lexOf [lexClause 9 0x18 0] (noModes (1 : Port) (State.reset.modPol (1 : Port) fun p => { p with seq := .idle })))), (1 : Port), ({ aMsg State.reset with header := 0x0089 } : Msg), by decide⟩

theorem witness_PolicyInputs_9 : ∃ (s : State) (n : Port) (m : Msg),
    s.onlyMsg n m ∧
    m.header = 0x0089 ∧
    s.modeEntered n = true :=
  ⟨(withMsg (1 : Port) ({ aMsg State.reset with header := 0x0089 } : Msg) ((State.reset.modPol (1 : Port) fun p => { p with seq := .idle }).set (F.VDM_STATUS_thatin (1 : Port)) 2 |>.setBit F.THN_STATUS_entered (1 : Port).val true)), (1 : Port), ({ aMsg State.reset with header := 0x0089 } : Msg), by decide⟩

theorem witness_PolicyInputs_10 : ∃ (s : State) (n : Port) (m : Msg),
    s.onlyMsg n m ∧
    m.header = 0x008B ∧
    s.flag (F.POL_STATUS_vconn_src n) = true ∧
    s.soleClause n 10 0x18 :=
  ⟨(withMsg (1 : Port) ({ aMsg State.reset with header := 0x008B } : Msg) (lexOf [lexClause 10 0x18 0] ((State.reset.modPol (1 : Port) fun p => { p with seq := .idle }).set (F.POL_STATUS_vconn_src (1 : Port)) 1))), (1 : Port), ({ aMsg State.reset with header := 0x008B } : Msg), by decide⟩

theorem witness_PolicyInputs_11 : ∃ (s : State) (n : Port) (m : Msg),
    s.onlyMsg n m ∧
    m.header = 0x009F ∧
    s.pd2 n = false ∧
    s.noClause n 15 :=
  ⟨(withMsg (1 : Port) ({ aMsg State.reset with header := 0x009F } : Msg) (noLex ((State.reset.modPol (1 : Port) fun p => { p with seq := .idle }).set (F.MSG_STATUS_rev_sop (1 : Port)) 2))), (1 : Port), ({ aMsg State.reset with header := 0x009F } : Msg), by decide⟩

theorem witness_PolicyTimers_1 : ∃ (s : State) (n : Port),
    s.running .sourceCap n.val = true ∧
    s.sourcing n = true ∧
    s.inputFirst n 2 :=
  ⟨(noInputs ((asSource (1 : Port) (State.reset.set (F.POL_STATUS_epr_mode (1 : Port)) 0)).start .sourceCap (1 : Port).val 4)), (1 : Port), by decide⟩

theorem witness_PolicyTimers_2 : ∃ (s : State) (n : Port),
    s.running .senderResponse n.val = true ∧
    s.seqOf n = .asked ∧
    s.noClause n 13 ∧
    (s.pol.get n).hardResets < 2 ∧
    s.inputFirst n 2 :=
  ⟨(noInputs ((noLex (State.reset.modPol (1 : Port) fun p => { p with seq := .asked, hardResets := 1 })).start .senderResponse (1 : Port).val 4)), (1 : Port), by decide⟩

theorem witness_PolicyTimers_3 : ∃ (s : State) (n : Port),
    s.running .noResponse n.val = true ∧
    s.soleClause n 13 0x2A ∧
    s.inputFirst n 2 :=
  ⟨(noInputs ((lexOf [lexClause 13 0x2A 0] State.reset).start .noResponse (1 : Port).val 4)), (1 : Port), by decide⟩

theorem witness_PolicyTimers_4 : ∃ (s : State) (n : Port),
    s.running .sinkWaitCap n.val = true ∧
    s.noClause n 13 ∧
    (s.pol.get n).hardResets < 2 ∧
    s.inputFirst n 2 :=
  ⟨(noInputs ((noLex (State.reset.modPol (1 : Port) fun p => { p with hardResets := 1 })).start .sinkWaitCap (1 : Port).val 4)), (1 : Port), by decide⟩

theorem witness_PolicyTimers_5 : ∃ (s : State) (n : Port),
    s.running .keepAlive n.val = true ∧
    s.sourcing n = false ∧
    s.inEpr n = true ∧
    s.flag (F.POL_STATUS_ams n) = false ∧
    s.inputFirst n 2 :=
  ⟨(noInputs ((asSink (1 : Port) ((State.reset.set (F.POL_STATUS_epr_mode (1 : Port)) 1).set (F.POL_STATUS_ams (1 : Port)) 0)).start .keepAlive (1 : Port).val 4)), (1 : Port), by decide⟩

theorem witness_PolicyTimers_6 : ∃ (s : State) (n : Port) (c : Contract),
    s.running .reRequest n.val = true ∧
    s.flag (F.POL_STATUS_ams n) = false ∧
    s.sourcing n = false ∧
    s.inEpr n = false ∧
    (s.pol.get n).cur = some c ∧
    s.inputFirst n 2 :=
  ⟨(noInputs (((asSink (1 : Port) (State.reset.set (F.POL_STATUS_epr_mode (1 : Port)) 0)).set (F.POL_STATUS_ams (1 : Port)) 0 |>.modPol (1 : Port) fun p => { p with cur := some ({ pos := 1, kind := 2, epr := false, mv := 5000, ma := 1000, lo := 3300, hi := 5900, pdp := 0 } : Contract) }).start .reRequest (1 : Port).val 4)), (1 : Port), ({ pos := 1, kind := 2, epr := false, mv := 5000, ma := 1000, lo := 3300, hi := 5900, pdp := 0 } : Contract), by decide⟩

theorem witness_PolicyTimers_7 : ∃ (s : State) (n : Port),
    s.running .pps n.val = true ∧
    s.inputFirst n 2 :=
  ⟨(noInputs (State.reset.start .pps (1 : Port).val 4)), (1 : Port), by decide⟩

theorem witness_PolicyTimers_8 : ∃ (s : State) (n : Port),
    s.sourcing n = true ∧
    (s.pol.get n).offered = true ∧
    s.loadPolicy n = false ∧
    (s.pol.get n).draft = none ∧
    (s.pol.get n).cur = none ∧
    s.sameOffer n (s.buildDraft n).1 = false ∧
    (s.thn.get n).terms = none ∧
    s.running .draftGap n.val = true ∧
    s.inputFirst n 3 :=
  ⟨(noInputs ((asSource (1 : Port) (noLex (((State.reset.set (F.POL_OFFER_pdo (1 : Port) 0) 77).modPol (1 : Port) fun p => { p with offered := true, draft := none, cur := none }).modThn (1 : Port) fun x => { x with terms := none }))).start .draftGap (1 : Port).val 7)), (1 : Port), by decide⟩

theorem witness_PolicyTimers_9 : ∃ (s : State) (n : Port) (d : Draft),
    (s.pol.get n).draft = some d ∧
    d.handed = false ∧
    s.flag (F.POL_STATUS_ams n) = false ∧
    d.epr = false ∧
    ((d.urgent = true ∨ (s.pol.get n).offered = true)) ∧
    s.seqOf n = .idle ∧
    s.inputFirst n 2 :=
  ⟨(noInputs (((State.reset.set (F.POL_STATUS_ams (1 : Port)) 0).modPol (1 : Port) fun p => { p with draft := some ({ objs := [0x0001912C#32], epoch := 0, epr := false, urgent := false, handed := false } : Draft), offered := true, seq := .idle }).start .draftGap (1 : Port).val 7)), (1 : Port), ({ objs := [0x0001912C#32], epoch := 0, epr := false, urgent := false, handed := false } : Draft), by decide⟩

theorem witness_PolicyTimers_10 : ∃ (s : State) (n : Port) (v : Word),
    50 ≤ bitsGet v 0 16 ∧
    bitsGet v 0 16 ≤ 10000 ∧
    s.pageAnswers (portPage n 2) = true :=
  ⟨(lit (State.reset)), (1 : Port), (100#32 : Word), by decide⟩

theorem witness_PolicyTimers_11 : ∃ (s : State) (n : Port) (v : Word),
    ((bitsGet v 0 16 < 50 ∧ bitsGet v 0 16 ≠ 0) ∨ 10000 < bitsGet v 0 16) ∧
    s.pageAnswers (portPage n 2) = true :=
  ⟨(lit (State.reset)), (1 : Port), (49#32 : Word), by decide⟩

theorem witness_PolicyCommands_1 : ∃ (s : State) (n : Port) (e : BitVec 8),
    s.cmdFree n e ∧
    s.sourcing n = true ∧
    s.seqOf n = .idle ∧
    (s.pol.get n).draft = none ∧
    s.sameOffer n (s.buildDraft n).1 = false :=
  ⟨(cmdReady (1 : Port) (5 : BitVec 8) (asSource (1 : Port) (noLex ((State.reset.set (F.POL_OFFER_pdo (1 : Port) 0) 77).modPol (1 : Port) fun p => { p with offered := true, draft := none, cur := none })))), (1 : Port), (5 : BitVec 8), by decide⟩

theorem witness_PolicyCommands_2 : ∃ (s : State) (n : Port) (e : BitVec 8),
    s.cmdFree n e ∧
    s.flag (F.POL_STATUS_explicit n) = true ∧
    s.inEpr n = false ∧
    s.flag (F.CC_CONFIG_src_only n) = false :=
  ⟨(((cmdReady (1 : Port) (5 : BitVec 8) State.reset).set (F.POL_STATUS_explicit (1 : Port)) 1).set (F.POL_STATUS_epr_mode (1 : Port)) 0 |>.set (F.CC_CONFIG_src_only (1 : Port)) 0), (1 : Port), (5 : BitVec 8), by decide⟩

theorem witness_PolicyCommands_3 : ∃ (s : State) (n : Port) (e : BitVec 8),
    s.cmdFree n e ∧
    s.flag (F.POL_STATUS_explicit n) = true :=
  ⟨(((cmdReady (1 : Port) (5 : BitVec 8) State.reset).set (F.POL_STATUS_explicit (1 : Port)) 1)), (1 : Port), (5 : BitVec 8), by decide⟩

theorem witness_PolicyCommands_4 : ∃ (s : State) (n : Port) (e : BitVec 8),
    s.cmdFree n e ∧
    s.flag (F.POL_STATUS_explicit n) = true :=
  ⟨(((cmdReady (1 : Port) (5 : BitVec 8) State.reset).set (F.POL_STATUS_explicit (1 : Port)) 1)), (1 : Port), (5 : BitVec 8), by decide⟩

theorem witness_PolicyCommands_5 : ∃ (s : State) (n : Port) (e : BitVec 8),
    s.cmdFree n e ∧
    (s.cc.get n).attached = true ∧
    (s.pol.get n).safeHeld = false ∧
    s.flag (F.POL_STATUS_pd_partner n) = true :=
  ⟨(((cmdReady (1 : Port) (5 : BitVec 8) State.reset).set (F.POL_STATUS_pd_partner (1 : Port)) 1)), (1 : Port), (5 : BitVec 8), by decide⟩

theorem witness_PolicyCommands_6 : ∃ (s : State) (n : Port) (e : BitVec 8),
    s.cmdFree n e ∧
    (s.cc.get n).attached = true ∧
    (s.pol.get n).safeHeld = false ∧
    s.flag (F.POL_STATUS_pd_partner n) = true :=
  ⟨(((cmdReady (1 : Port) (5 : BitVec 8) State.reset).set (F.POL_STATUS_pd_partner (1 : Port)) 1)), (1 : Port), (5 : BitVec 8), by decide⟩

theorem witness_PolicyCommands_7 : ∃ (s : State) (n : Port) (e : BitVec 8),
    s.cmdFree n e ∧
    s.flag (F.POL_STATUS_explicit n) = true ∧
    s.sourcing n = false ∧
    s.inEpr n = false :=
  ⟨((asSink (1 : Port) ((cmdReady (1 : Port) (5 : BitVec 8) State.reset).set (F.POL_STATUS_explicit (1 : Port)) 1)).set (F.POL_STATUS_epr_mode (1 : Port)) 0), (1 : Port), (5 : BitVec 8), by decide⟩

theorem witness_PolicyCommands_8 : ∃ (s : State) (n : Port) (e : BitVec 8),
    s.cmdFree n e ∧
    s.inEpr n = true :=
  ⟨((cmdReady (1 : Port) (5 : BitVec 8) State.reset).set (F.POL_STATUS_epr_mode (1 : Port)) 1), (1 : Port), (5 : BitVec 8), by decide⟩

theorem witness_PolicyCommands_9 : ∃ (s : State) (n : Port) (e : BitVec 8),
    s.cmdFree n e ∧
    (s.cc.get n).attached = true ∧
    (s.pol.get n).safeHeld = false ∧
    s.flag (F.POL_STATUS_pd_partner n) = true ∧
    s.inTransition n = false :=
  ⟨((cmdReady (1 : Port) (5 : BitVec 8) State.reset).set (F.POL_STATUS_pd_partner (1 : Port)) 1), (1 : Port), (5 : BitVec 8), by decide⟩

theorem witness_PolicyCommands_10 : ∃ (s : State) (n : Port) (e : BitVec 8),
    s.cmdFree n e ∧
    (s.cc.get n).attached = true ∧
    (s.pol.get n).safeHeld = false :=
  ⟨(cmdReady (1 : Port) (5 : BitVec 8) State.reset), (1 : Port), (5 : BitVec 8), by decide⟩

theorem witness_PolicyCommands_11 : ∃ (s : State) (n : Port) (e : BitVec 8),
    s.cmdFree n e ∧
    (s.cc.get n).attached = true ∧
    (s.pol.get n).safeHeld = false :=
  ⟨(cmdReady (1 : Port) (5 : BitVec 8) State.reset), (1 : Port), (5 : BitVec 8), by decide⟩

theorem witness_PolicyCommands_12 : ∃ (s : State) (n : Port) (e : BitVec 8),
    s.pageAnswers (portPage n 2) = true ∧
    s.inputFirst n 4 ∧
    e.toNat = s.get (F.POL_SEQ_epoch n) ∧
    s.flag (F.POL_STATUS_cmd_held n) = false :=
  ⟨(cmdReady (1 : Port) (5 : BitVec 8) State.reset), (1 : Port), (5 : BitVec 8), by decide⟩

theorem witness_PolicyCommands_13 : ∃ (s : State) (n : Port) (e : BitVec 8),
    s.cmdFree n e ∧
    s.get (F.POL_STATUS_typec n) = 0 ∧
    s.portFenced n = false ∧
    (s.pol.get n).safeHeld = false :=
  ⟨(noRecords ((cmdReady (1 : Port) (5 : BitVec 8) State.reset).set (F.POL_STATUS_typec (1 : Port)) 0)), (1 : Port), (5 : BitVec 8), by decide⟩

theorem witness_PolicyCommands_14 : ∃ (s : State) (n : Port) (e : BitVec 8) (arg : BitVec 16),
    s.cmdFree n e ∧
    s.get (F.POL_STATUS_typec n) = 0 ∧
    s.portFenced n = false ∧
    s.higherHeld n = false :=
  ⟨(noRecords (((cmdReady (1 : Port) (5 : BitVec 8) State.reset).set (F.POL_STATUS_typec (1 : Port)) 0).set F.FLU_STATUS_l3 0)), (1 : Port), (5 : BitVec 8), (1 : BitVec 16), by decide⟩

theorem witness_PolicyCommands_15 : ∃ (s : State) (n : Port),
    s.flag (F.POL_STATUS_cmd_held n) = true ∧
    s.flag (F.POL_STATUS_ams n) = false ∧
    s.get (F.POL_CMD_STATUS_cmd n) = 10 ∧
    s.get (F.POL_CMD_STATUS_epoch n) = s.get (F.POL_SEQ_epoch n) ∧
    (s.cc.get n).attached = true ∧
    (s.pol.get n).safeHeld = false ∧
    s.resetting n = false ∧
    s.inputFirst n 4 :=
  ⟨((((cmdReady (1 : Port) 5 State.reset).set (F.POL_STATUS_cmd_held (1 : Port)) 1).set (F.POL_CMD_STATUS_cmd (1 : Port)) 10).set (F.POL_CMD_STATUS_epoch (1 : Port)) 5), (1 : Port), by decide⟩

theorem witness_PolicyCommands_16 : ∃ (s : State) (n : Port) (e : BitVec 8) (c : Instr),
    e.toNat ≠ s.get (F.POL_SEQ_epoch n) ∧
    c ∈ [Instr.cmdSendCaps n e, .cmdPrSwap n e, .cmdDrSwap n e, .cmdVconnSwap n e, .cmdGetSinkCap n e, .cmdGetSourceCap n e, .cmdEprEntry n e,
      .cmdEprExit n e, .cmdSoftReset n e, .cmdHardReset n e, .cmdErrorRecovery n e, .cmdDisablePort n e, .cmdEnablePort n e, .cmdProductionTest n e 0]
      ∧
    s.pageAnswers (portPage n 2) = true ∧
    s.inputFirst n 4 :=
  ⟨(lit (noInputs (State.reset.set (F.POL_SEQ_epoch (1 : Port)) 4))), (1 : Port), (5 : BitVec 8), ((.cmdHardReset 1 5) : Instr), by decide⟩

theorem witness_LexiconLoads_1 : ∃ (s : State),
    s.get F.LEX_KEY_key = 0x4C ∧
    s.get F.LEX_STATUS_state = 0 ∧
    s.pageAnswers 0x10 = true :=
  ⟨(lit ((State.reset.set F.LEX_STATUS_state 0).set F.LEX_KEY_key 0x4C)), by decide⟩

theorem witness_LexiconLoads_2 : ∃ (s : State),
    s.get F.LEX_KEY_key ≠ 0x4C ∧
    s.pageAnswers 0x10 = true :=
  ⟨(lit (State.reset.set F.LEX_KEY_key 0)), by decide⟩

theorem witness_LexiconLoads_3 : ∃ (s : State) (e : Entry64),
    s.get F.LEX_STATUS_state = 1 ∧
    s.pageAnswers 0x10 = true :=
  ⟨(lit (State.reset.set F.LEX_STATUS_state 1)), (5 : Entry64), by decide⟩

theorem witness_LexiconLoads_4 : ∃ (s : State) (e : Entry64),
    s.get F.LEX_STATUS_state ≠ 1 ∧
    s.pageAnswers 0x10 = true :=
  ⟨(lit (State.reset.set F.LEX_STATUS_state 0)), (5 : Entry64), by decide⟩

theorem witness_LexiconLoads_5 : ∃ (s : State),
    s.pageAnswers 0x10 = true :=
  ⟨(lit (State.reset)), by decide⟩

theorem witness_LexiconLoads_6 : ∃ (s : State),
    s.get F.LEX_STATUS_state = 1 ∧
    s.pageAnswers 0x10 = true :=
  ⟨(lit (State.reset.set F.LEX_STATUS_state 1)), by decide⟩

theorem witness_LexiconLoads_7 : ∃ (s : State),
    s.get F.LEX_STATUS_state = 2 ∧
    imageCheck false (s.get F.THN_SVID_svid) (s.tabHeader false) (sparseRead (fun _ => 0) (s.hearthOf s.devHearth).lex) = .passed :=
  ⟨(goodImage State.reset), by decide⟩

theorem witness_LexiconLoads_8 : ∃ (s : State) (reason : Nat) (index : Nat),
    s.get F.LEX_STATUS_state = 2 ∧
    imageCheck false (s.get F.THN_SVID_svid) (s.tabHeader false) (sparseRead (fun _ => 0) (s.hearthOf s.devHearth).lex) = .refused reason index :=
  ⟨((State.reset.set (F.LEX_IMG_HDR_hdr 0) 0).set F.LEX_STATUS_state 2), (1 : Nat), (0 : Nat), by decide⟩

theorem witness_LexiconLoads_9 : ∃ (s : State),
    s.get F.LEX_STATUS_state ≠ 0 ∧
    s.lexSeedCount = 0 ∧
    s.pageAnswers 0x10 = true :=
  ⟨(lit (blankSeed (State.reset.set F.LEX_STATUS_state 1))), by decide⟩

theorem witness_LexiconLoads_10 : ∃ (s : State),
    s.get F.LEX_KEY_key = 0x4C ∧
    s.lexSeedCount = 0 ∧
    s.pageAnswers 0x10 = true :=
  ⟨(lit (blankSeed (State.reset.set F.LEX_KEY_key 0x4C))), by decide⟩

theorem witness_PhrasebookLoads_1 : ∃ (s : State),
    s.get F.PHB_KEY_key = 0x50 ∧
    s.get F.PHB_STATUS_state = 0 ∧
    s.pageAnswers 0x11 = true :=
  ⟨(lit ((State.reset.set F.PHB_STATUS_state 0).set F.PHB_KEY_key 0x50)), by decide⟩

theorem witness_PhrasebookLoads_2 : ∃ (s : State),
    s.get F.PHB_KEY_key ≠ 0x50 ∧
    s.pageAnswers 0x11 = true :=
  ⟨(lit (State.reset.set F.PHB_KEY_key 0)), by decide⟩

theorem witness_PhrasebookLoads_3 : ∃ (s : State) (e : Entry64),
    s.get F.PHB_STATUS_state = 1 ∧
    s.pageAnswers 0x11 = true :=
  ⟨(lit (State.reset.set F.PHB_STATUS_state 1)), (5 : Entry64), by decide⟩

theorem witness_PhrasebookLoads_4 : ∃ (s : State) (e : Entry64),
    s.get F.PHB_STATUS_state ≠ 1 ∧
    s.pageAnswers 0x11 = true :=
  ⟨(lit (State.reset.set F.PHB_STATUS_state 0)), (5 : Entry64), by decide⟩

theorem witness_PhrasebookLoads_5 : ∃ (s : State),
    s.get F.PHB_STATUS_state = 1 ∧
    imageCheck true (s.get F.THN_SVID_svid) (s.tabHeader true) (sparseRead (fun _ => 0) (s.hearthOf s.devHearth).phb) = .passed ∧
    s.pageAnswers 0x11 = true :=
  ⟨(lit (goodPhb State.reset)), by decide⟩

theorem witness_PhrasebookLoads_6 : ∃ (s : State),
    s.get F.PHB_STATUS_state ≠ 0 ∧
    s.phbSeedCount = 0 ∧
    s.pageAnswers 0x11 = true :=
  ⟨(lit (blankSeed (State.reset.set F.PHB_STATUS_state 1))), by decide⟩

theorem witness_PhrasebookLoads_7 : ∃ (s : State),
    s.get F.PHB_KEY_key = 0x50 ∧
    s.phbSeedCount = 0 ∧
    s.pageAnswers 0x11 = true :=
  ⟨(lit (blankSeed (State.reset.set F.PHB_KEY_key 0x50))), by decide⟩

theorem witness_Transitions_1 : ∃ (s : State) (n : Port),
    s.running .srcTransition n.val = true ∧
    s.seqOf n = .hold ∧
    s.inputFirst n 2 :=
  ⟨(noInputs ((State.reset.modPol (1 : Port) fun p => { p with seq := .hold }).start .srcTransition (1 : Port).val 3)), (1 : Port), by decide⟩

theorem witness_Transitions_2 : ∃ (s : State) (n : Port),
    s.seqOf n = .ramp ∧
    s.inputFirst n 0 :=
  ⟨(noInputs (State.reset.modPol (1 : Port) fun p => { p with seq := .ramp })), (1 : Port), by decide⟩

theorem witness_Transitions_3 : ∃ (s : State) (n : Port),
    s.running .psTransition n.val = true ∧
    s.seqOf n = .ramp ∧
    s.flue.broken = [] ∧
    s.inputFirst n 2 :=
  ⟨(noInputs ({ ((State.reset.modPol (1 : Port) fun p => { p with seq := .ramp }).start .psTransition (1 : Port).val 3) with flue := { State.reset.flue with broken := [] } })), (1 : Port), by decide⟩

theorem witness_Transitions_4 : ∃ (s : State) (n : Port),
    (s.seqOf n = .prDescent ∨ s.seqOf n = .hrDescent) ∧
    ((s.get (F.STG_STATUS_state n) = 2 ∧ s.get (F.FND_STATUS_state n) = 3)) ∧
    s.inputFirst n 0 :=
  ⟨(noInputs (((State.reset.modPol (1 : Port) fun p => { p with seq := .hrDescent }).set (F.STG_STATUS_state (1 : Port)) 2).set (F.FND_STATUS_state (1 : Port)) 3)), (1 : Port), by decide⟩

theorem witness_Transitions_5 : ∃ (s : State) (n : Port),
    s.seqOf n = .prDescent ∧
    s.inputFirst n 0 :=
  ⟨(noInputs (State.reset.modPol (1 : Port) fun p => { p with seq := .prDescent })), (1 : Port), by decide⟩

theorem witness_Transitions_6 : ∃ (s : State) (n : Port),
    s.seqOf n = .hrDescent ∧
    s.inputFirst n 0 :=
  ⟨(noInputs (State.reset.modPol (1 : Port) fun p => { p with seq := .hrDescent })), (1 : Port), by decide⟩

theorem witness_Transitions_7 : ∃ (s : State) (n : Port),
    s.sourcing n = true ∧
    s.seqOf n = .ramp ∧
    s.inputFirst n 0 :=
  ⟨(noInputs (asSource (1 : Port) (State.reset.modPol (1 : Port) fun p => { p with seq := .ramp }))), (1 : Port), by decide⟩

theorem witness_Transitions_8 : ∃ (s : State) (n : Port),
    s.running .abortWait n.val = true ∧
    s.seqOf n = .aborted ∧
    s.inputFirst n 2 :=
  ⟨(noInputs ((State.reset.modPol (1 : Port) fun p => { p with seq := .aborted }).start .abortWait (1 : Port).val 3)), (1 : Port), by decide⟩

theorem witness_Swaps_1 : ∃ (s : State) (n : Port),
    s.running .swapPs n.val = true ∧
    s.inputFirst n 2 :=
  ⟨(noInputs (State.reset.start .swapPs (1 : Port).val 3)), (1 : Port), by decide⟩

theorem witness_Swaps_2 : ∃ (s : State) (n : Port),
    s.seqOf n = .prWaitOff ∧
    (s.pol.get n).wait0V = true ∧
    s.inputFirst n 0 :=
  ⟨(noInputs (State.reset.modPol (1 : Port) fun p => { p with seq := .prWaitOff, wait0V := true })), (1 : Port), by decide⟩

theorem witness_Swaps_3 : ∃ (s : State) (n : Port),
    s.running .swapStart n.val = true ∧
    s.noClause n 3 ∧
    s.inputFirst n 2 :=
  ⟨(noInputs ((noLex State.reset).start .swapStart (1 : Port).val 3)), (1 : Port), by decide⟩

theorem witness_Swaps_4 : ∃ (s : State) (n : Port),
    (s.pol.get n).frsWanted = true ∧
    s.sinking n = true ∧
    s.get F.FED_STATUS_selected < 4 ∧
    0 < s.draught.reserve.get n ∧
    s.inputFirst n 0 :=
  ⟨(noInputs (frsReady (1 : Port) State.reset)), (1 : Port), by decide⟩

theorem witness_Swaps_5 : ∃ (s : State) (n : Port),
    (s.get F.FED_STATUS_selected = 4 ∨ s.draught.reserve.get n = 0) ∧
    s.inputFirst n 0 :=
  ⟨(noInputs ((frsReady (1 : Port) State.reset).set F.FED_STATUS_selected 4)), (1 : Port), by decide⟩

theorem witness_Swaps_6 : ∃ (s : State) (n : Port),
    (s.pol.get n).frsArmed = true ∧
    s.inputFirst n 0 :=
  ⟨(noInputs (State.reset.modPol (1 : Port) fun p => { p with frsArmed := true })), (1 : Port), by decide⟩

theorem witness_Swaps_7 : ∃ (s : State) (n : Port),
    s.seqOf n = .frSignal ∧
    (s.pol.get n).frsDue = true ∧
    s.get (F.STG_STATUS_state n) = 2 ∧
    s.inputFirst n 0 :=
  ⟨(noInputs ((State.reset.modPol (1 : Port) fun p => { p with seq := .frSignal, frsDue := true }).set (F.STG_STATUS_state (1 : Port)) 2)), (1 : Port), by decide⟩

theorem witness_Swaps_8 : ∃ (s : State) (n : Port),
    s.running .frsInit n.val = true ∧
    s.inputFirst n 2 :=
  ⟨(noInputs (State.reset.start .frsInit (1 : Port).val 3)), (1 : Port), by decide⟩

theorem witness_Swaps_9 : ∃ (s : State) (n : Port),
    s.running .vconnSwap n.val = true ∧
    s.inputFirst n 2 :=
  ⟨(noInputs (State.reset.start .vconnSwap (1 : Port).val 3)), (1 : Port), by decide⟩

theorem witness_Swaps_10 : ∃ (s : State) (n : Port),
    s.seqOf n = .vcnClose ∧
    s.inputFirst n 0 :=
  ⟨(noInputs (State.reset.modPol (1 : Port) fun p => { p with seq := .vcnClose })), (1 : Port), by decide⟩

theorem witness_HardResetAndRecovery_1 : ∃ (s : State) (n : Port),
    s.running .hardReset n.val = true ∧
    s.seqOf n = .hrHold ∧
    800 < s.vbusMv n ∧
    s.inputFirst n 2 :=
  ⟨(noInputs (((State.reset.modPol (1 : Port) fun p => { p with seq := .hrHold }).set (F.STG_ADC_LAST_vbus (1 : Port)) 1000).start .hardReset (1 : Port).val 3)), (1 : Port), by decide⟩

theorem witness_HardResetAndRecovery_2 : ∃ (s : State) (n : Port),
    s.running .hardReset n.val = true ∧
    s.seqOf n = .hrHold ∧
    s.vbusMv n ≤ 800 ∧
    s.inputFirst n 2 :=
  ⟨(noInputs (((State.reset.modPol (1 : Port) fun p => { p with seq := .hrHold }).set (F.STG_ADC_LAST_vbus (1 : Port)) 0).start .hardReset (1 : Port).val 3)), (1 : Port), by decide⟩

theorem witness_HardResetAndRecovery_3 : ∃ (s : State) (n : Port),
    s.running .srcRecover n.val = true ∧
    s.seqOf n = .hrRecover ∧
    s.inputFirst n 2 :=
  ⟨(noInputs ((State.reset.setSeq (1 : Port) .hrRecover).start .srcRecover (1 : Port).val 3)), (1 : Port), by decide⟩

theorem witness_HardResetAndRecovery_4 : ∃ (s : State) (n : Port),
    s.seqOf n = .hrRaise ∧
    s.noClause n 3 ∧
    s.inputFirst n 0 :=
  ⟨(noInputs (noLex (State.reset.modPol (1 : Port) fun p => { p with seq := .hrRaise }))), (1 : Port), by decide⟩

theorem witness_HardResetAndRecovery_5 : ∃ (s : State) (n : Port),
    s.flag (F.CC_STATUS_vbus_mask n) = true ∧
    s.seqOf n = .hrSink ∧
    (s.pol.get n).fell0V = true ∧
    s.flag (F.CC_STATUS_vbus_present n) = true ∧
    s.inputFirst n 0 :=
  ⟨(noInputs (((State.reset.modPol (1 : Port) fun p => { p with seq := .hrSink, fell0V := true }).set (F.CC_STATUS_vbus_mask (1 : Port)) 1).set (F.CC_STATUS_vbus_present (1 : Port)) 1)), (1 : Port), by decide⟩

theorem witness_HardResetAndRecovery_6 : ∃ (s : State) (n : Port),
    s.inputFirst n 0 :=
  ⟨(noInputs State.reset), (1 : Port), by decide⟩

theorem witness_HardResetAndRecovery_7 : ∃ (s : State) (n : Port),
    s.running .errorRecovery n.val = true ∧
    (s.pol.get n).wait0V = false ∧
    (s.pol.get n).safeHeld = false ∧
    s.inputFirst n 2 :=
  ⟨(noInputs ((State.reset.modPol (1 : Port) fun p => { p with wait0V := false, safeHeld := false }).start .errorRecovery (1 : Port).val 3)), (1 : Port), by decide⟩

theorem witness_VdmAnswers_1 : ∃ (s : State) (n : Port) (m : Msg),
    s.onlyMsg n m ∧
    m.isRequest = true ∧
    vdmCmd m.vdm ≠ 6 ∧
    s.phbBusy = true :=
  ⟨(withMsg (1 : Port) (vdmMsg State.reset 3 [0xFF008001#32] : Msg) (State.reset.set F.PHB_STATUS_state 1)), (1 : Port), (vdmMsg State.reset 3 [0xFF008001#32] : Msg), by decide⟩

theorem witness_VdmAnswers_2 : ∃ (s : State) (n : Port) (m : Msg),
    s.onlyMsg n m ∧
    m.isRequest = true ∧
    vdmCmd m.vdm = 1 ∧
    s.phbBusy = false ∧
    s.phbOf n = [] :=
  ⟨(withMsg (1 : Port) (vdmMsg State.reset 3 [0xFF008001#32] : Msg) (phbWith [] (State.reset.set F.PHB_STATUS_state 0))), (1 : Port), (vdmMsg State.reset 3 [0xFF008001#32] : Msg), by decide⟩

theorem witness_VdmAnswers_3 : ∃ (s : State) (n : Port) (m : Msg),
    s.onlyMsg n m ∧
    m.isRequest = true ∧
    vdmCmd m.vdm = 2 ∧
    s.phbBusy = false ∧
    s.svidsOf n ≠ [] :=
  ⟨(withMsg (1 : Port) (vdmMsg State.reset 3 [0xFF008002#32] : Msg) (phbWith [hostMode] (State.reset.set F.PHB_STATUS_state 0))), (1 : Port), (vdmMsg State.reset 3 [0xFF008002#32] : Msg), by decide⟩

theorem witness_VdmAnswers_4 : ∃ (s : State) (n : Port) (m : Msg),
    s.onlyMsg n m ∧
    m.isRequest = true ∧
    16 ≤ vdmCmd m.vdm ∧
    s.phbBusy = false ∧
    (s.hostSvids n).contains (vdmSvid m.vdm) = true ∧
    (s.modeEntry n (vdmSvid m.vdm) (vdmPos m.vdm)).isSome = true :=
  ⟨(withMsg (1 : Port) (vdmMsg State.reset 3 [0x12348110#32] : Msg) (phbWith [hostMode] (State.reset.set F.PHB_STATUS_state 0))), (1 : Port), (vdmMsg State.reset 3 [0x12348110#32] : Msg), by decide⟩

theorem witness_VdmAnswers_5 : ∃ (s : State) (n : Port) (h : Word),
    (s.vdm.get n).hostRequest = some h ∧
    s.inputFirst n 2 :=
  ⟨(noInputs (State.reset.modVdm (1 : Port) fun v => { v with hostRequest := some (0x12348010#32 : Word) })), (1 : Port), (0x12348010#32 : Word), by decide⟩

theorem witness_VdmAnswers_6 : ∃ (s : State) (n : Port) (a : VdmAsk),
    (s.vdm.get n).ask = some a ∧
    1 ≤ a.what ∧
    a.what ≤ 3 ∧
    s.noWaiters n ∧
    s.running .vdmResponse n.val = true ∧
    s.inputFirst n 2 :=
  ⟨(noInputs (((vdmReady (1 : Port) 3 State.reset).modVdm (1 : Port) fun v => { v with ask := some ({ what := 2, svid := 0xFF00, pos := 0 } : VdmAsk) }).start .vdmResponse (1 : Port).val 3)), (1 : Port), ({ what := 2, svid := 0xFF00, pos := 0 } : VdmAsk), by decide⟩

theorem witness_VdmAnswers_7 : ∃ (s : State) (n : Port) (a : VdmAsk),
    (s.vdm.get n).ask = some a ∧
    a.what = 8 ∧
    s.noWaiters n ∧
    s.running .vdmResponse n.val = true ∧
    s.inputFirst n 2 :=
  ⟨(noInputs (((vdmReady (1 : Port) 3 State.reset).modVdm (1 : Port) fun v => { v with ask := some ({ what := 8, svid := 0x1234, pos := 0 } : VdmAsk) }).start .vdmResponse (1 : Port).val 3)), (1 : Port), ({ what := 8, svid := 0x1234, pos := 0 } : VdmAsk), by decide⟩

theorem witness_VdmAnswers_8 : ∃ (s : State) (n : Port) (a : VdmAsk),
    (s.vdm.get n).ask = some a ∧
    s.running .vdmBusy n.val = true ∧
    s.phbBusy = false ∧
    s.inputFirst n 2 :=
  ⟨(noInputs (((State.reset.set F.PHB_STATUS_state 0).modVdm (1 : Port) fun v => { v with ask := some ({ what := 2, svid := 0xFF00, pos := 0 } : VdmAsk) }).start .vdmBusy (1 : Port).val 7)), (1 : Port), ({ what := 2, svid := 0xFF00, pos := 0 } : VdmAsk), by decide⟩

theorem witness_VdmAnswers_9 : ∃ (s : State) (n : Port) (m : Msg),
    s.onlyMsg n m ∧
    m.isSvdm = true ∧
    vdmType m.vdm = 1 ∧
    s.phbBusy = false ∧
    (s.pol.get n).draft = none ∧
    (s.pol.get n).todo = [] ∧
    (s.vdm.get n).ask = some { what := 1, svid := 0xFF00, pos := 0 } :=
  ⟨(withMsg (1 : Port) (vdmMsg State.reset 3 [0xFF008041#32, 0x12345678#32] : Msg) ((vdmReady (1 : Port) 3 State.reset).modVdm (1 : Port) fun v => { v with ask := some { what := 1, svid := 0xFF00, pos := 0 } })), (1 : Port), (vdmMsg State.reset 3 [0xFF008041#32, 0x12345678#32] : Msg), by decide⟩

theorem witness_VdmAnswers_10 : ∃ (s : State) (n : Port) (m : Msg),
    s.onlyMsg n m ∧
    m.isSvdm = true ∧
    vdmType m.vdm = 2 ∧
    s.noWaiters n ∧
    (s.vdm.get n).ask = some { what := 1, svid := 0xFF00, pos := 0 } :=
  ⟨(withMsg (1 : Port) (vdmMsg State.reset 3 [0xFF008081#32] : Msg) ((vdmReady (1 : Port) 3 State.reset).modVdm (1 : Port) fun v => { v with ask := some { what := 1, svid := 0xFF00, pos := 0 } })), (1 : Port), (vdmMsg State.reset 3 [0xFF008081#32] : Msg), by decide⟩

theorem witness_VdmAnswers_11 : ∃ (s : State) (n : Port),
    s.vdmFree n ∧
    s.flag (F.POL_STATUS_vconn_src n) = true :=
  ⟨((vdmReady (1 : Port) 3 State.reset).set (F.POL_STATUS_vconn_src (1 : Port)) 1), (1 : Port), by decide⟩

theorem witness_VdmAnswers_12 : ∃ (s : State) (n : Port),
    (s.vdm.get n).ask = none ∧
    s.flag (F.POL_STATUS_vconn_src n) = false :=
  ⟨((vdmReady (1 : Port) 3 State.reset).set (F.POL_STATUS_vconn_src (1 : Port)) 0), (1 : Port), by decide⟩

theorem witness_VdmCommands_1 : ∃ (s : State) (n : Port) (e : BitVec 8),
    e.toNat = s.get (F.POL_SEQ_epoch n) ∧
    s.vdmInitiator n = true ∧
    s.vdmFree n ∧
    s.pageAnswers (portPage n 3) = true ∧
    s.inputFirst n 4 :=
  ⟨(lit (noInputs (vdmReady (1 : Port) (9 : BitVec 8) State.reset))), (1 : Port), (9 : BitVec 8), by decide⟩

theorem witness_VdmCommands_2 : ∃ (s : State) (n : Port) (e : BitVec 8),
    e.toNat = s.get (F.POL_SEQ_epoch n) ∧
    s.vdmInitiator n = false ∧
    s.pageAnswers (portPage n 3) = true ∧
    s.inputFirst n 4 :=
  ⟨(lit (noInputs ((vdmReady (1 : Port) (9 : BitVec 8) State.reset).set (F.POL_STATUS_data_role (1 : Port)) 0))), (1 : Port), (9 : BitVec 8), by decide⟩

theorem witness_VdmCommands_3 : ∃ (s : State) (n : Port) (e : BitVec 8),
    e.toNat ≠ s.get (F.POL_SEQ_epoch n) ∧
    s.pageAnswers (portPage n 3) = true ∧
    s.inputFirst n 4 :=
  ⟨(lit (noInputs (vdmReady (1 : Port) 8 State.reset))), (1 : Port), (9 : BitVec 8), by decide⟩

theorem witness_VdmCommands_4 : ∃ (s : State) (n : Port) (e : BitVec 8) (arg : BitVec 16) (v : Nat),
    e.toNat = s.get (F.POL_SEQ_epoch n) ∧
    s.vdmInitiator n = true ∧
    s.vdmFree n ∧
    (s.hostSvids n)[arg.toNat % 16]? = some v ∧
    arg.toNat / 16 % 16 ≠ 0 ∧
    s.pageAnswers (portPage n 3) = true ∧
    s.inputFirst n 4 :=
  ⟨(lit (noInputs (phbWith [hostMode] (vdmReady (1 : Port) (9 : BitVec 8) State.reset)))), (1 : Port), (9 : BitVec 8), (0x10 : BitVec 16), (0x1234 : Nat), by decide⟩

theorem witness_VdmCommands_5 : ∃ (s : State) (n : Port) (e : BitVec 8) (arg : BitVec 16) (v : Nat),
    e.toNat = s.get (F.POL_SEQ_epoch n) ∧
    s.vdmInitiator n = true ∧
    s.vdmFree n ∧
    (s.hostSvids n)[arg.toNat % 16]? = some v ∧
    arg.toNat / 16 % 16 ≠ 0 ∧
    s.pageAnswers (portPage n 3) = true ∧
    s.inputFirst n 4 :=
  ⟨(lit (noInputs (phbWith [hostMode] (vdmReady (1 : Port) (9 : BitVec 8) State.reset)))), (1 : Port), (9 : BitVec 8), (0x10 : BitVec 16), (0x1234 : Nat), by decide⟩

theorem witness_VdmCommands_6 : ∃ (s : State) (n : Port) (e : BitVec 8) (arg : BitVec 16),
    e.toNat = s.get (F.POL_SEQ_epoch n) ∧
    s.flag (F.POL_STATUS_data_role n) = true ∧
    s.vdmFree n ∧
    (s.hostSvids n).contains (vdmSvid (s.get (F.VDM_TX_HDR_hdr n))) = true ∧
    vdmType (s.get (F.VDM_TX_HDR_hdr n)) = 0 ∧
    vdmCmd (s.get (F.VDM_TX_HDR_hdr n)) ≠ 6 ∧
    s.pageAnswers (portPage n 3) = true ∧
    s.inputFirst n 4 :=
  ⟨(lit (noInputs (phbWith [hostMode] ((vdmReady (1 : Port) (9 : BitVec 8) State.reset).set (F.VDM_TX_HDR_hdr (1 : Port)) 0x12348010)))), (1 : Port), (9 : BitVec 8), (2 : BitVec 16), by decide⟩

theorem witness_VdmCommands_7 : ∃ (s : State) (n : Port) (e : BitVec 8),
    e.toNat = s.get (F.POL_SEQ_epoch n) ∧
    s.vdmInitiator n = true ∧
    s.vdmFree n ∧
    s.bit F.THN_CONFIG_ports n.val = true ∧
    bitsGet (s.vdm.get n).foundVdo 28 4 = 1 ∧
    s.bit F.THN_STATUS_entered n.val = false ∧
    s.pageAnswers (portPage n 3) = true ∧
    s.inputFirst n 4 :=
  ⟨(lit (noInputs (((((vdmReady (1 : Port) (9 : BitVec 8) State.reset).setBit F.THN_CONFIG_ports (1 : Port).val true).setBit F.THN_STATUS_entered (1 : Port).val false).modVdm (1 : Port) fun v => { v with foundVdo := 0x11F20000#32 })))), (1 : Port), (9 : BitVec 8), by decide⟩

theorem witness_VdmCommands_8 : ∃ (s : State) (n : Port) (e : BitVec 8),
    e.toNat = s.get (F.POL_SEQ_epoch n) ∧
    s.vdmInitiator n = true ∧
    s.vdmFree n ∧
    s.bit F.THN_STATUS_entered n.val = true ∧
    s.pageAnswers (portPage n 3) = true ∧
    s.inputFirst n 4 :=
  ⟨(lit (noInputs (thatinOn (1 : Port) true (vdmReady (1 : Port) (9 : BitVec 8) State.reset)))), (1 : Port), (9 : BitVec 8), by decide⟩

theorem witness_VdmCommands_9 : ∃ (s : State) (n : Port) (e : BitVec 8),
    e.toNat = s.get (F.POL_SEQ_epoch n) ∧
    s.trkFits n (s.trkReq n) = true ∧
    s.pageAnswers (portPage n 3) = true ∧
    s.inputFirst n 4 :=
  ⟨(lit (noInputs (trackable (1 : Port) (9 : BitVec 8) State.reset))), (1 : Port), (9 : BitVec 8), by decide⟩

theorem witness_VdmCommands_10 : ∃ (s : State) (n : Port) (e : BitVec 8),
    e.toNat = s.get (F.POL_SEQ_epoch n) ∧
    s.trkFits n (s.trkReq n) = false ∧
    s.pageAnswers (portPage n 3) = true ∧
    s.inputFirst n 4 :=
  ⟨(lit (noInputs ((vdmReady (1 : Port) (9 : BitVec 8) State.reset).modPol (1 : Port) fun p => { p with cur := none }))), (1 : Port), (9 : BitVec 8), by decide⟩

theorem witness_VdmCommands_11 : ∃ (s : State) (n : Port) (e : BitVec 8) (k : TrkTerms),
    e.toNat = s.get (F.POL_SEQ_epoch n) ∧
    (s.thn.get n).terms = some k ∧
    s.bit F.THN_STATUS_link n.val = true ∧
    s.pageAnswers (portPage n 3) = true ∧
    s.inputFirst n 4 :=
  ⟨(lit (noInputs ((((thatinOn (1 : Port) true (vdmReady (1 : Port) (9 : BitVec 8) State.reset)).setBit F.THN_STATUS_link (1 : Port).val true).modThn (1 : Port) fun x => { x with terms := some (someTerms : TrkTerms) })))), (1 : Port), (9 : BitVec 8), (someTerms : TrkTerms), by decide⟩

theorem witness_ThatinLink_1 : ∃ (s : State) (n : Port),
    s.bit F.THN_STATUS_entered n.val = true ∧
    s.flag (F.THN_PORT_STATUS_master n.val) = true ∧
    (s.thn.get n).ending = none ∧
    (s.thn.get n).armed = none ∧
    (s.thn.get n).heard = false :=
  ⟨(thatinOn (1 : Port) true State.reset), (1 : Port), by decide⟩

theorem witness_ThatinLink_2 : ∃ (s : State) (n : Port),
    s.bit F.THN_STATUS_entered n.val = true ∧
    s.flag (F.THN_PORT_STATUS_master n.val) = false :=
  ⟨(thatinOn (1 : Port) false State.reset), (1 : Port), by decide⟩

theorem witness_ThatinLink_3 : ∃ (s : State) (n : Port) (f : SbuFrame),
    s.bit F.THN_STATUS_entered n.val = true ∧
    s.flag (F.CC_SBU_STATUS_sbu2_conn n) = true ∧
    s.flag (F.THN_PORT_STATUS_master n.val) = true ∧
    sbuGood f = true ∧
    f.header.toNat / 16 = 1 :=
  ⟨(thatinOn (1 : Port) true State.reset), (1 : Port), (sbuFrame 1 [1, 2, 3, 4, 5, 6, 7, 8] : SbuFrame), by decide⟩

theorem witness_ThatinLink_4 : ∃ (s : State) (n : Port) (f : SbuFrame),
    s.bit F.THN_STATUS_entered n.val = true ∧
    s.flag (F.CC_SBU_STATUS_sbu2_conn n) = true ∧
    sbuGood f = false :=
  ⟨(thatinOn (1 : Port) true State.reset), (1 : Port), ({ sbuFrame 1 [1, 2, 3, 4, 5, 6, 7, 8] with crc := 7 } : SbuFrame), by decide⟩

theorem witness_ThatinLink_5 : ∃ (s : State) (n : Port),
    s.bit F.THN_STATUS_link n.val = true ∧
    (s.thn.get n).terms = none ∧
    3 ≤ (s.thn.get n).missed :=
  ⟨(((thatinOn (1 : Port) true State.reset).setBit F.THN_STATUS_link (1 : Port).val true).modThn (1 : Port) fun x => { x with missed := 3 }), (1 : Port), by decide⟩

theorem witness_ThatinLink_6 : ∃ (s : State) (n : Port) (k : TrkTerms),
    s.bit F.THN_STATUS_link n.val = true ∧
    (s.thn.get n).terms = some k ∧
    3 ≤ (s.thn.get n).missed :=
  ⟨(((thatinOn (1 : Port) true State.reset).setBit F.THN_STATUS_link (1 : Port).val true).modThn (1 : Port) fun x => { x with terms := some (someTerms : TrkTerms), missed := 3 }), (1 : Port), (someTerms : TrkTerms), by decide⟩

theorem witness_ThatinLink_7 : ∃ (s : State) (n : Port) (r : Fin 7) (k : TrkTerms),
    (s.thn.get n).terms = some k ∧
    s.flag (F.POL_STATUS_power_role n) = true :=
  ⟨((asSource (1 : Port) State.reset).modThn (1 : Port) fun x => { x with terms := some (someTerms : TrkTerms) }), (1 : Port), (2 : Fin 7), (someTerms : TrkTerms), by decide⟩

theorem witness_ThatinLink_8 : ∃ (s : State) (n : Port) (r : Fin 7) (k : TrkTerms),
    (s.thn.get n).terms = some k ∧
    s.flag (F.POL_STATUS_power_role n) = false :=
  ⟨((asSink (1 : Port) State.reset).modThn (1 : Port) fun x => { x with terms := some (someTerms : TrkTerms) }), (1 : Port), (2 : Fin 7), (someTerms : TrkTerms), by decide⟩

theorem witness_ThatinLink_9 : ∃ (s : State) (n : Port),
    s.running .vthRestore n.val = true ∧
    (s.thn.get n).terms = none ∧
    (s.pol.get n).cur = none :=
  ⟨(((State.reset.start .vthRestore (1 : Port).val 9).modThn (1 : Port) fun x => { x with terms := none }).modPol (1 : Port) fun p => { p with cur := none }), (1 : Port), by decide⟩

theorem witness_ThatinLink_10 : ∃ (s : State) (n : Port),
    s.bit F.THN_STATUS_entered n.val = true :=
  ⟨(thatinOn (1 : Port) true State.reset), (1 : Port), by decide⟩

theorem witness_ThatinLink_11 : ∃ (s : State) (n : Port),
    s.bit F.THN_STATUS_entered n.val = false :=
  ⟨(State.reset.setBit F.THN_STATUS_entered (1 : Port).val false), (1 : Port), by decide⟩

theorem witness_Authentication_1 : ∃ (s : State) (n : Port) (m : Msg),
    s.onlyMsg n m ∧
    m.ty = pdSecurityRequest ∧
    s.get (F.IDN_STATUS_key_ok.inHearth (s.driver n)) = 0 ∧
    s.bit F.IDN_STATUS_pending n.val = false :=
  ⟨(withMsg (1 : Port) (secMsg State.reset [1, 0x81, 0, 0] : Msg) (both F.IDN_STATUS_key_ok 0 (authReady (1 : Port) State.reset))), (1 : Port), (secMsg State.reset [1, 0x81, 0, 0] : Msg), by decide +kernel⟩

theorem witness_Authentication_2 : ∃ (s : State) (n : Port) (m : Msg),
    s.onlyMsg n m ∧
    m.ty = pdSecurityRequest ∧
    m.data.take 2 = [1, 0x81] ∧
    4 ≤ m.data.length ∧
    s.get (F.IDN_STATUS_key_ok.inHearth (s.driver n)) = 1 ∧
    s.get (F.IDN_STATUS_state.inHearth (s.driver n)) = 0 ∧
    s.get (F.IDN_STATUS_digest_busy.inHearth (s.driver n)) = 0 ∧
    (s.hearthOf (s.driver n)).digest.isSome = true ∧
    s.bit F.IDN_STATUS_pending n.val = false :=
  ⟨(withMsg (1 : Port) (secMsg State.reset [1, 0x81, 3, 4] : Msg) (authReady (1 : Port) State.reset)), (1 : Port), (secMsg State.reset [1, 0x81, 3, 4] : Msg), by decide⟩

theorem witness_Authentication_3 : ∃ (s : State) (n : Port) (m : Msg),
    s.onlyMsg n m ∧
    m.ty = pdSecurityRequest ∧
    m.data.take 3 = [1, 0x83, 0] ∧
    36 ≤ m.data.length ∧
    s.get (F.IDN_STATUS_key_ok.inHearth (s.driver n)) = 1 ∧
    s.get (F.IDN_STATUS_state.inHearth (s.driver n)) = 0 ∧
    s.get (F.IDN_STATUS_digest_busy.inHearth (s.driver n)) = 0 ∧
    (s.hearthOf (s.driver n)).digest.isSome = true ∧
    s.bit F.IDN_STATUS_pending n.val = false ∧
    s.auth = [] :=
  ⟨({ withMsg (1 : Port) (secMsg State.reset ([1, 0x83, 0, 0] ++ List.replicate 32 9) : Msg) (authReady (1 : Port) State.reset) with auth := [] }), (1 : Port), (secMsg State.reset ([1, 0x83, 0, 0] ++ List.replicate 32 9) : Msg), by decide⟩

theorem witness_Authentication_4 : ∃ (s : State) (n : Port) (m : Msg) (c : Challenge),
    s.onlyMsg n m ∧
    m.ty = pdSecurityRequest ∧
    m.data.take 3 = [1, 0x83, 0] ∧
    36 ≤ m.data.length ∧
    s.get (F.IDN_STATUS_key_ok.inHearth (s.driver n)) = 1 ∧
    s.get (F.IDN_STATUS_state.inHearth (s.driver n)) = 0 ∧
    s.get (F.IDN_STATUS_digest_busy.inHearth (s.driver n)) = 0 ∧
    (s.hearthOf (s.driver n)).digest.isSome = true ∧
    s.bit F.IDN_STATUS_pending n.val = false ∧
    s.auth = [c] ∧
    c.port ≠ n ∧
    s.driver c.port = s.driver n ∧
    c.salt.isEmpty = false :=
  ⟨({ withMsg (1 : Port) (secMsg State.reset ([1, 0x83, 0, 0] ++ List.replicate 32 9) : Msg) (authReady (1 : Port) State.reset) with auth := [(aChallenge 2 : Challenge)] }), (1 : Port), (secMsg State.reset ([1, 0x83, 0, 0] ++ List.replicate 32 9) : Msg), (aChallenge 2 : Challenge), by decide⟩

theorem witness_Authentication_5 : ∃ (s : State) (h : Hth) (c : Challenge),
    s.auth = [c] ∧
    s.driver c.port = h ∧
    c.salt.isEmpty = false ∧
    s.bit F.IDN_STATUS_pending c.port.val = true :=
  ⟨({ actA (State.reset.setBit F.IDN_STATUS_pending 1 true) with auth := [(aChallenge 1 : Challenge)] }), (.A : Hth), (aChallenge 1 : Challenge), by decide⟩

theorem witness_Authentication_6 : ∃ (s : State),
    ((∀ h ∈ s.devHearths, s.get (F.IDN_STATUS_digest_busy.inHearth h) = 1)) :=
  ⟨(both F.IDN_STATUS_digest_busy 1 State.reset), by decide⟩

theorem witness_Authentication_7 : ∃ (s : State),
    s.get F.IDN_KEY_key = 0x49 ∧
    s.get F.IDN_STATUS_state = 0 ∧
    s.pageAnswers 7 = true :=
  ⟨(lit ((State.reset.set F.IDN_KEY_key 0x49).set F.IDN_STATUS_state 0)), by decide⟩

theorem witness_Authentication_8 : ∃ (s : State),
    s.get F.IDN_KEY_key ≠ 0x49 ∧
    s.pageAnswers 7 = true :=
  ⟨(lit (State.reset.set F.IDN_KEY_key 0x48)), by decide⟩

theorem witness_Authentication_9 : ∃ (s : State) (w : Word),
    s.get F.IDN_STATUS_state = 1 ∧
    sparseWf (fun _ => 0) (s.hearthOf s.devHearth).certStage = true ∧
    s.pageAnswers 7 = true :=
  ⟨(lit (State.reset.set F.IDN_STATUS_state 1)), (0x12345678#32 : Word), by decide⟩

theorem witness_Authentication_10 : ∃ (s : State),
    s.get F.IDN_STATUS_state = 1 ∧
    s.get (F.IDN_CERT_LEN_len 0) ≤ 2048 ∧
    s.get (F.IDN_CERT_LEN_len 1) = 0 ∧
    certGood (s.hearthOf s.devHearth).certStage 0 (s.get (F.IDN_CERT_LEN_len 0)) = true ∧
    s.pageAnswers 7 = true :=
  ⟨(lit (((State.reset.set F.IDN_STATUS_state 1).set (F.IDN_CERT_LEN_len 0) 0).set (F.IDN_CERT_LEN_len 1) 0)), by decide⟩

theorem witness_Authentication_11 : ∃ (s : State),
    s.get F.IDN_STATUS_state = 1 ∧
    2048 < s.get (F.IDN_CERT_LEN_len 0) ∧
    s.pageAnswers 7 = true :=
  ⟨(lit ((State.reset.set F.IDN_STATUS_state 1).set (F.IDN_CERT_LEN_len 0) 2049)), by decide⟩

theorem witness_Authentication_12 : ∃ (s : State),
    s.get F.IDN_STATUS_state ≠ 0 ∧
    s.pageAnswers 7 = true :=
  ⟨(lit (State.reset.set F.IDN_STATUS_state 1)), by decide⟩

theorem witness_StageStates_1 : ∃ (s : State) (n : Port),
    s.pathReady n = true ∧
    s.outputHeld n = false ∧
    s.get (F.STG_STATUS_state n) = 0 ∧
    s.ember.kindling ≠ some n ∧
    bankEmpty (s.bankWords n true (s.get (F.STG_STATUS_vbank n))) = false ∧
    bankEmpty (s.bankWords n false (s.get (F.ILP_STATUS_bank n))) = false :=
  ⟨(stageReady (1 : Port) State.reset), (1 : Port), by decide⟩

theorem witness_StageStates_2 : ∃ (s : State) (n : Port),
    s.pathReady n = true ∧
    s.outputHeld n = false ∧
    s.get (F.STG_STATUS_state n) = 0 ∧
    bankEmpty (s.bankWords n true (s.get (F.STG_STATUS_vbank n))) = true ∧
    bankEmpty (s.fallbackWords true) = true :=
  ⟨(((stageReady (1 : Port) State.reset).set (F.STG_VBANK0_half_words (1 : Port) 0) 0).set (F.STG_VBANK1_half_words (1 : Port) 0) 0), (1 : Port), by decide⟩

theorem witness_StageStates_3 : ∃ (s : State) (n : Port),
    s.outputHeld n = true :=
  ⟨(State.reset.set F.FLU_STATUS_l3 1), (1 : Port), by decide⟩

theorem witness_StageStates_4 : ∃ (s : State) (n : Port),
    s.get (F.STG_STATUS_state n) = 1 :=
  ⟨(State.reset.set (F.STG_STATUS_state (1 : Port)) 1), (1 : Port), by decide⟩

theorem witness_StageStates_5 : ∃ (s : State) (n : Port),
    s.get (F.STG_STATUS_state n) = 1 ∧
    s.running .senTimeout n.val = true :=
  ⟨((State.reset.set (F.STG_STATUS_state (1 : Port)) 1).start .senTimeout (1 : Port).val 5), (1 : Port), by decide⟩

theorem witness_StageStates_6 : ∃ (s : State) (n : Port),
    s.get (F.STG_STATUS_state n) = 2 :=
  ⟨(State.reset.set (F.STG_STATUS_state (1 : Port)) 2), (1 : Port), by decide⟩

theorem witness_StageStates_7 : ∃ (s : State) (n : Port),
    ((s.get (F.STG_STATUS_state n) = 1 ∨ s.get (F.STG_STATUS_state n) = 2)) :=
  ⟨(State.reset.set (F.STG_STATUS_state (1 : Port)) 2), (1 : Port), by decide⟩

theorem witness_StageStates_8 : ∃ (s : State) (n : Port) (v : Word),
    ((bitsGet v 16 11 = 0 ∨ minOffset s.tickKhz ≤ bitsGet v 16 11)) ∧
    minOffset s.tickKhz ≤ bitsGet v 8 7 ∧
    s.pageAnswers (portPage n 4) = true :=
  ⟨(lit (State.reset)), (1 : Port), (0x00002005#32 : Word), by decide⟩

theorem witness_StageStates_9 : ∃ (s : State) (n : Port) (v : Word),
    bitsGet v 8 7 ≠ 0 ∧
    bitsGet v 8 7 < minOffset s.tickKhz ∧
    s.pageAnswers (portPage n 4) = true :=
  ⟨(lit (State.reset)), (1 : Port), (0x00000105#32 : Word), by decide⟩

theorem witness_StageStates_10 : ∃ (s : State) (n : Port) (v : Word),
    s.pageAnswers (portPage n (stgRegPage .ilimits)) = true :=
  ⟨(lit (State.reset)), (1 : Port), (0x12345678#32 : Word), by decide⟩

theorem witness_StageStates_11 : ∃ (s : State) (n : Port) (v : Word),
    bitsGet v 24 8 = s.get (F.POL_SEQ_epoch n) ∧
    1 ≤ bitsGet v 0 12 ∧
    bitsGet v 0 12 ≤ 2400 ∧
    s.pageAnswers (portPage n 4) = true :=
  ⟨(lit (State.reset.set (F.POL_SEQ_epoch (1 : Port)) 3)), (1 : Port), (0x03000100#32 : Word), by decide⟩

theorem witness_StageStates_12 : ∃ (s : State) (n : Port) (v : Word),
    bitsGet v 24 8 ≠ s.get (F.POL_SEQ_epoch n) ∧
    s.pageAnswers (portPage n 4) = true :=
  ⟨(lit (State.reset.set (F.POL_SEQ_epoch (1 : Port)) 4)), (1 : Port), (0x03000100#32 : Word), by decide⟩

theorem witness_LoopSamples_1 : ∃ (s : State) (n : Port) (vbus : BitVec 12) (imon : BitVec 12) (bus : BitVec 12),
    s.sampleDue n = true ∧
    (s.lp.get n).sampled ≠ some s.tbase.toNat :=
  ⟨(sampling (1 : Port) State.reset), (1 : Port), (300 : BitVec 12), (2048 : BitVec 12), (900 : BitVec 12), by decide⟩

theorem witness_LoopSamples_2 : ∃ (s : State) (n : Port) (vbus : BitVec 12) (imon : BitVec 12) (bus : BitVec 12),
    ((s.sampleDue n = false ∨ (s.lp.get n).sampled = some s.tbase.toNat)) :=
  ⟨({ sampling (1 : Port) State.reset with tbase := 2000 }), (1 : Port), (300 : BitVec 12), (2048 : BitVec 12), (900 : BitVec 12), by decide⟩

theorem witness_LoopSamples_3 : ∃ (s : State) (n : Port) (volt : Bool),
    s.inLane n volt = none :=
  ⟨({ State.reset with lanes := { waiting := [], busy := [] } }), (1 : Port), (true : Bool), by decide⟩

theorem witness_LoopSamples_4 : ∃ (s : State) (n : Port) (e : Evaluation),
    s.loopsOn n = true ∧
    s.inLane n false = some e ∧
    e.late = false :=
  ⟨(evaluating (1 : Port) false (State.reset.set (F.STG_STATUS_state (1 : Port)) 2)), (1 : Port), ({ port := 1, volt := false, due := 0, late := false } : Evaluation), by decide⟩

theorem witness_LoopSamples_5 : ∃ (s : State) (n : Port) (volt : Bool),
    ((s.get (F.STG_STATUS_state n) = 0 ∨ s.get (F.STG_STATUS_state n) = 3)) :=
  ⟨(evaluating 1 false (State.reset.set (F.STG_STATUS_state (1 : Port)) 0)), (1 : Port), (false : Bool), by decide⟩

theorem witness_LoopSamples_6 : ∃ (s : State) (n : Port) (r : LoopResult),
    s.loopsOn n = true ∧
    s.hearths.mode ≠ .mirror ∧
    s.powered (s.driver n) = true ∧
    (s.lp.get n).resI = some r ∧
    s.updateDue n false = true :=
  ⟨(updating (1 : Port) (actA ((State.reset.set (F.STG_STATUS_state (1 : Port)) 2).modLp (1 : Port) fun l => { l with resI := some (aResult : LoopResult) }))), (1 : Port), (aResult : LoopResult), by decide⟩

theorem witness_LoopSamples_7 : ∃ (s : State) (n : Port),
    s.loopsOn n = true ∧
    s.hearths.mode ≠ .mirror ∧
    s.powered (s.driver n) = true ∧
    s.updateDue n false = true :=
  ⟨(updating (1 : Port) (actA (State.reset.set (F.STG_STATUS_state (1 : Port)) 2))), (1 : Port), by decide⟩

theorem witness_LoopSamples_8 : ∃ (s : State) (n : Port) (r : LoopResult),
    (s.lp.get n).capV = some r ∧
    s.writebackDue n true = true :=
  ⟨({ State.reset.modLp (1 : Port) fun l => { l with capV := some (aResult : LoopResult), capAtV := some 10 } with tbase := 12 }), (1 : Port), (aResult : LoopResult), by decide⟩

theorem witness_LoopSamples_9 : ∃ (s : State) (n : Port),
    s.bankWanted n true ≠ s.get (F.STG_STATUS_vbank n) ∧
    s.bankWanted n true < 2 ∧
    s.sampleDue n = true :=
  ⟨(sampling (1 : Port) ((begunCfg (1 : Port) (fun c => { c with dvSplit := 0, bankV := 1 }) State.reset).set (F.STG_STATUS_vbank (1 : Port)) 0)), (1 : Port), by decide⟩

theorem witness_LoopSamples_10 : ∃ (s : State) (n : Port),
    s.bankWanted n false = s.get (F.ILP_STATUS_bank n) :=
  ⟨((begunCfg (1 : Port) (fun c => { c with regionAuto := false, bankI := 1 }) State.reset).set (F.ILP_STATUS_bank (1 : Port)) 1), (1 : Port), by decide⟩

theorem witness_LoopSamples_11 : ∃ (s : State) (n : Port) (volt : Bool) (bank1 : Bool) (k : Fin 4) (w : Word),
    s.loopsOn n = false ∧
    bankValid ((s.bankWords n volt (bn bank1)).set k.val w) = true ∧
    s.pageAnswers (portPage n (if volt then 4 else 5)) = true :=
  ⟨(lit (State.reset.set (F.STG_STATUS_state (1 : Port)) 0)), (1 : Port), (true : Bool), (false : Bool), (1 : Fin 4), (0x00050006#32 : Word), by decide⟩

theorem witness_LoopSamples_12 : ∃ (s : State) (n : Port) (volt : Bool) (bank1 : Bool) (k : Fin 4) (w : Word),
    bankValid ((s.bankWords n volt (bn bank1)).set k.val w) = false ∧
    s.pageAnswers (portPage n (if volt then 4 else 5)) = true :=
  ⟨(lit (State.reset)), (1 : Port), (true : Bool), (false : Bool), (0 : Fin 4), (0x00050106#32 : Word), by decide⟩

theorem witness_LoopSamples_13 : ∃ (s : State) (h : Hth),
    s.powered h = true ∧
    s.atEpoch = true :=
  ⟨(onEpoch (actA State.reset)), (.A : Hth), by decide⟩

theorem witness_CorrectionTable_1 : ∃ (s : State) (w : Word),
    s.flag F.OPC_STATUS_clearing = false ∧
    bitsGet w 24 8 = 0 ∧
    s.get F.OPC_WIN_ADDR_index < 6144 ∧
    sparseWf (fun _ => 0) (s.hearthOf s.devHearth).opct = true ∧
    s.pageAnswers 0x12 = true :=
  ⟨(lit (noTables ((State.reset.set F.OPC_STATUS_clearing 0).set F.OPC_WIN_ADDR_index 100))), (0x00123456#32 : Word), by decide⟩

theorem witness_CorrectionTable_2 : ∃ (s : State) (w : Word),
    ((s.flag F.OPC_STATUS_clearing = true ∨ bitsGet w 24 8 ≠ 0 ∨ 6144 ≤ s.get F.OPC_WIN_ADDR_index)) ∧
    s.pageAnswers 0x12 = true :=
  ⟨(lit (State.reset)), (0x01123456#32 : Word), by decide⟩

theorem witness_CorrectionTable_3 : ∃ (s : State),
    s.flag F.OPC_STATUS_clearing = false ∧
    s.get F.OPC_WIN_ADDR_index < 6144 ∧
    s.pageAnswers 0x12 = true :=
  ⟨(lit ((State.reset.set F.OPC_STATUS_clearing 0).set F.OPC_WIN_ADDR_index 100)), by decide⟩

theorem witness_CorrectionTable_4 : ∃ (s : State),
    s.get F.OPC_KEY_key = 0x4F ∧
    s.pageAnswers 0x12 = true :=
  ⟨(lit (State.reset.set F.OPC_KEY_key 0x4F)), by decide⟩

theorem witness_CorrectionTable_5 : ∃ (s : State),
    s.get F.OPC_KEY_key ≠ 0x4F ∧
    s.pageAnswers 0x12 = true :=
  ⟨(lit (State.reset.set F.OPC_KEY_key 0x4E)), by decide⟩

theorem witness_CorrectionTable_6 : ∃ (s : State),
    s.pageAnswers 0x12 = true :=
  ⟨(lit State.reset), by decide⟩

theorem witness_CorrectionTable_7 : ∃ (s : State),
    s.get F.OPC_KEY_key = 0x4F ∧
    s.pageAnswers 0x12 = true :=
  ⟨(lit (State.reset.set F.OPC_KEY_key 0x4F)), by decide⟩

theorem witness_CorrectionTable_8 : ∃ (s : State),
    s.flag F.OPC_STATUS_clearing = true :=
  ⟨(State.reset.set F.OPC_STATUS_clearing 1), by decide⟩

theorem witness_CorrectionTable_9 : ∃ (s : State) (n : Port) (v : Word),
    bitsGet v 16 13 < 6144 ∧
    bitsGet v 16 13 + bitsGet v 8 6 * bitsGet v 0 6 ≤ 6144 ∧
    s.pageAnswers 0x12 = true :=
  ⟨(lit (State.reset)), (1 : Port), (0x00100404#32 : Word), by decide⟩

theorem witness_CorrectionTable_10 : ∃ (s : State) (n : Port) (v : Word),
    bitsGet v 28 4 < 4 ∧
    bitsGet v 28 4 ≠ 0 ∧
    s.pageAnswers 0x12 = true :=
  ⟨(lit (State.reset)), (1 : Port), (0x30005000#32 : Word), by decide⟩

theorem witness_CorrectionTable_11 : ∃ (s : State) (n : Port) (v : Word),
    s.pageAnswers 0x12 = true :=
  ⟨(lit (State.reset)), (1 : Port), (0x12340010#32 : Word), by decide⟩

theorem witness_TraceCaptures_1 : ∃ (s : State) (h : Hth),
    h ∈ s.devHearths ∧
    s.pageAnswers 0x0F = true :=
  ⟨(lit (actA State.reset)), (.A : Hth), by decide⟩

theorem witness_TraceCaptures_2 : ∃ (s : State) (h : Hth),
    h ∈ s.devHearths ∧
    s.trcRuns h = true ∧
    s.pageAnswers 0x0F = true :=
  ⟨(lit (tracing 1 (actA State.reset))), (.A : Hth), by decide⟩

theorem witness_TraceCaptures_3 : ∃ (s : State) (h : Hth),
    h ∈ s.devHearths ∧
    s.trcRuns h = false :=
  ⟨(tracing 0 (actA State.reset)), (.A : Hth), by decide⟩

theorem witness_TraceCaptures_4 : ∃ (s : State) (h : Hth),
    h ∈ s.devHearths ∧
    s.trcState h = 1 ∧
    (s.hearthOf h).trigger = 0 ∧
    s.get (F.TRC_TRIG_SRC_host.inHearth h) = 1 ∧
    s.pageAnswers 0x0F = true :=
  ⟨(lit (both F.TRC_TRIG_SRC_host 1 (tracing 1 (actA State.reset)))), (.A : Hth), by decide⟩

theorem witness_TraceCaptures_5 : ∃ (s : State) (h : Hth) (k : Fin 64) (rising : Bool),
    h ∈ s.devHearths ∧
    s.trcState h = 1 ∧
    (s.hearthOf h).trigger = 0 ∧
    s.trcMatch h (.comparator k rising) = some 2 :=
  ⟨(edged (both F.TRC_TRIG_CMP_edge 3 (both F.TRC_TRIG_CMP_cmp (5 : Fin 64).val (both F.TRC_TRIG_SRC_cmp 1 (tracing 1 (actA State.reset)))))), (.A : Hth), (5 : Fin 64), (true : Bool), by decide⟩

theorem witness_TraceCaptures_6 : ∃ (s : State) (h : Hth) (k : Fin 64),
    h ∈ s.devHearths ∧
    s.trcState h = 1 ∧
    (s.hearthOf h).trigger = 0 ∧
    s.get (F.TRC_TRIG_SRC_cmp.inHearth h) = 1 ∧
    s.get (F.TRC_TRIG_CMP_cmp.inHearth h) = k.val ∧
    s.get (F.TRC_TRIG_CMP_edge.inHearth h) % 2 = 1 ∧
    s.flag (cmpCfg F.CMP_CFG_en k) = true ∧
    s.get (cmpCfg F.CMP_CFG_input k) ≠ 0 ∧
    s.get (cmpCfg F.CMP_CFG_hi k) ≠ 255 ∧
    s.flag (cmpBit F.CMP_EVENT_latched k) = false :=
  ⟨(both F.TRC_TRIG_CMP_edge 1 (both F.TRC_TRIG_CMP_cmp (20 : Fin 64).val (both F.TRC_TRIG_SRC_cmp 1 (tracing 1 (cmpOn (20 : Fin 64) (actA State.reset)))))), (.A : Hth), (20 : Fin 64), by decide⟩

theorem witness_TraceCaptures_7 : ∃ (s : State) (h : Hth),
    h ∈ s.devHearths ∧
    s.trcState h = 1 ∧
    (s.hearthOf h).trigger = 0 ∧
    s.get (F.TRC_CFG_strobe.inHearth h) = 3 ∧
    s.tbase.toNat % 2 ^ s.get (F.TRC_CFG_k.inHearth h) = 0 ∧
    (s.hearthOf h).trace.length < s.get (F.TRC_CAPTURE_pre.inHearth h) :=
  ⟨(noTables (both F.TRC_CAPTURE_pre 20 (both F.TRC_CFG_strobe 3 (tracing 1 (actA State.reset))))), (.A : Hth), by decide⟩

theorem witness_TraceCaptures_8 : ∃ (s : State) (h : Hth),
    h ∈ s.devHearths ∧
    s.trcState h = 1 ∧
    (s.hearthOf h).trigger ≠ 0 ∧
    s.get (F.TRC_CFG_strobe.inHearth h) = 3 ∧
    s.get (F.TRC_CAPTURE_post.inHearth h) ≠ 0 ∧
    (s.hearthOf h).trigger < 8 ∧
    s.tbase.toNat % 2 ^ s.get (F.TRC_CFG_k.inHearth h) = 0 :=
  ⟨((fun u : State => { u with hA := { u.hA with trigger := 2 } }) (both F.TRC_CAPTURE_post 20 (both F.TRC_CFG_strobe 3 (tracing 1 (actA State.reset))))), (.A : Hth), by decide⟩

theorem witness_TraceCaptures_9 : ∃ (s : State),
    s.trcRuns s.devHearth = false ∧
    s.get F.TRC_WIN_ADDR_word / 2 < (s.hearthOf s.devHearth).trace.length ∧
    s.pageAnswers 0x0F = true :=
  ⟨(lit ((fun u : State => { u with hA := { u.hA with trace := [(5, 6), (7, 8)] }, hB := { u.hB with trace := [(5, 6)] } }) (tracing 3 (State.reset.set F.TRC_WIN_ADDR_word 1)))), by decide⟩

theorem witness_TraceCaptures_10 : ∃ (s : State) (h : Hth),
    s.trcRuns h = true ∧
    s.powered h = true ∧
    s.pageAnswers (dbgPage h 3) = true :=
  ⟨(lit (tracing 2 (actA State.reset))), (.A : Hth), by decide⟩

theorem witness_TraceCaptures_11 : ∃ (s : State) (h : Hth) (v : Word),
    h ∈ s.devHearths ∧
    s.trcRuns h = false ∧
    s.pageAnswers 0x0F = true :=
  ⟨(lit (tracing 0 (actA State.reset))), (.A : Hth), (0x5#32 : Word), by decide⟩

theorem witness_TraceCaptures_12 : ∃ (s : State) (h : Hth) (k : Fin 6) (v : Word),
    h ∈ s.devHearths ∧
    ((s.trcRuns h = true ∨ trcValid k v = false)) ∧
    s.pageAnswers 0x0F = true :=
  ⟨(lit (tracing 1 (actA State.reset))), (.A : Hth), (2 : Fin 6), (0x5#32 : Word), by decide⟩

theorem witness_EpochAllocation_1 : ∃ (s : State) (a : Nat) (b : Nat) (c : Nat) (d : Nat),
    ((s.ember.dev ≠ .lit ∧ s.ember.dev ≠ .startup)) :=
  ⟨(inDev .banked State.reset), (0 : Nat), (0 : Nat), (0 : Nat), (0 : Nat), by decide⟩

theorem witness_EpochAllocation_2 : ∃ (s : State) (a : Nat) (b : Nat) (c : Nat) (d : Nat) (p : Plan) (n : Port),
    s.ember.dev = .lit ∧
    s.draught.plan = some p ∧
    p.s < 65536 ∧
    p.x < 65536 ∧
    (p.ports.get n).gc < 65536 ∧
    (p.ports.get n).pc < 6553 ∧
    s.atEpoch = true :=
  ⟨((fun u : State => { u with draught := { u.draught with plan := some (aPlan : Plan) } }) (onEpoch (lit State.reset))), (0 : Nat), (0 : Nat), (0 : Nat), (0 : Nat), (aPlan : Plan), (1 : Port), by decide⟩

theorem witness_EpochAllocation_3 : ∃ (s : State) (a : Nat) (b : Nat) (c : Nat) (d : Nat),
    s.ember.dev = .lit ∧
    s.flag F.FED_STATUS_notice = false ∧
    s.atEpoch = true :=
  ⟨((fun u : State => { u with draught := { u.draught with plan := none } }) ((onEpoch (lit State.reset)).set F.FED_STATUS_notice 0)), (0 : Nat), (0 : Nat), (0 : Nat), (0 : Nat), by decide⟩

theorem witness_EpochAllocation_4 : ∃ (s : State) (n : Port),
    s.bit F.DRT_STATUS_admitted n.val = false ∧
    (s.cc.get n).attached = true ∧
    (s.pol.get n).safeHeld = false ∧
    s.flag (F.FND_STATUS_close_cmd n) = true ∧
    s.ember.kindling = none ∧
    s.draught.queue = [] :=
  ⟨(asking (1 : Port) State.reset), (1 : Port), by decide⟩

theorem witness_EpochAllocation_5 : ∃ (s : State) (n : Port),
    s.bit F.DRT_STATUS_admitted n.val = true :=
  ⟨(closable (1 : Port) State.reset), (1 : Port), by decide⟩

theorem witness_EpochAllocation_6 : ∃ (s : State),
    s.pageAnswers 9 = true :=
  ⟨(lit (State.reset)), by decide⟩

theorem witness_EpochAllocation_7 : ∃ (s : State) (c : Fin 4),
    2 ≤ s.chanMode c.val :=
  ⟨(State.reset.set (F.RUN_ENV_CFG_mode 2) 2), (2 : Fin 4), by decide⟩

theorem witness_EpochAllocation_8 : ∃ (s : State) (c : Fin 4),
    s.chanMode c.val < 2 :=
  ⟨(State.reset.set (F.RUN_ENV_CFG_mode 2) 1), (2 : Fin 4), by decide⟩

theorem witness_EpochAllocation_10 : ∃ (s : State),
    s.running .nofeed 0 = true ∧
    s.get F.FED_STATUS_selected = 4 ∧
    s.anyImport = false :=
  ⟨(((asSource 1 State.reset).set F.FED_STATUS_selected 4).start .nofeed 0 4), by decide⟩

theorem witness_PathCycle_1 : ∃ (s : State) (n : Port),
    s.get (F.FND_STATUS_state n) = 0 ∧
    s.closeAllowed n = true ∧
    s.running .insertion n.val = false :=
  ⟨((pathAt (1 : Port) 0 (closable (1 : Port) State.reset)).stop .insertion (1 : Port).val), (1 : Port), by decide⟩

theorem witness_PathCycle_2 : ∃ (s : State) (n : Port),
    s.get (F.FND_STATUS_state n) = 0 ∧
    s.closeAllowed n = false :=
  ⟨(pathAt (1 : Port) 0 ((closable (1 : Port) State.reset).set F.OTP_STATUS_busy 1)), (1 : Port), by decide⟩

theorem witness_PathCycle_3 : ∃ (s : State) (n : Port),
    2 ≤ s.get (F.FND_STATUS_state n) ∧
    s.get (F.FND_STATUS_state n) ≤ 4 ∧
    (s.fnd.get n).dschgWait = false :=
  ⟨(pathAt (1 : Port) 3 State.reset), (1 : Port), by decide⟩

theorem witness_PathCycle_4 : ∃ (s : State) (n : Port),
    s.get (F.FND_STATUS_state n) = 6 :=
  ⟨(pathAt (1 : Port) 6 State.reset), (1 : Port), by decide⟩

theorem witness_PathCycle_5 : ∃ (s : State) (n : Port),
    s.get (F.FND_STATUS_state n) = 1 ∧
    s.running .insertion n.val = true ∧
    s.closeAllowed n = true ∧
    s.windowsMet n = true :=
  ⟨(((pathAt (1 : Port) 1 (closable (1 : Port) State.reset)).set (F.FND_STATUS_dir (1 : Port)) 0).start .insertion (1 : Port).val 9), (1 : Port), by decide⟩

theorem witness_PathCycle_6 : ∃ (s : State) (n : Port),
    s.windowsMet n = false :=
  ⟨((pathAt (1 : Port) 1 State.reset).set (F.FND_STATUS_dir (1 : Port)) 1 |>.modFnd (1 : Port) fun f => { f with cfg := { f.cfg with snkUv := 50 } }), (1 : Port), by decide⟩

theorem witness_PathCycle_7 : ∃ (s : State) (n : Port),
    s.get (F.FND_STATUS_state n) = 2 :=
  ⟨(pathAt (1 : Port) 2 State.reset), (1 : Port), by decide⟩

theorem witness_PathCycle_8 : ∃ (s : State) (n : Port) (inward : Bool),
    s.get (F.FND_STATUS_state n) = 3 :=
  ⟨(pathAt (1 : Port) 3 State.reset), (1 : Port), (true : Bool), by decide⟩

theorem witness_PathCycle_9 : ∃ (s : State) (n : Port),
    s.get (F.FND_STATUS_state n) = 4 :=
  ⟨(pathAt (1 : Port) 4 State.reset), (1 : Port), by decide⟩

theorem witness_PathCycle_10 : ∃ (s : State) (n : Port),
    s.get (F.FND_STATUS_state n) = 3 ∧
    s.running .closedFor n.val = true :=
  ⟨((pathAt (1 : Port) 3 State.reset).start .closedFor (1 : Port).val 4), (1 : Port), by decide⟩

theorem witness_PathCycle_11 : ∃ (s : State) (n : Port),
    s.flag (F.FND_STATUS_dschg n) = false ∧
    s.gateOn n = false ∧
    s.higherHeld n = false :=
  ⟨(((State.reset.set (F.FND_STATUS_dschg (1 : Port)) 0).set (F.FND_STATUS_gate_s (1 : Port)) 0).set (F.FND_STATUS_gate_b (1 : Port)) 0), (1 : Port), by decide⟩

theorem witness_PathCycle_12 : ∃ (s : State) (n : Port),
    s.flag (F.FND_STATUS_dschg n) = false ∧
    s.gateOn n = true ∧
    s.higherHeld n = false :=
  ⟨((State.reset.set (F.FND_STATUS_dschg (1 : Port)) 0).set (F.FND_STATUS_gate_s (1 : Port)) 1), (1 : Port), by decide⟩

theorem witness_PathCycle_13 : ∃ (s : State) (n : Port),
    s.flag (F.FND_STATUS_dschg n) = true ∧
    s.running .dschg n.val = true :=
  ⟨((State.reset.set (F.FND_STATUS_dschg (1 : Port)) 1).start .dschg (1 : Port).val 4), (1 : Port), by decide⟩

theorem witness_PathCycle_14 : ∃ (s : State) (n : Port),
    s.running .dschgForce n.val = true ∧
    (s.fnd.get n).detaching = false :=
  ⟨((State.reset.modFnd (1 : Port) fun f => { f with detaching := false }).start .dschgForce (1 : Port).val 4), (1 : Port), by decide⟩

theorem witness_PathProtection_1 : ∃ (s : State) (n : Port),
    s.get (F.FND_STATUS_state n) = 2 ∧
    s.running .inrush n.val = true ∧
    s.get (F.FND_STATUS_retries_left n) = 0 :=
  ⟨(((pathAt (1 : Port) 2 State.reset).set (F.FND_STATUS_retries_left (1 : Port)) 0).start .inrush (1 : Port).val 4), (1 : Port), by decide⟩

theorem witness_PathProtection_2 : ∃ (s : State) (n : Port),
    s.get (F.FND_STATUS_state n) = 4 ∧
    s.running .limit n.val = true ∧
    0 < s.get (F.FND_STATUS_retries_left n) ∧
    s.get (F.FND_STATUS_retries_left n) < 15 ∧
    (s.fnd.get n).dschgWait = false :=
  ⟨(((pathAt (1 : Port) 4 State.reset).set (F.FND_STATUS_retries_left (1 : Port)) 3).start .limit (1 : Port).val 4), (1 : Port), by decide⟩

theorem witness_PathProtection_3 : ∃ (s : State) (n : Port),
    s.conducts n = true ∧
    s.bit (F.CMP_OWNER_fender 0) n.val = true ∧
    s.get (F.FND_STATUS_retries_left n) = 15 ∧
    (s.cc.get n).detachTick ≠ some s.tbase.toNat :=
  ⟨((((pathAt (1 : Port) 3 State.reset).setBit (F.CMP_OWNER_fender 0) (1 : Port).val true).set (F.FND_STATUS_retries_left (1 : Port)) 15).modCc (1 : Port) fun c => { c with detachTick := none }), (1 : Port), by decide⟩

theorem witness_PathProtection_4 : ∃ (s : State) (n : Port),
    s.conducts n = true ∧
    s.bit (F.CMP_OWNER_fender 0) n.val = true ∧
    0 < s.get (F.FND_STATUS_retries_left n) ∧
    (s.cc.get n).detachTick = some s.tbase.toNat :=
  ⟨((((pathAt (1 : Port) 3 State.reset).setBit (F.CMP_OWNER_fender 0) (1 : Port).val true).set (F.FND_STATUS_retries_left (1 : Port)) 15).modCc (1 : Port) fun c => { c with detachTick := some State.reset.tbase.toNat }), (1 : Port), by decide⟩

theorem witness_PathProtection_5 : ∃ (s : State) (n : Port),
    s.bit (F.CMP_OWNER_fender 0) n.val = false :=
  ⟨((pathAt (1 : Port) 3 State.reset).setBit (F.CMP_OWNER_fender 0) (1 : Port).val false), (1 : Port), by decide⟩

theorem witness_PathProtection_6 : ∃ (s : State) (n : Port),
    s.get (F.FND_STATUS_state n) = 3 ∧
    s.bit (F.CMP_OWNER_fender 0) (8 + n.val) = true ∧
    0 < s.get (F.FND_STATUS_retries_left n) :=
  ⟨(((pathAt (1 : Port) 3 State.reset).setBit (F.CMP_OWNER_fender 0) (8 + (1 : Port).val) true).set (F.FND_STATUS_retries_left (1 : Port)) 2), (1 : Port), by decide⟩

theorem witness_PathProtection_7 : ∃ (s : State) (n : Port),
    s.get (F.FND_STATUS_state n) = 5 ∧
    s.running .offTime n.val = true ∧
    s.flag (F.FND_STATUS_close_cmd n) = true ∧
    s.closeAllowed n = true ∧
    s.running .insertion n.val = false :=
  ⟨(((pathAt (1 : Port) 5 ((closable (1 : Port) State.reset).set (F.FND_STATUS_close_cmd (1 : Port)) 1)).start .offTime (1 : Port).val 4).stop .insertion (1 : Port).val), (1 : Port), by decide⟩

theorem witness_PathProtection_8 : ∃ (s : State) (n : Port) (e : BitVec 8),
    e.toNat = s.get (F.POL_SEQ_epoch n) ∧
    s.get (F.FND_STATUS_state n) = 6 ∧
    s.flag (F.FND_STATUS_close_cmd n) = false ∧
    s.pageAnswers (portPage n 6) = true :=
  ⟨(lit (((pathAt (1 : Port) 6 State.reset).set (F.POL_SEQ_epoch (1 : Port)) (4 : BitVec 8).toNat).set (F.FND_STATUS_close_cmd (1 : Port)) 0)), (1 : Port), (4 : BitVec 8), by decide⟩

theorem witness_PathProtection_9 : ∃ (s : State) (n : Port) (e : BitVec 8),
    e.toNat ≠ s.get (F.POL_SEQ_epoch n) ∧
    s.pageAnswers (portPage n 6) = true :=
  ⟨(lit ((pathAt (1 : Port) 6 State.reset).set (F.POL_SEQ_epoch (1 : Port)) 5)), (1 : Port), (4 : BitVec 8), by decide⟩

theorem witness_PathProtection_10 : ∃ (s : State) (n : Port),
    s.get (F.FND_STATUS_state n) = 7 ∧
    s.flag (F.FND_STATUS_close_cmd n) = false ∧
    (s.lp.get n).runStored = false ∧
    (s.fnd.get n).tS ≤ (s.fnd.get n).tB ∧
    (s.fnd.get n).tB < degOf (s.get (F.THM_CFG_t_trip n)) - s.get (F.THM_CFG_t_hyst n) * 2 ^ 32 :=
  ⟨(((pathAt (1 : Port) 7 State.reset).set (F.FND_STATUS_close_cmd (1 : Port)) 0).modLp (1 : Port) fun l => { l with runStored := false }), (1 : Port), by decide⟩

theorem witness_PathProtection_11 : ∃ (s : State) (n : Port),
    s.ember.dev = .lit ∧
    s.get (F.FND_STATUS_state n) = 0 ∧
    s.atEpoch = true :=
  ⟨(onEpoch (pathAt (1 : Port) 0 (lit State.reset))), (1 : Port), by decide⟩

theorem witness_PathProtection_12 : ∃ (s : State) (n : Port),
    s.get (F.FND_STATUS_state n) = 4 ∧
    1000 * (s.fnd.get n).cfg.pmax < (s.fnd.get n).plin ∧
    s.atEpoch = true ∧
    0 < s.get (F.FND_STATUS_retries_left n) :=
  ⟨(onEpoch (((pathAt (1 : Port) 4 State.reset).set (F.FND_STATUS_retries_left (1 : Port)) 2).modFnd (1 : Port) fun f => { f with plin := 1000 * f.cfg.pmax + 1 })), (1 : Port), by decide⟩

theorem witness_PathProtection_13 : ∃ (s : State) (k : Fin 4),
    s.ntcFitted.getLsbD k.val = true ∧
    s.ntcFault.getLsbD k.val = false :=
  ⟨({ State.reset with ntcFitted := 15, ntcFault := 0 }), (1 : Fin 4), by decide⟩

theorem witness_PathProtection_14 : ∃ (s : State) (k : Fin 4),
    s.ntcFitted.getLsbD k.val = true ∧
    s.running .ntcRange k.val = true :=
  ⟨(({ State.reset with ntcFitted := 15, ntcFault := 2 } : State).start .ntcRange (1 : Fin 4).val 5), (1 : Fin 4), by decide⟩

theorem witness_PathProtection_15 : ∃ (s : State) (n : Port),
    s.get (F.FND_STATUS_state n) = 3 ∧
    s.bit (F.CMP_OWNER_fender 0) (8 + n.val) = true :=
  ⟨((pathAt (1 : Port) 3 State.reset).setBit (F.CMP_OWNER_fender 0) (8 + (1 : Port).val) true), (1 : Port), by decide⟩

theorem witness_FeedSwitches_1 : ∃ (s : State) (f : Feed),
    s.bit F.FED_STATUS_enabled f.val = true ∧
    s.fedWatch = true ∧
    s.feeds.held.getLsbD f.val = false ∧
    s.feeds.dropped.getLsbD f.val = false :=
  ⟨(fedOn 0 4 State.reset), (2 : Feed), by decide⟩

theorem witness_FeedSwitches_2 : ∃ (s : State) (f : Feed),
    s.feeds.held.getLsbD f.val = true ∧
    s.fedWatch = true ∧
    s.fedSel ≠ f.val ∧
    s.feeds.planned ≠ f.val :=
  ⟨(fedOn 7 1 State.reset), (2 : Feed), by decide⟩

theorem witness_FeedSwitches_3 : ∃ (s : State),
    s.fedConnected = true ∧
    s.fedSelects = true ∧
    s.feeds.planned = 4 :=
  ⟨(fedOn 3 1 State.reset), by decide⟩

theorem witness_FeedSwitches_4 : ∃ (s : State),
    s.fedConnected = true ∧
    s.fedSelects = true ∧
    s.feeds.planned = 4 ∧
    s.running .feedBlank 0 = false :=
  ⟨(fedOn 3 1 State.reset), by decide⟩

theorem witness_FeedSwitches_5 : ∃ (s : State),
    0 < s.left .feedBlank 0 :=
  ⟨((fedOn 3 1 State.reset).start .feedBlank 0 4), by decide⟩

theorem witness_FeedSwitches_6 : ∃ (s : State),
    s.fedSelects = true ∧
    s.fedSel = 4 ∧
    s.feeds.step = 0 ∧
    s.fedPreferred < 4 :=
  ⟨(fedOn 6 4 State.reset), by decide⟩

theorem witness_FeedSwitches_7 : ∃ (s : State),
    s.fedSelects = true ∧
    s.fedSel < 4 ∧
    s.fedQual s.fedSel = false ∧
    s.feeds.step = 0 ∧
    s.fedPreferred < 4 :=
  ⟨(fedOn 5 1 State.reset), by decide⟩

theorem witness_FeedSwitches_8 : ∃ (s : State),
    s.fedSelects = true ∧
    s.fedSel < 4 ∧
    s.fedQual s.fedSel = false ∧
    s.feeds.step = 0 ∧
    s.fedPreferred = 4 :=
  ⟨(fedOn 0 1 State.reset), by decide⟩

theorem witness_FeedSwitches_9 : ∃ (s : State),
    s.fedSelects = true ∧
    s.fedConnected = true ∧
    s.feeds.planned < 4 ∧
    s.feeds.planned ≠ s.fedSel ∧
    s.fedQual s.feeds.planned = true ∧
    s.atEpoch = true :=
  ⟨((fun u : State => { u with feeds := { u.feeds with planned := 2 } }) (onEpoch (fedOn 7 1 State.reset))), by decide⟩

theorem witness_FeedSwitches_10 : ∃ (s : State),
    s.flag F.FED_STATUS_notice = true ∧
    s.fedConnected = true ∧
    s.fedSelects = true ∧
    s.feeds.planned < 4 ∧
    s.feeds.planned ≠ s.fedSel ∧
    s.feeds.hold = false ∧
    s.draught.shedDue = false ∧
    s.atEpoch = true :=
  ⟨((fun u : State => ({ u with feeds := { u.feeds with planned := 2, hold := false }, draught := { u.draught with shedDue := false } } : State).set F.FED_STATUS_notice 1) (onEpoch (fedOn 7 1 State.reset))), by decide⟩

theorem witness_FeedSwitches_11 : ∃ (s : State),
    s.feeds.hold = true :=
  ⟨((fun u : State => { u with feeds := { u.feeds with planned := 2, hold := true } }) (fedOn 7 1 State.reset)), by decide⟩

theorem witness_FeedSwitches_12 : ∃ (s : State),
    s.feeds.step = 1 ∧
    s.running .feedDead 0 = true ∧
    15 * s.adc 34 ≤ 15 * s.adc (26 + s.fedSel) + 1000 ∧
    15 * s.adc (26 + s.fedSel) ≤ 15 * s.adc 34 + 1000 ∧
    s.fedSel < 4 :=
  ⟨((fedStep 1 State.reset).start .feedDead 0 4), by decide⟩

theorem witness_FeedSwitches_13 : ∃ (s : State),
    s.feeds.step = 2 ∧
    s.fedSel < 4 :=
  ⟨(fedStep 2 State.reset), by decide⟩

theorem witness_FeedSwitches_14 : ∃ (s : State),
    s.feeds.step = 2 ∧
    s.running .feedMatch 0 = true ∧
    s.fedSel < 4 ∧
    (s.fedMarkLost s.fedSel).fedPreferred = 4 :=
  ⟨(((fedStep 2 State.reset).set F.FED_STATUS_qualified 2).start .feedMatch 0 4), by decide⟩

theorem witness_FeedSwitches_15 : ∃ (s : State),
    s.feeds.step = 3 ∧
    s.fedSel < 4 :=
  ⟨(fedStep 3 State.reset), by decide⟩

theorem witness_FeedSwitches_16 : ∃ (s : State),
    s.feeds.step = 3 ∧
    s.running .feedInsert 0 = true ∧
    s.fedSel < 4 ∧
    (s.fedMarkLost s.fedSel).fedPreferred = 4 :=
  ⟨(((fedStep 3 State.reset).set F.FED_STATUS_qualified 2).start .feedInsert 0 4), by decide⟩

theorem witness_FeedSwitches_17 : ∃ (s : State),
    s.feeds.step = 4 ∧
    s.feeds.cause < 8 ∧
    s.feeds.from_ < 8 :=
  ⟨(fedStep 4 State.reset), by decide⟩

theorem witness_FeedSwitches_18 : ∃ (s : State) (f : Feed),
    s.fedQual f.val = false ∧
    s.pageAnswers 0x0A = true :=
  ⟨(lit (fedOn 3 1 State.reset)), (2 : Feed), by decide⟩

theorem witness_FeedSwitches_19 : ∃ (s : State) (f : Feed),
    s.fedQual f.val = true ∧
    s.fedSel ≠ f.val ∧
    s.pageAnswers 0x0A = true :=
  ⟨(lit (fedOn 7 1 State.reset)), (2 : Feed), by decide⟩

theorem witness_FeedSwitches_20 : ∃ (s : State),
    s.feeds.planned = 4 ∧
    s.pageAnswers 0x0A = true :=
  ⟨(lit ((fedOn 7 1 State.reset).set F.FED_STATUS_manual 1)), by decide⟩

theorem witness_FeedSwitches_21 : ∃ (s : State) (c : BitVec 12),
    slotChannel s.slotNow = 34 :=
  ⟨({ State.reset with tbase := BitVec.ofNat 48 (49 * (State.reset.tickKhz / 1000) + 1) }), (1000 : BitVec 12), by decide⟩

theorem witness_Comparators_1 : ∃ (s : State) (k : Fin 64),
    s.flag (cmpCfg F.CMP_CFG_en k) = true ∧
    s.get (cmpCfg F.CMP_CFG_input k) ≠ 0 ∧
    s.get (cmpCfg F.CMP_CFG_hi k) ≠ 255 ∧
    s.flag (cmpBit F.CMP_EVENT_latched k) = false :=
  ⟨(cmpOn (20 : Fin 64) State.reset), (20 : Fin 64), by decide⟩

theorem witness_Comparators_2 : ∃ (s : State) (k : Fin 64),
    s.flag (cmpCfg F.CMP_CFG_en k) = true ∧
    s.get (cmpCfg F.CMP_CFG_input k) ≠ 0 ∧
    s.get (cmpCfg F.CMP_CFG_lo k) ≠ 0 ∧
    s.flag (cmpBit F.CMP_EVENT_latched k) = false ∧
    s.flag (cmpCfg F.CMP_CFG_flue_en k) = true ∧
    s.flue.broken = [] :=
  ⟨(flueWith [] ((cmpOn (20 : Fin 64) State.reset).set (cmpCfg F.CMP_CFG_flue_en (20 : Fin 64)) 1)), (20 : Fin 64), by decide⟩

theorem witness_Comparators_3 : ∃ (s : State) (k : Fin 64) (u : Bool),
    s.flag (cmpCfg F.CMP_CFG_en k) = false :=
  ⟨((cmpOn (20 : Fin 64) State.reset).set (cmpCfg F.CMP_CFG_en (20 : Fin 64)) 0), (20 : Fin 64), (true : Bool), by decide⟩

theorem witness_Comparators_5 : ∃ (s : State) (k : Fin 64),
    s.cmpPeriod k = true ∧
    s.flag (cmpBit F.CMP_STATUS_live k) = false ∧
    s.cmpJust k.val = false :=
  ⟨((((cmpOn (20 : Fin 64) State.reset).set (cmpBit F.CMP_EVENT_latched (20 : Fin 64)) 1).modCarrier (Fin.ofNat 8 (State.reset.get (cmpCfg F.CMP_CFG_idx (20 : Fin 64)))) fun c => { c with lastStart := some State.reset.tbase.toNat })), (20 : Fin 64), by decide⟩

theorem witness_Comparators_6 : ∃ (s : State) (k : Fin 64),
    ((s.cmpPeriod k = false ∨ s.cmpJust k.val = true)) :=
  ⟨((cmpOn (20 : Fin 64) State.reset).set (cmpCfg F.CMP_CFG_period (20 : Fin 64)) 0), (20 : Fin 64), by decide⟩

theorem witness_Comparators_7 : ∃ (s : State) (k : Fin 64),
    s.flag (cmpBit F.CMP_STATUS_live k) = true :=
  ⟨((cmpOn (20 : Fin 64) State.reset).set (cmpBit F.CMP_STATUS_live (20 : Fin 64)) 1), (20 : Fin 64), by decide⟩

theorem witness_Comparators_8 : ∃ (s : State) (k : Fin 64) (v : Word),
    bitsGet v 16 8 ≤ bitsGet v 24 8 ∧
    s.cmpOwned k = false ∧
    s.pageAnswers (0x0B + k.val / 32) = true :=
  ⟨(lit (State.reset)), (20 : Fin 64), (0xC8320041#32 : Word), by decide⟩

theorem witness_Comparators_9 : ∃ (s : State) (k : Fin 64) (v : Word),
    bitsGet v 24 8 < bitsGet v 16 8 ∧
    s.pageAnswers (0x0B + k.val / 32) = true :=
  ⟨(lit (State.reset)), (20 : Fin 64), (0x32C80041#32 : Word), by decide⟩

theorem witness_Comparators_10 : ∃ (s : State) (page : Fin 2) (v : Word),
    s.pageAnswers (0x0B + page.val) = true :=
  ⟨(lit (State.reset)), (0 : Fin 2), (0x00010003#32 : Word), by decide⟩

theorem witness_HearthCommands_1 : ∃ (s : State) (e : BitVec 8),
    e.toNat = s.get F.HTH_SEQ_epoch ∧
    s.get F.HTH_KEY_key = 0x48 ∧
    s.hearths.mode = .mirror ∧
    s.role .A = .active ∧
    s.role .B = .fenced ∧
    s.hearths.goal = none ∧
    s.ember.kindling = none ∧
    s.pageAnswers 0x0D = true :=
  ⟨(lit (hthKeyed (4 : BitVec 8) (mirrorB .fenced State.reset))), (4 : BitVec 8), by decide⟩

theorem witness_HearthCommands_2 : ∃ (s : State) (e : BitVec 8),
    e.toNat = s.get F.HTH_SEQ_epoch ∧
    s.get F.HTH_KEY_key ≠ 0x48 ∧
    s.pageAnswers 0x0D = true :=
  ⟨(lit ((hthKeyed (4 : BitVec 8) (mirrorB .fenced State.reset)).set F.HTH_KEY_key 3)), (4 : BitVec 8), by decide⟩

theorem witness_HearthCommands_3 : ∃ (s : State) (e : BitVec 8),
    e.toNat ≠ s.get F.HTH_SEQ_epoch ∧
    s.pageAnswers 0x0D = true :=
  ⟨(lit (hthKeyed 5 (mirrorB .fenced State.reset))), (4 : BitVec 8), by decide⟩

theorem witness_HearthCommands_4 : ∃ (s : State) (e : BitVec 8),
    e.toNat = s.get F.HTH_SEQ_epoch ∧
    s.hearths.mode = .mirror ∧
    s.degraded = false ∧
    s.hearths.goal = none ∧
    s.pageAnswers 0x0D = true :=
  ⟨(lit (hthKeyed (4 : BitVec 8) (mirrorB .shadow State.reset))), (4 : BitVec 8), by decide⟩

theorem witness_HearthCommands_5 : ∃ (s : State) (e : BitVec 8),
    e.toNat = s.get F.HTH_SEQ_epoch ∧
    s.role .B = .fenced ∧
    s.role .A = .active ∧
    s.railOff .B = false ∧
    s.pageAnswers 0x0D = true :=
  ⟨(lit (hthKeyed (4 : BitVec 8) (mirrorB .fenced State.reset))), (4 : BitVec 8), by decide⟩

theorem witness_HearthCommands_6 : ∃ (s : State) (e : BitVec 8),
    e.toNat = s.get F.HTH_SEQ_epoch ∧
    s.role .A ≠ .fenced ∧
    s.role .B ≠ .fenced ∧
    s.pageAnswers 0x0D = true :=
  ⟨(lit (hthKeyed (4 : BitVec 8) (mirrorB .shadow State.reset))), (4 : BitVec 8), by decide⟩

theorem witness_HearthCommands_7 : ∃ (s : State) (e : BitVec 8),
    e.toNat = s.get F.HTH_SEQ_epoch ∧
    s.get F.HTH_KEY_key = 0x48 ∧
    s.hearths.mode = .mirror ∧
    s.role .A = .active ∧
    s.role .B = .shadow ∧
    s.hearths.goal = none ∧
    s.pageAnswers 0x0D = true :=
  ⟨(lit (hthKeyed (4 : BitVec 8) (mirrorB .shadow State.reset))), (4 : BitVec 8), by decide⟩

theorem witness_HearthCommands_8 : ∃ (s : State) (c : LossCause) (o : LostOutput) (n : Port),
    c ≠ .unresolved ∧
    s.hearths.mode = .mirror ∧
    s.role .B = .shadow ∧
    s.hearths.goal = none :=
  ⟨(mirrorB .shadow State.reset), (.modelOne : LossCause), (⟨3, 0⟩ : LostOutput), (2 : Port), by decide⟩

theorem witness_HearthCommands_9 : ∃ (s : State) (o : LostOutput) (n : Port),
    2 ≤ o.output.val ∧
    o.output.val ≤ 9 ∧
    o.value.toNat ≠ s.outputValue o.output n ∧
    s.hearths.mode = .mirror ∧
    s.role .B = .shadow ∧
    s.hearths.goal = none :=
  ⟨(mirrorB .shadow State.reset), (⟨3, 77⟩ : LostOutput), (2 : Port), by decide⟩

theorem witness_HearthCommands_10 : ∃ (s : State) (h : Hth) (o : LostOutput) (n : Port),
    2 ≤ o.output.val ∧
    o.output.val ≤ 9 ∧
    o.value.toNat = s.outputValue o.output n :=
  ⟨(mirrorB .shadow State.reset), (.B : Hth), (⟨7, 4⟩ : LostOutput), (2 : Port), by decide⟩

theorem witness_HearthCommands_11 : ∃ (s : State) (h : Hth) (c : LossCause) (o : LostOutput) (n : Port),
    c ≠ .unresolved ∧
    ((s.role h = .off ∨ s.role h = .fenced ∨ s.role h = .copying)) :=
  ⟨(mirrorB .fenced State.reset), (.B : Hth), (.modelOne : LossCause), (⟨3, 0⟩ : LostOutput), (2 : Port), by decide⟩

theorem witness_HearthCommands_12 : ∃ (s : State) (e : BitVec 8) (pass : Bool) (passOther : Bool),
    e.toNat = s.get F.HTH_SEQ_epoch ∧
    s.get F.HTH_KEY_key = 0x48 ∧
    s.hearths.mode = .mirror ∧
    s.role .A = .active ∧
    s.role .B = .shadow ∧
    s.pageAnswers 0x0D = true :=
  ⟨(lit (hthKeyed (4 : BitVec 8) (mirrorB .shadow State.reset))), (4 : BitVec 8), (true : Bool), (true : Bool), by decide⟩

theorem witness_HearthCommands_13 : ∃ (s : State),
    ((s.flag F.HTH_VOTE_CFG_fence_off = true ∨ (s.hearths.offDue = true ∧ s.hearths.orderTick ≠ some s.tbase.toNat))) ∧
    s.role .B = .fenced ∧
    s.railOff .B = false ∧
    s.atEpoch = true :=
  ⟨(onEpoch ((mirrorB .fenced State.reset).set F.HTH_VOTE_CFG_fence_off 1)), by decide⟩

theorem witness_HearthCommands_14 : ∃ (s : State),
    (((s.flag F.HTH_VOTE_CFG_fence_off = false ∧ s.hearths.offDue = false) ∨ s.atEpoch = false)) :=
  ⟨({ (mirrorB .fenced State.reset).set F.HTH_VOTE_CFG_fence_off 0 with tbase := 9 }), by decide⟩

theorem witness_HearthCommands_15 : ∃ (s : State) (h : Hth),
    s.powered h = true ∧
    s.get (F.SELF_kat_skipped h) < 65535 :=
  ⟨(mirrorB .shadow State.reset), (.A : Hth), by decide⟩

theorem witness_HearthCommands_16 : ∃ (s : State),
    s.hearths.mode = .mirror ∧
    s.role .A = .active ∧
    s.role .B = .shadow ∧
    s.railOff .B = false :=
  ⟨(mirrorB .shadow State.reset), by decide⟩

theorem witness_HearthCommands_17 : ∃ (s : State) (v : Word),
    s.get F.HTH_KEY_key ≠ 0x48 ∧
    s.pageAnswers 0x0D = true :=
  ⟨(lit (State.reset.set F.HTH_KEY_key 1)), (2#32 : Word), by decide⟩

theorem witness_HearthCommands_18 : ∃ (s : State) (v : Word),
    s.get F.HTH_KEY_key = 0x48 ∧
    s.ember.kindling = none ∧
    s.hearths.goal = none ∧
    bitsGet v 0 2 = 3 ∧
    s.pageAnswers 0x0D = true :=
  ⟨(lit (hthKeyed 3 (mirrorB .shadow State.reset))), (3#32 : Word), by decide⟩

theorem witness_HearthCommands_19 : ∃ (s : State) (v : Word),
    s.get F.HTH_KEY_key = 0x48 ∧
    s.ember.kindling = none ∧
    s.hearths.goal = none ∧
    bitsGet v 0 2 = 1 ∧
    s.hearths.mode = .mirror ∧
    s.modeLacks .split .A = false ∧
    bitsGet v 4 1 = 0 ∧
    s.pageAnswers 0x0D = true :=
  ⟨(lit (((hthKeyed 3 (mirrorB .shadow State.reset)).set F.HTH_STATUS_st_fail_a 0).set F.HTH_STATUS_st_fail_b 0)), (1#32 : Word), by decide⟩

theorem witness_HearthCommands_20 : ∃ (s : State),
    s.hearths.mode = .mirror ∧
    s.hearths.goal = some (.mode .split .A) ∧
    s.atEpoch = true ∧
    s.hearths.orderTick ≠ some s.tbase.toNat :=
  ⟨((fun u : State => { u with hearths := { u.hearths with goal := some (.mode .split .A), orderTick := none } }) (onEpoch (mirrorB .shadow State.reset))), by decide⟩

theorem witness_HearthCommands_21 : ∃ (s : State) (h : Hth) (v : Word),
    s.powered h = true ∧
    hearthHeldPage (bitsGet v 0 8) = true ∧
    s.pageAnswers (dbgPage h 0) = true :=
  ⟨(lit (mirrorB .shadow State.reset)), (.A : Hth), (0x22#32 : Word), by decide⟩

theorem witness_HearthCommands_22 : ∃ (s : State) (h : Hth) (v : Word),
    s.powered h = false :=
  ⟨(mirrorB .off State.reset), (.B : Hth), (0x22#32 : Word), by decide⟩

theorem witness_Readmission_1 : ∃ (s : State),
    s.get F.HTH_COPY_STATUS_phase = 1 ∧
    s.hearths.source = .A ∧
    s.hearths.wait = .nothing :=
  ⟨(copying 1 State.reset), by decide⟩

theorem witness_Readmission_2 : ∃ (s : State),
    s.get F.HTH_COPY_STATUS_phase = 1 ∧
    s.hearths.goal = some .readmit ∧
    s.get F.HTH_COPY_STATUS_attempts < 2 ∧
    s.hearths.wait = .nothing :=
  ⟨(copying 1 State.reset), by decide⟩

theorem witness_Readmission_3 : ∃ (s : State),
    s.get F.HTH_COPY_STATUS_phase = 2 ∧
    s.hearths.goal = some .readmit ∧
    s.hearths.source = .A ∧
    s.hearths.wait = .nothing :=
  ⟨(copying 2 State.reset), by decide⟩

theorem witness_Readmission_4 : ∃ (s : State),
    s.atEpoch = true ∧
    ((s.hearths.wait = .snapshot ∨ s.hearths.wait = .restart)) ∧
    s.hearths.goal = some .readmit ∧
    s.hearths.source = .A :=
  ⟨((fun u : State => { u with hearths := { u.hearths with wait := .snapshot } }) (onEpoch (copying 2 State.reset))), by decide⟩

theorem witness_Readmission_5 : ∃ (s : State),
    s.get F.HTH_COPY_STATUS_phase = 3 ∧
    s.hearths.wait = .nothing ∧
    s.replayLate = false :=
  ⟨(copying 3 State.reset), by decide⟩

theorem witness_Readmission_6 : ∃ (s : State),
    s.replayLate = true ∧
    s.hearths.goal.isSome = true ∧
    s.get F.HTH_COPY_STATUS_attempts < 2 :=
  ⟨((fun u : State => { u with tbase := 9000, hearths := { u.hearths with snapTick := some 0 } }) (copying 3 State.reset)), by decide⟩

theorem witness_Readmission_7 : ∃ (s : State),
    s.hearths.wait = .trial :=
  ⟨((fun u : State => { u with hearths := { u.hearths with wait := .trial } }) (copying 3 State.reset)), by decide⟩

theorem witness_Readmission_8 : ∃ (s : State),
    s.get F.HTH_COPY_STATUS_phase = 4 ∧
    s.hearths.goal = some .readmit ∧
    s.hearths.source = .A ∧
    s.flue.records = [] ∧
    s.atEpoch = true ∧
    s.hearths.wait = .nothing ∧
    s.running .trial 0 = true :=
  ⟨(onEpoch (flueWith [] ((copying 4 State.reset).start .trial 0 7))), by decide⟩

theorem witness_Readmission_9 : ∃ (s : State),
    s.trialOver = false :=
  ⟨(copying 4 State.reset), by decide⟩

theorem witness_Readmission_10 : ∃ (s : State),
    ((s.get F.HTH_COPY_STATUS_phase = 2 ∨ s.get F.HTH_COPY_STATUS_phase = 3 ∨ s.get F.HTH_COPY_STATUS_phase = 4)) ∧
    s.hearths.goal = some .readmit ∧
    s.get F.HTH_COPY_STATUS_attempts < 2 :=
  ⟨((copying 4 State.reset).set F.HTH_COPY_STATUS_attempts 1), by decide⟩

theorem witness_Readmission_11 : ∃ (s : State),
    s.get F.HTH_COPY_STATUS_phase = 4 ∧
    s.hearths.goal = some .readmit ∧
    s.hearths.source = .A ∧
    s.get F.HTH_COPY_STATUS_attempts = 2 :=
  ⟨((copying 4 State.reset).set F.HTH_COPY_STATUS_attempts 2), by decide⟩

theorem witness_Readmission_12 : ∃ (s : State) (c : LossCause),
    s.hearths.mode = .mirror ∧
    s.hearths.goal = some .readmit ∧
    s.hearths.source = .A ∧
    s.role .A = .active ∧
    s.role .B = .copying ∧
    1 ≤ s.get F.HTH_COPY_STATUS_phase ∧
    s.get F.HTH_COPY_STATUS_phase ≤ 4 ∧
    s.flag F.FLU_STATUS_l3 = false :=
  ⟨((copying 3 State.reset).set F.FLU_STATUS_l3 0), (.modelOne : LossCause), by decide⟩

theorem witness_Readmission_13 : ∃ (s : State) (c : LossCause),
    s.hearths.goal = none :=
  ⟨(mirrorB .shadow State.reset), (.modelOne : LossCause), by decide⟩

theorem witness_Readmission_14 : ∃ (s : State) (x : Hth) (pass : Bool),
    s.get F.HTH_COPY_STATUS_phase = 1 ∧
    s.hearths.wait = .nothing ∧
    s.hearths.source = x :=
  ⟨(copying 1 State.reset), (.A : Hth), (true : Bool), by decide⟩

theorem witness_Readmission_15 : ∃ (s : State) (pass : Bool),
    s.get F.HTH_COPY_STATUS_phase ≠ 1 :=
  ⟨(copying 2 State.reset), (true : Bool), by decide⟩

theorem witness_Readmission_16 : ∃ (s : State),
    s.get F.HTH_COPY_STATUS_phase = 2 ∧
    s.hearths.wait = .nothing :=
  ⟨(copying 2 State.reset), by decide⟩

theorem witness_Readmission_17 : ∃ (s : State),
    s.atEpoch = true ∧
    ((s.hearths.wait = .snapshot ∨ s.hearths.wait = .restart)) :=
  ⟨((fun u : State => { u with hearths := { u.hearths with wait := .snapshot } }) (onEpoch (copying 2 State.reset))), by decide⟩

theorem witness_Readmission_18 : ∃ (s : State) (c : LossCause),
    s.hearths.goal ≠ none ∧
    s.role s.hearths.source ≠ .off ∧
    s.role s.hearths.source ≠ .fenced ∧
    s.role s.hearths.source ≠ .copying :=
  ⟨(copying 3 State.reset), (.modelOne : LossCause), by decide⟩

theorem witness_FlueRecords_1 : ∃ (s : State) (c : BitVec 8) (u : BitVec 8) (d : BitVec 8),
    s.flue.rails = [] ∧
    s.flue.records = [] ∧
    s.flue.broken = [] ∧
    sourceReact c.toNat = .portSafe ∧
    s.flag F.FLU_STATUS_l3 = false :=
  ⟨((flueWith [] State.reset).set F.FLU_STATUS_l3 0), (0x20 : BitVec 8), (1 : BitVec 8), (0 : BitVec 8), by decide⟩

theorem witness_FlueRecords_2 : ∃ (s : State) (c : BitVec 8) (u : BitVec 8) (d : BitVec 8) (r : FlueRecord),
    s.flue.rails = [] ∧
    s.flue.records = [r] ∧
    s.flue.broken = [] ∧
    sourceReact c.toNat = .portSafe ∧
    r.group = sourceGroup c.toNat ∧
    r.unit = u.toNat ∧
    r.merges < 255 :=
  ⟨(flueWith [(aRecord 1 1 : FlueRecord)] State.reset), (0x3D : BitVec 8), (1 : BitVec 8), (0 : BitVec 8), (aRecord 1 1 : FlueRecord), by decide⟩

theorem witness_FlueRecords_3 : ∃ (s : State) (c : BitVec 8) (u : BitVec 8) (d : BitVec 8),
    s.flue.rails = [] ∧
    s.flue.broken = [] ∧
    c.toNat = 2 :=
  ⟨(flueWith [] State.reset), (2 : BitVec 8), (0 : BitVec 8), (0 : BitVec 8), by decide⟩

theorem witness_FlueRecords_4 : ∃ (s : State) (c : BitVec 8) (u : BitVec 8),
    s.flue.broken = [] :=
  ⟨(flueWith [] State.reset), (0x38 : BitVec 8), (1 : BitVec 8), by decide⟩

theorem witness_FlueRecords_5 : ∃ (s : State) (c : BitVec 8) (u : BitVec 8),
    (c.toNat, u.toNat) ∈ s.flue.broken :=
  ⟨({ State.reset with flue := { State.reset.flue with broken := [(0x38, 1)] } }), (0x38 : BitVec 8), (1 : BitVec 8), by decide⟩

theorem witness_FlueRecords_6 : ∃ (s : State) (n : Port),
    s.flue.records = [aRecordOf n 1] ∧
    s.running .grace (recUnit 5 n.val) = true ∧
    s.live 0x31 n.val = true ∧
    s.get (F.POL_STATUS_typec n) = 0 ∧
    s.get (F.FLU_GRACE_persist 5) = 100 ∧
    s.flue.rails = [] :=
  ⟨((((((flueWith [aRecordOf (1 : Port) 1] State.reset).start .grace (recUnit 5 (1 : Port).val) 4).set (F.STG_ADC_LAST_imon (1 : Port)) 4095).set (F.POL_STATUS_typec (1 : Port)) 0).set (F.FLU_GRACE_persist 5) 100)), (1 : Port), by decide⟩

theorem witness_FlueRecords_7 : ∃ (s : State) (n : Port),
    s.flue.records = [aRecordOf n 1] ∧
    s.running .grace (recUnit 5 n.val) = true ∧
    s.live 0x31 n.val = false ∧
    s.flue.rails = [] :=
  ⟨((((flueWith [aRecordOf (1 : Port) 1] State.reset).start .grace (recUnit 5 (1 : Port).val) 4).set (F.STG_ADC_LAST_imon (1 : Port)) 2048).set F.FLU_TEST_hold 0), (1 : Port), by decide⟩

theorem witness_FlueRecords_8 : ∃ (s : State) (n : Port),
    s.flue.records = [aRecordOf n 2] ∧
    s.running .persist (recUnit 5 n.val) = true ∧
    s.live 0x31 n.val = true ∧
    s.flue.rails = [] :=
  ⟨(((flueWith [aRecordOf (1 : Port) 2] State.reset).start .persist (recUnit 5 (1 : Port).val) 4).set (F.STG_ADC_LAST_imon (1 : Port)) 4095), (1 : Port), by decide⟩

theorem witness_FlueRecords_9 : ∃ (s : State) (n : Port),
    s.flue.records = [aRecordOf n 1] ∧
    s.live 0x31 n.val = false ∧
    s.get (rcvField 0x31) < 14 ∧
    s.flag F.FLU_STATUS_l3 = false ∧
    s.flue.rails = [] ∧
    s.running .quiet (recUnit 5 n.val) = true :=
  ⟨((((((flueWith [aRecordOf (1 : Port) 1] State.reset).set (F.STG_ADC_LAST_imon (1 : Port)) 2048).set F.FLU_TEST_hold 0).set F.FLU_STATUS_l3 0).set (rcvField 0x31) 3).start .quiet (recUnit 5 (1 : Port).val) 3), (1 : Port), by decide⟩

theorem witness_FlueRecords_10 : ∃ (s : State) (n : Port),
    s.flue.records = [aRecordOf n 1] ∧
    s.live 0x31 n.val = true ∧
    s.flue.rails = [] :=
  ⟨((flueWith [aRecordOf (1 : Port) 1] State.reset).set (F.STG_ADC_LAST_imon (1 : Port)) 4095), (1 : Port), by decide⟩

theorem witness_FlueControl_1 : ∃ (s : State) (c : BitVec 8) (u : BitVec 8),
    level3Cause c.toNat u.toNat = true ∧
    s.flag F.FLU_STATUS_l3 = false :=
  ⟨(State.reset.set F.FLU_STATUS_l3 0), (0x10 : BitVec 8), (0 : BitVec 8), by decide⟩

theorem witness_FlueControl_2 : ∃ (s : State) (c : BitVec 8) (u : BitVec 8),
    s.flag F.FLU_STATUS_l3 = true :=
  ⟨(State.reset.set F.FLU_STATUS_l3 1), (0x10 : BitVec 8), (0 : BitVec 8), by decide⟩

theorem witness_FlueControl_3 : ∃ (s : State),
    s.running .l3Hold 0 = true ∧
    s.flag F.FLU_STATUS_l3 = true ∧
    s.flag F.FLU_CONFIG_l3_auto = true ∧
    s.get F.FLU_STATUS_l3_resets < s.get F.FLU_CONFIG_l3_limit ∧
    ((s.ember.dev = .lit ∨ s.ember.dev = .banked)) :=
  ⟨(lit (((((State.reset.set F.FLU_STATUS_l3 1).set F.FLU_CONFIG_l3_auto 1).set F.FLU_STATUS_l3_resets 1).set F.FLU_CONFIG_l3_limit 3).start .l3Hold 0 4)), by decide⟩

theorem witness_FlueControl_4 : ∃ (s : State),
    s.running .l3Clear 0 = true ∧
    s.ember.dev = .lit ∧
    s.flag F.FLU_STATUS_l3 = false :=
  ⟨(((lit State.reset).set F.FLU_STATUS_l3 0).start .l3Clear 0 4), by decide⟩

theorem witness_FlueControl_5 : ∃ (s : State) (n : Port),
    s.flue.records = [aRecordOf n 1] ∧
    s.live 0x31 n.val = false ∧
    s.pageAnswers 3 = true ∧
    s.flue.rails = [] :=
  ⟨(lit (((flueWith [aRecordOf (1 : Port) 1] State.reset).set (F.STG_ADC_LAST_imon (1 : Port)) 2048).set F.FLU_TEST_hold 0)), (1 : Port), by decide⟩

theorem witness_FlueControl_6 : ∃ (s : State) (n : Port),
    s.flue.records = [aRecordOf n 1] ∧
    s.live 0x31 n.val = true ∧
    s.pageAnswers 3 = true ∧
    s.flue.rails = [] :=
  ⟨(lit ((flueWith [aRecordOf (1 : Port) 1] State.reset).set (F.STG_ADC_LAST_imon (1 : Port)) 4095)), (1 : Port), by decide⟩

theorem witness_FlueControl_7 : ∃ (s : State) (gr : Fin 16),
    s.pageAnswers 3 = true :=
  ⟨(lit State.reset), (5 : Fin 16), by decide⟩

theorem witness_FlueControl_8 : ∃ (s : State) (n : Port),
    s.flue.records = [aRecordOf n 1] ∧
    s.live 0x31 n.val = false ∧
    s.pageAnswers 3 = true ∧
    s.flue.rails = [] :=
  ⟨(lit (((flueWith [aRecordOf (1 : Port) 1] State.reset).set (F.STG_ADC_LAST_imon (1 : Port)) 2048).set F.FLU_TEST_hold 0)), (1 : Port), by decide⟩

theorem witness_FlueControl_9 : ∃ (s : State),
    s.flag F.FLU_STATUS_l3 = true ∧
    s.get F.FLU_KEY_key = 0x46 ∧
    s.pageAnswers 3 = true :=
  ⟨(lit ((State.reset.set F.FLU_STATUS_l3 1).set F.FLU_KEY_key 0x46)), by decide⟩

theorem witness_FlueControl_10 : ∃ (s : State),
    ((s.flag F.FLU_STATUS_l3 = false ∨ s.get F.FLU_KEY_key ≠ 0x46)) ∧
    s.pageAnswers 3 = true :=
  ⟨(lit (State.reset.set F.FLU_KEY_key 0x45)), by decide⟩

theorem witness_FlueControl_11 : ∃ (s : State),
    s.flue.broken = [] ∧
    s.get F.FLU_KEY_key = 0x46 ∧
    s.pageAnswers 3 = true :=
  ⟨(lit ((flueWith [] State.reset).set F.FLU_KEY_key 0x46)), by decide⟩

theorem witness_FlueControl_12 : ∃ (s : State),
    s.get F.FLU_KEY_key ≠ 0x46 ∧
    s.pageAnswers 3 = true :=
  ⟨(lit ((flueWith [] State.reset).set F.FLU_KEY_key 0x45)), by decide⟩

theorem witness_FlueControl_13 : ∃ (s : State) (v : Word),
    s.pageAnswers (6) = true :=
  ⟨(lit (State.reset)), (0x5#32 : Word), by decide⟩

theorem witness_FlueControl_14 : ∃ (s : State),
    s.get F.ASH_KEY_key = 0x41 ∧
    s.pageAnswers 4 = true :=
  ⟨(lit (State.reset.set F.ASH_KEY_key 0x41)), by decide⟩

theorem witness_FlueControl_15 : ∃ (s : State),
    s.get F.ASH_KEY_key ≠ 0x41 ∧
    s.pageAnswers 4 = true :=
  ⟨(lit (State.reset.set F.ASH_KEY_key 0x40)), by decide⟩

theorem witness_FlueControl_16 : ∃ (s : State),
    s.pageAnswers 4 = true :=
  ⟨(lit (State.reset)), by decide⟩

theorem witness_FlueControl_17 : ∃ (s : State),
    s.get F.ASH_KEY_key = 0x41 ∧
    s.pageAnswers 4 = true :=
  ⟨(lit (State.reset.set F.ASH_KEY_key 0x41)), by decide⟩

theorem witness_FlueControl_18 : ∃ (s : State),
    s.get F.ASH_KEY_key ≠ 0x41 ∧
    s.pageAnswers 4 = true :=
  ⟨(lit (State.reset.set F.ASH_KEY_key 0x40)), by decide⟩

theorem witness_OtpCommands_1 : ∃ (s : State) (w : BitVec 10) (m : BitVec 2) (fl : List OtpFlip),
    s.flag F.OTP_STATUS_busy = false ∧
    s.ember.resensePending = false ∧
    s.otpLocked w.toNat = false ∧
    bitOf m.toNat 1 = true ∧
    s.pageAnswers 5 = true :=
  ⟨(lit (otpReady State.reset)), (5 : BitVec 10), (2 : BitVec 2), ([] : List OtpFlip), by decide⟩

theorem witness_OtpCommands_2 : ∃ (s : State) (w : BitVec 10) (m : BitVec 2) (fl : List OtpFlip),
    s.flag F.OTP_STATUS_busy = true ∧
    s.pageAnswers 5 = true :=
  ⟨(lit ((otpReady State.reset).set F.OTP_STATUS_busy 1)), (5 : BitVec 10), (0 : BitVec 2), ([] : List OtpFlip), by decide⟩

theorem witness_OtpCommands_3 : ∃ (s : State) (w : BitVec 10),
    s.get F.OTP_KEY_key = 0xB5 ∧
    s.flag F.OTP_STATUS_busy = false ∧
    s.ember.resensePending = false ∧
    s.otpCondition = 0 ∧
    320 ≤ w.toNat ∧
    s.otp.fin.getLsbD (otpRegionOf w.toNat) = false ∧
    s.otp.wlock.getLsbD (otpRegionOf w.toNat) = false ∧
    s.otpCell [] false (s.otpCellOf [] w.toNat) = 0 ∧
    s.pageAnswers 5 = true :=
  ⟨(lit (otpReady State.reset)), (400 : BitVec 10), by decide⟩

theorem witness_OtpCommands_4 : ∃ (s : State) (w : BitVec 10),
    s.get F.OTP_KEY_key ≠ 0xB5 ∧
    s.pageAnswers 5 = true :=
  ⟨(lit ((otpReady State.reset).set F.OTP_KEY_key 0)), (400 : BitVec 10), by decide⟩

theorem witness_OtpCommands_5 : ∃ (s : State) (w : BitVec 10),
    s.get F.OTP_KEY_key = 0xB5 ∧
    s.flag F.OTP_STATUS_busy = false ∧
    s.ember.resensePending = false ∧
    s.otpCondition = 0 ∧
    w.toNat < 320 ∧
    s.pageAnswers 5 = true :=
  ⟨(lit (otpReady State.reset)), (100 : BitVec 10), by decide⟩

theorem witness_OtpCommands_6 : ∃ (s : State) (r : BitVec 3) (fl : List OtpFlip),
    s.get F.OTP_KEY_key = 0xB5 ∧
    s.flag F.OTP_STATUS_busy = false ∧
    s.ember.resensePending = false ∧
    s.otpCondition = 0 ∧
    2 ≤ r.toNat ∧
    r.toNat ≤ 4 ∧
    s.otp.fin.getLsbD r.toNat = false ∧
    s.otpUnfit fl r.toNat = none ∧
    s.pageAnswers 5 = true :=
  ⟨(lit (otpReady State.reset)), (2 : BitVec 3), ([] : List OtpFlip), by decide⟩

theorem witness_OtpCommands_7 : ∃ (s : State) (r : BitVec 3),
    s.get F.OTP_KEY_key = 0xB5 ∧
    s.flag F.OTP_STATUS_busy = false ∧
    s.ember.resensePending = false ∧
    s.otpCondition = 0 ∧
    2 ≤ r.toNat ∧
    r.toNat ≤ 4 ∧
    s.otp.wlock.getLsbD r.toNat = false ∧
    s.pageAnswers 5 = true :=
  ⟨(lit (otpReady State.reset)), (2 : BitVec 3), by decide⟩

theorem witness_OtpCommands_8 : ∃ (s : State) (r : BitVec 3),
    s.get F.OTP_KEY_key = 0xB5 ∧
    s.flag F.OTP_STATUS_busy = false ∧
    s.ember.resensePending = false ∧
    s.otpCondition = 0 ∧
    2 ≤ r.toNat ∧
    r.toNat ≤ 4 ∧
    s.otp.rlock.getLsbD r.toNat = false ∧
    s.pageAnswers 5 = true :=
  ⟨(lit (otpReady State.reset)), (2 : BitVec 3), by decide⟩

theorem witness_OtpCommands_9 : ∃ (s : State) (w : BitVec 10),
    s.get F.OTP_KEY_key = 0xB5 ∧
    s.flag F.OTP_STATUS_busy = false ∧
    s.ember.resensePending = false ∧
    s.otpCondition = 0 ∧
    s.pageAnswers 5 = true :=
  ⟨(lit (otpReady State.reset)), (5 : BitVec 10), by decide⟩

theorem witness_OtpCommands_10 : ∃ (s : State) (r : OtpRun),
    s.otp.run = some r ∧
    r.cmd = 1 ∧
    r.word < 1024 :=
  ⟨({ otpReady State.reset with otp := { State.reset.otp with run := some ({ cmd := 1, word := 5, region := 0, data := 0 } : OtpRun) } }), ({ cmd := 1, word := 5, region := 0, data := 0 } : OtpRun), by decide⟩

theorem witness_OtpCommands_11 : ∃ (s : State) (r : OtpRun),
    s.otp.run = some r ∧
    r.cmd = 2 ∧
    r.word < 1024 ∧
    r.data ≠ 0 ∧
    s.otpCellOf [] r.word = r.word ∧
    sparseRead (fun _ => 0) s.otp.cells r.word = 0 ∧
    sparseWf (fun _ => 0) s.otp.cells = true ∧
    sparseWf (fun _ => 0) s.otp.weak = true :=
  ⟨((fun u : State => { u with otp := { u.otp with run := some ({ cmd := 2, word := 400, region := 0, data := 0x1234#32 } : OtpRun) } }) (otpReady State.reset)), ({ cmd := 2, word := 400, region := 0, data := 0x1234#32 } : OtpRun), by decide⟩

theorem witness_OtpCommands_12 : ∃ (s : State) (r : OtpRun),
    s.otp.run = some r ∧
    r.cmd = 4 ∧
    r.region < 5 ∧
    sparseWf (fun _ => 0) s.otp.cells = true ∧
    sparseWf (fun _ => 0) s.otp.weak = true :=
  ⟨((fun u : State => { u with otp := { u.otp with run := some ({ cmd := 4, word := 0, region := 2, data := 0 } : OtpRun) } }) (otpReady State.reset)), ({ cmd := 4, word := 0, region := 2, data := 0 } : OtpRun), by decide⟩

theorem witness_OtpCommands_13 : ∃ (s : State) (tries : List OtpTry),
    s.otp.run = none :=
  ⟨(otpReady State.reset), ([] : List OtpTry), by decide⟩

theorem witness_OtpCommands_14 : ∃ (s : State) (r : OtpRun) (k : Fin 3) (tries : List OtpTry),
    s.otp.run = some r ∧
    2 ≤ r.cmd :=
  ⟨((fun u : State => { u with otp := { u.otp with run := some ({ cmd := 2, word := 400, region := 0, data := 0x1234#32 } : OtpRun) } }) (otpReady State.reset)), ({ cmd := 2, word := 400, region := 0, data := 0x1234#32 } : OtpRun), (1 : Fin 3), ([{ pulses := 3, unblown := 0, weak := 0 }] : List OtpTry), by decide⟩

theorem witness_BusWrites_1 : ∃ (s : State) (v : Word),
    s.busReady ∧
    s.get F.SMB_CONFIG_pec = 0 ∧
    hasKey (s.get F.SMB_STATUS_page) = true :=
  ⟨(((busWith State.reset).set F.SMB_STATUS_page 3)), (0x12345678 : Word), by decide⟩

theorem witness_BusWrites_2 : ∃ (s : State) (r : Fin 64) (v : Word),
    s.busReady ∧
    s.get F.SMB_CONFIG_pec = 2 :=
  ⟨((busWith State.reset).set F.SMB_CONFIG_pec 2), (6 : Fin 64), (5 : Word), by decide⟩

theorem witness_BusWrites_3 : ∃ (s : State) (r : Fin 64) (v : Word) (b : Byte),
    s.busReady ∧
    s.get F.SMB_CONFIG_pec ≠ 0 ∧
    b ≠ crc8 (s.addrByte false :: BitVec.ofNat 8 r.val :: wordBytes v) :=
  ⟨((busWith State.reset).set F.SMB_CONFIG_pec 1), (6 : Fin 64), (5 : Word), (1 : Byte), by decide⟩

theorem witness_BusWrites_4 : ∃ (s : State) (page : Byte) (b : Byte),
    s.busReady ∧
    s.get F.SMB_CONFIG_pec ≠ 0 ∧
    b = crc8 [s.addrByte false, 0xE0, page, 0] :=
  ⟨((busWith State.reset).set F.SMB_CONFIG_pec 1), (0x21 : Byte), ((crc8 [((busWith State.reset).set F.SMB_CONFIG_pec 1).addrByte false, 0xE0, 0x21, 0]) : Byte), by decide⟩

theorem witness_BusWrites_5 : ∃ (s : State) (page : Byte) (b1 : Byte) (tail : List Byte),
    s.busReady ∧
    b1 ≠ 0 :=
  ⟨(busWith State.reset), (3 : Byte), (1 : Byte), ([] : List Byte), by decide⟩

theorem witness_BusWrites_6 : ∃ (s : State) (page : Byte) (x : Byte) (tail : List Byte),
    s.busReady ∧
    s.get F.SMB_CONFIG_pec = 0 :=
  ⟨(busWith State.reset), (3 : Byte), (1 : Byte), ([2] : List Byte), by decide⟩

theorem witness_BusWrites_7 : ∃ (s : State) (r : Fin 64) (c : Byte) (l : List Byte),
    s.busReady ∧
    ((252 < c.toNat ∨ c.toNat % 4 ≠ 0 ∨ 4 * (64 - r.val) < c.toNat)) :=
  ⟨(busWith State.reset), (6 : Fin 64), (5 : Byte), ([] : List Byte), by decide⟩

theorem witness_BusWrites_8 : ∃ (s : State) (r : Fin 64) (c : Byte) (l : List Byte),
    s.busReady ∧
    c.toNat ≤ 252 ∧
    c.toNat % 4 = 0 ∧
    c.toNat ≤ 4 * (64 - r.val) ∧
    l.length < c.toNat :=
  ⟨(busWith State.reset), (6 : Fin 64), (8 : Byte), ([1, 2, 3] : List Byte), by decide⟩

theorem witness_BusWrites_9 : ∃ (s : State) (v : Word),
    s.busReady ∧
    s.get F.SMB_CONFIG_pec = 0 ∧
    hasKey (s.get F.SMB_STATUS_page) = true :=
  ⟨(((busWith State.reset).set F.SMB_STATUS_page 3)), (0x12345678 : Word), by decide⟩

theorem witness_BusWrites_10 : ∃ (s : State) (m : Byte),
    s.busReady ∧
    s.get F.SMB_CONFIG_pec = 0 ∧
    m ≠ 0 :=
  ⟨(busWith State.reset), (2 : Byte), by decide⟩

theorem witness_BusWrites_11 : ∃ (s : State),
    s.busReady ∧
    s.get F.SMB_CONFIG_pec = 0 :=
  ⟨(busWith State.reset), by decide⟩

theorem witness_BusWrites_12 : ∃ (s : State) (c : Byte) (l : List Byte),
    s.busReady ∧
    windowUnit (s.get F.SMB_STATUS_page) = none :=
  ⟨((busWith State.reset).set F.SMB_STATUS_page 3), (8 : Byte), ([] : List Byte), by decide⟩

theorem witness_BusWrites_13 : ∃ (s : State) (c : Byte) (l : List Byte) (u : Nat),
    s.busReady ∧
    windowUnit (s.get F.SMB_STATUS_page) = some u ∧
    c.toNat % u ≠ 0 :=
  ⟨((busWith State.reset).set F.SMB_STATUS_page 0x10), (7 : Byte), ([] : List Byte), (8 : Nat), by decide⟩

theorem witness_BusWrites_14 : ∃ (s : State) (w : Word),
    s.busReady ∧
    s.get F.SMB_STATUS_page = 0x10 ∧
    s.get F.SMB_CONFIG_pec = 0 ∧
    s.get F.LEX_STATUS_state ≠ 1 :=
  ⟨(((busWith State.reset).set F.SMB_STATUS_page 0x10).set F.LEX_STATUS_state 0), (8 : Word), by decide⟩

theorem witness_BusWrites_15 : ∃ (s : State) (a : Word) (b : Word),
    s.busReady ∧
    s.get F.SMB_STATUS_page = 0x10 ∧
    s.get F.SMB_CONFIG_pec = 0 ∧
    s.get F.LEX_STATUS_state = 1 :=
  ⟨(((busWith State.reset).set F.SMB_STATUS_page 0x10).set F.LEX_STATUS_state 1), (8 : Word), (9 : Word), by decide⟩

theorem witness_BusWrites_16 : ∃ (s : State),
    s.busReady :=
  ⟨(busWith State.reset), by decide⟩

theorem witness_BusReads_1 : ∃ (s : State) (r : Fin 64),
    s.busReady ∧
    s.get F.SMB_STATUS_page = 6 ∧
    s.get F.SMB_CONFIG_pec ≠ 0 ∧
    2 ≤ r.val :=
  ⟨(((busWith State.reset).set F.SMB_STATUS_page 6).set F.SMB_CONFIG_pec 1), (2 : Fin 64), by decide⟩

theorem witness_BusReads_2 : ∃ (s : State),
    s.busReady ∧
    s.get F.SMB_STATUS_page = 2 ∧
    s.get F.SMB_CONFIG_pec = 0 :=
  ⟨((busWith State.reset).set F.SMB_STATUS_page 2), by decide⟩

theorem witness_BusReads_3 : ∃ (s : State),
    s.busReady ∧
    s.get F.SMB_STATUS_page = 0 ∧
    s.get F.SMB_CONFIG_pec = 0 :=
  ⟨((busWith State.reset).set F.SMB_STATUS_page 0), by decide⟩

theorem witness_BusReads_4 : ∃ (s : State) (k : Fin 4),
    s.busReady ∧
    s.get F.SMB_STATUS_page = 0 :=
  ⟨((busWith State.reset).set F.SMB_STATUS_page 0), (3 : Fin 4), by decide⟩

theorem witness_BusReads_5 : ∃ (s : State) (r : Fin 64),
    s.busReady ∧
    s.get F.SMB_STATUS_page = 6 ∧
    s.get F.SMB_CONFIG_pec = 0 ∧
    s.get F.SMB_CONFIG_rd_len = 8 ∧
    2 ≤ r.val ∧
    r.val < 63 :=
  ⟨(((busWith State.reset).set F.SMB_STATUS_page 6).set F.SMB_CONFIG_rd_len 8), (8 : Fin 64), by decide⟩

theorem witness_BusReads_6 : ∃ (s : State),
    s.busReady :=
  ⟨(busWith State.reset), by decide⟩

theorem witness_BusReads_7 : ∃ (s : State),
    s.busReady :=
  ⟨(busWith State.reset), by decide⟩

theorem witness_BusReads_8 : ∃ (s : State),
    s.busReady ∧
    s.flag F.SMB_CONFIG_alert_mode = false :=
  ⟨(busWith State.reset), by decide⟩

theorem witness_BusReads_9 : ∃ (s : State) (k : Fin 17),
    s.busReady :=
  ⟨(busWith State.reset), (16 : Fin 17), by decide⟩

theorem witness_BusReads_10 : ∃ (s : State) (k : Nat),
    s.busReady ∧
    windowUnit (s.get F.SMB_STATUS_page) = none :=
  ⟨((busWith State.reset).set F.SMB_STATUS_page 3), (9 : Nat), by decide⟩

theorem witness_BusReads_11 : ∃ (s : State),
    s.busReady ∧
    s.get F.SMB_STATUS_page = 7 ∧
    s.get F.SMB_CONFIG_rd_len = 4 ∧
    s.get F.SMB_CONFIG_pec = 0 :=
  ⟨(((busWith State.reset).set F.SMB_STATUS_page 7).set F.SMB_CONFIG_rd_len 4), by decide⟩

theorem witness_BusReads_12 : ∃ (s : State) (k : Nat),
    s.busReady :=
  ⟨(busWith State.reset), (3 : Nat), by decide⟩

theorem witness_BusReads_14 : ∃ (s : State) (n : Port),
    s.ember.dev = .lit :=
  ⟨(busWith State.reset), (1 : Port), by decide⟩

theorem witness_BusAlertsAndErrors_1 : ∃ (s : State) (k : Nat),
    s.busReady ∧
    s.alertPin = true ∧
    s.flag F.SMB_CONFIG_alert_mode = false ∧
    1 ≤ k :=
  ⟨(alerting State.reset), (1 : Nat), by decide⟩

theorem witness_BusAlertsAndErrors_2 : ∃ (s : State) (r : Byte) (k : Nat),
    s.busReady ∧
    s.alertPin = true ∧
    r.toNat < (s.addrByte false).toNat :=
  ⟨((alerting State.reset).set F.SMB_STATUS_addr 0x60), (3 : Byte), (1 : Nat), by decide⟩

theorem witness_BusAlertsAndErrors_3 : ∃ (s : State) (r : Option Byte) (k : Nat),
    s.alertPin = false :=
  ⟨(inDev .smoulder State.reset), (none : Option Byte), (1 : Nat), by decide⟩

theorem witness_BusAlertsAndErrors_4 : ∃ (s : State) (b : Fin 32),
    s.flag F.SMB_CONFIG_alert_mode = false ∧
    hasEvent 6 b.val = true ∧
    s.get (eventField 6 b.val) = 1 ∧
    s.get ⟨.single, 0x060C, b.val, 1⟩ = 1 :=
  ⟨(alerting State.reset), (0 : Fin 32), by decide⟩

theorem witness_BusAlertsAndErrors_5 : ∃ (s : State),
    s.pageAnswers 6 = true ∧
    s.anyAlert = true ∧
    s.flag F.SMB_CONFIG_alert_mode = false :=
  ⟨(alerting State.reset), by decide⟩

theorem witness_BusAlertsAndErrors_6 : ∃ (s : State),
    s.anyAlert = false :=
  ⟨(State.reset), by decide⟩

theorem witness_BusAlertsAndErrors_7 : ∃ (s : State) (v : Word),
    4 ≤ bitsGet v 16 8 ∧
    bitsGet v 16 8 ≤ 252 ∧
    bitsGet v 16 8 % 4 = 0 ∧
    bitsGet v 0 2 ≤ 2 ∧
    s.pageAnswers 6 = true :=
  ⟨(lit (State.reset)), (0x00080011 : Word), by decide⟩

theorem witness_BusAlertsAndErrors_8 : ∃ (s : State) (v : Word),
    bitsGet v 16 8 % 4 ≠ 0 ∧
    s.pageAnswers 6 = true :=
  ⟨(lit (State.reset)), (0x00090011 : Word), by decide⟩

theorem witness_BusAlertsAndErrors_9 : ∃ (s : State) (how : TxnEnd) (c : Byte) (k : Fin 256),
    s.busReady :=
  ⟨(busWith State.reset), (.early : TxnEnd), (3 : Byte), (2 : Fin 256), by decide⟩

theorem witness_BusAlertsAndErrors_10 : ∃ (s : State) (c : Option Byte) (k : Fin 256),
    s.busReady :=
  ⟨(busWith State.reset), (none : Option Byte), (2 : Fin 256), by decide⟩

theorem witness_BusAlertsAndErrors_11 : ∃ (s : State) (self : Bool) (c : Option Byte) (k : Fin 256),
    s.busReady :=
  ⟨(busWith State.reset), (true : Bool), (none : Option Byte), (2 : Fin 256), by decide⟩

theorem witness_BusAlertsAndErrors_12 : ∃ (s : State) (a : BitVec 7),
    s.ember.dev = .smoulder ∧
    s.flag F.EMB_WAKE_EN_smbus = true ∧
    s.flag F.EMB_STATUS_vsys_ok = true ∧
    s.flag F.EMB_STATUS_vddio_ok = true ∧
    a.toNat = s.get F.SMB_STATUS_addr ∧
    s.ember.latched = none :=
  ⟨(((((low .smoulder State.reset).set F.EMB_WAKE_EN_smbus 1).set F.EMB_STATUS_vsys_ok 1).set F.EMB_STATUS_vddio_ok 1).set F.SMB_STATUS_addr 0x60), (0x60 : BitVec 7), by decide⟩

theorem witness_BusAlertsAndErrors_13 : ∃ (s : State) (a : BitVec 7),
    ((s.ember.dev ≠ .smoulder ∨ s.flag F.EMB_WAKE_EN_smbus = false ∨ a.toNat ≠ s.get F.SMB_STATUS_addr)) :=
  ⟨(busWith State.reset), (0x60 : BitVec 7), by decide⟩

theorem witness_BusAlertsAndErrors_14 : ∃ (s : State) (c : Byte),
    s.ember.dev = .banked ∧
    s.ember.entry = none ∧
    c.toNat < 0x80 ∧
    hearthHeldPage (s.get F.SMB_STATUS_page) = true :=
  ⟨((low .banked State.reset).set F.SMB_STATUS_page 0x21), (3 : Byte), by decide⟩

theorem witness_BusAlertsAndErrors_15 : ∃ (s : State) (c : Byte),
    ((s.ember.dev ≠ .banked ∨ hearthHeldPage (s.get F.SMB_STATUS_page) = false)) :=
  ⟨(busWith State.reset), (3 : Byte), by decide⟩

theorem witness_RegisterAccess_1 : ∃ (s : State) (page : Byte) (v : Word),
    s.ember.dev = .lit ∧
    hasKey page.toNat = true :=
  ⟨(lit State.reset), (3 : Byte), (0x12345678 : Word), by decide⟩

theorem witness_RegisterAccess_3 : ∃ (s : State) (a : Fin 65536) (v : Word),
    ((s.ember.dev = .smoulder ∨ s.ember.dev = .cold)) :=
  ⟨(inDev .cold State.reset), (0x0320 : Fin 65536), (5 : Word), by decide⟩

theorem witness_RegisterAccess_4 : ∃ (s : State) (page : Byte) (v : Word) (b : Fin 32),
    page.toNat < 0x60 ∧
    hasEvent page.toNat b.val = true ∧
    v.getLsbD b.val = true ∧
    s.pageAnswers page.toNat = true ∧
    s.justSet page.toNat b.val = false ∧
    (((page.toNat = 0x0B ∨ page.toNat = 0x0C) → s.cmpJust (32 * (page.toNat - 0x0B) + b.val) = false)) :=
  ⟨(noReports (lit (alerting State.reset))), (6 : Byte), (1 : Word), (0 : Fin 32), by decide⟩

theorem witness_RegisterAccess_5 : ∃ (s : State) (page : Byte) (v : Word),
    s.pageAnswers page.toNat = false :=
  ⟨(inDev .cold State.reset), (6 : Byte), (1 : Word), by decide⟩

theorem witness_RegisterAccess_7 : ∃ (s : State) (page : Byte) (v : Word) (b : Fin 32),
    page.toNat ≠ 1 ∧
    hasEvent page.toNat b.val = true ∧
    v.getLsbD b.val = false :=
  ⟨(alerting State.reset), (6 : Byte), (2 : Word), (0 : Fin 32), by decide⟩

theorem witness_RegisterAccess_8 : ∃ (s : State) (v : Word),
    s.pageAnswers 6 = true :=
  ⟨(lit (State.reset)), (7 : Word), by decide⟩

theorem witness_RegisterAccess_9 : ∃ (s : State) (v : Word) (b : Fin 10),
    s.flag F.SMB_CONFIG_alert_mode = false ∧
    v.getLsbD b.val = true ∧
    s.get ⟨.single, 0x060C, b.val, 1⟩ = 0 ∧
    s.get (eventField 6 b.val) = 1 ∧
    s.pageAnswers 6 = true :=
  ⟨(lit ((alerting State.reset).set ⟨.single, 0x060C, 0, 32⟩ 0)), (1 : Word), (0 : Fin 10), by decide⟩

theorem witness_RegisterAccess_10 : ∃ (s : State) (page : Byte) (v : Word),
    s.pageAnswers page.toNat = false :=
  ⟨(inDev .cold State.reset), (6 : Byte), (1 : Word), by decide⟩

theorem witness_RegisterAccess_11 : ∃ (s : State) (page : Byte) (v : Word) (r : RegRow),
    regRow (page.toNat * 256 + 8) = some r ∧
    page.toNat < 0x20 ∧
    s.pageAnswers page.toNat = true :=
  ⟨(lit State.reset), (6 : Byte), (7 : Word), (((regRow 0x608).getD { off := 0, count := 1 }) : RegRow), by decide⟩

theorem witness_RegisterAccess_12 : ∃ (s : State) (page : Byte) (v : Word),
    0x60 ≤ page.toNat :=
  ⟨(State.reset), (0x61 : Byte), (5 : Word), by decide⟩

theorem witness_ForceBits_1 : ∃ (s : State) (k : Fin 64) (v : Word),
    v.getLsbD (k.val % 32) = true ∧
    s.pageAnswers (0x0B + (Fin.ofNat 2 (k.val / 32)).val) = true :=
  ⟨(lit (flueWith [] (State.reset.set (cmpCfg F.CMP_CFG_flue_en (37 : Fin 64)) 1))), (37 : Fin 64), (0x20#32 : Word), by decide⟩

theorem witness_FirstErrorRecord_1 : ∃ (s : State) (r : Report) (level : Nat) (merges : Nat),
    merges < 256 ∧
    s.flue.first = none :=
  ⟨(State.reset), ({ tick := 5, source := 0x31, unit := 2, detail := 3, master := 0, access := 0, due := 5 } : Report), (1 : Nat), (0 : Nat), by decide⟩

theorem witness_FirstErrorRecord_2 : ∃ (s : State) (r : Report) (level : Nat) (merges : Nat) (kind : Nat),
    ((s.flue.first.isSome = true ∨ kind ≠ 0)) :=
  ⟨(State.reset), ({ tick := 5, source := 0x31, unit := 2, detail := 3, master := 0, access := 0, due := 5 } : Report), (1 : Nat), (0 : Nat), (1 : Nat), by decide⟩

theorem witness_FirstErrorRecord_4 : ∃ (s : State),
    ((∀ k : Fin 4, s.word (0x0434 + 4 * k.val) 0 = 0)) ∧
    s.get F.ASH_STATUS_first_valid = 0 ∧
    s.pageAnswers 4 = true :=
  ⟨(lit State.reset), by decide⟩

theorem witness_ReservedPages_1 : ∃ (s : State) (page : Byte) (off : Byte),
    0x15 ≤ page.toNat ∧
    page.toNat ≤ 0x1F :=
  ⟨(State.reset), (0x17 : Byte), (0x20 : Byte), by decide⟩

theorem witness_ReservedPages_2 : ∃ (s : State) (page : Byte) (off : Byte) (v : Word),
    0x15 ≤ page.toNat ∧
    page.toNat ≤ 0x1F :=
  ⟨(State.reset), (0x17 : Byte), (0x20 : Byte), (5 : Word), by decide⟩

theorem witness_ReservedPages_3 : ∃ (s : State) (r : Fin 64) (v : Word),
    s.busReady ∧
    s.get F.SMB_CONFIG_pec = 0 ∧
    0x15 ≤ s.get F.SMB_STATUS_page ∧
    s.get F.SMB_STATUS_page ≤ 0x1F :=
  ⟨((busWith State.reset).set F.SMB_STATUS_page 0x17), (8 : Fin 64), (5 : Word), by decide⟩

theorem witness_ReservedPages_4 : ∃ (s : State) (r : Fin 64),
    s.busReady ∧
    s.get F.SMB_CONFIG_pec = 0 ∧
    0x15 ≤ s.get F.SMB_STATUS_page ∧
    s.get F.SMB_STATUS_page ≤ 0x1F :=
  ⟨((busWith State.reset).set F.SMB_STATUS_page 0x17), (8 : Fin 64), by decide⟩

theorem witness_PowerKeySpent_1 : ∃ (s : State) (v : Word),
    s.pageAnswers 1 = true :=
  ⟨((lit State.reset).set F.EMB_KEY_key 0xC5), (3 : Word), by decide⟩

theorem witness_PowerKeySpent_2 : ∃ (s : State) (v : Word),
    s.pageAnswers 1 = true ∧
    s.ember.dev = .lit ∧
    ((bitsGet v 0 4 = 3 ∨ bitsGet v 0 4 = 4)) ∧
    s.get F.EMB_KEY_key ≠ 0xC5 :=
  ⟨(lit State.reset), (3 : Word), by decide⟩



end Sys2Proof.Tests
end

section
/-! PROOF. The reserved pages 0x15 to 0x1F (R27): the register table maps nothing there, but a write of EVENT settles the alert latch on every
page below 0x60, these among them. -/

namespace Sys2Proof.Machine

/-! ### What a write of EVENT does on a reserved page -/

/-- The register table maps nothing on the reserved pages. -/
theorem regRows_reserved {page : Nat} (hlo : 0x15 ≤ page) (hhi : page ≤ 0x1F) : regRows page = [] := by
  have hpage : page = 0x15 ∨ page = 0x16 ∨ page = 0x17 ∨ page = 0x18 ∨ page = 0x19 ∨ page = 0x1A ∨ page = 0x1B ∨ page = 0x1C ∨
      page = 0x1D ∨ page = 0x1E ∨ page = 0x1F := by omega
  rcases hpage with rfl | rfl | rfl | rfl | rfl | rfl | rfl | rfl | rfl | rfl | rfl <;> rfl

theorem hasEvent_reserved {page : Nat} (hlo : 0x15 ≤ page) (hhi : page ≤ 0x1F) (bit : Nat) : hasEvent page bit = false := by
  have hrow : regRow (page * 256 + 8) = none := by
    rw [regRow, pageOf_add page 8 (by decide), regRows_reserved hlo hhi]; rfl
  simp only [hasEvent, hrow]

/-- A fold whose step changes nothing ends where it began. -/
theorem foldl_unchanged {α β : Type} (l : List β) (a : α) : l.foldl (fun t _ => t) a = a := by
  induction l with
  | nil => rfl
  | cons x xs ih => exact ih

/-- With no bit to clear, what is left of a write of EVENT is the release of the alert latch (R415). -/
theorem State.eventClear_reserved (s : State) {page : Nat} (hlo : 0x15 ≤ page) (hhi : page ≤ 0x1F) (v : Nat) :
    s.eventClear page v = s.alertSettle := by
  have hpage : ¬0x60 ≤ page := by omega
  have hemb : page ≠ 1 := by omega
  simp only [State.eventClear, hpage, hemb, hasEvent_reserved hlo hhi, Bool.and_false, Bool.false_and, Bool.false_eq_true, if_false,
    false_and, foldl_unchanged]

theorem State.hostWrite_event (s : State) {page : Nat} (v : Word) (h : s.pageAnswers page = true) :
    s.hostWrite (page * 256 + 8) v = s.eventClear page v.toNat := by
  have haddr : (page * 256 + 8) % 256 / 4 * 4 = 8 := by omega
  unfold State.hostWrite
  simp only [pageOf_add page 8 (by decide), h, haddr, Bool.not_true, Bool.false_eq_true, if_false]

/-- Without an alert bit in the summary, settling releases the latch. -/
theorem State.alertSettle_released (s : State) (h : s.anyAlert = false) : s.alertSettle.get F.SMB_STATUS_alert = 0 := by
  have hsettle : s.alertSettle = s.set F.SMB_STATUS_alert 0 := by
    simp only [State.alertSettle, h, Bool.false_eq_true, if_false]
  rw [hsettle]
  exact s.get_set_same F.SMB_STATUS_alert 0 (by decide)

/-! ### A state in which the release shows -/

/-- The reset state in Lit, with the alert of mode 0 latched and every EVENT bit clear. -/
def latchedAlert : State :=
  { State.reset.set F.SMB_STATUS_alert 1 with ember := { State.reset.ember with dev := .lit } }

theorem latchedAlert_get : latchedAlert.get F.SMB_STATUS_alert = 1 := by decide

theorem latchedAlert_anyAlert : latchedAlert.anyAlert = false := by decide

/-- On that state a write to EVENT of the reserved page 0x15 clears SMB.STATUS.alert. -/
theorem latchedAlert_hostWrite (v : Word) : (latchedAlert.hostWrite (0x15 * 256 + 8) v).get F.SMB_STATUS_alert = 0 := by
  rw [State.hostWrite_event latchedAlert v rfl, State.eventClear_reserved latchedAlert (by decide) (by decide)]
  exact latchedAlert.alertSettle_released latchedAlert_anyAlert

/-- Refutes O47: with the alert of mode 0 latched and the summary all zero, a write to EVENT of page 0x15 does not leave the state as it was,
since it clears SMB.STATUS.alert. -/
theorem not_reservedPages : ¬ Obligations.ReservedPages := by
  unfold Obligations.ReservedPages
  rintro ⟨-, hwrite, -, -⟩
  obtain ⟨t, hexec, hkeep⟩ := hwrite latchedAlert 0x15 8 0 (by decide) (by decide)
  have hstep : t = latchedAlert.hostWrite (0x15 * 256 + 8) 0 := (Host.Outcome.next.inj hexec).symm
  have hcleared := latchedAlert_hostWrite 0
  rw [← hstep, hkeep, latchedAlert_get] at hcleared
  exact absurd hcleared (by decide)

end Sys2Proof.Machine
end

section
/-! PROOF. The key of the power-state requests (R49): every write of EMB.PSTATE_CMD clears it, and a Smoulder or Cold request without it
leaves the power state alone. -/

namespace Sys2Proof.Machine

/-! ### What leaves EMB.KEY alone -/

/-- A write of a field that shares no bit with EMB.KEY leaves the key. -/
theorem State.key_set (s : State) (f : Field) (v : Nat) (hfits : f.fits) (hapart : f.apart F.EMB_KEY_key) :
    (s.set f v).get F.EMB_KEY_key = s.get F.EMB_KEY_key := s.get_set_apart f _ v hfits hapart

theorem State.key_cleared (s : State) : (s.set F.EMB_KEY_key 0).get F.EMB_KEY_key = 0 :=
  s.get_set_same F.EMB_KEY_key 0 (by decide)

theorem State.key_setEmber (s : State) (e : Ember) :
    ({ s with ember := e } : State).get F.EMB_KEY_key = s.get F.EMB_KEY_key := State.get_congr s _ _ rfl rfl

@[simp] theorem State.pstateRefuse_key (s : State) (code : Nat) :
    (s.pstateRefuse code).get F.EMB_KEY_key = s.get F.EMB_KEY_key := by
  rw [State.pstateRefuse, State.key_set _ _ _ (by decide) (by decide), State.eventHost_get, State.key_set _ _ _ (by decide) (by decide)]

/-- A refusal records its reason and reports; the power state stays. -/
@[simp] theorem State.pstateRefuse_ember (s : State) (code : Nat) : (s.pstateRefuse code).ember = s.ember := by
  simp [State.pstateRefuse, State.eventHost]

@[simp] theorem State.recordWake_key (s : State) (w : Wake) (origin : Nat) (inEntry : Bool) :
    (s.recordWake w origin inEntry).get F.EMB_KEY_key = s.get F.EMB_KEY_key := by
  dsimp only [State.recordWake, State.bump, State.setB]
  rw [State.key_set _ _ _ (by decide) (by decide), State.event_get]
  iterate 5 rw [State.key_set _ _ _ (by decide) (by decide)]

@[simp] theorem State.wakeBanked_key (s : State) (w : Wake) (inEntry : Bool) :
    (s.wakeBanked w inEntry).get F.EMB_KEY_key = s.get F.EMB_KEY_key := by
  dsimp only [State.wakeBanked]
  split <;> simp

/-! ### Every request clears the key, accepted or refused -/

theorem State.pstateRequest_key (s : State) (target : DevState) (needKey : Bool) :
    (s.pstateRequest target needKey).get F.EMB_KEY_key = 0 := by
  dsimp only [State.pstateRequest]
  split
  case isTrue => rw [State.pstateRefuse_key, State.key_cleared]
  case isFalse => rw [State.start_get, State.key_setEmber, State.key_cleared]

theorem State.pstateLit_key (s : State) : s.pstateLit.get F.EMB_KEY_key = 0 := by
  dsimp only [State.pstateLit]
  split
  case isTrue => simp [State.key_cleared]
  case isFalse => split <;> simp [State.key_cleared]

theorem State.pstateReserved_key (s : State) : s.pstateReserved.get F.EMB_KEY_key = 0 := by
  simp [State.pstateReserved, State.key_cleared]

/-- R49 for each request code of Table 3.3. -/
theorem State.pstateWrite_key (s : State) (v : Word) : (s.pstateWrite v).get F.EMB_KEY_key = 0 := by
  unfold State.pstateWrite
  split
  · exact s.key_cleared
  · exact s.pstateLit_key
  · exact s.pstateRequest_key .banked false
  · exact s.pstateRequest_key .smoulder true
  · exact s.pstateRequest_key .cold true
  · exact s.pstateReserved_key

/-! ### A request without its key -/

/-- Whatever else stands against it, a request that needs the key is refused without it (Table 3.4). -/
theorem State.pstateRefusal_of_no_key (s : State) (target : DevState) (hkey : s.get F.EMB_KEY_key ≠ 0xC5) :
    s.pstateRefusal target true ≠ 0 := by
  simp only [State.pstateRefusal, hkey, ne_eq, not_false_eq_true, and_self, if_true]
  (repeat' split) <;> decide

theorem State.pstateRequest_ember_of_refused (s : State) (target : DevState) (needKey : Bool)
    (hcode : s.pstateRefusal target needKey ≠ 0) : (s.pstateRequest target needKey).ember = s.ember := by
  dsimp only [State.pstateRequest]
  rw [if_pos hcode, State.pstateRefuse_ember, State.set_ember]

theorem State.pstateWrite_smoulder (s : State) {v : Word} (hreq : bitsGet v 0 4 = 3) :
    s.pstateWrite v = s.pstateRequest .smoulder true := by
  simp only [State.pstateWrite, hreq]

theorem State.pstateWrite_cold (s : State) {v : Word} (hreq : bitsGet v 0 4 = 4) :
    s.pstateWrite v = s.pstateRequest .cold true := by
  simp only [State.pstateWrite, hreq]

/-- Without the key a request for Smoulder or Cold begins no entry. -/
theorem State.pstateWrite_ember_of_no_key (s : State) {v : Word} (hreq : bitsGet v 0 4 = 3 ∨ bitsGet v 0 4 = 4)
    (hkey : s.get F.EMB_KEY_key ≠ 0xC5) : (s.pstateWrite v).ember = s.ember := by
  rcases hreq with hsmoulder | hcold
  · rw [s.pstateWrite_smoulder hsmoulder]
    exact s.pstateRequest_ember_of_refused .smoulder true (s.pstateRefusal_of_no_key .smoulder hkey)
  · rw [s.pstateWrite_cold hcold]
    exact s.pstateRequest_ember_of_refused .cold true (s.pstateRefusal_of_no_key .cold hkey)

/-! ### The register write -/

theorem exec_registerWrite (s : State) (addr : Nat) (v : Word) :
    exec (.registerWrite addr v) s = .next (s.hostWrite (addr % 65536) v) := by
  rfl

/-- Where page EMB answers, a write at 0x0120 is a write of PSTATE_CMD. -/
theorem State.hostWrite_pstateCmd (s : State) (v : Word) (hanswers : s.pageAnswers 1 = true) :
    s.hostWrite 0x0120 v = s.pstateWrite v := by
  have hpage : pageOf 0x0120 = 1 := rfl
  simp [State.hostWrite, State.devRegWrite, hpage, hanswers]

theorem exec_registerWrite_pstateCmd (s : State) (v : Word) (hanswers : s.pageAnswers 1 = true) :
    exec (.registerWrite 0x0120 v) s = .next (s.pstateWrite v) := by
  rw [exec_registerWrite, Nat.mod_eq_of_lt (by decide), s.hostWrite_pstateCmd v hanswers]

/-- Settles O48: each request code clears the key, and a Smoulder or Cold request without it is refused. -/
theorem powerKeySpent : Obligations.PowerKeySpent := by
  unfold Obligations.PowerKeySpent
  constructor
  · intro s v hanswers
    exact ⟨s.pstateWrite v, exec_registerWrite_pstateCmd s v hanswers, s.pstateWrite_key v⟩
  · intro s v hanswers hlit hreq hkey
    have hember := s.pstateWrite_ember_of_no_key hreq hkey
    exact ⟨s.pstateWrite v, exec_registerWrite_pstateCmd s v hanswers, by rw [hember], by rw [hember, hlit]⟩

end Sys2Proof.Machine
end

section
/-! PROOF. FORCE of a comparator (R341) whose report pair FLU.INJECT holds equal (R362): the latch sets, and no CMP_WINDOW is reported, since
Flue takes no report from a pair that reads equal (R361). -/

namespace Sys2Proof.Machine

/-! ### A pair that reads equal -/

theorem State.report_of_pairEqual (s : State) {source unit : Nat} (detail master access : Nat) (bit : Option Nat)
    (hequal : s.pairEqual source unit = true) : s.report source unit detail master access bit = s := by
  rw [State.report, if_pos hequal]

/-- Whether a pair reads equal depends on Flue's state and the tick alone. -/
theorem State.pairEqual_congr {s t : State} (hflue : t.flue = s.flue) (htbase : t.tbase = s.tbase) (source unit : Nat) :
    t.pairEqual source unit = s.pairEqual source unit := by
  unfold State.pairEqual
  rw [hflue, htbase]

/-! ### What latching leaves alone -/

/-- The parts that a trigger changes at most: the two hearths. -/
def Part.isHearth (p : Part) : Bool := p = .hA || p = .hB

theorem State.traceTrigger_within_hearths (s : State) (c : TrcCause) :
    Within (fun _ => false) Part.isHearth s (s.traceTrigger c) :=
  State.traceTrigger_within rfl rfl (.refl s)

@[simp] theorem State.traceTrigger_flue (s : State) (c : TrcCause) : (s.traceTrigger c).flue = s.flue :=
  (s.traceTrigger_within_hearths c).parts .flue rfl

@[simp] theorem State.traceTrigger_tbase (s : State) (c : TrcCause) : (s.traceTrigger c).tbase = s.tbase :=
  (s.traceTrigger_within_hearths c).parts .tbase rfl

@[simp] theorem State.cmpMark_flue (s : State) (g : CmpArray → CmpArray) : (s.cmpMark g).flue = s.flue := rfl

@[simp] theorem State.cmpMark_tbase (s : State) (g : CmpArray → CmpArray) : (s.cmpMark g).tbase = s.tbase := rfl

/-- A latch set while the comparator's pair reads equal brings Flue nothing, on a rising edge and with flue_en too. -/
theorem State.cmpLatch_flue_of_pairEqual (s : State) (k : Fin 64) (upper : Bool) (access : Nat)
    (hequal : s.pairEqual 0x68 k.val = true) : (s.cmpLatch k upper access).flue = s.flue := by
  unfold State.cmpLatch
  extract_lets marked sided latched traced
  have hflue : traced.flue = s.flue := by simp [traced, latched, sided, marked, State.bump, State.setB]
  have htbase : traced.tbase = s.tbase := by simp [traced, latched, sided, marked, State.bump, State.setB]
  split
  case isTrue => simp [sided, marked, State.setB]
  case isFalse =>
    split
    case isTrue => rw [State.report_of_pairEqual _ _ _ _ _ ((State.pairEqual_congr hflue htbase _ _).trans hequal), hflue]
    case isFalse => exact hflue

/-- FORCE of bit 5 of page 0x0C is that of comparator 37 and of no other. -/
theorem State.cmpForce_bit5 (s : State) : s.cmpForce 1 0x20#32 = s.cmpLatch 37 true 4 := by
  rfl

/-! ### A state in which the report is lost -/

/-- The reset state in Lit, with flue_en of comparator 37 set and its CMP_WINDOW named in FLU.TEST. -/
def forceUnderTest : State :=
  { ((State.reset.set (cmpCfg F.CMP_CFG_flue_en 37) 1).set F.FLU_TEST_source 0x68).set F.FLU_TEST_unit 37 with
    ember := { State.reset.ember with dev := .lit } }

/-- The second of the two ticks on which FLU.INJECT.report_path (bit 9) holds that pair equal. -/
def pairHeldEqual : State := (forceUnderTest.inject 0x200).idleTick

theorem pairHeldEqual_pairEqual : pairHeldEqual.pairEqual 0x68 37 = true := by decide

theorem pairHeldEqual_enabled : pairHeldEqual.flag (cmpCfg F.CMP_CFG_flue_en 37) = true := by decide

theorem pairHeldEqual_unlatched : pairHeldEqual.flag (cmpBit F.CMP_EVENT_latched 37) = false := by decide

theorem pairHeldEqual_unreported :
    (pairHeldEqual.flue.rails.any fun r => r.source = 0x68 && r.unit = 37 && r.detail = 1) = false := by decide

theorem exec_cmpForce (s : State) (page : Fin 2) (v : Word) (hanswers : s.pageAnswers (0x0B + page.val) = true) :
    exec (.cmpForce page v) s = .next (s.cmpForce page v) := by
  show Host.Outcome.next (s.answered _ _) = _
  rw [State.answered, if_pos hanswers]

/-- Refutes O45: its hypotheses leave out the pair that FLU.INJECT holds equal. With that of comparator 37 held so, FORCE of its bit
reports no CMP_WINDOW, although flue_en is set and its latch was clear. -/
theorem not_forceBits : ¬ Obligations.ForceBits := by
  unfold Obligations.ForceBits
  intro h
  have hanswers : pairHeldEqual.pageAnswers 0x0C = true := by decide
  obtain ⟨t, hexec, -, -, hreport, -⟩ := h pairHeldEqual 37 0x20#32 (by decide) hanswers
  have hstep : t = pairHeldEqual.cmpLatch 37 true 4 := by
    rw [← State.cmpForce_bit5]
    exact (Host.Outcome.next.inj ((exec_cmpForce _ 1 _ hanswers).symm.trans hexec)).symm
  have hflue : t.flue = pairHeldEqual.flue :=
    hstep ▸ pairHeldEqual.cmpLatch_flue_of_pairEqual 37 true 4 pairHeldEqual_pairEqual
  have hreported := hreport pairHeldEqual_enabled pairHeldEqual_unlatched (by decide)
  rw [hflue] at hreported
  exact absurd (hreported.symm.trans pairHeldEqual_unreported) (by decide)

end Sys2Proof.Machine
end

section
/-! PROOF. The first-error record (R379): what Flue does on a merge leaves it alone, the entry that sets it is what the FIRST registers show, and
first_clear empties them. -/

namespace Sys2Proof.Machine

/-! ### Operations that leave Flue's own state alone -/

/-- Every part but Flue's own. -/
def Part.notFlue (p : Part) : Bool := p ≠ .flue

theorem flue_of_within {s t : State} (h : Within (fun _ => true) Part.notFlue s t) : t.flue = s.flue := h.parts .flue rfl

@[simp] theorem State.setB_flue (s : State) (f : Field) (b : Bool) : (s.setB f b).flue = s.flue := rfl

@[simp] theorem State.setBit_flue (s : State) (f : Field) (i : Nat) (b : Bool) : (s.setBit f i b).flue = s.flue := rfl

@[simp] theorem State.bump_flue (s : State) (f : Field) : (s.bump f).flue = s.flue := rfl

@[simp] theorem State.modCap_flue (s : State) (n : Port) (f : CapPort → CapPort) : (s.modCap n f).flue = s.flue := rfl

theorem State.flue_setEmber (s : State) (e : Ember) : ({ s with ember := e } : State).flue = s.flue := rfl

@[simp] theorem State.modFed_flue (s : State) (g : FeedSel → FeedSel) : (s.modFed g).flue = s.flue := rfl

@[simp] theorem State.bumpSat_flue (s : State) (f : Field) : (s.bumpSat f).flue = s.flue :=
  flue_of_within (State.bumpSat_within rfl (.refl s))

@[simp] theorem State.setIn_flue (s : State) (hs : List Hth) (f : Field) (v : Nat) : (s.setIn hs f v).flue = s.flue :=
  flue_of_within (State.setIn_within rfl (.refl s))

@[simp] theorem State.roleBump_flue (s : State) : s.roleBump.flue = s.flue :=
  flue_of_within (State.roleBump_within rfl rfl (.refl s))

@[simp] theorem State.setRole_flue (s : State) (h : Hth) (r : Role) : (s.setRole h r).flue = s.flue :=
  flue_of_within (State.setRole_within rfl (.refl s))

@[simp] theorem State.lossRecord_flue (s : State) (h : Hth) (c : LossCause) (output port : Nat) :
    (s.lossRecord h c output port).flue = s.flue :=
  flue_of_within (State.lossRecord_within rfl rfl (.refl s))

@[simp] theorem State.copyAbandon_flue (s : State) : s.copyAbandon.flue = s.flue :=
  flue_of_within (State.copyAbandon_within rfl rfl rfl (.refl s))

@[simp] theorem State.putHearth_flue (s : State) (h : Hth) (x : Hearth) : (s.putHearth h x).flue = s.flue :=
  flue_of_within (State.putHearth_within rfl rfl (.refl s))

@[simp] theorem State.stopAll_flue (s : State) (n : Port) (l : List TimerKind) : (s.stopAll n l).flue = s.flue :=
  flue_of_within (State.stopAll_within rfl (.refl s))

@[simp] theorem State.policyTimersStop_flue (s : State) (n : Port) : (s.policyTimersStop n).flue = s.flue :=
  flue_of_within (State.policyTimersStop_within rfl (.refl s))

@[simp] theorem State.authDrop_flue (s : State) (n : Port) : (s.authDrop n).flue = s.flue :=
  flue_of_within (State.authDrop_within rfl rfl rfl (.refl s))

@[simp] theorem State.advanceEpoch_flue (s : State) (n : Port) : (s.advanceEpoch n).flue = s.flue :=
  flue_of_within (State.advanceEpoch_within rfl rfl rfl (.refl s))

@[simp] theorem State.loseAdmission_flue (s : State) (n : Port) : (s.loseAdmission n).flue = s.flue :=
  flue_of_within (State.loseAdmission_within rfl rfl (.refl s))

@[simp] theorem State.txAbort_flue (s : State) (n : Port) : (s.txAbort n).flue = s.flue :=
  flue_of_within (State.txAbort_within rfl rfl rfl rfl rfl rfl (.refl s))

@[simp] theorem State.assemblyEnd_flue (s : State) (n : Port) : (s.assemblyEnd n).flue = s.flue :=
  flue_of_within (State.assemblyEnd_within rfl rfl rfl (.refl s))

@[simp] theorem State.vconnOff_flue (s : State) (n : Port) : (s.vconnOff n).flue = s.flue :=
  flue_of_within (State.vconnOff_within rfl rfl rfl (.refl s))

@[simp] theorem State.present_flue (s : State) (n : Port) (p : Pres) : (s.present n p).flue = s.flue :=
  flue_of_within (State.present_within rfl rfl rfl rfl (.refl s))

@[simp] theorem State.presentNow_flue (s : State) (n : Port) (p : Pres) : (s.presentNow n p).flue = s.flue :=
  flue_of_within (State.presentNow_within rfl rfl rfl (.refl s))

@[simp] theorem State.stageOff_flue (s : State) (n : Port) : (s.stageOff n).flue = s.flue :=
  flue_of_within (State.stageOff_within rfl rfl rfl rfl rfl (.refl s))

@[simp] theorem State.dschgOn_flue (s : State) (n : Port) : (s.dschgOn n).flue = s.flue :=
  flue_of_within (State.dschgOn_within rfl rfl rfl rfl (.refl s))

@[simp] theorem State.dschgOff_flue (s : State) (n : Port) : (s.dschgOff n).flue = s.flue :=
  flue_of_within (State.dschgOff_within rfl rfl rfl rfl (.refl s))

@[simp] theorem State.dschgStart_flue (s : State) (n : Port) : (s.dschgStart n).flue = s.flue :=
  flue_of_within (State.dschgStart_within rfl rfl rfl (.refl s))

@[simp] theorem State.gatesOff_flue (s : State) (n : Port) : (s.gatesOff n).flue = s.flue :=
  flue_of_within (State.gatesOff_within rfl rfl rfl (.refl s))

@[simp] theorem State.pathTimersStop_flue (s : State) (n : Port) : (s.pathTimersStop n).flue = s.flue :=
  flue_of_within (State.pathTimersStop_within rfl (.refl s))

@[simp] theorem State.fedGate_flue (s : State) (f : Nat) (on : Bool) : (s.fedGate f on).flue = s.flue :=
  flue_of_within (State.fedGate_within rfl (.refl s))

@[simp] theorem State.noticeDrop_flue (s : State) : s.noticeDrop.flue = s.flue :=
  flue_of_within (State.noticeDrop_within rfl rfl rfl rfl rfl (.refl s))

@[simp] theorem State.switchStop_flue (s : State) : s.switchStop.flue = s.flue :=
  flue_of_within (State.switchStop_within rfl rfl rfl (.refl s))

@[simp] theorem State.switchClose_flue (s : State) : s.switchClose.flue = s.flue :=
  flue_of_within (State.switchClose_within rfl rfl (.refl s))

/-! ### Operations that report, and leave the first-error record alone

Where an operation writes a field of a single register, its proof rewrites one step at a time, so that the kernel never has to compare two
states that differ in their registers. -/

/-- The record after a choice of two operations. -/
@[simp] theorem State.ite_first (c : Prop) [Decidable c] (s t : State) :
    (if c then s else t).flue.first = if c then s.flue.first else t.flue.first :=
  apply_ite (fun u : State => u.flue.first) c s t

/-- `t` holds the first-error record of `s`. A relation of its own, so that the steps of a fold are compared as states. -/
def State.KeepsFirst (s t : State) : Prop := t.flue.first = s.flue.first

/-- What leaves the record alone leaves it alone over a list. -/
theorem State.foldl_first {α : Type} (f : State → α → State) (hf : ∀ (t : State) (x : α), t.KeepsFirst (f t x)) (l : List α) (s : State) :
    (l.foldl f s).flue.first = s.flue.first := by
  induction l generalizing s with
  | nil => rfl
  | cons x xs ih => exact (ih (f s x)).trans (hf s x)

@[simp] theorem State.report_first (s : State) (source unit detail master access : Nat) (bit : Option Nat) :
    (s.report source unit detail master access bit).flue.first = s.flue.first := by
  unfold State.report
  split <;> rfl

@[simp] theorem State.eventBy_first (s : State) (f : Field) (access : Nat) : (s.eventBy f access).flue.first = s.flue.first := by
  simp [State.eventBy]

@[simp] theorem State.event_first (s : State) (f : Field) : (s.event f).flue.first = s.flue.first := s.eventBy_first f 0

@[simp] theorem State.eventIn_first (s : State) (hs : List Hth) (f : Field) (access : Nat) :
    (s.eventIn hs f access).flue.first = s.flue.first := by
  simp [State.eventIn]

@[simp] theorem State.soot_first (s : State) (c : Nat) (p : Port) : (s.soot c p).flue.first = s.flue.first := by
  simp [State.soot]

@[simp] theorem State.countStale_first (s : State) (n : Port) : (s.countStale n).flue.first = s.flue.first := by
  simp [State.countStale]

@[simp] theorem State.hostLost_first (s : State) (n : Port) (lost : Bool) : (s.hostLost n lost).flue.first = s.flue.first := by
  simp [State.hostLost]

@[simp] theorem State.dropQueue_first (s : State) (n : Port) (p : Msg → Bool) : (s.dropQueue n p).flue.first = s.flue.first := by
  unfold State.dropQueue
  rw [State.hostLost_first, State.foldl_first _ fun t _ => t.countStale_first n, State.modMsg_flue]

@[simp] theorem State.txStop_first (s : State) (n : Port) : (s.txStop n).flue.first = s.flue.first := by
  unfold State.txStop
  rw [State.foldl_first _ fun t _ => t.countStale_first n, State.modMsg_flue, State.txAbort_flue]

@[simp] theorem State.txSilence_first (s : State) (n : Port) : (s.txSilence n).flue.first = s.flue.first := by
  simp [State.txSilence]

@[simp] theorem State.openPath_first (s : State) (n : Port) : (s.openPath n).flue.first = s.flue.first := by
  simp [State.openPath]

@[simp] theorem State.collapse_first (s : State) (n : Port) (reason : Nat) : (s.collapse n reason).flue.first = s.flue.first := by
  unfold State.collapse
  split <;> simp

@[simp] theorem State.thatinExit_first (s : State) (n : Port) : (s.thatinExit n).flue.first = s.flue.first := by
  simp [State.thatinExit]

@[simp] theorem State.setEpr_first (s : State) (n : Port) (on : Bool) : (s.setEpr n on).flue.first = s.flue.first := by
  simp [State.setEpr]

@[simp] theorem State.contractEnd_first (s : State) (n : Port) : (s.contractEnd n).flue.first = s.flue.first := by
  simp [State.contractEnd]

@[simp] theorem State.vdmEnd_first (s : State) (n : Port) : (s.vdmEnd n).flue.first = s.flue.first := by
  simp [State.vdmEnd]

@[simp] theorem State.revsClear_first (s : State) (n : Port) (sops : List Nat) : (s.revsClear n sops).flue.first = s.flue.first := by
  simp [State.revsClear]

@[simp] theorem State.rpLevelClear_first (s : State) (n : Port) : (s.rpLevelClear n).flue.first = s.flue.first := by
  unfold State.rpLevelClear
  dsimp only
  rw [State.ite_first, State.event_first, State.set_flue, State.stop_flue, ite_self]

@[simp] theorem State.unattach_first (s : State) (n : Port) : (s.unattach n).flue.first = s.flue.first := by
  unfold State.unattach
  rw [State.stop_flue, State.stop_flue, State.rpLevelClear_first, State.set_flue, State.set_flue, State.modCc_flue]

@[simp] theorem State.errorRecovery_first (s : State) (n : Port) : (s.errorRecovery n).flue.first = s.flue.first := by
  unfold State.errorRecovery
  dsimp only
  rw [State.start_flue, State.stop_flue, State.stop_flue, State.stop_flue, State.stop_flue, State.modPol_flue, State.set_flue,
    State.set_flue, State.set_flue, State.loseAdmission_flue, State.set_flue, State.vdmEnd_first, State.revsClear_first,
    State.contractEnd_first, State.set_flue, State.ite_first, State.dschgOn_flue, ite_self, State.openPath_first, State.stageOff_flue,
    State.unattach_first, State.present_flue, State.vconnOff_flue, State.policyTimersStop_flue, State.dropQueue_first,
    State.assemblyEnd_flue, State.txSilence_first, State.advanceEpoch_flue, State.event_first, State.authDrop_flue,
    State.thatinExit_first, State.collapse_first]

@[simp] theorem State.trcFreeze_first (s : State) (h : Hth) : (s.trcFreeze h).flue.first = s.flue.first := by
  simp [State.trcFreeze]

@[simp] theorem State.traceFreeze_first (s : State) : s.traceFreeze.flue.first = s.flue.first :=
  State.foldl_first State.trcFreeze State.trcFreeze_first _ s

@[simp] theorem State.switchBegin_first (s : State) (dst cause : Nat) : (s.switchBegin dst cause).flue.first = s.flue.first := by
  simp [State.switchBegin]

@[simp] theorem State.unplannedSwitch_first (s : State) (cause : Nat) : (s.unplannedSwitch cause).flue.first = s.flue.first := by
  simp [State.unplannedSwitch]

@[simp] theorem State.switchNext_first (s : State) : s.switchNext.flue.first = s.flue.first := by
  simp [State.switchNext]

@[simp] theorem State.feedDrop_first (s : State) (f : Nat) : (s.feedDrop f).flue.first = s.flue.first := by
  simp [State.feedDrop]

/-! ### Flue's reactions leave the first-error record alone -/

/-- The entry that an Ash write makes. -/
def State.ashEntry (s : State) (r : Report) (level merges kind : Nat) : AshEntry :=
  { serial := s.flue.serial, tbase := s.tbase, source := r.source, unit := r.unit, merges := merges, master := r.master,
    level := level, access := r.access, group := sourceGroup r.source, kind := kind, detail := r.detail,
    data := s.ashData r kind }

/-- What an entry changes of Flue's own state (R378, R379). -/
theorem State.ashWrite_flue (s : State) (r : Report) (level merges kind : Nat) :
    (s.ashWrite r level merges kind).flue = { s.flue with
      ash := (s.ashEntry r level merges kind :: s.flue.ash).take 32
      serial := s.flue.serial + 1
      newest := if s.flue.ash.isEmpty then s.flue.newest else (s.flue.newest + 1) % 32
      first := if kind = 0 ∧ s.flue.first = none then some (s.ashEntry r level merges kind) else s.flue.first } := by
  unfold State.ashWrite
  extract_lets entry full was logged recorded
  have hrecorded : recorded.flue = logged.flue := by rw [State.bump_flue, State.set_flue]
  split
  · rw [State.set_flue, hrecorded]; rfl
  · rw [hrecorded]; rfl

theorem State.ashWrite_ash_head (s : State) (r : Report) (level merges kind : Nat) :
    (s.ashWrite r level merges kind).flue.ash.head? = some (s.ashEntry r level merges kind) := by
  rw [s.ashWrite_flue]; rfl

/-- The first entry of kind 0 is the record. -/
theorem State.ashWrite_first_taken (s : State) (r : Report) (level merges : Nat) (hnone : s.flue.first = none) :
    (s.ashWrite r level merges 0).flue.first = some (s.ashEntry r level merges 0) := by
  rw [s.ashWrite_flue]
  exact if_pos ⟨rfl, hnone⟩

/-- A record that is held stays, and an entry of another kind takes none. -/
theorem State.ashWrite_first_kept (s : State) (r : Report) (level merges kind : Nat)
    (hkept : s.flue.first.isSome = true ∨ kind ≠ 0) : (s.ashWrite r level merges kind).flue.first = s.flue.first := by
  rw [s.ashWrite_flue]
  refine if_neg ?_
  rintro ⟨rfl, hnone⟩
  simp [hnone] at hkept

/-- An entry of kind 1, which every change of level writes, never takes the record. -/
@[simp] theorem State.ashWrite_first_level (s : State) (r : Report) (level merges : Nat) :
    (s.ashWrite r level merges 1).flue.first = s.flue.first :=
  s.ashWrite_first_kept r level merges 1 (.inr Nat.one_ne_zero)

@[simp] theorem State.enterLevel3_first (s : State) (r : Report) : (s.enterLevel3 r).flue.first = s.flue.first := by
  unfold State.enterLevel3
  split
  · rfl
  · dsimp only
    rw [State.start_flue, State.stop_flue, State.ashWrite_first_level, State.set_flue, State.set_flue, State.flue_setEmber,
      State.traceFreeze_first, State.foldl_first]
    intro t p
    rw [State.KeepsFirst, State.presentNow_flue, State.vconnOff_flue, State.ite_first, State.dschgStart_flue, State.dschgOff_flue,
      ite_self, State.openPath_first, State.set_flue, State.stageOff_flue]

@[simp] theorem State.portSafe_first (s : State) (n : Port) : (s.portSafe n).flue.first = s.flue.first := by
  unfold State.portSafe
  dsimp only
  split
  · rw [State.advanceEpoch_flue, State.modPol_flue]
  · rw [State.modPol_flue, State.errorRecovery_first, State.collapse_first, State.modPol_flue]

@[simp] theorem State.fenceRole_first (s : State) (h : Hth) : (s.fenceRole h).flue.first = s.flue.first := by
  unfold State.fenceRole
  dsimp only
  split
  · rw [State.foldl_first _ State.portSafe_first, State.roleBump_flue, State.set_flue, State.setRole_flue]
  · rw [State.roleBump_flue, State.set_flue, State.setRole_flue]

@[simp] theorem State.hearthLossBy_first (s : State) (h : Hth) (c : LossCause) (output port access : Nat) :
    (s.hearthLossBy h c output port access).flue.first = s.flue.first := by
  unfold State.hearthLossBy
  split <;> simp

@[simp] theorem State.react_first (s : State) (a : React) (u : Nat) (rep : Report) : (s.react a u rep).flue.first = s.flue.first := by
  unfold State.react
  split <;> simp

@[simp] theorem State.recLevel2_first (s : State) (r : FlueRecord) (rep : Report) : (s.recLevel2 r rep).flue.first = s.flue.first := by
  unfold State.recLevel2
  dsimp only
  rw [State.foldl_first _ fun t u => t.react_first _ u rep, State.ite_first, State.start_flue, ite_self, State.traceTrigger_flue, State.set_flue]

/-- R379: a merge leaves the record as it was written, whatever it raises or fences. -/
theorem State.recMerge_first (s : State) (r : FlueRecord) (rep : Report) : (s.recMerge r rep).flue.first = s.flue.first := by
  unfold State.recMerge
  extract_lets m r2 was counted merged
  have hmerged : merged.flue.first = s.flue.first := by rw [State.stop_flue]
  split
  · rw [State.recLevel2_first, State.ashWrite_first_level, hmerged]
  split
  · rw [State.react_first, hmerged]
  split
  · rw [State.enterLevel3_first, hmerged]
  · exact hmerged

/-! ### The ASH registers that show the record (Table 17.9) -/

theorem mirrorInto_append (addr : Nat) (l m : List (Field × Nat)) (w : Word) :
    mirrorInto addr (l ++ m) w = mirrorInto addr m (mirrorInto addr l w) :=
  List.foldl_append

/-- Mirrored fields of other registers leave a word as it stands. -/
theorem mirrorInto_elsewhere (addr : Nat) (l : List (Field × Nat)) (w : Word) (h : ∀ p ∈ l, p.1.addr ≠ addr) :
    mirrorInto addr l w = w := by
  induction l with
  | nil => rfl
  | cons p l ih =>
    obtain ⟨hp, hl⟩ := List.forall_mem_cons.mp h
    rw [mirrorInto, List.foldl_cons, if_neg hp]
    exact ih hl

theorem bitsSet_whole (w : Word) (v : Nat) : bitsSet w 0 32 v = BitVec.ofNat 32 v := by
  apply BitVec.eq_of_toNat_eq
  rw [bitsSet_toNat w 0 32 v (by decide), BitVec.toNat_ofNat]
  have hw := w.isLt
  omega

/-- A read mask that covers a field shows it. -/
theorem bitsGet_and_of_covers (w m : Word) (lo width : Nat) (hm : bitsGet m lo width = 2 ^ width - 1) :
    bitsGet (w &&& m) lo width = bitsGet w lo width := by
  apply Nat.eq_of_testBit_eq
  intro i
  have hbit := congrArg (fun x => x.testBit i) hm
  simp only [bitsGet_testBit, Nat.testBit_two_pow_sub_one] at hbit
  simp only [bitsGet_testBit, BitVec.toNat_and, Nat.testBit_and]
  by_cases hi : i < width
  · have hcovered : m.toNat.testBit (lo + i) = true := by simpa [hi] using hbit
    rw [hcovered, Bool.and_true]
  · simp [hi]

/-- The four fields that show an entry, one for each of its registers. -/
def entryMirror (field : Nat → Field) : Option AshEntry → List (Field × Nat)
  | some e => (List.range 4).map fun k => (field k, e.reg k)
  | none => []

theorem entryMirror_addr {field : Nat → Field} {o : Option AshEntry} {p : Field × Nat} (hp : p ∈ entryMirror field o) :
    ∃ k < 4, p.1 = field k := by
  cases o with
  | none => cases hp
  | some e =>
    obtain ⟨k, hk, rfl⟩ := List.mem_map.mp hp
    exact ⟨k, List.mem_range.mp hk, rfl⟩

/-- The fields of an entry leave every other register's word as it stands. -/
theorem mirrorInto_entry_elsewhere {addr : Nat} {field : Nat → Field} (h : ∀ k < 4, (field k).addr ≠ addr) (o : Option AshEntry)
    (w : Word) : mirrorInto addr (entryMirror field o) w = w := by
  apply mirrorInto_elsewhere
  intro p hp
  obtain ⟨k, hk, hfield⟩ := entryMirror_addr hp
  rw [hfield]
  exact h k hk

theorem State.mirrorSingle_ash (s : State) (live : FlueRecord → Bool) :
    s.mirrorSingle live 4 =
      [(F.ASH_STATUS_newest, s.flue.newest), (F.ASH_STATUS_count, s.flue.ash.length),
        (F.ASH_STATUS_first_valid, bn s.flue.first.isSome)] ++
      entryMirror F.ASH_REC_entry s.flue.ash[s.get F.ASH_INDEX_age]? ++ entryMirror F.ASH_FIRST_entry s.flue.first := by
  unfold State.mirrorSingle entryMirror
  rfl

/-- A read of an ASH register: the single word with what it mirrors, under the read mask. -/
theorem State.regView_ash (s : State) {addr : Nat} {r : RegRow} (hpage : pageOf addr = 4) (hoff : addr % 256 ≠ 0)
    (hrow : regRow addr = some r) (hsingle : r.hearth = 0) :
    s.regView addr = mirrorInto addr (s.mirrorSingle s.recLive 4) (s.word addr 0) &&& BitVec.ofNat 32 r.rd := by
  have hstored : s.storedWord addr none = s.word addr 0 := by
    simp [State.storedWord, State.readCopy, hrow, hsingle, hpage, debugHearth, hearthHeldPage]
  simp [State.regView, State.shown, hpage, hoff, hrow, hstored, debugHearth]

/-- STATUS.first_valid shows whether the record is held. -/
theorem State.regView_ash_first_valid (s : State) : bitsGet (s.regView 0x0404) 0 1 = bn s.flue.first.isSome := by
  have hrec : ∀ k < 4, (F.ASH_REC_entry k).addr ≠ 0x0404 := by decide
  have hfirst : ∀ k < 4, (F.ASH_FIRST_entry k).addr ≠ 0x0404 := by decide
  rw [s.regView_ash rfl (by decide) (r := { off := 0x04, count := 1, rd := 0x1F3F0001, kept := 0x1F3F0001 }) rfl rfl,
    bitsGet_and_of_covers _ _ 0 1 (by decide), State.mirrorSingle_ash, mirrorInto_append, mirrorInto_append,
    mirrorInto_entry_elsewhere hfirst, mirrorInto_entry_elsewhere hrec]
  show bitsGet (bitsSet _ 0 1 _) 0 1 = _
  rw [bitsGet_bitsSet_same _ _ _ _ (by decide)]
  cases s.flue.first <;> rfl

theorem regRow_ash_first (k : Fin 4) :
    regRow (0x0434 + 4 * k.val) = some { off := 0x34, count := 4, rd := 0xFFFFFFFF, kept := 0xFFFFFFFF } := by
  revert k; decide

/-- A FIRST register shows what it mirrors of the record over its stored word. -/
theorem State.regView_ash_first (s : State) (k : Fin 4) :
    s.regView (0x0434 + 4 * k.val) =
      mirrorInto (0x0434 + 4 * k.val) (entryMirror F.ASH_FIRST_entry s.flue.first) (s.word (0x0434 + 4 * k.val) 0) := by
  have hstatus : ∀ p ∈ [(F.ASH_STATUS_newest, s.flue.newest), (F.ASH_STATUS_count, s.flue.ash.length),
      (F.ASH_STATUS_first_valid, bn s.flue.first.isSome)], p.1.addr ≠ 0x0434 + 4 * k.val := by
    simp only [List.forall_mem_cons, List.not_mem_nil, false_imp_iff, implies_true, and_true]
    omega
  have hrec : ∀ j < 4, (F.ASH_REC_entry j).addr ≠ 0x0434 + 4 * k.val := by
    intro j hj
    show 0x0424 + 4 * j ≠ 0x0434 + 4 * k.val
    omega
  rw [s.regView_ash (by unfold pageOf; omega) (by omega) (regRow_ash_first k) rfl, State.mirrorSingle_ash, mirrorInto_append, mirrorInto_append,
    mirrorInto_elsewhere _ _ _ hstatus, mirrorInto_entry_elsewhere hrec]
  exact BitVec.and_allOnes

theorem mirrorInto_first_some (e : AshEntry) (k : Fin 4) (w : Word) :
    mirrorInto (0x0434 + 4 * k.val) (entryMirror F.ASH_FIRST_entry (some e)) w = BitVec.ofNat 32 (e.reg k.val) := by
  match k with
  | 0 | 1 | 2 | 3 => exact bitsSet_whole w _

/-- An entry's registers are words: its merge count is the top byte of REC1. -/
theorem AshEntry.reg_lt (e : AshEntry) (k : Nat) (hmerges : e.merges < 256) : e.reg k < 2 ^ 32 := by
  have hdata := e.data.isLt
  have htbase := e.tbase.isLt
  unfold AshEntry.reg
  split <;> omega

/-- The FIRST registers show the record's registers (Table 17.6). -/
theorem State.regView_ash_first_some (s : State) {e : AshEntry} (hfirst : s.flue.first = some e) (hmerges : e.merges < 256)
    (k : Fin 4) : (s.regView (0x0434 + 4 * k.val)).toNat = e.reg k.val := by
  rw [s.regView_ash_first, hfirst, mirrorInto_first_some, BitVec.toNat_ofNat, Nat.mod_eq_of_lt (e.reg_lt k.val hmerges)]

theorem State.regView_ash_first_none (s : State) (hfirst : s.flue.first = none) (k : Fin 4) :
    s.regView (0x0434 + 4 * k.val) = s.word (0x0434 + 4 * k.val) 0 := by
  rw [s.regView_ash_first, hfirst]; rfl

/-! ### First_clear -/

@[simp] theorem State.firstClear_first (s : State) : s.firstClear.flue.first = none := rfl

@[simp] theorem State.firstClear_ash (s : State) : s.firstClear.flue.ash = s.flue.ash := rfl

@[simp] theorem State.firstClear_word (s : State) (addr copy : Nat) : s.firstClear.word addr copy = s.word addr copy := rfl

/-- What first_clear leaves: the key spent and the record gone. -/
def State.firstCleared (s : State) : State := (s.set F.ASH_KEY_key 0).firstClear

theorem exec_ashFirstClear (s : State) (hanswers : s.pageAnswers 4 = true) : exec .ashFirstClear s = .next s.firstCleared := by
  show Host.Outcome.next (s.answered _ _) = _
  rw [State.answered, if_pos hanswers, State.firstCleared]

theorem State.firstCleared_first (s : State) : s.firstCleared.flue.first = none := State.firstClear_first _

theorem State.firstCleared_ash (s : State) : s.firstCleared.flue.ash = s.flue.ash := by
  rw [State.firstCleared, State.firstClear_ash, State.set_flue]

/-- The FIRST registers are not the key's: what they store stays. -/
theorem State.firstCleared_word (s : State) (k : Fin 4) :
    s.firstCleared.word (0x0434 + 4 * k.val) 0 = s.word (0x0434 + 4 * k.val) 0 := by
  have hother : ¬(0x0434 + 4 * k.val = F.ASH_KEY_key.addr ∧ 0 ∈ s.copies F.ASH_KEY_key.home) := by
    rintro ⟨haddr, -⟩
    have hkey : F.ASH_KEY_key.addr = 0x0418 := rfl
    omega
  rw [State.firstCleared, State.firstClear_word, s.word_set F.ASH_KEY_key 0 _ 0 (by decide), if_neg hother]

/-! ### R379 -/

/-- Settles O46: the first entry of kind 0 sets the record, later entries and merges leave it, first_clear ends it. -/
theorem firstErrorRecord : Obligations.FirstErrorRecord := by
  unfold Obligations.FirstErrorRecord
  refine ⟨?taken, State.ashWrite_first_kept, State.recMerge_first, ?cleared⟩
  case taken =>
    intro s r level merges hmerges hnone
    have hfirst := s.ashWrite_first_taken r level merges hnone
    have hhead := s.ashWrite_ash_head r level merges 0
    refine ⟨hfirst.trans hhead.symm, by rw [hfirst]; rfl, by rw [State.regView_ash_first_valid, hfirst]; rfl, fun k => ?_⟩
    rw [hhead, State.regView_ash_first_some _ hfirst hmerges]; rfl
  case cleared =>
    intro s hwords _ hanswers
    refine ⟨s.firstCleared, exec_ashFirstClear s hanswers, s.firstCleared_first, ?_, fun k => ?_, s.firstCleared_ash⟩
    · rw [State.regView_ash_first_valid, s.firstCleared_first]; rfl
    · rw [State.regView_ash_first_none _ s.firstCleared_first, s.firstCleared_word, hwords k]

end Sys2Proof.Machine
end
